-- ==== Sys2Proof/Word.lean ====
section
/-! DEFINITION. The word and byte types of the register map (00, Notation) and of the byte memories. -/

namespace Sys2Proof

/-- A register word: 16 bits. -/
abbrev Word := BitVec 16

/-- A byte of a memory, a frame or a record. -/
abbrev Byte := BitVec 8

/-- Nat to register word, modulo 2^16. -/
abbrev word (n : Nat) : Word := BitVec.ofNat 16 n

/-- Nat to byte, modulo 2^8. -/
abbrev byte (n : Nat) : Byte := BitVec.ofNat 8 n

end Sys2Proof
end

