-- ==== Sys2Proof/Syntax.lean ====
section
/-! DEFINITION. The commands of the NM6448, one constructor per row of spec/opcode_table.json, with the operands that
the outside world or the passing of time supplies at the event. The table gives no operand and no bit, so the operand
lists are the model's (log entry 5). -/

namespace Sys2Proof

/-- An access path (R78, R136): the host port, a rope requester by its source address, the maintenance channel of a
loop, or an engine. -/
inductive Path where
  | host
  | rope (src : Nat)
  | loop (ch : Nat)
  | engine
deriving DecidableEq, Repr

/-- A rope port (R487). -/
inductive Port where
  | up
  | dn
deriving DecidableEq, Repr

/-- A credit requester (R43), in priority order. -/
inductive Requester where
  | nvm
  | exc
  | host
  | xmem
  | rope
deriving DecidableEq, Repr

/-- A banked table (R154). -/
inductive Bank where
  | coef
  | char
deriving DecidableEq, Repr

/-- A bivouac exit condition (R102), or the rise of the profile (R40). -/
inductive ExitCause where
  | speed
  | host
  | wake
  | profile
deriving DecidableEq, Repr

/-- What the SFDP tables of a flash give (R556): whether they hold a 4 KiB erase and its opcode, the size in bytes, page size (256 where
the table omits it), highest clock in MHz, read mode (0 for 0x03, 1 for 0x6B, 2 for 0xEB), the dummy and mode cycles of a quad
read, 4-byte addressing, and the typical and maximum times of a program and
a 4 KiB erase in µs. -/
structure Sfdp where
  erase4k : Bool
  eraseOp : Nat
  size : Nat
  page : Nat
  clockMhz : Nat
  readMode : Nat
  readDummy : Nat
  addr4 : Bool
  progTypUs : Nat
  progMaxUs : Nat
  eraseTypUs : Nat
  eraseMaxUs : Nat
deriving DecidableEq, Repr

/-- An edge of ANGI (R173, R178): its direction, the level of ANGB, and for how many core clocks the level has been stable. -/
structure AngleEdge where
  rising : Bool
  angb : Bool
  stable : Nat
deriving DecidableEq, Repr

/-- A level of ANGA, ANGB or ANGI, and for how many core clocks it has been stable (R173, R179). -/
structure AngleLevel where
  high : Bool
  stable : Nat
deriving DecidableEq, Repr

/-- A 40-bit host frame without its W bit (R119), and whether tGAP was kept before it (R122). -/
structure HostFrame where
  unit : Nat
  addr : Nat
  inc : Bool
  data : Nat
  crc : Nat
  gapOk : Bool
deriving DecidableEq, Repr

/-- The payload of a BCN frame (R508). -/
structure Beacon where
  seq : Nat
  pos : Nat
  speed : Nat
  pass : Nat
  dir : Bool
  sync : Bool
  loss : Bool
  subst : Bool
  hold : Bool
deriving DecidableEq, Repr

/-- What a slice measured over a window: the charge balanced over the integrated cycles and the residue digitised at the
end, both in nV × modulator cycles of the input after the trims are left out (R277), the amplifier's offset before chopping
in nV (R278), the voltage in nV between the reference pins or on REFIO (R237, R296), the overload cycles of R242 as the run
the window began with, the longest run and the run it ended with, whether 16 in a row fell in each half (R245), the
outputs whose compliance loss, reported earlier, persisted into the window (R244), and the slice's own check of R381. -/
structure Reading where
  charge : Int
  residue : Int
  vos : Int
  vr : Int
  overHead : Nat
  overMax : Nat
  overTail : Nat
  overFirst : Bool
  overSecond : Bool
  lossHeld : List Nat
  fault : Bool
deriving DecidableEq, Repr

/-- A frame heard by a loop's FSK receiver (R458), with the errors found in it (R460). -/
structure FskFrame where
  preambles : Nat
  delim : Nat
  addr : Nat
  master : Bool
  cmd : Nat
  data : List Byte
  parityErr : Bool
  overrunErr : Bool
  framingErr : Bool
  checkErr : Bool
  addrErr : Bool
deriving DecidableEq, Repr

/-- The payload of a HELLO frame (R490). -/
structure Hello where
  uid : Nat
  addr : Nat
  pinned : Nat
  seen : Bool
  head : Bool
  enumd : Bool
deriving DecidableEq, Repr

/-- A member's answer to a team poll (R513). -/
structure Summary where
  uid : Nat
  fault : Bool
  wclass : Nat
  health : Nat
  avloss : Nat
  units : Nat
  closure : Nat
deriving DecidableEq, Repr

/-- The commands: every operation and event of the table. -/
inductive Instr where
  /-- POR_ASSERT (R68). The AON supply stays below 1.8 V for 100 ms, so power-on reset is asserted and holds the device. -/
  | porAssert
  /-- POR_RELEASE (R68). VHN rises above 4.5 V with the VHN and VDDD monitors good, so POR is released and boot runs from phase 1. -/
  | porRelease
  /-- BOR_ASSERT (R68). VDDA or VDDD falls below its reset level, or AON dips briefly, so brown-out reset is asserted. -/
  | borAssert
  /-- BOR_RELEASE (R68). VDDA and VDDD return above their good levels, so BOR is released and boot runs. -/
  | borRelease
  /-- XRST_ASSERT (R68). XRST is held low for 1 µs or longer and holds the device in reset. -/
  | xrstAssert (widthNs : Nat)
  /-- XRST_RELEASE (R68). XRST returns high and boot runs from phase 1. -/
  | xrstRelease
  /-- WATCHDOG_EXPIRE (R68). The watchdog sees no heartbeat from the engine scheduler for 50 ms and resets the device. -/
  | watchdogExpire
  /-- SOFTWARE_RESET (R113). A write of SYS.RST with key 0xC35A causes a software reset; any other value is discarded with DENY. -/
  | softwareReset (p : Path) (key : Nat)
  /-- BOOT_OSCILLATOR (R71). Boot phase 1 starts the regulators and oscillators, releases POR, samples ALMSEL and TEST, and enables the charger. -/
  | bootOscillator (almsel test : Bool) (bands : Nat)
  /-- BOOT_HEADERS (R71). Boot phase 2 ends once the memory port has discovered the memory, the image headers have been read and the candidate slot has been chosen. -/
  | bootHeaders (answers : Bool) (sfdp : Option Sfdp)
  /-- BOOT_IMAGE_CHECK (R71). Boot phase 3 ends once the candidate image has been read and its CRC-32 and tag checked, with a fallback to the other slot where required. -/
  | bootImageCheck
  /-- BOOT_SCAN (R594). Boot phase 4 ends once the journal, log and counters have been scanned, the indexes built and the repairs and erases queued. -/
  | bootScan
  /-- BOOT_APPLY (R71). Boot phase 5 applies the image records and the journal overrides, writes the boot record and advances CNT[1] after POR or BOR. -/
  | bootApply
  /-- PROTECTION_LOCK (R78). Boot phase 6 writes the protection map into its locked store, computes its check word and sets the lock. -/
  | protectionLock
  /-- BOOT_REFERENCE_WAIT (R71). Boot phase 7 enables the reference buffer and waits for REF.STAT.READY. -/
  | bootReferenceWait
  /-- ENTER_ACTIVE (R71). Boot phase 8 switches the core to the crystal if it is stable, and starts the sequencer, engines, rope enumeration and normal host access. -/
  | enterActive (crystalStable : Bool)
  /-- PROT_MAP_CHECK (R85). Every 1 ms the check word of the locked protection map is recomputed, and a mismatch is reported. -/
  | protMapCheck
  /-- LEAVE_HARVEST (R28). The gate drive of a loop reaches its saturation mark, so the loop moves to bypass within 20 µs. -/
  | leaveHarvest (n : Nat)
  /-- LIFT_PROBE (R28). Every 100 ms a bypass loop's hold level is ramped toward 7.8 V, and the ramp records the terminal-voltage estimate. -/
  | liftProbe (n level : Nat)
  /-- BUDGET_RECOMPUTE (R29). The power arbiter recomputes the budget every 1 ms, and within 1 ms of a band, setpoint or VAUX change. -/
  | budgetRecompute (loopUa : List Nat)
  /-- LEASE_WITHDRAW_DEADLINE (R48). The 100 ms after a withdrawal notice expire, and the consumer must be at its fallback level. -/
  | leaseWithdrawDeadline (r : Requester)
  /-- LEASE_LEVEL_REACHED (R48). A withdrawn consumer reaches its fallback level, so its cover is released and the lease returns to WAIT. -/
  | leaseLevelReached (r : Requester)
  /-- LEASE_REQUEST (R47). A consumer requests a lease, which is granted from the guaranteed budget and any opportunistic part with cover. -/
  | leaseRequest (r : Requester) (power : Nat)
  /-- DISCHARGE_CONVERTER_ON (R30). VHN falls below 5.9 V, and the discharge converter from ESTO is turned on to hold the node. -/
  | dischargeConverterOn
  /-- SHED_STEP (R32). Every 20 µs while the surplus exceeds the shunt, the highest-current harvesting loop is shed to bypass. -/
  | shedStep (surplusUa : Nat)
  /-- SHUNT_FAIL_DETECT (R32). The external shunt drive stays at its ceiling with VHN above 6.3 V for 100 µs, so SHFAIL is set and shedding starts. -/
  | shuntFailDetect
  /-- SHED_RETURN (R32). After the surplus has stayed 5 mA below capacity for 100 ms, one shed loop is returned to harvest. -/
  | shedReturn
  /-- STORE_MEASUREMENT (R35). Every 62.5 µs VESTO is measured, S is updated and the waiting credit requests are re-evaluated. -/
  | storeMeasurement (mv : Nat)
  /-- POWER_FAIL (R42). With zero income and S at 200 credits, PFAIL is set, the page program finishes, the power-fail record is written and the blocks are turned off. -/
  | powerFail
  /-- BURST_REQUEST (R44). A requester asks for burst credits, which are granted, left waiting or DENIED at once. -/
  | burstRequest (r : Requester) (credits : Nat)
  /-- XMEM_CREDIT_TIMEOUT (R43). An external-memory burst not granted within 100 ms is DENIED to the transfer engine. -/
  | xmemCreditTimeout
  /-- VAUX_PRESENT (R37). VAUX has stayed above 7.6 V for 10 ms with VAUXEN set, so it is declared present. -/
  | vauxPresent
  /-- VAUX_ABSENT (R37). VAUX falls below 7.2 V and is declared absent within 50 µs. -/
  | vauxAbsent
  /-- PROFILE_CHANGE (R40). The power profile changes, down within 1 ms or up after the count has held for 1 s, and the energy test is run. -/
  | profileChange
  /-- HOSTP_WRITE (R50). A write of PWR.HOSTP requests, changes or ends the host lease and switches VHST. -/
  | hostpWrite (p : Path) (v : Nat)
  /-- HOST_OVERDRAW (R50). The host has drawn more than 110 % of PWR.HOSTG for 10 ms, so HWDR is set and HIRQ is driven as for a withdrawal. -/
  | hostOverdraw (hosti : Nat)
  /-- HOST_SUPPLY_CUT (R50). The host still overdraws 100 ms after the notice, so VHST is turned off for 1 s. -/
  | hostSupplyCut (hosti : Nat)
  /-- HOST_SUPPLY_RESTORE (R50). At the end of a 1 s cut, the host lease is requested again with the present PWR.HOSTP. -/
  | hostSupplyRestore
  /-- VDDA_WARN (R93). VDDA falls below 2.90 V, so flash starts are blocked, excitation is cleared, windows are marked SUPD and a dip record is queued. -/
  | vddaWarn (mv : Nat)
  /-- DIP_RECOVERY_CONFIRM (R94). VDDA has stayed above 2.95 V for 100 µs, so WARN clears, the flash queue is released and the dip record is written. -/
  | dipRecoveryConfirm
  /-- SET_REDREQ (R96). The host sets SYS.MODE.REDREQ, which adds cause REDHOST and enters REDUCED. -/
  | setRedreq (p : Path)
  /-- CLEAR_REDREQ (R96). The host clears SYS.MODE.REDREQ, which removes cause REDHOST. -/
  | clearRedreq (p : Path)
  /-- SET_BIVREQ (R99). SYS.MODE.BIVREQ is set by the host or a rope requester, and the unit enters bivouac for HOST. -/
  | setBivreq (p : Path)
  /-- CLEAR_BIVREQ (R102). The host clears SYS.MODE.BIVREQ, and the unit leaves bivouac unless its cause is BUDGET. -/
  | clearBivreq (p : Path)
  /-- BIVOUAC_STANDSTILL (R99). ANG.SPEED has stayed below ANG.BIVSPD for ANG.BIVTMO, and the unit enters bivouac for SPEED. -/
  | bivouacStandstill
  /-- BIVOUAC_EXIT (R103). An exit condition is met, so the core clock is raised and the slices and reference are powered again. -/
  | bivouacExit (c : ExitCause)
  /-- BIVOUAC_RESUME (R103). At READY, or at once if the buffer was off, the engines resume and the leases are requested again. -/
  | bivouacResume
  /-- XCLR_ASSERT (R259). XCLR low for 200 ns or longer sends every output to its clear state and ENGINE loops to their clear current. -/
  | xclrAssert (widthNs : Nat)
  /-- XCLR_RELEASE (R259). XCLR rises, and each output leaves its clear state at the next window boundary that uses it. -/
  | xclrRelease
  /-- HOST_READ_FRAME (R119). A 40-bit read frame is received and executed locally or remotely, and its answer is carried in the next frame. -/
  | hostReadFrame (f : HostFrame)
  /-- HOST_WRITE_FRAME (R119). A 40-bit write frame is received and executed locally, remotely or as a broadcast. -/
  | hostWriteFrame (f : HostFrame)
  /-- HOST_NOP_FRAME (R123). A NOP frame executes nothing and collects the pending or final answer of a remote access. -/
  | hostNopFrame (crc : Nat) (gapOk : Bool)
  /-- HOST_FRAME_ABORT (R118). HCS rises after an incomplete frame, which is discarded, and the next answer carries CRCERR. -/
  | hostFrameAbort (edges : Nat)
  /-- REMOTE_ACCESS_TIMEOUT (R131). No remote answer within 5 ms, so the access completes with UNITERR. -/
  | remoteAccessTimeout
  /-- REGISTER_WRITE (R9). A write to a register that has no behaviour of its own updates its fields under their access codes. -/
  | registerWrite (p : Path) (a v : Nat)
  /-- READ_CLEAR (R9). A read of an RC field returns its value and clears it in the same access. -/
  | readClear (p : Path) (a : Nat)
  /-- WINDOW_SPACE_WRITE (R142). A write of WIN[n].SPACE opens, closes or takes over a table window and resets CUR and OFS. -/
  | windowSpaceWrite (p : Path) (n v : Nat)
  /-- WINDOW_DATA_ACCESS (R144). An access to WIN[n].DATA reads or writes the table word and advances the window. -/
  | windowDataAccess (p : Path) (n : Nat) (w : Option Nat)
  /-- WINDOW_IDLE_CLOSE (R142). A window owned by a rope requester or a loop channel closes after 10 s without access. -/
  | windowIdleClose (n : Nat)
  /-- COMMIT (R149). STG.CTRL COMMIT runs the check list and, if it passes, arms the commit at the instant AT selects. -/
  | commit (p : Path) (at_ : Nat)
  /-- CHECK (R149). STG.CTRL CHECK runs the check list only, ending in PASSED or REJECT. -/
  | check (p : Path) (at_ : Nat)
  /-- DISCARD (R149). STG.CTRL DISCARD copies the active settings into the shadow, clears DIRTY and cancels an ARMED commit. -/
  | discard (p : Path)
  /-- CHECK_LIST_END (R150). The check list ends within 200 µs, setting ARMED, PASSED or REJECT with reason and item. -/
  | checkListEnd
  /-- COMMIT_INSTANT (R153). At the commit instant C, the shadow becomes active, and STG.COUNT, STG.APPANG and DONE are set. -/
  | commitInstant
  /-- BANK_COPY_DONE (R154). The copy of a swapped COEF or CHAR bank into its inactive bank completes within 1 ms. -/
  | bankCopyDone (b : Bank)
  /-- ANGLE_ADVANCE (R184). Between reference events, ANG.POS advances by interpolation each core clock, up to the clamp. -/
  | angleAdvance (clocks : Nat)
  /-- INDEX_EDGE (R175). An accepted ANGI edge in INDEX mode sets ANG.POS to ANG.ZERO, or is rejected as implausible. -/
  | indexEdge (e : AngleEdge)
  /-- TOOTH_EDGE (R176). A tooth edge in TOOTH mode advances the angle, detects the gap and checks the tooth count. -/
  | toothEdge (e : AngleEdge)
  /-- QUAD_COUNT (R179). A change of ANGA or ANGB is one quadrature count in the direction given, or an illegal transition. -/
  | quadCount (a b i : AngleLevel)
  /-- MAINS_CROSSING (R182). A rising mains crossing on ANGI is accepted, filtered or taken as a resynchronisation candidate. -/
  | mainsCrossing
  /-- ANGLE_LOSS (R194). No accepted reference event within ANG.TMO, so loss is declared with hold or substitution. -/
  | angleLoss
  /-- SPEED_STOP (R171). The decaying reported speed falls below 0.1 rpm, so ANG.SPEED reads 0 and STOP is set. -/
  | speedStop
  /-- BEACON_LOSS (R199). No beacon within 1.024 ms, so BCNLOSS is declared and the source falls back. -/
  | beaconLoss
  /-- BEACON_SEND (R508). The head sends a BCN frame at each multiple of 256 µs. -/
  | beaconSend
  /-- BEACON_RECEIVE (R509). A valid BCN frame arrives on UP and is scheduled for application and forwarding. -/
  | beaconReceive (b : Beacon) (crcOk : Bool)
  /-- BEACON_APPLY (R509). RES core clocks after the beacon's flag, the beacon is forwarded on DN and applied to the angle base. -/
  | beaconApply
  /-- TIME_TRIGGER (R321). A TIME entry's period expires and the entry fires. -/
  | timeTrigger (e : Nat)
  /-- AFTER_TRIGGER (R322). DELAY after its predecessor's result, an AFTER entry fires. -/
  | afterTrigger (e : Nat)
  /-- WINDOW_SETUP (R276). A window starts setup: it loads trims, switches the crosspoint and requests excitation credit. -/
  | windowSetup (n : Nat)
  /-- SETTLE_END (R276). The settle phase of a changed window ends and integration begins. -/
  | settleEnd (n : Nat)
  /-- TIME_WINDOW_END (R279). A time window has integrated its N cycles, so integration ends. -/
  | timeWindowEnd (n : Nat)
  /-- WINDOW_LIMIT (R282). An angle window reaches 2.048 s of integration and ends with VALID = 0. -/
  | windowLimit (n : Nat)
  /-- HALF_WINDOW_EXCHANGE (R240). At the first chop boundary after half the window, swapped excitation connections are exchanged. -/
  | halfWindowExchange (n : Nat)
  /-- RESULT_WRITE (R285). The end phase writes the result and status, posts engine notices and frame-queue items, and starts pending work. -/
  | resultWrite (n : Nat) (m : Reading) (partner : Option Reading)
  /-- COMPLIANCE_LOSS (R266). A connected excitation output loses compliance, which sets CMPL and marks the windows. -/
  | complianceLoss (n : Nat)
  /-- EXC_OVERCURRENT (R267). An output exceeds its 16 mA hard limit and is disconnected, with OFLT set and a report made. -/
  | excOvercurrent (n : Nat)
  /-- EXC_APPLICATION_POINT (R263). The staged change of an output is applied when no window using it is in progress, or at the fallback boundary. -/
  | excApplicationPoint (n : Nat)
  /-- EXC_RECONNECT (R265). After a mode or range change, the driver reconnects within 20 µs. -/
  | excReconnect (n : Nat)
  /-- SLICE_FORCE (R292). A write of SLC[n].FORCE starts a direct conversion, or is dropped or refused. -/
  | sliceForce (p : Path) (n v : Nat)
  /-- SLICE_DIRECT_WRITE (R291). A write of SLC.DIRECT takes slices into direct mode or releases them, or is refused. -/
  | sliceDirectWrite (p : Path) (v : Nat)
  /-- URGENT_REQUEST (R337). A write of SEQ.URG queues an urgent conversion, or sets UOVF when the queue is full. -/
  | urgentRequest (p : Path) (v : Nat)
  /-- URGENT_START (R338). The head urgent request starts setup once its slice is free of scheduled and swing-lead work. -/
  | urgentStart
  /-- SEQUENCER_START (R324). SEQ.CTRL.RUN is set from 0 to 1, so every enabled entry is enabled afresh. -/
  | sequencerStart (p : Path)
  /-- SEQUENCER_STOP (R324). SEQ.CTRL.RUN is cleared: windows complete, pending occurrences are dropped and the timers stop. -/
  | sequencerStop (p : Path)
  /-- CLRCNT (R335). SEQ.CTRL.CLRCNT clears SEQ.DUE, SEQ.MISS and SEQ.JITMAX in one core clock. -/
  | clrcnt (p : Path)
  /-- TOPO_SCRUB (R317). The enabled topo entries are scrubbed, a full sweep at least every 10 ms. -/
  | topoScrub (e : Nat)
  /-- REF_READY (R294). The reference buffer settles and READY is set. -/
  | refReady
  /-- REF_MONITOR (R297). Every 1 ms the buffered reference is compared with the secondary reference, and three failures set MONERR. -/
  | refMonitor (diffPpm : Nat)
  /-- REFIO_RANGE_ERROR (R296). With IOMODE = IN, REFIO leaves 2.400 V to 2.600 V, so EXTERR is set and reported. -/
  | refioRangeError
  /-- CAL_PERIOD_EXPIRE (R365). CAL.PERIOD.SEC has passed since a slice's last calibration, and the slice becomes due. -/
  | calPeriodExpire (n : Nat)
  /-- SWING_LEAD_BEGIN (R366). When no blocking condition holds, the longest-due slice's swing lead begins with SWCAL. -/
  | swingLeadBegin
  /-- CALIBRATION_COMPLETE (R364). Both calibration passes end; the codes are swapped on agreement, or a retry or retirement follows. Each pass brings, for every gain code, the results of its offset and of its gain measurement (R363). -/
  | calibrationComplete (passA passB : List (Int × Int))
  /-- COEF_SCRUB (R359). The active COEF entries are scrubbed every 100 ms, and a failing entry falls back. -/
  | coefScrub (i : Nat)
  /-- SAVE (R387). CAL.CTRL SAVE journals every active COEF entry that differs from its journal copy. -/
  | save (p : Path)
  /-- SYSZERO (R382). CAL.CTRL SYSZERO measures a route's zero point and computes its offset code. -/
  | syszero (p : Path) (route slice : Nat)
  /-- SYSFULL (R382). CAL.CTRL SYSFULL measures a route's full-scale point and computes its gain code. -/
  | sysfull (p : Path) (route slice : Nat)
  /-- SYSCAL_POINT_DONE (R384). A system-calibration point completes and its code is written, or it fails. Each of its two groups brings 16 results, with whether all 32 read VALID = 1 (R383). -/
  | syscalPointDone (group1 group2 : List Int) (valid : Bool)
  /-- NOW (R365). CAL.CTRL NOW makes the named slice due for calibration. -/
  | now (p : Path) (slice : Nat)
  /-- RETEST (R379). CAL.CTRL RETEST runs COVER and BACK for a retired slice. -/
  | retest (p : Path) (slice : Nat)
  /-- RELOAD (R388). CAL.CTRL RELOAD copies the journal copies into the inactive COEF bank. -/
  | reload (p : Path)
  /-- FACTORY (R388). CAL.CTRL FACTORY copies the factory codes into the inactive slice entries. -/
  | factory (p : Path)
  /-- ENGINE_CYCLE_START (R398). An engine starts a cycle on a notice or after 10 ms, consumes its notices and latches its sources. -/
  | engineCycleStart (n : Nat)
  /-- ENGINE_CYCLE_END (R400). The cycle ends: both datapaths are compared and the setpoint, alarm request and state entry are delivered. A fault that has struck datapath B brings the DAC code it leaves, and whether its states differ. -/
  | engineCycleEnd (n : Nat) (upset : Option Nat) (differ : Bool)
  /-- TWIN_STORAGE_CHECK (R431). Every 100 ms the stored programs and states are compared with their complemented twins. -/
  | twinStorageCheck (n : Nat)
  /-- CHAR_SCRUB (R426). The active CHAR tables are scrubbed every 100 ms, and a failing table falls back. -/
  | charScrub (t : Nat)
  /-- FVTMO_EXPIRE (R445). An ENGINE loop has had no first valid value for LOOP[n].FVTMO, so it goes to alarm. -/
  | fvtmoExpire (n : Nat)
  /-- LOOP_FIXED_WRITE (R446). A write of LOOP[n].FIXED sets the fixed current, or is refused without FORCE or in range. -/
  | loopFixedWrite (p : Path) (n v : Nat)
  /-- READBACK_WINDOW_END (R449). Each 10 ms readback window writes RBACK, judges deviation and may set RBF. -/
  | readbackWindowEnd (n rback mean : Nat)
  /-- LOWV_DETECT (R451). The pass drive saturates below the commanded current, so LOWV and EVT are set. -/
  | lowvDetect (n : Nat)
  /-- LOWV_CLEAR (R451). Regulation has held for 100 ms, so LOWV clears. -/
  | lowvClear (n : Nat)
  /-- LVTMO_EXPIRE (R452). LOWV has lasted LVTMO, so LVALM is set; or a retry has seen no LOWV for LVTMO, so LVALM clears. -/
  | lvtmoExpire (n : Nat)
  /-- LVALM_RETRY (R454). Every 10 s, a LOW-direction LVALM is retried by releasing row 5. -/
  | lvalmRetry (n : Nat)
  /-- FSK_FRAME_RECEIVE (R458). A complete FSK frame for this loop is queued, answered Busy or answered with a communication error. -/
  | fskFrameReceive (n : Nat) (f : FskFrame)
  /-- FSK_FRAME_ABORT (R458). A gap of more than one character time aborts the frame being received. -/
  | fskFrameAbort (n : Nat)
  /-- MESSAGE_POST (R463). The host writes POSTED to a slot, and the response starts within 1 ms. -/
  | messagePost (p : Path) (n slot : Nat)
  /-- MESSAGE_DROP (R463). The host writes FREE to a RECEIVED slot, which drops the message. -/
  | messageDrop (p : Path) (n slot : Nat)
  /-- RESPONSE_SENT (R463). The response's check byte has been sent, so the slot returns to FREE. -/
  | responseSent (n : Nat)
  /-- MESSAGE_EXPIRE (R464). A message is still RECEIVED after 20 character times, so it is answered Busy and freed. -/
  | messageExpire (n slot : Nat)
  /-- BURST_FRAME_SEND (R465). A burst entry's period expires, and a BACK frame is built and sent. -/
  | burstFrameSend (n e : Nat)
  /-- READ_WORDS (R468). Maintenance command 248, in a frame to this loop, reads consecutive registers on the loop-maintenance path. -/
  | readWords (n : Nat) (long master : Bool) (req : List Byte)
  /-- WRITE_WORDS (R468). Maintenance command 249, in a frame to this loop, writes consecutive registers on the loop-maintenance path. -/
  | writeWords (n : Nat) (long master : Bool) (req : List Byte)
  /-- LINK_LOSS (R490). A port sees no line transition for 20 µs, goes DOWN and reports link loss. -/
  | linkLoss (port : Port)
  /-- HELLO_SEND (R490). A port in DOWN or SIGNAL sends a HELLO frame every 250 µs. -/
  | helloSend (port : Port)
  /-- HELLO_RECEIVE (R490). A valid HELLO is received, which sets SEEN or brings the port UP. -/
  | helloReceive (port : Port) (h : Hello)
  /-- LINK_RESET_END (R493). After 100 µs held DOWN, the port handshakes again. -/
  | linkResetEnd (port : Port)
  /-- FRAME_RECEIVE (R493). A rope frame is received, checked and routed, consumed or discarded. -/
  | frameReceive (port : Port) (bytes : List Byte) (violation : Bool)
  /-- FRAME_TRANSMIT_START (R496). A port starts the highest-priority waiting frame for which credit is held. -/
  | frameTransmitStart (port : Port)
  /-- CREDIT (R497). A CREDIT frame returns freed units, or synchronises SENT counts. -/
  | credit (port : Port) (cvc ccnt : Nat) (sync : List Nat)
  /-- CREDIT_RETURN_TIMEOUT (R497). A credit change has waited 2 µs, so a CREDIT frame is sent. -/
  | creditReturnTimeout (port : Port)
  /-- CREDIT_SYNC (R497). Every 1 ms each port sends a CREDIT sync frame. -/
  | creditSync (port : Port)
  /-- RD (R495). A register read frame is executed on the ROPE-REMOTE path and answered with RSP. -/
  | rd (src dst tag addr : Nat)
  /-- WR (R495). A register write frame is executed, or fanned out by a team leader, and answered with RSP. -/
  | wr (src dst tag addr data : Nat)
  /-- RSP (R130). An answer frame completes the pending remote access. -/
  | rsp (src tag status data : Nat)
  /-- TEAM_WRITE_TIMEOUT (R515). ROPE.VTMO expires before every member answers a team write. -/
  | teamWriteTimeout
  /-- HEAD_TAKEOVER (R502). An AUTO unit whose UP port is not UP within 100 ms of ACTIVE becomes head. -/
  | headTakeover
  /-- QUERY (R502). ENUM QUERY makes the proxy read its DN neighbour's HELLO. -/
  | query (src : Nat)
  /-- REPORT (R502). ENUM REPORT gives the head the neighbour's UID and addresses. -/
  | report (uid present pinned : Nat)
  /-- ASSIGN (R503). ENUM ASSIGN gives the neighbour its address, hop and delay if the UID matches. -/
  | assign (src addr hop delay uid : Nat)
  /-- DONE (R502). ENUM DONE reports the new unit's DN link state. -/
  | done (src dnState : Nat)
  /-- FINISH (R502). ENUM FINISH sets ENUMD and triggers team registrations. -/
  | finish
  /-- REATTACH (R506). ENUM REATTACH makes the head enumerate again from this unit as proxy. -/
  | reattach (src : Nat)
  /-- DLY_PROBE (R504). A new unit sends a hop-delay probe, eight of them 10 µs apart. -/
  | dlyProbe
  /-- DLY_ECHO (R504). RES core clocks after a probe, the neighbour sends its echo. -/
  | dlyEcho
  /-- DLY_ECHO_RECEIVE (R504). An echo is timed; after eight, the link delay and the cumulative delay are set. -/
  | dlyEchoReceive (rt : Nat)
  /-- RST (R511). An RST frame with the key is answered, and then causes a rope reset. -/
  | rst (src dst key tag : Nat)
  /-- WAKE (R511). A WAKE frame is answered, and the unit leaves bivouac unless its cause is BUDGET. -/
  | wake (src dst tag : Nat)
  /-- EVT (R613). The head enters a received event notice in its own log as a remote record. -/
  | evt (src : Nat) (bytes : List Byte)
  /-- DEFINE (R512). A DEFINE in a team header checks, registers, cycle-checks and joins a team: `granted` is the head's answer and `answers` are the members', in order, a unit's UID, a team's UNITS and CLOSURE, or none. -/
  | define (p : Path) (slot : Nat) (granted : Bool) (answers : List (Option (Nat × Nat)))
  /-- DELETE (R512). A DELETE deregisters a team and sends LEAVE to its members. -/
  | delete (p : Path) (slot : Nat)
  /-- TEAM_REGISTER (R512). The head grants or refuses a team id claim, and DNMASK is updated. -/
  | teamRegister (id leader uid : Nat)
  /-- DEREGISTER (R512). The head releases a team id, and DNMASK is updated. -/
  | deregister (id leader : Nat)
  /-- EXPAND (R512). A member team's leader answers with its UNITS and CLOSURE masks. -/
  | expand (src team : Nat)
  /-- JOIN (R512). A unit member answers a JOIN with its UID and increments MEMB. -/
  | join (src team : Nat)
  /-- LEAVE (R512). A unit member leaves a team and decrements MEMB. -/
  | leave (src team : Nat)
  /-- TEAM_POLL (R513). Every 100 ms a leader polls each member. -/
  | teamPoll (slot : Nat)
  /-- SUMMARY (R513). A poll answer updates the member entry, the aggregate and the closure. -/
  | summary (slot entry : Nat) (m : Summary)
  /-- TEAM_MEMBER_TIMEOUT (R513). A member does not answer a JOIN or POLL within ROPE.VTMO and becomes LOST. -/
  | teamMemberTimeout (slot entry : Nat)
  /-- TEAM_COMMIT (R516). ROPE.CMT COMMIT to a team makes the leader send PREPARE for crossing X, or abort at once. -/
  | teamCommit (p : Path) (team ang4 : Nat)
  /-- CANCEL (R516). ROPE.CMT CANCEL aborts a team commit before COMMIT is sent. -/
  | cancel (p : Path) (team : Nat)
  /-- PREPARE (R518). A unit runs its check list and votes YES or NO. -/
  | prepare (src team seq a pass vtmo : Nat)
  /-- VOTE (R519). A vote reaches the leader, which sends COMMIT or ABORT once all votes are in. -/
  | vote (src team seq : Nat) (yes : Bool) (reason : Nat)
  /-- VOTE_TIMEOUT (R519). ROPE.VTMO expires from PREPARE with votes missing, so the leader aborts. -/
  | voteTimeout (slot : Nat)
  /-- COMMIT_RESEND (R519). Every 500 µs the leader resends COMMIT to units that have not acknowledged it. -/
  | commitResend (slot : Nat)
  /-- TEAM_OUTCOME (R522). ROPE.VTMO after the first COMMIT, the leader sets APPLIED or PARTIAL. -/
  | teamOutcome (slot : Nat)
  /-- TEAM_COMMIT_RECEIVE (R520). A unit receives COMMIT: it arms for X, or applies at once if X was missed, and sends CACK. -/
  | teamCommitReceive (src team seq : Nat)
  /-- ABORT (R520). A unit leaves PREPARED on ABORT and keeps its staged settings. -/
  | abort (src team seq : Nat)
  /-- CACK (R519). A commit acknowledgement reaches the leader. -/
  | cack (src team seq : Nat) (late : Bool)
  /-- PREPARE_TIMEOUT (R521). Tp expires while the unit is PREPARED, so the prepared state is discarded with TIMEOUT. -/
  | prepareTimeout
  /-- DATA (R552). The head reassembles stream segments per source into its stream ring. -/
  | data (src : Nat) (bytes : List Byte)
  /-- FRAME_ITEM_TAKE (R540). The frame builder takes a frame-queue item into the open frame. -/
  | frameItemTake
  /-- FRAME_AGE_CLOSE (R540). A frame open for 1 s is closed. -/
  | frameAgeClose
  /-- ARM (R546). XFER.CAP ARM arms a triggered capture. -/
  | arm (p : Path)
  /-- TRIGGER (R546). XFER.CAP TRIGGER triggers an ARMED capture. -/
  | trigger (p : Path)
  /-- STOP (R548). XFER.CAP STOP returns the capture to IDLE after any delivery. -/
  | stop (p : Path)
  /-- XFER_CTRL_WRITE (R571). A write of XFER.CTRL sets the destinations, or is refused without XMCAP. -/
  | xferCtrlWrite (p : Path) (v : Nat)
  /-- XMEM_OP_START (R557). The transfer engine starts a memory program, erase or write once its burst is granted. -/
  | xmemOpStart
  /-- XMEM_OP_COMPLETE (R560). A memory operation ends, and the frame is delivered or the sector erased. -/
  | xmemOpComplete
  /-- XMEM_CONTINUATION (R557). A flash operation is still busy at its allowed time, so a continuation burst is requested. -/
  | xmemContinuation
  /-- XMEM_TIMEOUT (R558). A memory operation is still busy at its maximum time, so TMO and XERR are set. -/
  | xmemTimeout
  /-- PULL_READ (R553). A read of XFER.PULL returns the next word of the host's frame, or mailbox data. -/
  | pullRead (p : Path)
  /-- READ (R561). Mailbox READ reads external memory. -/
  | read (p : Path) (addr n : Nat)
  /-- WRITE (R561). Mailbox WRITE programs external memory. -/
  | write (p : Path) (addr : Nat) (words : List Nat)
  /-- ERASE_SECTOR (R561). Mailbox ERASE erases a 4 KiB sector of external memory. -/
  | eraseSector (p : Path) (addr : Nat)
  /-- FLASH_OP_START (R582). The next flash-queue operation starts once its credits are granted and no dip holds. -/
  | flashOpStart
  /-- FLASH_OP_COMPLETE (R581). A program or erase ends and is read back; the job continues, repairs or compacts. -/
  | flashOpComplete (ok : Bool)
  /-- NVM_ADDR_WRITE (R599). A write of NVM.ADDR sets the address and resets the buffer index. -/
  | nvmAddrWrite (p : Path) (v : Nat)
  /-- NVM_DATA_ACCESS (R599). An access to NVM.DATA moves buffer or store words and advances. -/
  | nvmDataAccess (p : Path) (w : Option Nat)
  /-- NVM_KEY_WRITE (R606). A write of NVM.KEY enables the next keyed command of this path. -/
  | nvmKeyWrite (p : Path) (v : Nat)
  /-- PROG (R600). NVM PROG page-programs the buffer in factory test mode. -/
  | prog (p : Path)
  /-- ERASE (R600). NVM ERASE erases a sector in factory test mode. -/
  | erase (p : Path)
  /-- JREAD (R600). NVM JREAD copies an item's winner into the buffer. -/
  | jread (p : Path)
  /-- JWRITE (R590). NVM JWRITE saves the buffer as a journal item in both chains. -/
  | jwrite (p : Path) (len : Nat)
  /-- LSAVE (R600). NVM LSAVE saves a loop's identity and range items. -/
  | lsave (p : Path) (arg : Nat)
  /-- CINC (R600). NVM CINC increments a user counter. -/
  | cinc (p : Path) (arg : Nat)
  /-- OPERATING_TIME_TICK (R598). Each 225 s of time out of reset advances CNT[0]. -/
  | operatingTimeTick
  /-- BUCKET_REFILL (R620). A group's token bucket gains a token, and a SUPPRESSED record is made if its count is not 0. -/
  | bucketRefill (g : Nat)
  /-- LOG_SEQ_READ (R621). A read of LOG.SEQ returns the newest SEQ and sets the path's base. -/
  | logSeqRead (p : Path)
  /-- LOG_WIN_LATCH (R623). A read of LOG.WIN word 0 latches the selected record into the path's snapshot. -/
  | logWinLatch (p : Path)
  /-- LOG_CHAL_READ (R625). A read of the low word of LOG.CHAL issues a new challenge. -/
  | logChalRead (p : Path)
  /-- CHALLENGE_EXPIRE (R625). A challenge expires 60 s after issue. -/
  | challengeExpire
  /-- LOG_CLR_SUBMIT (R627). Writing the highest word of LOG.CLR submits the token: the clearing runs, or the attempt fails. -/
  | logClrSubmit (p : Path) (token : Nat)
  /-- CLEAR_LOCKOUT_END (R627). The 10-minute clearing lockout ends. -/
  | clearLockoutEnd
  /-- BELAY_REPORT (R641). The collector accepts a source report, latches it, drives FLTH and FLTL and counts and records it. -/
  | belayReport (src param p2 p3 : Nat)
  /-- COLLECTOR_IDLE (R641). The collector's 160 core-clock busy time ends. -/
  | collectorIdle
  /-- WIRE_FAULT (R638). A report pair reads equal for two core clocks and is reported as a wire fault. -/
  | wireFault (src : Nat) (high : Bool)
  /-- LEVEL_REPEAT (R640). A level source whose condition holds reports again after 1 ms. -/
  | levelRepeat (src : Nat)
  /-- CRYSTAL_STOP (R639). The crystal stops in service, and the core moves to the internal oscillator. -/
  | crystalStop
  /-- CLEAR (R648). FLT.CLR CLEAR clears the class C and U latches and releases the contained functions. -/
  | clear (p : Path)
  /-- CLEARALL (R647). FLT.CLR CLEARALL clears as CLEAR and zeroes the counts. -/
  | clearall (p : Path)
  /-- KICK (R649). FLT.CLR KICK on the host path restarts the keep-alive timer. -/
  | kick (p : Path)
  /-- HOST_KEEPALIVE_EXPIRE (R649). The keep-alive expires, so the fault is reported and VHST is cut for 1 s. -/
  | hostKeepaliveExpire
  /-- INJECTION_ARM (R653). A write of 0x6E19 to FLT.INJ in factory test mode arms an injection. -/
  | injectionArm (p : Path)
  /-- FAULT_INJECT (R653). The next FLT.INJ write injects a report or a wire fault. -/
  | faultInject (p : Path) (v : Nat)
  /-- THERMAL_SAMPLE (R654). Every 1 ms the die sensors are sampled and the warning, throttle and shutdown levels judged. -/
  | thermalSample (t0 t1 t2 t3 : Int)
  /-- GRACE_EXPIRE (R656). REQ is still set when THM.GRACE runs out, so REDTHERM is enforced. -/
  | graceExpire
  /-- THERMAL_RELEASE (R656). The hottest reading has been below 115 °C for 10 s, so REDTHERM is released. -/
  | thermalRelease
  /-- LINK_SIGNAL (R490). Line transitions appear on a rope port in DOWN, and the port enters SIGNAL. -/
  | linkSignal (port : Port)
  /-- VDDA_RECOVERY_RISE (R94). VDDA rises through 2.95 V during a dip, and the 100 µs recovery timer starts. -/
  | vddaRecoveryRise (minMv : Nat)
  /-- CARRIER_DETECT (R455). The FSK receiver of a loop detects or loses the carrier on LPFn, which changes FSK[n].STAT.CD and gates preamble synchronisation. -/
  | carrierDetect (n : Nat) (on : Bool)
  /-- FRAME_TRANSMIT_END (R497). A rope port finishes sending a frame, which frees the forwarded frame's buffer units, queues their credit return and marks the frame boundary. -/
  | frameTransmitEnd (port : Port)
  /-- HCS_RISE (R127). HCS rises at a frame boundary, which ends any burst and puts HSDO in high impedance. -/
  | hcsRise
  /-- PROBE_TMAX_EXPIRE (R374). TMAX passes in a PROBE with no compared pair, and the swing lead ends without a verdict. -/
  | probeTmaxExpire
  /-- MINIMUM_WINDOW_END (R281). An angle window that crossed its end angle early reaches 256 integrated cycles and ends. -/
  | minimumWindowEnd (n : Nat)
deriving DecidableEq, Repr

end Sys2Proof
end

