-- ==== Sys2Proof/Decode.lean ====
section
/-! DEFINITION. The decoder of the opcode table's words: no row of spec/opcode_table.json gives bits, so no word spells a
command there. The frames of the host port have bits of their own (R119, R123): what a frame received says. -/

namespace Sys2Proof

/-- The command that a word of the table spells: none, since no row gives bits. -/
def decodeTableWord (_nbits _w : Nat) : Option Instr := none

/-- The command that a frame of 40 bits is (R119): W in bit 39, UNIT, ADDR, INC, DATA and the CRC in bits 7:0. With command word
0x0000 and data 0xFFFF it is the NOP (R123). -/
def hostFrameCommand (bits : Nat) (gapOk : Bool) : Instr :=
  let f : HostFrame := ⟨bits / 2 ^ 34 % 32, bits / 2 ^ 25 % 512, bits.testBit 24, bits / 2 ^ 8 % 65536, bits % 256, gapOk⟩
  if bits.testBit 39 then .hostWriteFrame f
  else if bits / 2 ^ 8 % 2 ^ 32 = 0xFFFF then .hostNopFrame f.crc gapOk
  else .hostReadFrame f

/-- The 40 bits of a frame: W, UNIT, ADDR, INC, DATA and CRC (R119). -/
def frameBits (w : Bool) (f : HostFrame) : Nat :=
  (if w then 2 ^ 39 else 0) + f.unit * 2 ^ 34 + f.addr * 2 ^ 25 + (if f.inc then 2 ^ 24 else 0) + f.data * 2 ^ 8 + f.crc

end Sys2Proof
end

