-- ==== Sys2Proof/Config.lean ====
section
/-! DEFINITION. What one part fixes and the manual leaves open: free values and functions. Each is opaque, so that no
proof can see a value of it and a claim holds whatever it is. -/

namespace Sys2Proof.Config

/-- A fresh choice the manual leaves open (R584: how much of a cut-short write took; R682: a pulse of a width between
the two limits), drawn at the state's counter. Log entry 1. -/
opaque freeBool : Nat → Bool

/-- A fresh 64-bit value from the internal random source (R625), drawn at the state's counter. Log entry 1. -/
opaque freeBits : Nat → BitVec 64

/-- The value of a result that the manual does not state: the mean of a window that ended before its first integrated
cycle (R277, R283), or a conversion against an external reference at or below 0 V on REFIO (R296). It is a function of the
integrated cycles, the charge and the reference, and every use limits it to 24 bits. Log entry 52. -/
opaque meanless : Nat → Int → Int → Int

/-- The gain trim code that a self-calibration finds where the divider's result is 0, for which R352 gives none; of the
gain code, and limited to a trim code by its use. Log entry 53. -/
opaque gainFound : Nat → Int

end Sys2Proof.Config
end

