-- ==== Sys2Proof/Machine/Sparse.lean ====
section
/-! DEFINITION. Sparse memories: lists of (address, value) pairs in one canonical form, addresses strictly rising and
no entry equal to what an unlisted address reads as. Registers, word tables and byte memories are all held so. -/

namespace Sys2Proof.Machine

variable {α : Type}

/-- The first value listed at a key. -/
def lookupAt : List (Nat × α) → Nat → Option α
  | [], _ => none
  | (k, v) :: m, j => if k = j then some v else lookupAt m j

/-- List a value at a key, in rising order of keys. -/
def insertAt : List (Nat × α) → Nat → α → List (Nat × α)
  | [], j, v => [(j, v)]
  | (k, w) :: m, j, v =>
    if j < k then (j, v) :: (k, w) :: m
    else if k = j then (j, v) :: m
    else (k, w) :: insertAt m j v

/-- Remove what is listed at a key. -/
def eraseAt : List (Nat × α) → Nat → List (Nat × α)
  | [], _ => []
  | (k, w) :: m, j => if k = j then eraseAt m j else (k, w) :: eraseAt m j

/-- The value read at a key: the listed one, else the default of that key. -/
def readAt (d : Nat → α) (m : List (Nat × α)) (j : Nat) : α := (lookupAt m j).getD (d j)

/-- Write a value at a key, keeping the canonical form. -/
def writeAt [DecidableEq α] (d : Nat → α) (m : List (Nat × α)) (j : Nat) (v : α) : List (Nat × α) :=
  if v = d j then eraseAt m j else insertAt m j v

/-- Keys strictly rising, every key above the bound. -/
def risingFrom : Nat → List (Nat × α) → Bool
  | _, [] => true
  | b, (k, _) :: m => decide (b ≤ k) && risingFrom (k + 1) m

/-- The canonical form: keys strictly rising and no entry equal to its default. -/
def canonical [DecidableEq α] (d : Nat → α) (m : List (Nat × α)) : Bool :=
  risingFrom 0 m && m.all (fun e => decide (e.2 ≠ d e.1))

/-- Write consecutive values from a key upward. -/
def writeRun [DecidableEq α] (d : Nat → α) (m : List (Nat × α)) (j : Nat) : List α → List (Nat × α)
  | [] => m
  | v :: vs => writeRun d (writeAt d m j v) (j + 1) vs

/-- Read n consecutive values from a key upward. -/
def readRun (d : Nat → α) (m : List (Nat × α)) (j n : Nat) : List α :=
  (List.range n).map (fun i => readAt d m (j + i))

/-- Remove every entry whose key lies in [a, a + n). -/
def eraseRange (m : List (Nat × α)) (a n : Nat) : List (Nat × α) :=
  m.filter (fun e => !(decide (a ≤ e.1) && decide (e.1 < a + n)))

end Sys2Proof.Machine
end

