-- ==== Sys2Proof/Machine/RegMap.lean ====
section
/-! DEFINITION. The register map of R167 and R168: the word address of every register, the place of every field, and
for every word its access codes (R9) and the value it reads as after reset. Written from the register tables of the
spec, one docstring per register naming the rule of its table. -/

namespace Sys2Proof.Machine

/-- A field of a register word: the word's address, its lowest bit and its width in bits. -/
structure Fld where
  addr : Nat
  lo : Nat
  width : Nat
deriving DecidableEq, Repr

/-- PWR.STAT (R52). -/
abbrev Reg.PWR_STAT : Nat := 0x020
/-- PWR.PROFILE (R53). -/
abbrev Reg.PWR_PROFILE : Nat := 0x021
/-- PWR.LOOPS (R54). -/
abbrev Reg.PWR_LOOPS : Nat := 0x022
/-- PWR.CFG (R55). -/
abbrev Reg.PWR_CFG : Nat := 0x023
/-- PWR.CAP (R56). -/
abbrev Reg.PWR_CAP : Nat := 0x024
/-- PWR.STORE (R57). -/
abbrev Reg.PWR_STORE : Nat := 0x025
/-- PWR.FREE (R58). -/
abbrev Reg.PWR_FREE : Nat := 0x026
/-- PWR.ESTOV (R59). -/
abbrev Reg.PWR_ESTOV : Nat := 0x027
/-- PWR.AVAIL (R60). -/
abbrev Reg.PWR_AVAIL : Nat := 0x028
/-- PWR.GUAR (R61). -/
abbrev Reg.PWR_GUAR : Nat := 0x029
/-- PWR.LOAD (R62). -/
abbrev Reg.PWR_LOAD : Nat := 0x02A
/-- PWR.GRANT (R63). -/
abbrev Reg.PWR_GRANT : Nat := 0x02B
/-- PWR.HOSTP (R64). -/
abbrev Reg.PWR_HOSTP : Nat := 0x02C
/-- PWR.HOSTG (R65). -/
abbrev Reg.PWR_HOSTG : Nat := 0x02D
/-- PWR.HOSTI (R66). -/
abbrev Reg.PWR_HOSTI : Nat := 0x02E
/-- PWR.VT (R67). -/
abbrev Reg.PWR_VT : Nat := 0x02F
/-- SYS.ID (R104). -/
abbrev Reg.SYS_ID : Nat := 0x000
/-- SYS.UID (R105). -/
abbrev Reg.SYS_UID : Nat := 0x001
/-- SYS.BOOTST (R106). -/
abbrev Reg.SYS_BOOTST : Nat := 0x005
/-- SYS.RSTCAUSE (R107). -/
abbrev Reg.SYS_RSTCAUSE : Nat := 0x006
/-- SYS.STAT (R108). -/
abbrev Reg.SYS_STAT : Nat := 0x007
/-- SYS.IMGSEQ (R109). -/
abbrev Reg.SYS_IMGSEQ : Nat := 0x008
/-- SYS.IMGCRC (R110). -/
abbrev Reg.SYS_IMGCRC : Nat := 0x009
/-- SYS.MODE (R111). -/
abbrev Reg.SYS_MODE : Nat := 0x00B
/-- SYS.BIVCFG (R112). -/
abbrev Reg.SYS_BIVCFG : Nat := 0x00C
/-- SYS.RST (R113). -/
abbrev Reg.SYS_RST : Nat := 0x00D
/-- SYS.DIPT (R114). -/
abbrev Reg.SYS_DIPT : Nat := 0x00E
/-- SYS.DIPMIN (R115). -/
abbrev Reg.SYS_DIPMIN : Nat := 0x00F
/-- STG.CTRL (R156). -/
abbrev Reg.STG_CTRL : Nat := 0x1E0
/-- STG.STAT (R157). -/
abbrev Reg.STG_STAT : Nat := 0x1E1
/-- STG.ITEM (R158). -/
abbrev Reg.STG_ITEM : Nat := 0x1E2
/-- STG.AT (R159). -/
abbrev Reg.STG_AT : Nat := 0x1E3
/-- STG.VIEW (R160). -/
abbrev Reg.STG_VIEW : Nat := 0x1E4
/-- STG.COUNT (R161). -/
abbrev Reg.STG_COUNT : Nat := 0x1E5
/-- STG.APPANG (R162). -/
abbrev Reg.STG_APPANG : Nat := 0x1E6
/-- WIN[n].SPACE (R163). -/
abbrev Reg.WIN_SPACE (n : Nat) : Nat := 0x1F0 + 4 * n
/-- WIN[n].CUR (R164). -/
abbrev Reg.WIN_CUR (n : Nat) : Nat := 0x1F1 + 4 * n
/-- WIN[n].OFS (R165). -/
abbrev Reg.WIN_OFS (n : Nat) : Nat := 0x1F2 + 4 * n
/-- WIN[n].DATA (R166). -/
abbrev Reg.WIN_DATA (n : Nat) : Nat := 0x1F3 + 4 * n
/-- ANG.POS (R203). -/
abbrev Reg.ANG_POS : Nat := 0x060
/-- ANG.SPEED (R204). -/
abbrev Reg.ANG_SPEED : Nat := 0x061
/-- ANG.STAT (R205). -/
abbrev Reg.ANG_STAT : Nat := 0x063
/-- ANG.CFG (R206). -/
abbrev Reg.ANG_CFG : Nat := 0x064
/-- ANG.TEETH (R207). -/
abbrev Reg.ANG_TEETH : Nat := 0x065
/-- ANG.LINES (R208). -/
abbrev Reg.ANG_LINES : Nat := 0x066
/-- ANG.ZERO (R209). -/
abbrev Reg.ANG_ZERO : Nat := 0x067
/-- ANG.TMO (R210). -/
abbrev Reg.ANG_TMO : Nat := 0x068
/-- ANG.TPER (R211). -/
abbrev Reg.ANG_TPER : Nat := 0x069
/-- ANG.BIVSPD (R212). -/
abbrev Reg.ANG_BIVSPD : Nat := 0x06A
/-- ANG.BIVTMO (R213). -/
abbrev Reg.ANG_BIVTMO : Nat := 0x06B
/-- ANG.SPDMAX (R214). -/
abbrev Reg.ANG_SPDMAX : Nat := 0x06C
/-- ANG.PASS (R215). -/
abbrev Reg.ANG_PASS : Nat := 0x06D
/-- ANG.BCN (R216). -/
abbrev Reg.ANG_BCN : Nat := 0x06F
/-- ANG.HOPDLY (R217). -/
abbrev Reg.ANG_HOPDLY : Nat := 0x070
/-- EXC.STAT (R269). -/
abbrev Reg.EXC_STAT : Nat := 0x0C2
/-- EXC[n].CFG (R270). -/
abbrev Reg.EXC_CFG (n : Nat) : Nat := 0x0C8 + 6 * n
/-- EXC[n].CODE (R271). -/
abbrev Reg.EXC_CODE (n : Nat) : Nat := 0x0C9 + 6 * n
/-- EXC[n].CLR (R272). -/
abbrev Reg.EXC_CLR (n : Nat) : Nat := 0x0CA + 6 * n
/-- EXC[n].FREQ (R273). -/
abbrev Reg.EXC_FREQ (n : Nat) : Nat := 0x0CB + 6 * n
/-- EXC[n].PHASE (R274). -/
abbrev Reg.EXC_PHASE (n : Nat) : Nat := 0x0CD + 6 * n
/-- SLC[n].FORCE (R300). -/
abbrev Reg.SLC_FORCE (n : Nat) : Nat := 0x0A0 + 2 * n
/-- SLC[n].DROPCNT (R301). -/
abbrev Reg.SLC_DROPCNT (n : Nat) : Nat := 0x0A1 + 2 * n
/-- SLC.RETIRED (R302). -/
abbrev Reg.SLC_RETIRED : Nat := 0x0BA
/-- SLC.DIRECT (R303). -/
abbrev Reg.SLC_DIRECT : Nat := 0x0BB
/-- SLC.BUSY (R304). -/
abbrev Reg.SLC_BUSY : Nat := 0x0BC
/-- REF.CTRL (R305). -/
abbrev Reg.REF_CTRL : Nat := 0x0C0
/-- REF.STAT (R306). -/
abbrev Reg.REF_STAT : Nat := 0x0C1
/-- SEQ.CTRL (R343). -/
abbrev Reg.SEQ_CTRL : Nat := 0x080
/-- SEQ.STAT (R344). -/
abbrev Reg.SEQ_STAT : Nat := 0x081
/-- SEQ.DUE (R345). -/
abbrev Reg.SEQ_DUE : Nat := 0x082
/-- SEQ.MISS (R346). -/
abbrev Reg.SEQ_MISS : Nat := 0x084
/-- SEQ.URG (R347). -/
abbrev Reg.SEQ_URG : Nat := 0x086
/-- SEQ.URGSLICE (R348). -/
abbrev Reg.SEQ_URGSLICE : Nat := 0x087
/-- SEQ.JITMAX (R349). -/
abbrev Reg.SEQ_JITMAX : Nat := 0x088
/-- SEQ.DISENT (R350). -/
abbrev Reg.SEQ_DISENT : Nat := 0x089
/-- SEQ.QSTAT (R351). -/
abbrev Reg.SEQ_QSTAT : Nat := 0x08A
/-- CAL.CTRL (R390). -/
abbrev Reg.CAL_CTRL : Nat := 0x0E0
/-- CAL.STAT (R391). -/
abbrev Reg.CAL_STAT : Nat := 0x0E1
/-- CAL.TOL (R392). -/
abbrev Reg.CAL_TOL : Nat := 0x0E2
/-- CAL.OVERLAP (R393). -/
abbrev Reg.CAL_OVERLAP : Nat := 0x0E3
/-- CAL.PERIOD (R394). -/
abbrev Reg.CAL_PERIOD : Nat := 0x0E4
/-- CAL.TEMPD (R395). -/
abbrev Reg.CAL_TEMPD : Nat := 0x0E5
/-- CAL.QUALRES (R396). -/
abbrev Reg.CAL_QUALRES (n : Nat) : Nat := 0x0E6 + 2 * n
/-- CAL.QUALSPR (R396). -/
abbrev Reg.CAL_QUALSPR (n : Nat) : Nat := 0x0E7 + 2 * n
/-- VAL[n].STAT (R437). -/
abbrev Reg.VAL_STAT (n : Nat) : Nat := 0x10C + 16 * n
/-- VAL[n].CTRL (R438). -/
abbrev Reg.VAL_CTRL (n : Nat) : Nat := 0x10D + 16 * n
/-- LOOP[n].MODE (R473). -/
abbrev Reg.LOOP_MODE (n : Nat) : Nat := 0x100 + 16 * n
/-- LOOP[n].STAT (R474). -/
abbrev Reg.LOOP_STAT (n : Nat) : Nat := 0x101 + 16 * n
/-- LOOP[n].CFG (R475). -/
abbrev Reg.LOOP_CFG (n : Nat) : Nat := 0x102 + 16 * n
/-- LOOP[n].DAC (R476). -/
abbrev Reg.LOOP_DAC (n : Nat) : Nat := 0x103 + 16 * n
/-- LOOP[n].RBACK (R477). -/
abbrev Reg.LOOP_RBACK (n : Nat) : Nat := 0x104 + 16 * n
/-- LOOP[n].RBTOL (R478). -/
abbrev Reg.LOOP_RBTOL (n : Nat) : Nat := 0x105 + 16 * n
/-- LOOP[n].RBTMO (R479). -/
abbrev Reg.LOOP_RBTMO (n : Nat) : Nat := 0x106 + 16 * n
/-- LOOP[n].LVTMO (R480). -/
abbrev Reg.LOOP_LVTMO (n : Nat) : Nat := 0x107 + 16 * n
/-- LOOP[n].FVTMO (R481). -/
abbrev Reg.LOOP_FVTMO (n : Nat) : Nat := 0x108 + 16 * n
/-- LOOP[n].FIXED (R482). -/
abbrev Reg.LOOP_FIXED (n : Nat) : Nat := 0x109 + 16 * n
/-- LOOP[n].PARK (R483). -/
abbrev Reg.LOOP_PARK (n : Nat) : Nat := 0x10A + 16 * n
/-- LOOP[n].CLRC (R484). -/
abbrev Reg.LOOP_CLRC (n : Nat) : Nat := 0x10B + 16 * n
/-- FSK[n].STAT (R485). -/
abbrev Reg.FSK_STAT (n : Nat) : Nat := 0x10E + 16 * n
/-- FSK[n].CTRL (R486). -/
abbrev Reg.FSK_CTRL (n : Nat) : Nat := 0x10F + 16 * n
/-- ROPE.STAT (R527). -/
abbrev Reg.ROPE_STAT : Nat := 0x160
/-- ROPE.ADDR (R528). -/
abbrev Reg.ROPE_ADDR : Nat := 0x161
/-- ROPE.CFG (R529). -/
abbrev Reg.ROPE_CFG : Nat := 0x162
/-- ROPE.UP (R530). -/
abbrev Reg.ROPE_UP : Nat := 0x163
/-- ROPE.DN (R530). -/
abbrev Reg.ROPE_DN : Nat := 0x164
/-- ROPE.VTMO (R531). -/
abbrev Reg.ROPE_VTMO : Nat := 0x165
/-- ROPE.PTMO (R532). -/
abbrev Reg.ROPE_PTMO : Nat := 0x166
/-- ROPE.CMT (R533). -/
abbrev Reg.ROPE_CMT : Nat := 0x167
/-- ROPE.CSTAT (R534). -/
abbrev Reg.ROPE_CSTAT : Nat := 0x168
/-- ROPE.REASON (R535). -/
abbrev Reg.ROPE_REASON : Nat := 0x169
/-- ROPE.TEAMS (R536). -/
abbrev Reg.ROPE_TEAMS : Nat := 0x16A
/-- ROPE.SHARE (R537). -/
abbrev Reg.ROPE_SHARE : Nat := 0x16B
/-- ROPE.ERRCNT (R538). -/
abbrev Reg.ROPE_ERRCNT : Nat := 0x16C
/-- XMEM.STAT (R567). -/
abbrev Reg.XMEM_STAT : Nat := 0x180
/-- XMEM.CFG (R568). -/
abbrev Reg.XMEM_CFG : Nat := 0x181
/-- XMEM.SIZE (R569). -/
abbrev Reg.XMEM_SIZE : Nat := 0x182
/-- XMEM.CLK (R570). -/
abbrev Reg.XMEM_CLK : Nat := 0x184
/-- XFER.CTRL (R571). -/
abbrev Reg.XFER_CTRL : Nat := 0x190
/-- XFER.STAT (R572). -/
abbrev Reg.XFER_STAT : Nat := 0x191
/-- XFER.RING (R573). -/
abbrev Reg.XFER_RING : Nat := 0x192
/-- XFER.HEAD (R574). -/
abbrev Reg.XFER_HEAD : Nat := 0x193
/-- XFER.TAIL (R574). -/
abbrev Reg.XFER_TAIL : Nat := 0x194
/-- XFER.WPTR (R575). -/
abbrev Reg.XFER_WPTR : Nat := 0x195
/-- XFER.CAP (R576). -/
abbrev Reg.XFER_CAP : Nat := 0x197
/-- XFER.CAPST (R577). -/
abbrev Reg.XFER_CAPST : Nat := 0x198
/-- XFER.PULL (R578). -/
abbrev Reg.XFER_PULL : Nat := 0x199
/-- NVM.STAT (R602). -/
abbrev Reg.NVM_STAT : Nat := 0x1A0
/-- NVM.CTRL (R603). -/
abbrev Reg.NVM_CTRL : Nat := 0x1A1
/-- NVM.ADDR (R604). -/
abbrev Reg.NVM_ADDR : Nat := 0x1A2
/-- NVM.DATA (R605). -/
abbrev Reg.NVM_DATA : Nat := 0x1A3
/-- NVM.KEY (R606). -/
abbrev Reg.NVM_KEY : Nat := 0x1A4
/-- NVM.JSTAT (R607). -/
abbrev Reg.NVM_JSTAT : Nat := 0x1A5
/-- CNT[n] (R608). -/
abbrev Reg.CNT (n : Nat) : Nat := 0x1B0 + 2 * n
/-- LOG.STAT (R628). -/
abbrev Reg.LOG_STAT : Nat := 0x1C0
/-- LOG.MODE (R629). -/
abbrev Reg.LOG_MODE : Nat := 0x1C1
/-- LOG.SEQ (R630). -/
abbrev Reg.LOG_SEQ : Nat := 0x1C2
/-- LOG.CURSOR (R631). -/
abbrev Reg.LOG_CURSOR : Nat := 0x1C3
/-- LOG.SNAP (R632). -/
abbrev Reg.LOG_SNAP : Nat := 0x1C4
/-- LOG.CHAL (R633). -/
abbrev Reg.LOG_CHAL : Nat := 0x1C5
/-- LOG.CLR (R634). -/
abbrev Reg.LOG_CLR : Nat := 0x1C9
/-- LOG.CLRST (R635). -/
abbrev Reg.LOG_CLRST : Nat := 0x1CD
/-- LOG.WIN (R636). -/
abbrev Reg.LOG_WIN : Nat := 0x1D0
/-- FLT.FIRST (R657). -/
abbrev Reg.FLT_FIRST : Nat := 0x040
/-- FLT.LAST, with the layout of FLT.FIRST (R660). -/
abbrev Reg.FLT_LAST : Nat := 0x044
/-- FLT.STAT (R658). -/
abbrev Reg.FLT_STAT : Nat := 0x042
/-- FLT.CLR (R659). -/
abbrev Reg.FLT_CLR : Nat := 0x043
/-- FLT.CCNT (R661). -/
abbrev Reg.FLT_CCNT : Nat := 0x046
/-- FLT.UCNT (R661). -/
abbrev Reg.FLT_UCNT : Nat := 0x047
/-- FLT.ACT (R662). -/
abbrev Reg.FLT_ACT : Nat := 0x048
/-- FLT.INJ (R663). -/
abbrev Reg.FLT_INJ : Nat := 0x04C
/-- THM.T[n] (R664). -/
abbrev Reg.THM_T (n : Nat) : Nat := 0x030 + n
/-- THM.STAT (R665). -/
abbrev Reg.THM_STAT : Nat := 0x034
/-- THM.GRACE (R666). -/
abbrev Reg.THM_GRACE : Nat := 0x035
/-- THM.MAX (R667). -/
abbrev Reg.THM_MAX : Nat := 0x036

-- PWR.STAT (R52)
abbrev Fld.PWR_STAT_WARN : Fld := ⟨Reg.PWR_STAT, 15, 1⟩
abbrev Fld.PWR_STAT_BELOWRES : Fld := ⟨Reg.PWR_STAT, 14, 1⟩
abbrev Fld.PWR_STAT_PFAIL : Fld := ⟨Reg.PWR_STAT, 13, 1⟩
abbrev Fld.PWR_STAT_VAUXP : Fld := ⟨Reg.PWR_STAT, 12, 1⟩
abbrev Fld.PWR_STAT_SHEXT : Fld := ⟨Reg.PWR_STAT, 11, 1⟩
abbrev Fld.PWR_STAT_SHFAIL : Fld := ⟨Reg.PWR_STAT, 10, 1⟩
abbrev Fld.PWR_STAT_SHED : Fld := ⟨Reg.PWR_STAT, 9, 1⟩
abbrev Fld.PWR_STAT_HWDR : Fld := ⟨Reg.PWR_STAT, 8, 1⟩
abbrev Fld.PWR_STAT_WDR : Fld := ⟨Reg.PWR_STAT, 7, 1⟩
abbrev Fld.PWR_STAT_CHG : Fld := ⟨Reg.PWR_STAT, 6, 1⟩
abbrev Fld.PWR_STAT_STFULL : Fld := ⟨Reg.PWR_STAT, 5, 1⟩
abbrev Fld.PWR_STAT_PROFCHG : Fld := ⟨Reg.PWR_STAT, 4, 1⟩
-- PWR.PROFILE (R53)
abbrev Fld.PWR_PROFILE_NHARV : Fld := ⟨Reg.PWR_PROFILE, 8, 3⟩
abbrev Fld.PWR_PROFILE_PROFILE : Fld := ⟨Reg.PWR_PROFILE, 0, 2⟩
-- PWR.LOOPS (R54)
abbrev Fld.PWR_LOOPS_STATE : Fld := ⟨Reg.PWR_LOOPS, 0, 12⟩
-- PWR.CFG (R55)
abbrev Fld.PWR_CFG_VAUXEN : Fld := ⟨Reg.PWR_CFG, 15, 1⟩
abbrev Fld.PWR_CFG_EXTSH : Fld := ⟨Reg.PWR_CFG, 14, 1⟩
abbrev Fld.PWR_CFG_SHPOL : Fld := ⟨Reg.PWR_CFG, 12, 2⟩
abbrev Fld.PWR_CFG_HSTAUTO : Fld := ⟨Reg.PWR_CFG, 11, 1⟩
abbrev Fld.PWR_CFG_OPPEN : Fld := ⟨Reg.PWR_CFG, 10, 1⟩
-- PWR.CAP (R56)
abbrev Fld.PWR_CAP_CAP : Fld := ⟨Reg.PWR_CAP, 0, 16⟩
-- PWR.STORE (R57)
abbrev Fld.PWR_STORE_S : Fld := ⟨Reg.PWR_STORE, 0, 16⟩
-- PWR.FREE (R58)
abbrev Fld.PWR_FREE_FREE : Fld := ⟨Reg.PWR_FREE, 0, 16⟩
-- PWR.ESTOV (R59)
abbrev Fld.PWR_ESTOV_MV : Fld := ⟨Reg.PWR_ESTOV, 0, 16⟩
-- PWR.AVAIL (R60)
abbrev Fld.PWR_AVAIL_AVAIL : Fld := ⟨Reg.PWR_AVAIL, 0, 16⟩
-- PWR.GUAR (R61)
abbrev Fld.PWR_GUAR_GUAR : Fld := ⟨Reg.PWR_GUAR, 0, 16⟩
-- PWR.LOAD (R62)
abbrev Fld.PWR_LOAD_LOAD : Fld := ⟨Reg.PWR_LOAD, 0, 16⟩
-- PWR.GRANT (R63)
abbrev Fld.PWR_GRANT_ROPE : Fld := ⟨Reg.PWR_GRANT, 12, 3⟩
abbrev Fld.PWR_GRANT_XMEM : Fld := ⟨Reg.PWR_GRANT, 9, 3⟩
abbrev Fld.PWR_GRANT_HOST : Fld := ⟨Reg.PWR_GRANT, 6, 3⟩
abbrev Fld.PWR_GRANT_EXC : Fld := ⟨Reg.PWR_GRANT, 3, 3⟩
abbrev Fld.PWR_GRANT_NVM : Fld := ⟨Reg.PWR_GRANT, 0, 3⟩
-- PWR.HOSTP (R64)
abbrev Fld.PWR_HOSTP_HOSTP : Fld := ⟨Reg.PWR_HOSTP, 0, 8⟩
-- PWR.HOSTG (R65)
abbrev Fld.PWR_HOSTG_VHSTON : Fld := ⟨Reg.PWR_HOSTG, 15, 1⟩
abbrev Fld.PWR_HOSTG_HOSTG : Fld := ⟨Reg.PWR_HOSTG, 0, 8⟩
-- PWR.HOSTI (R66)
abbrev Fld.PWR_HOSTI_HOSTI : Fld := ⟨Reg.PWR_HOSTI, 0, 16⟩
-- PWR.VT (R67)
abbrev Fld.PWR_VT_LSEL : Fld := ⟨Reg.PWR_VT, 13, 3⟩
abbrev Fld.PWR_VT_VT : Fld := ⟨Reg.PWR_VT, 0, 13⟩
-- SYS.ID (R104)
abbrev Fld.SYS_ID_PART : Fld := ⟨Reg.SYS_ID, 8, 8⟩
abbrev Fld.SYS_ID_STEP : Fld := ⟨Reg.SYS_ID, 0, 8⟩
-- SYS.BOOTST (R106)
abbrev Fld.SYS_BOOTST_PHASE : Fld := ⟨Reg.SYS_BOOTST, 12, 4⟩
abbrev Fld.SYS_BOOTST_RESULT : Fld := ⟨Reg.SYS_BOOTST, 9, 3⟩
abbrev Fld.SYS_BOOTST_SLOT : Fld := ⟨Reg.SYS_BOOTST, 8, 1⟩
abbrev Fld.SYS_BOOTST_TIE : Fld := ⟨Reg.SYS_BOOTST, 7, 1⟩
abbrev Fld.SYS_BOOTST_FALLBK : Fld := ⟨Reg.SYS_BOOTST, 6, 1⟩
abbrev Fld.SYS_BOOTST_AFAIL : Fld := ⟨Reg.SYS_BOOTST, 5, 1⟩
abbrev Fld.SYS_BOOTST_BFAIL : Fld := ⟨Reg.SYS_BOOTST, 4, 1⟩
abbrev Fld.SYS_BOOTST_AUTH : Fld := ⟨Reg.SYS_BOOTST, 3, 1⟩
abbrev Fld.SYS_BOOTST_JRNL : Fld := ⟨Reg.SYS_BOOTST, 2, 1⟩
abbrev Fld.SYS_BOOTST_DEFMAP : Fld := ⟨Reg.SYS_BOOTST, 1, 1⟩
abbrev Fld.SYS_BOOTST_REFW : Fld := ⟨Reg.SYS_BOOTST, 0, 1⟩
-- SYS.RSTCAUSE (R107)
abbrev Fld.SYS_RSTCAUSE_FATAL : Fld := ⟨Reg.SYS_RSTCAUSE, 15, 1⟩
abbrev Fld.SYS_RSTCAUSE_ROPER : Fld := ⟨Reg.SYS_RSTCAUSE, 5, 1⟩
abbrev Fld.SYS_RSTCAUSE_SWR : Fld := ⟨Reg.SYS_RSTCAUSE, 4, 1⟩
abbrev Fld.SYS_RSTCAUSE_WDT : Fld := ⟨Reg.SYS_RSTCAUSE, 3, 1⟩
abbrev Fld.SYS_RSTCAUSE_XRSTC : Fld := ⟨Reg.SYS_RSTCAUSE, 2, 1⟩
abbrev Fld.SYS_RSTCAUSE_BOR : Fld := ⟨Reg.SYS_RSTCAUSE, 1, 1⟩
abbrev Fld.SYS_RSTCAUSE_POR : Fld := ⟨Reg.SYS_RSTCAUSE, 0, 1⟩
-- SYS.STAT (R108)
abbrev Fld.SYS_STAT_STATE : Fld := ⟨Reg.SYS_STAT, 14, 2⟩
abbrev Fld.SYS_STAT_REDHOST : Fld := ⟨Reg.SYS_STAT, 13, 1⟩
abbrev Fld.SYS_STAT_REDTHERM : Fld := ⟨Reg.SYS_STAT, 12, 1⟩
abbrev Fld.SYS_STAT_REDPROF : Fld := ⟨Reg.SYS_STAT, 11, 1⟩
abbrev Fld.SYS_STAT_BIVC : Fld := ⟨Reg.SYS_STAT, 9, 2⟩
abbrev Fld.SYS_STAT_DIP : Fld := ⟨Reg.SYS_STAT, 8, 1⟩
abbrev Fld.SYS_STAT_ALMPIN : Fld := ⟨Reg.SYS_STAT, 7, 1⟩
abbrev Fld.SYS_STAT_TESTMODE : Fld := ⟨Reg.SYS_STAT, 6, 1⟩
abbrev Fld.SYS_STAT_LOCKED : Fld := ⟨Reg.SYS_STAT, 5, 1⟩
abbrev Fld.SYS_STAT_UNCONF : Fld := ⟨Reg.SYS_STAT, 4, 1⟩
-- SYS.IMGSEQ (R109)
abbrev Fld.SYS_IMGSEQ_SEQ : Fld := ⟨Reg.SYS_IMGSEQ, 0, 16⟩
-- SYS.MODE (R111)
abbrev Fld.SYS_MODE_REDREQ : Fld := ⟨Reg.SYS_MODE, 15, 1⟩
abbrev Fld.SYS_MODE_BIVREQ : Fld := ⟨Reg.SYS_MODE, 14, 1⟩
-- SYS.BIVCFG (R112)
abbrev Fld.SYS_BIVCFG_PARK : Fld := ⟨Reg.SYS_BIVCFG, 0, 6⟩
-- SYS.RST (R113)
abbrev Fld.SYS_RST_KEY : Fld := ⟨Reg.SYS_RST, 0, 16⟩
-- SYS.DIPT (R114)
abbrev Fld.SYS_DIPT_DUR : Fld := ⟨Reg.SYS_DIPT, 0, 16⟩
-- SYS.DIPMIN (R115)
abbrev Fld.SYS_DIPMIN_MIN : Fld := ⟨Reg.SYS_DIPMIN, 0, 16⟩
-- STG.CTRL (R156)
abbrev Fld.STG_CTRL_KEY : Fld := ⟨Reg.STG_CTRL, 8, 8⟩
abbrev Fld.STG_CTRL_AT : Fld := ⟨Reg.STG_CTRL, 4, 3⟩
abbrev Fld.STG_CTRL_CMD : Fld := ⟨Reg.STG_CTRL, 0, 4⟩
-- STG.STAT (R157)
abbrev Fld.STG_STAT_STATE : Fld := ⟨Reg.STG_STAT, 13, 3⟩
abbrev Fld.STG_STAT_DIRTY : Fld := ⟨Reg.STG_STAT, 12, 1⟩
abbrev Fld.STG_STAT_DONE : Fld := ⟨Reg.STG_STAT, 11, 1⟩
abbrev Fld.STG_STAT_REASON : Fld := ⟨Reg.STG_STAT, 0, 8⟩
-- STG.ITEM (R158)
abbrev Fld.STG_ITEM_ITEM : Fld := ⟨Reg.STG_ITEM, 0, 16⟩
-- STG.AT (R159)
abbrev Fld.STG_AT_ANGLE : Fld := ⟨Reg.STG_AT, 0, 16⟩
-- STG.VIEW (R160)
abbrev Fld.STG_VIEW_VIEW : Fld := ⟨Reg.STG_VIEW, 0, 1⟩
-- STG.COUNT (R161)
abbrev Fld.STG_COUNT_COUNT : Fld := ⟨Reg.STG_COUNT, 0, 16⟩
-- STG.APPANG (R162)
abbrev Fld.STG_APPANG_ANGLE : Fld := ⟨Reg.STG_APPANG, 0, 16⟩
-- WIN[n].SPACE (R163)
abbrev Fld.WIN_SPACE_ERR (n : Nat) : Fld := ⟨Reg.WIN_SPACE n, 15, 1⟩
abbrev Fld.WIN_SPACE_OWNER (n : Nat) : Fld := ⟨Reg.WIN_SPACE n, 10, 2⟩
abbrev Fld.WIN_SPACE_ALT (n : Nat) : Fld := ⟨Reg.WIN_SPACE n, 8, 1⟩
abbrev Fld.WIN_SPACE_ID (n : Nat) : Fld := ⟨Reg.WIN_SPACE n, 0, 8⟩
-- WIN[n].CUR (R164)
abbrev Fld.WIN_CUR_CUR (n : Nat) : Fld := ⟨Reg.WIN_CUR n, 0, 11⟩
-- WIN[n].OFS (R165)
abbrev Fld.WIN_OFS_OFS (n : Nat) : Fld := ⟨Reg.WIN_OFS n, 0, 4⟩
-- WIN[n].DATA (R166)
abbrev Fld.WIN_DATA_DATA (n : Nat) : Fld := ⟨Reg.WIN_DATA n, 0, 16⟩
-- ANG.POS (R203)
abbrev Fld.ANG_POS_POS : Fld := ⟨Reg.ANG_POS, 0, 16⟩
-- ANG.SPEED (R204)
abbrev Fld.ANG_SPEED_INT : Fld := ⟨Reg.ANG_SPEED + 1, 0, 16⟩
abbrev Fld.ANG_SPEED_FRAC : Fld := ⟨Reg.ANG_SPEED, 0, 16⟩
-- ANG.STAT (R205)
abbrev Fld.ANG_STAT_DIR : Fld := ⟨Reg.ANG_STAT, 15, 1⟩
abbrev Fld.ANG_STAT_SYNC : Fld := ⟨Reg.ANG_STAT, 14, 1⟩
abbrev Fld.ANG_STAT_LOSS : Fld := ⟨Reg.ANG_STAT, 13, 1⟩
abbrev Fld.ANG_STAT_SUBST : Fld := ⟨Reg.ANG_STAT, 12, 1⟩
abbrev Fld.ANG_STAT_SLEW : Fld := ⟨Reg.ANG_STAT, 11, 1⟩
abbrev Fld.ANG_STAT_BCN : Fld := ⟨Reg.ANG_STAT, 10, 1⟩
abbrev Fld.ANG_STAT_BCNLOSS : Fld := ⟨Reg.ANG_STAT, 9, 1⟩
abbrev Fld.ANG_STAT_NOREF : Fld := ⟨Reg.ANG_STAT, 8, 1⟩
abbrev Fld.ANG_STAT_OVSPD : Fld := ⟨Reg.ANG_STAT, 7, 1⟩
abbrev Fld.ANG_STAT_STOP : Fld := ⟨Reg.ANG_STAT, 6, 1⟩
abbrev Fld.ANG_STAT_IMPL : Fld := ⟨Reg.ANG_STAT, 5, 1⟩
abbrev Fld.ANG_STAT_REVEV : Fld := ⟨Reg.ANG_STAT, 4, 1⟩
abbrev Fld.ANG_STAT_LOSSEV : Fld := ⟨Reg.ANG_STAT, 3, 1⟩
abbrev Fld.ANG_STAT_ACTMODE : Fld := ⟨Reg.ANG_STAT, 0, 3⟩
-- ANG.CFG (R206)
abbrev Fld.ANG_CFG_MODE : Fld := ⟨Reg.ANG_CFG, 13, 3⟩
abbrev Fld.ANG_CFG_SRC : Fld := ⟨Reg.ANG_CFG, 11, 2⟩
abbrev Fld.ANG_CFG_LOSS : Fld := ⟨Reg.ANG_CFG, 10, 1⟩
abbrev Fld.ANG_CFG_EDGE : Fld := ⟨Reg.ANG_CFG, 9, 1⟩
abbrev Fld.ANG_CFG_FILT : Fld := ⟨Reg.ANG_CFG, 7, 2⟩
abbrev Fld.ANG_CFG_QIDX : Fld := ⟨Reg.ANG_CFG, 6, 1⟩
abbrev Fld.ANG_CFG_DIRIN : Fld := ⟨Reg.ANG_CFG, 5, 1⟩
abbrev Fld.ANG_CFG_PRED : Fld := ⟨Reg.ANG_CFG, 4, 1⟩
abbrev Fld.ANG_CFG_RHYST : Fld := ⟨Reg.ANG_CFG, 2, 2⟩
abbrev Fld.ANG_CFG_HYST : Fld := ⟨Reg.ANG_CFG, 1, 1⟩
abbrev Fld.ANG_CFG_PLAUS : Fld := ⟨Reg.ANG_CFG, 0, 1⟩
-- ANG.TEETH (R207)
abbrev Fld.ANG_TEETH_MISS : Fld := ⟨Reg.ANG_TEETH, 14, 2⟩
abbrev Fld.ANG_TEETH_N : Fld := ⟨Reg.ANG_TEETH, 0, 10⟩
-- ANG.LINES (R208)
abbrev Fld.ANG_LINES_LINES : Fld := ⟨Reg.ANG_LINES, 0, 14⟩
-- ANG.ZERO (R209)
abbrev Fld.ANG_ZERO_ZERO : Fld := ⟨Reg.ANG_ZERO, 0, 16⟩
-- ANG.TMO (R210)
abbrev Fld.ANG_TMO_ABS : Fld := ⟨Reg.ANG_TMO, 15, 1⟩
abbrev Fld.ANG_TMO_VAL : Fld := ⟨Reg.ANG_TMO, 0, 15⟩
-- ANG.TPER (R211)
abbrev Fld.ANG_TPER_TPER : Fld := ⟨Reg.ANG_TPER, 0, 16⟩
-- ANG.BIVSPD (R212)
abbrev Fld.ANG_BIVSPD_SPD : Fld := ⟨Reg.ANG_BIVSPD, 0, 16⟩
-- ANG.BIVTMO (R213)
abbrev Fld.ANG_BIVTMO_TMO : Fld := ⟨Reg.ANG_BIVTMO, 0, 16⟩
-- ANG.SPDMAX (R214)
abbrev Fld.ANG_SPDMAX_SPD : Fld := ⟨Reg.ANG_SPDMAX, 0, 16⟩
-- ANG.BCN (R216)
abbrev Fld.ANG_BCN_HEAD : Fld := ⟨Reg.ANG_BCN, 11, 5⟩
abbrev Fld.ANG_BCN_MISS : Fld := ⟨Reg.ANG_BCN, 0, 8⟩
-- ANG.HOPDLY (R217)
abbrev Fld.ANG_HOPDLY_DLY : Fld := ⟨Reg.ANG_HOPDLY, 0, 16⟩
-- EXC.STAT (R269)
abbrev Fld.EXC_STAT_CLRST : Fld := ⟨Reg.EXC_STAT, 12, 4⟩
abbrev Fld.EXC_STAT_FOR : Fld := ⟨Reg.EXC_STAT, 8, 4⟩
abbrev Fld.EXC_STAT_CMPL : Fld := ⟨Reg.EXC_STAT, 4, 4⟩
abbrev Fld.EXC_STAT_OFLT : Fld := ⟨Reg.EXC_STAT, 0, 4⟩
-- EXC[n].CFG (R270)
abbrev Fld.EXC_CFG_MODE (n : Nat) : Fld := ⟨Reg.EXC_CFG n, 15, 1⟩
abbrev Fld.EXC_CFG_RANGE (n : Nat) : Fld := ⟨Reg.EXC_CFG n, 13, 2⟩
abbrev Fld.EXC_CFG_WAVE (n : Nat) : Fld := ⟨Reg.EXC_CFG n, 11, 2⟩
abbrev Fld.EXC_CFG_ALOCK (n : Nat) : Fld := ⟨Reg.EXC_CFG n, 10, 1⟩
abbrev Fld.EXC_CFG_CONT (n : Nat) : Fld := ⟨Reg.EXC_CFG n, 9, 1⟩
abbrev Fld.EXC_CFG_CLRRT (n : Nat) : Fld := ⟨Reg.EXC_CFG n, 2, 6⟩
abbrev Fld.EXC_CFG_CLREN (n : Nat) : Fld := ⟨Reg.EXC_CFG n, 1, 1⟩
-- EXC[n].CODE (R271)
abbrev Fld.EXC_CODE_CODE (n : Nat) : Fld := ⟨Reg.EXC_CODE n, 0, 16⟩
-- EXC[n].CLR (R272)
abbrev Fld.EXC_CLR_CLR (n : Nat) : Fld := ⟨Reg.EXC_CLR n, 0, 16⟩
-- EXC[n].PHASE (R274)
abbrev Fld.EXC_PHASE_PHASE (n : Nat) : Fld := ⟨Reg.EXC_PHASE n, 0, 16⟩
-- SLC[n].FORCE (R300)
abbrev Fld.SLC_FORCE_ROUTE (n : Nat) : Fld := ⟨Reg.SLC_FORCE n, 10, 6⟩
abbrev Fld.SLC_FORCE_GAIN (n : Nat) : Fld := ⟨Reg.SLC_FORCE n, 7, 3⟩
abbrev Fld.SLC_FORCE_WIN (n : Nat) : Fld := ⟨Reg.SLC_FORCE n, 4, 3⟩
abbrev Fld.SLC_FORCE_URES (n : Nat) : Fld := ⟨Reg.SLC_FORCE n, 0, 3⟩
-- SLC[n].DROPCNT (R301)
abbrev Fld.SLC_DROPCNT_DROP (n : Nat) : Fld := ⟨Reg.SLC_DROPCNT n, 0, 16⟩
-- SLC.RETIRED (R302)
abbrev Fld.SLC_RETIRED_RET : Fld := ⟨Reg.SLC_RETIRED, 0, 12⟩
-- SLC.DIRECT (R303)
abbrev Fld.SLC_DIRECT_DIR : Fld := ⟨Reg.SLC_DIRECT, 0, 13⟩
-- SLC.BUSY (R304)
abbrev Fld.SLC_BUSY_BUSY : Fld := ⟨Reg.SLC_BUSY, 0, 13⟩
-- REF.CTRL (R305)
abbrev Fld.REF_CTRL_BUFEN : Fld := ⟨Reg.REF_CTRL, 15, 1⟩
abbrev Fld.REF_CTRL_IOMODE : Fld := ⟨Reg.REF_CTRL, 13, 2⟩
-- REF.STAT (R306)
abbrev Fld.REF_STAT_READY : Fld := ⟨Reg.REF_STAT, 15, 1⟩
abbrev Fld.REF_STAT_BUFON : Fld := ⟨Reg.REF_STAT, 14, 1⟩
abbrev Fld.REF_STAT_MONERR : Fld := ⟨Reg.REF_STAT, 13, 1⟩
abbrev Fld.REF_STAT_EXTERR : Fld := ⟨Reg.REF_STAT, 12, 1⟩
-- SEQ.CTRL (R343)
abbrev Fld.SEQ_CTRL_RUN : Fld := ⟨Reg.SEQ_CTRL, 15, 1⟩
abbrev Fld.SEQ_CTRL_CLRCNT : Fld := ⟨Reg.SEQ_CTRL, 14, 1⟩
-- SEQ.STAT (R344)
abbrev Fld.SEQ_STAT_RUNNING : Fld := ⟨Reg.SEQ_STAT, 15, 1⟩
abbrev Fld.SEQ_STAT_OVRUN : Fld := ⟨Reg.SEQ_STAT, 14, 1⟩
abbrev Fld.SEQ_STAT_CRCF : Fld := ⟨Reg.SEQ_STAT, 13, 1⟩
abbrev Fld.SEQ_STAT_NOSLC : Fld := ⟨Reg.SEQ_STAT, 12, 1⟩
abbrev Fld.SEQ_STAT_UOVF : Fld := ⟨Reg.SEQ_STAT, 11, 1⟩
abbrev Fld.SEQ_STAT_UWAIT : Fld := ⟨Reg.SEQ_STAT, 10, 1⟩
abbrev Fld.SEQ_STAT_UQ : Fld := ⟨Reg.SEQ_STAT, 7, 3⟩
-- SEQ.URG (R347)
abbrev Fld.SEQ_URG_ROUTE : Fld := ⟨Reg.SEQ_URG, 10, 6⟩
abbrev Fld.SEQ_URG_GAIN : Fld := ⟨Reg.SEQ_URG, 7, 3⟩
abbrev Fld.SEQ_URG_WIN : Fld := ⟨Reg.SEQ_URG, 4, 3⟩
abbrev Fld.SEQ_URG_URES : Fld := ⟨Reg.SEQ_URG, 0, 3⟩
-- SEQ.URGSLICE (R348)
abbrev Fld.SEQ_URGSLICE_SLICE : Fld := ⟨Reg.SEQ_URGSLICE, 0, 4⟩
-- SEQ.JITMAX (R349)
abbrev Fld.SEQ_JITMAX_JIT : Fld := ⟨Reg.SEQ_JITMAX, 0, 16⟩
-- SEQ.DISENT (R350)
abbrev Fld.SEQ_DISENT_COUNT : Fld := ⟨Reg.SEQ_DISENT, 8, 8⟩
abbrev Fld.SEQ_DISENT_LAST : Fld := ⟨Reg.SEQ_DISENT, 0, 8⟩
-- SEQ.QSTAT (R351)
abbrev Fld.SEQ_QSTAT_FDROP : Fld := ⟨Reg.SEQ_QSTAT, 15, 1⟩
abbrev Fld.SEQ_QSTAT_FQFILL : Fld := ⟨Reg.SEQ_QSTAT, 8, 7⟩
abbrev Fld.SEQ_QSTAT_ECOAL : Fld := ⟨Reg.SEQ_QSTAT, 0, 6⟩
-- CAL.CTRL (R390)
abbrev Fld.CAL_CTRL_BGEN : Fld := ⟨Reg.CAL_CTRL, 15, 1⟩
abbrev Fld.CAL_CTRL_CMD : Fld := ⟨Reg.CAL_CTRL, 12, 3⟩
abbrev Fld.CAL_CTRL_ROUTE : Fld := ⟨Reg.CAL_CTRL, 6, 6⟩
abbrev Fld.CAL_CTRL_SLICE : Fld := ⟨Reg.CAL_CTRL, 2, 4⟩
-- CAL.STAT (R391)
abbrev Fld.CAL_STAT_PHASE : Fld := ⟨Reg.CAL_STAT, 13, 3⟩
abbrev Fld.CAL_STAT_SLICE : Fld := ⟨Reg.CAL_STAT, 9, 4⟩
abbrev Fld.CAL_STAT_SYSST : Fld := ⟨Reg.CAL_STAT, 7, 2⟩
abbrev Fld.CAL_STAT_SYSRSN : Fld := ⟨Reg.CAL_STAT, 5, 2⟩
abbrev Fld.CAL_STAT_SWRET : Fld := ⟨Reg.CAL_STAT, 4, 1⟩
abbrev Fld.CAL_STAT_NOBG : Fld := ⟨Reg.CAL_STAT, 3, 1⟩
abbrev Fld.CAL_STAT_COEFFB : Fld := ⟨Reg.CAL_STAT, 2, 1⟩
abbrev Fld.CAL_STAT_TSAT : Fld := ⟨Reg.CAL_STAT, 1, 1⟩
abbrev Fld.CAL_STAT_HELD : Fld := ⟨Reg.CAL_STAT, 0, 1⟩
-- CAL.TOL (R392)
abbrev Fld.CAL_TOL_OTOL : Fld := ⟨Reg.CAL_TOL, 8, 8⟩
abbrev Fld.CAL_TOL_RTOL : Fld := ⟨Reg.CAL_TOL, 0, 8⟩
-- CAL.OVERLAP (R393)
abbrev Fld.CAL_OVERLAP_NPAIR : Fld := ⟨Reg.CAL_OVERLAP, 8, 4⟩
abbrev Fld.CAL_OVERLAP_TMAX : Fld := ⟨Reg.CAL_OVERLAP, 0, 8⟩
-- CAL.PERIOD (R394)
abbrev Fld.CAL_PERIOD_SEC : Fld := ⟨Reg.CAL_PERIOD, 0, 16⟩
-- CAL.TEMPD (R395)
abbrev Fld.CAL_TEMPD_TD : Fld := ⟨Reg.CAL_TEMPD, 0, 8⟩
-- CAL.QUALRES (R396)
abbrev Fld.CAL_QUALRES_RESID (n : Nat) : Fld := ⟨Reg.CAL_QUALRES n, 0, 16⟩
-- CAL.QUALSPR (R396)
abbrev Fld.CAL_QUALSPR_SPREAD (n : Nat) : Fld := ⟨Reg.CAL_QUALSPR n, 0, 16⟩
-- VAL[n].STAT (R437)
abbrev Fld.VAL_STAT_RUNNING (n : Nat) : Fld := ⟨Reg.VAL_STAT n, 15, 1⟩
abbrev Fld.VAL_STAT_VALID (n : Nat) : Fld := ⟨Reg.VAL_STAT n, 14, 1⟩
abbrev Fld.VAL_STAT_HOLD (n : Nat) : Fld := ⟨Reg.VAL_STAT n, 13, 1⟩
abbrev Fld.VAL_STAT_ALMREQ (n : Nat) : Fld := ⟨Reg.VAL_STAT n, 12, 1⟩
abbrev Fld.VAL_STAT_THRLO (n : Nat) : Fld := ⟨Reg.VAL_STAT n, 11, 1⟩
abbrev Fld.VAL_STAT_THRHI (n : Nat) : Fld := ⟨Reg.VAL_STAT n, 10, 1⟩
abbrev Fld.VAL_STAT_ALMLAT (n : Nat) : Fld := ⟨Reg.VAL_STAT n, 9, 1⟩
abbrev Fld.VAL_STAT_CHARFB (n : Nat) : Fld := ⟨Reg.VAL_STAT n, 8, 1⟩
abbrev Fld.VAL_STAT_TWIN (n : Nat) : Fld := ⟨Reg.VAL_STAT n, 7, 1⟩
abbrev Fld.VAL_STAT_NUM (n : Nat) : Fld := ⟨Reg.VAL_STAT n, 6, 1⟩
abbrev Fld.VAL_STAT_LRNG (n : Nat) : Fld := ⟨Reg.VAL_STAT n, 5, 1⟩
abbrev Fld.VAL_STAT_SAT (n : Nat) : Fld := ⟨Reg.VAL_STAT n, 4, 1⟩
abbrev Fld.VAL_STAT_FIRST (n : Nat) : Fld := ⟨Reg.VAL_STAT n, 3, 1⟩
abbrev Fld.VAL_STAT_CFGCHG (n : Nat) : Fld := ⟨Reg.VAL_STAT n, 2, 1⟩
-- VAL[n].CTRL (R438)
abbrev Fld.VAL_CTRL_RUN (n : Nat) : Fld := ⟨Reg.VAL_CTRL n, 15, 1⟩
abbrev Fld.VAL_CTRL_TAP (n : Nat) : Fld := ⟨Reg.VAL_CTRL n, 8, 4⟩
-- LOOP[n].MODE (R473)
abbrev Fld.LOOP_MODE_MODE (n : Nat) : Fld := ⟨Reg.LOOP_MODE n, 0, 2⟩
-- LOOP[n].STAT (R474)
abbrev Fld.LOOP_STAT_SRC (n : Nat) : Fld := ⟨Reg.LOOP_STAT n, 12, 4⟩
abbrev Fld.LOOP_STAT_ALMC (n : Nat) : Fld := ⟨Reg.LOOP_STAT n, 9, 3⟩
abbrev Fld.LOOP_STAT_ALMDIR (n : Nat) : Fld := ⟨Reg.LOOP_STAT n, 8, 1⟩
abbrev Fld.LOOP_STAT_LOWV (n : Nat) : Fld := ⟨Reg.LOOP_STAT n, 7, 1⟩
abbrev Fld.LOOP_STAT_LVALM (n : Nat) : Fld := ⟨Reg.LOOP_STAT n, 6, 1⟩
abbrev Fld.LOOP_STAT_RBF (n : Nat) : Fld := ⟨Reg.LOOP_STAT n, 5, 1⟩
abbrev Fld.LOOP_STAT_RBDEV (n : Nat) : Fld := ⟨Reg.LOOP_STAT n, 4, 1⟩
abbrev Fld.LOOP_STAT_FVEXP (n : Nat) : Fld := ⟨Reg.LOOP_STAT n, 3, 1⟩
abbrev Fld.LOOP_STAT_EVT (n : Nat) : Fld := ⟨Reg.LOOP_STAT n, 2, 1⟩
-- LOOP[n].CFG (R475)
abbrev Fld.LOOP_CFG_ALMSRC (n : Nat) : Fld := ⟨Reg.LOOP_CFG n, 14, 2⟩
abbrev Fld.LOOP_CFG_FIT (n : Nat) : Fld := ⟨Reg.LOOP_CFG n, 13, 1⟩
-- LOOP[n].DAC (R476)
abbrev Fld.LOOP_DAC_CODE (n : Nat) : Fld := ⟨Reg.LOOP_DAC n, 0, 16⟩
-- LOOP[n].RBACK (R477)
abbrev Fld.LOOP_RBACK_CODE (n : Nat) : Fld := ⟨Reg.LOOP_RBACK n, 0, 16⟩
-- LOOP[n].RBTOL (R478)
abbrev Fld.LOOP_RBTOL_TOL (n : Nat) : Fld := ⟨Reg.LOOP_RBTOL n, 0, 16⟩
-- LOOP[n].RBTMO (R479)
abbrev Fld.LOOP_RBTMO_TMO (n : Nat) : Fld := ⟨Reg.LOOP_RBTMO n, 0, 16⟩
-- LOOP[n].LVTMO (R480)
abbrev Fld.LOOP_LVTMO_TMO (n : Nat) : Fld := ⟨Reg.LOOP_LVTMO n, 0, 16⟩
-- LOOP[n].FVTMO (R481)
abbrev Fld.LOOP_FVTMO_TMO (n : Nat) : Fld := ⟨Reg.LOOP_FVTMO n, 0, 16⟩
-- LOOP[n].FIXED (R482)
abbrev Fld.LOOP_FIXED_CODE (n : Nat) : Fld := ⟨Reg.LOOP_FIXED n, 0, 16⟩
-- LOOP[n].PARK (R483)
abbrev Fld.LOOP_PARK_CODE (n : Nat) : Fld := ⟨Reg.LOOP_PARK n, 0, 16⟩
-- LOOP[n].CLRC (R484)
abbrev Fld.LOOP_CLRC_CODE (n : Nat) : Fld := ⟨Reg.LOOP_CLRC n, 0, 16⟩
-- FSK[n].STAT (R485)
abbrev Fld.FSK_STAT_CD (n : Nat) : Fld := ⟨Reg.FSK_STAT n, 15, 1⟩
abbrev Fld.FSK_STAT_TXON (n : Nat) : Fld := ⟨Reg.FSK_STAT n, 14, 1⟩
abbrev Fld.FSK_STAT_QCNT (n : Nat) : Fld := ⟨Reg.FSK_STAT n, 11, 3⟩
abbrev Fld.FSK_STAT_RXIRQ (n : Nat) : Fld := ⟨Reg.FSK_STAT n, 10, 1⟩
abbrev Fld.FSK_STAT_LATE (n : Nat) : Fld := ⟨Reg.FSK_STAT n, 9, 1⟩
abbrev Fld.FSK_STAT_BUSYR (n : Nat) : Fld := ⟨Reg.FSK_STAT n, 8, 1⟩
abbrev Fld.FSK_STAT_CERR (n : Nat) : Fld := ⟨Reg.FSK_STAT n, 7, 1⟩
abbrev Fld.FSK_STAT_BACT (n : Nat) : Fld := ⟨Reg.FSK_STAT n, 6, 1⟩
abbrev Fld.FSK_STAT_MNT (n : Nat) : Fld := ⟨Reg.FSK_STAT n, 5, 1⟩
-- FSK[n].CTRL (R486)
abbrev Fld.FSK_CTRL_EN (n : Nat) : Fld := ⟨Reg.FSK_CTRL n, 15, 1⟩
abbrev Fld.FSK_CTRL_BURST (n : Nat) : Fld := ⟨Reg.FSK_CTRL n, 14, 1⟩
abbrev Fld.FSK_CTRL_MDROP (n : Nat) : Fld := ⟨Reg.FSK_CTRL n, 13, 1⟩
abbrev Fld.FSK_CTRL_MNTEN (n : Nat) : Fld := ⟨Reg.FSK_CTRL n, 12, 1⟩
abbrev Fld.FSK_CTRL_IRQEN (n : Nat) : Fld := ⟨Reg.FSK_CTRL n, 11, 1⟩
abbrev Fld.FSK_CTRL_QEN (n : Nat) : Fld := ⟨Reg.FSK_CTRL n, 10, 1⟩
-- ROPE.STAT (R527)
abbrev Fld.ROPE_STAT_HEAD : Fld := ⟨Reg.ROPE_STAT, 15, 1⟩
abbrev Fld.ROPE_STAT_ENUMD : Fld := ⟨Reg.ROPE_STAT, 14, 1⟩
abbrev Fld.ROPE_STAT_ORPHAN : Fld := ⟨Reg.ROPE_STAT, 13, 1⟩
abbrev Fld.ROPE_STAT_EVRX : Fld := ⟨Reg.ROPE_STAT, 12, 1⟩
abbrev Fld.ROPE_STAT_LINKEV : Fld := ⟨Reg.ROPE_STAT, 11, 1⟩
abbrev Fld.ROPE_STAT_CONFL : Fld := ⟨Reg.ROPE_STAT, 10, 1⟩
abbrev Fld.ROPE_STAT_CYCLE : Fld := ⟨Reg.ROPE_STAT, 9, 1⟩
abbrev Fld.ROPE_STAT_BCNTX : Fld := ⟨Reg.ROPE_STAT, 8, 1⟩
-- ROPE.ADDR (R528)
abbrev Fld.ROPE_ADDR_VALID : Fld := ⟨Reg.ROPE_ADDR, 15, 1⟩
abbrev Fld.ROPE_ADDR_HEADA : Fld := ⟨Reg.ROPE_ADDR, 10, 5⟩
abbrev Fld.ROPE_ADDR_HOP : Fld := ⟨Reg.ROPE_ADDR, 5, 5⟩
abbrev Fld.ROPE_ADDR_ADDR : Fld := ⟨Reg.ROPE_ADDR, 0, 5⟩
-- ROPE.CFG (R529)
abbrev Fld.ROPE_CFG_ROLE : Fld := ⟨Reg.ROPE_CFG, 14, 2⟩
abbrev Fld.ROPE_CFG_PIN : Fld := ⟨Reg.ROPE_CFG, 8, 5⟩
-- ROPE.UP (R530)
abbrev Fld.ROPE_UP_STATE : Fld := ⟨Reg.ROPE_UP, 14, 2⟩
abbrev Fld.ROPE_UP_MODE : Fld := ⟨Reg.ROPE_UP, 13, 1⟩
abbrev Fld.ROPE_UP_LOSSEV : Fld := ⟨Reg.ROPE_UP, 12, 1⟩
abbrev Fld.ROPE_UP_LDLY : Fld := ⟨Reg.ROPE_UP, 0, 12⟩
-- ROPE.DN (R530)
abbrev Fld.ROPE_DN_STATE : Fld := ⟨Reg.ROPE_DN, 14, 2⟩
abbrev Fld.ROPE_DN_MODE : Fld := ⟨Reg.ROPE_DN, 13, 1⟩
abbrev Fld.ROPE_DN_LOSSEV : Fld := ⟨Reg.ROPE_DN, 12, 1⟩
abbrev Fld.ROPE_DN_LDLY : Fld := ⟨Reg.ROPE_DN, 0, 12⟩
-- ROPE.VTMO (R531)
abbrev Fld.ROPE_VTMO_VTMO : Fld := ⟨Reg.ROPE_VTMO, 0, 8⟩
-- ROPE.PTMO (R532)
abbrev Fld.ROPE_PTMO_PTMO : Fld := ⟨Reg.ROPE_PTMO, 0, 16⟩
-- ROPE.CMT (R533)
abbrev Fld.ROPE_CMT_CMD : Fld := ⟨Reg.ROPE_CMT, 14, 2⟩
abbrev Fld.ROPE_CMT_ANG4 : Fld := ⟨Reg.ROPE_CMT, 0, 14⟩
-- ROPE.CSTAT (R534)
abbrev Fld.ROPE_CSTAT_STATE : Fld := ⟨Reg.ROPE_CSTAT, 14, 2⟩
abbrev Fld.ROPE_CSTAT_OUTCOME : Fld := ⟨Reg.ROPE_CSTAT, 12, 2⟩
abbrev Fld.ROPE_CSTAT_CAUSE : Fld := ⟨Reg.ROPE_CSTAT, 8, 4⟩
abbrev Fld.ROPE_CSTAT_LATE : Fld := ⟨Reg.ROPE_CSTAT, 7, 1⟩
abbrev Fld.ROPE_CSTAT_DONE : Fld := ⟨Reg.ROPE_CSTAT, 6, 1⟩
abbrev Fld.ROPE_CSTAT_TEAM : Fld := ⟨Reg.ROPE_CSTAT, 0, 5⟩
-- ROPE.REASON (R535)
abbrev Fld.ROPE_REASON_OUTCOME : Fld := ⟨Reg.ROPE_REASON, 13, 3⟩
abbrev Fld.ROPE_REASON_TEAM : Fld := ⟨Reg.ROPE_REASON, 8, 5⟩
abbrev Fld.ROPE_REASON_CHK : Fld := ⟨Reg.ROPE_REASON, 0, 8⟩
-- ROPE.TEAMS (R536)
abbrev Fld.ROPE_TEAMS_LEAD : Fld := ⟨Reg.ROPE_TEAMS, 13, 3⟩
abbrev Fld.ROPE_TEAMS_MEMB : Fld := ⟨Reg.ROPE_TEAMS, 8, 5⟩
-- ROPE.SHARE (R537)
abbrev Fld.ROPE_SHARE_RATE : Fld := ⟨Reg.ROPE_SHARE, 0, 8⟩
-- ROPE.ERRCNT (R538)
abbrev Fld.ROPE_ERRCNT_UP : Fld := ⟨Reg.ROPE_ERRCNT, 8, 8⟩
abbrev Fld.ROPE_ERRCNT_DN : Fld := ⟨Reg.ROPE_ERRCNT, 0, 8⟩
-- XMEM.STAT (R567)
abbrev Fld.XMEM_STAT_KIND : Fld := ⟨Reg.XMEM_STAT, 14, 2⟩
abbrev Fld.XMEM_STAT_SAFE : Fld := ⟨Reg.XMEM_STAT, 13, 1⟩
abbrev Fld.XMEM_STAT_ADDR4 : Fld := ⟨Reg.XMEM_STAT, 12, 1⟩
abbrev Fld.XMEM_STAT_QUAD : Fld := ⟨Reg.XMEM_STAT, 11, 1⟩
abbrev Fld.XMEM_STAT_BUSY : Fld := ⟨Reg.XMEM_STAT, 10, 1⟩
abbrev Fld.XMEM_STAT_TMO : Fld := ⟨Reg.XMEM_STAT, 9, 1⟩
-- XMEM.CFG (R568)
abbrev Fld.XMEM_CFG_CAPBASE : Fld := ⟨Reg.XMEM_CFG, 11, 5⟩
abbrev Fld.XMEM_CFG_CAPLEN : Fld := ⟨Reg.XMEM_CFG, 0, 11⟩
-- XMEM.CLK (R570)
abbrev Fld.XMEM_CLK_MHZ : Fld := ⟨Reg.XMEM_CLK, 0, 6⟩
-- XFER.CTRL (R571)
abbrev Fld.XFER_CTRL_EN : Fld := ⟨Reg.XFER_CTRL, 15, 1⟩
abbrev Fld.XFER_CTRL_DXMEM : Fld := ⟨Reg.XFER_CTRL, 14, 1⟩
abbrev Fld.XFER_CTRL_DROPE : Fld := ⟨Reg.XFER_CTRL, 13, 1⟩
abbrev Fld.XFER_CTRL_DHOST : Fld := ⟨Reg.XFER_CTRL, 12, 1⟩
abbrev Fld.XFER_CTRL_CXMEM : Fld := ⟨Reg.XFER_CTRL, 11, 1⟩
abbrev Fld.XFER_CTRL_CROPE : Fld := ⟨Reg.XFER_CTRL, 10, 1⟩
abbrev Fld.XFER_CTRL_CHOST : Fld := ⟨Reg.XFER_CTRL, 9, 1⟩
abbrev Fld.XFER_CTRL_WRAP : Fld := ⟨Reg.XFER_CTRL, 8, 1⟩
abbrev Fld.XFER_CTRL_EAHEAD : Fld := ⟨Reg.XFER_CTRL, 5, 3⟩
abbrev Fld.XFER_CTRL_HQ : Fld := ⟨Reg.XFER_CTRL, 0, 5⟩
-- XFER.STAT (R572)
abbrev Fld.XFER_STAT_RUN : Fld := ⟨Reg.XFER_STAT, 15, 1⟩
abbrev Fld.XFER_STAT_FULL : Fld := ⟨Reg.XFER_STAT, 14, 1⟩
abbrev Fld.XFER_STAT_FOVF : Fld := ⟨Reg.XFER_STAT, 13, 1⟩
abbrev Fld.XFER_STAT_HOVF : Fld := ⟨Reg.XFER_STAT, 12, 1⟩
abbrev Fld.XFER_STAT_XDEN : Fld := ⟨Reg.XFER_STAT, 11, 1⟩
abbrev Fld.XFER_STAT_RDROP : Fld := ⟨Reg.XFER_STAT, 10, 1⟩
abbrev Fld.XFER_STAT_MBOX : Fld := ⟨Reg.XFER_STAT, 9, 1⟩
abbrev Fld.XFER_STAT_MERR : Fld := ⟨Reg.XFER_STAT, 8, 1⟩
abbrev Fld.XFER_STAT_MRSN : Fld := ⟨Reg.XFER_STAT, 5, 3⟩
abbrev Fld.XFER_STAT_HRDY : Fld := ⟨Reg.XFER_STAT, 4, 1⟩
abbrev Fld.XFER_STAT_XERR : Fld := ⟨Reg.XFER_STAT, 3, 1⟩
-- XFER.RING (R573)
abbrev Fld.XFER_RING_PRE : Fld := ⟨Reg.XFER_RING, 11, 5⟩
abbrev Fld.XFER_RING_POST : Fld := ⟨Reg.XFER_RING, 6, 5⟩
abbrev Fld.XFER_RING_CAPBLK : Fld := ⟨Reg.XFER_RING, 0, 6⟩
-- XFER.HEAD (R574)
abbrev Fld.XFER_HEAD_BLK : Fld := ⟨Reg.XFER_HEAD, 0, 11⟩
-- XFER.TAIL (R574)
abbrev Fld.XFER_TAIL_BLK : Fld := ⟨Reg.XFER_TAIL, 0, 11⟩
-- XFER.CAP (R576)
abbrev Fld.XFER_CAP_SRC : Fld := ⟨Reg.XFER_CAP, 14, 2⟩
abbrev Fld.XFER_CAP_CMD : Fld := ⟨Reg.XFER_CAP, 12, 2⟩
abbrev Fld.XFER_CAP_PARAM : Fld := ⟨Reg.XFER_CAP, 0, 12⟩
-- XFER.CAPST (R577)
abbrev Fld.XFER_CAPST_STATE : Fld := ⟨Reg.XFER_CAPST, 14, 2⟩
abbrev Fld.XFER_CAPST_SHORT : Fld := ⟨Reg.XFER_CAPST, 13, 1⟩
abbrev Fld.XFER_CAPST_MISSED : Fld := ⟨Reg.XFER_CAPST, 12, 1⟩
abbrev Fld.XFER_CAPST_COUNT : Fld := ⟨Reg.XFER_CAPST, 0, 12⟩
-- XFER.PULL (R578)
abbrev Fld.XFER_PULL_DATA : Fld := ⟨Reg.XFER_PULL, 0, 16⟩
-- NVM.STAT (R602)
abbrev Fld.NVM_STAT_BUSY : Fld := ⟨Reg.NVM_STAT, 15, 1⟩
abbrev Fld.NVM_STAT_PEND : Fld := ⟨Reg.NVM_STAT, 14, 1⟩
abbrev Fld.NVM_STAT_DONE : Fld := ⟨Reg.NVM_STAT, 13, 1⟩
abbrev Fld.NVM_STAT_ERR : Fld := ⟨Reg.NVM_STAT, 12, 1⟩
abbrev Fld.NVM_STAT_REASON : Fld := ⟨Reg.NVM_STAT, 8, 4⟩
abbrev Fld.NVM_STAT_BUFRD : Fld := ⟨Reg.NVM_STAT, 7, 1⟩
abbrev Fld.NVM_STAT_TRUNC : Fld := ⟨Reg.NVM_STAT, 0, 6⟩
-- NVM.CTRL (R603)
abbrev Fld.NVM_CTRL_CMD : Fld := ⟨Reg.NVM_CTRL, 12, 4⟩
abbrev Fld.NVM_CTRL_ARG : Fld := ⟨Reg.NVM_CTRL, 8, 4⟩
abbrev Fld.NVM_CTRL_LEN : Fld := ⟨Reg.NVM_CTRL, 0, 5⟩
-- NVM.ADDR (R604)
abbrev Fld.NVM_ADDR_ADDR : Fld := ⟨Reg.NVM_ADDR, 0, 16⟩
-- NVM.DATA (R605)
abbrev Fld.NVM_DATA_DATA : Fld := ⟨Reg.NVM_DATA, 0, 16⟩
-- NVM.KEY (R606)
abbrev Fld.NVM_KEY_KEY : Fld := ⟨Reg.NVM_KEY, 0, 16⟩
-- NVM.JSTAT (R607)
abbrev Fld.NVM_JSTAT_TIE : Fld := ⟨Reg.NVM_JSTAT, 15, 1⟩
abbrev Fld.NVM_JSTAT_REPAIR : Fld := ⟨Reg.NVM_JSTAT, 14, 1⟩
abbrev Fld.NVM_JSTAT_COMPACT : Fld := ⟨Reg.NVM_JSTAT, 13, 1⟩
abbrev Fld.NVM_JSTAT_VOID : Fld := ⟨Reg.NVM_JSTAT, 12, 1⟩
abbrev Fld.NVM_JSTAT_QCNT : Fld := ⟨Reg.NVM_JSTAT, 8, 4⟩
abbrev Fld.NVM_JSTAT_SAVEREM : Fld := ⟨Reg.NVM_JSTAT, 0, 8⟩
-- LOG.STAT (R628)
abbrev Fld.LOG_STAT_BUSY : Fld := ⟨Reg.LOG_STAT, 15, 1⟩
abbrev Fld.LOG_STAT_LOCK : Fld := ⟨Reg.LOG_STAT, 14, 1⟩
abbrev Fld.LOG_STAT_DROP : Fld := ⟨Reg.LOG_STAT, 13, 1⟩
abbrev Fld.LOG_STAT_LOST : Fld := ⟨Reg.LOG_STAT, 12, 1⟩
abbrev Fld.LOG_STAT_SUPP : Fld := ⟨Reg.LOG_STAT, 11, 1⟩
abbrev Fld.LOG_STAT_NEW : Fld := ⟨Reg.LOG_STAT, 10, 1⟩
abbrev Fld.LOG_STAT_QLOG : Fld := ⟨Reg.LOG_STAT, 5, 5⟩
abbrev Fld.LOG_STAT_NOKEY : Fld := ⟨Reg.LOG_STAT, 4, 1⟩
-- LOG.MODE (R629)
abbrev Fld.LOG_MODE_MODE : Fld := ⟨Reg.LOG_MODE, 0, 2⟩
-- LOG.SEQ (R630)
abbrev Fld.LOG_SEQ_SEQ : Fld := ⟨Reg.LOG_SEQ, 0, 16⟩
-- LOG.CURSOR (R631)
abbrev Fld.LOG_CURSOR_REL : Fld := ⟨Reg.LOG_CURSOR, 15, 1⟩
abbrev Fld.LOG_CURSOR_AUTO : Fld := ⟨Reg.LOG_CURSOR, 14, 1⟩
abbrev Fld.LOG_CURSOR_IDX : Fld := ⟨Reg.LOG_CURSOR, 0, 10⟩
-- LOG.SNAP (R632)
abbrev Fld.LOG_SNAP_STATE : Fld := ⟨Reg.LOG_SNAP, 14, 2⟩
abbrev Fld.LOG_SNAP_SLOT : Fld := ⟨Reg.LOG_SNAP, 0, 10⟩
-- LOG.CLRST (R635)
abbrev Fld.LOG_CLRST_STATE : Fld := ⟨Reg.LOG_CLRST, 13, 3⟩
abbrev Fld.LOG_CLRST_FAILS : Fld := ⟨Reg.LOG_CLRST, 11, 2⟩
abbrev Fld.LOG_CLRST_LOCKMIN : Fld := ⟨Reg.LOG_CLRST, 7, 4⟩
-- LOG.WIN (R636)
abbrev Fld.LOG_WIN_DATA : Fld := ⟨Reg.LOG_WIN, 0, 16⟩
-- FLT.FIRST (R657)
abbrev Fld.FLT_FIRST_INJ : Fld := ⟨Reg.FLT_FIRST + 1, 3, 1⟩
abbrev Fld.FLT_FIRST_CLASS : Fld := ⟨Reg.FLT_FIRST + 1, 0, 3⟩
abbrev Fld.FLT_FIRST_PARAM : Fld := ⟨Reg.FLT_FIRST, 8, 8⟩
abbrev Fld.FLT_FIRST_SRC : Fld := ⟨Reg.FLT_FIRST, 0, 8⟩
-- FLT.STAT (R658)
abbrev Fld.FLT_STAT_FATAL : Fld := ⟨Reg.FLT_STAT, 15, 1⟩
abbrev Fld.FLT_STAT_FLTHS : Fld := ⟨Reg.FLT_STAT, 14, 1⟩
abbrev Fld.FLT_STAT_WCLASS : Fld := ⟨Reg.FLT_STAT, 12, 2⟩
abbrev Fld.FLT_STAT_OVF : Fld := ⟨Reg.FLT_STAT, 11, 1⟩
abbrev Fld.FLT_STAT_NEW : Fld := ⟨Reg.FLT_STAT, 10, 1⟩
abbrev Fld.FLT_STAT_INJARM : Fld := ⟨Reg.FLT_STAT, 9, 1⟩
abbrev Fld.FLT_STAT_HKAEXP : Fld := ⟨Reg.FLT_STAT, 8, 1⟩
abbrev Fld.FLT_STAT_HKA : Fld := ⟨Reg.FLT_STAT, 0, 3⟩
-- FLT.CLR (R659)
abbrev Fld.FLT_CLR_KEY : Fld := ⟨Reg.FLT_CLR, 8, 8⟩
abbrev Fld.FLT_CLR_CMD : Fld := ⟨Reg.FLT_CLR, 0, 4⟩
-- FLT.CCNT (R661)
abbrev Fld.FLT_CCNT_COUNT : Fld := ⟨Reg.FLT_CCNT, 0, 16⟩
-- FLT.UCNT (R661)
abbrev Fld.FLT_UCNT_COUNT : Fld := ⟨Reg.FLT_UCNT, 0, 16⟩
-- FLT.INJ (R663)
abbrev Fld.FLT_INJ_PARAM : Fld := ⟨Reg.FLT_INJ, 8, 8⟩
abbrev Fld.FLT_INJ_MODE : Fld := ⟨Reg.FLT_INJ, 6, 2⟩
abbrev Fld.FLT_INJ_SRC : Fld := ⟨Reg.FLT_INJ, 0, 6⟩
-- THM.T[n] (R664)
abbrev Fld.THM_T_T (n : Nat) : Fld := ⟨Reg.THM_T n, 0, 16⟩
-- THM.STAT (R665)
abbrev Fld.THM_STAT_REQ : Fld := ⟨Reg.THM_STAT, 15, 1⟩
abbrev Fld.THM_STAT_ENF : Fld := ⟨Reg.THM_STAT, 14, 1⟩
abbrev Fld.THM_STAT_WARN : Fld := ⟨Reg.THM_STAT, 13, 1⟩
abbrev Fld.THM_STAT_REQEV : Fld := ⟨Reg.THM_STAT, 12, 1⟩
abbrev Fld.THM_STAT_BRK : Fld := ⟨Reg.THM_STAT, 8, 4⟩
abbrev Fld.THM_STAT_HOT : Fld := ⟨Reg.THM_STAT, 6, 2⟩
-- THM.GRACE (R666)
abbrev Fld.THM_GRACE_GRACE : Fld := ⟨Reg.THM_GRACE, 0, 10⟩
-- THM.MAX (R667)
abbrev Fld.THM_MAX_MAX : Fld := ⟨Reg.THM_MAX, 0, 16⟩

/-- What the map says of one register word: the bits of each access code of R9 and the value after reset. A bit in no
mask is RO or reserved. -/
structure RegInfo where
  addr : Nat
  rw : Nat := 0
  w1c : Nat := 0
  rc : Nat := 0
  st : Nat := 0
  lk : Nat := 0
  wo : Nat := 0
  reset : Nat := 0
deriving DecidableEq, Repr

/-- The words of block PWR. -/
def regsPwr : List RegInfo :=
  [⟨Reg.PWR_STAT, 0x0, 0x590, 0x0, 0x0, 0x0, 0x0, 0x4000⟩,
   ⟨Reg.PWR_PROFILE, 0x0, 0x0, 0x0, 0x0, 0x0, 0x0, 0x0⟩,
   ⟨Reg.PWR_LOOPS, 0x0, 0x0, 0x0, 0x0, 0x0, 0x0, 0x0⟩,
   ⟨Reg.PWR_CFG, 0x0, 0x0, 0x0, 0x0, 0xFC00, 0x0, 0xAC00⟩,
   ⟨Reg.PWR_CAP, 0x0, 0x0, 0x0, 0x0, 0xFFFF, 0x0, 0x2F⟩,
   ⟨Reg.PWR_STORE, 0x0, 0x0, 0x0, 0x0, 0x0, 0x0, 0x0⟩,
   ⟨Reg.PWR_FREE, 0x0, 0x0, 0x0, 0x0, 0x0, 0x0, 0x0⟩,
   ⟨Reg.PWR_ESTOV, 0x0, 0x0, 0x0, 0x0, 0x0, 0x0, 0x0⟩,
   ⟨Reg.PWR_AVAIL, 0x0, 0x0, 0x0, 0x0, 0x0, 0x0, 0x0⟩,
   ⟨Reg.PWR_GUAR, 0x0, 0x0, 0x0, 0x0, 0x0, 0x0, 0x0⟩,
   ⟨Reg.PWR_LOAD, 0x0, 0x0, 0x0, 0x0, 0x0, 0x0, 0x0⟩,
   ⟨Reg.PWR_GRANT, 0x0, 0x0, 0x0, 0x0, 0x0, 0x0, 0x0⟩]
  ++ [⟨Reg.PWR_HOSTP, 0xFF, 0x0, 0x0, 0x0, 0x0, 0x0, 0xC8⟩,
   ⟨Reg.PWR_HOSTG, 0x0, 0x0, 0x0, 0x0, 0x0, 0x0, 0x0⟩,
   ⟨Reg.PWR_HOSTI, 0x0, 0x0, 0x0, 0x0, 0x0, 0x0, 0x0⟩,
   ⟨Reg.PWR_VT, 0xE000, 0x0, 0x0, 0x0, 0x0, 0x0, 0x0⟩]
/-- The words of block SYS. -/
def regsSys : List RegInfo :=
  [⟨Reg.SYS_ID, 0x0, 0x0, 0x0, 0x0, 0x0, 0x0, 0x4821⟩,
   ⟨Reg.SYS_UID, 0x0, 0x0, 0x0, 0x0, 0x0, 0x0, 0x1⟩,
   ⟨Reg.SYS_UID + 1, 0x0, 0x0, 0x0, 0x0, 0x0, 0x0, 0x0⟩,
   ⟨Reg.SYS_UID + 2, 0x0, 0x0, 0x0, 0x0, 0x0, 0x0, 0x0⟩,
   ⟨Reg.SYS_UID + 3, 0x0, 0x0, 0x0, 0x0, 0x0, 0x0, 0x0⟩,
   ⟨Reg.SYS_BOOTST, 0x0, 0x0, 0x0, 0x0, 0x0, 0x0, 0x1000⟩,
   ⟨Reg.SYS_RSTCAUSE, 0x0, 0x3F, 0x0, 0x0, 0x0, 0x0, 0x1⟩,
   ⟨Reg.SYS_STAT, 0x0, 0x100, 0x0, 0x0, 0x0, 0x0, 0x0⟩,
   ⟨Reg.SYS_IMGSEQ, 0x0, 0x0, 0x0, 0x0, 0x0, 0x0, 0x0⟩,
   ⟨Reg.SYS_IMGCRC, 0x0, 0x0, 0x0, 0x0, 0x0, 0x0, 0x0⟩,
   ⟨Reg.SYS_IMGCRC + 1, 0x0, 0x0, 0x0, 0x0, 0x0, 0x0, 0x0⟩,
   ⟨Reg.SYS_MODE, 0xC000, 0x0, 0x0, 0x0, 0x0, 0x0, 0x0⟩]
  ++ [⟨Reg.SYS_BIVCFG, 0x0, 0x0, 0x0, 0x3F, 0x0, 0x0, 0x0⟩,
   ⟨Reg.SYS_RST, 0x0, 0x0, 0x0, 0x0, 0x0, 0xFFFF, 0x0⟩,
   ⟨Reg.SYS_DIPT, 0x0, 0x0, 0x0, 0x0, 0x0, 0x0, 0x0⟩,
   ⟨Reg.SYS_DIPMIN, 0x0, 0x0, 0x0, 0x0, 0x0, 0x0, 0x0⟩]
/-- The words of block STG. -/
def regsStg : List RegInfo :=
  [⟨Reg.STG_CTRL, 0x0, 0x0, 0x0, 0x0, 0x0, 0xFF7F, 0x0⟩,
   ⟨Reg.STG_STAT, 0x0, 0x800, 0x0, 0x0, 0x0, 0x0, 0x0⟩,
   ⟨Reg.STG_ITEM, 0x0, 0x0, 0x0, 0x0, 0x0, 0x0, 0x0⟩,
   ⟨Reg.STG_AT, 0xFFFF, 0x0, 0x0, 0x0, 0x0, 0x0, 0x0⟩,
   ⟨Reg.STG_VIEW, 0x1, 0x0, 0x0, 0x0, 0x0, 0x0, 0x0⟩,
   ⟨Reg.STG_COUNT, 0x0, 0x0, 0x0, 0x0, 0x0, 0x0, 0x0⟩,
   ⟨Reg.STG_APPANG, 0x0, 0x0, 0x0, 0x0, 0x0, 0x0, 0x0⟩]
/-- The words of block WIN that are numbered. -/
def regsWinN (n : Nat) : List RegInfo :=
  [⟨Reg.WIN_SPACE n, 0x1FF, 0x8000, 0x0, 0x0, 0x0, 0x0, 0x0⟩,
   ⟨Reg.WIN_CUR n, 0x7FF, 0x0, 0x0, 0x0, 0x0, 0x0, 0x0⟩,
   ⟨Reg.WIN_OFS n, 0xF, 0x0, 0x0, 0x0, 0x0, 0x0, 0x0⟩,
   ⟨Reg.WIN_DATA n, 0xFFFF, 0x0, 0x0, 0x0, 0x0, 0x0, 0x0⟩]
/-- The words of block ANG. -/
def regsAng : List RegInfo :=
  [⟨Reg.ANG_POS, 0x0, 0x0, 0x0, 0x0, 0x0, 0x0, 0x0⟩,
   ⟨Reg.ANG_SPEED, 0x0, 0x0, 0x0, 0x0, 0x0, 0x0, 0x0⟩,
   ⟨Reg.ANG_SPEED + 1, 0x0, 0x0, 0x0, 0x0, 0x0, 0x0, 0x0⟩,
   ⟨Reg.ANG_STAT, 0x0, 0x38, 0x0, 0x0, 0x0, 0x0, 0x44⟩,
   ⟨Reg.ANG_CFG, 0x0, 0x0, 0x0, 0xFFFF, 0x0, 0x0, 0x8087⟩,
   ⟨Reg.ANG_TEETH, 0x0, 0x0, 0x0, 0xC3FF, 0x0, 0x0, 0x403C⟩,
   ⟨Reg.ANG_LINES, 0x0, 0x0, 0x0, 0x3FFF, 0x0, 0x0, 0x400⟩,
   ⟨Reg.ANG_ZERO, 0x0, 0x0, 0x0, 0xFFFF, 0x0, 0x0, 0x0⟩,
   ⟨Reg.ANG_TMO, 0x0, 0x0, 0x0, 0xFFFF, 0x0, 0x0, 0xC⟩,
   ⟨Reg.ANG_TPER, 0x0, 0x0, 0x0, 0xFFFF, 0x0, 0x0, 0x50⟩,
   ⟨Reg.ANG_BIVSPD, 0x0, 0x0, 0x0, 0xFFFF, 0x0, 0x0, 0x0⟩,
   ⟨Reg.ANG_BIVTMO, 0x0, 0x0, 0x0, 0xFFFF, 0x0, 0x0, 0x0⟩]
  ++ [⟨Reg.ANG_SPDMAX, 0x0, 0x0, 0x0, 0xFFFF, 0x0, 0x0, 0xEA60⟩,
   ⟨Reg.ANG_PASS, 0x0, 0x0, 0x0, 0x0, 0x0, 0x0, 0x0⟩,
   ⟨Reg.ANG_PASS + 1, 0x0, 0x0, 0x0, 0x0, 0x0, 0x0, 0x0⟩,
   ⟨Reg.ANG_BCN, 0x0, 0x0, 0xFF, 0x0, 0x0, 0x0, 0x0⟩,
   ⟨Reg.ANG_HOPDLY, 0x0, 0x0, 0x0, 0x0, 0x0, 0x0, 0x0⟩]
/-- The words of block EXC. -/
def regsExc : List RegInfo :=
  [⟨Reg.EXC_STAT, 0x0, 0xFF, 0x0, 0x0, 0x0, 0x0, 0xF000⟩]
/-- The words of block EXC that are numbered. -/
def regsExcN (n : Nat) : List RegInfo :=
  [⟨Reg.EXC_CFG n, 0x0, 0x0, 0x0, 0xFEFE, 0x0, 0x0, 0x0⟩,
   ⟨Reg.EXC_CODE n, 0x0, 0x0, 0x0, 0xFFFF, 0x0, 0x0, 0x0⟩,
   ⟨Reg.EXC_CLR n, 0x0, 0x0, 0x0, 0xFFFF, 0x0, 0x0, 0x0⟩,
   ⟨Reg.EXC_FREQ n, 0x0, 0x0, 0x0, 0xFFFF, 0x0, 0x0, 0x2000⟩,
   ⟨Reg.EXC_FREQ n + 1, 0x0, 0x0, 0x0, 0xFF, 0x0, 0x0, 0x0⟩,
   ⟨Reg.EXC_PHASE n, 0x0, 0x0, 0x0, 0xFFFF, 0x0, 0x0, 0x0⟩]
/-- The words of block SLC that are numbered. -/
def regsSlcN (n : Nat) : List RegInfo :=
  [⟨Reg.SLC_FORCE n, 0x0, 0x0, 0x0, 0x0, 0x0, 0xFFF7, 0x0⟩,
   ⟨Reg.SLC_DROPCNT n, 0x0, 0x0, 0xFFFF, 0x0, 0x0, 0x0, 0x0⟩]
/-- The words of block SLC. -/
def regsSlc : List RegInfo :=
  [⟨Reg.SLC_RETIRED, 0x0, 0x0, 0x0, 0x0, 0x0, 0x0, 0x0⟩,
   ⟨Reg.SLC_DIRECT, 0x1FFF, 0x0, 0x0, 0x0, 0x0, 0x0, 0x0⟩,
   ⟨Reg.SLC_BUSY, 0x0, 0x0, 0x0, 0x0, 0x0, 0x0, 0x0⟩]
/-- The words of block REF. -/
def regsRef : List RegInfo :=
  [⟨Reg.REF_CTRL, 0x0, 0x0, 0x0, 0xE000, 0x0, 0x0, 0x0⟩,
   ⟨Reg.REF_STAT, 0x0, 0x3000, 0x0, 0x0, 0x0, 0x0, 0x0⟩]
/-- The words of block SEQ. -/
def regsSeq : List RegInfo :=
  [⟨Reg.SEQ_CTRL, 0x8000, 0x0, 0x0, 0x0, 0x0, 0x4000, 0x8000⟩,
   ⟨Reg.SEQ_STAT, 0x0, 0x7800, 0x0, 0x0, 0x0, 0x0, 0x0⟩,
   ⟨Reg.SEQ_DUE, 0x0, 0x0, 0x0, 0x0, 0x0, 0x0, 0x0⟩,
   ⟨Reg.SEQ_DUE + 1, 0x0, 0x0, 0x0, 0x0, 0x0, 0x0, 0x0⟩,
   ⟨Reg.SEQ_MISS, 0x0, 0x0, 0x0, 0x0, 0x0, 0x0, 0x0⟩,
   ⟨Reg.SEQ_MISS + 1, 0x0, 0x0, 0x0, 0x0, 0x0, 0x0, 0x0⟩,
   ⟨Reg.SEQ_URG, 0x0, 0x0, 0x0, 0x0, 0x0, 0xFFF7, 0x0⟩,
   ⟨Reg.SEQ_URGSLICE, 0x0, 0x0, 0x0, 0xF, 0x0, 0x0, 0xC⟩,
   ⟨Reg.SEQ_JITMAX, 0x0, 0x0, 0x0, 0x0, 0x0, 0x0, 0x0⟩,
   ⟨Reg.SEQ_DISENT, 0x0, 0x0, 0x0, 0x0, 0x0, 0x0, 0x0⟩,
   ⟨Reg.SEQ_QSTAT, 0x0, 0x803F, 0x0, 0x0, 0x0, 0x0, 0x0⟩]
/-- The words of block CAL. -/
def regsCal : List RegInfo :=
  [⟨Reg.CAL_CTRL, 0x8000, 0x0, 0x0, 0x0, 0x0, 0x7FFC, 0x8000⟩,
   ⟨Reg.CAL_STAT, 0x0, 0x6, 0x0, 0x0, 0x0, 0x0, 0x0⟩,
   ⟨Reg.CAL_TOL, 0x0, 0x0, 0x0, 0xFFFF, 0x0, 0x0, 0x1918⟩,
   ⟨Reg.CAL_OVERLAP, 0x0, 0x0, 0x0, 0xFFF, 0x0, 0x0, 0x40A⟩,
   ⟨Reg.CAL_PERIOD, 0x0, 0x0, 0x0, 0xFFFF, 0x0, 0x0, 0x3C⟩,
   ⟨Reg.CAL_TEMPD, 0x0, 0x0, 0x0, 0xFF, 0x0, 0x0, 0x8⟩]
/-- The words of block CAL that are numbered. -/
def regsCalN (n : Nat) : List RegInfo :=
  [⟨Reg.CAL_QUALRES n, 0x0, 0x0, 0x0, 0x0, 0x0, 0x0, 0xFFFF⟩,
   ⟨Reg.CAL_QUALSPR n, 0x0, 0x0, 0x0, 0x0, 0x0, 0x0, 0xFFFF⟩]
/-- The words of block VAL that are numbered. -/
def regsValN (n : Nat) : List RegInfo :=
  [⟨Reg.VAL_STAT n, 0x0, 0x264, 0x0, 0x0, 0x0, 0x0, 0x0⟩,
   ⟨Reg.VAL_CTRL n, 0x0, 0x0, 0x0, 0x8F00, 0x0, 0x0, 0x0⟩]
/-- The words of block LOOP that are numbered. -/
def regsLoopN (n : Nat) : List RegInfo :=
  [⟨Reg.LOOP_MODE n, 0x0, 0x0, 0x0, 0x3, 0x0, 0x0, 0x0⟩,
   ⟨Reg.LOOP_STAT n, 0x0, 0x4, 0x0, 0x0, 0x0, 0x0, 0x0⟩,
   ⟨Reg.LOOP_CFG n, 0x0, 0x0, 0x0, 0x0, 0xE000, 0x0, 0x2000⟩,
   ⟨Reg.LOOP_DAC n, 0x0, 0x0, 0x0, 0x0, 0x0, 0x0, 0x0⟩,
   ⟨Reg.LOOP_RBACK n, 0x0, 0x0, 0x0, 0x0, 0x0, 0x0, 0x0⟩,
   ⟨Reg.LOOP_RBTOL n, 0x0, 0x0, 0x0, 0xFFFF, 0x0, 0x0, 0x111⟩,
   ⟨Reg.LOOP_RBTMO n, 0x0, 0x0, 0x0, 0xFFFF, 0x0, 0x0, 0xA⟩,
   ⟨Reg.LOOP_LVTMO n, 0x0, 0x0, 0x0, 0xFFFF, 0x0, 0x0, 0x64⟩,
   ⟨Reg.LOOP_FVTMO n, 0x0, 0x0, 0x0, 0xFFFF, 0x0, 0x0, 0xC8⟩,
   ⟨Reg.LOOP_FIXED n, 0xFFFF, 0x0, 0x0, 0x0, 0x0, 0x0, 0x2555⟩,
   ⟨Reg.LOOP_PARK n, 0x0, 0x0, 0x0, 0xFFFF, 0x0, 0x0, 0x2AAB⟩,
   ⟨Reg.LOOP_CLRC n, 0x0, 0x0, 0x0, 0xFFFF, 0x0, 0x0, 0x2AAB⟩]
/-- The words of block FSK that are numbered. -/
def regsFskN (n : Nat) : List RegInfo :=
  [⟨Reg.FSK_STAT n, 0x0, 0x7A0, 0x0, 0x0, 0x0, 0x0, 0x0⟩,
   ⟨Reg.FSK_CTRL n, 0x0, 0x0, 0x0, 0xFC00, 0x0, 0x0, 0x8C00⟩]
/-- The words of block ROPE. -/
def regsRope : List RegInfo :=
  [⟨Reg.ROPE_STAT, 0x0, 0x1C00, 0x0, 0x0, 0x0, 0x0, 0x0⟩,
   ⟨Reg.ROPE_ADDR, 0x0, 0x0, 0x0, 0x0, 0x0, 0x0, 0x0⟩,
   ⟨Reg.ROPE_CFG, 0x0, 0x0, 0x0, 0x0, 0xDF00, 0x0, 0x0⟩,
   ⟨Reg.ROPE_UP, 0x0, 0x1000, 0x0, 0x0, 0x0, 0x0, 0xC000⟩,
   ⟨Reg.ROPE_DN, 0x0, 0x1000, 0x0, 0x0, 0x0, 0x0, 0xC000⟩,
   ⟨Reg.ROPE_VTMO, 0x0, 0x0, 0x0, 0xFF, 0x0, 0x0, 0x14⟩,
   ⟨Reg.ROPE_PTMO, 0x0, 0x0, 0x0, 0xFFFF, 0x0, 0x0, 0x64⟩,
   ⟨Reg.ROPE_CMT, 0x0, 0x0, 0x0, 0x0, 0x0, 0xFFFF, 0x0⟩,
   ⟨Reg.ROPE_CSTAT, 0x0, 0x40, 0x0, 0x0, 0x0, 0x0, 0x0⟩,
   ⟨Reg.ROPE_REASON, 0x0, 0x0, 0x0, 0x0, 0x0, 0x0, 0x0⟩,
   ⟨Reg.ROPE_TEAMS, 0x0, 0x0, 0x0, 0x0, 0x0, 0x0, 0x0⟩,
   ⟨Reg.ROPE_SHARE, 0x0, 0x0, 0x0, 0xFF, 0x0, 0x0, 0x0⟩]
  ++ [⟨Reg.ROPE_ERRCNT, 0x0, 0x0, 0xFFFF, 0x0, 0x0, 0x0, 0x0⟩]
/-- The words of block XMEM. -/
def regsXmem : List RegInfo :=
  [⟨Reg.XMEM_STAT, 0x0, 0x200, 0x0, 0x0, 0x0, 0x0, 0x0⟩,
   ⟨Reg.XMEM_CFG, 0x0, 0x0, 0x0, 0x0, 0xFFFF, 0x0, 0x1000⟩,
   ⟨Reg.XMEM_SIZE, 0x0, 0x0, 0x0, 0x0, 0x0, 0x0, 0x0⟩,
   ⟨Reg.XMEM_SIZE + 1, 0x0, 0x0, 0x0, 0x0, 0x0, 0x0, 0x0⟩,
   ⟨Reg.XMEM_CLK, 0x3F, 0x0, 0x0, 0x0, 0x0, 0x0, 0x21⟩]
/-- The words of block XFER. -/
def regsXfer : List RegInfo :=
  [⟨Reg.XFER_CTRL, 0xFFFF, 0x0, 0x0, 0x0, 0x0, 0x0, 0x128⟩,
   ⟨Reg.XFER_STAT, 0x0, 0x3D08, 0x0, 0x0, 0x0, 0x0, 0x0⟩,
   ⟨Reg.XFER_RING, 0xFFFF, 0x0, 0x0, 0x0, 0x0, 0x0, 0x0⟩,
   ⟨Reg.XFER_HEAD, 0x0, 0x0, 0x0, 0x0, 0x0, 0x0, 0x0⟩,
   ⟨Reg.XFER_TAIL, 0x0, 0x0, 0x0, 0x0, 0x0, 0x0, 0x0⟩,
   ⟨Reg.XFER_WPTR, 0xFFFF, 0x0, 0x0, 0x0, 0x0, 0x0, 0x0⟩,
   ⟨Reg.XFER_WPTR + 1, 0xFFFF, 0x0, 0x0, 0x0, 0x0, 0x0, 0x2⟩,
   ⟨Reg.XFER_CAP, 0xCFFF, 0x0, 0x0, 0x0, 0x0, 0x3000, 0x0⟩,
   ⟨Reg.XFER_CAPST, 0x0, 0x3000, 0x0, 0x0, 0x0, 0x0, 0x0⟩,
   ⟨Reg.XFER_PULL, 0xFFFF, 0x0, 0x0, 0x0, 0x0, 0x0, 0x0⟩]
/-- The words of block NVM. -/
def regsNvm : List RegInfo :=
  [⟨Reg.NVM_STAT, 0x0, 0x3000, 0x0, 0x0, 0x0, 0x0, 0x0⟩,
   ⟨Reg.NVM_CTRL, 0x0, 0x0, 0x0, 0x0, 0x0, 0xFF1F, 0x0⟩,
   ⟨Reg.NVM_ADDR, 0xFFFF, 0x0, 0x0, 0x0, 0x0, 0x0, 0x0⟩,
   ⟨Reg.NVM_DATA, 0xFFFF, 0x0, 0x0, 0x0, 0x0, 0x0, 0x0⟩,
   ⟨Reg.NVM_KEY, 0x0, 0x0, 0x0, 0x0, 0x0, 0xFFFF, 0x0⟩,
   ⟨Reg.NVM_JSTAT, 0x0, 0xD000, 0x0, 0x0, 0x0, 0x0, 0x0⟩]
/-- The words of block CNT that are numbered. -/
def regsCntN (n : Nat) : List RegInfo :=
  [⟨Reg.CNT n, 0x0, 0x0, 0x0, 0x0, 0x0, 0x0, 0x0⟩,
   ⟨Reg.CNT n + 1, 0x0, 0x0, 0x0, 0x0, 0x0, 0x0, 0x0⟩]
/-- The words of block LOG. -/
def regsLog : List RegInfo :=
  [⟨Reg.LOG_STAT, 0x0, 0x1C00, 0x0, 0x0, 0x0, 0x0, 0x10⟩,
   ⟨Reg.LOG_MODE, 0x0, 0x0, 0x0, 0x0, 0x3, 0x0, 0x2⟩,
   ⟨Reg.LOG_SEQ, 0x0, 0x0, 0x0, 0x0, 0x0, 0x0, 0x0⟩,
   ⟨Reg.LOG_CURSOR, 0xC3FF, 0x0, 0x0, 0x0, 0x0, 0x0, 0x0⟩,
   ⟨Reg.LOG_SNAP, 0x0, 0x0, 0x0, 0x0, 0x0, 0x0, 0x8000⟩,
   ⟨Reg.LOG_CHAL, 0x0, 0x0, 0x0, 0x0, 0x0, 0x0, 0x0⟩,
   ⟨Reg.LOG_CHAL + 1, 0x0, 0x0, 0x0, 0x0, 0x0, 0x0, 0x0⟩,
   ⟨Reg.LOG_CHAL + 2, 0x0, 0x0, 0x0, 0x0, 0x0, 0x0, 0x0⟩,
   ⟨Reg.LOG_CHAL + 3, 0x0, 0x0, 0x0, 0x0, 0x0, 0x0, 0x0⟩,
   ⟨Reg.LOG_CLR, 0x0, 0x0, 0x0, 0x0, 0x0, 0xFFFF, 0x0⟩,
   ⟨Reg.LOG_CLR + 1, 0x0, 0x0, 0x0, 0x0, 0x0, 0xFFFF, 0x0⟩,
   ⟨Reg.LOG_CLR + 2, 0x0, 0x0, 0x0, 0x0, 0x0, 0xFFFF, 0x0⟩]
  ++ [⟨Reg.LOG_CLR + 3, 0x0, 0x0, 0x0, 0x0, 0x0, 0xFFFF, 0x0⟩,
   ⟨Reg.LOG_CLRST, 0x0, 0x0, 0x0, 0x0, 0x0, 0x0, 0x0⟩,
   ⟨Reg.LOG_WIN, 0x0, 0x0, 0x0, 0x0, 0x0, 0x0, 0x0⟩,
   ⟨Reg.LOG_WIN + 1, 0x0, 0x0, 0x0, 0x0, 0x0, 0x0, 0x0⟩,
   ⟨Reg.LOG_WIN + 2, 0x0, 0x0, 0x0, 0x0, 0x0, 0x0, 0x0⟩,
   ⟨Reg.LOG_WIN + 3, 0x0, 0x0, 0x0, 0x0, 0x0, 0x0, 0x0⟩,
   ⟨Reg.LOG_WIN + 4, 0x0, 0x0, 0x0, 0x0, 0x0, 0x0, 0x0⟩,
   ⟨Reg.LOG_WIN + 5, 0x0, 0x0, 0x0, 0x0, 0x0, 0x0, 0x0⟩,
   ⟨Reg.LOG_WIN + 6, 0x0, 0x0, 0x0, 0x0, 0x0, 0x0, 0x0⟩,
   ⟨Reg.LOG_WIN + 7, 0x0, 0x0, 0x0, 0x0, 0x0, 0x0, 0x0⟩,
   ⟨Reg.LOG_WIN + 8, 0x0, 0x0, 0x0, 0x0, 0x0, 0x0, 0x0⟩,
   ⟨Reg.LOG_WIN + 9, 0x0, 0x0, 0x0, 0x0, 0x0, 0x0, 0x0⟩]
  ++ [⟨Reg.LOG_WIN + 10, 0x0, 0x0, 0x0, 0x0, 0x0, 0x0, 0x0⟩,
   ⟨Reg.LOG_WIN + 11, 0x0, 0x0, 0x0, 0x0, 0x0, 0x0, 0x0⟩,
   ⟨Reg.LOG_WIN + 12, 0x0, 0x0, 0x0, 0x0, 0x0, 0x0, 0x0⟩,
   ⟨Reg.LOG_WIN + 13, 0x0, 0x0, 0x0, 0x0, 0x0, 0x0, 0x0⟩,
   ⟨Reg.LOG_WIN + 14, 0x0, 0x0, 0x0, 0x0, 0x0, 0x0, 0x0⟩,
   ⟨Reg.LOG_WIN + 15, 0x0, 0x0, 0x0, 0x0, 0x0, 0x0, 0x0⟩]
/-- The words of block FLT. -/
def regsFlt : List RegInfo :=
  [⟨Reg.FLT_FIRST, 0x0, 0x0, 0x0, 0x0, 0x0, 0x0, 0x0⟩,
   ⟨Reg.FLT_FIRST + 1, 0x0, 0x0, 0x0, 0x0, 0x0, 0x0, 0x0⟩,
   ⟨Reg.FLT_LAST, 0, 0, 0, 0, 0, 0, 0⟩,
   ⟨Reg.FLT_LAST + 1, 0, 0, 0, 0, 0, 0, 0⟩,
   ⟨Reg.FLT_STAT, 0x7, 0x500, 0x0, 0x0, 0x0, 0x0, 0x4000⟩,
   ⟨Reg.FLT_CLR, 0x0, 0x0, 0x0, 0x0, 0x0, 0xFF0F, 0x0⟩,
   ⟨Reg.FLT_CCNT, 0x0, 0x0, 0x0, 0x0, 0x0, 0x0, 0x0⟩,
   ⟨Reg.FLT_UCNT, 0x0, 0x0, 0x0, 0x0, 0x0, 0x0, 0x0⟩,
   ⟨Reg.FLT_ACT, 0x0, 0x0, 0x0, 0x0, 0x0, 0x0, 0x0⟩,
   ⟨Reg.FLT_ACT + 1, 0x0, 0x0, 0x0, 0x0, 0x0, 0x0, 0x0⟩,
   ⟨Reg.FLT_ACT + 2, 0x0, 0x0, 0x0, 0x0, 0x0, 0x0, 0x0⟩,
   ⟨Reg.FLT_ACT + 3, 0x0, 0x0, 0x0, 0x0, 0x0, 0x0, 0x0⟩]
  ++ [⟨Reg.FLT_INJ, 0x0, 0x0, 0x0, 0x0, 0x0, 0xFFFF, 0x0⟩]
/-- The words of block THM that are numbered. -/
def regsThmN (n : Nat) : List RegInfo :=
  [⟨Reg.THM_T n, 0x0, 0x0, 0x0, 0x0, 0x0, 0x0, 0x0⟩]
/-- The words of block THM. -/
def regsThm : List RegInfo :=
  [⟨Reg.THM_STAT, 0x0, 0x1000, 0x0, 0x0, 0x0, 0x0, 0x0⟩,
   ⟨Reg.THM_GRACE, 0x0, 0x0, 0x0, 0x3FF, 0x0, 0x0, 0x64⟩,
   ⟨Reg.THM_MAX, 0x0, 0x0, 0xFFFF, 0x0, 0x0, 0x0, 0x0⟩]
/-- The rows of the map (R168) among which a word address lies. A word that is in none of them is reserved (R5, R116). -/
def regArea (a : Nat) : List RegInfo :=
  if a < 32 then regsSys
  else if a < 48 then regsPwr
  else if a < 64 then (List.range 4).flatMap regsThmN ++ regsThm
  else if a < 96 then regsFlt
  else if a < 128 then regsAng
  else if a < 160 then regsSeq
  else if a < 186 then regsSlcN ((a - 160) / 2)
  else if a < 192 then regsSlc
  else if a < 194 then regsRef
  else if a < 200 then regsExc
  else if a < 224 then regsExcN ((a - 200) / 6)
  else if a < 230 then regsCal
  else if a < 256 then regsCalN ((a - 230) / 2)
  else if a < 352 then regsLoopN ((a - 256) / 16) ++ regsValN ((a - 256) / 16) ++ regsFskN ((a - 256) / 16)
  else if a < 384 then regsRope
  else if a < 400 then regsXmem
  else if a < 416 then regsXfer
  else if a < 432 then regsNvm
  else if a < 448 then regsCntN ((a - 432) / 2)
  else if a < 480 then regsLog
  else if a < 496 then regsStg
  else if a < 512 then regsWinN ((a - 496) / 4)
  else []

/-- The map's row for a word address, or the row of a reserved word. -/
def regInfo (a : Nat) : RegInfo :=
  ((regArea a).find? (fun r => r.addr == a)).getD { addr := a }

/-- True of the word addresses that R168 lists. -/
def regExists (a : Nat) : Bool := (regArea a).any (fun r => r.addr == a)

/-- What a register word reads as after reset and with no image loaded. -/
def regReset (a : Nat) : Word := BitVec.ofNat 16 (regInfo a).reset

end Sys2Proof.Machine
end

