-- ==== Sys2Proof/Machine/State.lean ====
section
/-! DEFINITION. The state of the NM6448 as plain data: the register map, the tables, the memories, the pins, and the
state of every block that the spec names outside the register map. A value that a register shows is held in that
register and nowhere else. -/

namespace Sys2Proof.Machine

/-- Why the machine stops. -/
inductive Fault where
  /-- Raised by a meaning whose command names a unit, a register or a value that the block does not have (a loop above
  5, a slice above 12). Safe: the outside world cannot send such a command. -/
  | badOperand
deriving DecidableEq, Repr

/-- Why a command has no meaning in the model. -/
inductive Refusal where
  /-- Raised by the dispatch for a command not modelled. Safe: nothing is claimed of it. -/
  | notModelled (mnemonic : String)
deriving DecidableEq, Repr

/-- The reset sources of R68. -/
inductive ResetSrc where
  | por
  | bor
  | xrst
  | watchdog
  | software
  | ropeReset
deriving DecidableEq, Repr

/-- What one access answers (R124): its BUSY, DENY, TORN and UNITERR bits as a status byte, and its data word. -/
structure Answer where
  status : Nat
  data : Word
deriving DecidableEq, Repr

/-- What one access path holds of its own: the shadows of R136 to R139, STG.VIEW (R160), the log cursor, base,
snapshot and LOG.SNAP (R621), and the key of R606. A shadow lists (quantity address, word). -/
structure PathState where
  readShadow : List (Nat × Word) := []
  writeShadow : List (Nat × Word) := []
  view : Bool := false
  cursor : Word := 0
  base : Option Word := none
  snap : List Byte := []
  snapStat : Word := 0x8000
  nvmKey : Bool := false
deriving DecidableEq, Repr

/-- A pending remote access (R130 to R135): its tag, and its answer once it has one. -/
structure Remote where
  tag : Nat
  write : Bool
  answer : Option Answer
deriving DecidableEq, Repr

/-- The host port (R117 to R135): the answer that the next frame carries, the bytes last shifted out, the open burst
as (W, UNIT, last address), and the pending remote access. -/
structure HostPort where
  answer : Answer := ⟨0, 0⟩
  shifted : List Byte := []
  driven : Bool := false
  burst : Option (Bool × Nat × Nat) := none
  remote : Option Remote := none
deriving DecidableEq, Repr

/-- What the boot sequencer has found so far (R71 to R77). -/
structure Boot where
  imageDone : Bool := false
  scanDone : Bool := false
  memory : Bool := false
  candidate : Option Nat := none
  magicA : Bool := false
  magicB : Bool := false
  tie : Bool := false
  refWait : Bool := false
  lockDone : Bool := false
  cause : ResetSrc := .por
  mapRec : Option (List Word) := none
  closedMap : Bool := false
  journalRanges : List (Nat × Nat) := []
  skipped : Nat := 0
  skipType : Nat := 0
  seqA : Nat := 0
  seqB : Nat := 0
deriving DecidableEq, Repr

/-- The supply dip of R93 and R94: the clock of its first crossing of 2.90 V, the clock of its last crossing of 2.95 V
while the recovery timer runs, and the lowest VDDA in mV. -/
structure Dip where
  start : Nat
  rise : Option Nat
  minMv : Nat
deriving DecidableEq, Repr

/-- Resets, modes, straps and clocks (03). `strapDue` and `testDue` say that ALMSEL and TEST are still to be sampled for
the last BOR or POR (R16, R17); `vddio` that the VDDA, VDDD and VDDIO regulators have started and `xosc` that the crystal
oscillator has (R11, R71). -/
structure Sys where
  held : Bool := true
  asserted : List ResetSrc := [.por]
  waiting : List ResetSrc := []
  boot : Boot := {}
  fatal : Option (Nat × Nat) := none
  prot : List Word := []
  dip : Option Dip := none
  xclrLow : Bool := false
  bleed : Bool := false
  bivRef : Bool := false
  bivExit : Bool := false
  crystal : Bool := false
  slowClock : Bool := false
  slicesOn : Bool := false
  vddio : Bool := false
  xosc : Bool := false
  strapDue : Bool := true
  testDue : Bool := true
deriving DecidableEq, Repr

/-- A waiting or granted credit request (R44, R45); `tag` tells the requests of one requester apart. -/
structure Burst where
  who : Requester
  credits : Nat
  tag : Nat
deriving DecidableEq, Repr

/-- A lease (R47, R48) in 0.1 mW and credits; its state is the code of R63. -/
structure Lease where
  state : Nat := 0
  want : Nat := 0
  guar : Nat := 0
  opp : Nat := 0
  cover : Nat := 0
deriving DecidableEq, Repr

/-- The power arbiter (02). `hostAsked` says that the host lease has been asked for since the reset and not ended (R50,
R103), and `floorLoad` is the internal load of R70 in 0.1 mW. -/
structure Power where
  vt : List Nat := [0, 0, 0, 0, 0, 0]
  shed : List Nat := []
  loopUa : List Nat := [3500, 3500, 3500, 3500, 3500, 3500]
  granted : List Burst := []
  waiting : List Burst := []
  exc : Lease := {}
  host : Lease := {}
  rope : Lease := {}
  discharge : Bool := false
  shuntInt : Bool := false
  surplusUa : Nat := 0
  hostCut : Bool := false
  hostNotice : Bool := false
  hostAsked : Bool := false
  floorLoad : Nat := 0
deriving DecidableEq, Repr

/-- The staging state (R147 to R155) outside STG.STAT: the staged words by key, the disabled topo entries written since
they failed (R319), the COEF entries and CHAR tables written since the last swap, the copies under way, the check in progress (0 a CHECK, 1 a COMMIT, 2 a team
PREPARE; its AT code and its path), the armed
commit with its AT code (3: a team commit, at an angle and pass), whether a team PREPARE holds the shadow, and whether
the commit instant has come. -/
structure Staging where
  regs : List (Nat × Word) := []
  topo : List (Nat × Word) := []
  route : List (Nat × Word) := []
  valprog : List (Nat × Word) := []
  wave : List (Nat × Word) := []
  fsk : List (Nat × Word) := []
  topoSince : List Nat := []
  coefHost : List Nat := []
  charHost : List Nat := []
  coefCopy : Bool := false
  charCopy : Bool := false
  checking : Option (Nat × Nat × Path) := none
  armed : Bool := false
  armedAt : Nat := 0
  armedAngle : Nat := 0
  armedPass : Nat := 0
  teamHeld : Bool := false
  reached : Bool := false
deriving DecidableEq, Repr

/-- The table spaces of R143 in their active copies, keyed by entry × words per entry + offset, and the inactive banks
of COEF and CHAR, and the active CHAR tables in fallback (R426). -/
structure Tables where
  topo : List (Nat × Word) := []
  route : List (Nat × Word) := []
  result : List (Nat × Word) := []
  coef : List (Nat × Word) := []
  coefAlt : List (Nat × Word) := []
  char : List (Nat × Word) := []
  charAlt : List (Nat × Word) := []
  valprog : List (Nat × Word) := []
  wave : List (Nat × Word) := []
  fsk : List (Nat × Word) := []
  team : List (Nat × Word) := []
  charBad : List Nat := []
deriving DecidableEq, Repr

/-- One loop port (R440 to R454). -/
structure LoopSt where
  mode : Nat := 0
  modePend : Bool := false
  held : Option Nat := none
  fvRun : Bool := false
  setpoint : Nat := 9557
  hasValue : Bool := false
  devCount : Nat := 0
  lowvSeen : Bool := false
  startSeen : Bool := true
  lvTimer : Bool := false
  lvRetry : Bool := false
  parked : Bool := false
  trimZero : Int := 0
  trimSpan : Int := 0
  trimPend : Option (Int × Int) := none
deriving DecidableEq, Repr

/-- A frame on its way out of an FSK channel: its bytes, and the slot that its end frees. -/
structure FskTx where
  bytes : List Byte
  slot : Option Nat
deriving DecidableEq, Repr

/-- One FSK channel (R455 to R468): the frames going out, the one in progress first, the clock at which each slot's
message ended, and the master bit of the next burst frame. -/
structure FskSt where
  tx : List FskTx := []
  arrived : List (Nat × Nat) := []
  burstMaster : Bool := true
deriving DecidableEq, Repr

/-- One excitation output (R247 to R267): the events that hold it in its clear state, whether it has left that state,
whether its home connections are closed, the change that waits for its application point with the clock of its commit
instant and the settings and clear route in force until then, the break of R265, the phase accumulator, the connected
time of R258 in core clocks in the interval that began at a clock, and whether clear connections wait for the end of the
break. -/
structure ExcSt where
  clearBy : List Nat := []
  atCode : Bool := false
  home : Bool := false
  pending : Bool := false
  pendAt : Nat := 0
  breakOn : Bool := false
  applied : List Word := []
  appliedRt : List Word := []
  acc : Nat := 0
  onClocks : Nat := 0
  intervalStart : Nat := 0
  overcurrent : Bool := false
  clearOn : Bool := false
deriving DecidableEq, Repr

/-- A connection of the crosspoint: a pin closed in a role (R219, R235). -/
structure Conn where
  pin : Nat
  role : Nat
  owner : Nat
deriving DecidableEq, Repr

/-- A scheduled, urgent or direct occurrence (R325, R337, R292): its kind (0, 1, 2), its entry index, the word of an
urgent or direct request, the clock of its trigger, the low 16 bits of ANG.PASS there, and ATIME from a trigger of the
resynchronisation step (R196). -/
structure Occ where
  kind : Nat
  entry : Nat
  word : Nat
  clock : Nat
  pass : Nat
  atime : Bool
deriving DecidableEq, Repr

/-- The integration of a window in modulator cycles (R277, R278): those of its length, those integrated, the held cycles
still to come, and the chop period in progress: the cycles integrated in it, its length, and whether it is the final one;
`plus` counts the integrated cycles of the first polarity. -/
structure Chop where
  elapsed : Nat := 0
  done : Nat := 0
  hold : Nat := 0
  pos : Nat := 0
  len : Nat := 64
  last : Bool := false
  plus : Nat := 0
deriving DecidableEq, Repr

/-- A window in progress, or one whose result is still to be written (R276): its occurrence, its phase (1 setup, 2
setup and settle, 3 integrating), the entry and route words in force, the working gain code, the trim codes loaded, the
level of its burnout sources, its length, the clock of its first integrated cycle, the travel since, its marks, the slice
that runs it paired in an overlap (R368), its burnout selection, the overload cycles carried into it (R244), its integration,
whether the angle has crossed its end, whether a commit has changed its entry since, and whether it converts against REFIO
(R296). -/
structure Window where
  occ : Occ
  phase : Nat
  topo : List Word
  route : List Word
  routeIdx : Nat
  base : Nat
  gain : Nat
  ofs : Int
  gn : Int
  burn : Nat
  angleWin : Bool
  cycles : Nat
  ticks : Nat
  setStart : Nat
  intStart : Nat
  travel : Nat
  short : Bool
  early : Bool
  supd : Bool
  atime : Bool
  setl : Bool
  half : Bool
  lostFirst : List Nat
  lostSecond : List Nat
  sub : Bool
  partner : Option Nat
  burst : Bool
  sel : Nat := 0
  carry : Nat := 0
  chop : Chop := {}
  crossed : Bool := false
  stale : Bool := false
  ext : Bool := false
deriving DecidableEq, Repr

/-- One conversion slice (R276 to R293): its window in progress, the windows whose results are due, the occurrences
waiting for it, what its previous window used, the overload cycles carried (R244), and whether it is off (R293). -/
structure SliceSt where
  win : Option Window := none
  ended : List Window := []
  pending : List Occ := []
  prev : Option (Nat × List Word × Nat × Nat) := none
  overCarry : Nat := 0
  off : Bool := true
  offPend : Bool := false
deriving DecidableEq, Repr

/-- The sequencer (09) outside its registers: the urgent queue and the slice that runs its head, the frame queue, the
TIME entries whose timer runs, the AFTER entries about to fire, the occurrence counts, the entries that owe SETL, those
disabled for their CRC, the working gains of R290, the engine running time at which each result register was written
(R403), and the time the engines have been frozen (R435). -/
structure Seq where
  urgent : List Occ := []
  urgentOn : Option Nat := none
  frameQ : List (Nat × Nat × Nat × Nat) := []
  timeRun : List Nat := []
  afterRun : List (Nat × Nat) := []
  divCount : List (Nat × Nat) := []
  setlOwed : List Nat := []
  crcDead : List Nat := []
  dropped : Bool := false
  gainAt : List (Nat × Nat) := []
  bias : List Nat := []
  refBad : Nat := 0
  refDiff : Nat := 0
  resAt : List (Nat × Nat) := []
  frozenFor : Nat := 0
  frozenAt : Option Nat := none
deriving DecidableEq, Repr

/-- Calibration and the swing lead (10) outside CAL.STAT: the due slices, longest-due first, the retries of each slice,
the live slice that the swing slice serves, whether that is a retest, the compared pairs of each entry in the overlap in
progress and the clock it began at, the failed TAKE overlaps, the slice of a PROBE, the slices that the host holds in direct
mode and those of them it has released (R291), whether the calibration of the present phase has started (R362, R363), and
the system calibration with its repeats and whether a window of its point was skipped (R383). -/
structure Cal where
  due : List Nat := []
  retries : List (Nat × Nat) := []
  cover : Option Nat := none
  retest : Bool := false
  pairs : List (Nat × Nat) := []
  overlapAt : Option Nat := none
  compared : Nat := 0
  worst : Nat := 0
  takeFails : Nat := 0
  probe : Option Nat := none
  hostDirect : List Nat := []
  hostFree : List Nat := []
  measuring : Bool := false
  sys : Option (Bool × Nat × Nat) := none
  sysTry : Nat := 0
  sysSkip : Bool := false
deriving DecidableEq, Repr

/-- What a stage holds from cycle to cycle (R414, R415, R418): whether it is initialised, its state y as a binary32, the
running time of its last update, its two breach states and its latch. -/
structure StageSt where
  ready : Bool := false
  y : Nat := 0
  time : Nat := 0
  lo : Bool := false
  hi : Bool := false
  latched : Bool := false
deriving DecidableEq, Repr

/-- What a cycle in progress has computed and will deliver at its end (R400): the running time of its start, the final X
with its validity, PV, PCT and TAPV of R439, the stages after it, its flags, the breaches in force, HOLDT, and the tables
it found in fallback. A binary32 is its 32 bits as a number. -/
structure CycleOut where
  start : Nat
  x : Nat × Bool
  pv : Nat × Bool
  pct : Nat
  tap : Nat × Bool
  stages : List StageSt
  num : Bool
  lrng : Bool
  sat : Bool
  latch : Bool
  lo : Bool
  hi : Bool
  holdt : Nat
deriving DecidableEq, Repr

/-- One value engine (11): its notices, the cycle in progress on datapath A and on datapath B, the RUN in force, its halts
(parameter n, parameter 0x10 + n), its stages,
the running time its hold began, an alarm request held until the next valid value, the last setpoint in mA and as a DAC
code, the stage codes in force, a commit waiting for the cycle's end, the complemented copies of R429, and its state entry
(R439). -/
structure EngSt where
  notices : List Nat := []
  cycle : Option CycleOut := none
  cycleB : Option CycleOut := none
  runs : Bool := false
  frozen : Bool := false
  haltN : Bool := false
  haltS : Bool := false
  stages : List StageSt := List.replicate 16 {}
  hold : Option Nat := none
  expired : Bool := false
  setMa : Nat := 0
  dac : Nat := 0
  ops : List Nat := List.replicate 16 0
  cfgPend : Bool := false
  progTwin : List (Nat × Word) := []
  stateTwin : List Nat := []
  entry : List Word := List.replicate 16 0
deriving DecidableEq, Repr

/-- The angle base (05) outside its registers: the 32-bit accumulator of R184 with its remainder and its increment as a
quotient, the next expected event angle and its distance, the measured intervals, the dead band of R191, the teeth and
counts seen, the travel since the last counted crossing, the mains candidate, and the beacons. -/
structure Ang where
  acc : Nat := 0
  rem : Nat := 0
  num : Nat := 0
  den : Nat := 1
  expected : Option Nat := none
  pitch : Nat := 4294967296
  speedQ : Nat := 0
  lastEvent : Option Nat := none
  interval : Option Nat := none
  prevInterval : Option Nat := none
  events : Nat := 0
  skip : Bool := false
  deadBand : Bool := false
  tooth : Option Nat := none
  history : List Nat := []
  quadA : Bool := false
  quadB : Bool := false
  quadI : Bool := false
  quadRise : Bool := false
  quadCount : Nat := 0
  quadTimes : List Nat := []
  travel : Nat := 0
  counted : Bool := false
  mainsCand : Option Nat := none
  atimePend : Bool := false
  beacon : Option Beacon := none
  beaconWait : List Beacon := []
  lastBeacon : Nat := 0
deriving DecidableEq, Repr

/-- A rope frame (R492): its channel, type, source, destination and payload, and whether it is being forwarded from the
other port's buffer. -/
structure RopeFrame where
  vc : Nat
  typ : Nat
  src : Nat
  dst : Nat
  payload : List Byte
  fwd : Bool := false
deriving DecidableEq, Repr

/-- One rope port (R490 to R498): the handshake, the credit counts of each channel, the channels whose credit return
waits, the frames waiting, the frame being sent with its CVC and CCNT, the clocks of the frames discarded lately, and
whether the port has left OFF and its first link loss is still to be declared. -/
structure PortSt where
  seen : Bool := false
  peer : Option Hello := none
  sent : List Nat := [0, 0, 0, 0]
  freed : List Nat := [0, 0, 0, 0]
  received : List Nat := [0, 0, 0, 0]
  freedOut : List Nat := [0, 0, 0, 0]
  creditPend : List Nat := []
  queue : List RopeFrame := []
  sending : Option (RopeFrame × Nat × Nat) := none
  errorsAt : List Nat := []
  holdDown : Bool := false
  unheard : Bool := false
deriving DecidableEq, Repr

/-- A commit led by this unit for a team slot (R516 to R522): its phase (0 none, 1 voting, 2 committing), its team,
sequence, angle and pass, the requester, the hop span, the units' votes and acknowledgements, and the last outcome. -/
structure LeadCommit where
  phase : Nat := 0
  team : Nat := 0
  seq : Nat := 0
  angle : Nat := 0
  pass : Nat := 0
  span : Nat := 0
  units : List Nat := []
  votes : List (Nat × Bool) := []
  acks : List Nat := []
  late : Bool := false
  outcome : Nat := 0
  cause : Nat := 0
deriving DecidableEq, Repr

/-- The member's side of a team commit (R518 to R521): its state (1 checking, 2 prepared, 3 armed, 4 ended), whether
X was crossed before COMMIT came, the OUTCOME code of R535 that it shows, and its prepare timeout Tp in 0.1 ms. -/
structure MemberCommit where
  leader : Nat
  team : Nat
  seq : Nat
  angle : Nat
  pass : Nat
  vtmo : Nat
  stage : Nat
  missed : Bool
  outcome : Nat := 0
  tp : Nat := 0
deriving DecidableEq, Repr

/-- A team write in progress (R511, R515): its slot, the requester's address (0 for the host port) and TAG, the units
still to answer with their TAGs, the answer bits gathered, the data, and whether the leader resets itself after it. -/
structure TeamWrite where
  slot : Nat
  src : Nat
  tag : Nat
  waiting : List (Nat × Nat)
  bits : Nat
  data : Nat
  last : Bool := false
deriving DecidableEq, Repr

/-- The rope unit (13): the ports, the frames received for this unit, DNMASK, the cumulative hop delay, the enumeration,
the head's binding table of units and teams, the units enumerated and those detached (longest first), beacon and hop-delay
state, what limits the stream, the teams that joined this unit as (leader, team), the members of each slot's team as
(kind, address) since its DEFINE, each member's last SUMMARY by 32 × slot + entry, each member team's UNITS and CLOSURE by
the same, the commits with the PREPAREs that wait for a check to end, the answer (its destination and TAG) behind which a rope
reset waits, and the window of R514: the core clocks run in it
and the DUE and MISS counts at its start. -/
structure Rope where
  up : PortSt := {}
  dn : PortSt := {}
  inbox : List (Port × RopeFrame) := []
  dnMask : Nat := 0
  cumDelay : Nat := 0
  proxy : Nat := 0
  enumOn : Bool := false
  binding : List (Nat × Nat) := []
  teamIds : List (Nat × Nat × Nat) := []
  chain : List Nat := []
  detached : List Nat := []
  bcnSeq : Nat := 0
  lastFwd : Option Nat := none
  tag : Nat := 0
  probes : List Nat := []
  probesLeft : Nat := 0
  base : Nat := 0
  ownLast : Bool := false
  vc2At : List (Nat × Nat) := []
  share : Nat × Nat := (0, 0)
  leads : List LeadCommit := [{}, {}, {}, {}]
  member : Option MemberCommit := none
  prepWait : List MemberCommit := []
  memberOf : List (Nat × Nat) := []
  teams : List (List (Nat × Nat)) := [[], [], [], []]
  sums : List (Nat × Summary) := []
  nested : List (Nat × Nat × Nat) := []
  teamWrites : List TeamWrite := []
  resetAfter : Option (Nat × Nat) := none
  imageTeams : List (List Word) := []
  avWindow : Nat × Nat × Nat := (0, 0, 0)
  avLoss : Nat := 0
  headDue : Bool := false
deriving DecidableEq, Repr

/-- A held stream frame or delivered capture (R549): its frames as (first block within its partition, bytes), the
capture record of R547 (empty for a stream frame), its number, the destinations outstanding (1 XMEM, 2 ROPE, 4 HOST),
and for each destination how far it has gone: the piece and the bytes of it taken. -/
structure Descr where
  frames : List (Nat × Nat)
  record : List Byte
  number : Nat
  dests : Nat
  atXmem : Nat × Nat := (0, 0)
  atRope : Nat × Nat := (0, 0)
  atHost : Nat × Nat := (0, 0)
deriving DecidableEq, Repr

/-- An external-memory operation (R557): 0 a program or write of bytes, 1 an erase of a 4 KiB sector, 2 a read of `len`
bytes. -/
structure XOp where
  kind : Nat
  addr : Nat
  bytes : List Byte
  mailbox : Bool
  len : Nat
deriving DecidableEq, Repr

/-- Capture and transfer (14): the open frame as (entry, low word, high word) with the AFLAGS, SPEED and START of its
opening, the capture RAM, the descriptors, the capture under way, the operation in progress and the mailbox, the sectors
erased ahead, the reassembly of R552, and the external memory with what its discovery gave. -/
structure Xfer where
  openFrame : Option (List (Nat × Nat × Nat)) := none
  opened : List Nat := []
  openPass : Nat := 0
  openCont : Bool := false
  contPass : Option Nat := none
  fseq : Nat := 0
  ram : List Host.Cell := []
  descrs : List Descr := []
  capFrames : List (Nat × Nat) := []
  capWanted : Nat := 0
  capCause : Nat := 0
  capStamp : List Nat := []
  capNumber : Nat := 0
  capPreKept : Nat := 0
  capDest : Nat := 0
  capStop : Bool := false
  op : Option XOp := none
  erased : List Nat := []
  mbox : List Word := []
  mboxPath : Path := .host
  mboxQ : List XOp := []
  mboxData : List Word := []
  reasm : List (Nat × Nat × List Byte) := []
  mem : List Host.Cell := []
  page : Nat := 256
  clockMax : Nat := 33
  readMode : Nat := 0
  readDummy : Nat := 0
  eraseOp : Nat := 0x20
  progTypUs : Nat := 0
  progMaxUs : Nat := 0
  eraseTypUs : Nat := 0
  eraseMaxUs : Nat := 0
deriving DecidableEq, Repr

/-- A cairn record on its way to the store (R611, R612): its code, its bytes 0 to 27 with SEQ blank, whether it is
programmed in one operation (R616) and whether it is the fatal record. -/
structure Rec where
  code : Nat
  bytes : List Byte
  single : Bool
  fatal : Bool
deriving DecidableEq, Repr

/-- A job of the flash queue (R582): a log record, the erase ahead of the log, a clearing with its LOGCLEARED record, a
journal save or repair (chain 0 is A), the compaction of a chain, the increment of a counter, the erase of a counter
sector left behind, the erase of a journal sector, and the raw commands. -/
inductive JobKind where
  | logRec (r : Rec)
  | logErase (sector : Nat)
  | clearing (r : Rec)
  | save (item : Nat) (data : List Byte)
  | repair (chain : Nat) (bytes : List Byte)
  | compact (chain : Nat)
  | counter (n : Nat)
  | counterErase (sector : Nat)
  | sectorErase (sector : Nat)
  | rawProg (addr : Nat) (bytes : List Byte)
  | rawErase (sector : Nat)
deriving DecidableEq, Repr

/-- What the operation of a job does: programs a record, marks it valid, voids it, opens a sector with its header, erases,
or advances a counter's byte. -/
inductive Doing where
  | record
  | mark
  | void
  | header
  | erase
  | count
deriving DecidableEq, Repr

/-- A queued job: whether it is a host job (R600), the steps it has done, what its operation does, whether a record is to
be voided and whether it is a repeat (R590), its record's place (a byte address, or a log slot), and the sequence number
of a save once it is taken. -/
structure Job where
  kind : JobKind
  host : Bool := false
  step : Nat := 0
  doing : Doing := .record
  voiding : Bool := false
  repeated : Bool := false
  place : Nat := 0
  seq : Option Nat := none
deriving DecidableEq, Repr

/-- A store operation (R581). -/
inductive FlashOp where
  | program (addr : Nat) (bytes : List Byte)
  | byteProgram (addr : Nat) (b : Byte)
  | erase (sector : Nat)
deriving DecidableEq, Repr

/-- The on-chip store and its users (15): the bytes, the words whose ECC-enable bit is programmed, the words in which the ECC
finds an error (true: uncorrectable, R580), the bytes that a program cut short left with bits that do not read the same each
time (R584), the flash queue, the operation in progress, the reason with which a part of the host job has failed (R600), the
buffer and its index, the clock the sub-hour count began at, and what boot reads: the event
bindings of CNT[4] to CNT[7], the factory trims with the ratio correction d of the precision divider (R363) as a fraction,
and the two keys. -/
structure Nvm where
  store : List Host.Cell := []
  ecc : List Nat := []
  errs : List (Nat × Bool) := []
  loose : List (Nat × Nat) := []
  jobs : List Job := []
  op : Option FlashOp := none
  jobFail : Nat := 0
  buf : List Byte := []
  bufIdx : Nat := 0
  subBase : Nat := 0
  bind : List Word := [0, 0, 0, 0]
  factory : List (Nat × Word) := []
  ratio : Nat × Nat := (1, 1)
  imgKey : Option (List Byte) := none
  logKey : Option (List Byte) := none
deriving DecidableEq, Repr

/-- A token bucket (R619). -/
structure Bucket where
  tokens : Nat := 4
  depth : Nat := 4
  count : Nat := 0
  first : Nat := 0
  last : Nat := 0
deriving DecidableEq, Repr

/-- The cairn log (16) outside its registers and its bytes in the store: the write point, the next sequence number, the
buckets, the outstanding challenge with its path, the clock at which the lockout ends, and the SEQ of a LOGCLEARED record whose
clearing a reset cut short: every older record counts as cleared (R627). -/
structure Log where
  writeSlot : Nat := 0
  nextSeq : Nat := 1
  buckets : List Bucket := List.replicate 32 {}
  chal : Option (Path × Nat) := none
  lockUntil : Nat := 0
  clearedBy : Option Nat := none
deriving DecidableEq, Repr

/-- The belay collector (17) outside its registers. -/
structure Flt where
  busy : Bool := false
  ignored : List Nat := []
  cond : List (Nat × Nat) := []
  injPath : Option Path := none
  hkaRun : Bool := false
deriving DecidableEq, Repr

/-- The thermal monitor (17) outside its registers; `sampled` says that THM.MAX holds a reading (R667). -/
structure Thm where
  sampled : Bool := false
  badRuns : List Nat := [0, 0, 0, 0]
  hotRuns : List Nat := [0, 0, 0, 0]
  graceRun : Bool := false
  coolRun : Bool := false
deriving DecidableEq, Repr

/-- The exact owner of a window (R142), and whether its entry index has passed 2,047, which CUR cannot show (R145). -/
structure Win where
  owner : Option Path := none
  past : Bool := false
deriving DecidableEq, Repr

/-- The machine. `now` counts periods of 16.384 MHz (log entry 2); `free` is the counter a free value is drawn at
(log entry 1); `pending` is the queue of waiting commands. -/
structure State where
  regs : List (Nat × Word)
  paths : List (Nat × PathState)
  host : HostPort
  wins : List Win
  sys : Sys
  pwr : Power
  stg : Staging
  tab : Tables
  ang : Ang
  exc : List ExcSt
  conns : List Conn
  slices : List SliceSt
  seq : Seq
  cal : Cal
  eng : List EngSt
  loops : List LoopSt
  fsk : List FskSt
  rope : Rope
  xfer : Xfer
  nvm : Nvm
  log : Log
  flt : Flt
  thm : Thm
  now : Nat
  free : Nat
  pending : List Instr
deriving DecidableEq, Repr

/-- The machine right after power-on reset (R68, R89 and the reset column of every register table): every register at
its reset value, POR asserted, the queue empty. -/
def State.reset : State where
  regs := []
  paths := []
  host := {}
  wins := [{}, {}, {}, {}]
  sys := {}
  pwr := {}
  stg := {}
  tab := {}
  ang := {}
  exc := [{}, {}, {}, {}]
  conns := []
  slices := List.replicate 13 {}
  seq := {}
  cal := {}
  eng := List.replicate 6 {}
  loops := List.replicate 6 {}
  fsk := List.replicate 6 {}
  rope := {}
  xfer := {}
  nvm := {}
  log := {}
  flt := {}
  thm := {}
  now := 0
  free := 0
  pending := []

end Sys2Proof.Machine
end

