-- ==== Sys2Proof/Machine/Ops.lean ====
section
/-! DEFINITION. The named operations over registers, per-path state, the unit lists and the memories, and the check
words of R6 and R121. Every meaning is written over these. -/

namespace Sys2Proof.Machine

/-! ### Outcomes -/

/-- The outcome of a command whose operands name things the block has: the next state, else the fault of log entry 7. -/
def answerIf (ok : Bool) (t : State) : Host.Outcome State Fault Refusal :=
  if ok then .next t else .fault .badOperand

/-! ### Registers -/

/-- The ones of a field within its word. -/
def fieldMask (lo width : Nat) : Word := (BitVec.allOnes 16 >>> (16 - width)) <<< lo

/-- A word with the field at `lo` of `width` bits replaced. -/
def putField (w : Word) (lo width v : Nat) : Word :=
  (w &&& ~~~(fieldMask lo width)) ||| ((BitVec.ofNat 16 v <<< lo) &&& fieldMask lo width)

/-- The field at `lo` of `width` bits of a word. -/
def getField (w : Word) (lo width : Nat) : Nat := (w.extractLsb' lo width).toNat

/-- A register word. -/
def State.reg (s : State) (a : Nat) : Word := readAt regReset s.regs a

/-- Set a register word. -/
def State.setReg (s : State) (a : Nat) (w : Word) : State := { s with regs := writeAt regReset s.regs a w }

/-- A field of a register. -/
def State.fld (s : State) (f : Fld) : Nat := getField (s.reg f.addr) f.lo f.width

/-- Set a field of a register, leaving the word's other bits. -/
def State.setFld (s : State) (f : Fld) (v : Nat) : State :=
  s.setReg f.addr (putField (s.reg f.addr) f.lo f.width v)

/-- A one-bit field. -/
def State.flag (s : State) (f : Fld) : Bool := s.fld f == 1

/-- Set a one-bit field. -/
def State.setFlag (s : State) (f : Fld) (b : Bool) : State := s.setFld f (if b then 1 else 0)

/-- A register word as a number. -/
def State.regN (s : State) (a : Nat) : Nat := (s.reg a).toNat

/-- Set a register word from a number, modulo 2^16. -/
def State.setRegN (s : State) (a v : Nat) : State := s.setReg a (word v)

/-- A 32-bit quantity, low word first (R3). -/
def State.reg32 (s : State) (a : Nat) : Nat := s.regN a + 65536 * s.regN (a + 1)

/-- Set a 32-bit quantity. -/
def State.setReg32 (s : State) (a v : Nat) : State := (s.setRegN a (v % 65536)).setRegN (a + 1) (v / 65536)

/-- A 64-bit quantity, low word first (R3). -/
def State.reg64 (s : State) (a : Nat) : Nat := s.reg32 a + 4294967296 * s.reg32 (a + 2)

/-- Set a 64-bit quantity. -/
def State.setReg64 (s : State) (a v : Nat) : State :=
  (s.setReg32 a (v % 4294967296)).setReg32 (a + 2) (v / 4294967296)

/-- Add one to a field, saturating at its width. -/
def State.incFld (s : State) (f : Fld) : State := s.setFld f (min (s.fld f + 1) (2 ^ f.width - 1))

/-- One bit of a field that holds one bit per unit. -/
def State.fldBit (s : State) (f : Fld) (n : Nat) : Bool := (s.fld f).testBit n

/-- Set or clear bit n of a field that holds one bit per unit. -/
def State.setFldBit (s : State) (f : Fld) (n : Nat) (b : Bool) : State :=
  s.setFlag ⟨f.addr, f.lo + n, 1⟩ b

/-- A 16-bit word read as two's complement. -/
def signed16 (v : Nat) : Int := if v % 65536 < 32768 then (v % 65536 : Nat) else (v % 65536 : Nat) - 65536

/-- An integer as the low 16 bits of its two's complement. -/
def wrap16 (i : Int) : Nat := (i % 65536).toNat

/-- A 32-bit word read as two's complement. -/
def signed32 (v : Nat) : Int :=
  if v % 4294967296 < 2147483648 then (v % 4294967296 : Nat) else (v % 4294967296 : Nat) - 4294967296

/-! ### Unit lists -/

/-- Element n of a list, or the default beyond its end. -/
def nth {α : Type} (d : α) (l : List α) (n : Nat) : α := l.getD n d

/-- Apply a function to element n. -/
def modNth {α : Type} (l : List α) (n : Nat) (f : α → α) : List α := l.modify n f

def State.loop (s : State) (n : Nat) : LoopSt := nth {} s.loops n
def State.modLoop (s : State) (n : Nat) (f : LoopSt → LoopSt) : State := { s with loops := modNth s.loops n f }
def State.fskCh (s : State) (n : Nat) : FskSt := nth {} s.fsk n
def State.modFsk (s : State) (n : Nat) (f : FskSt → FskSt) : State := { s with fsk := modNth s.fsk n f }
def State.excOut (s : State) (n : Nat) : ExcSt := nth {} s.exc n
def State.modExc (s : State) (n : Nat) (f : ExcSt → ExcSt) : State := { s with exc := modNth s.exc n f }
def State.slice (s : State) (n : Nat) : SliceSt := nth {} s.slices n
def State.modSlice (s : State) (n : Nat) (f : SliceSt → SliceSt) : State := { s with slices := modNth s.slices n f }
def State.engine (s : State) (n : Nat) : EngSt := nth {} s.eng n
def State.modEng (s : State) (n : Nat) (f : EngSt → EngSt) : State := { s with eng := modNth s.eng n f }

/-- Apply a state function for each of the numbers below n, in ascending order. -/
def forEach (n : Nat) (f : Nat → State → State) (s : State) : State := (List.range n).foldl (fun t i => f i t) s

/-- Apply a state function for each element of a list, in order. -/
def forList {α : Type} (l : List α) (f : α → State → State) (s : State) : State := l.foldl (fun t x => f x t) s

/-- Apply a state function where a condition holds. -/
def State.when (s : State) (c : Bool) (f : State → State) : State := if c then f s else s

/-! ### Per-path state -/

/-- The number under which a path's state is kept (R136). -/
def pathKey : Path → Nat
  | .host => 0
  | .rope src => 1 + src
  | .loop ch => 100 + ch
  | .engine => 200

/-- The state of an access path. -/
def State.path (s : State) (p : Path) : PathState := readAt (fun _ => {}) s.paths (pathKey p)

/-- Change the state of an access path. -/
def State.modPath (s : State) (p : Path) (f : PathState → PathState) : State :=
  { s with paths := writeAt (fun _ => {}) s.paths (pathKey p) (f (s.path p)) }

/-! ### Free values -/

/-- The next free choice (log entry 1). -/
def State.freeChoice (s : State) : Bool × State := (Config.freeBool s.free, { s with free := s.free + 1 })

/-- The next free 64-bit value (log entry 1). -/
def State.freeDraw (s : State) : BitVec 64 × State := (Config.freeBits s.free, { s with free := s.free + 1 })

/-! ### Time (log entry 2): periods of 16.384 MHz -/

def clocksPerUs (us : Nat) : Nat := us * 16384 / 1000
def clocksPerMs (ms : Nat) : Nat := ms * 16384
/-- Core clocks in whole µs, rounded down (DESIGN CHOICE, log entry 55). -/
def usOf (clocks : Nat) : Nat := clocks * 1000 / 16384

/-! ### Check words -/

/-- One bit step of the CRC-16 of R6: polynomial 0x1021, most significant bit first. -/
def crc16Bit (c : Word) : Word := if c.msb then (c <<< 1) ^^^ 0x1021 else c <<< 1

/-- One byte of the CRC-16. -/
def crc16Byte (c : Word) (b : Byte) : Word :=
  Nat.repeat crc16Bit 8 (c ^^^ ((b.setWidth 16) <<< 8))

/-- The CRC-16 of R6 over bytes: initial value 0xFFFF, no reflection, no final inversion. -/
def crc16 (bs : List Byte) : Word := bs.foldl crc16Byte 0xFFFF

/-- One bit step of the host port's CRC-8 (R121): polynomial 0x07. -/
def crc8Bit (c : Byte) : Byte := if c.msb then (c <<< 1) ^^^ 0x07 else c <<< 1

/-- The host port's CRC-8 of R121: initial value 0xFF. -/
def crc8 (bs : List Byte) : Byte := bs.foldl (fun c b => Nat.repeat crc8Bit 8 (c ^^^ b)) 0xFF

/-- One bit step of the CRC-32 of R563, reflected: polynomial 0x04C11DB7 read from its other end. -/
def crc32Bit (c : BitVec 32) : BitVec 32 := if c.getLsbD 0 then (c >>> 1) ^^^ 0xEDB88320 else c >>> 1

/-- The CRC-32 of R563: initial value 0xFFFFFFFF, reflected, final inversion. -/
def crc32 (bs : List Byte) : BitVec 32 :=
  ~~~(bs.foldl (fun c b => Nat.repeat crc32Bit 8 (c ^^^ b.setWidth 32)) 0xFFFFFFFF)

/-! ### Bytes and words -/

/-- A word as its two bytes, low byte first (R4). -/
def leBytes (w : Word) : List Byte := [w.setWidth 8, (w >>> 8).setWidth 8]

/-- A number as n bytes, low byte first (R4). -/
def leNat : Nat → Nat → List Byte
  | 0, _ => []
  | n + 1, v => byte (v % 256) :: leNat n (v / 256)

/-- Bytes, low byte first, as a number. -/
def ofLe (bs : List Byte) : Nat := bs.foldr (fun b acc => b.toNat + 256 * acc) 0

/-- A number as n bytes, high byte first. -/
def beNat (n v : Nat) : List Byte := (leNat n v).reverse

/-- Bytes, high byte first, as a number. -/
def ofBe (bs : List Byte) : Nat := ofLe bs.reverse

/-- Words as bytes, low byte of each word first. -/
def bytesOfWords (ws : List Word) : List Byte := ws.flatMap leBytes

/-- Bytes as words, low byte of each word first; a last odd byte gets a zero above it. -/
def wordsOfBytes : List Byte → List Word
  | [] => []
  | [a] => [a.setWidth 16]
  | a :: b :: rest => (a.setWidth 16 ||| (b.setWidth 16 <<< 8)) :: wordsOfBytes rest

/-- n bytes of a list from a place on. -/
def slice' (bs : List Byte) (a n : Nat) : List Byte := (bs.drop a).take n

/-- Bytes padded with zeros to n, or cut to n. -/
def padTo (n : Nat) (bs : List Byte) : List Byte := (bs ++ List.replicate n 0).take n

/-- Rounding of a/b to the nearest integer, halves away from zero, for b > 0. -/
def roundDiv (a : Int) (b : Nat) : Int :=
  if a ≥ 0 then (2 * a + b) / (2 * b) else -((2 * (-a) + b) / (2 * b))

/-- An integer limited to a range. -/
def clampInt (lo hi v : Int) : Int := if v < lo then lo else if hi < v then hi else v

/-- Ceiling of a/b. -/
def ceilDiv (a b : Nat) : Nat := (a + b - 1) / b

/-! ### Byte memories -/

/-- The on-chip store's erased byte (R581) and the erased external memory's (log entry 8). -/
def erasedByte : Nat → Byte := fun _ => 0xFF

/-- The capture RAM's byte before any write (log entry 8). -/
def ramByte : Nat → Byte := fun _ => 0

def State.storeByte (s : State) (a : Nat) : Byte := readAt erasedByte s.nvm.store a
def State.storeBytes (s : State) (a n : Nat) : List Byte := readRun erasedByte s.nvm.store a n
/-- What the ECC finds in an 8-byte word of the store: an uncorrectable error (true), one that it corrects, or none; a word
whose enable bit is erased is read raw (R580). -/
def State.wordErr (s : State) (w : Nat) : Option Bool :=
  if s.nvm.ecc.contains w then (s.nvm.errs.find? (fun e => e.1 == w)).map (·.2) else none
/-- A word of the n bytes from a is uncorrectable: the record that they hold fails its check (R639 source 4). -/
def State.rangeFails (s : State) (a n : Nat) : Bool :=
  s.nvm.errs.any (fun e => decide (a / 8 ≤ e.1) && decide (e.1 ≤ (a + n - 1) / 8) && s.wordErr e.1 == some true)
/-- The bits of a byte that do not read the same each time (R584). -/
def State.looseBits (s : State) (a : Nat) : Nat := ((s.nvm.loose.find? (fun e => e.1 == a)).map (·.2)).getD 0
def State.setStore (s : State) (m : List Host.Cell) : State := { s with nvm := { s.nvm with store := m } }
def State.memBytes (s : State) (a n : Nat) : List Byte := readRun erasedByte s.xfer.mem a n

end Sys2Proof.Machine
end

