-- ==== Sys2Proof/Machine/Flags.lean ====
section
/-! DEFINITION. The conditions and status lines computed from the state: the mode of R108, the pins HIRQ, FLTH and
FLTL, the status byte's IRQ and FAULT bits, and the small codes that registers show. -/

namespace Sys2Proof.Machine

/-! ### Modes (R108) -/

def modeBoot : Nat := 0
def modeActive : Nat := 1
def modeReduced : Nat := 2
def modeBivouac : Nat := 3

/-- SYS.STAT.STATE. -/
def State.mode (s : State) : Nat := s.fld .SYS_STAT_STATE

/-- From ACTIVE onward: ACTIVE, REDUCED or bivouac. -/
def State.isActive (s : State) : Bool := s.mode != modeBoot

/-- In bivouac (R99). -/
def State.inBivouac (s : State) : Bool := s.mode == modeBivouac

/-- A REDUCED cause is present (R96). -/
def State.redCause (s : State) : Bool := s.flag .SYS_STAT_REDHOST || s.flag .SYS_STAT_REDTHERM || s.flag .SYS_STAT_REDPROF

/-- REDUCED holds (R96, R97). -/
def State.inReduced (s : State) : Bool := s.mode == modeReduced

/-- The fatal state (R650). -/
def State.isFatal (s : State) : Bool := s.flag .FLT_STAT_FATAL

/-- The boot phase (R106). -/
def State.phase (s : State) : Nat := s.fld .SYS_BOOTST_PHASE

/-- Factory test mode (R108). -/
def State.testMode (s : State) : Bool := s.flag .SYS_STAT_TESTMODE

/-- Supply warning (R93). -/
def State.warn (s : State) : Bool := s.flag .PWR_STAT_WARN

/-- The power profile: 0 NONE, 1 MINIMAL, 2 STANDARD, 3 FULL (R53). -/
def State.profile (s : State) : Nat := s.fld .PWR_PROFILE_PROFILE

/-- Enter the mode that the causes present give, outside boot and bivouac (R96, R103). -/
def settleMode (s : State) : State :=
  if s.mode == modeActive || s.mode == modeReduced then
    s.setFld .SYS_STAT_STATE (if s.redCause then modeReduced else modeActive)
  else s

/-! ### HIRQ (R124): the OR of the fields that the chapters name as its sources -/

/-- A loop's HIRQ sources: STAT.EVT (R474), and RXIRQ where IRQEN is set (R485). -/
def State.loopIrq (s : State) (n : Nat) : Bool :=
  s.flag (.LOOP_STAT_EVT n) || (s.flag (.FSK_STAT_RXIRQ n) && s.flag (.FSK_CTRL_IRQEN n))

/-- HIRQ is asserted. -/
def State.hirq (s : State) : Bool :=
  s.flag .PWR_STAT_HWDR || s.flag .ANG_STAT_LOSSEV || s.flag .STG_STAT_DONE || s.flag .ROPE_STAT_EVRX
  || s.flag .ROPE_STAT_LINKEV || s.flag .ROPE_CSTAT_DONE || s.flag .NVM_STAT_DONE || s.flag .FLT_STAT_NEW
  || s.flag .THM_STAT_REQEV || (List.range 6).any s.loopIrq

/-! ### FLTH and FLTL (R645, R646) -/

/-- FLTH is to be driven high: in reset, during boot, with a report of class U or F latched, or fatal. -/
def State.faultLevel (s : State) : Bool :=
  s.sys.held || !s.isActive || decide (2 ≤ s.fld .FLT_STAT_WCLASS) || s.isFatal

/-- Drive the pair by R645; FLT.STAT.FLTHS holds the level of FLTH. -/
def driveFaultPins (s : State) : State := s.setFlag .FLT_STAT_FLTHS s.faultLevel

/-- The level on FLTH: low while VDDIO is off (R646). -/
def State.flth (s : State) : Bool := s.sys.vddio && s.flag .FLT_STAT_FLTHS

/-- The level on FLTL. -/
def State.fltl (s : State) : Bool := s.sys.vddio && !s.flag .FLT_STAT_FLTHS

/-! ### Status byte (R124) -/

def stCrcErr : Nat := 128
def stBusy : Nat := 64
def stDeny : Nat := 32
def stPend : Nat := 16
def stIrq : Nat := 8
def stFault : Nat := 4
def stTorn : Nat := 2
def stUnitErr : Nat := 1

/-- The IRQ and FAULT bits, sampled when the answer starts to shift out. -/
def State.liveBits (s : State) : Nat := (if s.hirq then stIrq else 0) + (if s.flth then stFault else 0)

/-! ### Die temperature (R654) -/

/-- The sensors not marked broken. -/
def State.goodSensors (s : State) : List Nat :=
  (List.range 4).filter (fun n => !s.fldBit .THM_STAT_BRK n)

/-- The sensor giving the hottest reading, the lowest-numbered of equals. -/
def State.hotSensor (s : State) : Option Nat :=
  s.goodSensors.foldl (fun acc n =>
    match acc with
    | none => some n
    | some m => if signed16 (s.regN (Reg.THM_T m)) < signed16 (s.regN (Reg.THM_T n)) then some n else some m) none

/-- The hottest unbroken reading in 1/16 °C. -/
def State.hottest (s : State) : Option Int := s.hotSensor.map (fun n => signed16 (s.regN (Reg.THM_T n)))

/-- A temperature in 1/16 °C as a record carries it: °C rounded, plus 64, limited to a byte (R612). -/
def tempByte (t : Option Int) : Nat :=
  match t with
  | none => 255
  | some v => (clampInt 0 255 ((v + 8) / 16 + 64)).toNat

/-! ### Sequence numbers modulo 2^16 (R75) -/

/-- b is newer than a. -/
def newer16 (a b : Nat) : Bool :=
  let d := (b + 65536 - a % 65536) % 65536
  decide (1 ≤ d) && decide (d ≤ 32767)

end Sys2Proof.Machine
end

