-- ==== Sys2Proof/Machine/Protect.lean ====
section
/-! DEFINITION. The protection map (R78 to R84): what each access path may reach. -/

namespace Sys2Proof.Machine

/-- The path's place in the map (R79): HOST, ROPE-REMOTE, LOOP-MAINTENANCE, ENGINE. -/
def pathRow : Path → Nat
  | .host => 0
  | .rope _ => 1
  | .loop _ => 2
  | .engine => 3

/-- Word i of the locked map. -/
def State.protWord (s : State) (i : Nat) : Word := nth 0 s.sys.prot i

/-- The block code of a path (R80): two bits a block; blocks 14 and 15 grant nothing. -/
def State.blockCode (s : State) (p : Path) (b : Nat) : Nat :=
  if 14 ≤ b then 0 else getField (s.protWord (1 + 3 * pathRow p + b / 8)) (2 * (b % 8)) 2

/-- The path may read block b. -/
def State.mayRead (s : State) (p : Path) (b : Nat) : Bool := s.blockCode p b == 1 || s.blockCode p b == 3

/-- The path may write block b. -/
def State.mayWrite (s : State) (p : Path) (b : Nat) : Bool := s.blockCode p b == 3

/-- A special grant of the path (R82). -/
def State.granted (s : State) (p : Path) (bit : Nat) : Bool := (s.protWord (3 + 3 * pathRow p)).getLsbD bit

def grantForce : Nat := 0
def grantLogClr : Nat := 1
def grantNvWr : Nat := 2
def grantXmCap : Nat := 10

/-- The default map of R83: word 0 has its format version and DEFAULT. -/
def defaultMap : List Word :=
  [0x0101, 0xFFFF, 0x0FFF, 0x0F07, 0xFFFF, 0x0FFF, 0x0F07, 0x5555, 0x0555, 0, 0x5555, 0x055D, 0x0400]

/-- The closed map of R566: read on blocks 0 to 13 for every path, no grant. -/
def closedMap : List Word := [0x0100, 0x5555, 0x0555, 0, 0x5555, 0x0555, 0, 0x5555, 0x0555, 0, 0x5555, 0x0555, 0]

/-- The check word over words 0 to 12, LOCKED taken as 0 (R79). -/
def protCheck (m : List Word) : Word :=
  crc16 (bytesOfWords ((nth 0 m 0 &&& 0xFFFD) :: (m.drop 1).take 12))

end Sys2Proof.Machine
end

