-- ==== Sys2Proof/Machine/Operands.lean ====
section
/-! DEFINITION. The operand forms: the fields of topo entries (R308 to R315), route descriptors (R229 to R232),
excitation settings (R270 to R274) and command words, read from the words that hold them. -/

namespace Sys2Proof.Machine

/-! ### Table entries -/

/-- What a ROUTE word reads as with no image (R232). -/
def routeDefault (k : Nat) : Word := if k % 4 < 2 then 0x3030 else 0x0C30

/-- A quarter of the WAVE table with no image: round(32,767 × sin(2π × i / 256)) for i = 0 to 64 (R251). -/
def waveQuarter : List Nat :=
  [0, 804, 1608, 2410, 3212, 4011, 4808, 5602, 6393, 7179, 7962, 8739, 9512, 10278, 11039, 11793]
  ++ [12539, 13279, 14010, 14732, 15446, 16151, 16846, 17530, 18204, 18868, 19519, 20159, 20787, 21403, 22005, 22594]
  ++ [23170, 23731, 24279, 24811, 25329, 25832, 26319, 26790, 27245, 27683, 28105, 28510, 28898, 29268, 29621, 29956]
  ++ [30273, 30571, 30852, 31113, 31356, 31580, 31785, 31971, 32137, 32285, 32412, 32521, 32609, 32678, 32728, 32757]
  ++ [32767]

/-- What a WAVE word reads as with no image, by the symmetry of the sine (R251). -/
def waveDefault (k : Nat) : Word :=
  let i := k % 256
  let q := fun j => nth 0 waveQuarter j
  if i ≤ 64 then word (q i)
  else if i ≤ 128 then word (q (128 - i))
  else if i ≤ 192 then -(word (q (i - 128)))
  else -(word (q (256 - i)))

def zeroWord : Nat → Word := fun _ => 0

/-- Word w of active topo entry e. -/
def State.topoW (s : State) (e w : Nat) : Word := readAt zeroWord s.tab.topo (8 * e + w)

/-- The eight words of active topo entry e. -/
def State.topoEntry (s : State) (e : Nat) : List Word := readRun zeroWord s.tab.topo (8 * e) 8

/-- Word w of active route r. -/
def State.routeW (s : State) (r w : Nat) : Word := readAt routeDefault s.tab.route (4 * r + w)

/-- The four words of active route r. -/
def State.routeEntry (s : State) (r : Nat) : List Word := readRun routeDefault s.tab.route (4 * r) 4

/-- Word w of an entry given as its words. -/
def ew (e : List Word) (w : Nat) : Word := nth 0 e w

/-! ### Topo fields (R308 to R315), from the words of an entry -/

def tEn (e : List Word) : Bool := (ew e 1).getLsbD 15
def tKind (e : List Word) : Nat := getField (ew e 1) 13 2
def tSlice (e : List Word) : Nat := getField (ew e 1) 9 4
def tFwd (e : List Word) : Bool := (ew e 1).getLsbD 8
def tEss (e : List Word) : Bool := (ew e 1).getLsbD 7
def tAngleWin (e : List Word) : Bool := (ew e 1).getLsbD 6
def tDiv (e : List Word) : Nat := getField (ew e 1) 3 3
def tDph (e : List Word) : Nat := getField (ew e 1) 0 3
def tRoute (e : List Word) : Nat := getField (ew e 2) 10 6
def tGain (e : List Word) : Nat := getField (ew e 2) 7 3
def tAuto (e : List Word) : Bool := (ew e 2).getLsbD 6
def tExcm (e : List Word) : Nat := getField (ew e 2) 4 2
def tFrm (e : List Word) : Bool := (ew e 4).getLsbD 15
def tRreg (e : List Word) : Nat := getField (ew e 4) 0 8
def tFeed (e : List Word) : Nat := getField (ew e 5) 0 6
def tLchk (e : List Word) : Bool := (ew e 6).getLsbD 15
def tSwap (e : List Word) : Bool := (ew e 6).getLsbD 14
def tBurn (e : List Word) : Nat := getField (ew e 6) 12 2
def tCrcOk (e : List Word) : Bool := crc16 (bytesOfWords (e.take 7)) == ew e 7

def kindAngle : Nat := 0
def kindTime : Nat := 1
def kindAfter : Nat := 2
def sliceAny : Nat := 15

/-- The cycles of a time window (R311): M × 2^E. -/
def tCycles (e : List Word) : Nat := getField (ew e 3) 0 12 * 2 ^ getField (ew e 3) 12 4

/-- The ticks of an angle window (R311), 0 encoding a full revolution. -/
def tTicks (e : List Word) : Nat := if (ew e 3).toNat = 0 then 65536 else (ew e 3).toNat

/-! ### Route fields (R229 to R232) -/

def pinNone : Nat := 0x30
def pinVbias : Nat := 0x31
def rRefsel (r : List Word) : Nat := getField (ew r 0) 14 2
def rNeg (r : List Word) : Nat := getField (ew r 0) 8 6
def rSdem (r : List Word) : Bool := (ew r 0).getLsbD 7
def rPos (r : List Word) : Nat := getField (ew r 0) 0 6
def rExaSel (r : List Word) : Nat := getField (ew r 1) 14 2
def rExaPin (r : List Word) : Nat := getField (ew r 1) 8 6
def rExbSel (r : List Word) : Nat := getField (ew r 1) 6 2
def rExbPin (r : List Word) : Nat := getField (ew r 1) 0 6
def rDiag (r : List Word) : Nat := getField (ew r 2) 12 4
def rRefp (r : List Word) : Nat := getField (ew r 2) 6 6
def rRefn (r : List Word) : Nat := getField (ew r 2) 0 6
def rLead (r : List Word) : Nat := getField (ew r 3) 12 4
def rRtn (r : List Word) : Nat := getField (ew r 3) 6 6
def rBias (r : List Word) : Nat := getField (ew r 3) 0 6

/-- A route with nothing to measure (R233). -/
def rEmpty (r : List Word) : Bool := rPos r == pinNone && rNeg r == pinNone && rDiag r == 0

/-- Connection A names output k. -/
def rUsesA (r : List Word) (k : Nat) : Bool := rExaPin r != pinNone && rExaSel r == k

/-- Connection B names output k; with SDEM the field is the demodulation reference and drives no pin (R257). -/
def rUsesB (r : List Word) (k : Nat) : Bool := !rSdem r && rExbPin r != pinNone && rExbSel r == k

/-- The route connects output k to a pin. -/
def rUses (r : List Word) (k : Nat) : Bool := rUsesA r k || rUsesB r k

/-- A window of the entry on the route uses excitation (R310). -/
def usesExc (e r : List Word) : Bool := tExcm e == 0 && rDiag r == 0 && (List.range 4).any (rUses r)

/-! ### Roles of the crosspoint (R220) -/

def rolePos : Nat := 0
def roleNeg : Nat := 1
def roleRefp : Nat := 2
def roleRefn : Nat := 3
def roleExc (k : Nat) : Nat := 4 + k
def roleRtn : Nat := 8
def roleBias : Nat := 9

/-- A pin code that names a ball. -/
def isPin (p : Nat) : Bool := decide (p < 48)

def roleLead : Nat := 10

/-- The pins of an entry with the roles that its window gives them (R235). -/
def pinRoles (e r : List Word) : List (Nat × Nat) :=
  let onA := rExaPin r != pinNone
  let onB := rExbPin r != pinNone && !rSdem r
  let exA := if tSwap e && onA && onB then [rExaSel r, rExbSel r] else [rExaSel r]
  let exB := if tSwap e && onA && onB then [rExaSel r, rExbSel r] else [rExbSel r]
  let sense := if rDiag r != 0 then []
    else [(rPos r, rolePos), (rNeg r, roleNeg)] ++ (if rRefsel r = 1 then [(rRefp r, roleRefp), (rRefn r, roleRefn)] else [])
  let exc := if tExcm e != 0 then []
    else (if onA then exA.map (fun k => (rExaPin r, roleExc k)) else [])
      ++ (if onB then exB.map (fun k => (rExbPin r, roleExc k)) else [])
  let lead := if tLchk e && rDiag r == 0 then [(rPos r, roleLead), (rNeg r, roleLead)] else []
  (sense ++ exc ++ [(rRtn r, roleRtn), (rBias r, roleBias)] ++ lead).filter (fun x => isPin x.1)

/-- Two entries use one pin in different roles of which one drives it (R235). -/
def pinClash (a b : List (Nat × Nat)) : Bool :=
  a.any (fun x => b.any (fun y => x.1 == y.1 && x.2 != y.2 && !(x.2 ≤ roleRefn && y.2 ≤ roleRefn)))

/-- The owners of closed connections: a slice's window, an output's clear route, an output's home connections, and the
held bias of R238. -/
def ownSlice (n : Nat) : Nat := n
def ownClear (k : Nat) : Nat := 100 + k
def ownHome (k : Nat) : Nat := 110 + k
def ownBias : Nat := 120

/-! ### Excitation settings, from the words CFG, CODE, CLR, FREQ low, FREQ high and PHASE -/

/-- The six active setting words of output k (R270 to R274). -/
def State.excRegs (s : State) (k : Nat) : List Word :=
  [s.reg (Reg.EXC_CFG k), s.reg (Reg.EXC_CODE k), s.reg (Reg.EXC_CLR k), s.reg (Reg.EXC_FREQ k),
   s.reg (Reg.EXC_FREQ k + 1), s.reg (Reg.EXC_PHASE k)]

/-- The setting words in force on output k: the active ones, until an application point is awaited (R263). -/
def State.excSet (s : State) (k : Nat) : List Word :=
  if (s.excOut k).pending then (s.excOut k).applied else s.excRegs k

def xCurrent (c : List Word) : Bool := (ew c 0).getLsbD 15
def xRange (c : List Word) : Nat := getField (ew c 0) 13 2
def xWave (c : List Word) : Nat := getField (ew c 0) 11 2
def xAlock (c : List Word) : Bool := (ew c 0).getLsbD 10
def xCont (c : List Word) : Bool := (ew c 0).getLsbD 9
def xClrrt (c : List Word) : Nat := getField (ew c 0) 2 6
def xClren (c : List Word) : Bool := (ew c 0).getLsbD 1
def xCode (c : List Word) : Nat := (ew c 1).toNat
def xClr (c : List Word) : Nat := (ew c 2).toNat
def xFreq (c : List Word) : Nat := (ew c 3).toNat + 65536 * getField (ew c 4) 0 8
def xPhase (c : List Word) : Nat := (ew c 5).toNat

/-- The full-scale current of a range in nA (R247). -/
def rangeNa (r : Nat) : Nat := if r = 0 then 200000 else if r = 1 then 2000000 else 12000000

/-- Ioutput of R43 in nA/65,536 (R249), exact: the set current IFS × k / 65,536 in current mode, the limit IFS in
voltage mode. -/
def ioutOf (c : List Word) : Nat := if xCurrent c then rangeNa (xRange c) * xCode c else rangeNa (xRange c) * 65536

/-! ### Loop currents (R442) -/

def codeLow : Nat := 9557
def codeHigh : Nat := 61440
def codeMdrop : Nat := 10923

/-- The current of a DAC code in µA, rounded (R440). -/
def codeUa (c : Nat) : Nat := (c * 24000 + 32768) / 65536

/-- The protection-map block of a register address (R80). -/
def blockOf (a : Nat) : Nat :=
  if a < 0x020 then 0 else if a < 0x040 then 1 else if a < 0x060 then 2 else if a < 0x080 then 3
  else if a < 0x0C0 then 4 else if a < 0x0E0 then 5 else if a < 0x100 then 6 else if a < 0x160 then 7
  else if a < 0x180 then 8 else if a < 0x1A0 then 9 else if a < 0x1C0 then 10 else if a < 0x1E0 then 11
  else if a < 0x1F0 then 12 else 13

end Sys2Proof.Machine
end

