-- ==== Sys2Proof/Machine/Events.lean ====
section
/-! DEFINITION. What every block shares when something happens: making a cairn record (R611 to R620), the flash queue's
entry (R582), the current each loop carries (R443, R444), the clear state of the excitation outputs (R259, R260), a
report to the belay collector (R637 to R645) and the fatal state (R650). -/

namespace Sys2Proof.Machine

/-! ### The flash queue and the counters -/

def isLogJob (j : Job) : Bool := match j.kind with | .logRec _ => true | _ => false

/-- LOG.STAT.QLOG and NVM.JSTAT.QCNT show the queue (R607, R628). -/
def syncQueue (s : State) : State :=
  (s.setFld .LOG_STAT_QLOG (s.nvm.jobs.filter isLogJob).length).setFld .NVM_JSTAT_QCNT (min s.nvm.jobs.length 15)

/-- Replace the flash queue. -/
def setJobs (s : State) (js : List Job) : State := syncQueue { s with nvm := { s.nvm with jobs := js } }

/-- Admit a job at the end of the queue; in the fatal state none is admitted (R650). -/
def addJob (s : State) (j : Job) : State := if s.isFatal then s else setJobs s (s.nvm.jobs ++ [j])

/-- Admit a job at the head of the queue, behind an operation in progress (R582). -/
def addJobHead (s : State) (j : Job) : State :=
  match s.nvm.jobs with
  | r :: rest => if s.nvm.op.isSome then setJobs s (r :: j :: rest) else setJobs s (j :: r :: rest)
  | [] => setJobs s [j]

/-- Advance CNT[n]: the register at once, the store by a queued increment (R595, R597). -/
def countUp (n : Nat) (s : State) : State :=
  addJob (s.setReg32 (Reg.CNT n) ((s.reg32 (Reg.CNT n) + 1) % 4294967296)) { kind := .counter n }

/-! ### Triggered captures (R546, R548) -/

/-- A trigger reaches the capture: it starts FILLING from ARMED, and is missed in FILLING and DELIVER. -/
def capTrigger (cause : Nat) (s : State) : State :=
  let st := s.fld .XFER_CAPST_STATE
  if st = 1 then
    { s with xfer := { s.xfer with
        capCause := cause
        capWanted := s.fld .XFER_RING_POST + 1
        capPreKept := s.xfer.capFrames.length
        capStamp := [s.regN Reg.ANG_POS, s.regN Reg.ANG_PASS, s.fld .XFER_CAP_PARAM]
        capDest := (s.fld .XFER_CTRL_CXMEM) + 2 * (if s.flag .ROPE_STAT_HEAD then 0 else s.fld .XFER_CTRL_CROPE)
          + 4 * (s.fld .XFER_CTRL_CHOST) } }
      |>.setFld .XFER_CAPST_STATE 2
  else if st = 0 then s
  else s.setFlag .XFER_CAPST_MISSED true

/-! ### Cairn records -/

def clsInfo : Nat := 0
def clsNote : Nat := 1
def clsC : Nat := 2
def clsU : Nat := 3
def clsF : Nat := 4

/-- Whole seconds of the sub-hour count (R598). -/
def State.subSeconds (s : State) : Nat := (s.now - s.nvm.subBase) / 16384000 % 225

/-- Bytes 0 to 27 of a record made now, SEQ blank (R612). -/
def stamp (s : State) (code cls : Nat) (ps : List Nat) : List Byte :=
  leNat 2 (code + 4096 * cls) ++ leNat 2 0
  ++ leNat 4 ((225 * s.reg32 (Reg.CNT 0) + s.subSeconds) % 4294967296)
  ++ leNat 3 (s.reg32 (Reg.CNT 1) % 16777216)
  ++ leNat 1 (s.fld .ROPE_ADDR_ADDR)
  ++ (List.range 4).flatMap (fun i => leNat 2 (nth 0 ps i % 65536))
  ++ leNat 2 (s.regN Reg.ANG_POS)
  ++ leNat 2 (min 65535 ((s.reg32 Reg.ANG_SPEED * 60 + 32768) / 65536))
  ++ leNat 1 (tempByte s.hottest)
  ++ leNat 1 (s.profile + 4 * s.mode + 16 * s.fld .ANG_STAT_SYNC + 32 * s.fld .ANG_STAT_DIR
      + 64 * s.fld .ANG_STAT_SUBST)
  ++ leNat 2 (s.regN Reg.ANG_PASS)

/-- The counters bound to an event code advance (R598). -/
def bindCounters (code : Nat) (s : State) : State :=
  forEach 4 (fun k t =>
    let b := nth 0 s.nvm.bind k
    if b.getLsbD 15 && getField b 0 12 == code then countUp (4 + k) t else t) s

/-- The records that take no token (R619). -/
def rateExempt (code cls : Nat) : Bool :=
  cls == clsF || code == 0x001 || code == 0x081 || code == 0x381 || code == 0x382 || code == 0x383

/-- Put a record in the log queue of 16, with one further place for the records of R616; else it is lost. -/
def queueRecord (r : Rec) (s : State) : State :=
  let n := (s.nvm.jobs.filter isLogJob).length
  if s.isFatal && !r.fatal then s
  else if r.single && n ≤ 16 then addJobHead s { kind := .logRec r }
  else if n < 16 then setJobs s (s.nvm.jobs ++ [{ kind := .logRec r }])
  else s.setFlag .LOG_STAT_LOST true

/-- Take a token of the code's group (R619): whether one was found, and the state after. -/
def takeToken (code : Nat) (s : State) : Bool × State :=
  let g := code / 128
  let b := nth {} s.log.buckets g
  let put := fun (c : Bucket) => { s with log := { s.log with buckets := s.log.buckets.set g c } }
  if b.depth = 255 then (true, s)
  else if 0 < b.tokens then (true, put { b with tokens := b.tokens - 1 })
  else (false, (put { b with
    count := min 65535 (b.count + 1), first := if b.count = 0 then code else b.first, last := code }).setFlag
      .LOG_STAT_SUPP true)

/-- Make a record (R611): stamp, bindings, rate limit, queue. -/
def mkRecord (code cls : Nat) (ps : List Nat) (s : State) : State :=
  let r : Rec := ⟨code, stamp s code cls ps, cls == clsF || code == 0x081, cls == clsF⟩
  let s := bindCounters code s
  let s := if s.fld .XFER_CAP_SRC = 1 && s.fld .XFER_CAP_PARAM = code then capTrigger 1 s else s
  if rateExempt code cls then queueRecord r s
  else
    let (ok, t) := takeToken code s
    if ok then queueRecord r t else t

/-! ### What each loop carries -/

/-- The alarm direction in force, 1 HIGH (R443). -/
def State.almDir (s : State) (n : Nat) : Nat :=
  if s.phase ≤ 1 then 0
  else if !s.flag .SYS_STAT_LOCKED then s.fld .SYS_STAT_ALMPIN
  else match s.fld (.LOOP_CFG_ALMSRC n) with
    | 1 => 0
    | 2 => 1
    | _ => s.fld .SYS_STAT_ALMPIN

/-- The alarm code of a direction. -/
def alarmCode (dir : Nat) : Nat := if dir = 1 then codeHigh else codeLow

def srcStartup : Nat := 0
def srcHeld : Nat := 1
def srcEngine : Nat := 2
def srcFixed : Nat := 3
def srcMdrop : Nat := 4
def srcClear : Nat := 5
def srcPark : Nat := 6
def srcAlarm : Nat := 7
def srcNotFit : Nat := 15

/-- The first row of R444 whose condition holds on loop n: (SRC, ALMC, DAC code). A code of 0 says that the start-up
regulator, or nothing, sets the current (R476). A loop in ENGINE mode with no value yet carries the code held over the reset,
also where a later commit put it into ENGINE (R92; DESIGN CHOICE, log entry 59). -/
def loopRow (s : State) (n : Nat) : Nat × Nat × Nat :=
  let l := s.loop n
  let alarm := alarmCode (s.almDir n)
  if !s.flag (.LOOP_CFG_FIT n) then (srcNotFit, 0, 0)
  else if !s.isActive then
    if s.isFatal && 2 ≤ s.phase then (srcAlarm, 5, alarm)
    else match l.held with
      | some c => (srcHeld, 0, c)
      | none => (srcStartup, 0, 0)
  else if s.isFatal then (srcAlarm, 5, alarm)
  else if s.flag (.LOOP_STAT_RBF n) then (srcAlarm, 3, alarm)
  else if s.flag (.LOOP_STAT_LVALM n) && s.almDir n == 0 && !l.lvRetry then (srcAlarm, 4, codeLow)
  else if l.mode = 0 then (srcStartup, 0, codeLow)
  else if l.mode = 3 then (srcAlarm, 6, alarm)
  else if l.mode = 2 then (srcFixed, 0, s.regN (Reg.LOOP_FIXED n))
  else if s.flag (.FSK_CTRL_MDROP n) then (srcMdrop, 0, codeMdrop)
  else if s.sys.xclrLow then (srcClear, 0, s.regN (Reg.LOOP_CLRC n))
  else if s.flag (.VAL_STAT_ALMREQ n) then (srcAlarm, 1, alarm)
  else if s.flag (.LOOP_STAT_FVEXP n) then (srcAlarm, 2, alarm)
  else if l.parked || (s.inBivouac && s.fldBit .SYS_BIVCFG_PARK n) then (srcPark, 0, s.regN (Reg.LOOP_PARK n))
  else if l.hasValue then (srcEngine, 0, l.setpoint)
  else match l.held with
    | some c => (srcHeld, 0, c)
    | none => (srcStartup, 0, codeLow)

/-- Re-evaluate R444 on loop n: the DAC code, SRC, ALMC and ALMDIR, with EVT on a change of SRC or ALMC (R474). -/
def updateLoop (n : Nat) (s : State) : State :=
  let (src, almc, code) := loopRow s n
  let changed := src != s.fld (.LOOP_STAT_SRC n) || almc != s.fld (.LOOP_STAT_ALMC n)
  (((s.setFld (.LOOP_STAT_SRC n) src).setFld (.LOOP_STAT_ALMC n) almc).setFld (.LOOP_STAT_ALMDIR n) (s.almDir n)
    |>.setRegN (Reg.LOOP_DAC n) code).when changed (fun t => t.setFlag (.LOOP_STAT_EVT n) true)

/-- Re-evaluate R444 on every loop. -/
def updateLoops (s : State) : State := forEach 6 updateLoop s

/-! ### The clear state of an excitation output (R236, R259 to R261) -/

def evXclr : Nat := 0
def evFatal : Nat := 1
def evDip : Nat := 2
def evLease : Nat := 3
def evPfail : Nat := 4
def evBivouac : Nat := 5
def evOver : Nat := 6

/-- Remove connections from the crosspoint. -/
def dropConns (s : State) (p : Conn → Bool) : State := { s with conns := s.conns.filter (fun c => !p c) }

/-- Close connections that are not already closed. -/
def addConns (s : State) (cs : List Conn) : State :=
  { s with conns := s.conns ++ cs.filter (fun c => !s.conns.contains c) }

/-- The excitation connections of a route that name output k, owned as given. -/
def excConns (r : List Word) (k own : Nat) : List Conn :=
  (if rUsesA r k then [⟨rExaPin r, roleExc k, own⟩] else []) ++
  (if rUsesB r k then [⟨rExbPin r, roleExc k, own⟩] else [])

/-- The return connection of a route. -/
def rtnConns (r : List Word) (own : Nat) : List Conn :=
  if rRtn r != pinNone then [⟨rRtn r, roleRtn, own⟩] else []

/-- The clear route of output k: as committed, or as it stood before a change that awaits its application point (R263,
R264). -/
def State.clearRoute (s : State) (k : Nat) : List Word :=
  if (s.excOut k).pending then (s.excOut k).appliedRt else s.routeEntry (xClrrt (s.excSet k))

/-- The clear connections of output k (R236); none without a clear route, before the end of phase 5 (R87), or while a
disconnecting event holds (R260). -/
def clearConns (s : State) (k : Nat) : List Conn :=
  let c := s.excSet k
  let r := s.clearRoute k
  let by_ := (s.excOut k).clearBy
  if xClren c && 6 ≤ s.phase && !by_.contains evBivouac && !by_.contains evOver then
    excConns r k (ownClear k) ++ rtnConns r (ownClear k)
  else []

/-- A window's route connects output k (R310). -/
def Window.uses (w : Window) (k : Nat) : Bool :=
  (w.topo.isEmpty || tExcm w.topo == 0) && rDiag w.route == 0 && rUses w.route k

/-- Change the window in progress on slice n. -/
def State.modWin (s : State) (n : Nat) (f : Window → Window) : State :=
  s.modSlice n (fun x => { x with win := x.win.map f })

/-- The window in progress on slice n connects output k. -/
def State.windowUses (s : State) (n k : Nat) : Bool :=
  match (s.slice n).win with
  | some w => w.uses k
  | none => false

/-- Mark SUPD on every window in progress that uses output k (R261). -/
def markSupd (k : Nat) (s : State) : State :=
  forEach 13 (fun n t => if t.windowUses n k then t.modWin n (fun w => { w with supd := true }) else t) s

/-- The clear events that leave the home connections of a continuous output closed, at its clear code: those under which
R226 does not open the crosspoint (R256). -/
def keepsHome (ev : Nat) : Bool := ev == evDip || ev == evLease || ev == evPfail

/-- Send output k to its clear state for an event (R259): open what R236 does not keep, close the clear connections,
set CLRST, mark the windows (R261). -/
def excClear (ev k : Nat) (s : State) : State :=
  let s := s.modExc k (fun x => { x with
    clearBy := if x.clearBy.contains ev then x.clearBy else x.clearBy ++ [ev], atCode := false
    home := x.home && keepsHome ev })
  let s := dropConns s (fun c => c.role == roleExc k || c.owner == ownClear k || c.owner == ownHome k)
  let s := addConns s (clearConns s k)
  markSupd k (s.setFldBit .EXC_STAT_CLRST k true)

/-- An event of R259 no longer holds output k in its clear state; the output leaves it at the next window boundary. -/
def excUnclear (ev k : Nat) (s : State) : State :=
  let s := s.modExc k (fun x => { x with clearBy := x.clearBy.filter (· != ev) })
  addConns s (if (s.excOut k).clearBy.isEmpty then [] else clearConns s k)

/-- Send every output to its clear state for an event. -/
def excClearAll (ev : Nat) (s : State) : State := forEach 4 (excClear ev) s

/-- Only the clear connections stay closed, and every bias is off (R226). -/
def keepClearOnly (s : State) : State :=
  { dropConns s (fun c => !(100 ≤ c.owner && c.owner < 104)) with seq := { s.seq with bias := [] } }

/-! ### Reports to the belay collector -/

/-- The class of a report, by its source and parameter (R639): 2 C, 3 U, 4 F. -/
def belayClass (src param : Nat) : Nat :=
  match src with
  | 1 => clsU
  | 2 => if param = 0 then clsF else clsU
  | 3 => clsF
  | 4 => if param < 0x40 then clsC else if param < 0x80 then clsU else if param < 0x82 then clsF else clsU
  | 5 => if param < 0x80 then clsC else if param < 0x83 then clsU else clsF
  | 6 => clsU
  | 7 => clsC
  | 8 => clsC
  | 9 => clsU
  | 10 => clsU
  | 11 => clsU
  | 12 => if param < 0x80 then clsU else clsC
  | 13 => clsC
  | 14 => if param = 0x10 || param = 0x11 then clsU else clsC
  | 15 => clsU
  | 16 => clsU
  | 17 => clsF
  | 18 => clsC
  | 19 => clsU
  | 20 => clsU
  | _ => if [2, 3, 4, 5, 17].contains (param % 128) then clsF else clsU

/-- SLC.BUSY shows a slice with a window in progress or a direct result due (R304). -/
def showBusy (n : Nat) (s : State) : State :=
  s.setFldBit .SLC_BUSY_BUSY n ((s.slice n).win.isSome || (s.slice n).ended.any (fun w => w.occ.kind == 2))

/-- A slice stops: its windows are abandoned without a result (R650). -/
def abandonSlice (n : Nat) (s : State) : State :=
  showBusy n (s.modSlice n (fun x => { x with win := none, ended := [], pending := [], overCarry := 0 }))

/-- The swing slice takes part in a swing lead: SWCAL, TAKE, BACK, PROBE or SYSCAL (R375). -/
def State.swingLead (s : State) : Bool := [1, 2, 4, 5, 6].contains (s.fld .CAL_STAT_PHASE)

/-- The slice that serves the entries of slice n (R327, R367, R377): the swing slice where it covers n, none where n is
retired and not covered. -/
def State.serving (s : State) (n : Nat) : Option Nat :=
  if n = 12 then (if s.flag .CAL_STAT_SWRET then none else some 12)
  else if s.cal.cover = some n then (if s.flag .CAL_STAT_SWRET then none else some 12)
  else if s.fldBit .SLC_RETIRED_RET n then none
  else some n

/-- Store a queue of urgent requests and show it in SEQ.STAT (R339, R344). -/
def setUrgent (s : State) (q : List Occ) : State :=
  let s := { s with seq := { s.seq with urgent := q } }.setFld .SEQ_STAT_UQ q.length
  s.setFlag .SEQ_STAT_UWAIT (!q.isEmpty && s.seq.urgentOn.isNone && s.swingLead
    && s.serving (s.fld .SEQ_URGSLICE_SLICE) == some 12)

/-- Store the frame queue and show its fill (R351). -/
def setFrameQ (s : State) (q : List (Nat × Nat × Nat × Nat)) : State :=
  { s with seq := { s.seq with frameQ := q } }.setFld .SEQ_QSTAT_FQFILL q.length

/-- Engine n runs (R397): the RUN in force (R401), the mode, no fatal state and no halt. -/
def State.engineRuns (s : State) (n : Nat) : Bool :=
  (s.engine n).runs && (s.mode == modeActive || s.mode == modeReduced) && !s.isFatal
  && !(s.engine n).haltN && !(s.engine n).haltS && !(s.engine n).frozen

/-- VAL.STAT.RUNNING of every engine (R437). -/
def showEngines (s : State) : State := forEach 6 (fun n t => t.setFlag (.VAL_STAT_RUNNING n) (t.engineRuns n)) s

/-- Stop the windows, the sequencer, the engines and the transfer engine (R650). -/
def haltEngines (s : State) : State :=
  let s := forEach 13 abandonSlice s
  let s := { s with seq := { s.seq with timeRun := [], afterRun := [], urgentOn := none } }
  let s := setFrameQ (setUrgent s []) []
  let s := showEngines (forEach 6 (fun n t => t.modEng n (fun e => { e with cycle := none, cycleB := none, notices := [] })) s)
  (s.setFlag .SEQ_STAT_RUNNING false).setFlag .XFER_STAT_RUN false

/-- The jobs that stay when the fatal state begins: the one whose operation is in progress, and the fatal record. -/
def fatalJobs (s : State) : List Job :=
  let isFatalRec := fun (j : Job) => match j.kind with | .logRec r => r.fatal | _ => false
  let running := if s.nvm.op.isSome then s.nvm.jobs.take 1 else []
  running ++ (s.nvm.jobs.drop running.length).filter isFatalRec

/-- The fatal state begins (R650, R652). -/
def enterFatal (src param : Nat) (s : State) : State :=
  let s := s.setFlag .FLT_STAT_FATAL true
  let s := { s with sys := { s.sys with fatal := some (s.sys.fatal.getD (src, param)) } }
  let s := haltEngines s
  let s := keepClearOnly (excClearAll evFatal s)
  updateLoops (setJobs s (fatalJobs s))

/-- The code that FLT.STAT.WCLASS shows for a class. -/
def wclassOf (cls : Nat) : Nat := cls - 1

/-- The collector accepts a report (R641, R643, R644) while it is idle and watching; else the report is lost (R642).
It watches from the end of boot phase 1 (R637) and ignores the pairs of R638. -/
def acceptReport (cls src param p2 p3 : Nat) (inj : Bool) (s : State) : State :=
  if s.flt.busy || s.phase ≤ 1 || s.flt.ignored.contains src then s
  else
    let first := s.reg32 Reg.FLT_FIRST = 0
    let wasFatal := s.isFatal
    let s := { s with flt := { s.flt with busy := true } }
    let s := s.setFldBit ⟨Reg.FLT_ACT + src / 16, 0, 16⟩ (src % 16) true
    let s := if first then
        s.setReg32 Reg.FLT_FIRST (src + 256 * (param % 256) + 65536 * cls + (if inj then 524288 else 0))
      else s.setFlag .FLT_STAT_OVF true
    let s := if cls = clsC then s.incFld .FLT_CCNT_COUNT else if cls = clsU then s.incFld .FLT_UCNT_COUNT else s
    let s := s.setFld .FLT_STAT_WCLASS (max (s.fld .FLT_STAT_WCLASS) (wclassOf cls))
    let s := s.when (clsU ≤ cls) (fun t => t.setFlag .FLT_STAT_NEW true)
    let s := if wasFatal then s
      else mkRecord (0x100 + src) cls [param, (if inj then 1 else 0) + (if first then 2 else 0), p2, p3] s
    let s := if cls = clsF && !wasFatal then
        (enterFatal src param s).setReg32 (Reg.CNT 2) ((s.reg32 (Reg.CNT 2) + 1) % 4294967296)
      else s
    driveFaultPins s

/-- A block reports a source it has detected. -/
def report (src param p2 p3 : Nat) (s : State) : State :=
  acceptReport (belayClass src param) src param p2 p3 false s

end Sys2Proof.Machine
end

