-- ==== Sys2Proof/Machine/Excite.lean ====
section
/-! DEFINITION. What the excitation outputs drive (R247 to R254): the phase accumulators, the waveform table and the level
of each output. -/

namespace Sys2Proof.Machine

/-! ### Phase (R250, R253, R254) -/

/-- A full cycle of a phase accumulator. -/
def phaseCycle : Nat := 16777216

/-- The effective phase p of R250 from an accumulator and an output's settings. -/
def phaseOf (acc : Nat) (c : List Word) : Nat := (acc + 256 * xPhase c) % phaseCycle

/-- The effective phase of output k. -/
def State.phaseNow (s : State) (k : Nat) : Nat := phaseOf (s.excOut k).acc (s.excSet k)

/-- The first half-cycle: 0° to below 180° (R250). -/
def firstHalf (p : Nat) : Bool := decide (p < 8388608)

/-- ANG.POS holds against the internal angle (R186, R191), so an angle-locked output holds its level (R254). -/
def State.angleStands (s : State) : Bool := s.flag .ANG_STAT_SLEW || s.ang.deadBand

/-- One update of the accumulators, at a modulator cycle: a SQUARE or SINE output advances by FREQ, or follows the angle
(R250, R253). -/
def stepPhases (s : State) : State :=
  forEach 4 (fun k t =>
    let c := t.excSet k
    if xWave c = 0 || !t.isActive then t
    else if xAlock c then
      if t.angleStands then t
      else t.modExc k (fun x => { x with acc := xFreq c % 65536 * t.ang.acc / 256 % phaseCycle })
    else t.modExc k (fun x => { x with acc := (x.acc + xFreq c) % phaseCycle })) s

/-! ### Waveform (R251) -/

/-- Entry i of the WAVE table, signed. -/
def State.waveEntry (s : State) (i : Nat) : Int := signed16 (readAt waveDefault s.tab.wave (i % 256)).toNat

/-- The waveform value w at a phase in 1/2^31, exact: linear interpolation between two entries, limited (R251). -/
def State.waveAt (s : State) (p : Nat) : Int :=
  let a := s.waveEntry (p / 65536)
  let b := s.waveEntry (p / 65536 + 1)
  clampInt (-2147418112) 2147418112 (a * 65536 + (b - a) * (p % 65536 : Nat))

/-! ### Level (R247, R248) -/

/-- The full scale of an output: 3.0 V in nV in voltage mode, IFS in nA in current mode (R247). -/
def fullScale (c : List Word) : Nat := if xCurrent c then rangeNa (xRange c) else 3000000000

/-- The level of code k at a phase, in 1/2^48 of the full scale (R248): a voltage-mode sine stands around 1.5 V, a
current-mode one between 0 and its peak. -/
def State.levelAt (s : State) (c : List Word) (k p : Nat) : Int :=
  match xWave c with
  | 0 => k * 4294967296
  | 1 => if firstHalf p then k * 4294967296 else 0
  | _ => if xCurrent c then k * (2147483648 + s.waveAt p) else 140737488355328 + k * s.waveAt p

/-- Output k is in its clear state: it has not yet left it at a window boundary (R259, R260). -/
def State.inClear (s : State) (k : Nat) : Bool := !(s.excOut k).atCode

/-- What output k drives: none in the break of R265, the DC level of its clear code in the clear state, else the level of
its code (R248). -/
def State.drives (s : State) (k : Nat) : Option Int :=
  let c := s.excSet k
  if (s.excOut k).breakOn then none
  else if s.inClear k then some (xClr c * 4294967296)
  else some (s.levelAt c (xCode c) (s.phaseNow k))

/-- Output k has nothing whose loss its monitor could report (R266): a set current of 0, or a level of 0 V. -/
def State.driveIsZero (s : State) (k : Nat) : Bool :=
  let c := s.excSet k
  if xCurrent c then (if s.inClear k then xClr c else xCode c) == 0
  else match s.drives k with
    | some v => v == 0
    | none => true

/-! ### Demodulation (R241) -/

/-- The reference output of a synchronous demodulation is in the second half of its cycle, so POS and NEG are exchanged. -/
def State.demodSwap (s : State) (r : List Word) : Bool :=
  rSdem r && rDiag r == 0 && !firstHalf (s.phaseNow (rExbSel r))

end Sys2Proof.Machine
end

