-- ==== Sys2Proof/Machine/Energy.lean ====
section
/-! DEFINITION. The energy-feasibility test of R151 and what it counts: window times, occurrences per second (R336),
excitation power and bursts (R43). The check list runs it on the staged schedule, the profile change on the active one. -/

namespace Sys2Proof.Machine

/-- A configuration as a test sees it: the words of a topo entry, of a route and of an output's settings. -/
structure Cfg where
  topo : Nat → List Word
  route : Nat → List Word
  exc : Nat → List Word

/-- The active configuration. -/
def State.activeCfg (s : State) : Cfg := ⟨s.topoEntry, s.routeEntry, s.excRegs⟩

/-- ANG.SPEED, revolutions per second in Q16.16. -/
def State.speed (s : State) : Nat := s.reg32 Reg.ANG_SPEED

/-! ### Exact times and powers

R43, R151 and R336 compare and round up exact quantities, so they are held as fractions (numerator, denominator), the
denominator above 0. Times count core clocks, 8 to a modulator cycle (R7). -/

/-- The sum of two fractions. -/
def addFrac (a b : Nat × Nat) : Nat × Nat := if a.2 = b.2 then (a.1 + b.1, a.2) else (a.1 * b.2 + b.1 * a.2, a.2 * b.2)

/-- The product of two fractions. -/
def mulFrac (a b : Nat × Nat) : Nat × Nat := (a.1 * b.1, a.2 * b.2)

/-- The sum of a list of fractions. -/
def sumFrac (l : List (Nat × Nat)) : Nat × Nat := l.foldl addFrac (0, 1)

/-- A fraction exceeds n. -/
def fracAbove (a : Nat × Nat) (n : Nat) : Bool := decide (n * a.2 < a.1)

/-- The limit of an angle window (R282), 4,194,304 cycles in core clocks, which also bounds one at standstill. -/
def limitClocks : Nat := 8 * 4194304

/-- An angle window of some ticks at a speed in Q16.16 revolutions per second, in core clocks, at most the limit of
R282. -/
def angleClocks (ticks speed : Nat) : Nat × Nat :=
  if speed = 0 || decide (limitClocks * speed ≤ ticks * 16384000) then (limitClocks, 1) else (ticks * 16384000, speed)

/-- A window's duration at a speed in core clocks (R336). -/
def windowClocks (e : List Word) (speed : Nat) : Nat × Nat :=
  if tAngleWin e then angleClocks (tTicks e) speed else (8 * tCycles e, 1)

/-- twindow of R43: an angle window is charged for 10 % more. -/
def charged (angleWin : Bool) (t : Nat × Nat) : Nat × Nat := if angleWin then (t.1 * 11, t.2 * 10) else t

/-- 10 ms in core clocks, the longest window that holds a burst and not a lease (R43). -/
def burstLimit : Nat := 163840

/-- The windows that hold a burst: 10 ms or less (R43). -/
def isBurst (e : List Word) (speed : Nat) : Bool := !fracAbove (windowClocks e speed) burstLimit

/-- The predecessor chain of an AFTER entry, as far as enabled AFTER entries reach. -/
def predChain (c : Cfg) : Nat → Nat → List Nat
  | 0, _ => []
  | fuel + 1, i =>
    let e := c.topo i
    if tEn e && tKind e == kindAfter then i :: predChain c fuel (getField (ew e 0) 0 8) else [i]

/-- The members of the ring that entry i belongs to, or none (R322). -/
def ringOf (c : Cfg) (i : Nat) : List Nat :=
  match predChain c 257 i with
  | [] => []
  | _ :: rest => match rest.findIdx? (· == i) with
    | some k => i :: rest.take k
    | none => []

/-- The settle time of entry i after its predecessor's window in core clocks: 13 modulator cycles where route, gain or
burnout differ (R276, R336). -/
def ringSettle (c : Cfg) (i : Nat) : Nat :=
  let e := c.topo i
  let p := c.topo (getField (ew e 0) 0 8)
  if tRoute e == tRoute p && tGain e == tGain p && tBurn e == tBurn p then 0 else 104

/-- One turn of a ring in core clocks (R276, R336): for each member 33 of setup, its settle, its window, 32 of end phase
and DELAY × 512. -/
def turnClocks (c : Cfg) (speed : Nat) (ring : List Nat) : Nat × Nat :=
  sumFrac (ring.map (fun i =>
    let e := c.topo i
    addFrac (windowClocks e speed) (33 + ringSettle c i + 32 + getField (ew e 0) 8 7 * 512, 1)))

/-- Occurrences per second of an entry, as numerator and denominator (R336). -/
def rate (c : Cfg) (speed : Nat) : Nat → Nat → Nat × Nat
  | 0, _ => (0, 1)
  | fuel + 1, i =>
    let e := c.topo i
    let d := tDiv e + 1
    if !tEn e then (0, 1)
    else if tKind e = kindAngle then (speed, 65536 * d)
    else if tKind e = kindTime then (4000, max 1 (ew e 0).toNat * d)
    else
      let ring := ringOf c i
      if ring.isEmpty then
        let r := rate c speed fuel (getField (ew e 0) 0 8)
        (r.1, r.2 * d)
      else
        let t := turnClocks c speed ring
        (16384000 * t.2, max 1 t.1)

/-- A continuous waveform (R256). -/
def isCont (c : Cfg) (k : Nat) : Bool := xCont (c.exc k)

/-- The sum of Ioutput in nA/65,536 over the outputs that a window of the entry connects (R43, R310). A continuous output
is leased and not charged per window (R256). -/
def windowIout (c : Cfg) (e : List Word) : Nat :=
  let r := c.route (tRoute e)
  if usesExc e r then (((List.range 4).filter (fun k => rUses r k && !isCont c k)).map (fun k => ioutOf (c.exc k))).sum
  else 0

/-- The average power of an entry's windows in nW/65,536: 3.0 V × Ioutput × twindow × f. -/
def entryPower (c : Cfg) (speed i : Nat) : Nat × Nat :=
  let e := c.topo i
  mulFrac (3 * windowIout c e, 16384000)
    (mulFrac (charged (tAngleWin e) (windowClocks e speed)) (rate c speed 257 i))

/-- An enabled entry that uses excitation. -/
def excEntry (c : Cfg) (i : Nat) : Bool := tEn (c.topo i) && usesExc (c.topo i) (c.route (tRoute (c.topo i)))

/-- The average power of the enabled entries that use excitation and satisfy a test, in nW/65,536. -/
def entriesPower (c : Cfg) (speed : Nat) (p : Nat → Bool) : Nat × Nat :=
  sumFrac (((List.range 256).filter (fun i => excEntry c i && p i)).map (entryPower c speed))

/-- The power of the continuous outputs in nW/65,536, at duty 1 (R43). -/
def contPower (c : Cfg) : Nat := (((List.range 4).filter (isCont c)).map (fun k => 3 * ioutOf (c.exc k))).sum

/-- Pexc of R151 in nW/65,536. -/
def pexc (c : Cfg) (speed : Nat) : Nat × Nat := addFrac (entriesPower c speed (fun _ => true)) (contPower c, 1)

/-- 0.1 mW in nW/65,536, the unit of the powers above. -/
def unitPower : Nat := 100000 * 65536

/-- The smallest whole number that is no less than a fraction over n. -/
def ceilFrac (a : Nat × Nat) (n : Nat) : Nat := ceilDiv a.1 (a.2 * n)

/-- The credits of a burst of some total current in nA/65,536 for some core clocks: ceil(3.0 V × I × t / 8 µJ), exact
before it is rounded up (R43). -/
def creditsOf (iout : Nat) (t : Nat × Nat) : Nat := ceilFrac (mulFrac (3 * iout, 1) t) (8000 * 65536 * 16384000)

/-- The credits of a window's excitation burst (R43). -/
def burstCredits (c : Cfg) (e : List Word) (speed : Nat) : Nat :=
  creditsOf (windowIout c e) (charged (tAngleWin e) (windowClocks e speed))

/-- The base load of a profile in 0.1 mW (R38, R39). For NONE the tables give no figure; that it counts 0 there is a DESIGN
CHOICE (log entry 48). -/
def baseLoad (profile : Nat) : Nat := if profile = 1 then 106 else if profile = 0 then 0 else 226

/-- The largest store content, in credits (R44). -/
def State.storeMax (s : State) : Nat := s.regN Reg.PWR_CAP * 207 / 20

/-- The live slices that enabled entries name (R151). -/
def namedSlices (c : Cfg) : List Nat :=
  (List.range 12).filter (fun n => (List.range 256).any (fun i => tEn (c.topo i) && tSlice (c.topo i) == n))

/-- The encoding of a TOPO entry as a failing item (R150). -/
def itemTopo (i : Nat) : Nat := 0x1000 + i

/-- The items of R150 that fail the test of R151 in a profile other than NONE: a continuous output or a long window in
MINIMAL, a burst that is too large, and 0xFFFF for the whole set. -/
def energyItems (c : Cfg) (profile : Nat) (s : State) : List Nat :=
  let sp := s.speed
  let p := pexc c sp
  let minimal := profile == 1
  ((List.range 4).filter (fun k => minimal && isCont c k)).map Reg.EXC_CFG
  ++ ((List.range 256).filter (fun i => excEntry c i &&
      (if isBurst (c.topo i) sp then decide (s.storeMax < burstCredits c (c.topo i) sp + 200) else minimal))).map itemTopo
  ++ (if s.regN Reg.PWR_GUAR < baseLoad profile || fracAbove p ((s.regN Reg.PWR_GUAR - baseLoad profile) * unitPower)
        || (profile == 2 && fracAbove p (100 * unitPower))
        || (minimal && decide (3 < (namedSlices c).length)) then [0xFFFF] else [])

/-- The energy-feasibility test of R151 against a profile: none where it passes, else the lowest failing item. -/
def energyTest (c : Cfg) (profile : Nat) (s : State) : Option Nat :=
  if profile = 0 then none else (energyItems c profile s).head?

/-- The power of the EXC lease in 0.1 mW, rounded up (R43, log entry 22): windows longer than 10 ms and continuous
outputs. -/
def excLeaseWant (c : Cfg) (speed : Nat) : Nat :=
  ceilFrac (addFrac (entriesPower c speed (fun i => !isBurst (c.topo i) speed)) (contPower c, 1)) unitPower

/-- The average power of the excitation bursts in 0.1 mW, rounded up: what R41 takes off beside the EXC lease before the
host's guaranteed part. -/
def excBurstAverage (c : Cfg) (speed : Nat) : Nat :=
  ceilFrac (entriesPower c speed (fun i => isBurst (c.topo i) speed)) unitPower

end Sys2Proof.Machine
end

