-- ==== Sys2Proof/Machine/Power.lean ====
section
/-! DEFINITION. The power arbiter (02): loop bands, the budget, the store, credits, leases, the shunt and the host supply. -/

namespace Sys2Proof.Machine

/-! ### Bands (R27, R28, R54) -/

def bandShort : Nat := 0
def bandBypass : Nat := 1
def bandHarvest : Nat := 2
def bandShed : Nat := 3

/-- The place of loop n's state in PWR.LOOPS (R54). -/
def bandFld (n : Nat) : Fld := ⟨Reg.PWR_LOOPS, 2 * n, 2⟩

/-- PWR.VT shows the estimate of the loop LSEL selects; 6 and 7 show 0 (R67). -/
def showVt (s : State) : State :=
  s.setFld .PWR_VT_VT (if s.fld .PWR_VT_LSEL < 6 then nth 0 s.pwr.vt (s.fld .PWR_VT_LSEL) else 0)

/-- Set a loop's terminal-voltage estimate in 10 mV. -/
def setVt (n v : Nat) (s : State) : State := showVt { s with pwr := { s.pwr with vt := s.pwr.vt.set n v } }

/-- The estimate a loop shows on entering a band: 0 short, 2.00 V bypass, 7.80 V harvest and shed (R67). -/
def bandVt (b : Nat) : Nat := if b = bandShort then 0 else if b = bandBypass then 200 else 780

/-- A loop that leaves the SHED state is no longer to be returned to harvest (R32). -/
def leaveShed (n : Nat) (s : State) : State :=
  let s := { s with pwr := { s.pwr with shed := s.pwr.shed.filter (· != n) } }
  s.setFlag .PWR_STAT_SHED (!s.pwr.shed.isEmpty)

/-- Move a loop to a band. -/
def setBand (n b : Nat) (s : State) : State :=
  let s := if s.fld (bandFld n) = bandShed && b != bandShed then leaveShed n s else s
  let s := setVt n (bandVt b) (s.setFld (bandFld n) b)
  if b = bandHarvest then { s with sys := { s.sys with bleed := false } } else s

/-- Loop n is fitted (R441). -/
def State.fitted (s : State) (n : Nat) : Bool := s.flag (.LOOP_CFG_FIT n)

/-- Harvesting and shed loops, the fitted ones only (R53, R441). -/
def State.harvesting (s : State) : List Nat :=
  (List.range 6).filter (fun n => s.fitted n && decide (2 ≤ s.fld (bandFld n)))

/-- A loop's setpoint in µA: of its DAC code, or the start-up current (R38, R442). -/
def State.setpointUa (s : State) (n : Nat) : Nat :=
  if s.regN (Reg.LOOP_DAC n) = 0 then 3500 else codeUa (s.regN (Reg.LOOP_DAC n))

/-! ### The budget (R38) in 0.1 mW -/

/-- VAUX's contribution: 150 mW (R37). -/
def State.vauxPower (s : State) : Nat := if s.flag .PWR_STAT_VAUXP then 1500 else 0

/-- The usable part of a node power: 88 %, truncated. -/
def usable (node : Nat) : Nat := node * 88 / 100

/-- Guaranteed node power: 6.0 V × Σ min(setpoint, 3.5 mA) over harvesting and shed loops, plus VAUX. -/
def State.guarNode (s : State) : Nat :=
  6 * ((s.harvesting.map (fun n => min (s.setpointUa n) 3500)).sum) / 100 + s.vauxPower

/-- Actual node power: 6.0 V × the actual currents of the loops in harvest, plus VAUX. -/
def State.availNode (s : State) : Nat :=
  6 * (((s.harvesting.filter (fun n => s.fld (bandFld n) = bandHarvest)).map (fun n => nth 0 s.pwr.loopUa n)).sum) / 100
    + s.vauxPower

/-- The opportunistic power (R38). -/
def State.oppPower (s : State) : Nat := s.regN Reg.PWR_AVAIL - s.regN Reg.PWR_GUAR

/-- The profile that the present count gives: VAUX gives FULL (R37, R39). -/
def State.profileTarget (s : State) : Nat :=
  let n := s.harvesting.length
  if s.flag .PWR_STAT_VAUXP || 4 ≤ n then 3 else if 2 ≤ n then 2 else if n = 1 then 1 else 0

/-! ### Credits (R43 to R46) -/

/-- The credits that an opportunistic part needs as cover: ceil(O × 100 ms / 8 µJ) with O in 0.1 mW (R47). -/
def coverOf (opp : Nat) : Nat := ceilDiv (opp * 5) 4

/-- Granted credits not yet released (R44). -/
def State.outstanding (s : State) : Nat :=
  (s.pwr.granted.map (·.credits)).sum + s.pwr.exc.cover + s.pwr.host.cover + s.pwr.rope.cover

/-- S − outstanding − 200, or 0 (R58). -/
def State.freeCredits (s : State) : Nat := s.regN Reg.PWR_STORE - s.outstanding - 200

def rank : Requester → Nat
  | .nvm => 0
  | .exc => 1
  | .host => 2
  | .xmem => 3
  | .rope => 4

/-- The tag of a waiting lease in the list of requests. -/
def leaseTag : Nat := 9999

/-- The field of PWR.GRANT that a requester's state shows in (R63). -/
def grantFld : Requester → Fld
  | .nvm => .PWR_GRANT_NVM
  | .exc => .PWR_GRANT_EXC
  | .host => .PWR_GRANT_HOST
  | .xmem => .PWR_GRANT_XMEM
  | .rope => .PWR_GRANT_ROPE

def gIdle : Nat := 0
def gWait : Nat := 1
def gGrant : Nat := 2
def gGrantOpp : Nat := 3
def gWithdraw : Nat := 4
def gDenied : Nat := 5

/-- The lease of a requester; NVM and XMEM hold none. -/
def State.lease (s : State) : Requester → Lease
  | .exc => s.pwr.exc
  | .host => s.pwr.host
  | .rope => s.pwr.rope
  | _ => {}

/-- Set a requester's lease and show its state. -/
def setLease (r : Requester) (l : Lease) (s : State) : State :=
  match r with
  | .exc => { s with pwr := { s.pwr with exc := l } }.setFld .PWR_GRANT_EXC l.state
  | .host => { s with pwr := { s.pwr with host := l } }.setFld .PWR_GRANT_HOST l.state
  | .rope => { s with pwr := { s.pwr with rope := l } }.setFld .PWR_GRANT_ROPE l.state
  | _ => s

/-- A lease in force: granted, with or without an opportunistic part. -/
def Lease.inForce (l : Lease) : Bool := l.state == gGrant || l.state == gGrantOpp

/-- What R41 keeps from the host's guaranteed part beside the EXC lease: in MINIMAL the average of the excitation bursts,
in STANDARD that and the rope stream asked for. -/
def hostKeptBack (s : State) : Nat :=
  if s.profile = 1 then excBurstAverage s.activeCfg s.speed
  else if s.profile = 2 then excBurstAverage s.activeCfg s.speed + s.pwr.rope.want
  else 0

/-- The guaranteed budget after the base load and the leases in force of higher priority (R47), for the host after what
R41 puts before it. -/
def guarLeft (s : State) (r : Requester) : Nat :=
  let above := [Requester.exc, .host, .rope].filter (fun q => rank q < rank r && (s.lease q).inForce)
  s.regN Reg.PWR_GUAR - baseLoad s.profile - (above.map (fun q => (s.lease q).guar)).sum
    - (if r == .host then hostKeptBack s else 0)

/-- The opportunistic parts already granted to others. -/
def oppOthers (s : State) (r : Requester) : Nat :=
  ([Requester.exc, .host, .rope].filter (fun q => q != r)).map (fun q => (s.lease q).opp) |>.sum

/-- The profile permits the requester a lease (R41, R42). -/
def leaseAllowed (profile : Nat) : Requester → Bool
  | .exc => 2 ≤ profile
  | .host => 1 ≤ profile
  | .rope => 2 ≤ profile
  | _ => false

/-- VHST is on: the keep-alive of R649 may run. -/
def State.hkaEnabled (s : State) : Bool :=
  s.fld .FLT_STAT_HKA != 0 && s.flag .PWR_HOSTG_VHSTON && (s.mode == modeActive || s.mode == modeReduced)

/-- What a granted lease does: VHST turns on at the granted power, a lower one than before being a reduction with its
notice (R50); the excitation leaves its withdrawn state (R259). -/
def onLease (r : Requester) (l : Lease) (s : State) : State :=
  match r with
  | .host =>
    let was := s.flag .PWR_HOSTG_VHSTON
    let lower := was && decide (l.guar + l.opp < s.fld .PWR_HOSTG_HOSTG)
    let s := (s.setFlag .PWR_HOSTG_VHSTON true).setFld .PWR_HOSTG_HOSTG (l.guar + l.opp)
    let s := s.when lower (fun t => t.setFlag .PWR_STAT_HWDR true)
    let s := { s with pwr := { s.pwr with hostNotice := was && (s.pwr.hostNotice || lower) } }
    if was then s else { s with flt := { s.flt with hkaRun := s.hkaEnabled } }
  | .exc => forEach 4 (excUnclear evLease) s
  | _ => s

/-- Try to grant a waiting lease under R47; a device held in reset grants nothing (R11). -/
def tryLease (r : Requester) (s : State) : Option State :=
  let l := s.lease r
  let part := min l.want (guarLeft s r)
  let o := l.want - part
  if s.sys.held || !leaseAllowed s.profile r then none
  else if o = 0 then some (onLease r ⟨gGrant, l.want, part, 0, 0⟩ (setLease r ⟨gGrant, l.want, part, 0, 0⟩ s))
  else if s.flag .PWR_CFG_OPPEN && oppOthers s r + o ≤ s.oppPower && coverOf o ≤ s.freeCredits
      && !s.flag .PWR_STAT_BELOWRES then
    let l' : Lease := ⟨gGrantOpp, l.want, part, o, coverOf o⟩
    some (onLease r l' (setLease r l' s))
  else none

/-- PWR.GRANT shows a burst's code where the requester holds no lease and none waits: a lease's own code goes before it
(R63, log entry 22). -/
def showBurst (r : Requester) (code : Nat) (s : State) : State :=
  if (s.lease r).state = gIdle then s.setFld (grantFld r) code else s

/-- PWR.GRANT after a burst has ended or has been given up: the lease's code, else GRANT while a burst is held, WAIT while
one waits, and IDLE. -/
def showGrant (r : Requester) (s : State) : State :=
  s.setFld (grantFld r)
    (if (s.lease r).state != gIdle then (s.lease r).state
     else if s.pwr.granted.any (fun b => b.who == r) then gGrant
     else if s.pwr.waiting.any (fun b => b.who == r && b.tag != leaseTag) then gWait
     else gIdle)

/-- Grant a waiting burst when the free credits cover it (R44, R45); a device held in reset grants nothing (R11). -/
def tryBurst (b : Burst) (s : State) : Option State :=
  if !s.sys.held && decide (s.outstanding + 200 + b.credits ≤ s.regN Reg.PWR_STORE) && !s.flag .PWR_STAT_BELOWRES then
    some (showBurst b.who gGrant { s with pwr := { s.pwr with granted := s.pwr.granted ++ [b] } })
  else none

/-- Serve waiting requests in order until one cannot be granted; that one blocks the rest (R45). -/
def serve : List Burst → State → List Burst × State
  | [], s => ([], s)
  | b :: rest, s =>
    match (if b.tag = leaseTag then tryLease b.who s else tryBurst b s) with
    | some t => serve rest t
    | none => (b :: rest, s)

/-- The waiting list by priority, in order of arrival within one priority (R45). -/
def byPriority (l : List Burst) : List Burst :=
  [0, 1, 2, 3, 4].flatMap (fun p => l.filter (fun b => rank b.who == p))

/-- PWR.FREE and PWR.LOAD (R58, R62). -/
def showBudget (s : State) : State :=
  let granted := ([Requester.exc, .host, .rope].filter (fun q => (s.lease q).inForce)).map
    (fun q => (s.lease q).guar + (s.lease q).opp)
  (s.setRegN Reg.PWR_FREE s.freeCredits).setRegN Reg.PWR_LOAD (baseLoad s.profile + granted.sum)

/-- Run the arbiter over the waiting list (R45). -/
def arbitrate (s : State) : State :=
  let (left, t) := serve (byPriority s.pwr.waiting) s
  showBudget { t with pwr := { t.pwr with waiting := left } }

/-- A burst request (R44): DENIED at once where it exceeds the largest store content less 200, else waiting and served
by the arbiter. -/
def requestBurst (b : Burst) (s : State) : State :=
  if s.storeMax < b.credits + 200 then s.setFld (grantFld b.who) gDenied
  else
    arbitrate (showBurst b.who gWait { s with pwr := { s.pwr with waiting := s.pwr.waiting ++ [b] } })

/-- Release a requester's burst when it completes, and run the arbiter (R45, R46). -/
def releaseBurst (who : Requester) (tag : Nat) (s : State) : State :=
  let s := { s with pwr := { s.pwr with
    granted := s.pwr.granted.filter (fun b => !(b.who == who && b.tag == tag)) } }
  arbitrate (showGrant who s)

/-- A requester's granted burst covers a cost. -/
def State.hasCredits (s : State) (who : Requester) (tag cost : Nat) : Bool :=
  s.pwr.granted.any (fun b => b.who == who && b.tag == tag && decide (cost ≤ b.credits))

/-- A requester holds a granted burst. -/
def State.hasBurst (s : State) (who : Requester) (tag : Nat) : Bool :=
  s.pwr.granted.any (fun b => b.who == who && b.tag == tag)

/-- Drop a requester's waiting burst. -/
def dropWaiting (who : Requester) (tag : Nat) (s : State) : State :=
  { s with pwr := { s.pwr with waiting := s.pwr.waiting.filter (fun b => !(b.who == who && b.tag == tag)) } }

/-- A requester gives up a burst that waits or is held: PWR.GRANT shows what it has left. -/
def dropBurst (who : Requester) (tag : Nat) (s : State) : State := showGrant who (dropWaiting who tag s)

/-- A lease request (R47): the lease waits with its power, and the arbiter runs. -/
def requestLease (r : Requester) (want : Nat) (s : State) : State :=
  let s := setLease r { (s.lease r) with state := gWait, want := want, guar := 0, opp := 0, cover := 0 } s
  let s := dropWaiting r leaseTag s
  arbitrate { s with pwr := { s.pwr with waiting := s.pwr.waiting ++ [⟨r, 0, leaseTag⟩] } }

/-- End a lease altogether. -/
def endLease (r : Requester) (s : State) : State := arbitrate (dropWaiting r leaseTag (setLease r {} s))

/-! ### Withdrawal (R48) -/

/-- The notice of withdrawal: the lease falls back to its guaranteed part, its cover stays until the level is reached;
the host is told (R48, R50). -/
def withdraw (r : Requester) (s : State) : State :=
  let l := s.lease r
  let s := setLease r { l with state := gWithdraw, opp := 0 } (s.setFlag .PWR_STAT_WDR true)
  match r with
  | .host =>
    let s := (s.setFlag .PWR_STAT_HWDR true).setFld .PWR_HOSTG_HOSTG l.guar
    { s with pwr := { s.pwr with hostNotice := true } }
  | _ => s

/-- Hand the guaranteed budget out again to the leases in force, in priority order (R47). A cover larger than the
opportunistic part now needs stays outstanding until that part is 0: the manual does not say that it follows the part down
(DESIGN CHOICE, log entry 22). -/
def redistribute (r : Requester) (s : State) : State :=
  let l := s.lease r
  if l.inForce then
    let part := min l.want (guarLeft s r)
    let o := l.want - part
    let st := if o = 0 then gGrant else gGrantOpp
    setLease r ⟨st, l.want, part, o, if o = 0 then 0 else l.cover⟩ s
  else s

/-- A lease's opportunistic part outgrew its cover, or the whole exceeds the present opportunistic power, or the store
is below its reserve (R48, R51). -/
def mustWithdraw (s : State) (r : Requester) : Bool :=
  let l := s.lease r
  l.inForce && decide (0 < l.opp) &&
    (decide (l.cover < coverOf l.opp) || decide (s.oppPower < oppOthers s r + l.opp) || s.flag .PWR_STAT_BELOWRES)

/-- Withdraw leases in the order ROPE, HOST, EXC until the rest fit (R48). For a part that outgrew its cover it is the
lease itself that does not fit, so no other one is withdrawn for it (DEDUCED, log entry 22). -/
def withdrawAll (s : State) : State :=
  forList [Requester.rope, .host, .exc] (fun r t => if mustWithdraw t r then withdraw r t else t) s

/-- The outputs under the EXC lease: continuous ones, and those of windows longer than 10 ms (R43, R48). -/
def leasedOutputs (s : State) : List Nat :=
  let c := s.activeCfg
  (List.range 4).filter (fun k => isCont c k || (List.range 256).any (fun i =>
    excEntry c i && !isBurst (c.topo i) s.speed && rUses (c.route (tRoute (c.topo i))) k))

/-- A withdrawn consumer is at its level: its cover is released and its lease waits again (R48). -/
def levelReached (r : Requester) (s : State) : State :=
  let l := s.lease r
  if l.state = gWithdraw then
    let s := match r with | .exc => forList (leasedOutputs s) (excClear evLease) s | _ => s
    let s := setLease r { l with state := gWait, guar := 0, opp := 0, cover := 0 } s
    let s := dropWaiting r leaseTag s
    arbitrate { s with pwr := { s.pwr with waiting := s.pwr.waiting ++ [⟨r, 0, leaseTag⟩] } }
  else s

/-! ### Surplus, charger and shunt (R30 to R32) -/

/-- The surplus at the node in µA after the load (stated at the usable side) is drawn through the 88 % regulator. -/
def nodeSurplusUa (s : State) : Nat :=
  (s.availNode * 100 - s.regN Reg.PWR_LOAD * 10000 / 88) / 6

/-- The on-chip shunt works alone: EXTSH = 0, or INT-only (R31). -/
def State.intOnly (s : State) : Bool := !s.flag .PWR_CFG_EXTSH || decide (2 ≤ s.fld .PWR_CFG_SHPOL)

/-- EXT-only: by policy, or while REDUCED is enforced for temperature (R31). -/
def State.extOnly (s : State) : Bool :=
  s.flag .PWR_CFG_EXTSH && (s.fld .PWR_CFG_SHPOL == 1 || s.flag .SYS_STAT_REDTHERM)

/-- What the shunt can take in µA: 40 mA on chip; the external shunt has no limit of its own until it fails, and takes
nothing then (R31, R32). -/
def State.shuntCap (s : State) : Option Nat :=
  let onChip := if s.extOnly then 0 else 40000
  if (s.intOnly && !s.extOnly) || s.flag .PWR_STAT_SHFAIL then some onChip else none

/-- The surplus has stayed 5 mA below what the shunt can take, so that a shed loop may return (R32). -/
def State.shedFits (s : State) : Bool :=
  match s.shuntCap with
  | some cap => decide (s.pwr.surplusUa + 5000 ≤ cap)
  | none => true

/-- The consumers draw more than the income. -/
def State.deficit (s : State) : Bool := decide (s.availNode * 88 < s.regN Reg.PWR_LOAD * 100)

/-- Hand the surplus to the charger, at most 120 mW while ESTO is below 16.0 V, and the rest to the shunts (R30, R31); the
discharge converter stays on while there is a deficit (log entry 33). In reset the charger and the shunts are off (R11).
With no income the unit draws at least 6 mW, by an internal load beside its own draw (R70). -/
def shareSurplus (s : State) : State :=
  let total := if s.sys.held then 0 else nodeSurplusUa s
  let charge := if s.flag .PWR_STAT_STFULL then 0 else min total 20000
  let rest := total - charge
  let ext := if s.extOnly then rest else if s.intOnly then 0 else rest - 40000
  let s := { s with pwr := { s.pwr with
    surplusUa := rest, shuntInt := decide (ext < rest), discharge := s.pwr.discharge && s.deficit
    floorLoad := if s.availNode = 0 then 60 - s.regN Reg.PWR_LOAD else 0 } }
  (s.setFlag .PWR_STAT_CHG (0 < charge)).setFlag .PWR_STAT_SHEXT (0 < ext)

/-- Return the loop shed last to harvest (R32). -/
def unshed (s : State) : State :=
  match s.pwr.shed with
  | [] => s
  | n :: rest =>
    let s := setBand n bandHarvest s
    { s with pwr := { s.pwr with shed := rest } }.setFlag .PWR_STAT_SHED (!rest.isEmpty)

/-- Shed the harvesting loop with the highest current, the lowest-numbered of equals (R32); entering shedding makes a
SHED record. -/
def shedOne (s : State) : State :=
  let cands := (List.range 6).filter (fun n => s.fitted n && s.fld (bandFld n) = bandHarvest)
  let best := cands.foldl (fun acc n => match acc with
    | none => some n
    | some m => if nth 0 s.pwr.loopUa m < nth 0 s.pwr.loopUa n then some n else some m) none
  match best with
  | none => s
  | some n =>
    let first := s.pwr.shed.isEmpty
    let s := setBand n bandShed { s with pwr := { s.pwr with shed := n :: s.pwr.shed } }
    let s := s.setFlag .PWR_STAT_SHED true
    if first then mkRecord 0x082 clsNote [n, s.fld .PWR_STAT_SHFAIL] s else s

/-- Recompute the budget (R29, R38, R47, R48); the arbiter of a device held in reset stands still (R11). -/
def recompute (s : State) : State :=
  if s.sys.held then s else
  let s := (s.setRegN Reg.PWR_GUAR (usable s.guarNode)).setRegN Reg.PWR_AVAIL (usable s.availNode)
  let s := s.setFld .PWR_PROFILE_NHARV s.harvesting.length
  let s := forList [Requester.exc, .host, .rope] redistribute s
  let s := arbitrate (withdrawAll s)
  let s := shareSurplus s
  if s.deficit && !s.pwr.shed.isEmpty then unshed s else s

/-! ### The commands -/

/-- LEAVE_HARVEST (R28): a harvesting loop's gate drive reaches its saturation mark; the loop moves to bypass. -/
def leaveHarvest (n : Nat) (s : State) : State :=
  if s.fld (bandFld n) = bandHarvest then setBand n bandBypass s else s

def execLeaveHarvest (n : Nat) (s : State) : Host.Outcome State Fault Refusal := answerIf (n < 6) (leaveHarvest n s)

/-- LIFT_PROBE (R28): the ramp of a bypass loop reached `level` (10 mV); at 7.80 V the loop enters harvest, else the
level is its estimate. -/
def liftProbe (n level : Nat) (s : State) : State :=
  if s.fld (bandFld n) = bandBypass then
    if 780 ≤ level then setBand n bandHarvest s else setVt n (max 200 level) s
  else s

def execLiftProbe (n level : Nat) (s : State) : Host.Outcome State Fault Refusal :=
  answerIf (n < 6 && level ≤ 780) (liftProbe n level s)

/-- The host's draw of 3.3 V × PWR.HOSTI is at or below PWR.HOSTG (R48). -/
def State.hostAtLevel (s : State) : Bool := decide (s.regN Reg.PWR_HOSTI * 33 ≤ s.fld .PWR_HOSTG_HOSTG * 100)

/-- A withdrawn consumer says that it is at its level; of the host PWR.HOSTI must show it (R48). -/
def reportLevel (r : Requester) (s : State) : State :=
  if r == .host && !s.hostAtLevel then s else levelReached r s

/-- LEASE_WITHDRAW_DEADLINE (R48): 100 ms after the notice EXC is sent to its clear codes and ROPE is paused, so the
level is reached; a host that still overdraws is cut by HOST_SUPPLY_CUT. -/
def leaseDeadline (r : Requester) (s : State) : State := reportLevel r s

def execLeaseWithdrawDeadline (r : Requester) (s : State) : Host.Outcome State Fault Refusal :=
  answerIf (r == .exc || r == .host || r == .rope) (leaseDeadline r s)

/-- LEASE_LEVEL_REACHED (R48). -/
def execLeaseLevelReached (r : Requester) (s : State) : Host.Outcome State Fault Refusal :=
  answerIf (r == .exc || r == .host || r == .rope) (reportLevel r s)

/-- LEASE_REQUEST (R47). -/
def execLeaseRequest (r : Requester) (power : Nat) (s : State) : Host.Outcome State Fault Refusal :=
  answerIf (r == .exc || r == .host || r == .rope) (requestLease r power s)

/-- DISCHARGE_CONVERTER_ON (R30): VHN fell below 5.9 V; the converter from ESTO holds the node. -/
def execDischargeConverterOn (s : State) : Host.Outcome State Fault Refusal :=
  .next { s with pwr := { s.pwr with discharge := true } }

/-- SHED_STEP (R32): with a surplus above what the shunt can take, one more loop is shed. -/
def shedStep (surplusUa : Nat) (s : State) : State :=
  let s := { s with pwr := { s.pwr with surplusUa := surplusUa } }
  match s.shuntCap with
  | some cap => if cap < surplusUa then shedOne s else s
  | none => s

def execShedStep (surplusUa : Nat) (s : State) : Host.Outcome State Fault Refusal := .next (shedStep surplusUa s)

/-- SHUNT_FAIL_DETECT (R32): SHFAIL is set and shedding starts. -/
def execShuntFailDetect (s : State) : Host.Outcome State Fault Refusal :=
  .next (shedOne (s.setFlag .PWR_STAT_SHFAIL true))

/-- SHED_RETURN (R32): one shed loop goes back to harvest where the surplus leaves 5 mA of the shunt's capacity. -/
def execShedReturn (s : State) : Host.Outcome State Fault Refusal := .next (if s.shedFits then unshed s else s)

/-- The store content of a voltage in mV (R35): floor(CAP × (V² − 49) / 20) credits. -/
def storeCredits (cap mv : Nat) : Nat := cap * (mv * mv - 49000000) / 20000000

/-- STORE_MEASUREMENT (R35, R45, R48, R51): ESTOV and S; below 200 credits BELOWRES and its report. -/
def storeMeasurement (mv : Nat) (s : State) : State :=
  let was := s.flag .PWR_STAT_BELOWRES
  let s := (s.setRegN Reg.PWR_ESTOV mv).setRegN Reg.PWR_STORE (min 65535 (storeCredits (s.regN Reg.PWR_CAP) mv))
  let s := s.setFlag .PWR_STAT_STFULL (16000 ≤ mv)
  let low := decide (s.regN Reg.PWR_STORE < 200)
  let s := s.setFlag .PWR_STAT_BELOWRES low
  let s := if low && !was && s.isActive then report 19 0 (s.regN Reg.PWR_STORE) (s.regN Reg.PWR_LOOPS) s else s
  arbitrate (withdrawAll s)

def execStoreMeasurement (mv : Nat) (s : State) : Host.Outcome State Fault Refusal :=
  answerIf (mv < 65536) (storeMeasurement mv s)

/-- Turn VHST off (R42, R50). -/
def vhstOff (s : State) : State :=
  let s := (s.setFlag .PWR_HOSTG_VHSTON false).setFld .PWR_HOSTG_HOSTG 0
  { s with flt := { s.flt with hkaRun := false }, pwr := { s.pwr with hostNotice := false } }

/-- VHST is cut for 1 s: the lease ends, and is requested again when the second is over (R50). A withdrawn lease has
reached its level by the cut, so it shows WAIT until then (R48). -/
def hostCutOff (s : State) : State :=
  let l := s.lease .host
  let s := endLease .host (vhstOff s)
  let s := if l.state = gWithdraw then setLease .host { state := gWait, want := l.want } s else s
  { s with pwr := { s.pwr with hostCut := true } }

/-- A burst asked for (R44); an external-memory burst that is DENIED at once sets XDEN (R550). -/
def burstRequest (r : Requester) (credits : Nat) (s : State) : State :=
  let t := requestBurst ⟨r, credits, 0⟩ s
  if r == .xmem && t.fld .PWR_GRANT_XMEM == gDenied then t.setFlag .XFER_STAT_XDEN true else t

/-- BURST_REQUEST (R44). -/
def execBurstRequest (r : Requester) (credits : Nat) (s : State) : Host.Outcome State Fault Refusal :=
  answerIf (r == .nvm || r == .exc || r == .xmem) (burstRequest r credits s)

/-- XMEM_CREDIT_TIMEOUT (R43): an external-memory burst still waiting is DENIED to the transfer engine, which asks again
after 100 ms (R550). -/
def xmemCreditTimeout (s : State) : State :=
  if s.pwr.waiting.any (fun b => b.who == .xmem) then
    let s := (dropWaiting .xmem 0 s).setFld .PWR_GRANT_XMEM gDenied
    arbitrate (s.setFlag .XFER_STAT_XDEN true)
  else s

def execXmemCreditTimeout (s : State) : Host.Outcome State Fault Refusal := .next (xmemCreditTimeout s)

/-- The effect of a write of PWR.HOSTP (R50, R64): values above 200 are stored as 200; 0 ends the lease and VHST. -/
def hostpEffect (v : Nat) (s : State) : State :=
  let want := min v 200
  let s := s.setFld .PWR_HOSTP_HOSTP want
  let s := { s with pwr := { s.pwr with hostAsked := decide (want ≠ 0) } }
  if want = 0 then vhstOff (endLease .host s)
  else if s.pwr.hostCut || !s.isActive then s
  else requestLease .host want s

/-- HOST_OVERDRAW (R50): a draw more than 10 % above HOSTG for 10 ms gives the notice of a withdrawal. -/
def hostOverdraw (hosti : Nat) (s : State) : State :=
  let s := s.setRegN Reg.PWR_HOSTI hosti
  if s.flag .PWR_HOSTG_VHSTON && decide (s.fld .PWR_HOSTG_HOSTG * 1100 < hosti * 330) then
    { s.setFlag .PWR_STAT_HWDR true with pwr := { s.pwr with hostNotice := true } }
  else s

def execHostOverdraw (hosti : Nat) (s : State) : Host.Outcome State Fault Refusal :=
  answerIf (hosti < 65536) (hostOverdraw hosti s)

/-- HOST_SUPPLY_CUT (R50): 100 ms after the notice, which this uses up, a draw still above HOSTG turns VHST off for
1 s. -/
def hostSupplyCut (hosti : Nat) (s : State) : State :=
  let noticed := s.pwr.hostNotice
  let s := { s.setRegN Reg.PWR_HOSTI hosti with pwr := { s.pwr with hostNotice := false } }
  if noticed && !s.hostAtLevel then hostCutOff s else s

def execHostSupplyCut (hosti : Nat) (s : State) : Host.Outcome State Fault Refusal :=
  answerIf (hosti < 65536) (hostSupplyCut hosti s)

/-- HOST_SUPPLY_RESTORE (R50): the second is over; the lease is requested again with the present HOSTP. -/
def hostSupplyRestore (s : State) : State :=
  if s.pwr.hostCut then
    let s := { s with pwr := { s.pwr with hostCut := false } }
    if s.fld .PWR_HOSTP_HOSTP = 0 then s else requestLease .host (s.fld .PWR_HOSTP_HOSTP) s
  else s

def execHostSupplyRestore (s : State) : Host.Outcome State Fault Refusal := .next (hostSupplyRestore s)

end Sys2Proof.Machine
end

