-- ==== Sys2Proof/Machine/Results.lean ====
section
/-! DEFINITION. Writing results: the result registers and their status byte (R285, R286), the notices to the engines
(R341), the frame queue (R342), the availability counters (R334) and the AFTER entries that a result fires (R322). -/

namespace Sys2Proof.Machine

/-! ### The status byte (R286) -/

def rsValid : Nat := 128
def rsOvr : Nat := 64
def rsOpen : Nat := 32
def rsSetl : Nat := 16
def rsSupd : Nat := 8
def rsSub : Nat := 4
def rsAtime : Nat := 2

/-- One status bit. -/
def bitIf (b : Bool) (v : Nat) : Nat := if b then v else 0

/-- Bit 0 of a pass count (R286). -/
def passLsb (pass : Nat) : Nat := pass % 2

/-! ### Result registers (R285, R332) -/

/-- The words of a result: a value as a 24-bit two's complement number and a status byte. -/
def resultWords (value : Int) (status : Nat) : Word × Word :=
  let v := (value % 16777216).toNat
  (word (v % 256 * 256 + status), word (v / 256))

/-- The engines' running time in core clocks (R435): time less that in which they are frozen. -/
def State.runNow (s : State) : Nat := (s.seq.frozenAt.getD s.now) - s.seq.frozenFor

/-- Write both words of a result register in one core clock; the running time of the write is kept for R403. -/
def putResult (reg : Nat) (value : Int) (status : Nat) (s : State) : State :=
  let w := resultWords value status
  { s with
    tab := { s.tab with result := writeAt zeroWord (writeAt zeroWord s.tab.result (2 * reg) w.1) (2 * reg + 1) w.2 }
    seq := { s.seq with resAt := writeAt (fun _ => 0) s.seq.resAt reg s.runNow } }

/-- A result register's words. -/
def State.resultWord (s : State) (reg k : Nat) : Word := readAt zeroWord s.tab.result (2 * reg + k)

/-- The value of a result register, signed. -/
def State.resultValue (s : State) (reg : Nat) : Int :=
  let v := (s.resultWord reg 1).toNat * 256 + (s.resultWord reg 0).toNat / 256
  if v < 8388608 then v else (v : Int) - 16777216

/-- VALID of a result register. -/
def State.resultValid (s : State) (reg : Nat) : Bool := (s.resultWord reg 0).getLsbD 7

/-! ### Notices and frame items -/

/-- Post a notice of an entry to engine n; without a credit it is coalesced (R341). -/
def postNotice (entry n : Nat) (s : State) : State :=
  if (s.engine n).notices.length < 8 then s.modEng n (fun e => { e with notices := e.notices ++ [entry] })
  else s.setFldBit .SEQ_QSTAT_ECOAL n true

/-- Post the notices of an entry to the engines that its FEED names. -/
def postNotices (e : List Word) (entry : Nat) (s : State) : State :=
  forEach 6 (fun n t => if (tFeed e).testBit n then postNotice entry n t else t) s

/-- Place a result in the frame queue where the entry has FRM = 1; without a credit it is dropped, FDROP is set and the
frame of that pass will be marked incomplete (R342). -/
def queueFrameItem (e : List Word) (entry pass : Nat) (w : Word × Word) (s : State) : State :=
  if !tFrm e then s
  else if s.seq.frameQ.length < 64 then setFrameQ s (s.seq.frameQ ++ [(entry, w.1.toNat, w.2.toNat, pass % 65536)])
  else { s with seq := { s.seq with dropped := true } }.setFlag .SEQ_QSTAT_FDROP true

/-! ### Entries -/

/-- An entry that the sequencer may fire: enabled in the active copy and not disabled for its CRC (R318). -/
def State.entryOn (s : State) (e : Nat) : Bool := tEn (s.topoEntry e) && !s.seq.crcDead.contains e

/-- The enabled entries, in topo order. -/
def State.entries (s : State) : List Nat := (List.range 256).filter s.entryOn

/-- A result of an entry is written: each AFTER entry that names it as predecessor is armed, once for every result (R322). -/
def armAfters (entry : Nat) (s : State) : State :=
  let arm := (s.entries.filter (fun a => tKind (s.topoEntry a) == kindAfter
    && getField (ew (s.topoEntry a) 0) 0 8 == entry)).map
      (fun a => (a, s.now + getField (ew (s.topoEntry a) 0) 8 7 * 512))
  { s with seq := { s.seq with afterRun := s.seq.afterRun ++ arm } }

/-- The classes of R334. -/
def slotDelivered : Nat := 0
def slotExternal : Nat := 1
def slotMissed : Nat := 2

/-- Count a slot (R334, R335). -/
def countSlot (cls : Nat) (s : State) : State :=
  let up := fun (a : Nat) (t : State) => t.setReg32 a ((t.reg32 a + 1) % 4294967296)
  if cls = slotDelivered then up Reg.SEQ_DUE s
  else if cls = slotMissed then up Reg.SEQ_MISS (up Reg.SEQ_DUE s)
  else s

/-- Everything a slot's one result write does (R332, R334, R341, R342, R322). -/
def finishSlot (e : List Word) (entry pass : Nat) (value : Int) (status cls : Nat) (s : State) : State :=
  let s := putResult (tRreg e) value status s
  let s := postNotices e entry s
  let s := queueFrameItem e entry pass (resultWords value status) s
  armAfters entry (countSlot cls s)

/-- An entry owes SETL (R288): take the mark. -/
def takeSetl (entry : Nat) (s : State) : Bool × State :=
  (s.seq.setlOwed.contains entry, { s with seq := { s.seq with setlOwed := s.seq.setlOwed.filter (· != entry) } })

/-- Entries owe SETL on their next result. -/
def oweSetl (es : List Nat) (s : State) : State :=
  { s with seq := { s.seq with setlOwed := s.seq.setlOwed ++ es.filter (fun e => !s.seq.setlOwed.contains e) } }

/-- A missed slot (R331): value 0 and PASSLSB alone. -/
def missSlot (entry pass : Nat) (s : State) : State :=
  finishSlot (s.topoEntry entry) entry pass 0 (passLsb pass) slotMissed s

/-- A slot whose window is not started for energy, the reference or clear excitation: VALID = 0 and SUPD = 1, counted as
external (R285, R331). -/
def supplySlot (entry pass : Nat) (sub : Bool) (s : State) : State :=
  let (setl, s) := takeSetl entry s
  finishSlot (s.topoEntry entry) entry pass 0 (rsSupd + bitIf setl rsSetl + bitIf sub rsSub + passLsb pass) slotExternal s

/-- The working gain of an autorange entry: its base gain until a step (R290). -/
def State.workGain (s : State) (entry : Nat) (e : List Word) : Nat :=
  if tAuto e then ((s.seq.gainAt.find? (fun x => x.1 == entry)).map (·.2)).getD (tGain e) else tGain e

/-- Set the working gain of an entry; a step owes SETL (R288, R290). -/
def setWorkGain (entry g : Nat) (e : List Word) (s : State) : State :=
  if g = s.workGain entry e then s
  else oweSetl [entry] { s with seq := { s.seq with
    gainAt := s.seq.gainAt.filter (fun x => x.1 != entry) ++ [(entry, g)] } }

end Sys2Proof.Machine
end

