-- ==== Sys2Proof/Machine/Slices.lean ====
section
/-! DEFINITION. The conversion slices (08), the crosspoint (06) and the excitation connections (07): what a window loads
and connects at its start, how it ends, and the result it writes. -/

namespace Sys2Proof.Machine

/-! ### The COEF table (R355 to R357) -/

/-- Words per COEF entry and the check word of an all-zero entry. -/
def coefCrc (e : List Word) : Word := crc16 (bytesOfWords (e.take 5))

/-- What a COEF word reads as before anything loads it: 0, with FACT = 1 and unknown figures in a slice entry
(log entry 6). -/
def coefDefault (k : Nat) : Word :=
  if k / 6 < 64 then (if k % 6 = 5 then 0xE139 else 0)
  else match k % 6 with
    | 2 => 0x0080
    | 3 => 0xFFFF
    | 4 => 0xFFFF
    | 5 => 0xACD6
    | _ => 0

/-- The six words of a COEF entry of a bank. -/
def coefEntry (bank : List (Nat × Word)) (i : Nat) : List Word := readRun coefDefault bank (6 * i) 6

/-- The entry's check word matches (R359). -/
def coefOk (e : List Word) : Bool := coefCrc e == ew e 5

/-- Store a COEF entry's words 0 to 4 and compute its check word (R358). -/
def putCoef (bank : List (Nat × Word)) (i : Nat) (ws : List Word) : List (Nat × Word) :=
  writeRun coefDefault bank (6 * i) (ws.take 5 ++ [coefCrc ws])

/-- The index of the slice entry of slice n at gain code c. -/
def sliceEntry (n c : Nat) : Nat := 64 + 8 * n + c

/-- The factory codes of slice n at gain code c: OFS, GN and TCAL (R385). -/
def State.factoryWord (s : State) (n c w : Nat) : Word := readAt zeroWord s.nvm.factory ((n * 8 + c) * 3 + w)

/-- A COEF slice entry holding the factory codes, FACT = 1 (R357, R386). -/
def State.factoryEntry (s : State) (n c : Nat) : List Word :=
  [s.factoryWord n c 0, s.factoryWord n c 1, (s.factoryWord n c 2 &&& 0xFF00) ||| 0x0080, 0xFFFF, 0xFFFF]

/-- The limits of a trim code (R352). -/
def clampCode (v : Int) : Int := clampInt (-8192) 8191 v

/-- The gain of a gain code (R275). -/
def gainOf (c : Nat) : Nat := 2 ^ c

/-- Slice n's inactive entries hold staged host trims (R362). -/
def State.trimsHeld (s : State) (n : Nat) : Bool := (List.range 8).any (fun c => s.stg.coefHost.contains (sliceEntry n c))

/-- CAL.STAT.HELD (R362): a due slice is held back by its own staged trims, or by those of the swing slice, whose
calibration is step 1 of every lead. -/
def showHeld (s : State) : State :=
  s.setFlag .CAL_STAT_HELD (s.cal.due.any (fun n => s.trimsHeld n || (n < 12 && s.trimsHeld 12)))

/-- Slice n becomes due for calibration (R365): powered, non-retired and with background calibration on; the
longest-due stand first. In bivouac, where every slice is off, due times keep running (R376). -/
def makeDue (n : Nat) (s : State) : State :=
  if s.flag .CAL_CTRL_BGEN && !s.cal.due.contains n && !s.fldBit .SLC_RETIRED_RET n
      && (!(s.slice n).off || s.inBivouac) then
    showHeld { s with cal := { s.cal with due := s.cal.due ++ [n] } }
  else s

/-- The codes of a slice at a gain code: the active entry's, or the factory codes where the entry fails its check, which
is then reported (R359). -/
def sliceCodes (n c : Nat) (s : State) : (Int × Int) × State :=
  let e := coefEntry s.tab.coef (sliceEntry n c)
  if coefOk e then ((signed16 (ew e 0).toNat, signed16 (ew e 1).toNat), s)
  else
    let s := report 7 (0x40 + n) (s.regN Reg.CAL_STAT) 0 (s.setFlag .CAL_STAT_COEFFB true)
    ((signed16 (s.factoryWord n c 0).toNat, signed16 (s.factoryWord n c 1).toNat), makeDue n s)

/-- The codes of a route and its calibration gain: 0 where SYS = 0, where DIAG is not 0, or where the entry fails its
check, which is then reported (R353, R359). -/
def routeCodes (r diag : Nat) (s : State) : (Int × Int × Nat) × State :=
  let e := coefEntry s.tab.coef r
  if diag != 0 then ((0, 0, 0), s)
  else if !coefOk e then
    ((0, 0, 0), report 7 (0x80 + r) (s.regN Reg.CAL_STAT) 0 (s.setFlag .CAL_STAT_COEFFB true))
  else if (ew e 2).getLsbD 4 then
    ((signed16 (ew e 0).toNat, signed16 (ew e 1).toNat, getField (ew e 2) 5 3), s)
  else ((0, 0, 0), s)

/-- The effective codes from a slice's codes at gain code c and a route's OFS, GN and GCAL (R353), with TSAT where a sum
reaches a limit (R354): a sum equal to a limit has reached it. -/
def effectiveCodes (c : Nat) (sl : Int × Int) (ro : Int × Int × Nat) (s : State) : (Int × Int) × State :=
  let o := sl.1 + roundDiv (ro.1 * gainOf c) (gainOf ro.2.2)
  let g := sl.2 + ro.2.1
  let sat := decide (o ≤ -8192) || decide (8191 ≤ o) || decide (g ≤ -8192) || decide (8191 ≤ g)
  ((clampCode o, clampCode g), if sat then s.setFlag .CAL_STAT_TSAT true else s)

/-- The effective codes that a window of a route loads (R353). -/
def loadTrims (n c r diag : Nat) (s : State) : (Int × Int) × State :=
  let (sl, s) := sliceCodes n c s
  let (ro, s) := routeCodes r diag s
  effectiveCodes c sl ro s

/-- The codes in force in a window of a system calibration (R383): the slice's codes, with the inactive entry's OFS for the
full-scale point. -/
def loadSysTrims (n c r : Nat) (s : State) : (Int × Int) × State :=
  let (sl, s) := sliceCodes n c s
  let e := coefEntry s.tab.coefAlt r
  let full := s.cal.sys.any (fun x => x.1)
  effectiveCodes c sl (if full then signed16 (ew e 0).toNat else 0, 0, getField (ew e 2) 5 3) s

/-! ### The crosspoint (R219 to R225, R238) -/

/-- The sense connections of a route on slice n, the roles naming the buses INP and INN; a diagnostic route has none (R231).
With the demodulation in its second half POS is on INN and NEG on INP (R241). -/
def senseConns (swap : Bool) (r : List Word) (n : Nat) : List Conn :=
  if rDiag r != 0 then []
  else
    (if isPin (rPos r) then [⟨rPos r, if swap then roleNeg else rolePos, n⟩] else [])
    ++ (if isPin (rNeg r) then [⟨rNeg r, if swap then rolePos else roleNeg, n⟩] else [])
    ++ (if rRefsel r = 1 then [⟨rRefp r, roleRefp, n⟩, ⟨rRefn r, roleRefn, n⟩] else [])

/-- An output of a window is neither in its clear state nor in the break of R265, so its connections are made. -/
def State.excLive (s : State) (k : Nat) : Bool := (s.excOut k).clearBy.isEmpty && !(s.excOut k).breakOn

/-- The excitation connections of a window as written, or exchanged after its half (R240). -/
def windowExc (w : Window) (n : Nat) : List Conn :=
  let r := w.route
  ((List.range 4).filter w.uses).flatMap (fun k =>
    if w.half && rExbPin r != pinNone && rExaPin r != pinNone && !rSdem r then
      (if rExaSel r = k then [⟨rExbPin r, roleExc k, ownSlice n⟩] else [])
        ++ (if rExbSel r = k then [⟨rExaPin r, roleExc k, ownSlice n⟩] else [])
    else excConns r k (ownSlice n))

/-- The drive connections that a window makes: its excitation connections on live outputs, which EXCM = NONE leaves open
(R310), and its return (R223, R224). -/
def driveConns (s : State) (w : Window) (n : Nat) : List Conn :=
  (windowExc w n).filter (fun c => s.excLive (c.role - 4))
    ++ (if rDiag w.route = 0 then rtnConns w.route (ownSlice n) else [])

/-- The pin that a route biases, where it names one. -/
def biasPin (r : List Word) : Option Nat := if rDiag r == 0 && isPin (rBias r) then some (rBias r) else none

/-- The crosspoint is open but for clear connections (R226): before the end of phase 5, in bivouac, while XCLR is low and
in the fatal state. -/
def State.crosspointOpen (s : State) : Bool := s.phase ≤ 5 || s.inBivouac || s.sys.xclrLow || s.isFatal

/-- A held bias is closed: held, and no window in progress has a route that uses the pin in another role without naming it
as its bias (R238). -/
def State.biasClosed (s : State) (pin : Nat) : Bool :=
  s.seq.bias.contains pin && (List.range 13).all (fun n => match (s.slice n).win with
    | some w => biasPin w.route == some pin
      || (pinRoles w.topo w.route).all (fun x => x.1 != pin || x.2 == roleBias)
    | none => true)

/-! ### The excitation at a window boundary (R256, R258, R260) -/

/-- Some enabled entry's windows use output k. -/
def State.outputUsed (s : State) (k : Nat) : Bool :=
  s.entries.any (fun e => usesExc (s.topoEntry e) (s.routeEntry (tRoute (s.topoEntry e)))
    && rUses (s.routeEntry (tRoute (s.topoEntry e))) k)

/-- The home connections of a continuous output: those of its clear route (R256). -/
def homeConns (s : State) (k : Nat) : List Conn :=
  let r := s.clearRoute k
  excConns r k (ownHome k) ++ rtnConns r (ownHome k)

/-- Output k is connected at its code: CLRST clears (R269) and, where `home`, its home connections close (R256). -/
def connectOutput (k : Nat) (s : State) : State :=
  let s := s.setFldBit .EXC_STAT_CLRST k false
  if (s.excOut k).home then addConns s (homeConns s k) else s

/-- Output k meets a window boundary that ends its clear state unless an event still holds it (R260). At a boundary that
uses it its home connections close, or open while REDUCED holds (R256, R258); at another boundary they stay as they were.
In the break of R265 nothing connects until the driver is back. -/
def excBoundary (uses : Bool) (k : Nat) (s : State) : State :=
  if !(s.excOut k).clearBy.isEmpty || s.crosspointOpen then s
  else
    let cont := xCont (s.excSet k) && !s.inReduced
    let s := s.modExc k (fun x => { x with atCode := true, home := if uses then cont else x.home })
    let s := dropConns s (fun c => c.owner == ownClear k || (c.owner == ownHome k && !(s.excOut k).home))
    if (s.excOut k).breakOn || !(uses || (s.excOut k).home) then s else connectOutput k s

/-- The outputs that meet a boundary at the start of a window on a route, and whether it uses them: those it uses, and
continuous ones in their clear state that no enabled entry uses (R260). -/
def boundaryOutputs (s : State) (w : Window) : List (Nat × Bool) :=
  ((List.range 4).filter (fun k => w.uses k
    || (xCont (s.excSet k) && s.inClear k && !s.outputUsed k))).map (fun k => (k, w.uses k))

/-! ### Energy at a window's start (R43, R258) -/

/-- The credit tag of a window on slice n. -/
def sliceTag (n : Nat) : Nat := n + 1

/-- A window's length in core clocks at the present speed, at most the limit of R282. -/
def Window.span (w : Window) (speed : Nat) : Nat × Nat :=
  if w.angleWin then angleClocks w.ticks speed else (8 * w.cycles, 1)

/-- The outputs of a window that work in window mode: not continuous, or continuous while REDUCED holds (R258). -/
def windowModeOuts (s : State) (w : Window) : List Nat :=
  (List.range 4).filter (fun k => w.uses k && (!xCont (s.excSet k) || s.inReduced))

/-- The total Ioutput of a window over its window-mode outputs, in nA/65,536 (R43). -/
def windowDraw (s : State) (w : Window) : Nat := ((windowModeOuts s w).map (fun k => ioutOf (s.excSet k))).sum

/-- The credits a window asks for (R43). -/
def windowCredits (s : State) (w : Window) : Nat := creditsOf (windowDraw s w) (charged w.angleWin (w.span s.speed))

/-- The window needs the EXC lease: it is longer than 10 ms, or an output it uses is continuous (R43, R256). -/
def needsLease (s : State) (w : Window) : Bool :=
  (List.range 4).any (fun k => w.uses k && xCont (s.excSet k) && !s.inReduced)
  || (decide (0 < windowDraw s w) && fracAbove (w.span s.speed) burstLimit)

/-- The window needs a burst. -/
def needsBurst (s : State) (w : Window) : Bool :=
  decide (0 < windowDraw s w) && !fracAbove (w.span s.speed) burstLimit

/-- 33 core clocks of setup and, for a window that differs from the one before, 13 modulator cycles of settle (R276). -/
def leadIn (settle : Bool) : Nat := if settle then 137 else 33

/-- What is left of a window in core clocks, predicted from ANG.SPEED for an angle window (R327). -/
def Window.rest (w : Window) (speed now : Nat) : Nat :=
  if w.phase = 3 then
    if w.angleWin then min (ceilFrac (angleClocks (w.ticks - w.travel) speed) 1) (w.intStart + limitClocks - now)
    else w.intStart + 8 * w.cycles - now
  else w.setStart + leadIn (w.phase = 2) - now + ceilFrac (w.span speed) 1

/-- The clock at which a window in progress is predicted to end (R327). -/
def predictedEnd (s : State) (w : Window) : Nat := s.now + w.rest s.speed s.now

/-! ### The duty of REDUCED (R258) -/

/-- 100 ms in core clocks. -/
def dutyClocks : Nat := 1638400

/-- Output k is connected to a pin. -/
def State.excConnected (s : State) (k : Nat) : Bool := s.conns.any (fun c => c.role == roleExc k)

/-- One core clock of the count of R258: the connected time of each output over successive intervals of 100 ms. -/
def dutyClock (s : State) : State :=
  if !s.inReduced then s
  else forEach 4 (fun k t =>
    let x := t.excOut k
    let fresh := decide (x.intervalStart + dutyClocks ≤ t.now)
    if !fresh && !t.excConnected k then t
    else t.modExc k (fun x => { x with
      intervalStart := if fresh then t.now else x.intervalStart
      onClocks := (if fresh then 0 else x.onClocks) + (if t.excConnected k then 1 else 0) })) s

/-- REDUCED begins: the intervals of R258 begin. -/
def dutyBegins (s : State) : State :=
  forEach 4 (fun k t => t.modExc k (fun x => { x with intervalStart := t.now, onClocks := 0 })) s

/-- The connected time of output k in the present interval, in core clocks, with the windows in progress and a window that
starts now and takes `len` clocks, setup and settle included. -/
def dutyWith (s : State) (k len : Nat) : Nat :=
  let x := s.excOut k
  let others := (s.slices.filterMap (·.win)).filter (fun w => w.uses k)
  let last := (others.map (predictedEnd s)).foldl max (s.now + len)
  x.onClocks + (min last (x.intervalStart + dutyClocks) - s.now)

/-- The 25 % cap of R258: the window would take an output above 25 ms of connection in the present 100 ms. -/
def overDuty (s : State) (w : Window) (settle : Bool) : Bool :=
  s.inReduced && (List.range 4).any (fun k => w.uses k &&
    decide (dutyClocks < 4 * dutyWith s k (leadIn settle + ceilFrac (w.span s.speed) 1)))

/-! ### Starting a window (R276) -/

/-- The window needs the internal reference (R294). -/
def needsRef (r : List Word) : Bool := rRefsel r == 0 || rDiag r != 0

/-- A diagnostic channel that is converted at gain 1 (R298). -/
def fixedGain (r : List Word) : Bool := decide (2 ≤ rDiag r) && decide (rDiag r ≤ 8)

/-- The level of a window's burnout sources, coded as in R314: none on a diagnostic or demodulated route (R239), and 2 µA
for a lead check that selects none (R245). -/
def burnLevel (r : List Word) (lchk : Bool) (sel : Nat) : Nat :=
  if rDiag r != 0 || rSdem r then 0 else if lchk && sel = 0 then 2 else sel

/-- A window not yet started, with nothing loaded and no mark. -/
def bareWindow (s : State) (o : Occ) (e r : List Word) (rt base gain cycles sel : Nat) : Window :=
  { occ := o, phase := 1, topo := e, route := r, routeIdx := rt, base := base, gain := gain, ofs := 0, gn := 0
    burn := burnLevel r (tLchk e) sel, angleWin := o.kind == 0 && tAngleWin e, cycles := cycles
    ticks := tTicks e, setStart := s.now, intStart := s.now, travel := 0
    short := false, early := false, supd := false, atime := false, setl := false, half := false
    lostFirst := [], lostSecond := [], sub := false, partner := none, burst := false, sel := sel
    ext := needsRef r && s.fld .REF_CTRL_IOMODE == 2 }

/-- A route that only its diagnostic channel describes: the slice's inputs are internal (R231). -/
def internalRoute : List Word := [0x3030, 0x3030, 0x9C30, 0x0C30]

/-- Measurement k of one pass of a self-calibration (R363): gain code k / 2, first with the inputs shorted, then with the
precision divider. -/
def selfWindow (s : State) (o : Occ) : Window :=
  let k := o.word % 16
  bareWindow s o [] internalRoute (64 + k % 2) (k / 2) (k / 2) 32768 0

/-- A window of a system calibration of route r, with the settings of its inactive entry (R383). -/
def sysWindow (s : State) (o : Occ) : Window :=
  let e := coefEntry s.tab.coefAlt o.entry
  let r := s.routeEntry o.entry
  let g := if fixedGain r then 0 else getField (ew e 2) 5 3
  bareWindow s o [] r o.entry g g (2048 * 2 ^ getField (ew e 4) 3 3) (getField (ew e 4) 6 2)

/-- The occurrences of calibration: of system calibration where they name a route, else of self-calibration. -/
def Occ.sysCal (o : Occ) : Bool := o.kind == 3 && decide (o.entry < 64)

/-- The window that an occurrence asks for, before anything is loaded. -/
def windowOf (s : State) (o : Occ) : Window :=
  if o.kind = 0 then
    let e := s.topoEntry o.entry
    bareWindow s o e (s.routeEntry (tRoute e)) (tRoute e) (tGain e) (s.workGain o.entry e) (tCycles e) (tBurn e)
  else if o.sysCal then sysWindow s o
  else if o.kind = 3 then selfWindow s o
  else
    let w := word o.word
    let r := s.routeEntry (getField w 10 6)
    let g := if fixedGain r then 0 else getField w 7 3
    bareWindow s o [] r (getField w 10 6) g g (256 * 2 ^ getField w 4 3) 0

/-- The result of slice n carries SUB where the swing slice produces it in place of another slice, or takes part in a pair
(R369): in COVER and BACK on the swing slice, in TAKE and PROBE on the slice it runs alongside. An urgent conversion
carries it only as the cover of another slice (R338). -/
def State.subOn (s : State) (n : Nat) (o : Occ) : Bool :=
  let ph := s.fld .CAL_STAT_PHASE
  match o.kind with
  | 0 => (n == 12 && s.cal.cover.isSome) || (ph == 2 && n == s.fld .CAL_STAT_SLICE) || (ph == 5 && s.cal.probe == some n)
  | 1 => n == 12 && s.cal.cover.isSome && s.fld .SEQ_URGSLICE_SLICE != 12
  | _ => false

/-- An occurrence of slice n is skipped for energy or the reference (R43, R258, R293, R294): an urgent or direct one writes
its register with SUPD, and a measurement of calibration writes nothing. -/
def skipOcc (n : Nat) (o : Occ) (s : State) : State :=
  if o.kind = 0 then supplySlot o.entry o.pass (s.subOn n o) s
  else if o.kind = 3 then s
  else putResult (256 + o.word % 8) 0 (rsSupd + bitIf (s.subOn n o) rsSub + passLsb o.pass) s

/-- A window of slice n is not started: the drive connections kept for it open (R224). -/
def openDrives (n : Nat) (s : State) : State := dropConns s (fun c => c.owner == n && 4 ≤ c.role)

def skipWindow (n : Nat) (o : Occ) (s : State) : State := skipOcc n o (openDrives n s)

/-- ATIME holds for a window that starts now (R196, R200). -/
def State.atimeNow (s : State) : Bool :=
  s.flag .ANG_STAT_SUBST || s.ang.atimePend
  || (s.flag .ANG_STAT_BCN && (match s.ang.beacon with | some b => b.subst | none => false))

/-- A route as a slice's next window compares it: without the lead state, which the device writes and no commit (R234,
R276). -/
def routeKey (r : List Word) : List Word := r.modify 3 (· &&& 0x0FFF)

/-- What a slice's next window is compared with: route index, route, gain and burnout selection (R276). -/
def Window.key (w : Window) : Nat × List Word × Nat × Nat := (w.routeIdx, routeKey w.route, w.gain, w.sel)

/-- The window differs from the slice's previous one (R276). -/
def windowDiffers (x : SliceSt) (w : Window) : Bool := x.prev != some w.key

/-- Two keys have the same route and burnout selection, whatever the gain: a run of overload cycles carries (R244). -/
def carries (a b : Nat × List Word × Nat × Nat) : Bool := a.1 == b.1 && a.2.1 == b.2.1 && a.2.2.2 == b.2.2.2

/-- The partner that shadows slice n in an overlap (R367, R368, R374). -/
def State.partnerOf (s : State) (n : Nat) : Option Nat :=
  let ph := s.fld .CAL_STAT_PHASE
  let named := s.fld .CAL_STAT_SLICE
  if ph = 2 && n = named then some 12
  else if ph = 4 && n = 12 then some named
  else if ph = 5 && s.cal.probe = some n then some 12
  else none

/-- Switch the crosspoint of slice n to a window's connections (R223). While the crosspoint is open nothing closes. -/
def switchSlice (n : Nat) (w : Window) (s : State) : State :=
  let new := senseConns (s.demodSwap w.route) w.route n ++ driveConns s w n
  let s := dropConns s (fun c => c.owner == n && !new.contains c)
  if s.crosspointOpen then s
  else
    let s := addConns s new
    match biasPin w.route with
    | some p => { s with seq := { s.seq with bias := if s.seq.bias.contains p then s.seq.bias else s.seq.bias ++ [p] } }
    | none => s

/-- Put a window into slice n, with the trims of that slice and the overload cycles that carry into it (R244, R353). -/
def placeWindow (n : Nat) (w : Window) (s : State) : State :=
  let (t, s) := if w.occ.sysCal then loadSysTrims n w.gain w.routeIdx s else loadTrims n w.gain w.routeIdx (rDiag w.route) s
  showBusy n (s.modSlice n (fun x => { x with
    win := some { w with ofs := t.1, gn := t.2, carry := if x.prev.any (carries w.key) then x.overCarry else 0 }
    prev := some w.key
    overCarry := 0 }))

/-- An occurrence's pair begins: the overlap's clock, and the count of its entry where it has fired since (R367, R370). -/
def countEntry (entry clock : Nat) (s : State) : State :=
  if s.cal.overlapAt.any (· ≤ clock) && s.cal.pairs.all (fun p => p.1 != entry) then
    { s with cal := { s.cal with pairs := s.cal.pairs ++ [(entry, 0)] } }
  else s

def beginPair (o : Occ) (s : State) : State :=
  if s.cal.overlapAt.isSome then countEntry o.entry o.clock s
  else { s with cal := { s.cal with overlapAt := some s.now, pairs := [(o.entry, 0)] } }

/-- The sense connections of a slice that runs paired (R225): while the crosspoint is open nothing closes (R226). -/
def pairConns (p : Nat) (w : Window) (s : State) : State :=
  let new := senseConns (s.demodSwap w.route) w.route p
  let s := dropConns s (fun c => c.owner == p && !new.contains c)
  if s.crosspointOpen then s else addConns s new

/-- In a pair the swing slice's burnout sources stay off (R225). -/
def pairBurn (n : Nat) (w : Window) : Window := if n = 12 && w.partner.isSome then { w with burn := 0 } else w

/-- Start a window on slice n (R276): ask for its energy, load, connect, mark. -/
def startWindow (n : Nat) (o : Occ) (s : State) : State :=
  let w := windowOf s o
  let partner := if o.kind = 0 then
      (s.partnerOf n).filter (fun p => (s.slice p).win.isNone && !(s.slice p).off)
    else none
  let differs := windowDiffers (s.slice n) w || (match partner with
    | some p => windowDiffers (s.slice p) w
    | none => false)
  if (s.slice n).off || (needsRef w.route && !s.flag .REF_STAT_READY) || overDuty s w differs then skipWindow n o s
  else if needsLease s w && !s.pwr.exc.inForce then skipWindow n o s
  else
    let burst := needsBurst s w
    let s := if burst then requestBurst ⟨.exc, windowCredits s w, sliceTag n⟩ s else s
    if burst && !s.hasBurst .exc (sliceTag n) then skipWindow n o (dropBurst .exc (sliceTag n) s)
    else
      let s := forList (boundaryOutputs s w) (fun x => excBoundary x.2 x.1) s
      let (setl, s) := if o.kind = 0 then takeSetl o.entry s else (false, s)
      let held := (List.range 4).any (fun k => w.uses k && s.inClear k)
      let broken := (List.range 4).any (fun k => w.uses k && (s.excOut k).breakOn)
      let w := { w with
        phase := if differs then 2 else 1, supd := held || s.warn, setl := setl || broken
        atime := s.atimeNow || o.atime, sub := s.subOn n o
        partner := partner, burst := burst }
      let s := placeWindow n (pairBurn n w) s
      let s := switchSlice n w s
      match partner with
      | some p =>
        let pw := { w with occ := { o with kind := 9 }, burst := false }
        pairConns p w (placeWindow p { pairBurn p pw with partner := none } (beginPair o s))
      | none => s

/-! ### Integration (R277, R278) -/

/-- Both excitation connections of a route are used. -/
def bothExc (r : List Word) : Bool := rExaPin r != pinNone && rExbPin r != pinNone && !rSdem r

/-- The lead check is performed on the window (R245). -/
def leadCheckOn (w : Window) : Bool := !w.topo.isEmpty && tLchk w.topo && rDiag w.route == 0 && !rSdem w.route

/-- The window is split in halves: a current swap with both excitation connections, or a lead check (R240, R245). -/
def splits (w : Window) : Bool :=
  !w.topo.isEmpty && ((tSwap w.topo && bothExc w.route && tExcm w.topo == 0) || leadCheckOn w)

/-- The integrated cycles still to come (R278): exact for a time window, predicted from ANG.SPEED for an angle window,
which integrates 256 cycles at least (R281) and stops at the limit of R282. -/
def Window.toCome (w : Window) (speed : Nat) : Nat :=
  let held := w.chop.hold + (if splits w && !w.half then 4 else 0)
  if w.angleWin then
    let ahead := if speed = 0 then 4194304 else (w.ticks - w.travel) * 2048000 / speed - held
    min (max ahead (256 - w.chop.done)) (4194304 - w.chop.done)
  else w.cycles - w.chop.elapsed - held

/-- A chop period begins: below 128 integrated cycles to come it is the final one, of that length (R278). -/
def beginPeriod (speed : Nat) (w : Window) : Window :=
  let r := w.toCome speed
  { w with chop := { w.chop with pos := 0, len := if r < 128 then r else 64, last := decide (r < 128) } }

/-- The amplifier's polarity is the first of the period. -/
def Chop.first (c : Chop) : Bool := decide (c.pos < c.len / 2)

/-- One modulator cycle of a window that integrates: a held one counts in its length only, and the chop phase pauses
(R277, R278). -/
def cycleStep (speed : Nat) (w : Window) : Window :=
  let c := w.chop
  if 0 < c.hold then { w with chop := { c with elapsed := c.elapsed + 1, hold := c.hold - 1 } }
  else
    let w := { w with chop := { c with elapsed := c.elapsed + 1, done := c.done + 1, pos := c.pos + 1,
                                       plus := c.plus + (if c.first then 1 else 0) } }
    if w.chop.pos = c.len && !c.last then beginPeriod speed w else w

/-- The whole chop periods before the final one, in a window of some integrated cycles (R278). -/
def wholePeriods (total : Nat) : Nat := if total < 128 then 0 else (total - 128) / 64 + 1

/-- The window has integrated `total` cycles by the event that ends it: where fewer core clocks have been run, the chop
phase is that of as many cycles, the final period ending with them (R278). -/
def integrated (total : Nat) (c : Chop) : Chop :=
  if c.done = total then c
  else
    let k := wholePeriods total
    let r := total - 64 * k
    { elapsed := max c.elapsed total, done := total, hold := 0, pos := r, len := r, last := true, plus := 32 * k + r / 2 }

/-- The imbalance I of the chopping: the integrated cycles that no cycle of the other polarity balances (R278). -/
def Chop.imbalance (c : Chop) : Nat := (2 * (c.plus : Int) - (c.done : Int)).natAbs

/-- Mark a count of integrated cycles on slice n and on its partner. -/
def markIntegrated (n : Nat) (total : Window → Nat) (s : State) : State :=
  match (s.slice n).win with
  | none => s
  | some w =>
    let f := fun (v : Window) => { v with chop := integrated (total w) v.chop }
    let s := s.modWin n f
    match w.partner with
    | some p => s.modWin p f
    | none => s

/-- The modulator cycle at which a time window's halves are exchanged: the first chop boundary at or after its half
(R240). -/
def exchangeCycle (cycles : Nat) : Nat := ceilDiv cycles 128 * 64

/-! ### The end of integration (R224, R276, R279 to R283) -/

/-- The drive connections that the slice's next window keeps closed (R224). -/
def keptConns (n : Nat) (s : State) : List Conn :=
  match (s.slice n).pending with
  | o :: _ => driveConns s (windowOf s o) n
  | [] => []

/-- The bursts of the EXC requester that end with a window on slice n: the window's own, and one that BURST_REQUEST was
granted for it (R46). -/
def releaseWindow (n : Nat) (w : Window) (s : State) : State :=
  let s := if w.burst then releaseBurst .exc (sliceTag n) s else s
  if s.hasBurst .exc 0 && w.occ.kind != 9 then releaseBurst .exc 0 s else s

/-- Integration ends on one slice: the window waits for its end phase; a slice due to be off is turned off (R293). The
measurement of a calibration writes no result. -/
def endOne (n : Nat) (early : Bool) (s : State) : State :=
  match (s.slice n).win with
  | none => s
  | some w =>
    let keep := keptConns n s
    let s := dropConns s (fun c => c.owner == n && 4 ≤ c.role && !keep.contains c)
    let s := releaseWindow n w s
    showBusy n (s.modSlice n (fun x => { x with
      win := none, ended := if w.occ.kind = 3 then x.ended else x.ended ++ [{ w with early := w.early || early }]
      off := x.off || x.offPend, offPend := false }))

/-- With BUFEN = 0 the buffer turns off when no window in progress needs it (R294). -/
def settleBuffer (s : State) : State :=
  let used := s.slices.any (fun x => match x.win with
    | some w => needsRef w.route
    | none => false)
  if s.flag .REF_CTRL_BUFEN || used then s else s.setFlag .REF_STAT_BUFON false

/-- Integration ends on slice n and on its partner (R368). -/
def endWindow (n : Nat) (early : Bool) (s : State) : State :=
  match (s.slice n).win with
  | none => s
  | some w =>
    let s := endOne n early s
    settleBuffer (match w.partner with
      | some p => endOne p early s
      | none => s)

/-- The burnout source on INP of slice n is on (R239, R245): while its window runs, and for a lead check in the first half
only; off where the crosspoint is open (R226). -/
def State.sourceOn (s : State) (n : Nat) : Bool :=
  !s.crosspointOpen && (s.slice n).win.any (fun w => w.burn != 0 && !(leadCheckOn w && w.half))

/-- The burnout sink on INN of slice n is on: for a lead check in the second half only. -/
def State.sinkOn (s : State) (n : Nat) : Bool :=
  !s.crosspointOpen && (s.slice n).win.any (fun w => w.burn != 0 && !(leadCheckOn w && !w.half))

/-- The slice integrates, or is in a setup that needs no settle (R276). -/
def integrating (w : Window) : Bool := w.phase != 2

/-! ### The result (R284 to R290) -/

/-- The reference voltage in nV: 2.500 V for the internal reference, else what was measured between the reference pins or,
with IOMODE = IN, on REFIO (R275, R296). -/
def refNv (w : Window) (m : Reading) : Int := if needsRef w.route && !w.ext then 2500000000 else m.vr

/-- The mean differential input times the integrated cycles, in nV (R277): the balanced charge, the residue, and what an
imbalance of the chopping leaves of the amplifier's offset (R278). -/
def inputSum (w : Window) (m : Reading) : Int := m.charge + m.residue + m.vos * w.chop.imbalance

/-- Numerator and denominator of a trimmed result in LSB at the working gain (R284, R352): the denominator is
2^23 × VR × the integrated cycles. -/
def trimmed (w : Window) (m : Reading) : Int × Nat :=
  ((8388608 + 20 * w.gn) * (8388608 * gainOf w.gain * inputSum w m + 10 * w.ofs * refNv w m * w.chop.done),
   8388608 * (refNv w m).toNat * w.chop.done)

/-- The value at the base gain before limiting, and whether it left the range (R284, R290). -/
def resultRaw (w : Window) (m : Reading) : Int :=
  let t := trimmed w m
  roundDiv (t.1 * gainOf w.base) (t.2 * gainOf w.gain)

/-- The limits of a 24-bit value (R284). -/
def clampValue (v : Int) : Int := clampInt (-8388608) 8388607 v

/-- Burnout is enabled for the window (R243): selected by its entry, or for a lead check, on a route that has it. -/
def burnOn (w : Window) : Bool := burnLevel w.route (tLchk w.topo) w.sel != 0

/-- The result of a window: its value, OVR, OPEN and the fraction test of R290 (−1 below 5 %, 1 above 90 %, 0 between). A
pin reference at or below 0 V gives OVR and full scale of the input's sign (R237). A window without an integrated cycle,
or an external reference at or below 0 V, leaves the value open (log entry 52). -/
def measure (w : Window) (m : Reading) : Int × Bool × Bool × Int :=
  let lost := !(w.lostFirst.isEmpty && w.lostSecond.isEmpty) || m.lossHeld.any w.uses
  let open_ := lost || (burnOn w && (decide (16 ≤ m.overMax) || decide (16 ≤ m.overHead + w.carry)))
  let isOver := decide (0 < m.overMax)
  let open0 := clampValue (Config.meanless w.chop.done (inputSum w m) (refNv w m))
  if !needsRef w.route && decide (m.vr ≤ 0) then
    (if w.chop.done = 0 then open0 else if inputSum w m < 0 then -8388608 else 8388607, true, open_, 0)
  else if w.chop.done = 0 || decide (refNv w m ≤ 0) then (open0, isOver, open_, 0)
  else
    let v := resultRaw w m
    let t := trimmed w m
    let size := t.1.natAbs
    let frac : Int := if 9 * 8388608 * t.2 < 10 * size then 1 else if 100 * size < 5 * 8388608 * t.2 then -1 else 0
    (clampValue v, isOver || clampValue v != v, open_, frac)

/-- The next working gain (R290). -/
def nextGain (w : Window) (valid ovr open_ : Bool) (frac : Int) : Nat :=
  if ovr || open_ then w.base
  else if valid && frac = 1 then max w.base (w.gain - 1)
  else if valid && frac = -1 then min 7 (w.gain + 1)
  else w.gain

/-- The status byte of a measured result (R286). -/
def statusOf (w : Window) (valid ovr open_ sub : Bool) : Nat :=
  bitIf valid rsValid + bitIf ovr rsOvr + bitIf open_ rsOpen + bitIf w.setl rsSetl + bitIf w.supd rsSupd
  + bitIf sub rsSub + bitIf w.atime rsAtime + passLsb w.occ.pass

/-- The window is VALID (R286). -/
def validOf (w : Window) (ovr open_ : Bool) : Bool := !ovr && !open_ && !w.supd && !w.early

/-! ### Lead checks (R245, R246) -/

/-- Output k lost compliance at some time in the window. -/
def Window.lost (w : Window) (k : Nat) : Bool := w.lostFirst.contains k || w.lostSecond.contains k

/-- Every output connected to a pin lost compliance while connected there (R246): the output of each half, where the
exchange took place, else the one output of the whole window. -/
def lostAtA (w : Window) : Bool :=
  let r := w.route
  rExaPin r != pinNone && (if bothExc r && w.half then w.lostFirst.contains (rExaSel r) && w.lostSecond.contains (rExbSel r)
    else w.lost (rExaSel r))

def lostAtB (w : Window) : Bool :=
  let r := w.route
  bothExc r && (if w.half then w.lostFirst.contains (rExbSel r) && w.lostSecond.contains (rExaSel r)
    else w.lost (rExbSel r))

/-- One output lost compliance on both pins while the other held it on one: the output at fault (R246). -/
def outputFault (w : Window) : Option Nat :=
  let r := w.route
  if bothExc r && w.half then
    let a := rExaSel r
    let b := rExbSel r
    let both := fun k => w.lostFirst.contains k && w.lostSecond.contains k
    if both a && !both b then some a else if both b && !both a then some b else none
  else none

/-- A bit of a role on a pin that two roles share is set when any of them is (R246). -/
def shareLead (r : List Word) (bits : List Bool) : List Bool :=
  let pins := [rPos r, rNeg r, rExaPin r, rExbPin r]
  (List.range 4).map (fun i => (List.range 4).any (fun j =>
    nth false bits j && (i == j || (nth 0x30 pins i == nth 0x30 pins j && isPin (nth 0x30 pins i)))))

/-- LEADST after a lead check (R246), each 0-to-1 change making a record (R234), an output fault its report (R267). -/
def leadResult (w : Window) (m : Reading) (s : State) : State :=
  if !leadCheckOn w then s
  else
    let w := { w with lostFirst := w.lostFirst ++ m.lossHeld.filter w.uses }
    let old := ew (s.routeEntry w.routeIdx) 3
    let exc := tExcm w.topo == 0
    let keep := !exc || (outputFault w).isSome
    let raw := [m.overFirst, m.overSecond, if keep then old.getLsbD 13 else lostAtA w,
      if keep then old.getLsbD 12 else lostAtB w]
    let shared := shareLead w.route raw
    let bits := if keep then (shared.take 2) ++ [old.getLsbD 13, old.getLsbD 12] else shared
    let new := (List.range 4).foldl (fun (x : Word) i => putField x (15 - i) 1 (bitIf (nth false bits i) 1)) old
    let s := { s with tab := { s.tab with route := writeAt routeDefault s.tab.route (4 * w.routeIdx + 3) new } }
    let s := forList [15, 14, 13, 12] (fun b t =>
      if new.getLsbD b && !old.getLsbD b then mkRecord 0x200 clsNote [w.routeIdx, b] t else t) s
    match (if exc then outputFault w else none) with
    | some k => report 12 (0x80 + k) w.routeIdx 0 (s.setFldBit .EXC_STAT_OFLT k true)
    | none => s

end Sys2Proof.Machine
end

