-- ==== Sys2Proof/Machine/Cal.lean ====
section
/-! DEFINITION. Calibration and the swing lead (10): due slices, the phases of a lead, overlaps and their outcome,
retirement, self-calibration and system calibration. -/

namespace Sys2Proof.Machine

def phIdle : Nat := 0
def phSwcal : Nat := 1
def phTake : Nat := 2
def phCover : Nat := 3
def phBack : Nat := 4
def phProbe : Nat := 5
def phSyscal : Nat := 6

/-- CAL.STAT.PHASE. -/
def State.calPhase (s : State) : Nat := s.fld .CAL_STAT_PHASE

/-- CAL.STAT.SLICE: the slice of the phase in progress. -/
def State.calSlice (s : State) : Nat := s.fld .CAL_STAT_SLICE

/-- Set the phase and its slice (R391), and UWAIT with it (R339). -/
def setPhase (ph n : Nat) (s : State) : State :=
  let s := (s.setFld .CAL_STAT_PHASE ph).setFld .CAL_STAT_SLICE n
  setUrgent s s.seq.urgent

/-- The retries that a slice has used (R364). -/
def State.retries (s : State) (n : Nat) : Nat := readAt (fun _ => 0) s.cal.retries n

def setRetries (n k : Nat) (s : State) : State :=
  { s with cal := { s.cal with retries := writeAt (fun _ => 0) s.cal.retries n k } }

/-- Slice n is no longer due. -/
def clearDue (n : Nat) (s : State) : State :=
  showHeld { s with cal := { s.cal with due := s.cal.due.filter (· != n) } }

/-- The measurements of calibration on slice n end: its window stops, and its next window settles (R276). -/
def endMeasuring (n : Nat) (s : State) : State :=
  let run := match (s.slice n).win with
    | some w => w.occ.kind == 3
    | none => false
  let s := if run then endWindow n true s else s
  s.modSlice n (fun x => { x with prev := none })

/-- Calibration takes slice n into direct mode or releases it (R291, R363). -/
def calDirect (n : Nat) (on : Bool) (s : State) : State :=
  let s := s.setFldBit .SLC_DIRECT_DIR n on
  if on then s else endMeasuring n s

/-! ### The measurements (R363, R383) -/

/-- How many windows a calibration of slice n or a point of a system calibration takes: two passes, or two groups, of 16. -/
def measurements : Nat := 32

/-- Start the next measurement of a calibration on slice n, `left` of them remaining: one that is not started for energy or
for the reference is passed over, and a point of a system calibration keeps the mark (R383, R294). -/
def measureFrom (n route : Nat) : Nat → State → State
  | 0, s => s
  | left + 1, s =>
    let t := startWindow n ⟨3, route, measurements - (left + 1), s.now, s.regN Reg.ANG_PASS, false⟩ s
    if (t.slice n).win.isSome then t
    else measureFrom n route left { t with cal := { t.cal with sysSkip := t.cal.sysSkip || decide (route < 64) } }

/-- The first measurement on an idle slice n. -/
def measure0 (n route : Nat) (s : State) : State :=
  if (s.slice n).win.isSome then s else measureFrom n route measurements s

/-- A measurement on slice n has ended: the next one starts. -/
def measureNext (n : Nat) (o : Occ) (s : State) : State := measureFrom n o.entry (measurements - (o.word + 1)) s

/-- The calibration of slice n starts, or waits while host trims are staged for it (R362, R363). -/
def beginCal (n : Nat) (s : State) : State :=
  let held := s.trimsHeld n
  let s := showHeld { s with cal := { s.cal with measuring := !held } }
  if held then s else measure0 n 64 s

/-- A point of the system calibration starts or starts again (R383). -/
def beginPoint (s : State) : State :=
  match s.cal.sys with
  | some (_, r, n) => measure0 n r { s with cal := { s.cal with sysSkip := false } }
  | none => s

/-- The swing slice is committed to a retired slice (R377). -/
def State.swingCommitted (s : State) : Bool :=
  match s.cal.cover with
  | some n => s.fldBit .SLC_RETIRED_RET n
  | none => false

/-- A system calibration on the swing slice waits (R382). -/
def State.sysWaits (s : State) : Bool := s.cal.sys.any (fun x => x.2.2 == 12)

/-- A swing lead or a system calibration ends; a system calibration on the swing slice that waited runs next, once the swing
slice is released (R382). -/
def toIdle (s : State) : State :=
  let s := { s with cal := { s.cal with probe := none, overlapAt := none, pairs := [], retest := false, measuring := false } }
  if s.sysWaits && !s.swingCommitted && !s.flag .CAL_STAT_SWRET then beginPoint (setPhase phSyscal 12 s)
  else setPhase phIdle 0 s

/-! ### Figures and codes -/

/-- LSB as ppm of full scale, rounded up (log entry 20). -/
def lsbPpm (d : Nat) : Nat := min 65534 (ceilDiv (d * 1000000) 8388608)

/-- The tolerance of R370 in LSB. -/
def State.otolLsb (s : State) : Nat := s.fld .CAL_TOL_OTOL * 8 * 8388608 / 1000000

/-- Rewrite the eight active entries of slice n, and their inactive copies where the host has staged none (R361). -/
def writeSlice (n : Nat) (f : Nat → List Word → List Word) (s : State) : State :=
  forEach 8 (fun c t =>
    let i := sliceEntry n c
    let ws := f c (coefEntry t.tab.coef i)
    let t := { t with tab := { t.tab with coef := putCoef t.tab.coef i ws } }
    if t.stg.coefHost.contains i then t
    else { t with tab := { t.tab with coefAlt := putCoef t.tab.coefAlt i ws } }) s

/-- Record a slice's residual (R389). -/
def setResidual (n : Nat) (s : State) : State :=
  let r := if s.cal.compared = 0 then 65535 else lsbPpm s.cal.worst
  writeSlice n (fun _ e => e.set 3 (word r)) (s.setRegN (Reg.CAL_QUALRES n) r)

/-- The figures of a retired slice are unknown (R389). -/
def unknownFigures (n : Nat) (s : State) : State :=
  (s.setRegN (Reg.CAL_QUALRES n) 65535).setRegN (Reg.CAL_QUALSPR n) 65535

/-! ### Retirement (R377, R378) -/

/-- A live slice is retired: the swing slice keeps its entries, where it serves them. A retest that fails makes no
report (R379). -/
def retireLive (n : Nat) (s : State) : State :=
  let again := s.cal.retest
  let s := (calDirect n false s).setFldBit .SLC_RETIRED_RET n true
  let s := unknownFigures n ((clearDue n s).setFlag .CAL_STAT_NOBG true)
  let s := s.modSlice n (fun x => { x with off := true, offPend := false })
  let s := dropConns s (fun c => c.owner == n)
  let s := toIdle s
  if again then s
  else acceptReport (if s.cal.cover = some n && !s.flag .CAL_STAT_SWRET then clsC else clsU) 7 n (s.regN Reg.CAL_STAT) 0
    false s

/-- Urgent requests for the retired swing slice complete at once (R377). -/
def flushUrgent (s : State) : State :=
  if s.flag .CAL_STAT_SWRET && s.fld .SEQ_URGSLICE_SLICE = 12 && s.seq.urgentOn.isNone then
    setUrgent (forList s.seq.urgent (fun o t => putResult (256 + o.word % 8) 0 (passLsb (t.regN Reg.ANG_PASS)) t) s) []
  else s

/-- The swing slice is retired. -/
def retireSwing (s : State) : State :=
  let serving := match s.cal.cover with
    | some n => s.fldBit .SLC_RETIRED_RET n
    | none => false
  let s := (calDirect 12 false s).setFlag .CAL_STAT_SWRET true
  let s := unknownFigures 12 ((clearDue 12 s).setFlag .CAL_STAT_NOBG true)
  let s := s.modSlice 12 (fun x => { x with off := true, offPend := false })
  let s := toIdle s
  let s := acceptReport (if serving then clsU else clsC) 7 12 (s.regN Reg.CAL_STAT) 0 false s
  flushUrgent s

/-! ### Handover (R371) -/

/-- The pending list moves whole from one slice to another. -/
def movePending (a b : Nat) (s : State) : State :=
  let l := (s.slice a).pending
  (s.modSlice a (fun x => { x with pending := [] })).modSlice b (fun x => { x with pending := x.pending ++ l })

/-- TAKE passes, or a PROBE judges slice n at fault: the swing slice serves n's entries and n calibrates itself. -/
def takeOver (n : Nat) (s : State) : State :=
  let s := { s with cal := { s.cal with cover := some n, probe := none, overlapAt := none, pairs := [] } }
  let s := movePending n 12 s
  let s := if (s.slice n).win.isNone then dropConns s (fun c => c.owner == n) else s
  beginCal n (setPhase phCover n (calDirect n true (setRetries n 0 s)))

/-- BACK passes: slice n serves itself again, and the swing slice is released (R371, R379). The spread of a slice that was
retired shows from here on (R389). -/
def handBack (n : Nat) (s : State) : State :=
  let s := { s with cal := { s.cal with cover := none } }
  let s := if s.fldBit .SLC_RETIRED_RET n then
      s.setRegN (Reg.CAL_QUALSPR n) (ew (coefEntry s.tab.coef (sliceEntry n 0)) 4).toNat
    else s
  let s := (movePending 12 n s).setFldBit .SLC_RETIRED_RET n false
  let s := s.setFlag .CAL_STAT_NOBG (s.flag .CAL_STAT_SWRET)
  toIdle s

/-! ### Overlaps (R368 to R374) -/

/-- The overlap in progress passes. -/
def passOverlap (s : State) : State :=
  let n := s.calSlice
  if s.calPhase = phTake then takeOver n (setResidual 12 s)
  else if s.calPhase = phBack then handBack n (setResidual n s)
  else if s.calPhase = phProbe then takeOver n (setResidual 12 s)
  else s

/-- The slice whose occurrences the overlap pairs. -/
def State.overlapSlice (s : State) : Nat := if s.calPhase = phProbe then s.cal.probe.getD 0 else s.calSlice

/-- The overlap passes at once (R370): no enabled entry names its slice and none is of kind ANY, or the sequencer is
stopped. -/
def passesAtOnce (s : State) : Bool :=
  !s.flag .SEQ_CTRL_RUN || s.entries.all (fun e =>
    tSlice (s.topoEntry e) != s.overlapSlice && tSlice (s.topoEntry e) != sliceAny)

/-- Pass the overlap in progress where it passes at once. -/
def settleOverlap (s : State) : State :=
  if [phTake, phBack, phProbe].contains s.calPhase && passesAtOnce s then passOverlap s else s

/-- Begin an overlap. -/
def beginOverlap (ph n : Nat) (s : State) : State :=
  let s := { s with cal := { s.cal with pairs := [], overlapAt := none, compared := 0, worst := 0 } }
  settleOverlap (setPhase ph n s)

/-- The slice of a PROBE: the next live slice after n that is powered, non-retired and has an enabled entry (R374). -/
def State.probeSlice (s : State) (n : Nat) : Option Nat :=
  ((List.range 11).map (fun i => (n + 1 + i) % 12)).find? (fun m =>
    !(s.slice m).off && !s.fldBit .SLC_RETIRED_RET m && s.entries.any (fun e => tSlice (s.topoEntry e) == m))

/-- The lead ends without a verdict: slice n serves with its old codes and waits a whole period (R374). -/
def noVerdict (s : State) : State := toIdle (clearDue s.calSlice s)

/-- Enter PROBE. -/
def enterProbe (s : State) : State :=
  match s.probeSlice s.calSlice with
  | some m => beginOverlap phProbe s.calSlice { s with cal := { s.cal with probe := some m } }
  | none => noVerdict s

/-- The overlap in progress fails on a pair that differs by d LSB (R370, R372 to R374). -/
def failOverlap (d : Nat) (s : State) : State :=
  let n := s.calSlice
  let s := report 8 s.overlapSlice (min 65535 d) 0 s
  if s.calPhase = phTake then
    let s := { s with cal := { s.cal with takeFails := s.cal.takeFails + 1 } }
    if 4 ≤ s.cal.takeFails then enterProbe s
    else beginCal 12 (setPhase phSwcal n (calDirect 12 true (setRetries 12 (s.retries 12 + 1) s)))
  else if s.calPhase = phBack then
    if 3 ≤ s.retries n then retireLive n s
    else beginCal n (setPhase phCover n (calDirect n true (setRetries n (s.retries n + 1) s)))
  else if s.calPhase = phProbe then retireSwing s
  else s

/-- Every entry that has fired in the overlap has its compared pairs (R370). -/
def enoughPairs (s : State) : Bool := s.cal.pairs.all (fun p => s.fld .CAL_OVERLAP_NPAIR ≤ p.2)

/-- The overlap has lasted TMAX (R370). -/
def tmaxOver (s : State) : Bool :=
  match s.cal.overlapAt with
  | some a => decide (a + s.fld .CAL_OVERLAP_TMAX * 1638400 ≤ s.now)
  | none => false

/-- A paired window of an entry has ended: compare where both results are VALID (R370). -/
def pairEnded (entry : Nat) (v1 v2 : Int) (both : Bool) (s : State) : State :=
  if !([phTake, phBack, phProbe] : List Nat).contains s.calPhase then s
  else
    let d := (v1 - v2).natAbs
    if both && s.otolLsb < d then failOverlap d s
    else
      let s := if both then { s with cal := { s.cal with
          pairs := s.cal.pairs.map (fun p => if p.1 = entry then (p.1, p.2 + 1) else p)
          compared := s.cal.compared + 1, worst := max s.cal.worst d } } else s
      if enoughPairs s then passOverlap s
      else if tmaxOver s then
        (if s.calPhase = phProbe && s.cal.compared = 0 then noVerdict s else passOverlap s)
      else s

/-! ### Due slices (R365) -/

/-- CAL_PERIOD_EXPIRE (R365). -/
def calPeriodExpire (n : Nat) (s : State) : State :=
  if s.fld .CAL_PERIOD_SEC = 0 then s else showHeld (makeDue n s)

def execCalPeriodExpire (n : Nat) (s : State) : Host.Outcome State Fault Refusal :=
  answerIf (n < 13) (calPeriodExpire n s)

/-- Every slice whose TCAL lies more than CAL.TEMPD from the die temperature becomes due (R365). -/
def tempDue (s : State) : State :=
  match s.hottest with
  | none => s
  | some t => showHeld (forEach 13 (fun n u =>
      let tcal : Int := (getField (ew (coefEntry u.tab.coef (sliceEntry n 0)) 2) 8 8 : Nat)
      if u.fld .CAL_TEMPD_TD != 0 && decide (u.fld .CAL_TEMPD_TD * 4 < (t - (tcal - 64) * 16).natAbs)
      then makeDue n u else u) s)

/-- ACTIVE is entered: every non-retired slice is due (R365). -/
def allDue (s : State) : State :=
  showHeld (forEach 13 makeDue { s with cal := { s.cal with due := [] } })

/-! ### The swing lead begins (R366) -/

/-- The slice that a lead may begin for, or none while a condition of R366 blocks it. A slice that the host holds in direct
mode is its alone (R291). -/
def leadCandidate (s : State) : Option Nat :=
  if !s.isActive || s.inBivouac || s.isFatal || !s.seq.urgent.isEmpty || s.cal.hostDirect.contains 12 || s.sysWaits
    || s.flag .CAL_STAT_SWRET || s.cal.cover.isSome || s.calPhase != phIdle || s.trimsHeld 12 then none
  else s.cal.due.find? (fun n => n < 12 && !s.trimsHeld n && !s.fldBit .SLC_RETIRED_RET n && !(s.slice n).off
    && !s.cal.hostDirect.contains n)

/-- SWING_LEAD_BEGIN (R366, R367): the lead starts with SWCAL. -/
def swingLeadBegin (s : State) : State :=
  match leadCandidate s with
  | none => s
  | some n =>
    let s := { s with cal := { s.cal with takeFails := 0 } }
    beginCal 12 (setPhase phSwcal n (calDirect 12 true (setRetries 12 0 (setRetries n 0 s))))

/-- The staged trims that held a calibration have been applied or discarded: it starts (R362). -/
def resumeCal (s : State) : State :=
  let s := showHeld s
  if s.cal.measuring || s.inBivouac then s
  else if s.calPhase = phSwcal then beginCal 12 s
  else if s.calPhase = phCover then beginCal s.calSlice s
  else s

def execSwingLeadBegin (s : State) : Host.Outcome State Fault Refusal := .next (swingLeadBegin s)

/-! ### One calibration (R363, R364) -/

/-- The result that the gain measurement aims at: round(0.9 × 8,388,608 × d), with d the divider's ratio correction
(R363). -/
def State.dividerTarget (s : State) : Int :=
  roundDiv (9 * 8388608 * (s.nvm.ratio.1 : Int)) (10 * max 1 s.nvm.ratio.2)

/-- The rounded quotient of integers, halves away from zero, for any divisor but 0. -/
def roundQ (a b : Int) : Int := if b < 0 then roundDiv (-a) b.natAbs else roundDiv a b.natAbs

/-- The offset code that brings a result z, measured under the codes o and g, to 0 (R352, R363); where none does, the limit
that comes nearest. -/
def offsetFound (o g z : Int) : Int := clampCode (o - roundDiv (z * 8388608) (10 * (8388608 + 20 * g).toNat))

/-- The gain code that brings a result f, measured under the gain code g, to t (R352, R363); where none does, the limit that
comes nearest, and for f = 0 a free value (log entry 53). -/
def gainCodeFound (c : Nat) (g f t : Int) : Int :=
  if f = 0 then clampCode (Config.gainFound c)
  else clampCode (roundQ (t * (8388608 + 20 * g) - 8388608 * f) (20 * f))

/-- The codes that one pass finds for gain code c of slice n, from its two measurements (R363). -/
def codesFound (n c : Nat) (m : Int × Int) (s : State) : (Int × Int) × State :=
  let (sl, s) := sliceCodes n c s
  ((offsetFound sl.1 sl.2 m.1, gainCodeFound c sl.2 m.2 s.dividerTarget), s)

/-- The codes of a pass, in gain-code order, and the state after the loads of the active entries. -/
def passCodes (n : Nat) (ms : List (Int × Int)) (s : State) : List (Int × Int) × State :=
  (List.range 8).foldl (fun acc c =>
    let (x, t) := codesFound n c (nth (0, 0) ms c) acc.2
    (acc.1 ++ [x], t)) ([], s)

/-- The larger product of R364 for a gain code in 1/1,000 ppm. -/
def passDiff (a b : Int × Int) : Nat := max ((a.1 - b.1).natAbs * 1192) ((a.2 - b.2).natAbs * 2384)

/-- The largest difference between two passes over the eight gain codes, in 1/1,000 ppm (R364). -/
def worstDiff (pa pb : List (Int × Int)) : Nat :=
  ((List.range 8).map (fun c => passDiff (nth (0, 0) pa c) (nth (0, 0) pb c))).foldl max 0

/-- The mean of two codes, rounded toward the old code (R364). -/
def meanToward (old a b : Int) : Int :=
  let lo := (a + b) / 2
  if (a + b) % 2 = 0 then lo else if old ≤ lo then lo else lo + 1

/-- The calibration of slice n agrees: new codes in, spread and temperature recorded (R361, R364, R389). -/
def installCodes (n : Nat) (pa pb : List (Int × Int)) (spread : Nat) (s : State) : State :=
  let t := tempByte s.hottest
  let s := writeSlice n (fun c e =>
    let a := nth (0, 0) pa c
    let b := nth (0, 0) pb c
    [word (wrap16 (meanToward (signed16 (ew e 0).toNat) a.1 b.1)),
     word (wrap16 (meanToward (signed16 (ew e 1).toNat) a.2 b.2)), word (t * 256), ew e 3, word spread]) s
  clearDue n (if s.fldBit .SLC_RETIRED_RET n then s else s.setRegN (Reg.CAL_QUALSPR n) spread)

/-- The slice that calibrates itself: the swing slice in SWCAL, the lead's slice in COVER. -/
def State.calTarget (s : State) : Nat := if s.calPhase = phSwcal then 12 else s.calSlice

/-- A calibration has been started and runs. -/
def State.calRuns (s : State) : Bool := s.cal.measuring && (s.calPhase == phSwcal || s.calPhase == phCover)

/-- CALIBRATION_COMPLETE (R364, R367, R373, R377): both passes of the calibration in progress have ended, with their
measurements. -/
def calibrationComplete (ma mb : List (Int × Int)) (s : State) : State :=
  if !s.calRuns then s
  else
    let n := s.calTarget
    let s := endMeasuring n { s with cal := { s.cal with measuring := false } }
    let (pa, s) := passCodes n ma s
    let (pb, s) := passCodes n mb s
    let worst := worstDiff pa pb
    if worst ≤ s.fld .CAL_TOL_RTOL * 1000 then
      let s := calDirect n false (installCodes n pa pb (min 65534 (ceilDiv worst 1000)) s)
      if n = 12 then beginOverlap phTake s.calSlice s else beginOverlap phBack s.calSlice s
    else
      let r := s.retries n
      let s := mkRecord 0x202 clsNote [n, r, min 65535 (ceilDiv worst 1000)] s
      if r < 3 then beginCal n (setRetries n (r + 1) s)
      else if n = 12 then retireSwing s
      else retireLive n s

/-- A trim code (R352). -/
def isCode (v : Int) : Bool := decide (-8192 ≤ v) && decide (v ≤ 8191)

/-- A 24-bit result. -/
def isValue (v : Int) : Bool := clampValue v == v

def execCalibrationComplete (passA passB : List (Int × Int)) (s : State) : Host.Outcome State Fault Refusal :=
  answerIf (passA.length = 8 && passB.length = 8 && (passA ++ passB).all (fun p => isValue p.1 && isValue p.2))
    (calibrationComplete passA passB s)

/-- PROBE_TMAX_EXPIRE (R374): no pair was compared within TMAX. -/
def probeTmaxExpire (s : State) : State :=
  if s.calPhase = phProbe && s.cal.compared = 0 then noVerdict s else s

def execProbeTmaxExpire (s : State) : Host.Outcome State Fault Refusal := .next (probeTmaxExpire s)

/-- COEF_SCRUB (R359): the active entry i is checked; a failing one is reported, and its slice becomes due. -/
def coefScrub (i : Nat) (s : State) : State :=
  if coefOk (coefEntry s.tab.coef i) then s
  else
    let s := s.setFlag .CAL_STAT_COEFFB true
    if i < 64 then report 7 (0x80 + i) (s.regN Reg.CAL_STAT) 0 s
    else
      let n := (i - 64) / 8
      showHeld (makeDue n (report 7 (0x40 + n) (s.regN Reg.CAL_STAT) 0 s))

def execCoefScrub (i : Nat) (s : State) : Host.Outcome State Fault Refusal := answerIf (i < 168) (coefScrub i s)

/-! ### Commands of CAL.CTRL (R379, R382, R388, R390); each answers its status bits -/

/-- SYSZERO and SYSFULL (R382). -/
def sysCommand (full : Bool) (route n : Nat) (s : State) : Nat × State :=
  if s.fld .CAL_STAT_SYSST = 1 then (stBusy, s)
  else if (n = 12 && (s.flag .CAL_STAT_SWRET || s.swingCommitted || s.cal.hostDirect.contains 12))
      || (n != 12 && !s.cal.hostDirect.contains n) || rEmpty (s.routeEntry route) then (stDeny, s)
  else
    let s := (s.setFld .CAL_STAT_SYSST 1).setFld .CAL_STAT_SYSRSN 0
    let s := { s with cal := { s.cal with sys := some (full, route, n), sysTry := 0 } }
    (0, if n != 12 then beginPoint s else if s.calPhase = phIdle then beginPoint (setPhase phSyscal 12 s) else s)

/-- NOW (R365, R390). -/
def nowCommand (n : Nat) (s : State) : Nat × State :=
  if 13 ≤ n || s.fldBit .SLC_RETIRED_RET n || (n = 12 && s.flag .CAL_STAT_SWRET) then (stDeny, s)
  else (0, showHeld (makeDue n s))

/-- RETEST (R379): COVER and BACK for a retired live slice; one that the host holds in direct mode stays out of calibration
(R291). -/
def retestCommand (n : Nat) (s : State) : Nat × State :=
  let free := s.calPhase = phIdle && !s.cal.hostDirect.contains 12 && !s.cal.hostDirect.contains n
    && (s.cal.cover.isNone || s.cal.cover == some n)
  if 12 ≤ n || !s.fldBit .SLC_RETIRED_RET n || s.flag .CAL_STAT_SWRET || !free then (stDeny, s)
  else
    let s := s.modSlice n (fun x => { x with off := false, prev := none })
    let s := { s with cal := { s.cal with retest := true, cover := some n } }
    (0, beginCal n (setPhase phCover n (calDirect n true (setRetries n 0 s))))

/-- The host stages COEF entries: they are held as written, and DIRTY is set (R147, R388). -/
def stageCoef (is : List Nat) (s : State) : State :=
  showHeld ({ s with stg := { s.stg with coefHost := s.stg.coefHost ++ is.filter (fun i => !s.stg.coefHost.contains i) } }.setFlag
    .STG_STAT_DIRTY true)

/-- FACTORY (R388): the factory codes into the inactive slice entries. -/
def factoryCommand (s : State) : Nat × State :=
  let s := forEach 13 (fun n t => forEach 8 (fun c u =>
    { u with tab := { u.tab with coefAlt := putCoef u.tab.coefAlt (sliceEntry n c) (u.factoryEntry n c) } }) t) s
  (0, stageCoef ((List.range 104).map (· + 64)) s)

/-! ### System calibration (R383, R384) -/

/-- The host has released slice n from direct mode, and its conversion has ended: the slice leaves it, and its next window
settles (R276, R291). -/
def releaseDirect (n : Nat) (s : State) : State :=
  if s.cal.hostFree.contains n then
    let s := { s with cal := { s.cal with
      hostDirect := s.cal.hostDirect.filter (· != n), hostFree := s.cal.hostFree.filter (· != n) } }
    (s.setFldBit .SLC_DIRECT_DIR n false).modSlice n (fun x => { x with prev := none })
  else s

/-- A system calibration ends with a state and a reason. -/
def endSys (st rsn : Nat) (s : State) : State :=
  let s := (s.setFld .CAL_STAT_SYSST st).setFld .CAL_STAT_SYSRSN rsn
  let s := match s.cal.sys with
    | some (_, _, n) => releaseDirect n (endMeasuring n s)
    | none => s
  let s := { s with cal := { s.cal with sys := none, sysTry := 0, sysSkip := false } }
  if s.calPhase = phSyscal then toIdle s else s

/-- The target T of a route entry (R356). -/
def target (e : List Word) : Int :=
  let v := (ew e 3).toNat + 65536 * getField (ew e 4) 8 8
  if v < 8388608 then v else (v : Int) - 16777216

/-- OFS of R384 from 32 times the mean Z. -/
def sysOffset (z32 gs : Int) : Int := -(roundQ (z32 * 8388608) (320 * (8388608 + 20 * gs)))

/-- GN of R384 from 32 times the mean F and the target T; none where F is 0. -/
def sysGain (f32 t gs : Int) : Option Int :=
  if f32 = 0 then none else some (roundQ (32 * t * (8388608 + 20 * gs) - 8388608 * f32) (20 * f32) - gs)

/-- The point's code is written into the inactive entry (R384), from 32 times its mean. -/
def writePoint (full : Bool) (r n : Nat) (m32 : Int) (s : State) : State :=
  let e := coefEntry s.tab.coefAlt r
  let c := getField (ew e 2) 5 3
  let (codes, s) := sliceCodes n c s
  let code := if full then sysGain m32 (target e) codes.2 else some (sysOffset m32 codes.2)
  match code with
  | none => endSys 3 2 s
  | some v =>
    if !isCode v then endSys 3 2 s
    else
      let e := if full then e.set 1 (word (wrap16 v))
        else (e.set 0 (word (wrap16 v))).set 2 (putField (putField (ew e 2) 4 1 1) 8 8 (tempByte s.hottest))
      let s := { s with tab := { s.tab with coefAlt := putCoef s.tab.coefAlt r e } }
      endSys 2 0 (stageCoef [r] s)

/-- The sum of a group of results. -/
def groupSum (g : List Int) : Int := g.sum

/-- The means of two groups of 16 agree within OTOL (R370, R383). -/
def groupsAgree (s : State) (m1 m2 : Int) : Bool := decide ((m1 - m2).natAbs ≤ 16 * s.otolLsb)

/-- SYSCAL_POINT_DONE (R383, R384): the results of both groups, and whether all read VALID = 1. The point repeats up to three
times. -/
def syscalPointDone (g1 g2 : List Int) (ok : Bool) (s : State) : State :=
  match s.cal.sys with
  | none => s
  | some (full, r, n) =>
    let valid := ok && !s.cal.sysSkip
    if n = 12 && s.calPhase != phSyscal then s
    else if valid && groupsAgree s (groupSum g1) (groupSum g2) then writePoint full r n (groupSum g1 + groupSum g2) s
    else if s.cal.sysTry < 3 then
      beginPoint (endMeasuring n { s with cal := { s.cal with sysTry := s.cal.sysTry + 1 } })
    else endSys 3 (if valid then 1 else 3) s

def execSyscalPointDone (group1 group2 : List Int) (valid : Bool) (s : State) : Host.Outcome State Fault Refusal :=
  answerIf (group1.length = 16 && group2.length = 16 && (group1 ++ group2).all isValue) (syscalPointDone group1 group2 valid s)

end Sys2Proof.Machine
end

