-- ==== Sys2Proof/Machine/Xfer.lean ====
section
/-! DEFINITION. Capture, transfer and external memory (14): the frame builder, the stream ring and the capture partition
in the capture RAM, the descriptors and their destinations, the memory operations and the mailbox. -/

namespace Sys2Proof.Machine

/-- Change the transfer state. -/
def State.modXfer (s : State) (f : Xfer → Xfer) : State := { s with xfer := f s.xfer }

/-! ### The capture RAM (R543) -/

/-- Blocks of the capture partition, at the top of the RAM. -/
def State.capBlocks (s : State) : Nat := 32 * min 32 (s.fld .XFER_RING_CAPBLK)

/-- Blocks of the stream ring. -/
def State.ringBlocks (s : State) : Nat := 2048 - s.capBlocks

/-- Byte k of a frame that starts at a block of a partition (its first block and size in blocks), wrapping. -/
def ramAddr (base size off k : Nat) : Nat := base * 32 + (off * 32 + k) % (size * 32)

/-- Read a frame's bytes from a partition. -/
def ramRead (s : State) (base size off len : Nat) : List Byte :=
  (List.range len).map (fun k => readAt ramByte s.xfer.ram (ramAddr base size off k))

/-- Write a frame's bytes into a partition. -/
def ramWrite (base size off : Nat) (bs : List Byte) (s : State) : State :=
  let put := fun (m : List Host.Cell) (b : Byte × Nat) => writeAt ramByte m (ramAddr base size off b.2) b.1
  s.modXfer (fun x => { x with ram := bs.zipIdx.foldl put x.ram })

/-! ### Frames (R540 to R542, R547) -/

/-- The unit number of a frame: its chain address, 0 without one. -/
def State.unitNo (s : State) : Nat := if s.flag .ROPE_ADDR_VALID then s.fld .ROPE_ADDR_ADDR else 0

/-- The entry groups of a frame in ascending entry index: a marker, then the items in order of arrival. -/
def frameBody (items : List (Nat × Nat × Nat)) : List Byte :=
  (List.range 256).flatMap (fun e =>
    let l := items.filter (fun i => i.1 == e)
    if l.isEmpty then []
    else [0xC0, byte e] ++ leNat 2 l.length ++ l.flatMap (fun i => leNat 2 i.2.1 ++ leNat 2 i.2.2))

/-- The number of entry groups. -/
def groupCount (items : List (Nat × Nat × Nat)) : Nat := (items.map (·.1)).eraseDups.length

/-- Bytes followed by their trailer: the CRC-16 of R6 and two zero bytes. -/
def withTrailer (bs : List Byte) : List Byte := bs ++ leBytes (crc16 bs) ++ [0, 0]

/-- The bytes of the open frame as it closes (R541). -/
def frameBytes (s : State) (items : List (Nat × Nat × Nat)) : List Byte :=
  let x := s.xfer
  let body := frameBody items
  withTrailer (
    [0x01, byte s.unitNo] ++ leNat 2 x.openPass
    ++ leNat 1 (nth 0 x.opened 0 + (if s.seq.dropped then 64 else 0) + (if x.openCont then 128 else 0))
    ++ leNat 1 (groupCount items) ++ leNat 2 (20 + body.length) ++ leNat 4 (nth 0 x.opened 1)
    ++ leNat 2 (nth 0 x.opened 2) ++ leNat 2 x.fseq ++ body)

/-- The same frame as a capture frame: FTYPE 0x02, its check word over the new bytes (R541, R547; log entry 24). -/
def asCapture (bs : List Byte) : List Byte := withTrailer (0x02 :: (bs.take (bs.length - 4)).drop 1)

/-! ### Descriptors (R544, R549, R550) -/

def dXmem : Nat := 1
def dRope : Nat := 2
def dHost : Nat := 4

/-- The pieces of a descriptor: the capture record, where it has one, and each frame. -/
def Descr.pieces (d : Descr) : Nat := (if d.record.isEmpty then 0 else 1) + d.frames.length

/-- The bytes of piece i. -/
def pieceBytes (s : State) (d : Descr) (i : Nat) : List Byte :=
  if d.record.isEmpty then
    match d.frames[i]? with
    | some (off, len) => ramRead s 0 s.ringBlocks off len
    | none => []
  else if i = 0 then d.record
  else match d.frames[i - 1]? with
    | some (off, len) => ramRead s s.ringBlocks s.capBlocks off len
    | none => []

/-- A destination is outstanding. -/
def Descr.has (d : Descr) (bit : Nat) : Bool := d.dests &&& bit != 0

/-- A destination has taken the descriptor, or it is released for it. -/
def Descr.done (d : Descr) (bit : Nat) : Descr := { d with dests := d.dests - (d.dests &&& bit) }

/-- The oldest descriptor outstanding for a destination (R549). -/
def oldestFor (s : State) (bit : Nat) : Option Descr := s.xfer.descrs.find? (fun d => d.has bit)

/-- Change the oldest descriptor outstanding for a destination. -/
def modOldest (bit : Nat) (f : Descr → Descr) (s : State) : State :=
  match s.xfer.descrs.findIdx? (fun d => d.has bit) with
  | some i => s.modXfer (fun x => { x with descrs := x.descrs.modify i f })
  | none => s

/-- The XMEM destination takes nothing: XERR (R558) or FULL (R560). -/
def State.xmemOut (s : State) : Bool := s.flag .XFER_STAT_XERR || s.flag .XFER_STAT_FULL

/-- Release what every destination has taken (R544, R547), and show TAIL (R574) and HRDY (R553). -/
def settleDescrs (s : State) : State :=
  let l := if s.xmemOut then s.xfer.descrs.map (fun d => d.done dXmem) else s.xfer.descrs
  let left := l.filter (fun d => d.dests != 0)
  let hadCap := s.xfer.descrs.any (fun d => !d.record.isEmpty)
  let hasCap := left.any (fun d => !d.record.isEmpty)
  let s := s.modXfer (fun x => { x with descrs := left })
  let s := if hadCap && !hasCap then
      (s.setFld .XFER_CAPST_STATE (if s.xfer.capStop then 0 else 1)).modXfer
        (fun x => { x with capFrames := [], capStop := false })
    else s
  let tail := match left.find? (fun d => d.record.isEmpty) with
    | some d => (d.frames.head?.map (·.1)).getD (s.fld .XFER_HEAD_BLK)
    | none => s.fld .XFER_HEAD_BLK
  (s.setFld .XFER_TAIL_BLK tail).setFlag .XFER_STAT_HRDY (left.any (fun d => d.has dHost))

/-- Free blocks of the stream ring: all of it with no stream frame held, else from HEAD to TAIL. -/
def ringFree (s : State) : Nat :=
  if s.xfer.descrs.any (fun d => d.record.isEmpty) then
    (s.fld .XFER_TAIL_BLK + s.ringBlocks - s.fld .XFER_HEAD_BLK) % s.ringBlocks
  else s.ringBlocks

/-- The stream ring has room for a frame of len bytes, and a descriptor is free (R545, R549). -/
def ringRoom (s : State) (len : Nat) : Bool := decide (ceilDiv len 32 ≤ ringFree s) && decide (s.xfer.descrs.length < 128)

/-- Frames pending for the host at most (R550, R571). -/
def State.hostQuota (s : State) : Nat := if s.fld .XFER_CTRL_HQ = 0 then 32 else s.fld .XFER_CTRL_HQ

/-- Frames pending for the host. -/
def hostPendingFrames (s : State) : Nat :=
  ((s.xfer.descrs.filter (fun d => d.has dHost)).map (fun d => d.pieces)).sum

/-- Hold a closed frame for a destination mask in the stream ring (R544, R545, R550). -/
def holdFrame (bs : List Byte) (number mask : Nat) (s : State) : State :=
  if !ringRoom s bs.length then s.setFlag .XFER_STAT_FOVF true
  else
    let isOver := decide (mask &&& dHost ≠ 0) && decide (s.hostQuota ≤ hostPendingFrames s)
    let mask := if isOver then mask - dHost else mask
    let s := s.when isOver (fun t => t.setFlag .XFER_STAT_HOVF true)
    let head := s.fld .XFER_HEAD_BLK
    let s := ramWrite 0 s.ringBlocks head bs s
    let s := s.setFld .XFER_HEAD_BLK ((head + ceilDiv bs.length 32) % s.ringBlocks)
    settleDescrs (s.modXfer (fun x => { x with
      descrs := x.descrs ++ [{ frames := [(head, bs.length)], record := [], number := number, dests := mask }] }))

/-- The destination mask of a stream frame at its closing (R544). -/
def streamMask (s : State) : Nat :=
  bitIf (s.flag .XFER_CTRL_DXMEM) dXmem + bitIf (s.flag .XFER_CTRL_DROPE && !s.flag .ROPE_STAT_HEAD) dRope
    + bitIf (s.flag .XFER_CTRL_DHOST) dHost

/-! ### Triggered captures (R546 to R548) -/

/-- Blocks that frames occupy. -/
def blocksOf (l : List (Nat × Nat)) : Nat := (l.map (fun f => ceilDiv f.2 32)).sum

/-- The capture record of R547. -/
def captureRecord (s : State) : List Byte :=
  let x := s.xfer
  let bs := [0x03, byte s.unitNo] ++ leNat 2 x.capNumber ++ [byte x.capCause, byte x.capFrames.length] ++ leNat 2 24
    ++ leNat 2 (nth 0 x.capStamp 2) ++ leNat 2 (nth 0 x.capStamp 0) ++ leNat 2 (nth 0 x.capStamp 1)
    ++ [byte x.capPreKept] ++ List.replicate 5 0
  bs ++ leBytes (crc16 bs) ++ [0, 0]

/-- DELIVER (R546): the capture is queued to its destinations as one descriptor. -/
def deliverCapture (s : State) : State :=
  let s := s.modXfer (fun x => { x with capNumber := (x.capNumber + 1) % 65536 })
  let s := (s.setFld .XFER_CAPST_STATE 3).setFld .XFER_CAPST_COUNT s.xfer.capNumber
  settleDescrs (s.modXfer (fun x => { x with descrs := x.descrs ++
    [{ frames := x.capFrames, record := captureRecord s, number := x.capNumber, dests := x.capDest }] }))

/-- Discard the oldest of n pre-trigger frames until `need` blocks are free of `cap`: the frames left, and how many
pre-trigger frames were discarded. -/
def discardPre (cap need : Nat) : Nat → List (Nat × Nat) → List (Nat × Nat) × Nat
  | _, [] => ([], 0)
  | 0, l => (l, 0)
  | n + 1, f :: l =>
    if blocksOf (f :: l) + need ≤ cap then (f :: l, 0)
    else
      let r := discardPre cap need n l
      (r.1, r.2 + 1)

/-- Put a frame into the capture partition behind those held. -/
def placeCapture (bs : List Byte) (s : State) : State :=
  let off := match s.xfer.capFrames.getLast? with
    | some (o, len) => (o + ceilDiv len 32) % s.capBlocks
    | none => 0
  (ramWrite s.ringBlocks s.capBlocks off bs s).modXfer (fun x => { x with
    capFrames := x.capFrames ++ [(off, bs.length)] })

/-- A closed stream frame reaches the capture (R546, R548). -/
def captureFrame (bs : List Byte) (s : State) : State :=
  let c := asCapture bs
  let st := s.fld .XFER_CAPST_STATE
  let need := ceilDiv c.length 32
  if st = 1 then
    let pre := s.fld .XFER_RING_PRE
    if pre = 0 then s
    else
      let kept := s.xfer.capFrames.drop (s.xfer.capFrames.length + 1 - pre)
      let (left, gone) := discardPre s.capBlocks need kept.length kept
      let s := s.modXfer (fun x => { x with capFrames := left })
      let s := s.when (decide (0 < gone) || decide (s.capBlocks < need)) (fun t => t.setFlag .XFER_CAPST_SHORT true)
      if blocksOf left + need ≤ s.capBlocks then placeCapture c s else s
  else if st = 2 then
    let (left, gone) := discardPre s.capBlocks need s.xfer.capPreKept s.xfer.capFrames
    let s := s.modXfer (fun x => { x with capFrames := left, capPreKept := x.capPreKept - gone })
    let s := s.when (decide (0 < gone)) (fun t => t.setFlag .XFER_CAPST_SHORT true)
    if blocksOf left + need ≤ s.capBlocks then
      let s := placeCapture c s
      let s := s.modXfer (fun x => { x with capWanted := x.capWanted - 1 })
      if s.xfer.capWanted = 0 then deliverCapture s else s
    else deliverCapture (s.setFlag .XFER_CAPST_SHORT true)
  else s

/-! ### Opening and closing (R540) -/

/-- Close the open frame; `cont` says that the next frame of its pass continues it. -/
def closeFrame (cont : Bool) (s : State) : State :=
  match s.xfer.openFrame with
  | none => s
  | some items =>
    let bs := frameBytes s items
    let number := s.xfer.fseq
    let s := s.modXfer (fun x => { x with
      openFrame := none
      fseq := (x.fseq + 1) % 65536
      contPass := if cont then some x.openPass else none })
    let s := { s with seq := { s.seq with dropped := false } }
    captureFrame bs (holdFrame bs number (streamMask s) s)

/-- Open a frame for a pass: AFLAGS, SPEED and START are taken now. -/
def openFrameFor (pass : Nat) (s : State) : State :=
  let fl := s.fld .ANG_STAT_ACTMODE + 8 * s.fld .ANG_STAT_DIR + 16 * s.fld .ANG_STAT_SUBST + 32 * s.fld .ANG_STAT_LOSS
  s.modXfer (fun x => { x with
    openFrame := some []
    opened := [fl, s.reg32 Reg.ANG_SPEED, s.regN Reg.ANG_POS]
    openPass := pass
    openCont := x.contPass == some pass
    contPass := none })

/-- Add an item to the open frame. -/
def addItem (it : Nat × Nat × Nat) (s : State) : State :=
  s.modXfer (fun x => { x with openFrame := x.openFrame.map (fun l => l ++ [it]) })

/-- FRAME_ITEM_TAKE (R540): the oldest item of the frame queue goes into the open frame. -/
def frameItemTake (s : State) : State :=
  match s.seq.frameQ with
  | [] => s
  | (e, w0, w1, pass) :: rest =>
    let s := setFrameQ s rest
    let s := if s.xfer.openFrame.isSome && s.xfer.openPass != pass then closeFrame false s else s
    let s := if s.xfer.openFrame.isNone then openFrameFor pass s else s
    let s := addItem (e, w0, w1) s
    match s.xfer.openFrame with
    | some l => if 240 ≤ l.length then closeFrame true s else s
    | none => s

def execFrameItemTake (s : State) : Host.Outcome State Fault Refusal := .next (frameItemTake s)

/-- FRAME_AGE_CLOSE (R540): 1 s since the frame opened. -/
def execFrameAgeClose (s : State) : Host.Outcome State Fault Refusal := .next (closeFrame true s)

/-! ### The capture's commands (R546, R548) -/

/-- ARM, from IDLE. -/
def armCapture (s : State) : State :=
  if s.fld .XFER_CAPST_STATE = 0 then
    (s.setFld .XFER_CAPST_STATE 1).modXfer (fun x => { x with capFrames := [], capStop := false })
  else s.modXfer (fun x => { x with capStop := false })

/-- STOP: IDLE, after any delivery. -/
def stopCapture (s : State) : State :=
  if s.fld .XFER_CAPST_STATE = 3 then s.modXfer (fun x => { x with capStop := true })
  else (s.setFld .XFER_CAPST_STATE 0).modXfer (fun x => { x with capFrames := [] })

/-! ### XFER.CTRL (R550, R559, R571) -/

/-- The first byte of the capture region and the byte behind it (R559). -/
def State.capRegion (s : State) : Nat × Nat :=
  let size := s.reg32 Reg.XMEM_SIZE
  let base := s.fld .XMEM_CFG_CAPBASE * 65536
  let len := s.fld .XMEM_CFG_CAPLEN * 65536
  (min base size, if len = 0 then size else min size (base + len))

/-- Round up to the next sector. -/
def sectorUp (a : Nat) : Nat := (a + 4095) / 4096 * 4096

/-- The memory is a flash. -/
def State.isFlash (s : State) : Bool := s.fld .XMEM_STAT_KIND == 1

/-- A destination bit turned off releases the frames pending for it (R550). -/
def releaseFor (bit : Nat) (capture : Bool) (s : State) : State :=
  s.modXfer (fun x => { x with
    descrs := x.descrs.map (fun d => if d.record.isEmpty != capture then d.done bit else d) })

/-- The effect of an accepted write of XFER.CTRL. -/
def ctrlEffect (v : Word) (s : State) : State :=
  let was := s.flag .XFER_CTRL_EN
  let s := s.setReg Reg.XFER_CTRL v
  let s := s.setFlag .XFER_STAT_RUN (s.flag .XFER_CTRL_EN && s.isActive && !s.isFatal)
  let s := if !was && s.flag .XFER_CTRL_EN && s.isFlash then
      (s.setReg32 Reg.XFER_WPTR (sectorUp (s.reg32 Reg.XFER_WPTR))).modXfer (fun x => { x with erased := [] })
    else s
  let off := fun (f : Fld) (bit : Nat) (cap : Bool) (t : State) => if t.flag f then t else releaseFor bit cap t
  settleDescrs (off .XFER_CTRL_CHOST dHost true (off .XFER_CTRL_CROPE dRope true (off .XFER_CTRL_CXMEM dXmem true
    (off .XFER_CTRL_DHOST dHost false (off .XFER_CTRL_DROPE dRope false (off .XFER_CTRL_DXMEM dXmem false s))))))

/-- A write that sets DXMEM or CXMEM needs the ENGINE path's XMCAP and a capture region (R559). -/
def ctrlAllowed (xmcap : Bool) (v : Word) (s : State) : Bool :=
  !(v.getLsbD 14 || v.getLsbD 11) || (xmcap && decide (s.capRegion.1 < s.capRegion.2))

/-! ### The host destination (R553) -/

/-- The next word of the oldest frame pending for the host, and the state after its read. -/
def pullFrame (s : State) : Word × State :=
  match oldestFor s dHost with
  | none => (0, s)
  | some d =>
    let bs := pieceBytes s d d.atHost.1
    let w := d.atHost.2 / 2
    let v := (wordsOfBytes (slice' bs d.atHost.2 2)).headD 0
    let next : Descr := if 2 * (w + 1) < bs.length then { d with atHost := (d.atHost.1, d.atHost.2 + 2) }
      else if d.atHost.1 + 1 < d.pieces then { d with atHost := (d.atHost.1 + 1, 0) }
      else d.done dHost
    (v, settleDescrs (modOldest dHost (fun _ => next) s))

/-- A read of XFER.PULL: mailbox data while MBOX is set (R561), else the host's frame. -/
def pullNext (s : State) : Word × State :=
  if s.flag .XFER_STAT_MBOX then
    match s.xfer.mboxData with
    | w :: rest => (w, (s.modXfer (fun x => { x with mboxData := rest })).setFlag .XFER_STAT_MBOX (!rest.isEmpty))
    | [] => (0, s.setFlag .XFER_STAT_MBOX false)
  else pullFrame s

/-! ### The rope destination (R551) -/

/-- The payload of the next DATA frame of the oldest frame for the rope, and the state once it is taken. -/
def nextSegment (s : State) : Option (List Byte × State) :=
  match oldestFor s dRope with
  | none => none
  | some d =>
    let bs := pieceBytes s d d.atRope.1
    let off := d.atRope.2
    let last := decide (bs.length ≤ off + 63)
    let head := bitIf (off == 0) 128 + bitIf last 64 + off / 63 % 64
    let next : Descr := if !last then { d with atRope := (d.atRope.1, off + 63) }
      else if d.atRope.1 + 1 < d.pieces then { d with atRope := (d.atRope.1 + 1, 0) }
      else d.done dRope
    some (byte head :: slice' bs off 63, settleDescrs (modOldest dRope (fun _ => next) s))

/-- The check of a reassembled frame: its length, and CRC-16 as its type lays it out (R541, R547). -/
def frameCheck (bs : List Byte) : Bool :=
  decide (20 ≤ bs.length) && ofLe (slice' bs 6 2) == bs.length
    && leBytes (crc16 (bs.take (bs.length - 4))) == slice' bs (bs.length - 4) 2

/-- A segment joins what is held of its source's frame: whether it is in error, and the frame so far. -/
def joinSegment (src : Nat) (b : Byte) (seg : List Byte) (s : State) : Bool × Option (List Byte) :=
  let start := b.getLsbD 7 && b.toNat % 64 == 0
  match (s.xfer.reasm.find? (fun r => r.1 == src)).map (·.2) with
  | none => if start then (false, some seg) else (true, none)
  | some (k, l) =>
    if b.getLsbD 7 then (true, if start then some seg else none)
    else if b.toNat % 64 = k then (false, some (l ++ seg)) else (true, none)

/-- The segment waits: the stream ring has no room for what it makes of its frame. -/
def segmentWaits (src : Nat) (bytes : List Byte) (s : State) : Bool :=
  match bytes with
  | [] => false
  | b :: seg =>
    match (joinSegment src b seg s).2 with
    | some l => !(b.getLsbD 6 && !frameCheck l) && !ringRoom s l.length
    | none => false

/-- DATA (R552): the head reassembles a segment of a source; a frame in error is discarded with RDROP, a whole one enters
the stream ring; while the ring is full the segment is not taken. -/
def takeSegment (src : Nat) (bytes : List Byte) (s : State) : State :=
  match bytes with
  | [] => s
  | b :: seg =>
    let put := fun (o : Option (Nat × List Byte)) (t : State) => t.modXfer (fun x => { x with
      reasm := x.reasm.filter (fun r => r.1 != src) ++ (match o with | some r => [(src, r.1, r.2)] | none => []) })
    let (bad, sofar) := joinSegment src b seg s
    if segmentWaits src bytes s then s
    else
      let s := s.when bad (fun t => t.setFlag .XFER_STAT_RDROP true)
      match sofar with
      | none => put none s
      | some l =>
        if !b.getLsbD 6 then put (some (b.toNat % 64 + 1, l)) s
        else if !frameCheck l then put none (s.setFlag .XFER_STAT_RDROP true)
        else
          holdFrame l (ofLe (slice' l 14 2))
            (bitIf (s.flag .XFER_CTRL_DXMEM) dXmem + bitIf (s.flag .XFER_CTRL_DHOST) dHost) (put none s)

/-! ### The external memory (R557 to R561) -/

/-- A memory is there. -/
def State.hasXmem (s : State) : Bool := s.fld .XMEM_STAT_KIND != 0 || s.flag .XMEM_STAT_SAFE

/-- The clocks of the memory port that a transfer takes (R555): a write with its write enable, or a read in the mode and with the
dummy cycles that the memory gave (0x03, 0x6B or 0xEB). -/
def transferClocks (s : State) (o : XOp) : Nat :=
  let addr := if s.flag .XMEM_STAT_ADDR4 then 32 else 24
  if o.kind != 2 then 16 + addr + 8 * o.len
  else match s.xfer.readMode with
    | 0 => 8 + addr + 8 * o.len
    | 1 => 8 + addr + s.xfer.readDummy + 2 * o.len
    | _ => 8 + addr / 4 + s.xfer.readDummy + 2 * o.len

/-- The credits of an operation (R43, R557): one per ms begun of twice the typical time for a flash program or erase, else of the
transfer time at XMEM.CLK; at least 1. -/
def xopCredits (s : State) (o : XOp) : Nat :=
  max 1 (if s.isFlash && o.kind = 0 then ceilDiv (2 * s.xfer.progTypUs) 1000
    else if s.isFlash && o.kind = 1 then ceilDiv (2 * s.xfer.eraseTypUs) 1000
    else ceilDiv (transferClocks s o) (1000 * max 1 (s.fld .XMEM_CLK_MHZ)))

/-- A command that the memory port sends (R555). -/
inductive MemCmd where
  | identify
  | sfdpRead
  | safeRead
  | fastRead
  | quadRead
  | writeEnable
  | program
  | readStatus
  | sectorErase
deriving DecidableEq, Repr

/-- Its opcode; that of the 4 KiB erase comes from SFDP. -/
def State.memOpcode (s : State) : MemCmd → Nat
  | .identify => 0x9F
  | .sfdpRead => 0x5A
  | .safeRead => 0x03
  | .fastRead => 0x6B
  | .quadRead => 0xEB
  | .writeEnable => 0x06
  | .program => 0x02
  | .readStatus => 0x05
  | .sectorErase => s.xfer.eraseOp

/-- The lines that carry its command, address and data. -/
def MemCmd.lines : MemCmd → Nat × Nat × Nat
  | .identify => (1, 0, 1)
  | .sfdpRead => (1, 1, 1)
  | .safeRead => (1, 1, 1)
  | .fastRead => (1, 1, 4)
  | .quadRead => (1, 4, 4)
  | .writeEnable => (1, 0, 0)
  | .program => (1, 1, 1)
  | .readStatus => (1, 0, 1)
  | .sectorErase => (1, 1, 0)

/-- The commands of an operation, its status read polled every 10 µs. -/
def State.memCommands (s : State) (o : XOp) : List MemCmd :=
  match o.kind with
  | 0 => [.writeEnable, .program, .readStatus]
  | 1 => [.writeEnable, .sectorErase, .readStatus]
  | _ => [match s.xfer.readMode with
    | 0 => .safeRead
    | 1 => .fastRead
    | _ => .quadRead]

/-- A piece that does not fit before the region's end goes to its start, or the region is full (R560); a sector left half
written is no longer an erased one. -/
def fitPiece (s : State) : State :=
  match oldestFor s dXmem with
  | none => s
  | some d =>
    let (base, stop) := s.capRegion
    let len := (pieceBytes s d d.atXmem.1).length
    if d.atXmem.2 != 0 || s.reg32 Reg.XFER_WPTR + len ≤ stop then s
    else if s.flag .XFER_CTRL_WRAP && decide (base + len ≤ stop) then
      let sec := s.reg32 Reg.XFER_WPTR / 4096 * 4096
      let s := s.when (s.reg32 Reg.XFER_WPTR != sec) (fun t =>
        t.modXfer (fun x => { x with erased := x.erased.filter (· != sec) }))
      s.setReg32 Reg.XFER_WPTR base
    else settleDescrs (s.setFlag .XFER_STAT_FULL true)

/-- The sectors to be held erased ahead of WPTR (R560). -/
def aheadSectors (s : State) : List Nat :=
  let (base, stop) := s.capRegion
  let n := (stop - base) / 4096
  let k := (sectorUp (s.reg32 Reg.XFER_WPTR) - base) / 4096
  (List.range (s.fld .XFER_CTRL_EAHEAD + 1)).filterMap (fun i =>
    if k + i < n then some (base + 4096 * (k + i))
    else if s.flag .XFER_CTRL_WRAP && decide (0 < n) then some (base + 4096 * ((k + i) % n)) else none)

/-- The next operation of the stream (R560), while the ENGINE path holds XMCAP (R559). -/
def streamOp (s : State) : Option XOp :=
  if !s.flag .XFER_STAT_RUN || s.xmemOut || !s.granted .engine grantXmCap then none
  else
    let w := s.reg32 Reg.XFER_WPTR
    match oldestFor s dXmem with
    | some d =>
      let bs := pieceBytes s d d.atXmem.1
      let sec := w / 4096 * 4096
      if s.isFlash && !s.xfer.erased.contains sec then some ⟨1, sec, [], false, 0⟩
      else
        let page := if s.isFlash then max 1 s.xfer.page else 256
        let n := min (bs.length - d.atXmem.2) (page - w % page)
        some ⟨0, w, slice' bs d.atXmem.2 n, false, n⟩
    | none =>
      if !s.isFlash || !(s.flag .XFER_CTRL_DXMEM || s.flag .XFER_CTRL_CXMEM) then none
      else ((aheadSectors s).find? (fun a => !s.xfer.erased.contains a)).map (fun a => ⟨1, a, [], false, 0⟩)

/-- A mailbox command fails (R561). -/
def mailboxFail (rsn : Nat) (s : State) : State := (s.setFlag .XFER_STAT_MERR true).setFld .XFER_STAT_MRSN rsn

/-- While XERR is set a mailbox write that waits ends with TIMEOUT (R558). -/
def failWaiting (s : State) : State :=
  match s.xfer.mboxQ with
  | o :: rest =>
    if o.kind != 2 && s.flag .XFER_STAT_XERR then mailboxFail 5 (s.modXfer (fun x => { x with mboxQ := rest })) else s
  | [] => s

/-- XMEM_OP_START (R557, R561): with its burst granted, the mailbox's operation or the stream's next one begins. -/
def xmemOpStart (s : State) : State :=
  if s.xfer.op.isSome || !s.isActive || s.isFatal || !s.hasXmem then s
  else
    let s := fitPiece (failWaiting s)
    match (match s.xfer.mboxQ with | o :: _ => some o | [] => streamOp s) with
    | none => s
    | some o =>
      if s.hasCredits .xmem 0 (xopCredits s o) then
        (s.setFlag .XMEM_STAT_BUSY true).modXfer (fun x => { x with
          op := some o, mboxQ := if o.mailbox then x.mboxQ.drop 1 else x.mboxQ })
      else s

def execXmemOpStart (s : State) : Host.Outcome State Fault Refusal := .next (xmemOpStart s)

/-- What an operation leaves in the memory: a flash program clears bits only, an erase sets 0xFF. -/
def memAfter (flash : Bool) (o : XOp) (m : List Host.Cell) : List Host.Cell :=
  if o.kind = 1 then eraseRange m o.addr 4096
  else if o.kind = 0 then
    writeRun erasedByte m o.addr (if flash then
      (readRun erasedByte m o.addr o.bytes.length).zipWith (fun a b => a &&& b) o.bytes else o.bytes)
  else m

/-- The operation is over: the burst and any continuation are released. -/
def endXop (s : State) : State :=
  let s := (s.setFlag .XMEM_STAT_BUSY false).modXfer (fun x => { x with op := none })
  releaseBurst .xmem 0 (releaseBurst .xmem 1 (dropWaiting .xmem 1 s))

/-- A stream operation has ended well: WPTR and the frame go on, or the sector is erased. -/
def streamDone (o : XOp) (s : State) : State :=
  if o.kind = 1 then s.modXfer (fun x => { x with erased := x.erased ++ [o.addr] })
  else
    let w := o.addr + o.len
    let sec := o.addr / 4096 * 4096
    let s := s.setReg32 Reg.XFER_WPTR w
    let s := if w / 4096 * 4096 = sec then s
      else s.modXfer (fun x => { x with erased := x.erased.filter (· != sec) })
    match oldestFor s dXmem with
    | none => s
    | some d =>
      let len := (pieceBytes s d d.atXmem.1).length
      let next : Descr := if d.atXmem.2 + o.len < len then { d with atXmem := (d.atXmem.1, d.atXmem.2 + o.len) }
        else if d.atXmem.1 + 1 < d.pieces then { d with atXmem := (d.atXmem.1 + 1, 0) }
        else d.done dXmem
      settleDescrs (modOldest dXmem (fun _ => next) s)

/-- XMEM_OP_COMPLETE (R557, R560, R561). -/
def xmemOpComplete (s : State) : State :=
  match s.xfer.op with
  | none => s
  | some o =>
    let s := s.modXfer (fun x => { x with mem := memAfter s.isFlash o x.mem })
    let s := if !o.mailbox then streamDone o s
      else if o.kind = 2 then
        (s.modXfer (fun x => { x with mboxData := wordsOfBytes (s.memBytes o.addr o.len) })).setFlag .XFER_STAT_MBOX true
      else s
    endXop s

def execXmemOpComplete (s : State) : Host.Outcome State Fault Refusal := .next (xmemOpComplete s)

/-- XMEM_CONTINUATION (R557): a flash program or erase still busy asks for 10 credits more. -/
def xmemContinuation (s : State) : State :=
  match s.xfer.op with
  | some o => if s.isFlash && o.kind ≤ 1 then requestBurst ⟨.xmem, 10, 1⟩ s else s
  | none => s

def execXmemContinuation (s : State) : Host.Outcome State Fault Refusal := .next (xmemContinuation s)

/-- A byte of a cut-short write: each bit has its old or its new value, as a free value decides (log entry 1). -/
def mixByte (mask : BitVec 64) (old new : Byte) : Byte :=
  let m : Byte := mask.setWidth 8
  (old &&& ~~~m) ||| (new &&& m)

/-- What a cut-short write leaves of new bytes over old ones: one draw for each byte. -/
def cutShort (old new : List Byte) (s : State) : List Byte × State :=
  ((old.zip new).zipIdx.map (fun p => mixByte (Config.freeBits (s.free + p.2)) p.1.1 p.1.2),
    { s with free := s.free + old.length })

/-- A memory failed an operation (R558): XERR, the report, and the frames for XMEM released. -/
def memFailure (param addr : Nat) (s : State) : State :=
  settleDescrs (report 15 param (addr % 65536) 0 (s.setFlag .XFER_STAT_XERR true))

/-- The operation in progress has failed (R558): a write or erase of the mailbox ends with TIMEOUT. -/
def failOp (param : Nat) (o : XOp) (s : State) : State :=
  let s := endXop (s.setFlag .XMEM_STAT_TMO true)
  memFailure param o.addr (if o.mailbox then mailboxFail 5 s else s)

/-- The memory no longer identifies itself (R558, report parameter 3): what a timeout brings, but for the report. -/
def memoryGone (s : State) : State :=
  let s := s.setFlag .XMEM_STAT_TMO true
  let s := match s.xfer.op with
    | none => s
    | some o => if o.mailbox then mailboxFail 5 (endXop s) else endXop s
  settleDescrs (s.setFlag .XFER_STAT_XERR true)

/-- XMEM_TIMEOUT (R558): a program, write or erase is still busy at its maximum time, and what it left in the memory is free. -/
def xmemTimeout (s : State) : State :=
  match s.xfer.op with
  | none => s
  | some o =>
    if o.kind = 2 then s
    else
      let n := if o.kind = 1 then 4096 else o.bytes.length
      let old := s.memBytes o.addr n
      let new := readRun erasedByte (memAfter s.isFlash o s.xfer.mem) o.addr n
      let (left, s) := cutShort old new s
      failOp (if o.kind = 1 then 2 else 1) o (s.modXfer (fun x => { x with mem := writeRun erasedByte x.mem o.addr left }))

def execXmemTimeout (s : State) : Host.Outcome State Fault Refusal := .next (xmemTimeout s)

/-! ### The mailbox (R561) -/

/-- The region of a byte address as the grant bit that a write needs (R82, R559): 8 XMA, 9 XMB, 10 XMCAP, 11 XMUSER. -/
def writeGrant (s : State) (a : Nat) : Nat :=
  if a < 0x10000 then 8
  else if a < 0x20000 then 9
  else if s.capRegion.1 ≤ a && a < s.capRegion.2 then 10
  else 11

/-- Why a complete mailbox command fails, or none: the reason code of R561. `read` says that the path may read block 9,
`grant` which grant bits it holds. -/
def mailboxReason (op n addr : Nat) (read : Bool) (grant : Nat → Bool) (s : State) : Option Nat :=
  let len := if op = 3 then 4096 else 2 * n
  let start := if op = 3 then addr / 4096 * 4096 else addr
  let last := start + len - 1
  if op = 0 || 3 < op || (op != 3 && (n = 0 || 128 < n)) || (op = 3 && n != 0) then some 4
  else if (op = 1 && !read) || (op != 1 && !(grant (writeGrant s start) && grant (writeGrant s last))) then some 1
  else if addr % 2 = 1 || s.reg32 Reg.XMEM_SIZE ≤ last
      || (op = 2 && s.isFlash && start / (max 1 s.xfer.page) != last / (max 1 s.xfer.page)) then some 2
  else if op != 1 && (s.flag .XFER_CTRL_DXMEM || s.flag .XFER_CTRL_CXMEM)
      && (writeGrant s start == 10 || writeGrant s last == 10) then some 3
  else if op != 1 && (s.flag .XMEM_STAT_SAFE || (op = 3 && !s.isFlash)) then some 6
  else if op != 1 && s.flag .XFER_STAT_XERR then some 5
  else none

/-- Run a complete mailbox command: its operation waits for its burst, or it fails. -/
def mailboxRun (words : List Word) (read : Bool) (grant : Nat → Bool) (s : State) : State :=
  let w0 := words.headD 0
  let op := getField w0 12 4
  let n := getField w0 0 8
  let addr := (ew words 1).toNat + 65536 * (ew words 2).toNat
  let s := s.modXfer (fun x => { x with mbox := [] })
  match mailboxReason op n addr read grant s with
  | some r => mailboxFail r s
  | none =>
    let o : XOp := if op = 1 then ⟨2, addr, [], true, 2 * n⟩
      else if op = 2 then ⟨0, addr, bytesOfWords (words.drop 3), true, 2 * n⟩
      else ⟨1, addr / 4096 * 4096, [], true, 4096⟩
    s.modXfer (fun x => { x with mboxQ := x.mboxQ ++ [o] })

/-- The words of a mailbox command, from its word 0. -/
def mailboxLength (w0 : Word) : Nat := if getField w0 12 4 = 2 then 3 + getField w0 0 8 else 3

/-- A write of XFER.PULL: the next word of a mailbox command; a new word 0 discards unread data. -/
def pullWrite (p : Path) (v : Word) (read : Path → Bool) (grant : Path → Nat → Bool) (s : State) : State :=
  let s := if s.xfer.mbox.isEmpty then
      (s.modXfer (fun x => { x with mboxPath := p, mboxData := [] })).setFlag .XFER_STAT_MBOX false
    else s
  let words := s.xfer.mbox ++ [v]
  if mailboxLength (words.headD 0) ≤ words.length then mailboxRun words (read s.xfer.mboxPath) (grant s.xfer.mboxPath) s
  else s.modXfer (fun x => { x with mbox := words })

end Sys2Proof.Machine
end

