-- ==== Sys2Proof/Machine/Seq.lean ====
section
/-! DEFINITION. The sequencer (09) and the life of a window (R276): triggers, the slice an occurrence goes to, pending
lists, window phases, the result write, urgent and direct conversions, and the scrub of the topo. -/

namespace Sys2Proof.Machine

/-! ### Powered slices (R293, R328) -/

/-- The entries that may fire in the present state: in REDUCED the essential ones. -/
def State.firing (s : State) : List Nat :=
  s.entries.filter (fun e => !s.inReduced || tEss (s.topoEntry e))

/-- The live slices that entries name, retired ones among them. -/
def State.namedBy (s : State) (es : List Nat) : List Nat :=
  (List.range 12).filter (fun n => es.any (fun e => tSlice (s.topoEntry e) == n))

/-- The live slices that MINIMAL powers: the three lowest, not retired, that firing entries name (R293), and where ANY entries
are enabled and the enabled entries name fewer than three, the lowest that none names (R328). -/
def State.minimalSet (s : State) : List Nat :=
  let live := (List.range 12).filter (fun n => !s.fldBit .SLC_RETIRED_RET n)
  let named := s.namedBy s.entries
  let kept := (live.filter (fun n => (s.namedBy s.firing).contains n)).take 3
  if s.entries.any (fun e => tSlice (s.topoEntry e) == sliceAny) && named.length < 3 then
    kept ++ (live.filter (fun n => !named.contains n)).take 1
  else kept

/-- The slices that the present profile powers. -/
def State.poweredSet (s : State) : List Nat :=
  if !s.sys.slicesOn then []
  else
    let live := if s.profile = 1 then s.minimalSet
      else (List.range 12).filter (fun n => !s.fldBit .SLC_RETIRED_RET n)
    let re := if s.cal.retest then [s.calSlice] else []
    (live ++ re ++ (if s.flag .CAL_STAT_SWRET then [] else [12])).eraseDups

/-- Decide the powered set again (R293): a slice that leaves it is turned off once its window has ended. -/
def powerSlices (s : State) : State :=
  let on := s.poweredSet
  forEach 13 (fun n t =>
    let x := t.slice n
    if on.contains n then
      t.modSlice n (fun y => { y with off := false, offPend := false, prev := if y.off then none else y.prev })
    else if x.win.isSome then t.modSlice n (fun y => { y with offPend := true })
    else
      let occs := x.pending
      let t := t.modSlice n (fun y => { y with off := true, offPend := false, pending := [] })
      forList occs (skipOcc n) t) s

/-! ### Giving an occurrence to a slice (R327, R329, R330) -/

/-- A live slice that ANY may choose: powered, not retired, not out of service, not held by the host. -/
def anyCandidate (s : State) (n : Nat) : Bool :=
  !(s.slice n).off && !s.fldBit .SLC_RETIRED_RET n && s.cal.cover != some n && !s.fldBit .SLC_DIRECT_DIR n

/-- The slice of an ANY occurrence (R327): idle with nothing pending, else the one predicted to end first; ties to the
lower number. -/
def anySlice (s : State) : Option Nat :=
  let c := (List.range 12).filter (anyCandidate s)
  match c.find? (fun n => (s.slice n).win.isNone && (s.slice n).pending.isEmpty) with
  | some n => some n
  | none =>
    let ends := c.map (fun n => (n, match (s.slice n).win with | some w => predictedEnd s w | none => s.now))
    (ends.foldl (fun acc x => match acc with
      | none => some x
      | some y => if x.2 < y.2 then some x else some y) none).map (·.1)

/-- The slice that an entry's occurrence goes to (R327). -/
def targetSlice (s : State) (e : List Word) : Option Nat :=
  if tSlice e = sliceAny then anySlice s else s.serving (tSlice e)

/-- A scheduled occurrence of an entry. -/
def Occ.isOf (o : Occ) (entry : Nat) : Bool := o.kind == 0 && o.entry == entry

/-- The occurrence of an entry that is still pending, on whatever slice. -/
def State.pendingOf (s : State) (entry : Nat) : Option Occ := (s.slices.flatMap (·.pending)).find? (·.isOf entry)

/-- Put an occurrence on a slice's pending list under the overrun rules of R330: an older one of its entry that is still
pending gives up its place in its list. -/
def enqueue (n : Nat) (o : Occ) (s : State) : State :=
  let x := s.slice n
  let room := if x.win.isSome then 8 else 9
  match s.pendingOf o.entry with
  | some q =>
    let s := forEach 13 (fun m t => t.modSlice m (fun y => { y with pending := y.pending.map (fun p => if p = q then o else p) })) s
    missSlot o.entry q.pass (s.setFlag .SEQ_STAT_OVRUN true)
  | none =>
    if x.pending.length < room then s.modSlice n (fun y => { y with pending := y.pending ++ [o] })
    else missSlot o.entry o.pass (s.setFlag .SEQ_STAT_OVRUN true)

/-- A due slot: the occurrence goes to its slice, or the slot is missed for want of one (R327), or its slice is not
powered (R293). In an overlap the entry has fired (R370). -/
def dueSlot (entry : Nat) (resync : Bool) (s : State) : State :=
  let pass := s.regN Reg.ANG_PASS
  match targetSlice s (s.topoEntry entry) with
  | none => missSlot entry pass (s.setFlag .SEQ_STAT_NOSLC true)
  | some n =>
    if (s.slice n).off then supplySlot entry pass false s
    else
      let s := if (s.partnerOf n).isSome then countEntry entry s.now s else s
      enqueue n ⟨0, entry, 0, s.now, pass, resync⟩ s

/-! ### Triggers (R320 to R325) -/

/-- The sequencer is running (R344). -/
def State.seqRuns (s : State) : Bool := s.flag .SEQ_STAT_RUNNING

/-- The occurrence count of an entry (R324, R325). -/
def State.occCount (s : State) (e : Nat) : Nat := readAt (fun _ => 0) s.seq.divCount e

def setCount (e c : Nat) (s : State) : State :=
  { s with seq := { s.seq with divCount := writeAt (fun _ => 0) s.seq.divCount e c } }

/-- An entry's trigger: the divider (R325) and REDUCED (R324) decide whether its slot is due. -/
def fireEntry (resync : Bool) (e : Nat) (s : State) : State :=
  let w := s.topoEntry e
  if !s.seqRuns || !s.entryOn e then s
  else
    let angle := tKind w == kindAngle
    let c := if angle then s.reg32 Reg.ANG_PASS else s.occCount e
    let s := if angle then s else setCount e (c + 1) s
    if s.inReduced && !tEss w then s
    else if c % (tDiv w + 1) != tDph w then s
    else dueSlot e resync s

/-- TIME_TRIGGER (R321): the period of a running TIME timer expires. -/
def timeTrigger (e : Nat) (s : State) : State :=
  if s.seq.timeRun.contains e && tKind (s.topoEntry e) = kindTime then fireEntry false e s else s

def execTimeTrigger (e : Nat) (s : State) : Host.Outcome State Fault Refusal := answerIf (e < 256) (timeTrigger e s)

/-- AFTER_TRIGGER (R322): the delay after the oldest of the predecessor's results that still run is over. -/
def afterTrigger (e : Nat) (s : State) : State :=
  if s.seq.afterRun.any (fun x => x.1 == e) then
    fireEntry false e { s with seq := { s.seq with afterRun := s.seq.afterRun.eraseP (fun x => x.1 == e) } }
  else s

def execAfterTrigger (e : Nat) (s : State) : Host.Outcome State Fault Refusal := answerIf (e < 256) (afterTrigger e s)

/-- The enabling instant of entries (R323): counts restart, TIME timers restart, START entries fire, in topo order. -/
def enableEntries (es : List Nat) (s : State) : State :=
  forList es (fun e t =>
    let w := t.topoEntry e
    let t := setCount e 0 t
    if tKind w = kindTime then
      { t with seq := { t.seq with timeRun := t.seq.timeRun.filter (· != e) ++ (if t.seqRuns then [e] else []) } }
    else if tKind w = kindAfter && (ew w 0).getLsbD 15 then fireEntry false e t
    else t) s

/-- SEQ.STAT.RUNNING follows RUN and the mode (R344). -/
def showRunning (s : State) : State :=
  s.setFlag .SEQ_STAT_RUNNING (s.flag .SEQ_CTRL_RUN && (s.mode == modeActive || s.mode == modeReduced) && !s.isFatal)

/-- The sequencer stops firing (R324): pending occurrences are dropped, the timers stop; windows complete. -/
def dropPending (s : State) : State :=
  let s := forEach 13 (fun n t => t.modSlice n (fun x => { x with pending := x.pending.filter (fun o => o.kind != 0) })) s
  { s with seq := { s.seq with timeRun := [], afterRun := [] } }

/-- SEQUENCER_STOP (R324, R370): it closes the open frame (R540). -/
def sequencerStop (s : State) : State :=
  let s := showRunning (s.setFlag .SEQ_CTRL_RUN false)
  closeFrame false (settleOverlap (dropPending s))

/-- SEQUENCER_START (R291, R323): refused while the host holds a live slice in direct mode; the enabling instant is at
RUN from 0 to 1. -/
def sequencerStart (s : State) : Nat × State :=
  if s.cal.hostDirect.any (· < 12) then (stDeny, s)
  else
    let was := s.flag .SEQ_CTRL_RUN
    let s := showRunning (s.setFlag .SEQ_CTRL_RUN true)
    (0, if !was && s.seqRuns then enableEntries s.entries (oweSetl s.entries s) else s)

/-- CLRCNT (R335, R343). -/
def clearCounts (s : State) : State :=
  ((s.setReg32 Reg.SEQ_DUE 0).setReg32 Reg.SEQ_MISS 0).setRegN Reg.SEQ_JITMAX 0

/-! ### Topo checks (R317 to R319) -/

/-- An entry fails its CRC in service (R318): it is disabled, its pending occurrences are dropped, and it is reported. -/
def disableEntry (e : Nat) (s : State) : State :=
  if s.seq.crcDead.contains e then s
  else
    let s := { s with
      seq := { s.seq with
        crcDead := s.seq.crcDead ++ [e]
        timeRun := s.seq.timeRun.filter (· != e)
        afterRun := s.seq.afterRun.filter (fun x => x.1 != e) }
      stg := { s.stg with topoSince := s.stg.topoSince.filter (· != e) }
      cal := { s.cal with pairs := s.cal.pairs.filter (fun p => p.1 != e) } }
    let s := forEach 13 (fun n t => t.modSlice n (fun x => { x with
      pending := x.pending.filter (fun o => !(o.kind == 0 && o.entry == e)) })) s
    let s := (s.setFld .SEQ_DISENT_COUNT (min 255 s.seq.crcDead.length)).setFld .SEQ_DISENT_LAST e
    settleOverlap (report 6 e 0 0 (s.setFlag .SEQ_STAT_CRCF true))

/-- TOPO_SCRUB (R317). -/
def topoScrub (e : Nat) (s : State) : State :=
  if s.entryOn e && !tCrcOk (s.topoEntry e) then disableEntry e s else s

def execTopoScrub (e : Nat) (s : State) : Host.Outcome State Fault Refusal := answerIf (e < 256) (topoScrub e s)

/-! ### The phases of a window -/

/-- WINDOW_SETUP (R276, R317, R329): the oldest waiting occurrence of an idle slice starts its setup. An entry that fails
its check is disabled and the slot missed (R318). -/
def windowSetup (n : Nat) (s : State) : State :=
  let x := s.slice n
  match x.win, x.pending with
  | none, o :: rest =>
    let s := s.modSlice n (fun y => { y with pending := rest })
    if o.kind = 0 && !s.entryOn o.entry then s
    else if o.kind = 0 && !tCrcOk (s.topoEntry o.entry) then missSlot o.entry o.pass (disableEntry o.entry s)
    else startWindow n o s
  | _, _ => s

def execWindowSetup (n : Nat) (s : State) : Host.Outcome State Fault Refusal := answerIf (n < 13) (windowSetup n s)

/-- Integration begins: the window's clock, its travel and its chop phase start (R276, R278, R280). -/
def beginIntegration (n : Nat) (s : State) : State :=
  s.modWin n (fun w => beginPeriod s.speed { w with
    phase := 3
    intStart := s.now
    travel := 0 })

/-- SETTLE_END (R276): the settle phase of slice n, and of its partner, ends. -/
def settleEnd (n : Nat) (s : State) : State :=
  match (s.slice n).win with
  | some w =>
    if w.phase = 2 then
      let s := beginIntegration n s
      match w.partner with
      | some p => beginIntegration p s
      | none => s
    else s
  | none => s

def execSettleEnd (n : Nat) (s : State) : Host.Outcome State Fault Refusal := answerIf (n < 13) (settleEnd n s)

/-- The window's integration is the slice's own to end: a paired window follows the serving slice's (R368). -/
def leads (w : Window) : Bool := w.occ.kind != 9

/-- A time window has integrated N cycles, of which an exchange held 4 (R240, R279). -/
def timeTotal (w : Window) : Nat := w.cycles - (if splits w && w.half then 4 else 0)

/-- TIME_WINDOW_END (R279): a time window has integrated its N cycles. A measurement of calibration is followed by the next
(R363, R383). -/
def timeWindowEnd (n : Nat) (s : State) : State :=
  match (s.slice n).win with
  | some w =>
    if integrating w && !w.angleWin && leads w then
      let s := endWindow n false (markIntegrated n timeTotal s)
      if w.occ.kind = 3 then measureNext n w.occ s else s
    else s
  | none => s

def execTimeWindowEnd (n : Nat) (s : State) : Host.Outcome State Fault Refusal := answerIf (n < 13) (timeWindowEnd n s)

/-- WINDOW_LIMIT (R282): an angle window reaches 4,194,304 cycles and ends with VALID = 0. -/
def windowLimit (n : Nat) (s : State) : State :=
  match (s.slice n).win with
  | some w =>
    if integrating w && w.angleWin && leads w then endWindow n true (markIntegrated n (fun _ => 4194304) s) else s
  | none => s

def execWindowLimit (n : Nat) (s : State) : Host.Outcome State Fault Refusal := answerIf (n < 13) (windowLimit n s)

/-- MINIMUM_WINDOW_END (R281): a window that crossed its end before 256 integrated cycles reaches them. -/
def minimumWindowEnd (n : Nat) (s : State) : State :=
  match (s.slice n).win with
  | some w => if w.short && leads w then endWindow n false (markIntegrated n (fun _ => 256) s) else s
  | none => s

def execMinimumWindowEnd (n : Nat) (s : State) : Host.Outcome State Fault Refusal :=
  answerIf (n < 13) (minimumWindowEnd n s)

/-- The window reaches its exchange: 4 cycles are held from the chop boundary on (R240). A time window that has run fewer
core clocks has integrated the cycles before it. -/
def atExchange (speed : Nat) (w : Window) : Window :=
  let k := exchangeCycle w.cycles
  let c := w.chop
  let w := { w with half := true, chop := { c with hold := 4 } }
  if w.angleWin || k ≤ c.done then w
  else beginPeriod speed { w with chop := { w.chop with elapsed := k, done := k, plus := k / 2 } }

/-- HALF_WINDOW_EXCHANGE (R240, R245): swapped excitation connections are exchanged, and a lead check moves from the source to
the sink; the paired slice follows. -/
def halfExchange (n : Nat) (s : State) : State :=
  match (s.slice n).win with
  | some w =>
    if splits w && !w.half && integrating w && leads w then
      let s := s.modWin n (atExchange s.speed)
      let s := match w.partner with
        | some p => s.modWin p (atExchange s.speed)
        | none => s
      let s := dropConns s (fun c => c.owner == n && 4 ≤ c.role && c.role < 8)
      if s.crosspointOpen then s else addConns s (driveConns s { w with half := true } n)
    else s
  | none => s

def execHalfWindowExchange (n : Nat) (s : State) : Host.Outcome State Fault Refusal :=
  answerIf (n < 13) (halfExchange n s)

/-! ### The modulator clock (R276 to R281) -/

/-- A window integrates in its own modulator cycles: until its N cycles, the 256 that a short window is extended to, or the
limit of R282. -/
def Window.runs (w : Window) : Bool :=
  w.phase = 3 && (if w.angleWin then decide (w.chop.done < if w.short then 256 else 4194304)
    else decide (w.chop.elapsed < w.cycles))

/-- A modulator cycle of a window ends at this core clock: the divider restarted at its first cycle (R276). -/
def Window.cycleEnds (w : Window) (now : Nat) : Bool := decide (w.intStart < now) && (now - w.intStart) % 8 = 0

/-- At the end of a modulator cycle in which, or before which, the angle crossed the window's end the window ends (R280); with
fewer than 256 cycles integrated it goes on to them (R281). -/
def closeCrossed (n : Nat) (s : State) : State :=
  match (s.slice n).win with
  | some w =>
    if w.phase != 3 || !w.crossed || w.short || !leads w || !w.cycleEnds s.now then s
    else if 256 ≤ w.chop.done then endWindow n false s
    else s.modWin n (fun w => { w with short := true })
  | none => s

/-- One core clock of the slices' modulators. -/
def modulatorClock (s : State) : State :=
  let s := forEach 13 (fun n t => t.modWin n (fun w => if w.runs && w.cycleEnds t.now then cycleStep t.speed w else w)) s
  forEach 13 closeCrossed s

/-- The sense connections of demodulated windows follow the half of their reference's cycle (R241). -/
def swapSense (s : State) : State :=
  forEach 13 (fun n t => match (t.slice n).win with
    | some w =>
      if !rSdem w.route || t.crosspointOpen then t
      else
        let new := senseConns (t.demodSwap w.route) w.route n
        addConns (dropConns t (fun c => c.owner == n && c.role ≤ roleRefn && !new.contains c)) new
    | none => t) s

/-- One core clock of the excitation: the accumulators and what they switch, once per modulator cycle, and the duty of
R258. -/
def exciteClock (s : State) : State := dutyClock (if s.now % 8 = 0 then swapSense (stepPhases s) else s)

/-! ### The end phase (R285, R369) -/

/-- The pair of an overlap ends: both readings are compared (R369, R370). -/
def pairResult (w : Window) (v1 : Int) (ok1 : Bool) (v2 : Int) (ok2 : Bool) (s : State) : State :=
  pairEnded w.occ.entry v1 v2 (ok1 && ok2) s

/-- A slice fault (R381): reported, and the slice becomes due. -/
def sliceFault (n : Nat) (s : State) : State := makeDue n (report 7 n (s.regN Reg.CAL_STAT) 0 s)

/-- Take the oldest ended window of slice n. -/
def popEnded (n : Nat) (s : State) : State :=
  showBusy n (s.modSlice n (fun x => { x with ended := x.ended.drop 1 }))

/-- The overload cycles that carry from window w into the next window on slice n, where that uses the same route and burnout
(R244): it waits for its end phase, runs, or is still to start. -/
def carryOver (n : Nat) (w : Window) (m : Reading) (s : State) : State :=
  let into := fun (v : Window) => if carries v.key w.key then { v with carry := m.overTail } else v
  s.modSlice n (fun x => match x.ended, x.win with
    | v :: rest, _ => { x with ended := into v :: rest }
    | [], some v => { x with win := some (into v) }
    | [], none => { x with overCarry := m.overTail })

/-- What a slice measured in a window: the result of R284 to R287, and whether it may be compared or put in place of another
(R370, R381). -/
structure Measured where
  slice : Nat
  win : Window
  reading : Reading
  value : Int
  ovr : Bool
  open_ : Bool
  frac : Int
  valid : Bool
deriving DecidableEq, Repr

def measured (n : Nat) (w : Window) (m : Reading) : Measured :=
  let r := measure w m
  ⟨n, w, m, r.1, r.2.1, r.2.2.1, r.2.2.2, validOf w r.2.1 r.2.2.1 && !m.fault⟩

/-- The result of a slot, from what one slice measured: the working gain of its entry, unless a commit has changed the entry
since, and the write (R285, R290, R334). -/
def putMeasured (o : Occ) (sub : Bool) (x : Measured) (s : State) : State :=
  let w := x.win
  let valid := validOf w x.ovr x.open_
  let s := if tAuto w.topo && !w.stale then
      setWorkGain o.entry (nextGain w valid x.ovr x.open_ x.frac) w.topo s
    else s
  finishSlot w.topo o.entry o.pass x.value (statusOf w valid x.ovr x.open_ sub)
    (if valid then slotDelivered else slotExternal) s

/-- The lead check of a paired window is the live slice's (R225): the serving slice's, but in BACK the partner's. -/
def leadOf (x : Measured) (p : Option Measured) : Option Measured :=
  match p with
  | none => if x.win.partner.isSome && x.slice = 12 then none else some x
  | some y => if x.slice = 12 then some y else some x

/-- A scheduled window's result: the serving slice's, or its partner's where it faults (R369, R381), or none. -/
def scheduledResult (x : Measured) (p : Option Measured) (s : State) : State :=
  let o := x.win.occ
  let s := if x.reading.fault then sliceFault x.slice s else s
  let s := match p with
    | some y => if y.reading.fault then sliceFault y.slice s else s
    | none => s
  let sub := x.win.sub || x.win.partner.isSome
  let s := if !x.reading.fault then putMeasured o sub x s
    else match p.filter (·.valid) with
      | some y =>
        putMeasured o true { y with win := { y.win with occ := o, supd := x.win.supd, setl := x.win.setl, atime := x.win.atime } } s
      | none => finishSlot x.win.topo o.entry o.pass 0 (passLsb o.pass) slotMissed s
  let s := match leadOf x p with
    | some y => if y.reading.fault then s else leadResult y.win y.reading s
    | none => s
  match x.win.partner, p with
  | none, _ => s
  | some _, some y => pairEnded o.entry x.value y.value (x.valid && y.valid) s
  | some _, none => pairEnded o.entry x.value 0 false s

/-- An urgent conversion is over: the queue moves on (R337, R344). -/
def urgentDone (s : State) : State :=
  let s := { s with seq := { s.seq with urgentOn := none } }
  setUrgent s (s.seq.urgent.drop 1)

/-- A direct conversion on slice n is over: a release that waited for it takes effect, and a system calibration that waited for
it starts (R291, R383). -/
def directDone (n : Nat) (s : State) : State :=
  let s := if s.cal.sys.any (fun x => x.2.2 == n && n != 12) then beginPoint s else s
  if s.cal.sys.any (fun x => x.2.2 == n) then s else releaseDirect n s

/-- An urgent or direct result goes to register 256 + URES (R285, R292, R337). -/
def requestResult (x : Measured) (s : State) : State :=
  let w := x.win
  let reg := 256 + w.occ.word % 8
  let s := if x.reading.fault then putResult reg 0 (passLsb w.occ.pass) (sliceFault x.slice s)
    else putResult reg x.value (statusOf w (validOf w x.ovr x.open_) x.ovr x.open_ w.sub) s
  if w.occ.kind = 1 then urgentDone s else directDone x.slice s

/-- RESULT_WRITE (R285): the end phase of the oldest ended window of slice n, with what its slice and the paired slice
measured. -/
def resultWrite (n : Nat) (m : Reading) (partner : Option Reading) (s : State) : State :=
  match (s.slice n).ended with
  | [] => s
  | w :: _ =>
    if w.occ.kind = 9 then s
    else
      let pw := match w.partner, partner with
        | some p, some pm => (s.slice p).ended.head?.map (fun v => measured p v pm)
        | _, _ => none
      let s := popEnded n s
      let s := match w.partner with
        | some p => popEnded p s
        | none => s
      let s := carryOver n w m s
      let s := match pw with
        | some y => carryOver y.slice y.win y.reading s
        | none => s
      if w.occ.kind = 0 then scheduledResult (measured n w m) pw s else requestResult (measured n w m) s

/-- A reading that a slice can give. -/
def goodReading (m : Reading) : Bool := decide (m.overHead ≤ m.overMax) && decide (m.overTail ≤ m.overMax)

def execResultWrite (n : Nat) (m : Reading) (partner : Option Reading) (s : State) : Host.Outcome State Fault Refusal :=
  answerIf (n < 13 && goodReading m && (match partner with | some p => goodReading p | none => true))
    (resultWrite n m partner s)

/-! ### Urgent requests (R337 to R340) -/

/-- The effect of a write of SEQ.URG (R337): its status bits and the state. While the swing slice is retired a request
for URGSLICE = 12 completes at once (R377). -/
def urgentRequest (v : Nat) (s : State) : Nat × State :=
  if rEmpty (s.routeEntry (getField (word v) 10 6)) then (stDeny, s)
  else if s.flag .CAL_STAT_SWRET && s.fld .SEQ_URGSLICE_SLICE = 12 then
    (0, putResult (256 + v % 8) 0 (passLsb (s.regN Reg.ANG_PASS)) s)
  else if 4 ≤ s.seq.urgent.length then (0, s.setFlag .SEQ_STAT_UOVF true)
  else (0, setUrgent s (s.seq.urgent ++ [⟨1, 0, v, s.now, s.regN Reg.ANG_PASS, false⟩]))

/-- The slice on which the head urgent request may start now (R338, R339, R375). -/
def urgentSlice (s : State) : Option Nat :=
  if s.inBivouac || s.seq.urgentOn.isSome then none
  else match s.serving (s.fld .SEQ_URGSLICE_SLICE) with
    | none => none
    | some n =>
      if (s.slice n).win.isNone && (s.slice n).pending.all (fun o => o.kind != 0) && !(n == 12 && s.swingLead)
        && !s.fldBit .SLC_DIRECT_DIR n then some n else none

/-- URGENT_START (R338, R340): the head request starts its setup; the jitter since its acceptance is kept. -/
def urgentStart (s : State) : State :=
  match s.seq.urgent, urgentSlice s with
  | o :: _, some n =>
    let s := s.setRegN Reg.SEQ_JITMAX (max (s.regN Reg.SEQ_JITMAX) (min 65535 ((s.now - o.clock) / 8)))
    let o := { o with pass := s.regN Reg.ANG_PASS }
    let s := { s with seq := { s.seq with urgentOn := some n } }
    let s := startWindow n o s
    if (s.slice n).win.isSome then setUrgent s s.seq.urgent else urgentDone s
  | _, _ => s

def execUrgentStart (s : State) : Host.Outcome State Fault Refusal := .next (urgentStart s)

/-! ### Direct mode (R291, R292) -/

/-- The host may set bit n of SLC.DIRECT (R291). -/
def mayHold (s : State) (n : Nat) : Bool :=
  (n < 12 && s.fldBit .SLC_RETIRED_RET n && !(s.cal.retest && s.calSlice == n))
  || (n == 12 && s.cal.cover.isNone && !s.swingLead && s.fld .SEQ_URGSLICE_SLICE != 12)
  || !s.flag .SEQ_CTRL_RUN

/-- The slices that calibration holds: host writes to their bits are discarded (R291). -/
def calHolds (s : State) (n : Nat) : Bool := s.fldBit .SLC_DIRECT_DIR n && !s.cal.hostDirect.contains n

/-- A direct conversion, or a system calibration of the host's own, runs on slice n or waits for its end phase. -/
def directRuns (s : State) (n : Nat) : Bool :=
  (match (s.slice n).win with | some w => w.occ.kind == 2 || w.occ.kind == 3 | none => false)
  || (s.slice n).ended.any (fun w => w.occ.kind == 2) || s.cal.sys.any (fun x => x.2.2 == n)

/-- The effect of a write of SLC.DIRECT (R291): bits set are held, bits cleared are released, at the end of a present
conversion where one runs. -/
def directWrite (v : Nat) (s : State) : Nat × State :=
  let asked := (List.range 13).filter (fun n => v.testBit n && !s.cal.hostDirect.contains n && !calHolds s n)
  if asked.any (fun n => !mayHold s n) then (stDeny, s)
  else
    let held := (List.range 13).filter (fun n => !calHolds s n && (v.testBit n || s.cal.hostDirect.contains n))
    let freed := held.filter (fun n => !v.testBit n)
    let s := { s with cal := { s.cal with hostDirect := held, hostFree := freed } }
    let s := forList held (fun n t => t.setFldBit .SLC_DIRECT_DIR n true) s
    (0, forList freed (fun n t => if directRuns t n then t else releaseDirect n t) s)

/-- The direct route r would use a pin in a drive role that a window in progress on another slice uses in a different role
(R235, R292). -/
def driveConflict (s : State) (n : Nat) (r : List Word) : Bool :=
  let mine := (pinRoles [] r).filter (fun x => roleRefn < x.2)
  (List.range 13).any (fun m => m != n && match (s.slice m).win with
    | some w => (pinRoles w.topo w.route).any (fun y => mine.any (fun x => x.1 == y.1 && x.2 != y.2))
    | none => false)

/-- The effect of a write of SLC[n].FORCE (R292). -/
def sliceForce (n v : Nat) (s : State) : Nat × State :=
  let r := s.routeEntry (getField (word v) 10 6)
  if !s.fldBit .SLC_DIRECT_DIR n || rEmpty r then (stDeny, s)
  else if s.fldBit .SLC_BUSY_BUSY n || directRuns s n || calHolds s n || driveConflict s n r then
    (0, s.incFld (.SLC_DROPCNT_DROP n))
  else (0, startWindow n ⟨2, 0, v, s.now, s.regN Reg.ANG_PASS, false⟩ s)

/-! ### Excitation events (R263 to R267) -/

/-- COMPLIANCE_LOSS (R243, R266): a connected output with a current or level other than 0 loses compliance. -/
def complianceLoss (k : Nat) (s : State) : State :=
  if s.excConnected k && !s.driveIsZero k && !(s.excOut k).breakOn then
    let s := s.setFldBit .EXC_STAT_CMPL k true
    forEach 13 (fun n t => if t.windowUses n k then t.modWin n (fun w =>
      if w.half then { w with lostSecond := if w.lostSecond.contains k then w.lostSecond else w.lostSecond ++ [k] }
      else { w with lostFirst := if w.lostFirst.contains k then w.lostFirst else w.lostFirst ++ [k] }) else t) s
  else s

def execComplianceLoss (n : Nat) (s : State) : Host.Outcome State Fault Refusal := answerIf (n < 4) (complianceLoss n s)

/-- EXC_OVERCURRENT (R267): the output is disconnected until the latches are cleared, OFLT is set, and it is reported. -/
def excOvercurrent (k : Nat) (s : State) : State :=
  let s := excClear evOver k (s.modExc k (fun x => { x with overcurrent := true }))
  report 12 k 0 0 (s.setFldBit .EXC_STAT_OFLT k true)

def execExcOvercurrent (n : Nat) (s : State) : Host.Outcome State Fault Refusal := answerIf (n < 4) (excOvercurrent n s)

/-- The entries whose windows use output k. -/
def State.entriesUsing (s : State) (k : Nat) : List Nat :=
  s.entries.filter (fun e => usesExc (s.topoEntry e) (s.routeEntry (tRoute (s.topoEntry e)))
    && rUses (s.routeEntry (tRoute (s.topoEntry e))) k)

/-- A free-running square or sine output (R250). -/
def freeRunning (c : List Word) : Bool := xWave c != 0 && !xAlock c

/-- A change of output k that restarts accumulators: every free-running output of equal FREQ starts from 0 (R252). -/
def restartPhases (k : Nat) (s : State) : State :=
  forEach 4 (fun j t =>
    if freeRunning (t.excSet j) && xFreq (t.excSet j) == xFreq (t.excSet k) then t.modExc j (fun x => { x with acc := 0 })
    else t) s

/-- The change from old to new settings needs the break of R265: MODE, RANGE, WAVE, ALOCK or CONT. -/
def needsBreak (old new : List Word) : Bool := (ew old 0 &&& 0xFE00) != (ew new 0 &&& 0xFE00)

/-- The change restarts the phase: FREQ, PHASE, WAVE or ALOCK (R252). -/
def restarts (old new : List Word) : Bool :=
  xFreq old != xFreq new || xPhase old != xPhase new || xWave old != xWave new || xAlock old != xAlock new

/-- An angle-locked output's frequency lies outside 10 Hz to 20 kHz: K × ANG.SPEED (R254). -/
def outOfRange (c : List Word) (speed : Nat) : Bool :=
  let f := xFreq c % 65536 * speed
  decide (f < 10 * 65536) || decide (20000 * 65536 < f)

/-- ANG.SPEED in rpm, rounded, as a record gives it. -/
def rpmOf (q : Nat) : Nat := min 65535 ((q * 60 + 32768) / 65536)

/-- EXC.STAT.FOR follows the speed, with a record each time it is set (R254). -/
def judgeFor (s : State) : State :=
  forEach 4 (fun k t =>
    let c := t.excSet k
    let bad := xAlock c && xWave c != 0 && outOfRange c t.speed
    let was := t.fldBit .EXC_STAT_FOR k
    let t := t.setFldBit .EXC_STAT_FOR k bad
    if bad && !was then mkRecord 0x201 clsNote [k, xFreq c % 65536, rpmOf t.speed] t else t) s

/-- Windows in progress use output k. -/
def State.inUse (s : State) (k : Nat) : Bool := (List.range 13).any (fun n => s.windowUses n k)

/-- The application point of output k has come (R263): no window that uses it is in progress, no enabled entry uses it and it
is not continuous, or after 100 ms a window starts on the lowest-numbered slice that uses it. -/
def State.atPoint (s : State) (k : Nat) : Bool :=
  !s.inUse k || ((s.entriesUsing k).isEmpty && !xCont (s.excSet k) && !xCont (s.excRegs k))
  || (decide ((s.excOut k).pendAt + dutyClocks ≤ s.now)
    && ((List.range 13).find? (fun n => s.windowUses n k)).any (fun n =>
      (s.slice n).win.any (fun w => w.setStart == s.now)))

/-- The clear and home connections of output k move to its present clear route (R264). -/
def moveClear (k : Nat) (s : State) : State :=
  let clear := s.conns.any (fun c => c.owner == ownClear k)
  let home := s.conns.any (fun c => c.owner == ownHome k)
  let s := dropConns s (fun c => c.owner == ownClear k || c.owner == ownHome k)
  let s := if clear || !(s.excOut k).clearBy.isEmpty then addConns s (clearConns s k) else s
  if home then addConns s (homeConns s k) else s

/-- The settings and the clear route that the registers and the table hold are those in force on output k. -/
def excSettle (k : Nat) (s : State) : State :=
  s.modExc k (fun y => { y with pending := false, applied := [], appliedRt := [] })

/-- The change awaited on output k is applied (R263 to R265). -/
def excApplyNow (k : Nat) (s : State) : State :=
  let old := s.excSet k
  let oldRt := s.clearRoute k
  let new := s.excRegs k
  let s := forEach 13 (fun n t => if t.windowUses n k then t.modWin n (fun w => { w with setl := true }) else t) s
  let s := oweSetl (s.entriesUsing k) (judgeFor (excSettle k s))
  let s := if restarts old new then restartPhases k s else s
  if needsBreak old new then
    let clear := s.conns.any (fun c => c.owner == ownClear k)
    let s := dropConns s (fun c => c.role == roleExc k || c.owner == ownHome k || c.owner == ownClear k)
    s.modExc k (fun y => { y with breakOn := true, home := false, clearOn := clear })
  else if oldRt == s.clearRoute k && xClren old == xClren new then s
  else moveClear k s

/-- EXC_APPLICATION_POINT (R263). -/
def excApply (k : Nat) (s : State) : State :=
  if (s.excOut k).pending && s.atPoint k then excApplyNow k s else s

def execExcApplicationPoint (n : Nat) (s : State) : Host.Outcome State Fault Refusal := answerIf (n < 4) (excApply n s)

/-- EXC_RECONNECT (R265): the driver is back. In its clear state the output's clear connections close; else the connections
that the present windows and CONT call for. -/
def excReconnect (k : Nat) (s : State) : State :=
  let x := s.excOut k
  if !x.breakOn then s
  else
    let s := s.modExc k (fun x => { x with breakOn := false, clearOn := false })
    if !x.clearBy.isEmpty || !x.atCode then
      if !x.clearBy.isEmpty || x.clearOn then addConns s (clearConns s k) else s
    else if s.crosspointOpen then s
    else
      let s := forEach 13 (fun n t => match (t.slice n).win with
        | some w => if w.uses k && leads w then addConns t ((driveConns t w n).filter (fun c => c.role == roleExc k)) else t
        | none => t) s
      let s := s.modExc k (fun x => { x with home := xCont (s.excSet k) && !s.inReduced })
      if s.excConnected k || (s.excOut k).home then connectOutput k s else s

def execExcReconnect (n : Nat) (s : State) : Host.Outcome State Fault Refusal := answerIf (n < 4) (excReconnect n s)

/-! ### The reference (R294 to R297) -/

/-- REF_READY (R294): the buffer has settled. With IOMODE = OUT the buffer must be on (R295). -/
def refReady (s : State) : State :=
  if s.flag .REF_STAT_BUFON && s.flag .REF_CTRL_BUFEN then s.setFlag .REF_STAT_READY true else s

def execRefReady (s : State) : Host.Outcome State Fault Refusal := .next (refReady s)

/-- REF_MONITOR (R297): one comparison while READY is set, with the difference in ppm; three failures in a row above 0.20 %
set MONERR and report, again where MONERR has been cleared and the difference persists. -/
def refMonitor (diffPpm : Nat) (s : State) : State :=
  if !s.flag .REF_STAT_READY then s
  else
    let bad := if 2000 < diffPpm then s.seq.refBad + 1 else 0
    let s := { s with seq := { s.seq with refBad := min 3 bad, refDiff := diffPpm } }
    if 3 ≤ bad && !s.flag .REF_STAT_MONERR then report 9 0 (min 65535 diffPpm) 0 (s.setFlag .REF_STAT_MONERR true) else s

def execRefMonitor (diffPpm : Nat) (s : State) : Host.Outcome State Fault Refusal := .next (refMonitor diffPpm s)

/-- REFIO_RANGE_ERROR (R296). -/
def refioRange (s : State) : State :=
  if s.fld .REF_CTRL_IOMODE = 2 then report 9 1 (min 65535 s.seq.refDiff) 0 (s.setFlag .REF_STAT_EXTERR true) else s

def execRefioRangeError (s : State) : Host.Outcome State Fault Refusal := .next (refioRange s)

end Sys2Proof.Machine
end

