-- ==== Sys2Proof/Machine/Angle.lean ====
section
/-! DEFINITION. The angle base (05): interpolation, corrections, crossings and passes, the local modes, loss and
substitution, and the beacons as they move the angle. -/

namespace Sys2Proof.Machine

/-- A full revolution of the 32-bit accumulator. -/
def rev32 : Nat := 4294967296

/-- The core clock in Hz. -/
def coreHz : Nat := 16384000

def amIndex : Nat := 0
def amTooth : Nat := 1
def amQuad : Nat := 2
def amMains : Nat := 3
def amTime : Nat := 4
def amBeacon : Nat := 5

def State.angMode (s : State) : Nat := s.fld .ANG_CFG_MODE
def State.angSrc (s : State) : Nat := s.fld .ANG_CFG_SRC
def State.angDir (s : State) : Bool := s.flag .ANG_STAT_DIR
def State.angPos (s : State) : Nat := s.regN Reg.ANG_POS
def State.zero32 (s : State) : Nat := s.regN Reg.ANG_ZERO * 65536

/-- Change the angle base's own state. -/
def State.modAng (s : State) (f : Ang → Ang) : State := { s with ang := f s.ang }

/-- The local mode is the source: SRC = LOCAL, or BEACONFB after beacon loss (R199). -/
def State.localAngle (s : State) : Bool := s.angSrc = 0 || (s.angSrc = 2 && s.flag .ANG_STAT_BCNLOSS)

/-- Distance from a to b in a direction, modulo 2^16 (R186). -/
def dist16 (back : Bool) (a b : Nat) : Nat := if back then (a + 65536 - b) % 65536 else (b + 65536 - a) % 65536

/-- A step from a of d ticks crosses T (R189). -/
def crosses (back : Bool) (a d t : Nat) : Bool :=
  let k := dist16 back a t
  decide (1 ≤ k) && decide (k ≤ d)

/-! ### Speed (R170, R171, R188, R254) -/

/-- Set ANG.SPEED, and with it OVSPD (R188) and FOR. -/
def setSpeed (q : Nat) (s : State) : State :=
  let s := s.setReg32 Reg.ANG_SPEED q
  let isOver := decide (s.regN Reg.ANG_SPDMAX * 65536 < q * 60)
  let was := s.flag .ANG_STAT_OVSPD
  let s := s.setFlag .ANG_STAT_OVSPD isOver
  let s := if isOver && !was then mkRecord 0x182 clsNote [rpmOf q, s.regN Reg.ANG_SPDMAX] s else s
  if s.isActive then judgeFor s else s

/-- The reported speed falls below 0.1 rpm: ANG.SPEED reads 0, STOP is set, interpolation stops (R171). -/
def stopSpeed (s : State) : State :=
  setSpeed 0 ((s.setFlag .ANG_STAT_STOP true).modAng (fun a => { a with num := 0, speedQ := 0 }))

/-- The speed comes from reference events that may cease: INDEX, TOOTH, QUAD and MAINS, outside substitution. -/
def State.speedDecays (s : State) : Bool :=
  s.localAngle && !s.flag .ANG_STAT_SUBST && s.angMode != amTime

/-- The reported speed now: the lesser of the computed speed and one event pitch over the elapsed time (R171). -/
def State.decayedSpeed (s : State) : Nat :=
  match s.ang.lastEvent with
  | some t =>
    let el := s.now - t
    if s.speedDecays && decide (s.ang.interval.getD 0 < el) && 0 < el then
      min s.ang.speedQ (s.ang.pitch * coreHz / (65536 * el))
    else s.ang.speedQ
  | none => s.ang.speedQ

/-- Report the speed as it has decayed (R171). -/
def refreshSpeed (s : State) : State :=
  let q := s.decayedSpeed
  if s.flag .ANG_STAT_STOP then s
  else if s.speedDecays && decide (q < 109) then stopSpeed s
  else if q = s.speed then s else setSpeed q s

/-! ### Steps of ANG.POS (R189 to R192) -/

/-- A step of d ticks from a moves the travel, and a crossing of 0x0000 with 32,768 ticks of travel up to it, or the first
of all, advances ANG.PASS; travel then counts from the crossing (R192). -/
def countPass (a d : Nat) (s : State) : State :=
  let k := dist16 s.angDir a 0
  let before := s.ang.travel
  if crosses s.angDir a d 0 && (!s.ang.counted || decide (32768 ≤ before + k)) then
    (s.setReg32 Reg.ANG_PASS ((s.reg32 Reg.ANG_PASS + 1) % 4294967296)).modAng
      (fun x => { x with counted := true, travel := d - k })
  else s.modAng (fun x => { x with travel := min 65536 (before + d) })

/-- Angle windows travel by a step of d ticks; one that has covered its ticks ends at the end of its modulator cycle (R280,
R281). -/
def moveWindows (d : Nat) (s : State) : State :=
  forEach 13 (fun n t => t.modWin n (fun w =>
    if w.phase = 3 && w.angleWin && leads w then
      { w with travel := w.travel + d, crossed := w.crossed || decide (w.ticks ≤ w.travel + d) }
    else w)) s

/-- A step of d ticks from a crosses the angle of an armed commit (R152, R190): its instant has come. A unit PREPARED for
a team commit records a crossing as missed (R518). -/
def crossCommit (back : Bool) (a d : Nat) (s : State) : State :=
  let g := s.stg
  let pass := s.regN Reg.ANG_PASS
  let hit := g.armed && ((g.armedAt == 1 || g.armedAt == 2 || (g.armedAt == 3 && g.armedPass == pass))
    && crosses back a d g.armedAngle)
  let s := if hit then { s with stg := { g with reached := true } } else s
  match s.rope.member with
  | some m => if m.stage = 2 && m.pass = pass && crosses back a d m.angle
      then { s with rope := { s.rope with member := some { m with missed := true } } } else s
  | none => s

/-- A step of ANG.POS to b in the present direction: the pass, then the triggers it crosses in topo order, then the
windows (R189, R190, R325). -/
def stepPos (b : Nat) (resync : Bool) (s : State) : State :=
  let a := s.angPos
  let back := s.angDir
  let d := dist16 back a b
  if d = 0 then s
  else
    let s := countPass a d (s.setRegN Reg.ANG_POS b)
    let hit := s.entries.filter (fun e =>
      let w := s.topoEntry e
      tKind w == kindAngle && crosses back a d (ew w 0).toNat && !(back && tFwd w))
    crossCommit back a d (moveWindows d (forList hit (fireEntry resync) s))

/-! ### Interpolation (R184, R185) -/

/-- Where the accumulator may go in the direction of motion: the units left before the tick of the next expected event. -/
def clampRoom (a : Ang) (back : Bool) : Nat :=
  match a.expected with
  | none => rev32
  | some e =>
    let t := e / 65536 * 65536
    if back then (a.acc + rev32 - (t + 65536) % rev32) % rev32
    else ((t + rev32 - a.acc % rev32 + rev32 - 1) % rev32)

/-- Advance the accumulator by k core clocks at its rate, up to the clamp. -/
def advanceBy (k : Nat) (back : Bool) (a : Ang) : Ang :=
  let q := a.rem + k * a.num
  let delta := min (q / a.den) (clampRoom a back)
  { a with rem := q % a.den, acc := if back then (a.acc + rev32 - delta) % rev32 else (a.acc + delta) % rev32 }

/-- One core clock of the angle base: a held position is followed again when the internal angle reaches it (R186). -/
def angleClock (s : State) : State :=
  if s.ang.num = 0 || s.ang.deadBand then s
  else
    let back := s.angDir
    let before := dist16 back (s.ang.acc / 65536) s.angPos
    let s := s.modAng (advanceBy 1 back)
    let moved := dist16 back s.angPos (s.ang.acc / 65536)
    if s.flag .ANG_STAT_SLEW then
      if before ≤ 32768 && moved < 32768 then stepPos (s.ang.acc / 65536) false (s.setFlag .ANG_STAT_SLEW false) else s
    else stepPos (s.ang.acc / 65536) false s

/-- Windows whose setup needs no settle begin to integrate 33 core clocks after its start (R276). -/
def endSetups (s : State) : State :=
  forEach 13 (fun n t => match (t.slice n).win with
    | some w => if w.phase = 1 && decide (w.setStart + 33 ≤ t.now) then beginIntegration n t else t
    | none => t) s

/-- Beacon periods that have passed without a beacon are counted half a period late (R216, log entry 21). -/
def countMissed (s : State) : State :=
  let el := s.now - s.ang.lastBeacon
  if s.angSrc != 0 && s.isActive && 0 < el
      && (el * 1000 + 2097152) / 4194304 != ((el - 1) * 1000 + 2097152) / 4194304
      && 6291456 ≤ el * 1000 + 2097152 then s.incFld .ANG_BCN_MISS
  else s

/-! ### Corrections (R186) -/

/-- The base learns a true angle. -/
def correctTo (t32 : Nat) (resync : Bool) (s : State) : State :=
  let d := dist16 s.angDir s.angPos (t32 / 65536)
  let s := s.modAng (fun a => { a with acc := t32, rem := 0 })
  if d = 0 then s.setFlag .ANG_STAT_SLEW false
  else if d < 32768 then stepPos (t32 / 65536) resync (s.setFlag .ANG_STAT_SLEW false)
  else s.setFlag .ANG_STAT_SLEW true

/-! ### Windows and the events of the base (R283) -/

/-- Angle windows in progress, those in their setup and settle among them, end with VALID = 0: loss with HOLD, or reversal. -/
def endAngleWindows (s : State) : State :=
  forEach 13 (fun n t => match (t.slice n).win with
    | some w => if w.angleWin && leads w then endWindow n true t else t
    | none => t) s

/-- Angle windows in progress carry ATIME. -/
def markAtime (s : State) : State :=
  forEach 13 (fun n t => t.modWin n (fun w => if w.angleWin then { w with atime := true } else w)) s

/-! ### Implausibility (R198) -/

/-- Report an implausibility where PLAUS = 1. -/
def implausible (param : Nat) (s : State) : State :=
  if s.flag .ANG_CFG_PLAUS then report 13 param 0 0 (s.setFlag .ANG_STAT_IMPL true) else s

/-! ### Loss and substitution (R193 to R197) -/

/-- The virtual revolution in core clocks (R183). -/
def State.tperClocks (s : State) : Nat := max 1 (s.regN Reg.ANG_TPER * 4096)

/-- Counts per revolution (R172). -/
def State.quadCounts (s : State) : Nat := max 1 (4 * s.fld .ANG_LINES_LINES)

/-- Reference events in one revolution of the local mode. -/
def State.eventsPerRev (s : State) : Nat :=
  if s.angMode = amTooth then max 1 (s.fld .ANG_TEETH_N) else if s.angMode = amQuad then s.quadCounts else 1

/-- The last measured revolution period (R196): the last interval in INDEX and MAINS, the last N − M intervals in TOOTH;
ANG.TPER before any. -/
def State.revPeriod (s : State) : Nat :=
  let teeth := s.fld .ANG_TEETH_N - s.fld .ANG_TEETH_MISS
  if s.angMode = amTooth then
    if s.ang.history.length = teeth then s.ang.history.sum else s.tperClocks
  else match s.ang.interval with
    | some n => n * s.eventsPerRev
    | none => s.tperClocks

/-- The angle goes on from the present ANG.POS: a held one is not followed further (R183, R196). -/
def goOnFromPos (s : State) : State :=
  if s.flag .ANG_STAT_SLEW || s.ang.deadBand then
    (s.setFlag .ANG_STAT_SLEW false).modAng (fun a => { a with acc := s.angPos * 65536, deadBand := false })
  else s

/-- Run the angle at num/den units per core clock, which is a speed of q, from the present position; below 0.1 rpm it stands
(R171). -/
def runRate (num den q : Nat) (s : State) : State :=
  let s := (goOnFromPos s).modAng (fun a => { a with num := num, den := den, rem := 0, expected := none, speedQ := q })
  if q < 109 then stopSpeed s else setSpeed q (s.setFlag .ANG_STAT_STOP false)

/-- Run the angle at a rate of one revolution in `period` core clocks from the present position (R183, R196). -/
def runTime (period : Nat) (s : State) : State := runRate rev32 (max 1 period) (65536 * coreHz / max 1 period) s

/-- Substitution begins: SUBST, ACTMODE TIME, and windows in progress carry ATIME (R196, R283). -/
def showSubst (s : State) : State := markAtime ((s.setFlag .ANG_STAT_SUBST true).setFld .ANG_STAT_ACTMODE amTime)

/-- Enter substitution over a period (R196). -/
def substitute (period : Nat) (s : State) : State := runTime period (showSubst s)

/-- Hold the angle (R195). -/
def holdAngle (s : State) : State := endAngleWindows (s.modAng (fun a => { a with num := 0 }))

/-- The state of loss: SYNC off, LOSS on (R193). -/
def showLoss (s : State) : State := (s.setFlag .ANG_STAT_SYNC false).setFlag .ANG_STAT_LOSS true

/-- The state of loss begins, with HOLD or SUBST (R193 to R196). -/
def beginLoss (subst : Bool) (period : Nat) (s : State) : State :=
  let s := showLoss s
  if subst then substitute period s else holdAngle s

/-- Loss is declared in a local mode (R194). -/
def declareLoss (s : State) : State :=
  let s := mkRecord 0x180 clsNote [s.fld .ANG_STAT_ACTMODE, s.regN Reg.ANG_TMO, s.fld .ANG_CFG_LOSS] s
  let s := s.setFlag .ANG_STAT_LOSSEV true
  beginLoss (s.flag .ANG_CFG_LOSS) s.revPeriod (s.modAng (fun a => { a with skip := s.angMode == amIndex || s.angMode == amMains, mainsCand := none }))

/-- ANGLE_LOSS (R194): no accepted event within ANG.TMO. -/
def angleLoss (s : State) : State :=
  if s.localAngle && [amIndex, amTooth, amMains].contains s.angMode && s.flag .ANG_STAT_SYNC && s.isActive then declareLoss s
  else s

def execAngleLoss (s : State) : Host.Outcome State Fault Refusal := .next (angleLoss s)

/-- SPEED_STOP (R171). -/
def speedStop (s : State) : State := if s.speedDecays && !s.flag .ANG_STAT_STOP then stopSpeed s else s

def execSpeedStop (s : State) : Host.Outcome State Fault Refusal := .next (speedStop s)

/-- The local mode knows no backward direction: MAINS, TIME, and INDEX and TOOTH without DIRIN (R178, R183, R191). -/
def State.forwardOnly (s : State) : Bool :=
  s.angMode == amMains || s.angMode == amTime || ((s.angMode == amIndex || s.angMode == amTooth) && !s.flag .ANG_CFG_DIRIN)

/-- Synchronisation starts in the local mode (R193, R183): before a measured interval there is no speed (R171, log entry
23). -/
def startLocal (s : State) : State :=
  let s := s.modAng (fun a => { a with lastEvent := none, interval := none, prevInterval := none, events := 0, skip := false
                                       expected := none, tooth := none, history := []
                                       quadTimes := [], mainsCand := none, num := 0, atimePend := false })
  let s := ((s.setFlag .ANG_STAT_NOREF false).setFlag .ANG_STAT_SUBST false).setFld .ANG_STAT_ACTMODE s.angMode
  let s := if s.forwardOnly then s.setFlag .ANG_STAT_DIR false else s
  if s.angMode = amTime then
    runTime s.tperClocks ((s.setFlag .ANG_STAT_SYNC true).setFlag .ANG_STAT_LOSS false)
  else beginLoss (s.flag .ANG_CFG_LOSS) s.tperClocks (stopSpeed s)

/-- Synchronisation starts (R193, R199). -/
def startSync (s : State) : State :=
  let s := s.setFld .ANG_BCN_HEAD 0
  if s.angSrc = 0 then
    startLocal ((s.setFlag .ANG_STAT_BCN false).setFlag .ANG_STAT_BCNLOSS false)
  else
    let s := (s.setFlag .ANG_STAT_BCNLOSS false).modAng (fun a => { a with
      lastBeacon := s.now, beacon := none, expected := none, num := 0 })
    let s := ((s.setFlag .ANG_STAT_BCN false).setFlag .ANG_STAT_SUBST false).setFld .ANG_STAT_ACTMODE amBeacon
    beginLoss (s.flag .ANG_CFG_LOSS) s.tperClocks (stopSpeed s)

/-- In TIME mode the first virtual revolution starts at ANG.ZERO, without a crossing (R183). -/
def startAtZero (s : State) : State :=
  if s.angSrc = 0 && s.angMode = amTime then
    (s.setRegN Reg.ANG_POS (s.regN Reg.ANG_ZERO)).modAng (fun a => { a with acc := s.zero32, rem := 0 })
  else s

/-! ### Reference events -/

/-- A prediction of the next interval (R184). -/
def predict (s : State) (p1 : Nat) (p2 : Option Nat) : Nat :=
  match p2 with
  | some q => if s.flag .ANG_CFG_PRED then min (2 * p1) (max (p1 / 2) (2 * p1 - q)) else p1
  | none => p1

/-- Interpolation over the last interval measured, from the second event on, outside loss and standstill (R184), and in
QUAD over intervals of 32 core clocks or more (R174). -/
def resumeRate (s : State) : State :=
  match s.ang.interval with
  | some n =>
    if s.flag .ANG_STAT_STOP || s.flag .ANG_STAT_LOSS || s.ang.events < 2 || (s.angMode == amQuad && n < 32) then
      s.modAng (fun a => { a with num := 0 })
    else s.modAng (fun a => { a with num := rev32 / s.eventsPerRev, den := max 1 (predict s n a.prevInterval), rem := 0 })
  | none => s.modAng (fun a => { a with num := 0 })

/-- Loss ends at an event that yields an angle: SYNC on, LOSS and SUBST off; a held angle follows the last interval
again, a substituted one keeps its period, and windows carry ATIME, until an interval is measured (R196, R197). -/
def endLoss (s : State) : State :=
  let sub := s.flag .ANG_STAT_SUBST
  let s := (((s.setFlag .ANG_STAT_SYNC true).setFlag .ANG_STAT_LOSS false).setFlag .ANG_STAT_SUBST false).setFld
    .ANG_STAT_ACTMODE s.angMode
  (if sub then s else resumeRate s).modAng (fun a => { a with atimePend := sub })

/-- Measure an interval over `units` event pitches of 1/`per` revolution (R170, R187): an implausible one is reported and
not used. While the angle is substituted only the interval is kept (R197), and in loss nothing interpolates (R195). -/
def measureInterval (ival units per : Nat) (s : State) : State :=
  let n := ival / units
  if 68719476736 ≤ ival || n = 0 || decide (1000 * per * n < coreHz) then implausible 7 s
  else
    let q := 65536 * coreHz / (per * n)
    let before := s.ang.interval
    let s := s.modAng (fun a => { a with interval := some n, prevInterval := before })
    if s.flag .ANG_STAT_SUBST then s
    else
      let s := s.modAng (fun a => { a with speedQ := q, atimePend := false })
      if q < 109 then stopSpeed s
      else
        let s := setSpeed q (s.setFlag .ANG_STAT_STOP false)
        if s.flag .ANG_STAT_LOSS then s
        else s.modAng (fun a => { a with num := rev32 / per, den := max 1 (predict s n before), rem := 0 })

/-- The glitch filter F in core clocks (R173); the comparator of MAINS has none. -/
def State.filterClocks (s : State) : Nat :=
  if s.angMode = amMains then 0 else match s.fld .ANG_CFG_FILT with
    | 0 => 0
    | 1 => 2
    | 2 => 8
    | _ => 32

/-- The time of an event that is accepted now: the filter delay is subtracted (R173). -/
def State.eventTime (s : State) : Nat := s.now - s.filterClocks

/-- An accepted event: measure the interval since the last one, unless it spans a loss (R197). -/
def timeEvent (units per : Nat) (s : State) : State :=
  let s := match s.ang.lastEvent, s.ang.skip with
    | some t, false => measureInterval (s.eventTime - t) units per s
    | _, _ => s
  s.modAng (fun a => { a with lastEvent := some s.eventTime, events := a.events + 1, skip := false, pitch := rev32 / per })

/-- The dead band in ticks (R206). -/
def State.rhyst (s : State) : Nat := 16 * 4 ^ s.fld .ANG_CFG_RHYST

/-- The direction turns (R191): DIR toggles, REVEV, the sequencer is told, and ANG.POS steps to the raw angle. -/
def reverse (t32 : Nat) (s : State) : State :=
  let s := (s.setFlag .ANG_STAT_DIR (!s.angDir)).setFlag .ANG_STAT_REVEV true
  let s := endAngleWindows (s.setFlag .ANG_STAT_SLEW false)
  let s := s.modAng (fun a => { a with acc := t32, rem := 0, num := 0, deadBand := false, events := 1 })
  stepPos (t32 / 65536) false s

/-- An event gave the true angle t32 at its time, seen in a direction in which the next event is at `ahead`, `pitch` units on;
the shaft has turned on for the filter delay (R173, R185, R186, R191). -/
def eventAngle (t32 ahead pitch : Nat) (seenBack resync : Bool) (s : State) : State :=
  let next := fun (a : Ang) => { a with expected := some ahead, pitch := pitch }
  if seenBack = s.angDir then
    if s.ang.deadBand && 32768 ≤ dist16 s.angDir s.angPos (t32 / 65536) then s
    else
      let a := advanceBy s.filterClocks s.angDir { next s.ang with acc := t32, rem := 0 }
      correctTo a.acc resync (s.modAng (fun x => { next x with deadBand := false }))
  else
    let back := dist16 seenBack s.angPos (t32 / 65536)
    if s.rhyst ≤ back then reverse t32 (s.modAng next)
    else s.modAng (fun a => { a with deadBand := true })

/-- The direction that an edge shows: the level of ANGB where DIRIN = 1, else forward (R178). -/
def seenBackward (s : State) (angb : Bool) : Bool := s.flag .ANG_CFG_DIRIN && angb

/-- A level that has been stable for some core clocks passes the filter (R173). -/
def State.passesFilter (s : State) (stable : Nat) : Bool := decide (s.filterClocks ≤ stable)

/-- An edge of ANGI marks an event: the one that EDGE selects, and the opposite one in backward motion (R173, R178). -/
def marksEvent (s : State) (e : AngleEdge) : Bool := (e.rising != seenBackward s e.angb) == !s.flag .ANG_CFG_EDGE

/-- An edge is an event of the local mode m: the unit runs in that mode, and the edge passes the filter and is one that marks. -/
def State.takesEdge (s : State) (m : Nat) (e : AngleEdge) : Bool :=
  s.localAngle && s.angMode == m && s.isActive && s.passesFilter e.stable && marksEvent s e

/-- INDEX_EDGE (R175). -/
def indexEdge (e : AngleEdge) (s : State) : State :=
  if !s.takesEdge amIndex e then s
  else
    let since := s.ang.lastEvent.map (fun t => s.eventTime - t)
    let early := match since, s.ang.interval with | some d, some p => decide (2 * d < p) | _, _ => false
    let late := match since, s.ang.interval with | some d, some p => decide (2 * p < d) | _, _ => false
    if early then implausible 1 s
    else
      let s := if late then implausible 2 s else s
      let resync := !s.flag .ANG_STAT_SYNC
      let s := timeEvent 1 1 s
      let sub := resync && s.flag .ANG_STAT_SUBST
      let s := if resync then endLoss s else s
      eventAngle s.zero32 s.zero32 rev32 (seenBackward s e.angb) sub s

def execIndexEdge (e : AngleEdge) (s : State) : Host.Outcome State Fault Refusal := .next (indexEdge e s)

/-- An interval is the gap (R176): more than 1.5 times, or with two missing teeth 2.0 times, the mean of the two before. -/
def isGap (miss ival : Nat) (h : List Nat) : Bool :=
  match h with
  | a :: b :: _ => if miss = 2 then decide (a + b < ival) else decide (3 * (a + b) < 4 * ival)
  | _ => false

/-- The angle of event k of `per` in a revolution from ANG.ZERO on (R176, R179). -/
def State.placeOf (s : State) (per k : Nat) : Nat := (s.zero32 + k * rev32 / per) % rev32

/-- Tooth k gives the angle: the next tooth in the direction of motion follows, across the gap where it is at an end (R176). -/
def toothAngle (k : Nat) (back resync : Bool) (s : State) : State :=
  let n := max 1 (s.fld .ANG_TEETH_N)
  let miss := s.fld .ANG_TEETH_MISS
  let teeth := n - miss
  let atGap : Bool := if back then k == 0 else k + 1 == teeth
  let next := if back then (if atGap then teeth - 1 else k - 1) else if atGap then 0 else k + 1
  let units := if atGap then miss + 1 else 1
  eventAngle (s.placeOf n k) (s.placeOf n next) (units * (rev32 / n)) back resync (s.modAng (fun a => { a with tooth := some k }))

/-- TOOTH_EDGE (R176 to R178). -/
def toothEdge (e : AngleEdge) (s : State) : State :=
  if !s.takesEdge amTooth e then s
  else
    let miss := s.fld .ANG_TEETH_MISS
    let n := max 1 (s.fld .ANG_TEETH_N)
    let teeth := n - miss
    let ival := s.ang.lastEvent.map (fun t => s.eventTime - t)
    let gap := match ival with | some d => isGap miss d s.ang.history | none => false
    let units := if gap then miss + 1 else 1
    let late := match ival, s.ang.interval with | some d, some p => decide (2 * p < d / units) | _, _ => false
    let s := if late then implausible 2 s else s
    let s := timeEvent units n s
    let s := match ival with
      | some d => s.modAng (fun a => { a with history := (d :: a.history).take teeth })
      | none => s
    let back := seenBackward s e.angb
    let turned := back != s.angDir
    let old := s.ang.tooth
    if gap then
      let good : Bool := match old with
        | some k => if back then k == 0 else k + 1 == teeth
        | none => false
      let k := if back then teeth - 1 else 0
      if good then
        let resync := !s.flag .ANG_STAT_SYNC
        let sub := resync && s.flag .ANG_STAT_SUBST
        toothAngle k back sub (if resync then endLoss s else s)
      else
        let s := s.modAng (fun a => { a with tooth := some k })
        if s.flag .ANG_STAT_SYNC then declareLoss (implausible 3 s) else s
    else match old with
      | none => s
      | some j =>
        let k := if turned then j else if back then j - 1 else j + 1
        if s.flag .ANG_STAT_SYNC then toothAngle k back false s else s.modAng (fun a => { a with tooth := some k })

def execToothEdge (e : AngleEdge) (s : State) : Host.Outcome State Fault Refusal := .next (toothEdge e s)

/-- The place of a pair of levels in the forward order 00, 10, 11, 01 of (ANGA, ANGB) (R179). -/
def grayPlace (a b : Bool) : Nat := match a, b with
  | false, false => 0
  | true, false => 1
  | true, true => 2
  | false, true => 3

/-- The speed in QUAD: over the most recent span of whole count intervals of at least 256 µs, else over the last count
interval (R170). -/
def quadSpeed (times : List Nat) : Option (Nat × Nat) :=
  match times with
  | now :: _ =>
    let k := times.findIdx (fun t => decide (4195 ≤ now - t))
    if k < times.length then some (k, now - nth 0 times k) else none
  | [] => none

/-- A speed of k counts in d core clocks, in Q16.16. -/
def State.countSpeed (s : State) (k d : Nat) : Nat := k * 65536 * coreHz / (s.quadCounts * d)

/-- A count's time enters the span; the speed and the interpolation follow (R170, R174). An interval beyond the counter, or one
with which the speed is above 60,000 rpm, is reported and not used (R187). -/
def quadTime (s : State) : State :=
  let te := s.eventTime
  let times := te :: s.ang.quadTimes
  let sp := quadSpeed times
  let last := match s.ang.lastEvent with | some t => te - t | none => 0
  let beyond := decide (68719476736 ≤ last) || (match sp with | some (k, d) => decide (65536000 < s.countSpeed k d) | none => false)
  let s := s.modAng (fun a => { a with lastEvent := some te, events := a.events + 1, pitch := rev32 / s.quadCounts })
  if beyond then implausible 7 (s.modAng (fun a => { a with quadTimes := [te] }))
  else
    let keep := match sp with | some (k, _) => times.take (k + 1) | none => times
    let s := s.modAng (fun a => { a with quadTimes := keep, prevInterval := a.interval
                                         interval := if last = 0 then none else some last })
    if s.flag .ANG_STAT_SUBST then s
    else
      let s := s.when (last != 0) (fun t => t.modAng (fun a => { a with atimePend := false }))
      resumeRate (match sp with
        | some (k, d) =>
          let q := s.countSpeed k d
          if 109 ≤ q then setSpeed q ((s.setFlag .ANG_STAT_STOP false).modAng (fun a => { a with speedQ := q }))
          else stopSpeed s
        | none => s)

/-- Count c gives the angle: the next count in the direction of motion follows (R179). -/
def countAngle (c : Nat) (back resync : Bool) (s : State) : State :=
  let total := s.quadCounts
  let next := if back then (c + total - 1) % total else (c + 1) % total
  eventAngle (s.placeOf total c) (s.placeOf total next) (rev32 / total) back resync
    (s.modAng (fun x => { x with quadCount := c }))

/-- The level of an input behind its filter: one that has not been stable long enough leaves it as it was (R173). -/
def State.filtered (s : State) (l : AngleLevel) (was : Bool) : Bool := if s.passesFilter l.stable then l.high else was

/-- QUAD_COUNT (R179, R180): new levels of ANGA, ANGB and ANGI. The count of an index is set to ANG.ZERO. -/
def quadCount (la lb li : AngleLevel) (s : State) : State :=
  let g := s.ang
  let a := s.filtered la g.quadA
  let b := s.filtered lb g.quadB
  let i := s.filtered li g.quadI
  let rise := g.quadRise || (i && !g.quadI)
  let s := s.modAng (fun x => { x with quadA := a, quadB := b, quadI := i, quadRise := rise })
  if !s.localAngle || s.angMode != amQuad || !s.isActive then s
  else if g.quadA != a && g.quadB != b then implausible 4 s
  else if g.quadA = a && g.quadB = b then s
  else
    let back := (grayPlace g.quadA g.quadB + 1) % 4 != grayPlace a b
    let total := s.quadCounts
    let c := if back then (g.quadCount + total - 1) % total else (g.quadCount + 1) % total
    let index := s.flag .ANG_CFG_QIDX && i && rise
    let s := quadTime s
    let s := if index then s.modAng (fun x => { x with quadRise := false }) else s
    if !s.flag .ANG_STAT_SYNC then
      if s.flag .ANG_CFG_QIDX && !index then s
      else
        let sub := s.flag .ANG_STAT_SUBST
        countAngle 0 back sub ((endLoss s).setFlag .ANG_STAT_NOREF (!s.flag .ANG_CFG_QIDX))
    else if index then countAngle 0 back false (if 1 < c && c + 1 < total then implausible 5 s else s)
    else countAngle c back false s

def execQuadCount (a b i : AngleLevel) (s : State) : Host.Outcome State Fault Refusal := .next (quadCount a b i s)

/-- An interval within 14.29 ms to 25.0 ms, that is 40 Hz to 70 Hz (R182). -/
def mainsGood (d : Nat) : Bool := decide (coreHz ≤ 70 * d) && decide (40 * d ≤ coreHz)

/-- MAINS_CROSSING (R182): accepted, filtered, or a candidate while the base is in loss. There is no reversal (R191). -/
def mainsCrossing (s : State) : State :=
  if !s.localAngle || s.angMode != amMains || !s.isActive then s
  else if s.flag .ANG_STAT_SYNC then
    let d := s.now - s.ang.lastEvent.getD 0
    if decide (2 * d < s.ang.interval.getD 0) then s
    else if !mainsGood d then implausible 6 s
    else eventAngle s.zero32 s.zero32 rev32 s.angDir false (timeEvent 1 1 s)
  else
    match s.ang.mainsCand with
    | none => s.modAng (fun a => { a with mainsCand := some s.now })
    | some c =>
      if decide (140 * (s.now - c) < coreHz) then s
      else if !mainsGood (s.now - c) then s.modAng (fun a => { a with mainsCand := some s.now })
      else
        let s := s.modAng (fun a => { a with mainsCand := none, lastEvent := some c, skip := false })
        let sub := s.flag .ANG_STAT_SUBST
        let s := timeEvent 1 1 (endLoss s)
        eventAngle s.zero32 s.zero32 rev32 s.angDir sub (s.modAng (fun a => { a with atimePend := false }))

def execMainsCrossing (s : State) : Host.Outcome State Fault Refusal := .next (mainsCrossing s)

/-! ### Beacons (R199, R200) -/

/-- BEACON_LOSS (R199): the record and the fallback that ANG.CFG.SRC gives. -/
def beaconLoss (s : State) : State :=
  if s.angSrc = 0 || s.flag .ANG_STAT_BCNLOSS || !s.isActive then s
  else
    let s := mkRecord 0x181 clsNote [s.fld .ANG_BCN_HEAD, s.angSrc] s
    let s := ((s.setFlag .ANG_STAT_BCNLOSS true).setFlag .ANG_STAT_LOSSEV true).setFlag .ANG_STAT_BCN false
    let s := s.setFld .ANG_BCN_HEAD 0
    if s.angSrc = 1 then
      let s := showSubst (showLoss s)
      match s.ang.beacon with
      | some b => runRate (b.speed * 65536) coreHz b.speed s
      | none => runTime s.tperClocks s
    else startLocal s

def execBeaconLoss (s : State) : Host.Outcome State Fault Refusal := .next (beaconLoss s)

/-- The true angle of a beacon at this unit, in ticks (R200). -/
def beaconTrue (s : State) (b : Beacon) : Nat :=
  let corr := (b.speed * s.regN Reg.ANG_HOPDLY + coreHz / 2) / coreHz
  if b.dir then (b.pos + 65536 - corr % 65536) % 65536 else (b.pos + corr) % 65536

/-- A beacon is applied to the angle base (R200): correction, speed, direction, pass count and the head's states. -/
def applyBeacon (b : Beacon) (head : Nat) (s : State) : State :=
  if s.angSrc = 0 || !s.isActive then s
  else
    let resync := s.flag .ANG_STAT_SUBST && !b.loss
    let s := s.modAng (fun a => { a with beacon := some b, lastBeacon := s.now, expected := none, deadBand := false
                                         speedQ := b.speed, den := coreHz, rem := 0
                                         num := if b.speed < 109 then 0 else b.speed * 65536 })
    let s := (((s.setFlag .ANG_STAT_BCN true).setFlag .ANG_STAT_BCNLOSS false).setFld .ANG_BCN_HEAD head).setFld
      .ANG_STAT_ACTMODE amBeacon
    let s := ((s.setFlag .ANG_STAT_SYNC b.sync).setFlag .ANG_STAT_LOSS b.loss).setFlag .ANG_STAT_SUBST b.subst
    let s := if b.dir != s.angDir then
        endAngleWindows ((s.setFlag .ANG_STAT_DIR b.dir).setFlag .ANG_STAT_REVEV true)
      else s
    let s := correctTo (beaconTrue s b * 65536) resync s
    let s := s.setReg32 Reg.ANG_PASS b.pass
    let s := s.setFlag .ANG_STAT_STOP (b.speed < 109)
    let s := setSpeed (if b.speed < 109 then 0 else b.speed) s
    if b.hold then holdAngle s else s

/-! ### Changing the configuration (R202) -/

/-- The changes that restart synchronisation: MODE, SRC, EDGE, FILT, QIDX, DIRIN, TEETH and LINES. -/
def angleRestart (old new : Nat → Word) : Bool :=
  (old Reg.ANG_CFG &&& 0xFBE0) != (new Reg.ANG_CFG &&& 0xFBE0) || old Reg.ANG_TEETH != new Reg.ANG_TEETH
  || old Reg.ANG_LINES != new Reg.ANG_LINES

/-- A change of LOSS acts on a loss that lasts (R202): of a local mode, or of the wait for the first beacon (R193). -/
def lossChanged (s : State) : State :=
  if !s.flag .ANG_STAT_LOSS || !s.isActive || !(s.localAngle || (s.ang.beacon.isNone && !s.flag .ANG_STAT_BCNLOSS)) then s
  else if s.flag .ANG_CFG_LOSS then substitute (if s.localAngle then s.revPeriod else s.tperClocks) s
  else
    let s := (s.setFlag .ANG_STAT_SUBST false).setFld .ANG_STAT_ACTMODE (if s.localAngle then s.angMode else amBeacon)
    let s := match s.ang.interval with
      | some n => s.modAng (fun a => { a with speedQ := 65536 * coreHz / (n * s.eventsPerRev) })
      | none => stopSpeed s
    holdAngle s

/-- ANG.POS steps with a change of ANG.ZERO, which is no crossing (R202). -/
def zeroStep (z : Nat) (s : State) : State :=
  if z = 0 then s
  else (s.setRegN Reg.ANG_POS (s.angPos + z)).modAng (fun a => { a with
    acc := (a.acc + z * 65536) % rev32, expected := a.expected.map (fun e => (e + z * 65536) % rev32) })

/-- The angle base meets a commit (R202): `old` reads the words in force before C. A restart leaves ANG.POS as it is (log
entry 23). -/
def angleCommit (old : Nat → Word) (s : State) : State :=
  if angleRestart old s.reg then
    startSync (if s.flag .ANG_CFG_LOSS then markAtime s else endAngleWindows s)
  else
    let s := zeroStep ((s.regN Reg.ANG_ZERO + 65536 - (old Reg.ANG_ZERO).toNat) % 65536) s
    let s := if (old Reg.ANG_CFG).getLsbD (Fld.ANG_CFG_LOSS).lo != s.flag .ANG_CFG_LOSS then lossChanged s else s
    if s.angMode = amTime && s.localAngle && old Reg.ANG_TPER != s.reg Reg.ANG_TPER then runTime s.tperClocks s else s

end Sys2Proof.Machine
end

