-- ==== Sys2Proof/Machine/Float.lean ====
section
/-! DEFINITION. IEEE 754 binary32 arithmetic as R405 limits it: round to nearest, ties to even, subnormal operands and
results taken as zero of the same sign. A value is its 32 bits as a number; exact results are fractions. -/

namespace Sys2Proof.Machine

/-- A fraction with a positive denominator. -/
structure Frac where
  n : Int
  d : Nat
deriving DecidableEq, Repr

def Frac.add (a b : Frac) : Frac := ⟨a.n * b.d + b.n * a.d, a.d * b.d⟩
def Frac.neg (a : Frac) : Frac := ⟨-a.n, a.d⟩
def Frac.mul (a b : Frac) : Frac := ⟨a.n * b.n, a.d * b.d⟩
def Frac.le (a b : Frac) : Bool := decide (a.n * b.d ≤ b.n * a.d)
def Frac.ofInt (i : Int) : Frac := ⟨i, 1⟩

/-! ### Fields of a binary32 -/

def fSign (x : Nat) : Bool := x.testBit 31
def fExp (x : Nat) : Nat := x / 8388608 % 256
def fMan (x : Nat) : Nat := x % 8388608
def fNeg (x : Nat) : Nat := if fSign x then x - 2147483648 else x + 2147483648
def fFinite (x : Nat) : Bool := fExp x != 255
def fNan (x : Nat) : Bool := fExp x == 255 && fMan x != 0
def fInf (x : Nat) : Bool := fExp x == 255 && fMan x == 0

/-- Zero, subnormals taken as zero. -/
def fZero (x : Nat) : Bool := fExp x == 0

/-- A subnormal is taken as zero of its sign (R405). -/
def fFlush (x : Nat) : Nat := if fZero x then (if fSign x then 0x80000000 else 0) else x

def fNanBits : Nat := 0x7FC00000
def fInfBits (neg : Bool) : Nat := if neg then 0xFF800000 else 0x7F800000
def fZeroBits (neg : Bool) : Nat := if neg then 0x80000000 else 0

/-- The exact value of a finite binary32. -/
def fVal (x : Nat) : Frac :=
  if fZero x then ⟨0, 1⟩
  else
    let m : Int := 8388608 + fMan x
    let m := if fSign x then -m else m
    if 150 ≤ fExp x then ⟨m * 2 ^ (fExp x - 150), 1⟩ else ⟨m, 2 ^ (150 - fExp x)⟩

/-- n/d rounded to an integer, ties to even. -/
def rneDiv (n d : Nat) : Nat :=
  let q := n / d
  let r := n % d
  if 2 * r < d then q else if d < 2 * r then q + 1 else q + q % 2

/-- a/d scaled by 2^e and rounded, ties to even. -/
def rneScaled (a d : Nat) (e : Int) : Nat :=
  if 0 ≤ e then rneDiv (a * 2 ^ e.toNat) d else rneDiv a (d * 2 ^ (-e).toNat)

/-- floor(log2(a/d)) for a > 0. -/
def fracLog2 (a d : Nat) : Int :=
  let e : Int := (Nat.log2 a : Int) - Nat.log2 d
  let below := if 0 ≤ e then decide (a < d * 2 ^ e.toNat) else decide (a * 2 ^ (-e).toNat < d)
  if below then e - 1 else e

/-- The binary32 nearest to a fraction; `neg` is the sign of a zero result. -/
def fRound (neg : Bool) (x : Frac) : Nat :=
  if x.n = 0 then fZeroBits neg
  else
    let s := decide (x.n < 0)
    let a := x.n.natAbs
    let e := fracLog2 a x.d
    let q := rneScaled a x.d (23 - e)
    let (q, e) := if q = 16777216 then (8388608, e + 1) else (q, e)
    if e < -126 then fZeroBits s
    else if 127 < e then fInfBits s
    else fZeroBits s + (e + 127).toNat * 8388608 + (q - 8388608)

/-- The binary32 nearest to an integer over a power or product. -/
def fOf (n : Int) (d : Nat) : Nat := fRound (decide (n < 0)) ⟨n, d⟩

/-! ### Operations -/

def fAdd (x y : Nat) : Nat :=
  if fNan x || fNan y then fNanBits
  else if fInf x then (if fInf y && fSign x != fSign y then fNanBits else x)
  else if fInf y then y
  else fRound (fZero x && fZero y && fSign x && fSign y) ((fVal x).add (fVal y))

def fSub (x y : Nat) : Nat := fAdd x (fNeg y)

def fMul (x y : Nat) : Nat :=
  let s := fSign x != fSign y
  if fNan x || fNan y then fNanBits
  else if fInf x || fInf y then (if fZero x || fZero y then fNanBits else fInfBits s)
  else fRound s ((fVal x).mul (fVal y))

def fDiv (x y : Nat) : Nat :=
  let s := fSign x != fSign y
  if fNan x || fNan y || (fInf x && fInf y) || (fZero x && fZero y) then fNanBits
  else if fInf x || fZero y then fInfBits s
  else if fInf y then fZeroBits s
  else
    let a := fVal x
    let b := fVal y
    fRound s ⟨(if b.n < 0 then -1 else 1) * a.n * b.d, a.d * b.n.natAbs⟩

/-- The largest integer whose square is at most n, found from bit `k - 1` downward. -/
def isqrt (n : Nat) : Nat → Nat → Nat
  | 0, r => r
  | k + 1, r => isqrt n k (if (r + 2 ^ k) * (r + 2 ^ k) ≤ n then r + 2 ^ k else r)

/-- The square root, rounded to nearest: the root of the significand scaled by 2^40, and a sticky bit, decide. -/
def fSqrt (x : Nat) : Nat :=
  if fNan x then fNanBits
  else if fZero x then fZeroBits (fSign x)
  else if fSign x then fNanBits
  else if fInf x then x
  else
    let p := fExp x / 2
    let n := (8388608 + fMan x) * 2 ^ (fExp x % 2) * 2 ^ 40
    let r := isqrt n 33 0
    let t := 2 * r + (if r * r = n then 0 else 1)
    fRound false (if 96 ≤ p then ⟨(t * 2 ^ (p - 96) : Nat), 1⟩ else ⟨(t : Nat), 2 ^ (96 - p)⟩)

/-- x < y; false where either is a NaN. -/
def fLt (x y : Nat) : Bool :=
  if fNan x || fNan y then false
  else if fInf x then fSign x && !(fInf y && fSign y)
  else if fInf y then !fSign y
  else decide ((fVal x).n * (fVal y).d < (fVal y).n * (fVal x).d)

def fLe (x y : Nat) : Bool := !fNan x && !fNan y && !fLt y x
def fMin (x y : Nat) : Nat := if fLt y x then y else x
def fMax (x y : Nat) : Nat := if fLt x y then y else x

end Sys2Proof.Machine
end

