-- ==== Sys2Proof/Machine/Thermo.lean ====
section
/-! DEFINITION. The reference functions of the thermocouple types that R411 names by IEC 60584-1: the electromotive force in mV
at a temperature in °C, in pieces of polynomials with coefficients (m, k) that stand for m × 10^−k, from the constant term
upward. The coefficients are the standard's own; the manual does not print them (PRESUMED, log entry 4). -/

namespace Sys2Proof.Machine

/-- Type B: each piece with its upper end in 1/1,000 °C. -/
def typeB : List (Int × List (Int × Nat)) :=
  [(630615, [
     (0, 0), (-24650818346, 14), (59040421171, 16), (-13257931636, 19), (15668291901, 22), (-1694452924, 24),
     (62990347094, 29)]),
   (1820000, [
     (-38938168621, 10), (2857174747, 11), (-84885104785, 15), (15785280164, 17), (-16835344864, 20),
     (11109794013, 23), (-44515431033, 27), (98975640821, 31), (-93791330289, 35)])]

/-- Type E: each piece with its upper end in 1/1,000 °C. -/
def typeE : List (Int × List (Int × Nat)) :=
  [(0, [
     (0, 0), (58665508708, 12), (45410977124, 15), (-77998048686, 17), (-25800160843, 18), (-59452583057, 20),
     (-93214058667, 22), (-10287605534, 23), (-80370123621, 26), (-43979497391, 28), (-16414776355, 30),
     (-39673619516, 33), (-55827328721, 36), (-34657842013, 39)]),
   (1000000, [
     (0, 0), (5866550871, 11), (45032275582, 15), (28908407212, 18), (-33056896652, 20), (6502440327, 22),
     (-19197495504, 26), (-12536600497, 28), (21489217569, 31), (-14388041782, 34), (35960899481, 38)])]

/-- Type J: each piece with its upper end in 1/1,000 °C. -/
def typeJ : List (Int × List (Int × Nat)) :=
  [(760000, [
     (0, 0), (50381187815, 12), (3047583693, 14), (-8568106572, 17), (13228195295, 20), (-17052958337, 23),
     (20948090697, 26), (-12538395336, 29), (15631725697, 33)]),
   (1200000, [
     (29645625681, 8), (-14976127786, 10), (31787103924, 13), (-31847686701, 16), (15720819004, 19),
     (-30691369056, 23)])]

/-- Type K: each piece with its upper end in 1/1,000 °C. -/
def typeK : List (Int × List (Int × Nat)) :=
  [(0, [
     (0, 0), (39450128025, 12), (23622373598, 15), (-32858906784, 17), (-49904828777, 19), (-67509059173, 21),
     (-57410327428, 23), (-31088872894, 25), (-10451609365, 27), (-19889266878, 30), (-16322697486, 33)]),
   (1372000, [
     (-17600413686, 12), (38921204975, 12), (18558770032, 15), (-99457592874, 18), (31840945719, 20),
     (-56072844889, 23), (56075059059, 26), (-32020720003, 29), (97151147152, 33), (-12104721275, 36)])]

/-- Type N: each piece with its upper end in 1/1,000 °C. -/
def typeN : List (Int × List (Int × Nat)) :=
  [(0, [
     (0, 0), (26159105962, 12), (10957484228, 15), (-93841111554, 18), (-46412039759, 21), (-26303357716, 22),
     (-22653438003, 24), (-76089300791, 27), (-93419667835, 30)]),
   (1300000, [
     (0, 0), (25929394601, 12), (1571014188, 14), (43825627237, 18), (-25261169794, 20), (64311819339, 23),
     (-10063471519, 25), (99745338992, 29), (-60863245607, 32), (20849229339, 35), (-30682196151, 39)])]

/-- Type R: each piece with its upper end in 1/1,000 °C. -/
def typeR : List (Int × List (Int × Nat)) :=
  [(1064180, [
     (0, 0), (528961729765, 14), (139166589782, 16), (-238855693017, 19), (356916001063, 22), (-462347666298, 25),
     (500777441034, 28), (-373105886191, 31), (157716482367, 34), (-281038625251, 38)]),
   (1664500, [
     (295157925316, 11), (-252061251332, 14), (159564501865, 16), (-764085947576, 20), (205305291024, 23),
     (-293359668173, 27)]),
   (1768100, [
     (152232118209, 9), (-268819888545, 12), (171280280471, 15), (-345895706453, 19), (-934633971046, 26)])]

/-- Type S: each piece with its upper end in 1/1,000 °C. -/
def typeS : List (Int × List (Int × Nat)) :=
  [(1064180, [
     (0, 0), (540313308631, 14), (12593428974, 15), (-232477968689, 19), (322028823036, 22), (-331465196389, 25),
     (255744251786, 28), (-125068871393, 31), (271443176145, 35)]),
   (1664500, [
     (132900444085, 11), (334509311344, 14), (654805192818, 17), (-164856259209, 20), (129989605174, 25)]),
   (1768100, [
     (146628232636, 9), (-258430516752, 12), (163693574641, 15), (-330439046987, 19), (-943223690612, 26)])]

/-- Type T: each piece with its upper end in 1/1,000 °C. -/
def typeT : List (Int × List (Int × Nat)) :=
  [(0, [
     (0, 0), (38748106364, 12), (44194434347, 15), (11844323105, 17), (20032973554, 18), (90138019559, 20),
     (22651156593, 21), (36071154205, 23), (38493939883, 25), (28213521925, 27), (14251594779, 29),
     (48768662286, 32), (1079553927, 33), (13945027062, 37), (79795153927, 41)]),
   (400000, [
     (0, 0), (38748106364, 12), (3329222788, 14), (20618243404, 17), (-21882256846, 19), (10996880928, 21),
     (-30815758772, 24), (4547913529, 26), (-27512901673, 30)])]

/-- The pieces of a sensor code of R411. -/
def tcPieces (code : Nat) : List (Int × List (Int × Nat)) :=
  match code with
  | 1 => typeB
  | 2 => typeE
  | 3 => typeJ
  | 4 => typeK
  | 5 => typeN
  | 6 => typeR
  | 7 => typeS
  | _ => typeT

/-- A polynomial at a fraction, exact: its coefficients in units of 10^−60. -/
def polyAt (cs : List (Int × Nat)) (t : Frac) : Frac :=
  let r := cs.reverse.foldl (fun (acc : Int × Nat) c => (acc.1 * t.n + c.1 * 10 ^ (60 - c.2) * acc.2, acc.2 * t.d)) ((0 : Int), 1)
  ⟨r.1 * t.d, 10 ^ 60 * r.2⟩

/-- e^(−n/d) in units of 2^−200: the argument is divided by 256, 40 terms are summed, and the sum squared 8 times. -/
def expNeg (n d : Nat) : Nat :=
  if 90 * d ≤ n then 0
  else
    let one := 2 ^ 200
    let x := n * one / (d * 256)
    let terms := (List.range 40).foldl (fun (acc : Nat × Nat × Nat) k =>
      let t := acc.2.2 * x / (one * (k + 1))
      if k % 2 = 0 then (acc.1, acc.2.1 + t, t) else (acc.1 + t, acc.2.1, t)) (one, 0, one)
    Nat.repeat (fun v => v * v / one) 8 (terms.1 - terms.2.1)

/-- The exponential term of type K at 0 °C and above: 0.1185976 × e^(−0.0001183432 × (t − 126.9686)²) mV. -/
def typeKTerm (t : Frac) : Frac :=
  let x := t.n * 10000 - 1269686 * t.d
  ⟨1185976 * expNeg (1183432 * (x * x).toNat) (10 ^ 10 * (10000 * t.d) ^ 2), 10000000 * 2 ^ 200⟩

/-- The electromotive force in mV of a sensor code at a temperature. -/
def tcEmf (code : Nat) (t : Frac) : Frac :=
  let ps := tcPieces code
  let piece := (ps.find? (fun p => decide (t.n * 1000 ≤ p.1 * t.d))).getD (ps.getLastD (0, []))
  let e := polyAt piece.2 t
  if code = 4 && 0 < t.n then e.add (typeKTerm t) else e

end Sys2Proof.Machine
end

