-- ==== Sys2Proof/Machine/Engine.lean ====
section
/-! DEFINITION. The loop value engines (11): the stages of a value program, a cycle from its start to its delivery, hold
and alarm, the characterisation tables, and the twin copies. -/

namespace Sys2Proof.Machine

/-! ### Programs (R406, R407) -/

def opEnd : Nat := 0
def opSrc : Nat := 1
def opComb : Nat := 2
def opPoly : Nat := 3
def opLin : Nat := 4
def opTable : Nat := 5
def opSqrt : Nat := 6
def opDamp : Nat := 7
def opRate : Nat := 8
def opRange : Nat := 9
def opClamp : Nat := 10
def opAlarm : Nat := 11
def opFixed : Nat := 12

/-- The sixteen words of stage k of engine n's active program. -/
def State.stageWords (s : State) (n k : Nat) : List Word := readRun zeroWord s.tab.valprog (16 * (16 * n + k)) 16

def stOp (e : List Word) : Nat := getField (ew e 0) 12 4
def stA (e : List Word) : Nat := getField (ew e 0) 9 3
def stB (e : List Word) : Nat := getField (ew e 0) 6 3
def stNoat (e : List Word) : Bool := (ew e 0).getLsbD 5
def stOpnd (e : List Word) : Word := ew e 1

/-- Parameter i as a binary32. -/
def stP (e : List Word) (i : Nat) : Nat := (ew e (2 + 2 * i)).toNat + 65536 * (ew e (3 + 2 * i)).toNat

/-- The stages of a program before its first END, from its sixteen stage entries. -/
def untilEnd (ws : Nat → List Word) : List (List Word) := ((List.range 16).map ws).takeWhile (fun e => stOp e != opEnd)

/-- The stages before the first END of engine n's active program. -/
def State.liveStages (s : State) (n : Nat) : List (List Word) := untilEnd (s.stageWords n)

/-- Their stage codes. -/
def State.stageOps (s : State) (n : Nat) : List Nat := (s.liveStages n).map stOp

/-! ### CHAR tables (R423 to R426) -/

/-- What a CHAR word reads as with no image: zeros, and the check word that zeros give (R424). -/
def charDefault (k : Nat) : Word := if k % 136 = 3 then 0x999C else 0

/-- Word w of entry cur of a CHAR bank. -/
def charW (bank : List (Nat × Word)) (cur w : Nat) : Word := readAt charDefault bank (4 * cur + w)

/-- The check word of table t: header words 0 to 2 and the points' 132 words. -/
def charCrc (bank : List (Nat × Word)) (t : Nat) : Word :=
  crc16 (bytesOfWords (readRun charDefault bank (136 * t) 3 ++ readRun charDefault bank (136 * t + 4) 132))

/-- Table t of a bank passes its check. -/
def charOk (bank : List (Nat × Word)) (t : Nat) : Bool := charCrc bank t == charW bank (34 * t) 3

/-- A program names table t. -/
def State.charNames (s : State) (n t : Nat) : Bool :=
  (s.liveStages n).any (fun e => stOp e == opTable && getField (stOpnd e) 0 4 == t)

/-- VAL.STAT.CHARFB of every engine (R426). -/
def showCharFb (s : State) : State :=
  forEach 6 (fun n u => u.setFlag (.VAL_STAT_CHARFB n) (s.tab.charBad.any (s.charNames n))) s

/-- An active table fails its check: it is in fallback until a swap, with one record (R426). -/
def failTable (t : Nat) (s : State) : State :=
  if s.tab.charBad.contains t then s
  else showCharFb (mkRecord 0x203 clsNote [t] { s with tab := { s.tab with charBad := s.tab.charBad ++ [t] } })

/-- CHAR_SCRUB (R426). -/
def charScrub (t : Nat) (s : State) : State := if charOk s.tab.char t then s else failTable t s

def execCharScrub (t : Nat) (s : State) : Host.Outcome State Fault Refusal := answerIf (t < 12) (charScrub t s)

/-! ### The stage functions (R409 to R418) -/

/-- A value the manual leaves free within a bound: the draw, where it satisfies the bound, else the nearest value. -/
def drawWithin (free : Nat) (ok : Nat → Bool) (nearest : Nat) : Nat :=
  let c := (Config.freeBits free).toNat % 4294967296
  if fFinite c && ok c then c else nearest

/-- c lies within 2 units in the last place of a value given in units of 2^−200 (R405). -/
def withinTwoUlp (v c : Nat) : Bool :=
  let x := fVal c
  decide ((x.n * 2 ^ 200 - v * x.d).natAbs ≤ 2 * 2 ^ (Nat.log2 v - 23) * x.d)

/-- DAMP (R414) from a state y and a running time of `dt` core clocks. -/
def dampStage (y a tau dt free : Nat) : Nat :=
  let t := fVal tau
  if fZero tau then a
  else
    let v := expNeg (dt * t.d) (t.n.natAbs * 16384000)
    let e := drawWithin free (withinTwoUlp v) (fOf v (2 ^ 200))
    fAdd y (fMul (fSub a y) (fSub 0x3F800000 e))

/-- RATE (R415): a limit of 0 leaves its direction unlimited. -/
def rateStage (y a up dn dt : Nat) : Nat :=
  let t := fOf dt 16384000
  let d := fSub a y
  let d := if fZero dn then d else fMax d (fNeg (fMul dn t))
  let d := if fZero up then d else fMin d (fMul up t)
  fAdd y d

/-- The standard coefficients of R411, and the part's own where any is not 0. -/
def cvdCoeffs (p : List Word) : Frac × Frac × Frac :=
  if fZero (stP p 1) && fZero (stP p 2) && fZero (stP p 3) then
    (⟨39083, 10000000⟩, ⟨-5775, 10000000000⟩, ⟨-4183, 1000000000000000⟩)
  else (fVal (stP p 1), fVal (stP p 2), fVal (stP p 3))

/-- The Callendar–Van Dusen resistance at a temperature. -/
def cvd (rnom : Frac) (k : Frac × Frac × Frac) (t : Frac) : Frac :=
  let t2 := t.mul t
  let low := if t.n < 0 then (k.2.2.mul (t2.mul t)).mul (t.add (Frac.ofInt (-100))) else ⟨0, 1⟩
  rnom.mul ((((Frac.ofInt 1).add (k.1.mul t)).add (k.2.1.mul t2)).add low)

/-- The largest k in [lo, lo + 2^bits) that satisfies a predicate true at lo and falling off once. -/
def bisect (p : Int → Bool) : Nat → Int → Int
  | 0, lo => lo
  | b + 1, lo => bisect p b (if p (lo + 2 ^ b) then lo + 2 ^ b else lo)

/-- The RTD function of R411: none outside its range; else a temperature whose resistance equals the input within
0.002 °C. -/
def rtd (p : List Word) (a free : Nat) : Option Nat :=
  let rnom := fVal (stP p 0)
  let k := cvdCoeffs p
  let r := fVal a
  let at_ := fun (t : Frac) => cvd rnom k t
  if !(at_ ⟨-200, 1⟩).le r || !r.le (at_ ⟨850, 1⟩) then none
  else
    let top : Int := 850 * 1048576
    let t := bisect (fun i => decide (i ≤ top) && (at_ ⟨i, 1048576⟩).le r) 31 (-200 * 1048576)
    let near := fun (c : Nat) =>
      let v := fVal c
      (at_ (v.add ⟨-1, 500⟩)).le r && r.le (at_ (v.add ⟨1, 500⟩))
        && (Frac.ofInt (-200)).le v && v.le (Frac.ofInt 850)
    some (drawWithin free near (fOf t 1048576))

/-- The output range of a sensor code in °C (R411). -/
def tcRange (code : Nat) : Int × Int :=
  match code with
  | 1 => (250, 1820)
  | 2 => (-270, 1000)
  | 3 => (-210, 1200)
  | 4 => (-270, 1372)
  | 5 => (-270, 1300)
  | 6 => (-50, 1768)
  | 7 => (-50, 1768)
  | _ => (-270, 400)

/-- The thermocouple function of R411: none outside a range; else a temperature within 0.01 °C of the one whose voltage is the
input plus that of the cold junction. -/
def thermocouple (code a tcj free : Nat) : Option Nat :=
  let (lo, hi) := tcRange code
  let cj := fVal tcj
  if !(Frac.ofInt (-50)).le cj || !cj.le (Frac.ofInt 150) then none
  else
    let v := (fVal a).add (tcEmf code cj)
    let above := fun (t : Frac) => (tcEmf code t).le v
    if !above (Frac.ofInt lo) || !v.le (tcEmf code (Frac.ofInt hi)) then none
    else
      let t := bisect (fun i => decide (i ≤ hi * 1000) && above ⟨i, 1000⟩) 22 (lo * 1000)
      let near := fun (c : Nat) =>
        let x := fVal c
        above (x.add ⟨-1, 100⟩) && v.le (tcEmf code (x.add ⟨1, 100⟩)) && (Frac.ofInt lo).le x && x.le (Frac.ofInt hi)
      some (drawWithin free near (fOf t 1000))

/-- Point i of a table, as (x, y). -/
def charPoint (bank : List (Nat × Word)) (t i : Nat) : Nat × Nat :=
  let w := fun (k : Nat) => (charW bank (34 * t + i) k).toNat
  (w 0 + 65536 * w 1, w 2 + 65536 * w 3)

/-- The segment from point i to the next, at a (R412). -/
def segment (bank : List (Nat × Word)) (t i a : Nat) : Nat :=
  let p := charPoint bank t i
  let q := charPoint bank t (i + 1)
  fAdd p.2 (fDiv (fMul (fSub a p.1) (fSub q.2 p.2)) (fSub q.1 p.1))

/-- TABLE (R412) over a table of n points, 2 to 33. -/
def interpolate (bank : List (Nat × Word)) (t n a : Nat) (extrap : Bool) : Nat :=
  let first := charPoint bank t 1
  let last := charPoint bank t n
  if fLt a first.1 then (if extrap then segment bank t 1 a else first.2)
  else if fLe last.1 a then (if extrap && fLt last.1 a then segment bank t (n - 1) a else last.2)
  else match (List.range (n - 1)).find? (fun i => fLt a (charPoint bank t (i + 2)).1) with
    | some i => segment bank t (i + 1) a
    | none => last.2

/-! ### A cycle (R398 to R404) -/

/-- A source is usable by engine cycles (R403): VALID, ATIME where NOAT is set, the entry that names the register fires,
the age, and the ENGINE path's read of block 4. -/
def srcValid (s : State) (e : List Word) : Bool :=
  let reg := getField (stOpnd e) 0 9
  let age := getField (stOpnd e) 9 7
  let st := s.resultWord reg 0
  st.getLsbD 7 && !(stNoat e && st.getLsbD 1)
  && (256 ≤ reg || s.entries.any (fun i => tRreg (s.topoEntry i) == reg && (!s.inReduced || tEss (s.topoEntry i))))
  && (age == 0 || decide (s.runNow - readAt (fun _ => 0) s.seq.resAt reg ≤ age * 1638400))
  && s.mayRead .engine 4 && decide (reg ≤ 263)

/-- A datapath in the middle of a cycle: X and S0 to S3 with their validity, what the cycle will deliver, and the draws
made. -/
structure Datapath where
  regs : List (Nat × Bool)
  out : CycleOut
  pvSeen : Bool
  fails : List Nat
  draws : Nat

/-- Slot c of a datapath; a reserved code reads 0 and invalid. -/
def Datapath.get (p : Datapath) (c : Nat) : Nat × Bool := nth (0, false) p.regs c

/-- Write a slot: an invalid value as 0; an infinity or a NaN becomes 0 and invalid and sets NUM; a subnormal becomes zero (R404,
R405). -/
def Datapath.put (p : Datapath) (c : Nat) (v : Nat × Bool) : Datapath :=
  let bad := v.2 && !fFinite v.1
  let v := if v.2 && !bad then (fFlush v.1, true) else (0, false)
  { p with regs := p.regs.set c v, out := { p.out with num := p.out.num || bad } }

/-- Set what stage k holds. -/
def Datapath.hold (p : Datapath) (k : Nat) (x : StageSt) : Datapath :=
  { p with out := { p.out with stages := p.out.stages.set k x } }

def ma38 : Nat := fOf 38 10
def ma205 : Nat := fOf 205 10

/-- The table a TABLE stage uses, and whether it is in fallback (R426). -/
def tableFails (s : State) (t : Nat) : Bool := s.tab.charBad.contains t || !charOk s.tab.char t

/-- Run stage k with its words e on a datapath. -/
def runStage (s : State) (k : Nat) (e : List Word) (p : Datapath) : Datapath :=
  let a := p.get (stA e)
  let b := p.get (stB e)
  let o := stOpnd e
  let P := stP e
  let st := nth {} p.out.stages k
  match stOp e with
  | 1 =>
    let v := if srcValid s e then
        (fAdd (P 1) (fMul (P 0) (fOf (s.resultValue (getField o 0 9)) 8388608)), true)
      else (0, false)
    p.put (stA e) v
  | 2 =>
    let ok := (a.2 || fZero (P 0)) && (b.2 || fZero (P 1))
    p.put 0 (fAdd (fAdd (fMul (P 0) a.1) (fMul (P 1) b.1)) (P 2), ok)
  | 3 => p.put 0 (([4, 3, 2, 1, 0].foldl (fun acc i => fAdd (fMul acc a.1) (P i)) (P 5)), a.2)
  | 4 =>
    let code := getField o 12 4
    let cjen := o.getLsbD 0
    let p := { p with draws := p.draws + 1 }
    if !a.2 || (code != 0 && cjen && !b.2) then p.put 0 (0, false)
    else
      let used := if code = 0 then 4 else if cjen then 0 else 1
      if !(List.range used).all (fun i => fFinite (P i)) then p.put 0 (fNanBits, true)
      else
        match (if code = 0 then rtd e a.1 (s.free + p.draws)
          else thermocouple code a.1 (if cjen then b.1 else P 0) (s.free + p.draws)) with
        | some t => p.put 0 (t, true)
        | none => { p.put 0 (0, false) with out := { (p.put 0 (0, false)).out with lrng := true } }
  | 5 =>
    let t := getField o 0 4
    if tableFails s t then { p.put 0 a with fails := p.fails ++ [t] }
    else
      let n := getField (charW s.tab.char (34 * t) 0) 0 6
      if 2 ≤ n && n ≤ 33 then p.put 0 (interpolate s.tab.char t n a.1 (o.getLsbD 6), a.2)
      else
        let p := { p with draws := p.draws + 1 }
        p.put 0 ((Config.freeBits (s.free + p.draws)).toNat % 4294967296, a.2)
  | 6 => p.put 0 (if fLt a.1 (P 0) then P 1 else fSqrt a.1, a.2)
  | 7 =>
    let p := { p with draws := p.draws + 1 }
    if !a.2 then p.put 0 (0, false)
    else
      let y := if st.ready then dampStage st.y a.1 (P 0) (p.out.start - st.time) (s.free + p.draws) else a.1
      (p.hold k { st with ready := true, y := y, time := p.out.start }).put 0 (y, true)
  | 8 =>
    if !a.2 then p.put 0 (0, false)
    else
      let y := if st.ready then rateStage st.y a.1 (P 0) (P 1) (p.out.start - st.time) else a.1
      (p.hold k { st with ready := true, y := y, time := p.out.start }).put 0 (y, true)
  | 9 =>
    let span := fSub (P 1) (P 0)
    let pct := fMul (fDiv (fSub a.1 (P 0)) span) (fOf 100 1)
    let p := if p.pvSeen then p
      else { p with pvSeen := true, out := { p.out with pv := a, pct := if a.2 && fFinite pct then pct else 0 } }
    p.put 0 (fAdd (fOf 4 1) (fDiv (fMul (fOf 16 1) (fSub a.1 (P 0))) span), a.2)
  | 10 =>
    let none_ := fZero (P 0) && fZero (P 1)
    let v := fMin (fMax a.1 (if none_ then ma38 else P 0)) (if none_ then ma205 else P 1)
    let p := { p with out := { p.out with sat := p.out.sat || (a.2 && v != a.1) } }
    p.put 0 (v, a.2)
  | 11 =>
    let lo := if !a.2 then st.lo
      else o.getLsbD 15 && (if st.lo then fLt a.1 (fAdd (P 0) (P 3)) else fLt a.1 (P 0))
    let hi := if !a.2 then st.hi
      else o.getLsbD 14 && (if st.hi then fLt (fSub (P 1) (P 3)) a.1 else fLt (P 1) a.1)
    let p := p.hold k { st with lo := lo, hi := hi, latched := o.getLsbD 13 && (lo || hi) }
    let p := { p with out := { p.out with
      lo := p.out.lo || lo, hi := p.out.hi || hi, latch := p.out.latch || (o.getLsbD 13 && (lo || hi)), holdt := P 2 } }
    p.put 0 a
  | 12 => p.put 0 (P 0, true)
  | _ => p.put 0 (0, false)

/-- Run a stage and take TAPV after stage TAP (R439). -/
def runTapped (s : State) (n : Nat) (p : Datapath) (ke : List Word × Nat) : Datapath :=
  let p := runStage s ke.2 ke.1 p
  if ke.2 = s.fld (.VAL_CTRL_TAP n) then { p with out := { p.out with tap := p.get 0 } } else p

/-! ### The two copies (R429) -/

/-- What an engine holds from cycle to cycle, twice: its stages, the hold timer, an expired hold, and the last setpoint in mA and
as a DAC code. -/
structure EngCore where
  stages : List StageSt
  hold : Option Nat
  expired : Bool
  setMa : Nat
  dac : Nat
deriving DecidableEq, Repr

def EngSt.core (e : EngSt) : EngCore := ⟨e.stages, e.hold, e.expired, e.setMa, e.dac⟩

def EngSt.withCore (e : EngSt) (c : EngCore) : EngSt :=
  { e with stages := c.stages, hold := c.hold, expired := c.expired, setMa := c.setMa, dac := c.dac }

def StageSt.flags (x : StageSt) : Nat := bitIf x.ready 1 + bitIf x.lo 2 + bitIf x.hi 4 + bitIf x.latched 8

/-- It as words: three for each stage, then the hold (0 for none), whether it has expired, and the setpoint. -/
def EngCore.words (c : EngCore) : List Nat :=
  c.stages.flatMap (fun x => [x.flags, x.y, x.time])
  ++ [match c.hold with | some h => h + 1 | none => 0, bitIf c.expired 1, c.setMa, c.dac]

/-- A stage from its words. -/
def stageOf (f y t : Nat) : StageSt := ⟨f.testBit 0, y, t, f.testBit 1, f.testBit 2, f.testBit 3⟩

/-- It from its words. -/
def coreOf (ws : List Nat) : EngCore :=
  let w := fun (k : Nat) => nth 0 ws k
  { stages := (List.range 16).map (fun k => stageOf (w (3 * k)) (w (3 * k + 1)) (w (3 * k + 2)))
    hold := if w 48 = 0 then none else some (w 48 - 1)
    expired := w 49 != 0
    setMa := w 50
    dac := w 51 }

/-- The complement of a word, bit by bit. -/
def complement (v : Nat) : Nat := 18446744073709551615 - v

/-- The state as datapath B reads it: the complemented copy, inverted. -/
def EngSt.coreB (e : EngSt) : EngCore := coreOf (e.stateTwin.map complement)

/-- Word k of the complemented copy of engine n's program. -/
def State.twinWord (s : State) (n k : Nat) : Word := readAt (fun _ => (0xFFFF : Word)) (s.engine n).progTwin k

/-- Stage k of the program as datapath B reads it: the complemented copy, inverted. -/
def State.stageWordsB (s : State) (n k : Nat) : List Word := (List.range 16).map (fun w => ~~~(s.twinWord n (16 * k + w)))

/-- Run engine n's program on the latched sources: what the cycle will deliver, the failing tables, the draws. The program's
stages and what they hold are those of one datapath (R430), whose own draws follow `draw`. -/
def runOn (s : State) (n : Nat) (stages : List (List Word)) (held : List StageSt) (draw : Nat) : CycleOut × List Nat × Nat :=
  let start : CycleOut := ⟨s.runNow, (0, false), (0, false), 0, (0, false), held, false, false, false,
    false, false, false, 0⟩
  let p : Datapath := ⟨List.replicate 5 (0, false), start, false, [], draw⟩
  let p := stages.zipIdx.foldl (runTapped s n) p
  let x := p.get 0
  ({ p.out with x := x, pv := if p.pvSeen then p.out.pv else x }, p.fails, p.draws)

/-- Datapath A reads the normal copies. -/
def runProgram (s : State) (n : Nat) : CycleOut × List Nat × Nat := runOn s n (s.liveStages n) (s.engine n).stages 0

/-- Datapath B reads the complemented copies and inverts them; its exponentials and iterations are its own (R405, R429). -/
def runProgramB (s : State) (n : Nat) : CycleOut × List Nat × Nat :=
  runOn s n (untilEnd (s.stageWordsB n)) (s.engine n).coreB.stages (runProgram s n).2.2

/-- ENGINE_CYCLE_START (R398, R399): the engine consumes its notices, latches its sources and runs its program on both
datapaths. -/
def engineCycleStart (n : Nat) (s : State) : State :=
  if !s.engineRuns n || (s.engine n).cycle.isSome then s
  else
    let a := runProgram s n
    let b := runProgramB s n
    let s := (s.modEng n (fun e => { e with notices := [], cycle := some a.1, cycleB := some b.1 })).setFldBit
      .SEQ_QSTAT_ECOAL n false
    forList (a.2.1 ++ b.2.1) failTable { s with free := s.free + b.2.2 + 1 }

def execEngineCycleStart (n : Nat) (s : State) : Host.Outcome State Fault Refusal := answerIf (n < 6) (engineCycleStart n s)

/-- The complemented copy of the state is written from the normal one. -/
def syncState (n : Nat) (s : State) : State :=
  s.modEng n (fun e => { e with stateTwin := e.core.words.map complement })

/-- Both copies of a program agree. -/
def progAgrees (s : State) (n : Nat) : Bool :=
  (List.range 256).all (fun k => s.twinWord n k == ~~~(readAt zeroWord s.tab.valprog (256 * n + k)))

/-- Both copies of a state agree. -/
def EngSt.stateAgrees (e : EngSt) : Bool := e.stateTwin == e.core.words.map complement

/-- The complemented copy of a program is written from the normal one. -/
def syncProgram (n : Nat) (s : State) : State :=
  let m := (s.tab.valprog.filter (fun e => 256 * n ≤ e.1 && e.1 < 256 * n + 256)).map (fun e => (e.1 - 256 * n, ~~~e.2))
  s.modEng n (fun e => { e with progTwin := m })

/-- Engine n begins with its states initialised, as at ACTIVE (R434, R435). -/
def initEngine (n : Nat) (s : State) : State :=
  let s := s.modEng n (fun e => { e with
    stages := List.replicate 16 {}, hold := none, cycle := none, cycleB := none, ops := s.stageOps n, cfgPend := false
    runs := s.flag (.VAL_CTRL_RUN n) })
  let s := ((s.setFlag (.VAL_STAT_FIRST n) false).setFlag (.VAL_STAT_TWIN n) false).setFlag (.VAL_STAT_ALMLAT n) false
  syncState n (syncProgram n s)

/-- A halted engine restarts (R434) and requests alarm until its first valid value; FVTMO runs from here (R445). -/
def restartEngine (n : Nat) (s : State) : State :=
  let s := initEngine n (s.modEng n (fun e => { e with haltN := false, haltS := false, expired := true }))
  let s := (s.setFlag (.LOOP_STAT_FVEXP n) false).modLoop n (fun l => { l with fvRun := true })
  updateLoop n (showEngines s)

/-- The contained-fault latch is cleared: a halt with parameter n alone ends (R434). -/
def clearHalt (n : Nat) (s : State) : State :=
  let e := s.engine n
  if e.haltN && !e.haltS then restartEngine n s else s.modEng n (fun e => { e with haltN := false })

/-! ### Modes and changes at an engine-cycle boundary (R401, R427, R446) -/

/-- The loop takes the mode that its register holds (R446); FVTMO starts afresh on a change to ENGINE (R445). -/
def takeMode (n : Nat) (s : State) : State :=
  let m := s.fld (.LOOP_MODE_MODE n)
  let l := s.loop n
  let fresh := m == 1 && l.mode != 1 && !l.hasValue
  let s := s.modLoop n (fun l => { l with mode := m, modePend := false, fvRun := l.fvRun || fresh })
  updateLoop n (s.when fresh (fun t => t.setFlag (.LOOP_STAT_FVEXP n) false))

/-- A changed mode applies now, between cycles, or at the end of the cycle in progress. -/
def modeChanged (n : Nat) (s : State) : State :=
  if (s.engine n).cycle.isSome then s.modLoop n (fun l => { l with modePend := true }) else takeMode n s

/-- A changed program applies (R427): a stage keeps its state where its code stays DAMP, RATE or ALARM; the latch stays while an
ALARM stage that is kept holds it. An engine that starts has delivered nothing yet (R421). -/
def takeProgram (n : Nat) (s : State) : State :=
  let new := s.stageOps n
  let keeps := fun (k : Nat) => nth 0 new k == nth 0 (s.engine n).ops k && [opDamp, opRate, opAlarm].contains (nth 0 new k)
  let was := s.engineRuns n
  let s := s.modEng n (fun e => { e with
    stages := e.stages.zipIdx.map (fun x => if keeps x.2 then x.1 else {}), ops := new, cfgPend := false
    runs := s.flag (.VAL_CTRL_RUN n) })
  let s := showCharFb (showEngines (s.setFlag (.VAL_STAT_CFGCHG n) true))
  let s := s.setFlag (.VAL_STAT_ALMLAT n) (s.flag (.VAL_STAT_ALMLAT n) && (s.engine n).stages.any (·.latched))
  let s := if !was && s.engineRuns n then
      (s.setFlag (.VAL_STAT_FIRST n) false).modEng n (fun e => { e with hold := none, dac := 0, setMa := 0 })
    else s
  syncState n s

/-- A commit has changed engine n's program or VAL.CTRL; `written` says that it wrote a stage entry, which brings an engine back
that a storage mismatch halted (R434). -/
def engineChanged (written : Bool) (n : Nat) (s : State) : State :=
  if written && (s.engine n).haltS then restartEngine n (takeProgram n s)
  else if (s.engine n).cycle.isSome then s.modEng n (fun e => { e with cfgPend := true })
  else takeProgram n s

/-- A journalled loop trim takes effect (R589). -/
def takeTrim (n : Nat) (s : State) : State :=
  match (s.loop n).trimPend with
  | some (z, g) => s.modLoop n (fun l => { l with trimZero := z, trimSpan := g, trimPend := none })
  | none => s

/-- What waits for the engine-cycle boundary applies. -/
def boundary (n : Nat) (s : State) : State :=
  let s := takeTrim n s
  let s := if (s.engine n).cfgPend then takeProgram n s else s
  if (s.loop n).modePend then takeMode n s else s

/-- Halt engine n (R433): TWIN, and an alarm request until the first valid value after the restart. The engine is between
cycles now. -/
def haltEngine (storage : Bool) (n : Nat) (s : State) : State :=
  let s := s.modEng n (fun e => { e with
    haltN := e.haltN || !storage, haltS := e.haltS || storage, cycle := none, cycleB := none })
  let s := ((s.setFlag (.VAL_STAT_TWIN n) true).setFlag (.VAL_STAT_ALMREQ n) true).setFlag (.VAL_STAT_HOLD n) false
  boundary n (updateLoop n (showEngines s))

/-- TWIN_STORAGE_CHECK (R431, R433). -/
def twinStorageCheck (n : Nat) (s : State) : State :=
  if (progAgrees s n && (s.engine n).stateAgrees) || (s.engine n).haltS then s
  else report 10 (16 + n) 0 0 (haltEngine true n s)

def execTwinStorageCheck (n : Nat) (s : State) : Host.Outcome State Fault Refusal := answerIf (n < 6) (twinStorageCheck n s)

/-- Step 5 of R100 (R435): cycles in progress are abandoned, and states, hold and running time freeze. -/
def freezeEngines (s : State) : State :=
  let s := { s with seq := { s.seq with frozenAt := some (s.seq.frozenAt.getD s.now) } }
  let s := forEach 6 (fun n t => boundary n (t.modEng n (fun e => { e with cycle := none, cycleB := none, frozen := true }))) s
  showEngines s

/-- Step 5 of R103 (R435): the engines run again from their frozen states. -/
def thawEngines (s : State) : State :=
  let gone := match s.seq.frozenAt with
    | some t => s.now - t
    | none => 0
  let s := { s with seq := { s.seq with frozenFor := s.seq.frozenFor + gone, frozenAt := none } }
  showEngines (forEach 6 (fun n t => t.modEng n (fun e => { e with frozen := false })) s)

/-! ### The end of a cycle (R400, R419 to R422, R432) -/

/-- round(X × 65,536 / 24), halves away from zero (R420). -/
def dacCode (x : Nat) : Nat :=
  let v := fVal x
  (roundDiv (v.n * 65536) (v.d * 24)).toNat % 65536

/-- The loop port takes what the engine delivers: in ENGINE mode the setpoint, and on a valid value what R445 and R103
say of the first one. -/
def deliver (n : Nat) (valid : Bool) (s : State) : State :=
  let l := s.loop n
  if l.mode != 1 then s
  else
    let s := s.when (s.flag (.VAL_STAT_FIRST n)) (fun t => t.modLoop n (fun l => { l with setpoint := (t.engine n).dac }))
    if valid then
      (s.modLoop n (fun l => { l with hasValue := true, fvRun := false, parked := false, held := none })).setFlag
        (.LOOP_STAT_FVEXP n) false
    else s

/-- The hold time HOLDT is over after `dt` core clocks. -/
def holdOver (holdt dt : Nat) : Bool := (fVal holdt).le ⟨dt, 16384000⟩

/-- HOLDREM (R439): hold time remaining in 10 ms, rounded up (log entry 25). -/
def holdRem (holdt dt : Nat) : Nat :=
  let h := fVal holdt
  let left := h.n.toNat * 16384000 - dt * h.d
  min 65535 (ceilDiv left (h.d * 163840))

/-- A binary32 as two words, low word first. -/
def fWords (x : Nat) : List Word := [word (x % 65536), word (x / 65536)]

/-- The state entry of R439 at the end of a cycle of datapath A. -/
def stateEntry (e : EngSt) (o : CycleOut) (now : Nat) : List Word :=
  let cycles := ew e.entry 9 + 1
  let rem := match e.hold with
    | some h => if e.expired then 0 else holdRem o.holdt (now - h)
    | none => 0
  fWords o.pv.1 ++ fWords e.setMa ++ fWords o.pct ++ fWords o.tap.1
  ++ [word ((if o.pv.2 then 32768 else 0) + (if o.tap.2 then 16384 else 0)), cycles, word e.dac, word rem, 0, 0, 0, 0]

/-- What the end of a cycle makes of one datapath's result: what the engine then holds, whether the final X is valid, a breach or
latch in force, the engine value valid and the hold and alarm request. -/
structure CycleEnd where
  core : EngCore
  final : Bool
  lo : Bool
  hi : Bool
  valid : Bool
  alarm : Bool
deriving DecidableEq, Repr

/-- The end of a cycle on one datapath (R419 to R422), from what it held, with ALMLAT and FIRST as they stand. -/
def endOn (latched first : Bool) (now : Nat) (c : EngCore) (o : CycleOut) : CycleEnd :=
  let lim := fMin (fMax o.x.1 ma38) ma205
  let breach := o.lo || o.hi || latched || o.latch
  let valid := o.x.2 && !breach
  let hold := if o.x.2 then none else if first then some (c.hold.getD o.start) else none
  let late := match hold with
    | some h => holdOver o.holdt (now - h)
    | none => false
  let expired := (c.expired && !valid) || late
  { core := {
      stages := o.stages.zipWith (fun a b => { a with latched := a.latched || (latched && b.latched) }) c.stages
      hold := hold
      expired := expired
      setMa := if o.x.2 then lim else c.setMa
      dac := if o.x.2 then dacCode lim else c.dac }
    final := o.x.2, lo := o.lo, hi := o.hi, valid := valid, alarm := breach || expired }

/-- What R432 wants identical: the final validity, the hold state, the alarm request and the breach states. -/
def CycleEnd.states (r : CycleEnd) : List Bool := [r.final, r.core.hold.isSome, r.alarm, r.lo, r.hi]

/-- The ends of the present cycle on both datapaths. -/
def State.cycleEnds (s : State) (n : Nat) (o oB : CycleOut) : CycleEnd × CycleEnd :=
  let e := s.engine n
  let on := endOn (s.flag (.VAL_STAT_ALMLAT n)) (s.flag (.VAL_STAT_FIRST n)) s.runNow
  (on e.core o, on e.coreB oB)

/-- NUM and LRNG of a cycle (R405, R411). -/
def showRange (n : Nat) (o : CycleOut) (s : State) : State :=
  (s.when o.num (fun t => t.setFlag (.VAL_STAT_NUM n) true)).when o.lrng (fun t => t.setFlag (.VAL_STAT_LRNG n) true)

/-- The state entry is updated at the end of each cycle (R400, R439). -/
def showEntry (n : Nat) (o : CycleOut) (s : State) : State :=
  s.modEng n (fun e => { e with cycle := none, cycleB := none, entry := stateEntry e o s.runNow })

/-- The end of a cycle in which the datapaths agree: datapath A's result is delivered and datapath B's state follows it. -/
def endAgreed (n : Nat) (o : CycleOut) (r : CycleEnd) (s : State) : State :=
  let before := (s.engine n).stages.any (fun x => x.lo || x.hi)
  let s := (showRange n o s).when o.latch (fun t => t.setFlag (.VAL_STAT_ALMLAT n) true)
  let s := s.modEng n (fun e => e.withCore r.core)
  let s := ((s.setFlag (.VAL_STAT_VALID n) r.valid).setFlag (.VAL_STAT_FIRST n) (s.flag (.VAL_STAT_FIRST n) || r.valid)).setFlag
    (.VAL_STAT_HOLD n) (r.core.hold.isSome && !r.core.expired)
  let s := ((s.setFlag (.VAL_STAT_ALMREQ n) r.alarm).setFlag (.VAL_STAT_THRLO n) o.lo).setFlag (.VAL_STAT_THRHI n) o.hi
  let s := s.setFlag (.VAL_STAT_SAT n) (o.sat || (o.x.2 && r.core.setMa != o.x.1))
  let s := showEntry n o s
  let s := if (o.lo || o.hi) && !before && s.fld .XFER_CAP_SRC = 2 && s.fld .XFER_CAP_PARAM % 8 = n then capTrigger 2 s
    else s
  updateLoop n (deliver n r.valid (syncState n s))

/-- The end of a cycle in which they disagree (R433): nothing is delivered, the states stay those of the cycle before, and the
engine halts. -/
def endFailed (n a b : Nat) (o : CycleOut) (s : State) : State :=
  let s := (showEntry n o (showRange n o s)).setFlag (.VAL_STAT_VALID n) false
  report 10 n a b (haltEngine false n s)

/-- ENGINE_CYCLE_END (R400, R432, R433). A fault that has struck datapath B leaves it with the DAC code `upset`, or with states
that `differ` from datapath A's. -/
def engineCycleEnd (n : Nat) (upset : Option Nat) (differ : Bool) (s : State) : State :=
  match (s.engine n).cycle, (s.engine n).cycleB with
  | some o, some oB =>
    let (a, b) := s.cycleEnds n o oB
    let code := upset.getD b.core.dac
    if max a.core.dac code - min a.core.dac code ≤ 1 && a.states == b.states && !differ then boundary n (endAgreed n o a s)
    else endFailed n a.core.dac code o s
  | _, _ => s

def execEngineCycleEnd (n : Nat) (upset : Option Nat) (differ : Bool) (s : State) : Host.Outcome State Fault Refusal :=
  answerIf (n < 6 && upset.all (fun u => decide (u < 65536))) (engineCycleEnd n upset differ s)

end Sys2Proof.Machine
end

