-- ==== Sys2Proof/Machine/Modes.lean ====
section
/-! DEFINITION. The rest states and the supply dip (03): REDUCED, bivouac, XCLR, VDDA, and the change of the power
profile (R40). -/

namespace Sys2Proof.Machine

/-! ### REDUCED (R96, R97) -/

/-- A cause of REDUCED has been set: the mode and the powered slices follow. -/
def enterReduced (s : State) : State :=
  let t := settleMode s
  if t.inReduced && !s.inReduced then dutyBegins (powerSlices t) else t

/-- A cause of REDUCED has been removed: at the end of REDUCED the other entries are enabled (R323). -/
def leaveReduced (s : State) : State :=
  let t := settleMode s
  if s.inReduced && !t.inReduced then
    let es := t.entries.filter (fun e => !tEss (t.topoEntry e))
    enableEntries es (oweSetl es (powerSlices t))
  else t

/-- The effect of a write of SYS.MODE.REDREQ (R96). -/
def redreqEffect (on : Bool) (s : State) : State :=
  let s := (s.setFlag .SYS_MODE_REDREQ on).setFlag .SYS_STAT_REDHOST on
  if on then enterReduced s else leaveReduced s

/-! ### Bivouac (R99 to R103) -/

def bivSpeed : Nat := 1
def bivHost : Nat := 2
def bivBudget : Nat := 3

/-- A swing lead in progress is abandoned; every slice that is not retired serves itself (R376). -/
def abandonLead (s : State) : State :=
  let keep := match s.cal.cover with
    | some n => s.fldBit .SLC_RETIRED_RET n
    | none => false
  let s := (List.range 13).foldl (fun t n => if t.cal.hostDirect.contains n then t else calDirect n false t) s
  let s := { s with cal := { s.cal with
    cover := if keep then s.cal.cover else none
    probe := none
    overlapAt := none
    pairs := []
    retest := false
    measuring := false } }
  setPhase phIdle 0 s

/-- The leases that bivouac ends: those of excitation and of the rope stream (R100, R101). -/
def endRestLeases (s : State) : State := endLease .rope (endLease .exc s)

/-- The steps of R100. -/
def restSteps (s : State) : State :=
  let s := forEach 13 (fun n t => t.modWin n (fun w => { w with supd := true })) s
  let s := forEach 13 (fun n t => endWindow n true t) s
  let s := closeFrame false (dropPending s)
  let s := excClearAll evBivouac s
  let s := { s with conns := [], seq := { s.seq with bias := [] } }
  let s := { s with sys := { s.sys with slicesOn := false, bivRef := s.flag .REF_STAT_BUFON, bivExit := false } }
  let s := powerSlices ((s.setFlag .REF_STAT_BUFON false).setFlag .REF_STAT_READY false)
  let s := endRestLeases (abandonLead s)
  let s := freezeEngines s
  { s with sys := { s.sys with slowClock := true }, flt := { s.flt with hkaRun := false } }

/-- An exit under way is given up: what steps 2 and 3 of R103 turned on is off again, the buffer's state before the entry
still remembered (log entry 49). -/
def abandonExit (s : State) : State :=
  let s := { s with sys := { s.sys with slicesOn := false, bivExit := false, slowClock := true } }
  powerSlices ((s.setFlag .REF_STAT_BUFON false).setFlag .REF_STAT_READY false)

/-- Enter bivouac for a cause (R99, R100); in bivouac the first cause stays, but BUDGET overrides it. A cause that arises
while an exit is under way ends the exit, and is the cause from then on (log entry 49). -/
def enterBivouac (cause : Nat) (s : State) : State :=
  if s.mode == modeBivouac then
    if s.sys.bivExit then abandonExit (s.setFld .SYS_STAT_BIVC cause)
    else if cause = bivBudget then s.setFld .SYS_STAT_BIVC bivBudget else s
  else if !s.isActive then s
  else
    let s := restSteps ((s.setFld .SYS_STAT_STATE modeBivouac).setFld .SYS_STAT_BIVC cause)
    updateLoops (showRunning s)

/-- The effect of setting SYS.MODE.BIVREQ (R99, R111). -/
def bivreqEffect (s : State) : State := enterBivouac bivHost (s.setFlag .SYS_MODE_BIVREQ true)

/-- An exit condition other than the profile's has no effect while the cause is BUDGET (R102). -/
def State.exitBlocked (s : State) : Bool := s.fld .SYS_STAT_BIVC == bivBudget

/-- Steps 2 and 3 of R103: the clock, the slices and, where it was on, the reference buffer. -/
def beginExit (s : State) : State :=
  let s := s.setFlag .SYS_MODE_BIVREQ false
  let s := { s with sys := { s.sys with bivExit := true, slowClock := s.profile == 1, slicesOn := true } }
  powerSlices (s.setFlag .REF_STAT_BUFON s.sys.bivRef)

/-- An exit condition is met (R102): while the cause is BUDGET only the rise of the profile to MINIMAL or above is one, and
for the other causes it is none. -/
def leaveBivouac (profile : Bool) (s : State) : State :=
  let allowed := if profile then s.exitBlocked && s.profile != 0 else !s.exitBlocked
  if s.inBivouac && !s.sys.bivExit && allowed then beginExit s else s

/-- ANG.SPEED is above ANG.BIVSPD, in units of 0.1 rpm (R102, R212). -/
def State.aboveStandstill (s : State) : Bool := decide (s.regN Reg.ANG_BIVSPD * 65536 < s.speed * 600)

/-- The condition of an exit holds: the speed is above ANG.BIVSPD, or BIVREQ stands for the host to clear; a wake frame is
its own condition, and the profile's is judged by leaveBivouac. -/
def exitHolds (c : ExitCause) (s : State) : Bool :=
  match c with
  | .speed => s.aboveStandstill
  | .host => s.flag .SYS_MODE_BIVREQ
  | .wake => true
  | .profile => true

/-- BIVOUAC_EXIT (R102, R103): speed above ANG.BIVSPD, the host's clearing of BIVREQ, a wake frame, or the rise of the
profile. -/
def execBivouacExit (c : ExitCause) (s : State) : Host.Outcome State Fault Refusal :=
  .next (if exitHolds c s then leaveBivouac (c == .profile) s else s)

/-- The leases that step 5 of R103 requests again; the host's where it had been asked for. -/
def requestRestLeases (s : State) : State :=
  let want := excLeaseWant s.activeCfg s.speed
  let s := if 2 ≤ s.profile && 0 < want then requestLease .exc want s else s
  let s := if s.profile = 3 then requestLease .rope 120 s
    else if s.profile = 2 then requestLease .rope 30 s
    else s
  if s.pwr.hostAsked && 0 < s.fld .PWR_HOSTP_HOSTP && (s.lease .host).state == gIdle && !s.pwr.hostCut then
    requestLease .host (s.fld .PWR_HOSTP_HOSTP) s
  else s

/-- BIVOUAC_RESUME (R103, R323): at READY, or at once where the buffer was off, the engines resume, the leases are
requested, every entry is enabled, and the mode follows the REDUCED causes. -/
def bivouacResume (s : State) : State :=
  if s.inBivouac && s.sys.bivExit && (s.flag .REF_STAT_READY || !s.sys.bivRef) then
    let s := { s with sys := { s.sys with bivExit := false } }
    let s := (s.setFld .SYS_STAT_STATE (if s.redCause then modeReduced else modeActive)).setFld .SYS_STAT_BIVC 0
    let s := forEach 4 (excUnclear evBivouac) s
    let s := forEach 6 (fun n t => (t.setFlag (.LOOP_STAT_FVEXP n) false).modLoop n (fun l => { l with
      fvRun := true, parked := t.fldBit .SYS_BIVCFG_PARK n })) (thawEngines s)
    let s := powerSlices (showRunning (requestRestLeases s))
    let s := if s.inReduced then dutyBegins s else s
    let s := if s.seqRuns then enableEntries s.entries (oweSetl s.entries s) else s
    let s := { s with flt := { s.flt with hkaRun := s.hkaEnabled } }
    updateLoops (match s.cal.sys with
      | some (_, _, 12) => toIdle s
      | some _ => beginPoint s
      | none => s)
  else s

def execBivouacResume (s : State) : Host.Outcome State Fault Refusal := .next (bivouacResume s)

/-- The unit may enter bivouac for SPEED (R99). -/
def State.mayStandstill (s : State) : Bool :=
  (s.mode == modeActive || s.mode == modeReduced) && s.regN Reg.ANG_BIVTMO != 0
  && decide (s.speed * 600 < s.regN Reg.ANG_BIVSPD * 65536)
  && !s.flag .ANG_STAT_SUBST
  && (if s.angSrc = 0 then s.angMode != amTime
      else if s.flag .ANG_STAT_BCNLOSS then s.angSrc == 2 && s.angMode != amTime
      else true)

/-- BIVOUAC_STANDSTILL (R99): ANG.BIVTMO has passed with ANG.SPEED below ANG.BIVSPD. -/
def bivouacStandstill (s : State) : State := if s.mayStandstill then enterBivouac bivSpeed s else s

def execBivouacStandstill (s : State) : Host.Outcome State Fault Refusal := .next (bivouacStandstill s)

/-! ### XCLR (R87, R259) -/

/-- XCLR has been low for long enough. -/
def xclrLow (s : State) : State :=
  let s := { s with sys := { s.sys with xclrLow := true } }
  updateLoops (if 6 ≤ s.phase then keepClearOnly (excClearAll evXclr s) else s)

/-- XCLR_ASSERT (R259, R682): 200 ns or longer acts, less than 100 ns does not; between them a free value decides. -/
def xclrAssert (widthNs : Nat) (s : State) : State :=
  if 200 ≤ widthNs then xclrLow s
  else if widthNs < 100 then s
  else
    let (b, s) := s.freeChoice
    if b then xclrLow s else s

def execXclrAssert (widthNs : Nat) (s : State) : Host.Outcome State Fault Refusal := .next (xclrAssert widthNs s)

/-- XCLR_RELEASE (R259, R260). -/
def execXclrRelease (s : State) : Host.Outcome State Fault Refusal :=
  .next (updateLoops (forEach 4 (excUnclear evXclr) { s with sys := { s.sys with xclrLow := false } }))

/-! ### The supply dip (R93, R94) -/

/-- VDDA_WARN (R93): VDDA falls below 2.90 V; within one dip only the minimum and the recovery timer change (R94). -/
def vddaWarn (mv : Nat) (s : State) : State :=
  match s.sys.dip with
  | some d => { s with sys := { s.sys with dip := some { d with rise := none, minMv := min d.minMv mv } } }
  | none =>
    let s := { s with sys := { s.sys with dip := some ⟨s.now, none, mv⟩ } }
    let s := forEach 13 (fun n t => t.modWin n (fun w => { w with supd := true })) s
    (excClearAll evDip s).setFlag .PWR_STAT_WARN true

def execVddaWarn (mv : Nat) (s : State) : Host.Outcome State Fault Refusal := answerIf (mv < 65536) (vddaWarn mv s)

/-- VDDA_RECOVERY_RISE (R94): the 100 µs timer starts; `minMv` is the lowest VDDA measured. -/
def vddaRise (minMv : Nat) (s : State) : State :=
  match s.sys.dip with
  | some d => { s with sys := { s.sys with dip := some { d with rise := some s.now, minMv := min d.minMv minMv } } }
  | none => s

def execVddaRecoveryRise (minMv : Nat) (s : State) : Host.Outcome State Fault Refusal :=
  answerIf (minMv < 65536) (vddaRise minMv s)

/-- DIP_RECOVERY_CONFIRM (R94): WARN clears, the outputs leave their clear state at their next boundary, and the record
is written with the duration in µs and the minimum in mV. -/
def dipConfirm (s : State) : State :=
  match s.sys.dip with
  | some ⟨start, some rise, low⟩ =>
    let dur := min 65535 (usOf (rise - start))
    let s := { s with sys := { s.sys with dip := none } }
    let s := forEach 4 (excUnclear evDip) (s.setFlag .PWR_STAT_WARN false)
    let s := mkRecord 0x080 clsInfo [dur, low] s
    ((s.setRegN Reg.SYS_DIPT dur).setRegN Reg.SYS_DIPMIN low).setFlag .SYS_STAT_DIP true
  | _ => s

def execDipRecoveryConfirm (s : State) : Host.Outcome State Fault Refusal := .next (dipConfirm s)

/-! ### Power fail and the return of the income (R42) -/

/-- POWER_FAIL (R42): with zero income and S at 200 credits or below, PFAIL, the power-fail record, and the slices,
excitation, rope stream and host supply turned off; a window in progress ends with SUPD. -/
def powerFail (s : State) : State :=
  if !s.sys.held && s.availNode = 0 && s.regN Reg.PWR_STORE ≤ 200 && !s.flag .PWR_STAT_PFAIL then
    let s := s.setFlag .PWR_STAT_PFAIL true
    let s := mkRecord 0x081 clsNote [s.regN Reg.PWR_STORE, s.regN Reg.PWR_LOOPS, s.regN Reg.PWR_AVAIL] s
    let s := forEach 13 (fun n t => t.modWin n (fun w => { w with supd := true })) s
    let s := forEach 13 (fun n t => endWindow n true t) s
    let s := powerSlices { s with sys := { s.sys with slicesOn := false } }
    let s := excClearAll evPfail s
    vhstOff (endLease .host (endLease .rope (endLease .exc s)))
  else s

def execPowerFail (s : State) : Host.Outcome State Fault Refusal := .next (powerFail s)

/-- The income has returned after a power fail and the budget is rebuilt (R42, R259): the outputs may leave their clear
state, and a unit that is not in bivouac powers its slices and asks for its leases again; one in bivouac does so when it
leaves. PFAIL reads 0 from here on (DESIGN CHOICE, log entry 50). -/
def powerReturn (s : State) : State :=
  if s.flag .PWR_STAT_PFAIL && s.availNode != 0 then
    let s := forEach 4 (excUnclear evPfail) (s.setFlag .PWR_STAT_PFAIL false)
    if s.mode == modeActive || s.mode == modeReduced then
      requestRestLeases (powerSlices { s with sys := { s.sys with slicesOn := true } })
    else s
  else s

/-- The budget computed anew, with what the return of the income brings; in reset the arbiter stands still (R11). -/
def rebuildBudget (s : State) : State := if s.sys.held then s else powerReturn (recompute s)

/-- BUDGET_RECOMPUTE (R29): the six actual loop currents in µA, and the whole budget anew. -/
def execBudgetRecompute (loopUa : List Nat) (s : State) : Host.Outcome State Fault Refusal :=
  answerIf (loopUa.length = 6) (rebuildBudget { s with pwr := { s.pwr with loopUa := loopUa } })

/-- VAUX_PRESENT (R37): with VAUXEN set VAUX counts as present and the budget is recomputed (R29). -/
def vauxPresent (s : State) : State :=
  if s.flag .PWR_CFG_VAUXEN then
    rebuildBudget { s.setFlag .PWR_STAT_VAUXP true with sys := { s.sys with bleed := false } }
  else s

def execVauxPresent (s : State) : Host.Outcome State Fault Refusal := .next (vauxPresent s)

/-- VAUX_ABSENT (R37). -/
def execVauxAbsent (s : State) : Host.Outcome State Fault Refusal :=
  .next (rebuildBudget (s.setFlag .PWR_STAT_VAUXP false))

/-! ### The power profile (R40 to R42) -/

/-- What the energy test of a profile change leaves in REDPROF (R40, R96). -/
def judgeProfile (s : State) : State :=
  if (energyTest s.activeCfg s.profile s).isSome then enterReduced (s.setFlag .SYS_STAT_REDPROF true)
  else leaveReduced (s.setFlag .SYS_STAT_REDPROF false)

/-- Leases that the new profile does not permit end; a higher profile lets them be asked for again (R41). -/
def fitLeases (s : State) : State :=
  let s := forList [Requester.exc, .rope] (fun r t => if leaseAllowed t.profile r then t else endLease r t) s
  if s.mode == modeActive || s.mode == modeReduced then
    let want := excLeaseWant s.activeCfg s.speed
    let s := if 2 ≤ s.profile && 0 < want && s.pwr.exc.state == gIdle then requestLease .exc want s else s
    if 2 ≤ s.profile && s.pwr.rope.want != (if s.profile = 3 then 120 else 30) then
      requestLease .rope (if s.profile = 3 then 120 else 30) s
    else s
  else s

/-- PROFILE_CHANGE (R40): the profile of the present count takes effect, and the active schedule is tested. -/
def profileChange (s : State) : State :=
  let was := s.profile
  let now := s.profileTarget
  if was = now || s.sys.held then s
  else
    let s := (s.setFld .PWR_PROFILE_PROFILE now).setFlag .PWR_STAT_PROFCHG true
    if !s.isActive then showBudget s
    else
      let s := { s with sys := { s.sys with slowClock := s.sys.slowClock && s.inBivouac || now == 1 } }
      let s := powerSlices (fitLeases (judgeProfile s))
      let s := arbitrate (withdrawAll s)
      if now = 0 then enterBivouac bivBudget s
      else if was = 0 then leaveBivouac true s
      else s

def execProfileChange (s : State) : Host.Outcome State Fault Refusal := .next (profileChange s)

end Sys2Proof.Machine
end

