-- ==== Sys2Proof/Machine/Belay.lean ====
section
/-! DEFINITION. The belay collector and the thermal monitor (17): reports, level sources, wire faults, clearing, the host
keep-alive, injection, and the die temperature. -/

namespace Sys2Proof.Machine

/-! ### Reports -/

/-- The ECC of the store detects an error (R580, R639 source 4): the word at byte p2 of the sector is corrected, or reads
uncorrected and fails the check of the record that holds it. -/
def flashEcc (param p2 : Nat) (s : State) : State :=
  if param % 128 < 32 && p2 < 2048 then
    let w := 256 * (param % 128) + p2 / 8
    let enabled := if s.nvm.ecc.contains w then s.nvm.ecc else s.nvm.ecc ++ [w]
    { s with nvm := { s.nvm with ecc := enabled, errs := s.nvm.errs.filter (·.1 != w) ++ [(w, decide (128 ≤ param))] } }
  else s

/-- A frame of a partition (its first block and size in blocks) holds a word of the capture RAM. -/
def frameHolds (base size : Nat) (f : Nat × Nat) (w : Nat) : Bool :=
  (List.range (ceilDiv f.2 2)).any (fun k => ramAddr base size f.1 (2 * k) == 2 * w)

/-- An uncorrectable word of the capture RAM (R639 source 5, 0x80): the frame or the capture that holds it is released
undelivered. -/
def dropRamWord (w : Nat) (s : State) : State :=
  let holds := fun (d : Descr) =>
    if d.record.isEmpty then d.frames.any (fun f => frameHolds 0 s.ringBlocks f w)
    else d.frames.any (fun f => frameHolds s.ringBlocks s.capBlocks f w)
  settleDescrs (s.modXfer (fun x => { x with
    descrs := x.descrs.map (fun d => if holds d then { d with dests := 0 } else d) }))

/-- An uncorrectable word of the result registers (0x81): the register that holds it reads VALID = 0 until it is next
written. -/
def dropResult (w : Nat) (s : State) : State :=
  let k := w / 2 * 2
  { s with tab := { s.tab with
    result := writeAt zeroWord s.tab.result k (putField (readAt zeroWord s.tab.result k) 7 1 0) } }

/-- A word that reads with an error in it: it differs from what was written, in bits that are open (log entry 1). -/
def spoil (w : Word) (s : State) : Word × State :=
  let (d, s) := s.freeDraw
  let m : Word := d.setWidth 16
  (w ^^^ (if m = 0 then 3 else m), s)

/-- An uncorrectable word of region 2 (0x82), which holds TOPO, COEF, CHAR and VALPROG one behind the other (DESIGN CHOICE, log
entry 60): it reads with an error, so that the table's own check fails at its next use. -/
def spoilTable (w : Nat) (s : State) : State :=
  if w < 2048 then
    let (v, s) := spoil (readAt zeroWord s.tab.topo w) s
    { s with tab := { s.tab with topo := writeAt zeroWord s.tab.topo w v } }
  else if w < 2048 + 1008 then
    let k := w - 2048
    let (v, s) := spoil (readAt coefDefault s.tab.coef k) s
    { s with tab := { s.tab with coef := writeAt coefDefault s.tab.coef k v } }
  else if w < 3056 + 1632 then
    let k := w - 3056
    let (v, s) := spoil (readAt charDefault s.tab.char k) s
    { s with tab := { s.tab with char := writeAt charDefault s.tab.char k v } }
  else if w < 4688 + 1536 then
    let k := w - 4688
    let (v, s) := spoil (readAt zeroWord s.tab.valprog k) s
    { s with tab := { s.tab with valprog := writeAt zeroWord s.tab.valprog k v } }
  else s

/-- What the block of a source does at detection where no other command brings it about (R639): the ECC of the store and of the
RAM, and an external memory that no longer identifies itself. -/
def atDetection (src param p2 : Nat) (s : State) : State :=
  if src = 4 then flashEcc param p2 s
  else if src = 5 && param = 0x80 then dropRamWord p2 s
  else if src = 5 && param = 0x81 then dropResult p2 s
  else if src = 5 && param = 0x82 then spoilTable p2 s
  else if src = 15 && param = 3 then memoryGone s
  else s

/-- BELAY_REPORT (R641): a source's pair reports with a parameter and the record parameters of R639; the reporting block's own
reaction takes place whether or not the report is accepted. -/
def execBelayReport (src param p2 p3 : Nat) (s : State) : Host.Outcome State Fault Refusal :=
  answerIf (1 ≤ src && src ≤ 20 && param < 256 && p2 < 65536) (report src param p2 p3 (atDetection src param p2 s))

/-- COLLECTOR_IDLE (R641): the 160 core clocks of the collector's busy time are over. -/
def execCollectorIdle (s : State) : Host.Outcome State Fault Refusal :=
  .next { s with flt := { s.flt with busy := false } }

/-- The parameter of a wire fault (R638). -/
def wireParam (src : Nat) (high : Bool) : Nat := src + (if high then 128 else 0)

/-- A pair reads equal for two core clocks: the wire-fault source, and the pair is ignored until the latches are
cleared (R638); an injected fault lasts no longer than those two clocks (R653). -/
def wireFault (src : Nat) (high : Bool) (inj : Bool) (s : State) : State :=
  if s.flt.ignored.contains src then s
  else
    let s := if inj then s
      else { s with flt := { s.flt with cond := (s.flt.cond.filter (fun c => c.1 != src)) ++ [(src, wireParam src high)] } }
    let s := acceptReport (belayClass 21 (wireParam src high)) 21 (wireParam src high) 0 0 inj s
    { s with flt := { s.flt with ignored := s.flt.ignored ++ [src] } }

/-- WIRE_FAULT (R638). -/
def execWireFault (src : Nat) (high : Bool) (s : State) : Host.Outcome State Fault Refusal :=
  answerIf (1 ≤ src && src ≤ 20) (wireFault src high false s)

/-- Put a reading into its place among rising readings. -/
def insertRising (t : Int) : List Int → List Int
  | [] => [t]
  | u :: l => if t ≤ u then t :: u :: l else u :: insertRising t l

/-- The readings of the unbroken sensors other than n, rising. -/
def othersSorted (ts : List Int) (good : List Nat) (n : Nat) : List Int :=
  ((good.filter (· != n)).map (fun m => nth 0 ts m)).foldr insertRising []

/-- Twice the median of the other unbroken sensors (R655), d where there is none. -/
def medianTwice (ts : List Int) (good : List Nat) (n : Nat) (d : Int) : Int :=
  match othersSorted ts good n with
  | [a] => 2 * a
  | [a, b] => a + b
  | [_, b, _] => 2 * b
  | _ => d

/-- A sensor is out of the range of R655 or away from the median of the other unbroken sensors. -/
def sensorBad (ts : List Int) (good : List Nat) (n : Nat) : Bool :=
  let t := nth 0 ts n
  let others := othersSorted ts good n
  let med2 := medianTwice ts good n (2 * t)
  decide (t < -960) || decide (3200 < t) || (2 ≤ others.length && decide (480 < (2 * t - med2).natAbs))

/-- The sensor readings of THM.T. -/
def State.sensors (s : State) : List Int := (List.range 4).map (fun n => signed16 (s.regN (Reg.THM_T n)))

/-- The reports that a level source presents while its condition holds (R639): parameter, P2 and P3. -/
def levelReports (s : State) (src : Nat) : List (Nat × Nat × Nat) :=
  match src with
  | 1 => if s.fld .SYS_BOOTST_RESULT = 4 && s.regN Reg.STG_COUNT = 0 then
      [(s.fld .SYS_BOOTST_AFAIL + 2 * s.fld .SYS_BOOTST_BFAIL, s.sys.boot.seqA, s.sys.boot.seqB)] else []
  | 2 => (if s.flag .SYS_STAT_LOCKED && protCheck s.sys.prot != ew s.sys.prot 13 then
        [(0, (protCheck s.sys.prot).toNat, (ew s.sys.prot 13).toNat)] else [])
      ++ (if s.sys.boot.closedMap then [(1, 0, 0)] else [])
  | 9 => (if s.flag .REF_STAT_MONERR then [(0, min 65535 s.seq.refDiff, 0)] else [])
      ++ (if s.flag .REF_STAT_EXTERR then [(1, min 65535 s.seq.refDiff, 0)] else [])
  | 16 => ((List.range 4).filter (fun n => s.fldBit .THM_STAT_BRK n)).map
      (fun n => (n, s.regN (Reg.THM_T n), wrap16 (medianTwice s.sensors s.goodSensors n 0 / 2)))
  | 17 => ((List.range 4).filter (fun n => !s.fldBit .THM_STAT_BRK n && 2 ≤ nth 0 s.thm.hotRuns n)).map
      (fun n => (n, s.regN (Reg.THM_T n), 0))
  | 19 => if s.isActive && s.flag .PWR_STAT_BELOWRES then [(0, s.regN Reg.PWR_STORE, s.regN Reg.PWR_LOOPS)] else []
  | 21 => s.flt.cond.map (fun c => (c.2, 0, 0))
  | _ => []

/-- LEVEL_REPEAT (R640): a level source whose condition holds and whose ACT bit is 0 reports again. -/
def levelRepeat (src : Nat) (s : State) : State :=
  if (s.reg (Reg.FLT_ACT + src / 16)).getLsbD (src % 16) then s
  else match levelReports s src with
    | [] => s
    | (p, p2, p3) :: _ => report src p p2 p3 s

def execLevelRepeat (src : Nat) (s : State) : Host.Outcome State Fault Refusal :=
  answerIf ([1, 2, 9, 16, 17, 19, 21].contains src) (levelRepeat src s)

/-- PROT_MAP_CHECK (R85): a mismatch of the locked map's check word is reported. -/
def protMapCheck (s : State) : State :=
  if s.flag .SYS_STAT_LOCKED && protCheck s.sys.prot != ew s.sys.prot 13 then
    report 2 0 (protCheck s.sys.prot).toNat (ew s.sys.prot 13).toNat s
  else s

def execProtMapCheck (s : State) : Host.Outcome State Fault Refusal := .next (protMapCheck s)

/-- CRYSTAL_STOP (R639 source 18, R169): the core and the angle base move to the internal oscillator. -/
def crystalStop (s : State) : State :=
  if s.sys.crystal then report 18 1 0 0 { s with sys := { s.sys with crystal := false } } else s

def execCrystalStop (s : State) : Host.Outcome State Fault Refusal := .next (crystalStop s)

/-! ### Clearing the latches (R647, R648) -/

/-- A clearing of the latches takes the broken mark off every sensor no longer in the condition of R655. -/
def clearBroken (s : State) : State :=
  let ts := s.sensors
  let good := s.goodSensors
  forEach 4 (fun n t =>
    if s.fldBit .THM_STAT_BRK n && !sensorBad ts good n then
      { t.setFldBit .THM_STAT_BRK n false with thm := { t.thm with badRuns := t.thm.badRuns.set n 0 } }
    else t) s

/-- Release the functions that wait for the clear (R648 step 4): outputs under R267, engines halted with parameter n
under R434, loops with RBF under R450, ignored pairs under R638. -/
def releaseContained (s : State) : State :=
  let s := forEach 4 (fun k t =>
    if (t.excOut k).overcurrent then
      excUnclear evOver k (t.modExc k (fun x => { x with overcurrent := false }))
    else t) s
  let s := forEach 6 clearHalt s
  let s := forEach 6 (fun n t =>
    if t.flag (.LOOP_STAT_RBF n) then
      (t.setFlag (.LOOP_STAT_RBF n) false).setFlag (.LOOP_STAT_EVT n) true
        |>.modLoop n (fun l => { l with devCount := 0 })
    else t) s
  updateLoops { s with flt := { s.flt with ignored := [], cond := [] } }

/-- CLEAR of R648: copy FIRST to LAST, clear FIRST, OVF, ACT and WCLASS, and release what waits; in the fatal state the
fatal report stays. -/
def clearLatches (s : State) : State :=
  let s := if s.reg32 Reg.FLT_FIRST = 0 then s else s.setReg32 Reg.FLT_LAST (s.reg32 Reg.FLT_FIRST)
  let s := s.setFlag .FLT_STAT_OVF false
  let s := s.setReg64 Reg.FLT_ACT 0
  let s := match s.isFatal, s.sys.fatal with
    | true, some (src, param) =>
      let first := s.reg32 Reg.FLT_FIRST
      ((s.setReg32 Reg.FLT_FIRST
        (if first / 65536 % 8 = clsF then first else src + 256 * (param % 256) + 65536 * clsF)).setFldBit
        ⟨Reg.FLT_ACT + src / 16, 0, 16⟩ (src % 16) true).setFld .FLT_STAT_WCLASS 3
    | _, _ => (s.setReg32 Reg.FLT_FIRST 0).setFld .FLT_STAT_WCLASS 0
  driveFaultPins (clearBroken (releaseContained s))

/-- CLEARALL also sets the counts to 0 (R647). -/
def clearAllLatches (s : State) : State :=
  ((clearLatches s).setRegN Reg.FLT_CCNT 0).setRegN Reg.FLT_UCNT 0

/-- KICK on the HOST path restarts the keep-alive timer; on another path it has no effect (R649). -/
def kickTimer (p : Path) (s : State) : State :=
  if p == .host then { s with flt := { s.flt with hkaRun := s.hkaEnabled } } else s

/-! ### The host keep-alive (R649) -/

/-- HOST_KEEPALIVE_EXPIRE: report source 20, set HKAEXP and HWDR, and cut VHST for 1 s as R50 does. -/
def keepAliveExpire (s : State) : State :=
  if s.flt.hkaRun then
    let s := report 20 0 (s.fld .FLT_STAT_HKA) 0 s
    let s := (s.setFlag .FLT_STAT_HKAEXP true).setFlag .PWR_STAT_HWDR true
    hostCutOff { s with flt := { s.flt with hkaRun := false } }
  else s

def execHostKeepaliveExpire (s : State) : Host.Outcome State Fault Refusal := .next (keepAliveExpire s)

/-! ### Die temperature (R654 to R656) -/

/-- Count the samples in which a sensor is in the condition of R655, and mark it broken at the tenth. -/
def judgeSensor (ts : List Int) (good : List Nat) (n : Nat) (s : State) : State :=
  if s.fldBit .THM_STAT_BRK n then s
  else
    let run := if sensorBad ts good n then nth 0 s.thm.badRuns n + 1 else 0
    let s := { s with thm := { s.thm with badRuns := s.thm.badRuns.set n run } }
    if 10 ≤ run then s.setFldBit .THM_STAT_BRK n true else s

/-- The shutdown count of R656: the consecutive samples of an unbroken sensor at 145.0 °C or above, up to two. -/
def judgeShutdown (ts : List Int) (n : Nat) (s : State) : State :=
  let run := if s.fldBit .THM_STAT_BRK n then 0
    else if 2320 ≤ nth 0 ts n then min 2 (nth 0 s.thm.hotRuns n + 1) else 0
  { s with thm := { s.thm with hotRuns := s.thm.hotRuns.set n run } }

/-- The reports of a sample: the sensors that have reached shutdown, then those newly marked broken, class F first (R642). -/
def reportSensors (ts : List Int) (good : List Nat) (old s : State) : State :=
  let s := forEach 4 (fun n t =>
    if nth 0 t.thm.hotRuns n = 2 && nth 0 old.thm.hotRuns n < 2 then report 17 n (wrap16 (nth 0 ts n)) 0 t else t) s
  forEach 4 (fun n t =>
    if t.fldBit .THM_STAT_BRK n && !old.fldBit .THM_STAT_BRK n then
      report 16 n (wrap16 (nth 0 ts n)) (wrap16 (medianTwice ts good n 0 / 2)) t
    else t) s

/-- The hottest unbroken reading is at or above a level. -/
def hotAtLeast (s : State) (v : Int) : Bool := match s.hottest with | some t => decide (v ≤ t) | none => false

/-- Some sensor is marked broken. -/
def State.anyBroken (s : State) : Bool := s.fld .THM_STAT_BRK != 0

/-- The warning of R656. -/
def judgeWarn (s : State) : State :=
  if hotAtLeast s 1840 || s.anyBroken then s.setFlag .THM_STAT_WARN true
  else if !hotAtLeast s 1808 then s.setFlag .THM_STAT_WARN false
  else s

/-- The throttle request of R656: REQ, REQEV, the THROTTLE record and the grace timer. -/
def judgeThrottle (s : State) : State :=
  if (hotAtLeast s 2000 || s.anyBroken) && !s.flag .THM_STAT_REQ then
    let s := (s.setFlag .THM_STAT_REQ true).setFlag .THM_STAT_REQEV true
    let s := mkRecord 0x083 clsNote [(s.hotSensor).getD 0, tempByte s.hottest] s
    { s with thm := { s.thm with graceRun := true } }
  else if !hotAtLeast s 1968 && !s.anyBroken && s.flag .THM_STAT_REQ then
    { s.setFlag .THM_STAT_REQ false with thm := { s.thm with graceRun := false } }
  else s

/-- The release time of R656 runs while enforcement is in force, the hottest reading is below 115.0 °C and no sensor is
broken. -/
def judgeRelease (s : State) : State :=
  { s with thm := { s.thm with coolRun := s.flag .THM_STAT_ENF && !hotAtLeast s 1840 && !s.anyBroken } }

/-- THM.MAX and the sensor giving the hottest reading (R665, R667); the first reading after a reset is the highest, below 0 as
well. -/
def showHottest (s : State) : State :=
  let s := match s.hotSensor with | some n => s.setFld .THM_STAT_HOT n | none => s
  match s.hottest with
  | some t =>
    if signed16 (s.regN Reg.THM_MAX) < t || !s.thm.sampled then
      { s with thm := { s.thm with sampled := true } }.setRegN Reg.THM_MAX (wrap16 t)
    else s
  | none => s

/-- THERMAL_SAMPLE (R654 to R656): the four sensors are sampled and every level is judged; CNT[3] counts each rise of
the hottest reading through 125.0 °C (R598). -/
def thermalSample (t0 t1 t2 t3 : Int) (s : State) : State :=
  if s.phase ≤ 1 then s
  else
    let wasHot := hotAtLeast s 2000
    let ts := [t0, t1, t2, t3]
    let s := forEach 4 (fun n t => t.setRegN (Reg.THM_T n) (wrap16 (nth 0 ts n))) s
    let good := s.goodSensors
    let s := reportSensors ts good s (forEach 4 (judgeShutdown ts) (forEach 4 (judgeSensor ts good) s))
    let s := judgeThrottle (judgeWarn (showHottest s))
    let s := if hotAtLeast s 2000 && !wasHot then countUp 3 s else s
    tempDue (judgeRelease s)

def execThermalSample (t0 t1 t2 t3 : Int) (s : State) : Host.Outcome State Fault Refusal :=
  answerIf ([t0, t1, t2, t3].all (fun t => decide (-32768 ≤ t) && decide (t ≤ 32767))) (thermalSample t0 t1 t2 t3 s)

/-- GRACE_EXPIRE (R656): REQ still set, so REDTHERM and ENF; a unit in bivouac leaves it, unless for BUDGET
(log entry 26). -/
def graceExpire (s : State) : State :=
  if s.thm.graceRun && s.flag .THM_STAT_REQ then
    let s := { s with thm := { s.thm with graceRun := false } }
    let s := (s.setFlag .THM_STAT_ENF true).setFlag .SYS_STAT_REDTHERM true
    leaveBivouac false (shareSurplus (enterReduced s))
  else s

def execGraceExpire (s : State) : Host.Outcome State Fault Refusal := .next (graceExpire s)

/-- THERMAL_RELEASE (R656): ten seconds below 115.0 °C without a break. -/
def thermalRelease (s : State) : State :=
  if s.thm.coolRun && s.flag .THM_STAT_ENF then
    let s := { s with thm := { s.thm with coolRun := false } }
    let s := (s.setFlag .THM_STAT_ENF false).setFlag .SYS_STAT_REDTHERM false
    let s := mkRecord 0x084 clsInfo [(s.hotSensor).getD 0, tempByte s.hottest] s
    shareSurplus (leaveReduced s)
  else s

def execThermalRelease (s : State) : Host.Outcome State Fault Refusal := .next (thermalRelease s)

/-! ### Fault injection (R653) -/

/-- An injected report of a source and parameter, with the record parameters that R639 gives it left 0. -/
def injectReport (src param : Nat) (s : State) : State :=
  acceptReport (belayClass src param) src param 0 0 true s

/-- The second write of an injection: SRC, MODE and PARAM (R653, R663); none where it is refused. -/
def inject (v : Nat) (s : State) : Option State :=
  let src := v % 64
  let m := v / 64 % 4
  let param := v / 256
  if src < 1 || 20 < src || m = 3 then none
  else if m = 0 then some (injectReport src param s)
  else some (wireFault src (m == 2) true s)

end Sys2Proof.Machine
end

