-- ==== Sys2Proof/Machine/Loops.lean ====
section
/-! DEFINITION. The loop ports (12): the first-value timeout, FIXED, the readback, and low loop voltage. -/

namespace Sys2Proof.Machine

/-- The current that the regulator of loop n drives, in pA (R440, R589): the DAC code with the loop's trim. -/
def State.loopPa (s : State) (n : Nat) : Int :=
  let l := s.loop n
  ((s.regN (Reg.LOOP_DAC n) : Int) * 24000000 * (1000000 + l.trimSpan)) / 65536000 + l.trimZero * 91600

/-! ### FVTMO and FIXED (R445, R446) -/

/-- FVTMO_EXPIRE (R445): no valid value in LOOP[n].FVTMO of running time; a loop not in ENGINE mode is not subject to it. -/
def fvtmoExpire (n : Nat) (s : State) : State :=
  let l := s.loop n
  if l.fvRun && s.isActive && s.seq.frozenAt.isNone then
    let s := s.modLoop n (fun l => { l with fvRun := false })
    if l.mode = 1 then updateLoop n (mkRecord 0x280 clsNote [n] (s.setFlag (.LOOP_STAT_FVEXP n) true)) else s
  else s

def execFvtmoExpire (n : Nat) (s : State) : Host.Outcome State Fault Refusal := answerIf (n < 6) (fvtmoExpire n s)

/-- A write of LOOP[n].FIXED (R446): refused without FORCE or outside the codes of R482. -/
def fixedEffect (p : Path) (n v : Nat) (s : State) : Nat × State :=
  if s.granted p grantForce && codeLow ≤ v && v ≤ codeHigh then (0, updateLoop n (s.setRegN (Reg.LOOP_FIXED n) v))
  else (stDeny, s)

/-! ### Readback (R448 to R450) -/

/-- READBACK_WINDOW_END (R448, R449): the mean read back and the mean commanded code of the window. -/
def readbackEnd (n rback mean : Nat) (s : State) : State :=
  if !s.fitted n || !s.isActive then s
  else
    let l := s.loop n
    let apart := decide (s.regN (Reg.LOOP_RBTOL n) < (max rback mean) - (min rback mean))
    let dev := apart && !(l.lowvSeen && decide (rback < mean)) && !l.startSeen
    let count := if dev then l.devCount + 1 else 0
    let s := (s.setRegN (Reg.LOOP_RBACK n) rback).setFlag (.LOOP_STAT_RBDEV n) dev
    let s := s.modLoop n (fun l => { l with
      devCount := count, lowvSeen := s.flag (.LOOP_STAT_LOWV n), startSeen := s.regN (Reg.LOOP_DAC n) == 0 })
    if s.regN (Reg.LOOP_RBTMO n) ≤ count && dev && !s.flag (.LOOP_STAT_RBF n) then
      let s := (s.setFlag (.LOOP_STAT_RBF n) true).setFlag (.LOOP_STAT_EVT n) true
      updateLoop n (report 11 n mean rback s)
    else s

def execReadbackWindowEnd (n rback mean : Nat) (s : State) : Host.Outcome State Fault Refusal :=
  answerIf (n < 6 && rback < 65536 && mean < 65536) (readbackEnd n rback mean s)

/-! ### Low loop voltage (R451 to R454) -/

/-- LOWV_DETECT (R451): the short band, LOWV, EVT and the record; in a retry row 5 of R444 applies again (R454). -/
def lowvDetect (n : Nat) (s : State) : State :=
  if !s.fitted n || s.flag (.LOOP_STAT_LOWV n) then s
  else
    let s := setBand n bandShort ((s.setFlag (.LOOP_STAT_LOWV n) true).setFlag (.LOOP_STAT_EVT n) true)
    let s := mkRecord 0x281 clsNote [n, s.regN (Reg.LOOP_DAC n), s.regN (Reg.LOOP_RBACK n)] s
    updateLoop n (s.modLoop n (fun l => { l with lvTimer := true, lowvSeen := true, lvRetry := false }))

def execLowvDetect (n : Nat) (s : State) : Host.Outcome State Fault Refusal := answerIf (n < 6) (lowvDetect n s)

/-- LOWV_CLEAR (R451): regulation has held for 100 ms; with direction HIGH, LVALM clears with it (R453). -/
def lowvClear (n : Nat) (s : State) : State :=
  if !s.flag (.LOOP_STAT_LOWV n) then s
  else
    let s := (s.setFlag (.LOOP_STAT_LOWV n) false).setFlag (.LOOP_STAT_EVT n) true
    let s := s.modLoop n (fun l => { l with lvTimer := false })
    let s := if s.fld (bandFld n) = bandShort then setBand n bandBypass s else s
    updateLoop n (if s.almDir n = 1 then s.setFlag (.LOOP_STAT_LVALM n) false else s)

def execLowvClear (n : Nat) (s : State) : Host.Outcome State Fault Refusal := answerIf (n < 6) (lowvClear n s)

/-- LVTMO_EXPIRE (R452, R454): LOWV has lasted LVTMO, so LVALM; or a retry has seen no LOWV for LVTMO, so LVALM clears. -/
def lvtmoExpire (n : Nat) (s : State) : State :=
  let l := s.loop n
  if l.lvTimer && s.flag (.LOOP_STAT_LOWV n) then
    let s := s.modLoop n (fun l => { l with lvTimer := false })
    if s.flag (.LOOP_STAT_LVALM n) then s
    else updateLoop n (mkRecord 0x282 clsNote [n, s.almDir n] (s.setFlag (.LOOP_STAT_LVALM n) true))
  else if l.lvRetry && s.flag (.LOOP_STAT_LVALM n) && !s.flag (.LOOP_STAT_LOWV n) then
    let s := s.modLoop n (fun l => { l with lvRetry := false })
    updateLoop n (mkRecord 0x283 clsInfo [n] (s.setFlag (.LOOP_STAT_LVALM n) false))
  else s

def execLvtmoExpire (n : Nat) (s : State) : Host.Outcome State Fault Refusal := answerIf (n < 6) (lvtmoExpire n s)

/-- LVALM_RETRY (R454): row 5 is cleared for a try; while LOWV is still set the try fails at once (log entry 27). -/
def lvalmRetry (n : Nat) (s : State) : State :=
  if s.flag (.LOOP_STAT_LVALM n) && s.almDir n == 0 && !s.flag (.LOOP_STAT_LOWV n) then
    updateLoop n (s.modLoop n (fun l => { l with lvRetry := true }))
  else s

def execLvalmRetry (n : Nat) (s : State) : Host.Outcome State Fault Refusal := answerIf (n < 6) (lvalmRetry n s)

end Sys2Proof.Machine
end

