-- ==== Sys2Proof/Machine/Reset.lean ====
section
/-! DEFINITION. The resets (R68 to R70, R89 to R92): what each one keeps, the writes it cuts short or waits for
(R582, R584, R585), and the release of the device. -/

namespace Sys2Proof.Machine

/-! ### Sources (R69, R107) -/

/-- The bit of SYS.RSTCAUSE that a source sets. -/
def causeBit : ResetSrc → Nat
  | .por => 0
  | .bor => 1
  | .xrst => 2
  | .watchdog => 3
  | .software => 4
  | .ropeReset => 5

/-- The order of R69, the widest effect first. -/
def effectRank : ResetSrc → Nat
  | .por => 0
  | .bor => 1
  | .xrst => 2
  | .watchdog => 2
  | .software => 3
  | .ropeReset => 3

/-- The source that governs the boot that follows. -/
def widest (srcs : List ResetSrc) (d : ResetSrc) : ResetSrc :=
  srcs.foldl (fun a b => if effectRank b < effectRank a then b else a) d

/-- Whether a reset keeps the chain address and the rope's forwarding (R89). -/
def keepsRope (c : ResetSrc) : Bool := c == .software || c == .ropeReset

/-- The bits of SYS.RSTCAUSE for sources asserted together. -/
def causeWord (srcs : List ResetSrc) : Word := srcs.foldl (fun w c => w ||| (1 <<< causeBit c)) 0

/-! ### Writes cut short (R584, R585) -/

/-- The ECC enable and check bits of a word of the group that a cut left in progress: open, so that the word may be reported
either way or not at all (R584, log entry 1). -/
def cutWord (w : Nat) (s : State) : State :=
  let (enabled, s) := s.freeChoice
  let (bad, s) := s.freeChoice
  let (double, s) := s.freeChoice
  { s with nvm := { s.nvm with
    ecc := s.nvm.ecc.filter (· != w) ++ (if enabled then [w] else [])
    errs := s.nvm.errs.filter (·.1 != w) ++ (if bad then [(w, double)] else []) } }

/-- Bytes of which the program was in progress: each lies bitwise between old and old AND new, and its open bits need not read
the same each time (R584). -/
def cutBytes (a : Nat) (new : List Byte) (s : State) : State :=
  let old := s.storeBytes a new.length
  let both := List.zipWith (· &&& ·) old new
  let (left, s) := cutShort old both s
  let open_ := ((List.zipWith (· ^^^ ·) old both).zipIdx.map (fun p => (a + p.2, p.1.toNat))).filter (fun e => e.2 != 0)
  let s := s.setStore (writeRun erasedByte s.nvm.store a left)
  { s with nvm := { s.nvm with
    loose := s.nvm.loose.filter (fun e => !open_.any (fun o => o.1 == e.1)) ++ open_ } }

/-- A page program cut short in its group g of 16 bytes: the groups before it are whole, those behind it untouched (R581,
R584). -/
def cutProgram (a g : Nat) (bs : List Byte) (s : State) : State :=
  let from_ := max a (16 * g)
  let whole := bs.take (from_ - a)
  let part := (bs.drop (from_ - a)).take (16 * g + 16 - from_)
  let s := s.setStore (writeRun erasedByte s.nvm.store a (List.zipWith (· &&& ·) (s.storeBytes a whole.length) whole))
  let done := (List.range (2 * g - a / 8)).map (fun k => a / 8 + k)
  let s := { s with nvm := { s.nvm with ecc := s.nvm.ecc ++ done.filter (fun w => !s.nvm.ecc.contains w) } }
  cutWord (2 * g + 1) (cutWord (2 * g) (cutBytes from_ part s))

/-- The store after an operation in progress is cut short (R584, R585): which group of a page program was in progress, and what
its bits read, is open, as is every bit of a sector whose erase was cut (log entry 1). -/
def cutFlash (s : State) : State :=
  let s := match s.nvm.op with
    | none => s
    | some (.program a bs) =>
      let (v, s) := s.freeDraw
      cutProgram a (a / 16 + v.toNat % ((a + bs.length - 1) / 16 + 1 - a / 16)) bs s
    | some (.byteProgram a b) => cutBytes a [b] { s with nvm := { s.nvm with ecc := s.nvm.ecc.filter (· != a / 8) } }
    | some (.erase k) =>
      let (left, s) := cutShort (List.replicate 2048 0) (List.replicate 2048 0xFF) s
      s.setStore (writeRun erasedByte s.nvm.store (2048 * k) left)
  { s with nvm := { s.nvm with op := none } }

/-- The external memory after its operation is left without its port: what a program, a write or an erase leaves is
open (log entry 1). -/
def cutXmem (s : State) : State :=
  match s.xfer.op with
  | none => s
  | some o =>
    if o.kind = 2 then s
    else
      let n := if o.kind = 1 then 4096 else o.bytes.length
      let old := s.memBytes o.addr n
      let new := readRun erasedByte (memAfter s.isFlash o s.xfer.mem) o.addr n
      let (left, s) := cutShort old new s
      s.modXfer (fun x => { x with mem := writeRun erasedByte x.mem o.addr left })

/-! ### What survives (R89) -/

/-- The DAC codes in force, held by the always-on domain (R92). -/
def heldCodes (s : State) : List LoopSt :=
  (List.range 6).map (fun n =>
    let c := s.regN (Reg.LOOP_DAC n)
    let l : LoopSt := {}
    { l with held := if s.flag (.LOOP_CFG_FIT n) && c != 0 then some c else none })

/-- The rope state that a software or rope reset keeps: links, credits, frames, addresses and teams; commits in progress
are lost with the shadow. -/
def keptRope (r : Rope) : Rope :=
  { r with leads := [{}, {}, {}, {}], member := none, prepWait := [], teamWrites := [], inbox := [], resetAfter := none,
           avWindow := (0, 0, 0), avLoss := 0 }

/-- Copy a register word from the state before the reset. -/
def keepReg (old : State) (a : Nat) (s : State) : State := s.setReg a (old.reg a)

/-- Copy a field from the state before the reset. -/
def keepFld (old : State) (f : Fld) (s : State) : State := s.setFld f (old.fld f)

/-- The ROPE fields that stay with the chain address and the running links. -/
def ropeFields : List Fld :=
  [⟨Reg.ROPE_ADDR, 0, 16⟩, .ROPE_STAT_HEAD, .ROPE_STAT_ENUMD, .ROPE_STAT_ORPHAN, .ROPE_STAT_BCNTX, .ROPE_STAT_CYCLE,
   .ROPE_UP_STATE, .ROPE_UP_LDLY, .ROPE_DN_STATE, ⟨Reg.ROPE_TEAMS, 0, 16⟩]

/-- What the always-on domain goes on holding through every reset but a new POR: the bands of the loops, VAUX, and the last
measured store voltage (R70, log entry 35). -/
def keptSupply (srcs : List ResetSrc) (old s : State) : State :=
  if srcs.contains .por then s
  else keepFld old .PWR_STAT_VAUXP (keepReg old Reg.PWR_ESTOV (keepReg old Reg.PWR_LOOPS s))

/-- SYS.RSTCAUSE after sources are asserted (R69, R107): a POR begins it anew, and a source asserted while POR holds the
device adds its bit. -/
def causesAfter (c : ResetSrc) (srcs : List ResetSrc) (old : State) : Word :=
  if c == .por then
    causeWord srcs ||| (if old.sys.held && old.sys.boot.cause == .por then old.reg Reg.SYS_RSTCAUSE &&& 0x003F else 0)
  else (old.reg Reg.SYS_RSTCAUSE &&& 0x003F) ||| causeWord srcs ||| (if old.isFatal then 0x8000 else 0)

/-- The registers after a reset with governing source c: reset values but for what R89 keeps. -/
def keptRegs (c : ResetSrc) (srcs : List ResetSrc) (old s : State) : State :=
  let s := forEach 16 (fun k t => keepReg old (Reg.CNT 0 + k) t) s
  let s := (keptSupply srcs old s).setReg Reg.SYS_RSTCAUSE (causesAfter c srcs old)
  if c == .por then s
  else
    let s := (keepFld old .FLT_STAT_FATAL s).setReg32 Reg.FLT_LAST
      (if old.reg32 Reg.FLT_FIRST = 0 then old.reg32 Reg.FLT_LAST else old.reg32 Reg.FLT_FIRST)
    let s := keepFld old .SYS_STAT_TESTMODE s
    let s := if c == .bor then s else keepFld old .SYS_STAT_ALMPIN s
    let s := keepFld old .LOG_STAT_LOCK (keepReg old Reg.LOG_CLRST s)
    let s := if s.fld .LOG_CLRST_STATE = 5 then s else s.setFld .LOG_CLRST_STATE 0
    if keepsRope c then forList ropeFields (keepFld old) s else s

/-- The state that a reset leaves (R89): State.reset with what the governing source keeps. -/
def resetState (c : ResetSrc) (srcs : List ResetSrc) (old : State) : State :=
  let por := c == .por
  let lost := por || c == .bor
  let pins : Sys := { held := old.sys.held, asserted := old.sys.asserted, xclrLow := old.sys.xclrLow }
  let s : State := { State.reset with
    now := old.now
    free := old.free
    pending := old.pending
    sys := { pins with
      fatal := if por then none else old.sys.fatal
      vddio := !por && old.sys.vddio
      xosc := !por && old.sys.xosc
      strapDue := old.sys.strapDue || lost
      testDue := old.sys.testDue || por
      bleed := !por && old.sys.bleed
      boot := { cause := c } }
    nvm := { store := old.nvm.store
             ecc := old.nvm.ecc
             errs := old.nvm.errs
             loose := old.nvm.loose
             subBase := if lost then old.now else old.nvm.subBase
             factory := old.nvm.factory
             imgKey := old.nvm.imgKey
             logKey := old.nvm.logKey }
    xfer := { mem := old.xfer.mem }
    log := { lockUntil := if por then 0 else old.log.lockUntil }
    rope := if keepsRope c then keptRope old.rope else {}
    tab := { team := if keepsRope c then old.tab.team else [] }
    loops := if lost then List.replicate 6 {} else heldCodes old }
  let s := updateLoops (keptRegs c srcs old s)
  driveFaultPins (forEach 6 (fun n t => t.setFlag (.LOOP_STAT_EVT n) false) s)

/-! ### Holding and releasing -/

/-- Boot begins at phase 1 (R68); a fatal latch that survived shows in FLT.FIRST (R652). -/
def release (s : State) : State :=
  let c := s.sys.boot.cause
  let s := if keepsRope c then s else resetState .xrst [] s
  let s := { s with sys := { s.sys with held := false, asserted := [], waiting := [], boot := { cause := c } } }
  match s.isFatal, s.sys.fatal with
  | true, some (src, param) =>
    driveFaultPins (((s.setReg32 Reg.FLT_FIRST (src + 256 * (param % 256) + 65536 * clsF)).setFldBit
      ⟨Reg.FLT_ACT + src / 16, 0, 16⟩ (src % 16) true).setFld .FLT_STAT_WCLASS 3)
  | _, _ => driveFaultPins s

/-- Reset sources take effect together (R69): the state of R89, held while a pin or a supply asserts one. -/
def takeReset (srcs : List ResetSrc) (s : State) : State :=
  let d := if s.sys.held then s.sys.boot.cause else .ropeReset
  let c := widest srcs d
  let s := cutXmem (if srcs.contains .por || srcs.contains .bor then cutFlash s else s)
  let s := resetState c srcs s
  if s.sys.asserted.isEmpty then release s else { s with sys := { s.sys with held := true, waiting := [] } }

/-- A reset other than POR or BOR (R582): it waits for a store operation in progress. -/
def gentleReset (c : ResetSrc) (s : State) : State :=
  if s.nvm.op.isSome && !s.sys.held then
    { s with sys := { s.sys with waiting := s.sys.waiting ++ [c] } }
  else takeReset [c] s

/-- The store operation is over: a reset that waited for it takes effect. -/
def waitedReset (s : State) : State := if s.sys.waiting.isEmpty then s else takeReset s.sys.waiting s

/-- A source that holds the device is asserted. -/
def assertReset (c : ResetSrc) (s : State) : State :=
  { s with sys := { s.sys with asserted := s.sys.asserted.filter (· != c) ++ [c] } }

/-- A supply reset is asserted: it takes effect at once, with every source asserted or waiting. -/
def supplyReset (c : ResetSrc) (s : State) : State :=
  let s := assertReset c s
  takeReset (s.sys.asserted ++ s.sys.waiting) s

/-- A source is no longer asserted: when it was the last, the device is released. -/
def dropReset (c : ResetSrc) (s : State) : State :=
  let s := { s with sys := { s.sys with asserted := s.sys.asserted.filter (· != c) } }
  if s.sys.held && s.sys.asserted.isEmpty then release s else s

/-! ### The commands -/

/-- POR_ASSERT (R68). -/
def execPorAssert (s : State) : Host.Outcome State Fault Refusal := .next (supplyReset .por s)

/-- POR_RELEASE (R68). -/
def execPorRelease (s : State) : Host.Outcome State Fault Refusal := .next (dropReset .por s)

/-- The bleed of R70: with no income and ESTO below 7.0 V, BOR connects it. The bands and the store voltage are those that
the always-on domain holds, in a reset as outside one. -/
def bleedDue (s : State) : Bool := s.availNode == 0 && decide (s.regN Reg.PWR_ESTOV < 7000)

/-- BOR_ASSERT (R68, R70): a supply dip's queued record is lost (R95). -/
def execBorAssert (s : State) : Host.Outcome State Fault Refusal :=
  .next (supplyReset .bor { s with sys := { s.sys with bleed := s.sys.bleed || bleedDue s } })

/-- BOR_RELEASE (R68). -/
def execBorRelease (s : State) : Host.Outcome State Fault Refusal := .next (dropReset .bor s)

/-- XRST is taken as a reset from a pulse of this width on: 1 µs resets, below 200 ns is ignored, and between the two
the manual leaves it open (R68, log entry 1). -/
def xrstAssert (widthNs : Nat) (s : State) : State :=
  if 1000 ≤ widthNs then gentleReset .xrst (assertReset .xrst s)
  else if widthNs < 200 then s
  else
    let (taken, s) := s.freeChoice
    if taken then gentleReset .xrst (assertReset .xrst s) else s

/-- XRST_ASSERT (R68). -/
def execXrstAssert (widthNs : Nat) (s : State) : Host.Outcome State Fault Refusal := .next (xrstAssert widthNs s)

/-- XRST_RELEASE (R68). -/
def execXrstRelease (s : State) : Host.Outcome State Fault Refusal := .next (dropReset .xrst s)

/-- WATCHDOG_EXPIRE (R68): released immediately; nothing to expire while the device is held. -/
def execWatchdogExpire (s : State) : Host.Outcome State Fault Refusal :=
  .next (if s.sys.held then s else gentleReset .watchdog s)

end Sys2Proof.Machine
end

