-- ==== Sys2Proof/Machine/Fsk.lean ====
section
/-! DEFINITION. The FSK channels (12): frames out, the message queue and burst mode. Frames in, which may run a register
access, are in Maint.lean. -/

namespace Sys2Proof.Machine

/-! ### Table space FSKQ (R469 to R472) -/

/-- The key of word w of message slot k of loop n. -/
def slotKey (n k w : Nat) : Nat := 512 * n + 64 * k + w

/-- The key of word w of burst entry b. -/
def burstKey (n b w : Nat) : Nat := 512 * n + 256 + 64 * b + w

/-- The key of word w of the identity. -/
def identKey (n w : Nat) : Nat := 512 * n + 448 + w

/-- An active word of FSKQ. -/
def State.fskW (s : State) (k : Nat) : Word := readAt zeroWord s.tab.fsk k

/-- Set an active word of FSKQ. -/
def setFskW (k : Nat) (w : Word) (s : State) : State :=
  { s with tab := { s.tab with fsk := writeAt zeroWord s.tab.fsk k w } }

def slotFree : Nat := 0
def slotReceived : Nat := 1
def slotPosted : Nat := 2

/-- The state of a slot. -/
def State.slotState (s : State) (n k : Nat) : Nat := getField (s.fskW (slotKey n k 0)) 13 3

/-- QCNT (R485): slots in state RECEIVED. -/
def showQueue (n : Nat) (s : State) : State :=
  s.setFld (.FSK_STAT_QCNT n) ((List.range 4).filter (fun k => s.slotState n k == slotReceived)).length

/-- Put a slot into a state. -/
def setSlot (n k st : Nat) (s : State) : State :=
  showQueue n (setFskW (slotKey n k 0) (if st = slotFree then 0 else putField (s.fskW (slotKey n k 0)) 13 3 st) s)

/-- The modem of loop n is on (R456). -/
def State.modemOn (s : State) (n : Nat) : Bool := s.isActive && s.fitted n && s.flag (.FSK_CTRL_EN n)

/-- The bytes packed into words from a key on, the earlier byte low. -/
def fskBytes (s : State) (key count : Nat) : List Byte :=
  (bytesOfWords ((List.range (ceilDiv count 2)).map (fun i => s.fskW (key + i)))).take count

/-! ### The physical layer (R455) -/

/-- A character on the line: a start bit, eight data bits with the LSB first, odd parity and a stop bit. -/
def fskChar (b : Byte) : List Bool :=
  let bits := (List.range 8).map b.getLsbD
  [false] ++ bits ++ [(bits.filter id).length % 2 == 0, true]

/-- The tone of a bit in Hz: mark 1,200, space 2,200. -/
def toneHz (bit : Bool) : Nat := if bit then 1200 else 2200

/-- The tones that the frame in progress puts on the loop current, 1/1,200 s each. -/
def State.fskTones (s : State) (n : Nat) : List Nat :=
  match (s.fskCh n).tx with
  | [] => []
  | f :: _ => (f.bytes.flatMap fskChar).map toneHz

/-! ### Frames out (R461, R465) -/

/-- The 38-bit long address (R459): the low 14 bits of the device type, then the device id. -/
def State.longAddr (s : State) (n : Nat) : Nat :=
  (s.fskW (identKey n 2)).toNat % 16384 * 16777216 + (s.fskW (identKey n 3)).toNat
    + 65536 * ((s.fskW (identKey n 4)).toNat % 256)

/-- The polling address. -/
def State.pollAddr (s : State) (n : Nat) : Nat := (s.fskW (identKey n 0)).toNat % 64

/-- Preamble characters of a frame out (R472). -/
def preambles (s : State) (n : Nat) : List Byte :=
  let k := getField (s.fskW (identKey n 0)) 8 5
  List.replicate (if 5 ≤ k && k ≤ 20 then k else 5) 0xFF

/-- The second status byte (R461). -/
def statusByte (s : State) (n : Nat) : Nat :=
  (s.fskW (identKey n 5)).toNat % 256
  ||| (if 2 ≤ s.fld .FLT_STAT_WCLASS then 0x80 else 0)
  ||| (if (s.loop n).mode = 2 || s.flag (.FSK_CTRL_MDROP n) then 0x08 else 0)
  ||| (if s.flag (.LOOP_STAT_LOWV n) || s.flag (.VAL_STAT_SAT n) then 0x04 else 0)

/-- The address bytes of a frame: the master bit, the burst bit, and 6 or 38 address bits, high byte first. -/
def addrBytes (s : State) (n : Nat) (long master : Bool) (addr : Nat) : List Byte :=
  let top := (if master then 128 else 0) + (if s.flag (.FSK_STAT_BACT n) then 64 else 0)
  if long then byte (top + addr / 4294967296 % 64) :: beNat 4 (addr % 4294967296)
  else [byte (top + addr % 64)]

/-- A frame from its delimiter to its check byte, the XOR of the bytes before it (R458), behind its preambles. -/
def frameOut (s : State) (n delim : Nat) (addr : List Byte) (cmd code : Nat) (data : List Byte) : List Byte :=
  let body := [byte delim] ++ addr ++ [byte cmd, byte (2 + data.length), byte code, byte (statusByte s n)] ++ data
  preambles s n ++ body ++ [body.foldl (fun a b => a ^^^ b) 0]

/-- An ACK frame (R461; the delimiter codes are of log entry 28). -/
def ackFrame (s : State) (n : Nat) (long master : Bool) (addr cmd code : Nat) (data : List Byte) : List Byte :=
  frameOut s n (if long then 0x86 else 0x06) (addrBytes s n long master addr) cmd code data

/-- Put a frame behind those going out (R485: TXON). -/
def sendFsk (n : Nat) (bytes : List Byte) (slot : Option Nat) (s : State) : State :=
  (s.modFsk n (fun c => { c with tx := c.tx ++ [⟨bytes, slot⟩] })).setFlag (.FSK_STAT_TXON n) true

/-- The address of a slot's request, as its response repeats it (R461). -/
def slotAddr (s : State) (n k : Nat) : Nat :=
  let w := s.fskW (slotKey n k 0)
  if w.getLsbD 10 then 0 else if w.getLsbD 11 then s.longAddr n else s.pollAddr n

/-- Answer a slot's message with a response code and data. -/
def answerSlot (n k code : Nat) (data : List Byte) (slot : Option Nat) (s : State) : State :=
  let w := s.fskW (slotKey n k 0)
  sendFsk n (ackFrame s n (w.getLsbD 11) (w.getLsbD 12) (slotAddr s n k)
    (getField (s.fskW (slotKey n k 1)) 8 8) code data) slot s

/-! ### The message queue (R462 to R464) -/

/-- A write of word 0 of a slot (R463, R464, R470): POSTED and FREE, on a RECEIVED slot only. -/
def slotWrite (n k : Nat) (v : Word) (s : State) : Nat × State :=
  let st := getField v 13 3
  if s.slotState n k != slotReceived || (st != slotPosted && st != slotFree) then (stDeny, s)
  else if st = slotFree then
    (0, setSlot n k slotFree (s.modFsk n (fun c => { c with arrived := c.arrived.filter (fun a => a.1 != k) })))
  else
    let code := getField (s.fskW (slotKey n k 32)) 0 8
    let count := min 56 (getField (s.fskW (slotKey n k 33)) 0 8)
    (0, setSlot n k slotPosted (answerSlot n k code (fskBytes s (slotKey n k 36) count) (some k) s))

/-- RESPONSE_SENT (R463): the frame in progress has ended; its slot is FREE again. -/
def responseSent (n : Nat) (s : State) : State :=
  match (s.fskCh n).tx with
  | [] => s
  | f :: rest =>
    let s := (s.modFsk n (fun c => { c with tx := rest })).setFlag (.FSK_STAT_TXON n) (!rest.isEmpty)
    match f.slot with
    | some k => setSlot n k slotFree (s.modFsk n (fun c => { c with arrived := c.arrived.filter (fun a => a.1 != k) }))
    | none => s

def execResponseSent (n : Nat) (s : State) : Host.Outcome State Fault Refusal := answerIf (n < 6) (responseSent n s)

/-- MESSAGE_EXPIRE (R464): a message still RECEIVED is answered Busy, its slot is FREE and LATE is set. -/
def messageExpire (n k : Nat) (s : State) : State :=
  if s.slotState n k = slotReceived then
    let s := answerSlot n k 32 [] none s
    (setSlot n k slotFree (s.modFsk n (fun c => { c with arrived := c.arrived.filter (fun a => a.1 != k) }))).setFlag
      (.FSK_STAT_LATE n) true
  else s

def execMessageExpire (n slot : Nat) (s : State) : Host.Outcome State Fault Refusal :=
  answerIf (n < 6 && slot < 4) (messageExpire n slot s)

/-! ### Burst mode (R465, R466) -/

/-- The value that an insertion names (R471): a state-entry value, with the not-a-number code where it is invalid. -/
def insertValue (s : State) (n : Nat) (d : Word) : Nat :=
  let e := (s.engine (getField d 4 4)).entry
  let v := fun (i : Nat) => (ew e i).toNat + 65536 * (ew e (i + 1)).toNat
  let bad : Nat := 0x7FA00000
  match getField d 0 4 with
  | 1 => if (ew e 8).getLsbD 15 then v 0 else bad
  | 2 => v 2
  | 3 => v 4
  | 4 => if (ew e 8).getLsbD 14 then v 6 else bad
  | _ => fOf (s.regN (Reg.LOOP_DAC n) * 24) 65536

/-- Replace four bytes of a payload. -/
def insertAtByte (bs : List Byte) (off v : Nat) : List Byte :=
  bs.take off ++ beNat 4 v ++ bs.drop (off + 4)

/-- The payload of burst entry b with its insertions (R466). -/
def burstPayload (s : State) (n b : Nat) : List Byte :=
  let len := min 56 (getField (s.fskW (burstKey n b 2)) 0 8)
  (List.range 4).foldl (fun bs i =>
    let d := s.fskW (burstKey n b (4 + i))
    if getField d 0 4 = 0 then bs else (insertAtByte bs (getField d 8 8) (insertValue s n d)).take len)
    (fskBytes s (burstKey n b 8) len)

/-- BURST_FRAME_SEND (R465): a BACK frame to the long address; the master bit alternates; none in the fatal state. -/
def burstSend (n b : Nat) (s : State) : State :=
  if s.modemOn n && s.flag (.FSK_CTRL_BURST n) && (s.fskW (burstKey n b 0)).getLsbD 15 && !s.isFatal then
    let m := (s.fskCh n).burstMaster
    let f := frameOut s n 0x81 (addrBytes s n true m (s.longAddr n)) (getField (s.fskW (burstKey n b 0)) 0 8) 0
      (burstPayload s n b)
    sendFsk n f none (s.modFsk n (fun c => { c with burstMaster := !m }))
  else s

def execBurstFrameSend (n e : Nat) (s : State) : Host.Outcome State Fault Refusal :=
  answerIf (n < 6 && e < 3) (burstSend n e s)

/-! ### Carrier and aborted frames (R455, R458) -/

/-- CARRIER_DETECT (R455): CD follows the carrier while the modem is on. -/
def carrierDetect (n : Nat) (on : Bool) (s : State) : State := s.setFlag (.FSK_STAT_CD n) (on && s.modemOn n)

def execCarrierDetect (n : Nat) (on : Bool) (s : State) : Host.Outcome State Fault Refusal :=
  answerIf (n < 6) (carrierDetect n on s)

/-- FSK_FRAME_ABORT (R458): the characters received so far are given up without an answer; a frame reaches the state only
once it is complete, so nothing else changes. -/
def execFskFrameAbort (n : Nat) (s : State) : Host.Outcome State Fault Refusal := answerIf (n < 6) s

end Sys2Proof.Machine
end

