-- ==== Sys2Proof/Machine/Rope.lean ====
section
/-! DEFINITION. The rope below its register access (13): links and handshake, frames, credits and routing, enumeration,
hop delays, beacons and event notices. -/

namespace Sys2Proof.Machine

/-! ### Ports -/

def linkDown : Nat := 0
def linkSignal : Nat := 1
def linkUp : Nat := 2
def linkOff : Nat := 3

def State.port (s : State) : Port → PortSt
  | .up => s.rope.up
  | .dn => s.rope.dn

def State.modRope (s : State) (f : Rope → Rope) : State := { s with rope := f s.rope }

def State.modPort (s : State) (p : Port) (f : PortSt → PortSt) : State :=
  s.modRope (fun r => match p with
    | .up => { r with up := f r.up }
    | .dn => { r with dn := f r.dn })

def stateFld : Port → Fld
  | .up => .ROPE_UP_STATE
  | .dn => .ROPE_DN_STATE

def lossFld : Port → Fld
  | .up => .ROPE_UP_LOSSEV
  | .dn => .ROPE_DN_LOSSEV

def errFld : Port → Fld
  | .up => .ROPE_ERRCNT_UP
  | .dn => .ROPE_ERRCNT_DN

def State.link (s : State) (p : Port) : Nat := s.fld (stateFld p)
def State.isUp (s : State) (p : Port) : Bool := s.link p == linkUp

/-- A port changes its link state (R490, R527). -/
def setLink (p : Port) (v : Nat) (s : State) : State :=
  if s.link p = v then s else (s.setFld (stateFld p) v).setFlag .ROPE_STAT_LINKEV true

def otherPort : Port → Port
  | .up => .dn
  | .dn => .up

def State.isHead (s : State) : Bool := s.flag .ROPE_STAT_HEAD
def State.hasAddr (s : State) : Bool := s.flag .ROPE_ADDR_VALID
def State.uid (s : State) : Nat := s.reg64 Reg.SYS_UID
def State.role (s : State) : Nat := s.fld .ROPE_CFG_ROLE

/-- The transmit mode of R489: ACTIVE while the rope lease is granted in FULL, outside REDUCED and bivouac. -/
def State.linkActive (s : State) : Bool := s.pwr.rope.inForce && s.profile == 3 && s.mode == modeActive

/-! ### The line (R487 to R489) -/

/-- A bit as its two half-bit levels: a 1 rises at mid-bit. -/
def manchester (bit : Bool) : List Bool := [!bit, bit]

/-- Idle: Manchester 1 bits. -/
def idleLine (bits : Nat) : List Bool := (List.replicate bits true).flatMap manchester

/-- The start flag J K J K J K J K: J high and K low for a whole bit time. -/
def startFlag : List Bool := (List.replicate 4 [true, true, false, false]).flatten

/-- A frame's bytes on the line, each least significant bit first, between its flag and its gap of 16 bit times. -/
def frameLine (bs : List Byte) : List Bool :=
  startFlag ++ (bs.flatMap (fun b => (List.range 8).map b.getLsbD)).flatMap manchester ++ idleLine 16

/-- What a port drives for a frame: in KEEPALIVE the driver comes on 16 idle bit times before the flag (R489). -/
def State.portLine (s : State) (bs : List Byte) : List Bool := (if s.linkActive then [] else idleLine 16) ++ frameLine bs

/-- The rope runs (R490): from ACTIVE, or throughout after a software or rope reset; not in the fatal state of R91. -/
def State.ropeRuns (s : State) : Bool := s.isUp .up || s.isUp .dn || s.isActive

/-! ### Frame types (R494) -/

def tyCredit : Nat := 0
def tyRd : Nat := 1
def tyWr : Nat := 2
def tyRsp : Nat := 3
def tyBcn : Nat := 4
def tyDly : Nat := 5
def tyEnum : Nat := 6
def tyTeam : Nat := 7
def tyCmt : Nat := 8
def tyRst : Nat := 9
def tyWake : Nat := 10
def tyEvt : Nat := 11
def tyData : Nat := 12
def tyHello : Nat := 13

/-- The channel of a type, or none for a reserved type. -/
def typeVc : Nat → Option Nat
  | 4 => some 1
  | 5 => some 1
  | 11 => some 3
  | 12 => some 2
  | 14 => none
  | 15 => none
  | n => if n < 14 then some 0 else none

/-- CREDIT, HELLO and DLY go no further than the link and use no credit. -/
def linkLocal (t : Nat) : Bool := t == tyCredit || t == tyHello || t == tyDly

/-- The buffer of each channel in 16-byte units (R496). -/
def vcUnits : Nat → Nat
  | 1 => 4
  | 2 => 32
  | _ => 8

/-- The units a frame costs (R496). -/
def frameUnits (len : Nat) : Nat := ceilDiv (len + 6) 16

def listAt (l : List Nat) (n : Nat) : Nat := l.getD n 0

/-! ### Waiting frames -/

/-- Put a frame in a port's transmit queue. -/
def queueFrame (p : Port) (f : RopeFrame) (s : State) : State := s.modPort p (fun q => { q with queue := q.queue ++ [f] })

/-- The units of a channel of a port have been freed: the return waits (R497). -/
def freeUnits (p : Port) (vc n : Nat) (s : State) : State :=
  s.modPort p (fun q => { q with
    freedOut := q.freedOut.set vc ((listAt q.freedOut vc + n) % 64)
    creditPend := if q.creditPend.contains vc then q.creditPend else q.creditPend ++ [vc] })

/-- Credit is held for a frame (R496). -/
def hasCredit (q : PortSt) (f : RopeFrame) : Bool :=
  linkLocal f.typ ||
    decide ((listAt q.sent f.vc + 64 - listAt q.freed f.vc) % 64 + frameUnits f.payload.length ≤ vcUnits f.vc)

/-! ### Routing (R501) -/

/-- The key of word w of entry e of a team slot (R523). -/
def teamKey (t e w : Nat) : Nat := 256 * t + 8 * e + w

def State.teamW (s : State) (t e w : Nat) : Word := readAt zeroWord s.tab.team (teamKey t e w)

/-- STATE of a team slot (R524). -/
def State.teamState (s : State) (t : Nat) : Nat := getField (s.teamW t 0 1) 13 3

/-- The team id that a slot's last DEFINE gave, in its aggregate entry (R526). -/
def State.teamId (s : State) (t : Nat) : Nat := (s.teamW t 31 4).toNat

/-- The slot in which this unit leads a team, if it does: one with that id that is ACTIVE, in CYCLE or being redefined. -/
def State.ledSlot (s : State) (id : Nat) : Option Nat :=
  (List.range 4).find? (fun t => 1 ≤ s.teamState t && s.teamState t ≤ 3 && s.teamId t == id && id != 0)

/-- The destination is this unit or a team it leads. -/
def State.isMine (s : State) (dst : Nat) : Bool :=
  (s.hasAddr && s.unitNo == dst) || (1 ≤ dst && dst ≤ 30 && (s.ledSlot dst).isSome)

/-- What routing does with a frame: consumed here, sent on UP, sent on DN, unknown at the head. -/
structure RouteTo where
  here : Bool
  up : Bool
  dn : Bool
  unknown : Bool
deriving DecidableEq, Repr

/-- The rows of R501; `frm` is the arrival port, none for local origin. -/
def State.routeTo (s : State) (frm : Option Port) (dst : Nat) : RouteTo :=
  if s.isMine dst then ⟨true, false, false, false⟩
  else if dst = 31 then
    match frm with
    | some .up => ⟨true, false, true, false⟩
    | some .dn => ⟨true, !s.isHead, false, false⟩
    | none => ⟨true, !s.isHead, true, false⟩
  else if frm != some .dn && s.rope.dnMask.testBit dst then ⟨false, false, true, false⟩
  else if frm == some .up then ⟨false, false, false, false⟩
  else if s.isHead then ⟨false, false, false, true⟩
  else ⟨false, true, false, false⟩

/-- Broadcasts that R501 discards. -/
def badBroadcast (f : RopeFrame) : Bool :=
  f.dst == 31 && (f.typ == tyRst || f.typ == tyWake || f.typ == tyTeam || f.typ == tyCmt
    || (f.typ == tyEnum && f.payload.head? != some 5))

/-- Send a frame on a port; false where the port is not UP. -/
def putFrame (p : Port) (f : RopeFrame) (s : State) : Bool × State :=
  if s.isUp p then (true, queueFrame p f s) else (false, s)

/-- Send a frame of local origin (R501): whether it could be delivered or sent, and the state. What a frame for this unit
itself does, its sender does in the same step. -/
def sendFrame (f : RopeFrame) (s : State) : Bool × State :=
  let r := s.routeTo none f.dst
  if badBroadcast f || r.unknown then (false, s)
  else if f.dst = 31 then
    let (_, s) := if r.up then putFrame .up f s else (false, s)
    let (_, s) := putFrame .dn f s
    (true, s)
  else if r.here then (true, s)
  else if r.dn then putFrame .dn f s
  else putFrame .up f s

/-- Send a frame and forget whether it could be sent. -/
def sendOff (f : RopeFrame) (s : State) : State := (sendFrame f s).2

/-- A frame of local origin. -/
def ownFrame (s : State) (typ dst : Nat) (payload : List Byte) : RopeFrame :=
  ⟨(typeVc typ).getD 0, typ, s.unitNo, dst, payload, false⟩

/-- An RSP (R495). -/
def rspFrame (src dst tag status data : Nat) : RopeFrame :=
  ⟨0, tyRsp, src, dst, leNat 1 tag ++ leNat 1 status ++ leNat 2 data, false⟩

/-- Answer a requester (R495): an RSP from this unit, or on the behalf of another. -/
def sendRsp (src dst tag status data : Nat) (s : State) : State := sendOff (rspFrame src dst tag status data) s

/-- The TAG of an RD or WR. -/
def frameTag (f : RopeFrame) : Nat := (f.payload.getD 2 0).toNat

/-- A routed frame that cannot be delivered: an RD or WR is answered UNITERR on the target's behalf, anything else is
discarded, and so is a broadcast (R495). -/
def undeliverable (f : RopeFrame) (s : State) : State :=
  if f.dst != 31 && (f.typ = tyRd || f.typ = tyWr) then sendRsp f.dst f.src (frameTag f) stUnitErr (ofLe (slice' f.payload 3 2)) s else s

/-! ### Event notices (R510) -/

/-- The records of which a unit sends an EVT. -/
def evtKind (bs : List Byte) : Bool :=
  let w := ofLe (bs.take 2)
  let code := w % 4096
  let cls := w / 4096 % 8
  w < 32768 && ((256 ≤ code && code < 384 && clsU ≤ cls) || code == 0x083 || code == 0x10E || code == 0x305
    || code == 0x306)

/-- Send the EVT of a record whose programming starts, its SEQ in place. -/
def sendEvt (bs : List Byte) (s : State) : State :=
  if evtKind bs && !s.isHead && s.hasAddr then
    sendOff (ownFrame s tyEvt (s.fld .ROPE_ADDR_HEADA) (bs.take 28)) s
  else s

/-! ### Links (R490, R505) -/

/-- The forwarded frames that a port going DOWN discards: those that wait outside VC2, and the one it was sending. -/
def lostForwards (q : PortSt) : List RopeFrame :=
  (q.queue.filter (fun f => f.vc != 2) ++ (match q.sending with
    | some (f, _, _) => [f]
    | none => [])).filter (·.fwd)

/-- A port going DOWN discards its frames of VC0 and VC3, and the frame it was sending (R490; VC1: log entry 36); a discarded
frame leaves the buffer of the port at which it arrived (R497). -/
def dropWaitingFrames (p : Port) (s : State) : State :=
  let lost := lostForwards (s.port p)
  let s := s.modPort p (fun q => { q with
    queue := q.queue.filter (fun f => f.vc == 2), sending := none, seen := false, peer := none, unheard := false })
  forList lost (fun f t => freeUnits (otherPort p) f.vc (frameUnits f.payload.length) t) s

/-- A port goes DOWN: LOSSEV, LINKEV and the frames discarded (R490). -/
def goDown (p : Port) (s : State) : State :=
  dropWaitingFrames p ((setLink p linkDown (s.setFlag (lossFld p) true)).setFlag .ROPE_STAT_LINKEV true)

/-- The units below this one are detached from the head's view, the nearest lost with the rest. -/
def detachFrom (k : Nat) (s : State) : State :=
  s.modRope (fun r => { r with
    chain := r.chain.take k, detached := r.detached ++ (r.chain.drop k).filter (fun a => !r.detached.contains a) })

/-- With link loss on both ports a pending remote access of the host completes with UNITERR (R131). -/
def failRemote (s : State) : State :=
  if s.link .up = linkDown && s.link .dn = linkDown then
    match s.host.remote with
    | some r => if r.answer.isNone then
        { s with host := { s.host with remote := some { r with answer := some ⟨stUnitErr, 0⟩ } } } else s
    | none => s
  else s

/-- A port is lost (R490, R505): it goes DOWN and the rope source reports it. -/
def portLost (p : Port) (s : State) : State :=
  let s := failRemote (goDown p s)
  match p with
  | .dn =>
    let s := if s.isHead then detachFrom 0 s else s
    report 14 1 (s.regN Reg.ROPE_ERRCNT) 0 (s.setFlag .ROPE_STAT_BCNTX false)
  | .up =>
    if !s.isHead && s.hasAddr then
      report 14 0 (s.regN Reg.ROPE_ERRCNT) 0 (s.setFlag .ROPE_STAT_ORPHAN true)
    else s

/-- LINK_LOSS (R490, R505): also of a port that has left OFF and sees no transition (log entry 36). -/
def linkLoss (p : Port) (s : State) : State :=
  if s.link p = linkOff || (s.link p = linkDown && !(s.port p).unheard) then s else portLost p s

def execLinkLoss (port : Port) (s : State) : Host.Outcome State Fault Refusal := .next (linkLoss port s)

/-- LINK_SIGNAL (R490): transitions on a port in DOWN. -/
def execLinkSignal (port : Port) (s : State) : Host.Outcome State Fault Refusal :=
  .next (if s.link port = linkDown && !(s.port port).holdDown then setLink port linkSignal s else s)

/-- The payload of a HELLO (R494). -/
def helloBytes (s : State) (p : Port) : List Byte :=
  leNat 8 s.uid ++ leNat 1 s.unitNo ++ leNat 1 (s.fld .ROPE_CFG_PIN)
  ++ leNat 1 ((if (s.port p).seen then 1 else 0) + 2 * s.role + 8 * s.fld .ROPE_STAT_HEAD + 16 * s.fld .ROPE_STAT_ENUMD)

/-- HELLO_SEND (R490): a port in DOWN or SIGNAL sends a HELLO, unless a link reset holds it. -/
def helloSend (p : Port) (s : State) : State :=
  if (s.link p = linkDown || s.link p = linkSignal) && !(s.port p).holdDown then
    queueFrame p ⟨0, tyHello, s.unitNo, 0, helloBytes s p, false⟩ s
  else s

def execHelloSend (port : Port) (s : State) : Host.Outcome State Fault Refusal := .next (helloSend port s)

/-! ### Enumeration at the head (R502, R503) -/

def uidBytes (u : Nat) : List Byte := leNat 8 u

/-- Send an ENUM frame of a sub-op. -/
def sendEnum (dst op : Nat) (rest : List Byte) (s : State) : State :=
  sendOff (ownFrame s tyEnum dst (leNat 1 op ++ rest)) s

/-- The address is free: bound to no unit and to no team. -/
def freeAddr (r : Rope) (a : Nat) : Bool :=
  1 ≤ a && a ≤ 30 && !r.binding.any (fun b => b.1 == a) && !r.teamIds.any (fun t => t.1 == a)

/-- The lowest free address above a, wrapping from 30 to 1. -/
def nextFree (r : Rope) (a : Nat) : Option Nat :=
  ((List.range 30).map (fun k => (a + k) % 30 + 1)).find? (freeAddr r)

/-- The address of a unit by the rules of R503, and whether rule 4 gave it. -/
def chooseAddr (r : Rope) (uid present pinned : Nat) : Option (Nat × Bool) :=
  match r.binding.find? (fun b => b.2 == uid) with
  | some b => some (b.1, false)
  | none =>
    if freeAddr r present then some (present, false)
    else if freeAddr r pinned then some (pinned, false)
    else if pinned != 0 then (nextFree r pinned).map (fun a => (a, true))
    else (nextFree r 30).map (fun a => (a, false))

/-- Bind an address to a UID. -/
def bindAddr (a uid : Nat) (s : State) : State :=
  s.modRope (fun r => { r with binding := r.binding.filter (fun b => b.1 != a && b.2 != uid) ++ [(a, uid)] })

/-- The longest detached unit gives up its binding (R503). -/
def releaseDetached (s : State) : State :=
  match s.rope.detached with
  | [] => s
  | a :: rest => s.modRope (fun r => { r with binding := r.binding.filter (fun b => b.1 != a), detached := rest })

/-- What FINISH does at a unit: ENUMD (the teams follow in their own step). -/
def setEnumd (s : State) : State := s.setFlag .ROPE_STAT_ENUMD true

/-- The head ends the enumeration: it broadcasts FINISH, which its own FINISH step follows. -/
def endEnum (s : State) : State :=
  sendEnum 31 5 [] (setEnumd (s.modRope (fun r => { r with enumOn := false })))

/-- The hops of the proxy. -/
def proxyHop (s : State) : Nat :=
  if s.rope.proxy = s.unitNo then 0 else (s.rope.chain.findIdx (· == s.rope.proxy)) + 1

/-- An ASSIGN for the neighbour of the proxy: link-local on DN where the proxy is this unit (R502). -/
def sendAssign (addr uid : Nat) (s : State) : State :=
  let payload := leNat 1 3 ++ leNat 1 addr ++ leNat 1 (proxyHop s + 1) ++ leNat 2 s.rope.cumDelay ++ uidBytes uid
  let s := s.modRope (fun r => { r with dnMask := r.dnMask ||| 2 ^ addr })
  if s.rope.proxy = s.unitNo then queueFrame .dn ⟨0, tyEnum, s.unitNo, 0, payload, false⟩ s
  else sendOff (ownFrame s tyEnum s.rope.proxy payload) s

/-- REPORT at the head: it chooses the address and assigns it; with none free and no unit detached the newcomer stays
without one and enumeration finishes (R503). -/
def headReport (uid present pinned : Nat) (s : State) : State :=
  let at_ := proxyHop s
  let s := detachFrom at_ s
  let s := if (chooseAddr s.rope uid present pinned).isNone then releaseDetached s else s
  match chooseAddr s.rope uid present pinned with
  | none => endEnum (mkRecord 0x300 clsNote [uid % 65536, uid / 65536 % 65536] s)
  | some (a, moved) =>
    let s := if moved then
        mkRecord 0x307 clsNote [pinned, a, uid % 65536, uid / 65536 % 65536] s
      else s
    let s := (bindAddr a uid s).modRope (fun r => { r with
      chain := r.chain.take at_ ++ [a], detached := r.detached.filter (· != a) })
    sendAssign a uid s

/-- The head asks the proxy for its DN neighbour; where it is the proxy itself it reads its own (R502). -/
def queryProxy (s : State) : State :=
  if s.rope.proxy = s.unitNo then
    match s.rope.dn.peer with
    | some h => if s.isUp .dn then headReport h.uid h.addr h.pinned s else endEnum s
    | none => endEnum s
  else sendEnum s.rope.proxy 1 [] s

/-- The head enumerates from a proxy (R502, R506). -/
def startEnum (proxy : Nat) (s : State) : State :=
  queryProxy (s.modRope (fun r => { r with enumOn := true, proxy := proxy }))

/-- A unit becomes head (R502): it takes its address by R503 with hop 0, and enumerates if its DN port is UP. -/
def becomeHead (s : State) : State :=
  let a := match chooseAddr s.rope s.uid (if s.hasAddr then s.unitNo else 0) (s.fld .ROPE_CFG_PIN) with
    | some (a, _) => a
    | none => 1
  let s := bindAddr a s.uid s
  let s := (((s.setFlag .ROPE_STAT_HEAD true).setFlag .ROPE_STAT_ORPHAN false).setFlag .ROPE_ADDR_VALID true)
  let s := ((s.setFld .ROPE_ADDR_ADDR a).setFld .ROPE_ADDR_HEADA a).setFld .ROPE_ADDR_HOP 0
  let s := s.modRope (fun r => { r with cumDelay := 0, chain := [] })
  if s.isUp .dn then startEnum a s else s

/-- HEAD_TAKEOVER (R502): an AUTO unit whose UP port has not been UP since ACTIVE, 100 ms after it. -/
def headTakeover (s : State) : State :=
  if s.isActive && s.rope.headDue then becomeHead (s.modRope (fun r => { r with headDue := false })) else s

def execHeadTakeover (s : State) : Host.Outcome State Fault Refusal := .next (headTakeover s)

/-- A port goes UP (R490, R506). -/
def goUp (p : Port) (s : State) : State :=
  let s := setLink p linkUp (s.modPort p (fun q => { q with
    sent := [0, 0, 0, 0], freed := [0, 0, 0, 0], received := [0, 0, 0, 0], freedOut := [0, 0, 0, 0], creditPend := [] }))
  match p with
  | .dn =>
    if s.isHead then startEnum s.unitNo s
    else if s.hasAddr && s.flag .ROPE_STAT_ENUMD then sendEnum (s.fld .ROPE_ADDR_HEADA) 6 [] s
    else s
  | .up =>
    let s := s.modRope (fun r => { r with headDue := false })
    if s.isHead && s.role != 1 then
      ((s.setFlag .ROPE_STAT_HEAD false).setFlag .ROPE_STAT_BCNTX false).modRope (fun r => { r with enumOn := false })
    else s

/-- HELLO_RECEIVE (R490): a valid HELLO sets SEEN, and one with SEEN set brings the port UP. -/
def helloReceive (p : Port) (h : Hello) (s : State) : State :=
  if s.link p = linkOff || (s.port p).holdDown then s
  else
    let s := s.modPort p (fun q => { q with seen := true, peer := some h })
    if s.isUp p then s else if h.seen then goUp p s else setLink p linkSignal s

def execHelloReceive (port : Port) (h : Hello) (s : State) : Host.Outcome State Fault Refusal :=
  answerIf (h.uid < 18446744073709551616 && h.addr < 32 && h.pinned < 32) (helloReceive port h s)

/-- A link reset (R493): the rope source reports with 0x10 or 0x11, and the port goes DOWN with all that this brings (R490) and is
held there for 100 µs. The reset's report is of class U and so the one that the collector takes (R642). -/
def linkReset (p : Port) (s : State) : State :=
  let s := report 14 (match p with | .up => 0x10 | .dn => 0x11) (s.regN Reg.ROPE_ERRCNT) 0 s
  (portLost p s).modPort p (fun q => { q with holdDown := true, errorsAt := [] })

/-- LINK_RESET_END (R493): the port handshakes again. -/
def execLinkResetEnd (port : Port) (s : State) : Host.Outcome State Fault Refusal :=
  .next (s.modPort port (fun q => { q with holdDown := false }))

/-- A frame is discarded (R493): ERRCNT, and a link reset at 16 within 1 ms. -/
def discardFrame (p : Port) (s : State) : State :=
  let s := s.incFld (errFld p)
  let s := s.modPort p (fun q => { q with
    errorsAt := q.errorsAt.filter (fun c => decide (s.now < c + clocksPerMs 1)) ++ [s.now] })
  if 16 ≤ (s.port p).errorsAt.length then linkReset p s else s

/-! ### Frames as bytes (R492) -/

/-- The bytes of a frame with its credit return. -/
def ropeBytes (f : RopeFrame) (cvc ccnt : Nat) : List Byte :=
  let body := leNat 4 (f.dst + 32 * f.src + 1024 * f.vc + 4096 * f.typ + 65536 * f.payload.length
    + 16777216 * (ccnt % 64) + 1073741824 * cvc) ++ f.payload
  body ++ leBytes (crc16 body)

/-- What a receiver reads from a frame's bytes: the frame with its CVC and CCNT, none where R493 discards it. -/
def parseFrame (bs : List Byte) : Option (RopeFrame × Nat × Nat) :=
  let h := ofLe (bs.take 4)
  let len := h / 65536 % 256
  let vc := h / 1024 % 4
  let typ := h / 4096 % 16
  if decide (bs.length = len + 6) && decide (len ≤ 64) && typeVc typ == some vc
      && leBytes (crc16 (bs.take (len + 4))) == bs.drop (len + 4) then
    some (⟨vc, typ, h / 32 % 32, h % 32, slice' bs 4 len, false⟩, h / 1073741824 % 4, h / 16777216 % 64)
  else none

/-- A credit return reaches a port (R497). -/
def takeCredit (p : Port) (cvc ccnt : Nat) (s : State) : State :=
  s.modPort p (fun q => { q with freed := q.freed.set cvc (ccnt % 64) })

/-- A forwarded frame of the rope's own management changes DNMASK (R500): an ASSIGN towards DN, a REGISTER (1) or
DEREGISTER (2) towards UP. -/
def noteAssign (p : Port) (f : RopeFrame) (s : State) : State :=
  let a := (f.payload.getD 1 0).toNat % 32
  if (p == .dn && f.typ == tyEnum && f.payload.head? == some 3)
      || (p == .up && f.typ == tyTeam && f.payload.head? == some 1) then
    s.modRope (fun r => { r with dnMask := r.dnMask ||| 2 ^ a })
  else if p == .up && f.typ == tyTeam && f.payload.head? == some 2 then
    s.modRope (fun r => { r with dnMask := if r.dnMask.testBit a then r.dnMask - 2 ^ a else r.dnMask })
  else s

/-- Forward a routed frame on a port, or answer for the target where the port is not UP (R495). -/
def forwardFrame (frm p : Port) (f : RopeFrame) (s : State) : State :=
  if s.isUp p then queueFrame p { f with fwd := true } (noteAssign p f s)
  else undeliverable f (freeUnits frm f.vc (frameUnits f.payload.length) s)

/-- What routing does with a frame that arrives at a port: destination 0 is this end of the link (R492). -/
def State.arrivalRoute (s : State) (p : Port) (dst : Nat) : RouteTo :=
  if dst = 0 then ⟨true, false, false, false⟩ else s.routeTo (some p) dst

/-- A routed frame arrives (R501): consumed frames wait in the inbox for their step, beacons are handled by R509. -/
def routeFrame (p : Port) (f : RopeFrame) (s : State) : State :=
  let cost := frameUnits f.payload.length
  let s := s.modPort p (fun q => { q with received := q.received.set f.vc ((listAt q.received f.vc + cost) % 64) })
  if f.typ = tyBcn then freeUnits p f.vc cost s
  else
    let r := s.arrivalRoute p f.dst
    if badBroadcast f || !(r.here || r.up || r.dn) then
      let s := freeUnits p f.vc cost s
      if r.unknown then undeliverable f s else s
    else
      let onward := r.up || r.dn
      let s := if r.here then s.modRope (fun x => { x with inbox := x.inbox ++ [(p, { f with fwd := onward })] }) else s
      if r.dn then forwardFrame p .dn f s else if r.up then forwardFrame p .up f s else s

/-- The step of a consumed frame begins: the frame leaves the inbox and its units are freed (R497). -/
def takeInbox (typ src : Nat) (s : State) : State :=
  match s.rope.inbox.find? (fun e => e.2.typ == typ && e.2.src == src) with
  | none => s
  | some e =>
    let s := s.modRope (fun r => { r with inbox := r.inbox.erase e })
    if e.2.fwd then s else freeUnits e.1 e.2.vc (frameUnits e.2.payload.length) s

/-- A frame arrives at a port: checked (R493), its credit return taken, and routed. -/
def receiveFrame (p : Port) (bytes : List Byte) (violation : Bool) (s : State) : State :=
  if s.link p = linkOff || (s.port p).holdDown then s
  else
    match if violation then none else parseFrame bytes with
    | none => discardFrame p s
    | some (f, cvc, ccnt) =>
      let s := if s.isUp p then takeCredit p cvc ccnt s else s
      if linkLocal f.typ || !s.isUp p then s else routeFrame p f s

/-! ### Transmission (R496 to R498, R509) -/

/-- The beacon guard: the DN transmitter starts no other frame in the 640 core clocks before
the expected forwarding instant (R509). -/
def State.beaconGuard (s : State) (p : Port) : Bool :=
  match p, s.rope.lastFwd with
  | .dn, some c => decide (c + 4194 ≤ s.now + 640) && decide (s.now < c + 4194)
  | _, _ => false

/-- The frame of a channel that may start: the first that needs credit, if it is held, or a link-local one. -/
def readyOf (q : PortSt) (vc : Nat) (up : Bool) : Option RopeFrame :=
  let fs := q.queue.filter (fun f => f.vc == vc)
  match fs.find? (fun f => linkLocal f.typ) with
  | some f => some f
  | none => if up then (fs.head?).filter (hasCredit q) else none

/-- The bit times of a frame on the line: flag, header, payload and CRC, gap (R488, R499). -/
def frameBits (len : Nat) : Nat := 24 + 8 * (len + 6)

/-- The share bucket's fill now, in 1/32,768 byte (R498). -/
def shareLevel (s : State) : Nat :=
  min 33554432 (s.rope.share.1 + 25 * s.fld .ROPE_SHARE_RATE * (s.now - s.rope.share.2))

/-- The unit's own VC2 frames may be sent (R97, R100, R498); in the fatal state they stop (R650). -/
def State.mayStream (s : State) (bytes : Nat) : Bool :=
  !s.isFatal && s.pwr.rope.inForce && decide (2 ≤ s.profile) && s.mode == modeActive
  && (s.profile == 3
    || decide ((s.rope.vc2At.filter (fun e => decide (s.now < e.1 + clocksPerMs 10))).foldl (fun a e => a + e.2) 0
        ≤ clocksPerMs 10 / 4))
  && (s.fld .ROPE_SHARE_RATE == 0 || decide (32768 * bytes ≤ shareLevel s))

/-- The unit's own next VC2 frame, if it may be sent, and the state once it is taken. -/
def ownStream (s : State) : Option (RopeFrame × State) :=
  match nextSegment s with
  | none => none
  | some (bs, t) =>
    let f := ownFrame s tyData (s.fld .ROPE_ADDR_HEADA) bs
    if s.mayStream bs.length && s.hasAddr && !s.isHead && hasCredit s.rope.up f then
      some (f, t.modRope (fun r => { r with
        vc2At := r.vc2At.filter (fun e => decide (s.now < e.1 + clocksPerMs 10)) ++ [(s.now, frameBits bs.length)]
        share := (shareLevel s - 32768 * bs.length, s.now) }))
    else none

/-- The beacon that the head's angle base gives (R508). -/
def State.beaconNow (s : State) : Beacon :=
  let hold := s.flag .ANG_STAT_LOSS && !s.flag .ANG_STAT_SUBST
  { seq := s.rope.bcnSeq
    pos := s.angPos
    speed := if hold then 0 else s.reg32 Reg.ANG_SPEED
    pass := s.reg32 Reg.ANG_PASS
    dir := s.angDir
    sync := s.flag .ANG_STAT_SYNC
    loss := s.flag .ANG_STAT_LOSS
    subst := s.flag .ANG_STAT_SUBST
    hold := hold }

/-- The payload of a BCN (R508). -/
def beaconBytes (b : Beacon) : List Byte :=
  leNat 2 b.pos ++ leNat 4 b.speed
  ++ leNat 1 (b.dir.toNat + 2 * b.sync.toNat + 4 * b.loss.toNat + 8 * b.subst.toNat + 16 * b.hold.toNat)
  ++ leNat 4 b.pass ++ leNat 1 b.seq

/-- A frame as it starts: a credit sync holds the SENT counts of that moment (R497), and the head's beacon its angle base in the
core clock in which the flag starts (R508). -/
def freshFrame (p : Port) (f : RopeFrame) (s : State) : RopeFrame :=
  if f.typ = tyCredit && f.payload.length == 4 then { f with payload := (s.port p).sent.map byte }
  else if f.typ = tyBcn && s.isHead then
    { f with payload := beaconBytes { s.beaconNow with seq := (f.payload.getD 11 0).toNat } }
  else f

/-- Start a frame: it leaves the queue, its units count as sent, and it carries a credit return (R497). -/
def startFrame (p : Port) (f : RopeFrame) (s : State) : State :=
  let f := freshFrame p f s
  s.modPort p (fun q =>
    let vc := q.creditPend.headD 0
    { q with
      sending := some (f, vc, listAt q.freedOut vc)
      creditPend := q.creditPend.drop 1
      sent := if linkLocal f.typ then q.sent
        else q.sent.set f.vc ((listAt q.sent f.vc + frameUnits f.payload.length) % 64) })

/-- Start a waiting frame. -/
def startQueued (p : Port) (f : RopeFrame) (s : State) : State :=
  startFrame p f (s.modPort p (fun q => { q with queue := q.queue.erase f }))

/-- The VC2 frame that the port starts: on UP forwarded and own frames take turns (R498). -/
def startStream (p : Port) (s : State) : State :=
  let fwd := readyOf (s.port p) 2 (s.isUp p)
  let own := if p == .up && s.isUp .up then ownStream s else none
  match fwd, own with
  | none, none => s
  | some f, none => startQueued p f (s.modRope (fun r => { r with ownLast := false }))
  | none, some (f, t) => startFrame p f (t.modRope (fun r => { r with ownLast := true }))
  | some f, some (o, t) =>
    if s.rope.ownLast then startQueued p f (s.modRope (fun r => { r with ownLast := false }))
    else startFrame p o (t.modRope (fun r => { r with ownLast := true }))

/-- FRAME_TRANSMIT_START (R496): the waiting frame of the highest priority for which credit is held. -/
def transmitStart (p : Port) (s : State) : State :=
  let q := s.port p
  if s.link p = linkOff || q.sending.isSome || q.holdDown then s
  else
    let guard := s.beaconGuard p
    match readyOf q 1 (s.isUp p) with
    | some f => if guard && f.typ != tyBcn then s else startQueued p f s
    | none =>
      if guard then s
      else match readyOf q 0 (s.isUp p) with
        | some f => startQueued p f s
        | none => match readyOf q 3 (s.isUp p) with
          | some f => startQueued p f s
          | none => startStream p s

def execFrameTransmitStart (port : Port) (s : State) : Host.Outcome State Fault Refusal := .next (transmitStart port s)

/-- FRAME_TRANSMIT_END (R497): a forwarded frame's units in the other port's buffer are freed; a rope reset waits for the
end of its own answer (R511). -/
def transmitEnd (p : Port) (s : State) : State :=
  match (s.port p).sending with
  | none => s
  | some (f, _, _) =>
    let s := s.modPort p (fun q => { q with sending := none })
    if f.fwd then freeUnits (otherPort p) f.vc (frameUnits f.payload.length) s else s

/-- CREDIT (R497): freed units come back, or a sync compares what was sent with what arrived. -/
def creditReceive (p : Port) (cvc ccnt : Nat) (sync : List Nat) (s : State) : State :=
  if !s.isUp p then s
  else
    let s := takeCredit p cvc ccnt s
    (List.range sync.length).foldl (fun t n =>
      let lost := (nth 0 sync n + 64 - listAt (t.port p).received n) % 64
      if lost = 0 then t
      else freeUnits p n lost (t.modPort p (fun q => { q with received := q.received.set n (nth 0 sync n % 64) }))) s

def execCredit (port : Port) (cvc ccnt : Nat) (sync : List Nat) (s : State) : Host.Outcome State Fault Refusal :=
  answerIf (cvc < 4 && ccnt < 64 && (sync.isEmpty || (sync.length == 4 && sync.all (· < 256))))
    (creditReceive port cvc ccnt sync s)

/-- CREDIT_RETURN_TIMEOUT (R497). -/
def execCreditReturnTimeout (port : Port) (s : State) : Host.Outcome State Fault Refusal :=
  .next (if s.isUp port && !(s.port port).creditPend.isEmpty then
    queueFrame port ⟨0, tyCredit, s.unitNo, 0, [], false⟩ s else s)

/-- CREDIT_SYNC (R497). -/
def execCreditSync (port : Port) (s : State) : Host.Outcome State Fault Refusal :=
  .next (if s.isUp port then
    queueFrame port ⟨0, tyCredit, s.unitNo, 0, (s.port port).sent.map byte, false⟩ s else s)

/-! ### Enumeration steps (R502 to R506) -/

/-- QUERY (R502): the proxy reports its DN neighbour's HELLO to the head. -/
def enumQuery (src : Nat) (s : State) : State :=
  let s := takeInbox tyEnum src s
  match s.rope.dn.peer with
  | some h => sendEnum src 2 (uidBytes h.uid ++ leNat 1 h.addr ++ leNat 1 h.pinned) s
  | none => s

def execQuery (src : Nat) (s : State) : Host.Outcome State Fault Refusal := answerIf (src < 32) (enumQuery src s)

/-- REPORT (R502, R503) at the head, while it enumerates. -/
def execReport (uid present pinned : Nat) (s : State) : Host.Outcome State Fault Refusal :=
  answerIf (uid < 18446744073709551616 && present < 32 && pinned < 32)
    (if s.isHead && s.rope.enumOn then headReport uid present pinned (takeInbox tyEnum s.rope.proxy s) else s)

/-- ANG.HOPDLY (R217, R504): 0 with SRC = LOCAL. -/
def showHopDelay (s : State) : State :=
  s.setRegN Reg.ANG_HOPDLY (if s.angSrc = 0 then 0 else s.rope.cumDelay)

/-- The unit leaves every team (R506). -/
def leaveTeams (s : State) : State := (s.setFld .ROPE_TEAMS_MEMB 0).modRope (fun r => { r with memberOf := [] })

/-- The neighbour takes its address (R502, R503, R506) and starts to measure its UP link (R504). -/
def takeAddr (head addr hop delay : Nat) (s : State) : State :=
  let old := s.unitNo
  let had := s.hasAddr
  let s := (((s.setFlag .ROPE_ADDR_VALID true).setFld .ROPE_ADDR_ADDR addr).setFld .ROPE_ADDR_HOP hop).setFld
    .ROPE_ADDR_HEADA head
  let s := s.setFlag .ROPE_STAT_ORPHAN false
  let s := if had && old != addr then leaveTeams (mkRecord 0x302 clsNote [old, addr] s) else s
  let pin := s.fld .ROPE_CFG_PIN
  let s := if pin != 0 && pin != addr then report 14 0x20 (s.regN Reg.ROPE_ERRCNT) 0 (s.setFlag .ROPE_STAT_CONFL true) else s
  s.modRope (fun r => { r with base := delay, probes := [], probesLeft := 8 })

/-- ASSIGN (R502): the unit with the UID takes the address; a proxy passes it to its neighbour and notes it in DNMASK. -/
def enumAssign (head addr hop delay uid : Nat) (s : State) : State :=
  let s := takeInbox tyEnum head s
  if uid = s.uid then takeAddr head addr hop delay s
  else
    let s := s.modRope (fun r => { r with dnMask := r.dnMask ||| 2 ^ addr })
    if s.isUp .dn then
      queueFrame .dn ⟨0, tyEnum, head, 0,
        leNat 1 3 ++ leNat 1 addr ++ leNat 1 hop ++ leNat 2 s.rope.cumDelay ++ uidBytes uid, false⟩ s
    else s

def execAssign (src addr hop delay uid : Nat) (s : State) : Host.Outcome State Fault Refusal :=
  answerIf (src < 32 && 1 ≤ addr && addr ≤ 30 && hop < 32 && delay < 65536 && uid < 18446744073709551616)
    (enumAssign src addr hop delay uid s)

/-- DONE (R502) at the head: the new unit becomes the proxy, or enumeration finishes. -/
def enumDone (src dnState : Nat) (s : State) : State :=
  if s.isHead && s.rope.enumOn then
    let s := takeInbox tyEnum src s
    if dnState = linkUp then startEnum src s else endEnum s
  else s

def execDone (src dnState : Nat) (s : State) : Host.Outcome State Fault Refusal :=
  answerIf (src < 32 && dnState < 4) (enumDone src dnState s)

/-- REATTACH (R506): the head enumerates from this unit as proxy. -/
def execReattach (src : Nat) (s : State) : Host.Outcome State Fault Refusal :=
  answerIf (src < 32) (if s.isHead then startEnum src (takeInbox tyEnum src s) else s)

/-! ### Hop delay (R504) -/

/-- DLY_PROBE (R504): one of the eight probes on UP. -/
def execDlyProbe (s : State) : Host.Outcome State Fault Refusal :=
  .next (if 0 < s.rope.probesLeft && s.isUp .up then
    queueFrame .up ⟨1, tyDly, s.unitNo, 0, [1], false⟩ (s.modRope (fun r => { r with probesLeft := r.probesLeft - 1 })) else s)

/-- DLY_ECHO (R504): RES core clocks after a probe arrived on DN, its echo starts. -/
def execDlyEcho (s : State) : Host.Outcome State Fault Refusal :=
  .next (if s.isUp .dn then queueFrame .dn ⟨1, tyDly, s.unitNo, 0, [2], false⟩ s else s)

/-- The eight echoes are in (R504): L, the cumulative hop delay, LDLY, and DONE to the head. -/
def hopDelayDone (s : State) : State :=
  let sum : Nat := s.rope.probes.foldl (· + ·) 0
  let l := (roundDiv ((sum : Int) - 3200) 16).toNat
  let s := (s.setFld .ROPE_UP_LDLY (min l 4095)).modRope (fun r => { r with cumDelay := (r.base + l + 400) % 65536, probes := [] })
  let s := if 64 < l then mkRecord 0x301 clsNote [l] s else s
  sendEnum (s.fld .ROPE_ADDR_HEADA) 4 (leNat 1 (s.link .dn)) (showHopDelay s)

/-- DLY_ECHO_RECEIVE (R504). -/
def echoReceive (rt : Nat) (s : State) : State :=
  let s := s.modRope (fun r => { r with probes := r.probes ++ [rt] })
  if s.rope.probes.length = 8 then hopDelayDone s else s

def execDlyEchoReceive (rt : Nat) (s : State) : Host.Outcome State Fault Refusal :=
  .next (if s.isUp .up then echoReceive rt s else s)

/-! ### Beacons (R508, R509) -/

/-- BEACON_SEND (R508). -/
def beaconSend (s : State) : State :=
  if s.isHead && s.isUp .dn && s.isActive then
    let f : RopeFrame := ⟨1, tyBcn, s.unitNo, 31, beaconBytes s.beaconNow, false⟩
    queueFrame .dn f ((s.setFlag .ROPE_STAT_BCNTX true).modRope (fun r => { r with bcnSeq := (r.bcnSeq + 1) % 256 }))
  else s.setFlag .ROPE_STAT_BCNTX false

def execBeaconSend (s : State) : Host.Outcome State Fault Refusal := .next (beaconSend s)

/-- BEACON_RECEIVE (R509): a valid BCN on UP waits for its application; one that fails its CRC is dropped. -/
def execBeaconReceive (b : Beacon) (crcOk : Bool) (s : State) : Host.Outcome State Fault Refusal :=
  answerIf (b.seq < 256 && b.pos < 65536 && b.speed < 4294967296 && b.pass < 4294967296)
    (if crcOk && s.isUp .up then s.modAng (fun a => { a with beaconWait := a.beaconWait ++ [b] }) else s)

/-- BEACON_APPLY (R509): the oldest beacon waiting is forwarded on DN, unless the transmitter is busy or has no credit for it
(R496), and applied. -/
def beaconApply (s : State) : State :=
  match s.ang.beaconWait with
  | [] => s
  | b :: rest =>
    let s := s.modAng (fun a => { a with beaconWait := rest })
    let f : RopeFrame := ⟨1, tyBcn, s.fld .ROPE_ADDR_HEADA, 31, beaconBytes b, false⟩
    let s := if s.isUp .dn && s.rope.dn.sending.isNone && hasCredit s.rope.dn f then
        (startFrame .dn f s).modRope (fun r => { r with lastFwd := some s.now })
      else s
    applyBeacon b (s.fld .ROPE_ADDR_HEADA) s

def execBeaconApply (s : State) : Host.Outcome State Fault Refusal := .next (beaconApply s)

end Sys2Proof.Machine
end

