-- ==== Sys2Proof/Machine/Nvm.lean ====
section
/-! DEFINITION. The on-chip store (15) and the writing of the cairn log (16): journal, counters, log slots, the flash queue
and its operations, and the host's commands. -/

namespace Sys2Proof.Machine

/-! ### The journal (R586 to R593) -/

def sectorBytes : Nat := 2048

/-- The sectors of a chain: 0 is A, 1 is B. -/
def chainSectors (c : Nat) : List Nat := if c = 0 then [2, 3, 4, 5, 30] else [6, 7, 8, 9, 31]

/-- All bytes read 0xFF. -/
def allErased (bs : List Byte) : Bool := bs.all (· == 0xFF)

/-- The sector reads erased. -/
def State.sectorErased (s : State) (k : Nat) : Bool :=
  !s.nvm.store.any (fun e => decide (2048 * k ≤ e.1) && decide (e.1 < 2048 * k + 2048))

def State.jslot (s : State) (sector slot : Nat) : List Byte := s.storeBytes (2048 * sector + 32 * slot) 32

/-- A slot whose record holds an uncorrectable word fails its check (R580, R639 source 4). -/
def State.jslotFails (s : State) (sector slot : Nat) : Bool := s.rangeFails (2048 * sector + 32 * slot) 32

def recItem (bs : List Byte) : Nat := ofLe (bs.take 2)
def recSeq (bs : List Byte) : Nat := ofLe (slice' bs 2 2)
def recLen (bs : List Byte) : Nat := (bs.getD 4 0).toNat
def recData (bs : List Byte) : List Byte := slice' bs 5 24

/-- A journal record is valid (R587). -/
def recValid (bs : List Byte) : Bool :=
  bs.getD 31 0 == 0x5A && leBytes (crc16 (bs.take 29)) == slice' bs 29 2

/-- The bytes 0 to 30 of a journal record. -/
def recordBytes (item seq : Nat) (data : List Byte) : List Byte :=
  let b := leNat 2 item ++ leNat 2 seq ++ leNat 1 data.length ++ padTo 24 data
  b ++ leBytes (crc16 b)

/-- The header record of a sector that a chain opens, MARK included (R586). -/
def headerBytes (c gen : Nat) : List Byte := recordBytes 0 gen [byte (0x41 + c), 0x01] ++ [0x5A]

/-- The sector is open: its header is valid (R586, R594). -/
def State.sectorOpen (s : State) (c k : Nat) : Bool :=
  let h := s.jslot k 0
  recValid h && !s.jslotFails k 0 && recItem h == 0 && (recData h).take 2 == [byte (0x41 + c), 0x01]

def State.openSectors (s : State) (c : Nat) : List Nat := (chainSectors c).filter (s.sectorOpen c)
def State.generation (s : State) (k : Nat) : Nat := recSeq (s.jslot k 0)

/-- The newest open sector of a chain. -/
def State.newestOpen (s : State) (c : Nat) : Option Nat :=
  (s.openSectors c).foldl (fun a k => match a with
    | none => some k
    | some m => if newer16 (s.generation m) (s.generation k) then some k else some m) none

/-- The oldest open sector: the lowest generation counted back from the newest (R593). -/
def State.oldestOpen (s : State) (c : Nat) : Option Nat :=
  match s.newestOpen c with
  | none => none
  | some m =>
    let age := fun k => (s.generation m + 65536 - s.generation k) % 65536
    (s.openSectors c).foldl (fun a k => match a with
      | none => some k
      | some j => if age j < age k then some k else some j) none

def State.erasedSectors (s : State) (c : Nat) : List Nat := (chainSectors c).filter s.sectorErased

/-- The sector that the chain opens next: the first erased one after its newest, in ring order. -/
def State.nextSector (s : State) (c : Nat) : Option Nat :=
  let l := chainSectors c
  let from_ := match s.newestOpen c with
    | some k => l.findIdx (· == k) + 1
    | none => 0
  ((List.range 5).map (fun i => nth 0 l ((from_ + i) % 5))).find? s.sectorErased

/-- The write point of a chain, as a byte address (R586). -/
def State.writePoint (s : State) (c : Nat) : Option Nat :=
  match s.newestOpen c with
  | none => none
  | some k => ((List.range 63).map (· + 1)).find? (fun i => allErased (s.jslot k i)) |>.map (fun i => 2048 * k + 32 * i)

/-- The valid records of a chain as (sector, slot, bytes), in ascending sector order. -/
def State.chainRecords (s : State) (c : Nat) : List (Nat × Nat × List Byte) :=
  (s.openSectors c).flatMap (fun k =>
    ((List.range 63).map (· + 1)).filterMap (fun i =>
      let bs := s.jslot k i
      if recValid bs && !s.jslotFails k i then some (k, i, bs) else none))

/-- The better of two copies: the higher SEQ, and on a tie the first found, which lies in the lower sector (R591). -/
def betterRec (a : Option (Nat × Nat × List Byte)) (b : Nat × Nat × List Byte) : Option (Nat × Nat × List Byte) :=
  match a with
  | none => some b
  | some x => if newer16 (recSeq x.2.2) (recSeq b.2.2) then some b else some x

/-- The winner of an item within a chain (R591). -/
def State.chainWinner (s : State) (c item : Nat) : Option (Nat × Nat × List Byte) :=
  ((s.chainRecords c).filter (fun r => recItem r.2.2 == item)).foldl betterRec none

/-- The winner of an item (R591). -/
def State.winner (s : State) (item : Nat) : Option (Nat × Nat × List Byte) :=
  match s.chainWinner 0 item, s.chainWinner 1 item with
  | some a, some b =>
    if newer16 (recSeq a.2.2) (recSeq b.2.2) then some b
    else if newer16 (recSeq b.2.2) (recSeq a.2.2) then some a
    else if b.1 < a.1 then some b else some a
  | some a, none => some a
  | none, b => b

/-- The data of an item's winner. -/
def State.itemData (s : State) (item : Nat) : Option (List Byte) := (s.winner item).map (fun r => recData r.2.2)

/-- The sequence number that the next save of an item takes (R590). -/
def State.nextItemSeq (s : State) (item : Nat) : Nat :=
  match s.winner item with
  | some r => (recSeq r.2.2 + 1) % 65536
  | none => 1

/-- The records of a sector that compaction still has to copy: winners of their item within the chain, with no identical
copy in another sector of it (R593). -/
def State.toCopy (s : State) (c k : Nat) : List (List Byte) :=
  let rs := s.chainRecords c
  (rs.filter (fun r => r.1 == k
      && s.chainWinner c (recItem r.2.2) == some r
      && !rs.any (fun q => q.1 != k && q.2.2.take 29 == r.2.2.take 29))).map (fun r => r.2.2.take 31)

/-- The chain is due for compaction: it has opened a sector and has no erased one left (R593). -/
def State.compactDue (s : State) (c : Nat) : Bool := !(s.openSectors c).isEmpty && (s.erasedSectors c).isEmpty

/-! ### Counters (R595 to R597) -/

/-- The two sectors of the pair of counter n. -/
def pairSectors (n : Nat) : Nat × Nat := if n < 4 then (26, 27) else (28, 29)

/-- The base and the active sector of counter n: its base item, else 0 and the lower sector of the pair. -/
def State.counterBase (s : State) (n : Nat) : Nat × Nat :=
  match s.itemData (0x300 + n) with
  | some d => (ofLe (d.take 4), (d.getD 4 0).toNat)
  | none => (0, (pairSectors n).1)

/-- The byte address of counter n's field in a sector. -/
def fieldAddr (n sector : Nat) : Nat := 2048 * sector + 512 * (n % 4)

/-- Leading 0 bits of a byte. -/
def leadingZeros (b : Byte) : Nat := ((List.range 8).takeWhile (fun i => !b.getLsbD (7 - i))).length

/-- The number of field bytes of counter n before the first that does not read 0x00. -/
def State.fieldFull (s : State) (n : Nat) : Nat :=
  ((s.storeBytes (fieldAddr n (s.counterBase n).2) 512).takeWhile (· == 0)).length

/-- The stored value of counter n (R595): base, 8 for each byte that reads 0x00, and the leading 0 bits of the next. -/
def State.storedCount (s : State) (n : Nat) : Nat :=
  let (b, sec) := s.counterBase n
  let bs := s.storeBytes (fieldAddr n sec) 512
  let z := (bs.filter (· == 0)).length
  let q := match bs.find? (· != 0) with
    | some x => leadingZeros x
    | none => 0
  (b + 8 * z + q) % 4294967296

/-- The byte program of counter n's next increment; none where its field is full. -/
def State.countOp (s : State) (n : Nat) : Option FlashOp :=
  let z := s.fieldFull n
  if 512 ≤ z then none
  else
    let a := fieldAddr n (s.counterBase n).2 + z
    some (.byteProgram a (0xFF >>> (leadingZeros (s.storeByte a) + 1)))

/-- The four counters of a pair. -/
def pairCounters (n : Nat) : List Nat := (List.range 4).map (fun i => n / 4 * 4 + i)

/-- A full field switches its pair (R596): the base items first, of every counter that does not follow the new sector yet, the
erase of the old sector last; the increments that wait behind the base items are held so. -/
def switchJobs (s : State) (n : Nat) : List Job × Job :=
  let old := (s.counterBase n).2
  let dest := if old = (pairSectors n).1 then (pairSectors n).2 else (pairSectors n).1
  (((pairCounters n).filter (fun k => (s.counterBase k).2 != dest)).map (fun k =>
      { kind := .save (0x300 + k) (leNat 4 (s.storedCount k) ++ leNat 1 dest) }),
   { kind := .counterErase old })

/-! ### Log slots (R609, R615, R616) -/

def logSlotAddr (i : Nat) : Nat := 0x5000 + 32 * (i % 1024)
def slotSector (i : Nat) : Nat := 10 + i % 1024 / 64
def State.logBytes (s : State) (i : Nat) : List Byte := s.storeBytes (logSlotAddr i) 32
def logSeq (bs : List Byte) : Nat := ofLe (slice' bs 2 2)
def logCrcOk (bs : List Byte) : Bool := leBytes (crc16 (bs.take 28)) == slice' bs 28 2
def logMarked (bs : List Byte) : Bool := bs.getD 31 0 == 0x5A
def logCleared (bs : List Byte) : Bool := bs.getD 31 0 == 0x00

def modeMark : Nat := 0
def modeCheck : Nat := 1

/-- A record that R616 programs in one operation: POWERFAIL or class F. -/
def isSingle (bs : List Byte) : Bool :=
  let w := ofLe (bs.take 2)
  w < 32768 && (w % 4096 == 0x081 || w / 4096 % 8 == clsF)

/-- A slot's record is valid under LOG.MODE (R615); a record of R616 under either rule. -/
def State.logValid (s : State) (bs : List Byte) : Bool :=
  let byMark := logMarked bs
  let byCheck := logCrcOk bs && !logCleared bs && !allErased bs
  if isSingle bs && (byMark || byCheck) then true
  else match s.fld .LOG_MODE_MODE with
    | 0 => byMark
    | 1 => byCheck
    | _ => byMark && logCrcOk bs

/-- The record of a slot counts as cleared: it is older than the LOGCLEARED record of a clearing that a reset cut short (R627). -/
def State.logHides (s : State) (bs : List Byte) : Bool :=
  match s.log.clearedBy with
  | some q => newer16 (logSeq bs) q
  | none => false

/-- Slot i holds a valid record. -/
def State.slotValidAt (s : State) (i : Nat) : Bool :=
  let bs := s.logBytes i
  s.logValid bs && !s.rangeFails (logSlotAddr i) 32 && !s.logHides bs

/-- The slots with a valid record, as (slot, SEQ). -/
def State.validSlots (s : State) : List (Nat × Nat) :=
  (List.range 1024).filterMap (fun i => if s.slotValidAt i then some (i, logSeq (s.logBytes i)) else none)

/-- The write point after slot i (R615, R617): the next erased slot of its sector, else the first slot of the next sector. -/
def State.nextWrite (s : State) (i : Nat) : Nat :=
  (((List.range (63 - i % 64)).map (fun k => i + 1 + k)).find? (fun k => allErased (s.logBytes k))).getD
    ((i / 64 * 64 + 64) % 1024)

/-- The next write point's sector is to be erased ahead (R610). -/
def eraseAhead (i : Nat) (s : State) : State :=
  let k := slotSector (i / 64 * 64 + 64)
  if i % 64 = 0 && !s.sectorErased k then addJob s { kind := .logErase k } else s

/-! ### What a job does next -/

/-- The chain that a journal job writes. -/
def jobChain (j : Job) : Nat :=
  match j.kind with
  | .repair c _ => c
  | .compact c => c
  | _ => j.step / 2

/-- A journal job's next operation: void the slot, mark it, program it, or open a sector for it (R590). -/
def journalOp (j : Job) (bytes : List Byte) (s : State) : Option (FlashOp × Job) :=
  let c := jobChain j
  if j.voiding then some (.byteProgram (j.place + 31) 0x00, { j with doing := .void })
  else if j.step % 2 = 1 then some (.byteProgram (j.place + 31) 0x5A, { j with doing := .mark })
  else match s.writePoint c with
    | some a => some (.program a bytes, { j with doing := .record, place := a })
    | none => (s.nextSector c).map (fun k =>
        let gen := match s.newestOpen c with
          | some m => (s.generation m + 1) % 65536
          | none => 1
        (.program (2048 * k) (headerBytes c gen), { j with doing := .header, place := 2048 * k }))

/-- The MARK byte with which a record is programmed (R615, R616). -/
def firstMark (s : State) (single : Bool) : Byte := if single || s.fld .LOG_MODE_MODE = modeCheck then 0x5A else 0xFF

/-- The 32 bytes that program a record, with its sequence number (R612). -/
def logRecBytes (bs : List Byte) (seq : Nat) (mark : Byte) : List Byte :=
  let b := bs.take 2 ++ leNat 2 seq ++ bs.drop 4
  b ++ leBytes (crc16 b) ++ [0xFF, mark]

/-- The stamp of LOGCLEARED with P2, the newest record cleared, and P3, how many are cleared (R618). -/
def clearedRecord (bs : List Byte) (s : State) : List Byte :=
  bs.take 16 ++ leNat 2 (s.regN Reg.LOG_SEQ) ++ leNat 2 (min 65535 s.validSlots.length) ++ bs.drop 20

/-- A slot holds a record that is valid of itself, counted as cleared or not. -/
def State.holdsRecord (s : State) (i : Nat) : Bool := s.logValid (s.logBytes i)

/-- The valid records older than LOGCLEARED in its sector. -/
def State.toClear (s : State) (place : Nat) : List Nat :=
  ((List.range (place % 64)).map (fun k => place / 64 * 64 + k)).filter s.holdsRecord

/-- The next operation of a job; none where it has nothing left to do. -/
def nextOp (j : Job) (s : State) : Option (FlashOp × Job) :=
  match j.kind with
  | .logRec r =>
    if j.step = 0 then
      some (.program (logSlotAddr s.log.writeSlot) (logRecBytes r.bytes s.log.nextSeq (firstMark s r.single)),
        { j with doing := .record, place := s.log.writeSlot })
    else if j.step = 1 then some (.byteProgram (logSlotAddr j.place + 31) 0x5A, { j with doing := .mark })
    else (s.countOp 2).map (fun o => (o, { j with doing := .count }))
  | .logErase k => if s.sectorErased k then none else some (.erase k, { j with doing := .erase })
  | .clearing r =>
    if j.step = 0 then
      some (.program (logSlotAddr s.log.writeSlot)
        (logRecBytes (clearedRecord r.bytes s) s.log.nextSeq (firstMark s false)),
        { j with doing := .record, place := s.log.writeSlot })
    else if j.step = 1 then some (.byteProgram (logSlotAddr j.place + 31) 0x5A, { j with doing := .mark })
    else if j.step < 17 then
      some (.erase (slotSector (j.place + 64 * (j.step - 1))), { j with doing := .erase })
    else (s.toClear j.place).head?.map (fun i => (.byteProgram (logSlotAddr i + 31) 0x00, { j with doing := .void }))
  | .save item data =>
    let q := j.seq.getD (s.nextItemSeq item)
    journalOp { j with seq := some q } (recordBytes item q data) s
  | .repair _ bytes => journalOp j (bytes.take 31) s
  | .compact c =>
    match s.oldestOpen c with
    | none => none
    | some k =>
      if j.voiding || j.step % 2 = 1 then journalOp j [] s
      else match s.toCopy c k with
        | bs :: _ => journalOp j bs s
        | [] => some (.erase k, { j with doing := .erase })
  | .counter n => (s.countOp n).map (fun o => (o, { j with doing := .count }))
  | .counterErase k =>
    if (pairCounters (if k < 28 then 0 else 4)).all (fun n => (s.counterBase n).2 != k) && !s.sectorErased k then
      some (.erase k, { j with doing := .erase })
    else none
  | .sectorErase k => if s.sectorErased k then none else some (.erase k, { j with doing := .erase })
  | .rawProg a bs => some (.program a bs, { j with doing := .record })
  | .rawErase k => some (.erase k, { j with doing := .erase })

/-! ### Operations (R581, R582) -/

/-- A clearing whose LOGCLEARED record is not in the store yet. -/
def isOpening (j : Job) : Bool := match j.kind with | .clearing _ => decide (j.step < 2) | _ => false
def isClearing (j : Job) : Bool := match j.kind with | .clearing _ => true | _ => false

/-- A job that may run: a log record waits for its slot's erase and, behind a clearing, for its end; the records of R616 wait
for LOGCLEARED alone (R610, R627). -/
def State.canRun (s : State) (j : Job) : Bool :=
  let slotReady := allErased (s.logBytes s.log.writeSlot)
  match j.kind with
  | .logRec r =>
    if j.step != 0 then true
    else slotReady && !(if r.single then s.nvm.jobs.any isOpening
      else (s.nvm.jobs.takeWhile (fun k => k != j)).any isClearing)
  | .clearing _ => j.step != 0 || slotReady
  | _ => true

/-- The credits of an operation (R43, R581). -/
def opCredits : FlashOp → Nat
  | .program _ _ => 4
  | .byteProgram _ _ => 1
  | .erase _ => 60

/-- The page program of the power-fail record and of the fatal record needs no credits beyond the reserve of R42 (R616); the
byte of CNT[2] that follows the fatal record does (R598). -/
def jobReserved (j : Job) : Bool := match j.kind with | .logRec r => r.single && j.doing == .record | _ => false

/-- Show BUSY, COMPACT and the items of a host save (R602, R607). -/
def showNvm (s : State) : State :=
  let saves := s.nvm.jobs.filter (fun j => j.host && match j.kind with | .save _ _ => true | _ => false)
  (s.setFlag .NVM_STAT_BUSY s.nvm.op.isSome).setFld .NVM_JSTAT_SAVEREM (min saves.length 255)

/-- What begins with an operation: a record's number and its EVT (R510, R611), the records that an erase discards (R610),
and COMPACT. -/
def opBegins (j : Job) (s : State) : State :=
  match j.kind, j.doing with
  | .logRec r, .record =>
    let q := s.log.nextSeq
    let s := sendEvt (logRecBytes r.bytes q 0xFF) s
    let s := { s with log := { s.log with nextSeq := (q + 1) % 65536, writeSlot := s.nextWrite j.place } }
    eraseAhead s.log.writeSlot s
  | .clearing _, .record =>
    let s := { s with log := { s.log with nextSeq := (s.log.nextSeq + 1) % 65536, writeSlot := s.nextWrite j.place } }
    eraseAhead s.log.writeSlot s
  | .logErase _, _ => s.setFlag .LOG_STAT_DROP true
  | .compact _, _ => s.setFlag .NVM_JSTAT_COMPACT true
  | _, _ => s

/-- A part of a host job ends (R600); with the last of its command PEND clears and DONE is set, with ERR and REASON where a part
failed. -/
def hostEnd (reason : Nat) (s : State) : State :=
  let s := if reason = 0 then s else { s with nvm := { s.nvm with jobFail := reason } }
  if s.nvm.jobs.any (·.host) then s
  else
    let s := if s.nvm.jobFail = 0 then s else s.setFlag .NVM_STAT_ERR true
    ((s.setFld .NVM_STAT_REASON s.nvm.jobFail).setFlag .NVM_STAT_PEND false).setFlag .NVM_STAT_DONE true

/-- The job at the head of the queue is over. -/
def endJob (reason : Nat) (s : State) : State :=
  match s.nvm.jobs with
  | [] => s
  | j :: rest =>
    let s := setJobs s rest
    let s := match j.kind with | .compact _ => s.setFlag .NVM_JSTAT_COMPACT false | _ => s
    showNvm (if j.host then hostEnd reason s else s)

/-- Replace the job at the head. -/
def setHead (j : Job) (s : State) : State := setJobs s (j :: s.nvm.jobs.drop 1)

/-- Bring the first job that may run to the head. -/
def pickJob (s : State) : Option (Job × State) :=
  match s.nvm.jobs.find? s.canRun with
  | none => none
  | some j => some (j, setJobs s (j :: s.nvm.jobs.erase j))

/-- A counter's increment finds its field full: the pair switches first (R596). -/
def beginSwitch (j : Job) (n : Nat) (s : State) : State :=
  let (saves, tail) := switchJobs s n
  setJobs s (saves ++ j :: s.nvm.jobs.drop 1 ++ [tail])

/-- The operations of the queue may start: no operation in progress, no supply dip (R93), and a running unit, or a fatal one
from the end of the scan (R594, R650). -/
def State.mayStart (s : State) : Bool :=
  s.nvm.op.isNone && !s.warn && !s.sys.held && (s.isActive || (s.isFatal && s.sys.boot.scanDone))

/-- FLASH_OP_START (R582): the next operation of the queue, once its credits are granted. -/
def flashOpStart (s : State) : State :=
  if !s.mayStart then s
  else match pickJob s with
    | none => s
    | some (j, t) =>
      match nextOp j t, j.kind with
      | none, .counter n => beginSwitch j n t
      | none, _ => endJob 0 t
      | some (o, j), _ =>
        if jobReserved j || s.hasCredits .nvm 0 (opCredits o) then
          let t := setHead j t
          showNvm (opBegins j { t with nvm := { t.nvm with op := some o } })
        else s

def execFlashOpStart (s : State) : Host.Outcome State Fault Refusal := .next (flashOpStart s)

/-- The words of a byte range. -/
def wordsOf (a n : Nat) : List Nat := (List.range ((a + n - 1) / 8 + 1 - a / 8)).map (fun k => a / 8 + k)

/-- A bit that is programmed again reads 0 from then on (R597). -/
def firm (a : Nat) (b : Byte) (s : State) : State :=
  { s with nvm := { s.nvm with
    loose := (s.nvm.loose.map (fun e => if e.1 = a then (a, e.2 &&& b.toNat) else e)).filter (fun e => e.2 != 0) } }

/-- The store after an operation (R580, R581). A program that fails its read-back leaves each of its bits old or new
(log entry 1). -/
def opEffect (o : FlashOp) (ok : Bool) (s : State) : State :=
  let put := fun (a : Nat) (new : List Byte) (t : State) =>
    let old := t.storeBytes a new.length
    let (bs, t) := if ok then (List.zipWith (· &&& ·) old new, t) else cutShort old (List.zipWith (· &&& ·) old new) t
    t.setStore (writeRun erasedByte t.nvm.store a bs)
  let setEcc := fun (f : List Nat → List Nat) (t : State) => { t with nvm := { t.nvm with ecc := f t.nvm.ecc } }
  match o with
  | .program a bs => setEcc (fun l => l ++ (wordsOf a bs.length).filter (fun w => !l.contains w)) (put a bs s)
  | .byteProgram a b => firm a b (setEcc (fun l => l.filter (· != a / 8)) (put a [b] s))
  | .erase k =>
    let apart := fun (w n : Nat) => decide (w < n * k) || decide (n * k + n ≤ w)
    let s := s.setStore (eraseRange s.nvm.store (2048 * k) 2048)
    { s with nvm := { s.nvm with
      ecc := s.nvm.ecc.filter (fun w => apart w 256)
      errs := s.nvm.errs.filter (fun e => apart e.1 256)
      loose := s.nvm.loose.filter (fun e => apart e.1 2048) } }

/-- The trim of a loop takes effect at the next engine-cycle boundary once chain A holds it (R589). -/
def trimSaved (item : Nat) (data : List Byte) (s : State) : State :=
  if 0x502 ≤ item && item < 0x560 && item % 16 = 2 then
    let z := signed16 (ofLe (data.take 2))
    let g := signed16 (ofLe (slice' data 2 2))
    s.modLoop ((item - 0x500) / 16) (fun l => { l with trimPend := some (z, g) })
  else s

/-- The two steps of a copy are done. -/
def copyDone (j : Job) (s : State) : State :=
  match j.kind with
  | .save item data =>
    let s := if j.step = 1 then trimSaved item data s else s
    if j.step = 3 then endJob 0 s else setHead { j with step := j.step + 1, repeated := false } s
  | .repair _ _ => endJob 0 (s.setFlag .NVM_JSTAT_REPAIR true)
  | _ => setHead { j with step := 0, repeated := false } s

/-- A journal job's operation is over (R590, R593). -/
def journalDone (j : Job) (ok : Bool) (s : State) : State :=
  match j.doing with
  | .header =>
    if s.compactDue (jobChain j) && !s.nvm.jobs.any (fun k => k.kind == .compact (jobChain j)) then
      setJobs s ({ kind := .compact (jobChain j) } :: s.nvm.jobs)
    else s
  | .void => setHead { j with voiding := false, repeated := true, step := j.step / 2 * 2 } (s.setFlag .NVM_JSTAT_VOID true)
  | .erase => endJob 0 s
  | d =>
    if ok then
      if d == .mark then copyDone j s else setHead { j with step := j.step + 1 } s
    else if j.repeated then
      endJob 6 (report 4 (0x40 + j.place / 2048) (j.place % 2048) 0 s)
    else setHead { j with voiding := true } s

/-- A record is in the log: NEW and LOG.SEQ (R621, R628). -/
def recordDone (j : Job) (s : State) : State :=
  let bs := s.logBytes j.place
  if s.slotValidAt j.place then (s.setFlag .LOG_STAT_NEW true).setRegN Reg.LOG_SEQ (logSeq bs) else s

/-- A log record's operation is over (R615, R616); the fatal record's job ends with the byte of CNT[2] (R598). -/
def logDone (j : Job) (r : Rec) (ok : Bool) (s : State) : State :=
  let after := fun (t : State) =>
    let t := recordDone j t
    if r.fatal && (t.countOp 2).isSome then setHead { j with step := 2 } t else endJob 0 t
  match j.doing with
  | .record =>
    if !ok then endJob 0 s
    else if firstMark s r.single == 0x5A then after s
    else setHead { j with step := 1 } s
  | .mark => after s
  | _ => endJob 0 s

/-- A step of a clearing is over (R627). -/
def clearingDone (j : Job) (s : State) : State :=
  let next := match j.doing with
    | .record => if firstMark s false == 0x5A then 2 else 1
    | .mark => 2
    | .erase => j.step + 1
    | _ => j.step
  let s := if next = 2 && j.step < 2 then recordDone j s else s
  if 17 ≤ next && (s.toClear j.place).isEmpty then
    let s := { s with log := { s.log with clearedBy := none } }
    endJob 0 (((s.setFlag .LOG_STAT_DROP false).setFlag .LOG_STAT_BUSY false).setFld .LOG_CLRST_STATE 3)
  else setHead { j with step := next } s

/-- The job at the head goes on after its operation. -/
def jobGoesOn (ok : Bool) (s : State) : State :=
  match s.nvm.jobs with
  | [] => s
  | j :: _ =>
    match j.kind with
    | .save _ _ => journalDone j ok s
    | .repair _ _ => journalDone j ok s
    | .compact _ => journalDone j ok s
    | .logRec r => logDone j r ok s
    | .clearing _ => clearingDone j s
    | .logErase _ => endJob 0 s
    | .counter _ => endJob 0 s
    | .counterErase _ => endJob 0 s
    | .sectorErase _ => endJob 0 s
    | .rawProg _ _ => endJob (if ok then 0 else 6) s
    | .rawErase _ => endJob (if ok then 0 else 6) s

/-- FLASH_OP_COMPLETE (R581, R582): the operation's effect and the read-back, the job's next step, the credits released,
and a reset that waited. -/
def flashOpComplete (ok : Bool) (s : State) : State :=
  match s.nvm.op with
  | none => s
  | some o =>
    let s := opEffect o ok s
    let s := jobGoesOn ok { s with nvm := { s.nvm with op := none } }
    waitedReset (releaseBurst .nvm 0 (showNvm s))

def execFlashOpComplete (ok : Bool) (s : State) : Host.Outcome State Fault Refusal := .next (flashOpComplete ok s)

/-! ### Host commands (R599, R600) -/

/-- The key area of sectors 0 and 1, whose bytes the host reads as 0x00 (R599; the model takes the last 64 bytes of
sector 1, log entry 10). -/
def keyArea (a : Nat) : Bool := decide (0xFC0 ≤ a) && decide (a < 0x1000)

/-- A byte of the store as the host reads it. -/
def State.hostByte (s : State) (a : Nat) : Byte := if keyArea a then 0 else s.storeByte a

/-- A read touches what the operation in progress holds (R583): the page being programmed, or the sector being erased. -/
def State.storeHeld (s : State) (a : Nat) : Bool :=
  match s.nvm.op with
  | none => false
  | some (.program b _) => a / 64 == b / 64
  | some (.byteProgram b _) => a / 64 == b / 64
  | some (.erase k) => a / 2048 == k

/-- A raw read of the word at an even address (R580, R584): an error that the ECC corrects or only detects is reported, an
uncorrectable word returns its data as it reads, which is open, and so are bits that a program cut short left open. -/
def readStore (a : Nat) (s : State) : Word × State :=
  let w := word ((s.hostByte a).toNat + 256 * (s.hostByte (a + 1)).toNat)
  match s.wordErr (a / 8) with
  | some false => (w, report 4 (a / 2048) (a % 2048) 0 s)
  | some true =>
    let (d, s) := s.freeDraw
    (if keyArea a then 0 else d.setWidth 16, report 4 (0x80 + a / 2048) (a % 2048) 0 s)
  | none =>
    let m := word (s.looseBits a + 256 * s.looseBits (a + 1))
    if m = 0 || keyArea a then (w, s)
    else
      let (d, s) := s.freeDraw
      ((w &&& ~~~m) ||| (d.setWidth 16 &&& m), s)

/-- A write of NVM.ADDR (R599). -/
def nvmAddr (v : Nat) (s : State) : State :=
  let s := (s.setRegN Reg.NVM_ADDR v).setFlag .NVM_STAT_BUFRD false
  { s with nvm := { s.nvm with bufIdx := 0 } }

/-- A write of NVM.DATA (R599): into the buffer, a 33rd refused. -/
def nvmDataWrite (v : Word) (s : State) : Nat × State :=
  if 32 ≤ s.nvm.bufIdx then (stDeny, s)
  else
    let i := 2 * s.nvm.bufIdx
    let b := padTo 64 s.nvm.buf
    (0, { s with nvm := { s.nvm with buf := b.take i ++ leBytes v ++ b.drop (i + 2), bufIdx := s.nvm.bufIdx + 1 } })

/-- A read of NVM.DATA (R583, R599); what lies past the buffer's end is open (log entry 1). -/
def nvmDataRead (s : State) : Nat × Word × State :=
  if s.flag .NVM_STAT_BUFRD then
    if 32 ≤ s.nvm.bufIdx then
      let (w, s) := s.freeDraw
      (0, w.setWidth 16, s)
    else
      let i := 2 * s.nvm.bufIdx
      (0, word (ofLe (slice' (padTo 64 s.nvm.buf) i 2)), { s with nvm := { s.nvm with bufIdx := s.nvm.bufIdx + 1 } })
  else
    let a := s.regN Reg.NVM_ADDR
    if a % 2 = 1 || s.storeHeld a then (stDeny, 0, s)
    else
      let (w, s) := readStore a s
      (0, w, s.setRegN Reg.NVM_ADDR (a + 2))

def rsnProt : Nat := 1
def rsnKey : Nat := 2
def rsnRange : Nat := 3
def rsnNoItem : Nat := 4
def rsnHostJob : Nat := 5

/-- A command ends at once with a reason (R600). -/
def nvmFail (reason : Nat) (s : State) : State :=
  ((s.setFlag .NVM_STAT_DONE true).setFlag .NVM_STAT_ERR true).setFld .NVM_STAT_REASON reason

/-- A command ends at once without a failure. -/
def nvmOk (s : State) : State := (s.setFlag .NVM_STAT_DONE true).setFld .NVM_STAT_REASON 0

/-- Queue a host job's parts (R600); a command of no parts ends at once. -/
def hostJobs (ks : List JobKind) (s : State) : State :=
  if ks.isEmpty then nvmOk s
  else showNvm (setJobs ({ s with nvm := { s.nvm with jobFail := 0 } }.setFlag .NVM_STAT_PEND true) (s.nvm.jobs ++ ks.map (fun k => { kind := k, host := true })))

/-- The failure of a command before its own rules: an outstanding job, its key, its grant. -/
def commandFails (keyed key grant : Bool) (s : State) : Option Nat :=
  if s.flag .NVM_STAT_PEND then some rsnHostJob
  else if keyed && !key then some rsnKey
  else if !grant then some rsnProt
  else none

/-- PROG (R600): the buffer's bytes from ADDR, those past the page's end ignored and counted. -/
def progCommand (key grant : Bool) (s : State) : State :=
  let a := s.regN Reg.NVM_ADDR
  match commandFails true key grant s with
  | some r => nvmFail r s
  | none =>
    if !s.testMode || a < 0x1000 then nvmFail rsnProt s
    else
      let n := min (2 * s.nvm.bufIdx) (64 - a % 64)
      let bs := (padTo 64 s.nvm.buf).take n
      hostJobs (if bs.isEmpty then [] else [.rawProg a bs]) (s.setFld .NVM_STAT_TRUNC (2 * s.nvm.bufIdx - n))

/-- ERASE (R600). -/
def eraseCommand (key grant : Bool) (s : State) : State :=
  let a := s.regN Reg.NVM_ADDR
  match commandFails true key grant s with
  | some r => nvmFail r s
  | none => if !s.testMode || a < 0x1000 then nvmFail rsnProt s else hostJobs [.rawErase (a / 2048)] s

/-- JREAD (R600): the winner's LEN and data into the buffer, its SEQ into NVM.ADDR. -/
def jreadCommand (grant : Bool) (s : State) : State :=
  match commandFails false false grant s with
  | some r => nvmFail r s
  | none =>
    match s.winner (s.regN Reg.NVM_ADDR) with
    | none => nvmFail rsnNoItem s
    | some (_, _, bs) =>
      let s := { s with nvm := { s.nvm with
        buf := padTo 64 (leNat 1 (recLen bs) ++ recData bs), bufIdx := 0 } }
      nvmOk ((s.setFlag .NVM_STAT_BUFRD true).setRegN Reg.NVM_ADDR (recSeq bs))

/-- The ids that a JWRITE may save (R588). -/
def jwriteAllowed (item : Nat) : Bool :=
  (0x310 ≤ item && item < 0x314) || (0x502 ≤ item && item < 0x553 && item % 16 = 2) || (0x600 ≤ item && item < 0x620)

/-- A loop trim outside the limits of R589. -/
def trimBad (item : Nat) (data : List Byte) : Bool :=
  let z := signed16 (ofLe (data.take 2))
  let g := signed16 (ofLe (slice' data 2 2))
  (0x502 ≤ item && item < 0x553) && (z < -2048 || 2047 < z || g < -5000 || 5000 < g)

/-- JWRITE (R588, R590, R600). -/
def jwriteCommand (key grant : Bool) (len : Nat) (s : State) : State :=
  let item := s.regN Reg.NVM_ADDR
  let data := (padTo 64 s.nvm.buf).take len
  match commandFails true key grant s with
  | some r => nvmFail r s
  | none =>
    if 24 < len || !jwriteAllowed item || trimBad item data then nvmFail rsnRange s
    else hostJobs [.save item data] s

/-- The first RANGE stage of program n. -/
def State.rangeStage (s : State) (n : Nat) : Option Nat :=
  (List.range (s.liveStages n).length).find? (fun k => stOp (s.stageWords n k) == opRange)

/-- The identity words 0 to 5 of a loop (R472). -/
def State.identity (s : State) (n : Nat) : List Byte := bytesOfWords ((List.range 6).map (fun w => s.fskW (identKey n w)))

/-- LSAVE (R600): the live identity and range; a program without a RANGE stage saves its identity alone (log entry 10). -/
def lsaveCommand (key grant : Bool) (arg : Nat) (s : State) : State :=
  match commandFails true key grant s with
  | some r => nvmFail r s
  | none =>
    if 6 ≤ arg then nvmFail rsnRange s
    else
      let range := match s.rangeStage arg with
        | some k => [JobKind.save (0x501 + 16 * arg) (bytesOfWords ((s.stageWords arg k).drop 2 |>.take 4))]
        | none => []
      hostJobs (.save (0x500 + 16 * arg) (s.identity arg) :: range) s

/-- CINC (R598, R600). -/
def cincCommand (grant : Bool) (arg : Nat) (s : State) : State :=
  match commandFails false false grant s with
  | some r => nvmFail r s
  | none =>
    if 4 ≤ arg then nvmFail rsnRange s
    else
      let c := Reg.CNT (4 + arg)
      hostJobs [.counter (4 + arg)] (s.setReg32 c ((s.reg32 c + 1) % 4294967296))

/-- The 24 data bytes of COEF item i: entries 2i and 2i + 1 of the active bank (R387). -/
def State.coefItem (s : State) (i : Nat) : List Byte :=
  bytesOfWords (coefEntry s.tab.coef (2 * i) ++ coefEntry s.tab.coef (2 * i + 1))

/-- SAVE (R387): a copy of the active bank; every item that differs from its latest journal copy. -/
def saveCommand (s : State) : State :=
  if s.flag .NVM_STAT_PEND then nvmFail rsnHostJob s
  else
    hostJobs (((List.range 84).filter (fun i => s.itemData (0x400 + i) != some (s.coefItem i))).map
      (fun i => .save (0x400 + i) (s.coefItem i))) s

/-- RELOAD (R388): every journal copy into the inactive bank. -/
def reloadCommand (s : State) : Nat × State :=
  let held := (List.range 84).filterMap (fun i => (s.itemData (0x400 + i)).map (fun d => (i, d)))
  let bank := held.foldl (fun b e => writeRun coefDefault b (12 * e.1) (wordsOfBytes e.2)) s.tab.coefAlt
  (0, stageCoef (held.flatMap (fun e => [2 * e.1, 2 * e.1 + 1])) { s with tab := { s.tab with coefAlt := bank } })

/-- OPERATING_TIME_TICK (R598): 225 s of time out of reset. -/
def execOperatingTimeTick (s : State) : Host.Outcome State Fault Refusal :=
  .next (if s.sys.held then s else countUp 0 s)

end Sys2Proof.Machine
end

