-- ==== Sys2Proof/Machine/Staging.lean ====
section
/-! DEFINITION. The staged configuration and the check list of R150: what the shadow holds, what of it differs from the
active configuration, and each item of the list with its failing item. -/

namespace Sys2Proof.Machine

/-! ### The shadow (R147, R148) -/

/-- The ST bits of a register word. -/
def stMask (a : Nat) : Word := word (regInfo a).st

/-- The shadow of a register word: its staged ST fields, and its other fields as they stand. -/
def State.shadowReg (s : State) (a : Nat) : Word :=
  match lookupAt s.stg.regs a with
  | some w => (s.reg a &&& ~~~(stMask a)) ||| (w &&& stMask a)
  | none => s.reg a

/-- A staged field. -/
def State.sfld (s : State) (f : Fld) : Nat := getField (s.shadowReg f.addr) f.lo f.width

/-- A word of a staged table: what has been written, else the active word. -/
def shadowWord (d : Nat → Word) (active staged : List (Nat × Word)) (k : Nat) : Word :=
  (lookupAt staged k).getD (readAt d active k)

def State.shadowTopo (s : State) (e : Nat) : List Word :=
  (List.range 8).map (fun w => shadowWord zeroWord s.tab.topo s.stg.topo (8 * e + w))

/-- A staged route; its LEADST reads 0 (R234). -/
def State.shadowRoute (s : State) (r : Nat) : List Word :=
  ((List.range 4).map (fun w => shadowWord routeDefault s.tab.route s.stg.route (4 * r + w))).modify 3 (· &&& 0x0FFF)

def State.shadowStage (s : State) (i : Nat) : List Word :=
  (List.range 16).map (fun w => shadowWord zeroWord s.tab.valprog s.stg.valprog (16 * i + w))

def State.shadowFsk (s : State) (k : Nat) : Word := shadowWord zeroWord s.tab.fsk s.stg.fsk k

def State.shadowExc (s : State) (k : Nat) : List Word :=
  [s.shadowReg (Reg.EXC_CFG k), s.shadowReg (Reg.EXC_CODE k), s.shadowReg (Reg.EXC_CLR k), s.shadowReg (Reg.EXC_FREQ k),
   s.shadowReg (Reg.EXC_FREQ k + 1), s.shadowReg (Reg.EXC_PHASE k)]

/-- The staged schedule as the tests see it. -/
def State.shadowCfg (s : State) : Cfg := ⟨s.shadowTopo, s.shadowRoute, s.shadowExc⟩

/-- The CHAR bank that a commit would leave active. -/
def State.shadowChar (s : State) : List (Nat × Word) := if s.stg.charHost.isEmpty then s.tab.char else s.tab.charAlt

/-! ### Changes (R150) -/

/-- A staged word differs from its active copy. -/
def differs (d : Nat → Word) (active staged : List (Nat × Word)) : Bool :=
  staged.any (fun e => e.2 != readAt d active e.1)

/-- The registers whose staged value differs. -/
def State.changedRegs (s : State) : List Nat := (s.stg.regs.map (·.1)).filter (fun a => s.shadowReg a != s.reg a)

/-- A staged route differs, LEADST apart. -/
def State.routeChanged (s : State) (r : Nat) : Bool :=
  s.shadowRoute r != (s.routeEntry r).modify 3 (· &&& 0x0FFF)

/-- The blocks that hold a change (R81), lowest first. -/
def State.changedBlocks (s : State) : List Nat :=
  (List.range 14).filter (fun b =>
    s.changedRegs.any (fun a => blockOf a == b)
    || (b == 4 && (differs zeroWord s.tab.topo s.stg.topo || s.stg.route.any (fun e => s.routeChanged (e.1 / 4))))
    || (b == 5 && differs waveDefault s.tab.wave s.stg.wave)
    || (b == 6 && s.stg.coefHost.any (fun i => coefEntry s.tab.coefAlt i != coefEntry s.tab.coef i))
    || (b == 7 && (differs zeroWord s.tab.valprog s.stg.valprog || differs zeroWord s.tab.fsk s.stg.fsk
      || s.stg.charHost.any (fun t =>
          readRun charDefault s.tab.charAlt (136 * t) 136 != readRun charDefault s.tab.char (136 * t) 136))))

/-! ### Reason codes and items (R150) -/

def chkBusyset : Nat := 1
def chkProt : Nat := 2
def chkValue : Nat := 3
def chkCrc : Nat := 4
def chkXpt : Nat := 5
def chkWinmin : Nat := 6
def chkExccomp : Nat := 7
def chkEnergy : Nat := 8
def chkLrvurv : Nat := 9
def chkCharmono : Nat := 10
def chkAngle : Nat := 11

/-- A block as a failing item. -/
def itemBlock (b : Nat) : Nat := 0xF000 + b

/-- An entry of a table space as a failing item. -/
def itemOf (space entry : Nat) : Nat := 4096 * space + entry

/-- The lowest of the failing items of one reason (log entry 31). -/
def lowest (l : List Nat) : Option Nat := l.foldl (fun acc x => match acc with
  | none => some x
  | some y => some (min x y)) none

/-- The items of a list of (item, fails). -/
def failing (l : List (Nat × Bool)) : List Nat := (l.filter (·.2)).map (·.1)

def outside (lo hi v : Nat) : Bool := v < lo || hi < v

/-! ### PROT -/

/-- PROT: a change in a block that the path may not write, or a loop put into FIXED without the FORCE grant (R447). -/
def protItem (s : State) (p : Path) : Option Nat :=
  let fixed := (List.range 6).any (fun n =>
    s.sfld (.LOOP_MODE_MODE n) == 2 && s.fld (.LOOP_MODE_MODE n) != 2) && !s.granted p grantForce
  lowest ((s.changedBlocks.filter (fun b => !s.mayWrite p b)).map itemBlock ++ (if fixed then [itemBlock 7] else []))

/-! ### VALUE: registers -/

/-- Staged registers outside their ranges (R218, R305, R348, R395, R447, R539, R666). -/
def regFails (s : State) : List Nat :=
  failing ([
    (Reg.ANG_CFG, 4 < s.sfld .ANG_CFG_MODE || s.sfld .ANG_CFG_SRC == 3),
    (Reg.ANG_TEETH, outside 1 2 (s.sfld .ANG_TEETH_MISS) || outside 8 512 (s.sfld .ANG_TEETH_N)),
    (Reg.ANG_LINES, outside 1 8192 (s.sfld .ANG_LINES_LINES)),
    (Reg.ANG_TMO, outside (if s.sfld .ANG_TMO_ABS = 1 then 1 else 5) 32767 (s.sfld .ANG_TMO_VAL)),
    (Reg.ANG_TPER, outside 4 40000 (s.sfld .ANG_TPER_TPER)),
    (Reg.ANG_SPDMAX, outside 1 60000 (s.sfld .ANG_SPDMAX_SPD)),
    (Reg.SEQ_URGSLICE, 12 < s.sfld .SEQ_URGSLICE_SLICE),
    (Reg.REF_CTRL, s.sfld .REF_CTRL_IOMODE == 3),
    (Reg.CAL_TOL, s.sfld .CAL_TOL_OTOL == 0 || s.sfld .CAL_TOL_RTOL == 0),
    (Reg.CAL_OVERLAP, s.sfld .CAL_OVERLAP_NPAIR == 0 || s.sfld .CAL_OVERLAP_TMAX == 0)]
  ++ [(Reg.ROPE_VTMO, s.sfld .ROPE_VTMO_VTMO == 0),
    (Reg.ROPE_PTMO, decide (10 * s.sfld .ROPE_PTMO_PTMO < 2 * s.sfld .ROPE_VTMO_VTMO + 30)),
    (Reg.ROPE_SHARE, 139 < s.sfld .ROPE_SHARE_RATE),
    (Reg.THM_GRACE, outside 1 1000 (s.sfld .THM_GRACE_GRACE))]
  ++ (List.range 6).flatMap (fun n => [
    (Reg.LOOP_MODE n, s.sfld (.LOOP_MODE_MODE n) != 0 && !s.fitted n),
    (Reg.LOOP_RBTOL n, outside 28 2731 (s.sfld (.LOOP_RBTOL_TOL n))),
    (Reg.LOOP_RBTMO n, outside 1 1000 (s.sfld (.LOOP_RBTMO_TMO n))),
    (Reg.LOOP_LVTMO n, outside 1 6000 (s.sfld (.LOOP_LVTMO_TMO n))),
    (Reg.LOOP_FVTMO n, outside 1 6000 (s.sfld (.LOOP_FVTMO_TMO n))),
    (Reg.LOOP_PARK n, outside codeLow codeHigh (s.sfld (.LOOP_PARK_CODE n))),
    (Reg.LOOP_CLRC n, outside codeLow codeHigh (s.sfld (.LOOP_CLRC_CODE n)))]))

/-- Staged excitation codes (R268). -/
def excFails (s : State) : List Nat :=
  failing ((List.range 4).flatMap (fun k =>
    let c := s.shadowExc k
    [(Reg.EXC_CFG k, xRange c == 3 || xWave c == 3),
     (Reg.EXC_FREQ k, if xAlock c then xFreq c % 65536 == 0 || 65536 ≤ xFreq c else outside 82 163840 (xFreq c))]))

/-! ### VALUE: routes and entries -/

def badPin (p : Nat) : Bool := decide (0x32 ≤ p)

/-- The reserved contents of a route (R233). -/
def routeBad (s : State) (r : List Word) : Bool :=
  let pins := [rPos r, rNeg r, rExaPin r, rExbPin r, rRefp r, rRefn r, rRtn r, rBias r]
  let usesA := rExaPin r != pinNone
  let usesB := rExbPin r != pinNone
  let onExc := fun p => p != pinNone && (p == rExaPin r || p == rExbPin r)
  pins.any badPin || 2 ≤ rRefsel r || 10 ≤ rDiag r || (rSdem r && (ew r 0).getLsbD 6)
  || (rDiag r == 0 && (rPos r == pinNone) != (rNeg r == pinNone))
  || (pins.drop 2).contains pinVbias
  || (rRefsel r == 1 && (rRefp r == pinNone || rRefn r == pinNone || rRefp r == rRefn r))
  || (!rSdem r && usesA && usesB && (rExaSel r == rExbSel r || rExaPin r == rExbPin r))
  || onExc (rRtn r) || onExc (rBias r) || (rRtn r != pinNone && rRtn r == rBias r)
  || (rDiag r != 0 && (usesA || usesB || rRtn r != pinNone || rBias r != pinNone))
  || (rSdem r && (!usesA || usesB || xWave (s.shadowExc (rExbSel r)) != 2))

/-- The reserved bits of a topo entry (R310 to R314). -/
def topoReserved (e : List Word) : Bool :=
  getField (ew e 2) 0 4 != 0 || getField (ew e 4) 8 7 != 0 || getField (ew e 5) 6 10 != 0 || getField (ew e 6) 0 12 != 0

/-- What makes an enabled entry fail with VALUE (R316, R299). -/
def topoBad (c : Cfg) (i : Nat) : Bool :=
  let e := c.topo i
  let r := c.route (tRoute e)
  tKind e == 3 || (12 ≤ tSlice e && tSlice e ≤ 14) || 2 ≤ tExcm e
  || tBurn e == 3 || topoReserved e || tDiv e < tDph e
  || (tKind e == kindTime && ew e 0 == 0)
  || (!tAngleWin e && (getField (ew e 3) 0 12 == 0 || 4194304 < tCycles e))
  || (tKind e == kindAfter && !(ew e 0).getLsbD 15 && !tEn (c.topo (getField (ew e 0) 0 8)))
  || (tLchk e && tSwap e)
  || (List.range 256).any (fun j => j != i && tEn (c.topo j) && tRreg (c.topo j) == tRreg e)
  || rEmpty r
  || (2 ≤ rDiag r && rDiag r ≤ 8 && (tGain e != 0 || tAuto e || tBurn e != 0))

/-- The enabled entries of a configuration. -/
def Cfg.entries (c : Cfg) : List Nat := (List.range 256).filter (fun i => tEn (c.topo i))

/-- BUFEN = 0 where the internal reference is needed, or IOMODE = OUT without the buffer (R295). -/
def refBad (s : State) : Bool :=
  let c := s.shadowCfg
  s.sfld .REF_CTRL_BUFEN == 0
    && (s.sfld .REF_CTRL_IOMODE == 1 || c.entries.any (fun i => needsRef (c.route (tRoute (c.topo i)))))

/-! ### VALUE: banks, programs and bursts -/

def outsideCode (w : Word) : Bool := (signed16 w.toNat) < -8192 || 8191 < (signed16 w.toNat)

/-- A written inactive COEF entry that fails (R358). -/
def coefBad (i : Nat) (e : List Word) : Bool :=
  outsideCode (ew e 0) || outsideCode (ew e 1) || getField (ew e 2) 8 8 < 4
  || (if i < 64 then getField (ew e 2) 0 4 != 0 || getField (ew e 4) 0 3 != 0 || getField (ew e 4) 6 2 == 3
    else getField (ew e 2) 0 7 != 0)

/-- How many parameters a stage names (R408). -/
def paramsOf (op : Nat) : Nat :=
  if op = opSrc then 2 else if op = opComb then 3 else if op = opPoly then 6 else if op = opLin then 4
  else if op = opSqrt then 2 else if op = opDamp then 1 else if op = opRate then 2 else if op = opRange then 2
  else if op = opClamp then 2 else if op = opAlarm then 4 else if op = opFixed then 1 else 0

/-- How many parameters one stage entry uses: those of LIN follow its function (R411): four for the RTD, P0 for a
thermocouple whose cold junction is P0, none with CJEN = 1. -/
def paramsUsed (e : List Word) : Nat :=
  if stOp e != opLin then paramsOf (stOp e)
  else if getField (stOpnd e) 12 4 == 0 then 4 else if (stOpnd e).getLsbD 0 then 0 else 1

/-- The OPND bits that a stage names (R408). -/
def opndMask (op : Nat) : Word :=
  if op = opSrc then 0xFFFF else if op = opLin then 0xF001 else if op = opTable then 0x00CF
  else if op = opAlarm then 0xE000 else 0

def f0 : Nat := 0
def f60 : Nat := fOf 60 1

/-- NPTS of a table. -/
def nptsOf (bank : List (Nat × Word)) (t : Nat) : Nat := getField (charW bank (34 * t) 0) 0 6

/-- The contents of a stage that fail with VALUE (R436). -/
def stageBad (bank : List (Nat × Word)) (e : List Word) : Bool :=
  let op := stOp e
  let o := stOpnd e
  let p := stP e
  let time := fun x => fLt x f0 || fLt f60 x
  if op = opEnd then getField (ew e 0) 0 6 != 0
  else
    opFixed < op || 5 ≤ stA e || (if op = opComb || op = opLin then 5 ≤ stB e else stB e != 0)
    || getField (ew e 0) 0 5 != 0 || (stNoat e && op != opSrc)
    || (o &&& ~~~(opndMask op)) != 0
    || (List.range 7).any (fun i => if i < paramsUsed e then !fFinite (p i) else paramsOf op ≤ i && p i != 0)
    || (op = opSrc && 263 < getField o 0 9)
    || (op = opLin && 8 < getField o 12 4)
    || (op = opTable && (11 < getField o 0 4 || outside 2 33 (nptsOf bank (getField o 0 4))))
    || (op = opDamp && time (p 0))
    || (op = opRate && (fLt (p 0) f0 || fLt (p 1) f0))
    || (op = opSqrt && fLt (p 0) f0)
    || (op = opAlarm && (time (p 2) || fLt (p 3) f0))
    || (op = opClamp && !(fZero (p 0) && fZero (p 1))
      && !(fLe ma38 (p 0) && fLt (p 0) (p 1) && fLe (p 1) ma205))

/-- The header of a table has a non-zero reserved bit (R424, R436). -/
def headerBad (bank : List (Nat × Word)) (t : Nat) : Bool :=
  let w := charW bank (34 * t)
  getField (w 0) 6 10 != 0 || w 1 != 0 || w 2 != 0

/-- The stages of the staged program of engine n, up to its END, with their entries. -/
def State.shadowProgram (s : State) (n : Nat) : List (Nat × List Word) :=
  let all := (List.range 16).map (fun k => (16 * n + k, s.shadowStage (16 * n + k)))
  let run := all.takeWhile (fun x => stOp x.2 != opEnd)
  run ++ (all.drop run.length).take 1

/-- The staged stages of the engines with RUN = 1 (R436). -/
def State.shadowStages (s : State) : List (Nat × List Word) :=
  ((List.range 6).filter (fun n => s.sfld (.VAL_CTRL_RUN n) == 1)).flatMap s.shadowProgram

/-- The tables that those stages name. -/
def State.tablesUsed (s : State) : List Nat :=
  (((s.shadowStages.filter (fun x => stOp x.2 == opTable)).map (fun x => getField (stOpnd x.2) 0 4)).filter (· < 12)).eraseDups

/-- An ENGINE loop whose engine does not run, or runs an empty program (R436). -/
def engineIdle (s : State) (n : Nat) : Bool :=
  s.sfld (.LOOP_MODE_MODE n) == 1 && (s.sfld (.VAL_CTRL_RUN n) == 0 || stOp (s.shadowStage (16 * n)) == opEnd)

/-- An enabled burst entry that fails (R467). -/
def burstBad (s : State) (n b : Nat) : Bool :=
  let w := fun i => s.shadowFsk (burstKey n b i)
  let len := getField (w 2) 0 8
  (w 0).getLsbD 15 && ((w 1).toNat < 10 || 56 < len || (List.range 4).any (fun i =>
    let d := w (4 + i)
    getField d 0 4 != 0 && (5 < getField d 0 4 || 5 < getField d 4 4 || len < getField d 8 8 + 4)))

/-- VALUE. -/
def valueItem (s : State) : Option Nat :=
  let c := s.shadowCfg
  lowest (regFails s ++ excFails s
    ++ (if refBad s then [Reg.REF_CTRL] else [])
    ++ failing ((List.range 6).map (fun n => (Reg.VAL_CTRL n, engineIdle s n)))
    ++ (c.entries.filter (topoBad c)).map (itemOf 1)
    ++ ((List.range 64).filter (fun r => routeBad s (s.shadowRoute r))).map (itemOf 2)
    ++ (s.stg.coefHost.filter (fun i => coefBad i (coefEntry s.tab.coefAlt i))).map (itemOf 4)
    ++ (s.tablesUsed.filter (headerBad s.shadowChar)).map (fun t => itemOf 5 (34 * t))
    ++ (s.shadowStages.filter (fun x => stageBad s.shadowChar x.2)).map (fun x => itemOf 6 x.1)
    ++ failing ((List.range 18).map (fun i => (itemOf 9 (32 * (i / 3) + 16 + 4 * (i % 3)), burstBad s (i / 3) (i % 3)))))

/-! ### CRC, XPT and WINMIN -/

/-- CRC: the first enabled entry that fails its CRC-16 (R315). -/
def crcItem (s : State) : Option Nat :=
  lowest ((s.shadowCfg.entries.filter (fun i => !tCrcOk (s.shadowTopo i))).map (itemOf 1))

/-- One tick in the units in which spans are counted: 60 × 10^9 × 32 of them (R690). -/
def spanUnit : Nat := 1920000000000

/-- The length of an ANGLE entry's span at ANG.SPDMAX (R690): setup, settle and window. -/
def spanLen (s : State) (e : List Word) : Nat :=
  let v := s.sfld .ANG_SPDMAX_SPD * 65536
  v * 8362 * 32 + (if tAngleWin e then tTicks e * spanUnit else v * tCycles e * 15625)

/-- The angle base can reverse (R690). -/
def canReverse (s : State) : Bool :=
  let m := s.sfld .ANG_CFG_MODE
  m == 2 || ((m == 0 || m == 1) && s.sfld .ANG_CFG_DIRIN == 1)

/-- The start and length of an ANGLE entry's span. -/
def angleSpan (s : State) (e : List Word) : Nat × Nat :=
  let a := (ew e 0).toNat * spanUnit
  let l := spanLen s e
  let rev := 65536 * spanUnit
  if canReverse s && !tFwd e then ((a + (rev - l % rev)) % rev, 2 * l) else (a, l)

/-- Two entries on different slices may be in their windows at the same time (R690). -/
def mayOverlap (s : State) (e f : List Word) : Bool :=
  if tKind e != kindAngle || tKind f != kindAngle then true
  else
    let a := angleSpan s e
    let b := angleSpan s f
    let rev := 65536 * spanUnit
    rev ≤ a.2 || rev ≤ b.2 || (b.1 + rev - a.1) % rev < a.2 || (a.1 + rev - b.1) % rev < b.2

/-- Both entries name the same live slice (R690). -/
def sameSlice (e f : List Word) : Bool := tSlice e == tSlice f && tSlice e != sliceAny

/-- XPT: the first entry that clashes with an earlier one. -/
def xptItem (s : State) : Option Nat :=
  let c := s.shadowCfg
  let es := c.entries
  let roles := fun i => pinRoles (c.topo i) (c.route (tRoute (c.topo i)))
  (es.find? (fun j => es.any (fun i => i < j && !sameSlice (c.topo i) (c.topo j)
    && pinClash (roles i) (roles j) && mayOverlap s (c.topo i) (c.topo j)))).map (itemOf 1)

/-- A window shorter than 256 modulator cycles at the greater of ANG.SPEED and ANG.SPDMAX (R150). -/
def shortWindow (s : State) (e : List Word) : Bool :=
  if tAngleWin e then
    tTicks e * 8000 < s.speed || tTicks e * 480000 < 65536 * s.sfld .ANG_SPDMAX_SPD
  else tCycles e < 256

/-- WINMIN. -/
def winminItem (s : State) : Option Nat :=
  (s.shadowCfg.entries.find? (fun i => shortWindow s (s.shadowTopo i))).map (itemOf 1)

/-! ### EXCCOMP (R268) -/

/-- The set current of a code lies between 0 and 10 µA (R249). -/
def tooSmall (c : List Word) (code : Nat) : Bool :=
  xCurrent c && code != 0 && decide (rangeNa (xRange c) * code < 655360000)

/-- A pin of a home connection is driven in another role by an enabled entry. -/
def homeClash (c : Cfg) (k : Nat) : Bool :=
  let r := c.route (xClrrt (c.exc k))
  let home := ((if rUsesA r k then [(rExaPin r, roleExc k)] else []) ++ (if rUsesB r k then [(rExbPin r, roleExc k)] else [])
    ++ [(rRtn r, roleRtn)]).filter (fun x => isPin x.1)
  xCont (c.exc k) && c.entries.any (fun i =>
    (pinRoles (c.topo i) (c.route (tRoute (c.topo i)))).any (fun x =>
      home.any (fun h => h.1 == x.1 && h.2 != x.2 && roleRefn < x.2)))

/-- EXCCOMP. -/
def exccompItem (s : State) : Option Nat :=
  let c := s.shadowCfg
  ((List.range 4).find? (fun k =>
    let x := c.exc k
    tooSmall x (xCode x) || (xClren x && tooSmall x (xClr x)) || (xCont x && !xClren x)
    || (xClren x && !rUses (c.route (xClrrt x)) k)
    || (xAlock x && decide (1200000 < xFreq x % 65536 * s.sfld .ANG_SPDMAX_SPD))
    || homeClash c k)).map Reg.EXC_CFG

/-! ### LRVURV and CHARMONO (R436) -/

def lrvurvItem (s : State) : Option Nat :=
  (s.shadowStages.find? (fun x => stOp x.2 == opRange && !fLt (stP x.2 0) (stP x.2 1) && !fLt (stP x.2 1) (stP x.2 0))).map
    (fun x => itemOf 6 x.1)

/-- The first point p of a table at which a comparison with the point before it fails. -/
def breakAt (n : Nat) (ok : Nat → Bool) : Option Nat := ((List.range n).filter (2 ≤ ·)).find? (fun p => !ok p)

/-- The first point that breaks the order of a table (R436): x rising, and with MONO y in one direction. -/
def monoBreak (bank : List (Nat × Word)) (t : Nat) (mono : Bool) : Option Nat :=
  let n := nptsOf bank t
  let pt := charPoint bank t
  let bx := breakAt (n + 1) (fun p => fLt (pt (p - 1)).1 (pt p).1)
  let up := breakAt (n + 1) (fun p => fLe (pt (p - 1)).2 (pt p).2)
  let dn := breakAt (n + 1) (fun p => fLe (pt p).2 (pt (p - 1)).2)
  let by_ := if !mono then none else match up, dn with
    | some a, some b => some (max a b)
    | _, _ => none
  match bx, by_ with
  | some a, some b => some (min a b)
  | some a, none => some a
  | none, b => b

def charmonoItem (s : State) : Option Nat :=
  lowest ((s.shadowStages.filter (fun x => stOp x.2 == opTable)).filterMap (fun x =>
    let t := getField (stOpnd x.2) 0 4
    (monoBreak s.shadowChar t ((stOpnd x.2).getLsbD 7)).map (fun p => itemOf 5 (34 * t + p))))

/-! ### The list (R150) -/

/-- The angle base holds its schedule after loss without substitution (R195). -/
def State.angleHolds (s : State) : Bool :=
  (s.flag .ANG_STAT_LOSS || (s.flag .ANG_STAT_BCNLOSS && s.angSrc = 1)) && !s.flag .ANG_STAT_SUBST

/-- The items that examine staged content, in order; nothing is examined where nothing is staged. -/
def contentFails (p : Path) (s : State) : Option (Nat × Nat) :=
  if s.changedBlocks.isEmpty then none
  else
    [(chkProt, protItem s p), (chkValue, valueItem s), (chkCrc, crcItem s), (chkXpt, xptItem s), (chkWinmin, winminItem s),
     (chkExccomp, exccompItem s), (chkEnergy, energyTest s.shadowCfg s.profile s), (chkLrvurv, lrvurvItem s),
     (chkCharmono, charmonoItem s)].findSome? (fun x => x.2.map (fun i => (x.1, i)))

/-- The check list (R150): none where it passes, else the reason and the failing item. -/
def checkList (at_ : Nat) (p : Path) (s : State) : Option (Nat × Nat) :=
  if s.stg.armed || s.stg.teamHeld then some (chkBusyset, 0)
  else match contentFails p s with
    | some x => some x
    | none => if at_ != 0 && s.angleHolds then some (chkAngle, 0) else none

end Sys2Proof.Machine
end

