-- ==== Sys2Proof/Machine/Commit.lean ====
section
/-! DEFINITION. The commit (R149 to R155): the commands of STG.CTRL, the end of the check list, the commit instant with
what every block does there, the copy of a swapped bank, and the core clock, which brings the instants of an angle. -/

namespace Sys2Proof.Machine

/-! ### Applying the shadow (R153) -/

/-- The staged words of a table become active. -/
def applyWords (d : Nat → Word) (active staged : List (Nat × Word)) : List (Nat × Word) :=
  staged.foldl (fun m e => writeAt d m e.1 e.2) active

/-- The staged routes become active; a changed one loses its LEADST (R234). -/
def applyRoutes (s : State) : List (Nat × Word) :=
  ((s.stg.route.map (fun e => e.1 / 4)).eraseDups).foldl (fun m r =>
    if s.routeChanged r then writeRun routeDefault m (4 * r) (s.shadowRoute r) else m) s.tab.route

/-- The registers take their staged words. -/
def applyRegs (s : State) : State := forList (s.stg.regs.map (·.1)) (fun a t => t.setReg a (s.shadowReg a)) s

/-- The tables take their staged words, and the banks written since the last swap are swapped (R154). -/
def applyTables (s : State) : State :=
  let coef := !s.stg.coefHost.isEmpty
  let char := !s.stg.charHost.isEmpty
  { s with
    tab := { s.tab with
      topo := applyWords zeroWord s.tab.topo s.stg.topo
      route := applyRoutes s
      valprog := applyWords zeroWord s.tab.valprog s.stg.valprog
      wave := applyWords waveDefault s.tab.wave s.stg.wave
      fsk := applyWords zeroWord s.tab.fsk s.stg.fsk
      coef := if coef then s.tab.coefAlt else s.tab.coef
      coefAlt := if coef then s.tab.coef else s.tab.coefAlt
      char := if char then s.tab.charAlt else s.tab.char
      charAlt := if char then s.tab.char else s.tab.charAlt
      charBad := if char then s.tab.charBad.filter (fun t => !charOk s.tab.charAlt t) else s.tab.charBad }
    stg := { s.stg with coefCopy := s.stg.coefCopy || coef, charCopy := s.stg.charCopy || char } }

/-- Nothing is staged any more, and DIRTY clears (R147). -/
def clearShadow (s : State) : State :=
  let g := s.stg
  { s with stg := { g with regs := [], topo := [], topoSince := [], route := [], valprog := [], wave := [], fsk := [], coefHost := [],
                           charHost := [] } }.setFlag .STG_STAT_DIRTY false

/-! ### What the blocks do at the commit instant; `old` is the state before it -/

/-- The entries whose enabling instant a commit is (R323). -/
def newlyEnabled (old s : State) : List Nat :=
  let was := old.entries
  s.entries.filter (fun e =>
    let a := old.topoEntry e
    let b := s.topoEntry e
    !was.contains e || ew a 0 != ew b 0 || ew a 1 != ew b 1 || ew a 3 != ew b 3)

/-- The entries that owe SETL after a commit (R288). -/
def changedSettings (old s : State) : List Nat :=
  let was := old.entries
  s.entries.filter (fun e =>
    let a := old.topoEntry e
    let b := s.topoEntry e
    !was.contains e || tRoute a != tRoute b || tGain a != tGain b || tBurn a != tBurn b || tAuto a != tAuto b
    || routeKey (old.routeEntry (tRoute b)) != routeKey (s.routeEntry (tRoute b)))

/-- A scheduled window of an entry that a commit changes: it says nothing of the entry's working gain any more (R290). -/
def markStale (changed : List Nat) (w : Window) : Window :=
  if w.occ.kind = 0 && changed.contains w.occ.entry then { w with stale := true } else w

/-- The sequencer at a commit: failed entries written again, with a good CRC, count as enabled (R319), occurrences of entries now off are dropped
(R329), working gains of changed entries return to G0 (R290), held bias pins no longer named open (R238), and entries are
enabled (R323). -/
def commitSchedule (old s : State) : State :=
  let dead := s.seq.crcDead.filter (fun e => !old.stg.topoSince.contains e || (tEn (s.topoEntry e) && !tCrcOk (s.topoEntry e)))
  let s := { s with seq := { s.seq with crcDead := dead } }.setFld .SEQ_DISENT_COUNT (min 255 dead.length)
  let on := s.entries
  let fresh := newlyEnabled old s
  let changed := (List.range 256).filter (fun e => old.topoEntry e != s.topoEntry e)
  let s := forEach 13 (fun n t => t.modSlice n (fun x => { x with
    pending := x.pending.filter (fun o => o.kind != 0 || on.contains o.entry)
    win := x.win.map (markStale changed)
    ended := x.ended.map (markStale changed) })) s
  let pins := (on.filterMap (fun e => biasPin (s.routeEntry (tRoute (s.topoEntry e)))))
  let s := { s with
    seq := { s.seq with
      timeRun := s.seq.timeRun.filter (fun e => on.contains e && !fresh.contains e)
      afterRun := s.seq.afterRun.filter (fun x => on.contains x.1 && tKind (s.topoEntry x.1) == kindAfter)
      gainAt := s.seq.gainAt.filter (fun x => !changed.contains x.1)
      bias := s.seq.bias.filter (fun p => pins.contains p)
      setlOwed := s.seq.setlOwed.filter (fun e => on.contains e) }
    cal := { s.cal with
      pairs := (s.cal.pairs.filter (fun p => on.contains p.1)).map (fun p => if changed.contains p.1 then (p.1, 0) else p) } }
  settleOverlap (enableEntries fresh (oweSetl (changedSettings old s) (powerSlices s)))

/-- The reference at a commit (R294, R296). -/
def commitReference (old s : State) : State :=
  let on := s.flag .REF_CTRL_BUFEN
  let s := if on != old.flag .REF_CTRL_BUFEN || s.fld .REF_CTRL_IOMODE != old.fld .REF_CTRL_IOMODE then
      s.setFlag .REF_STAT_READY false
    else s
  if s.inBivouac then { s with sys := { s.sys with bivRef := on } }
  else if on then s.setFlag .REF_STAT_BUFON true else settleBuffer s

/-- An output's settings, or its clear route where its clear connection is enabled, have changed: the change waits for its
application point, which may be now (R263, R264). -/
def commitOutput (old : State) (k : Nat) (s : State) : State :=
  let was := old.excSet k
  let rt := xClrrt (s.excRegs k)
  if old.excRegs k == s.excRegs k && (!(xClren was || xClren (s.excRegs k))
      || routeKey (old.routeEntry rt) == routeKey (s.routeEntry rt)) then s
  else excApply k (s.modExc k (fun x => { x with
    pending := true
    pendAt := old.now
    applied := was
    appliedRt := old.clearRoute k }))

/-- The EXC lease follows the committed schedule (R43). -/
def commitLease (s : State) : State :=
  if s.profile < 2 || !(s.mode == modeActive || s.mode == modeReduced) then s
  else
    let want := excLeaseWant s.activeCfg s.speed
    if want = s.pwr.exc.want then s else if want = 0 then endLease .exc s else requestLease .exc want s

/-- Engine n at a commit (R427, R429, R434): its program, of which a commit that writes it also writes the complemented copy, and
VAL.CTRL, then its loop's mode (R446). -/
def commitEngine (old : State) (n : Nat) (s : State) : State :=
  let written := old.stg.valprog.any (fun e => e.1 / 256 == n)
  let changed := (List.range 16).any (fun k => old.stageWords n k != s.stageWords n k)
    || old.reg (Reg.VAL_CTRL n) != s.reg (Reg.VAL_CTRL n)
  let s := if written then syncProgram n s else s
  let s := if changed || (written && (s.engine n).haltS) then engineChanged written n s else s
  if old.reg (Reg.LOOP_MODE n) != s.reg (Reg.LOOP_MODE n) then modeChanged n s else s

/-- BACT follows BURST (R465); a modem that is off has dropped its frames (R456, log entry 32). -/
def showModem (n : Nat) (s : State) : State :=
  let s := s.setFlag (.FSK_STAT_BACT n) (s.flag (.FSK_CTRL_BURST n))
  if s.modemOn n then s
  else
    let s := forList (s.fskCh n).tx (fun f t => match f.slot with
      | some k => setSlot n k slotFree t
      | none => t) s
    ((s.modFsk n (fun x => { x with tx := [] })).setFlag (.FSK_STAT_TXON n) false).setFlag (.FSK_STAT_CD n) false

/-- The same test passes for the active schedule, so REDPROF clears (R96). -/
def commitProfile (s : State) : State :=
  if s.flag .SYS_STAT_REDPROF && (energyTest s.activeCfg s.profile s).isNone then
    leaveReduced (s.setFlag .SYS_STAT_REDPROF false)
  else s

/-- This unit's part in a team commit ends with an outcome (R520, R535). -/
def memberOutcome (o : Nat) (s : State) : State :=
  match s.rope.member with
  | some m =>
    (s.setRegN Reg.ROPE_REASON (8192 * o + 256 * m.team)).modRope (fun r => { r with
      member := some { m with stage := 4, outcome := o } })
  | none => s

def outPrepared : Nat := 1
def outArmed : Nat := 2
def outApplied : Nat := 3
def outLate : Nat := 4
def outAborted : Nat := 5
def outTimeout : Nat := 6
def outRefused : Nat := 7

/-- Every block meets the configuration that `old` staged; OVSPD and FOR are judged against it (R188, R254). -/
def meetCommit (old s : State) : State :=
  let s := angleCommit old.reg s
  let s := showHopDelay (commitReference old s)
  let s := forEach 4 (commitOutput old) (commitLease s)
  let s := setSpeed s.speed s
  let s := commitSchedule old s
  let s := forEach 6 (commitEngine old) s
  let s := forEach 6 showModem (showCharFb (showEngines s))
  commitProfile (resumeCal (updateLoops s))

/-- COMMIT_INSTANT (R153): the shadow becomes the active configuration. -/
def applyCommit (s : State) : State :=
  let old := s
  let pos := s.angPos
  let team := s.stg.armedAt == 3
  let s := meetCommit old (clearShadow (applyTables (applyRegs s)))
  let s := { s with stg := { s.stg with armed := false, reached := false, teamHeld := false } }
  let s := (s.setFld .STG_STAT_STATE 3).setRegN Reg.STG_COUNT ((s.regN Reg.STG_COUNT + 1) % 65536)
  let s := (s.setRegN Reg.STG_APPANG pos).setFlag .STG_STAT_DONE true
  if team then memberOutcome outApplied s else s

/-- An armed commit whose instant has come is applied. -/
def settleCommit (s : State) : State := if s.stg.armed && s.stg.reached then applyCommit s else s

/-- COMMIT_INSTANT (R153). -/
def execCommitInstant (s : State) : Host.Outcome State Fault Refusal := .next (settleCommit s)

/-- BANK_COPY_DONE (R154). -/
def bankCopyDone (b : Bank) (s : State) : State :=
  match b with
  | .coef => if s.stg.coefCopy then
      { s with tab := { s.tab with coefAlt := s.tab.coef }, stg := { s.stg with coefCopy := false } } else s
  | .char => if s.stg.charCopy then
      { s with tab := { s.tab with charAlt := s.tab.char }, stg := { s.stg with charCopy := false } } else s

def execBankCopyDone (b : Bank) (s : State) : Host.Outcome State Fault Refusal := .next (bankCopyDone b s)

/-! ### STG.CTRL (R149) -/

def stIdle : Nat := 0
def stChecking : Nat := 1
def stArmed : Nat := 2
def stApplied : Nat := 3
def stReject : Nat := 4
def stPrepared : Nat := 5
def stPassed : Nat := 6

def State.stgState (s : State) : Nat := s.fld .STG_STAT_STATE

/-- Writes to ST fields and staged tables are answered BUSY (R125): while a check runs and while a commit is armed or prepared,
also where STATE shows REJECT for a later check that failed with BUSYSET (DESIGN CHOICE, log entry 56). -/
def State.stagedBusy (s : State) : Bool := s.stg.checking.isSome || s.stg.armed || s.stg.teamHeld

/-- Start the check list: a CHECK (0), a COMMIT (1) or a team PREPARE (2). -/
def startCheck (kind at_ : Nat) (p : Path) (s : State) : State :=
  { s with stg := { s.stg with checking := some (kind, at_, p) } }.setFld .STG_STAT_STATE stChecking

/-- DISCARD (R149). -/
def discardStaged (s : State) : State :=
  let armed := s.stg.armed
  let s := clearShadow s
  let s := { s with
    tab := { s.tab with coefAlt := s.tab.coef, charAlt := s.tab.char }
    stg := { s.stg with armed := false, reached := false } }
  let s := resumeCal (s.setFld .STG_STAT_STATE stIdle)
  if armed then s.setFlag .STG_STAT_DONE true else s

/-- The effect of a write of STG.CTRL (R149, R156). A wrong key or a reserved code is refused first, while a check runs too
(DESIGN CHOICE, log entry 57). -/
def stgCtrl (p : Path) (v : Word) (s : State) : Nat × State :=
  let at_ := getField v 4 3
  let cmd := getField v 0 4
  if getField v 8 8 != 0x5C || 2 < at_ || cmd = 0 || 3 < cmd then (stDeny, s)
  else if s.stg.checking.isSome then (stBusy, s)
  else if cmd = 3 then if s.stg.teamHeld then (stDeny, s) else (0, discardStaged s)
  else (0, startCheck (if cmd = 1 then 1 else 0) at_ p s)

/-- The check list has failed (R155). -/
def rejectCheck (r item : Nat) (s : State) : State :=
  (((s.setFld .STG_STAT_STATE stReject).setFld .STG_STAT_REASON r).setRegN Reg.STG_ITEM item).setFlag .STG_STAT_DONE true

/-- The check list has passed. -/
def passCheck (st : Nat) (s : State) : State :=
  ((s.setFld .STG_STAT_STATE st).setFld .STG_STAT_REASON 0).setRegN Reg.STG_ITEM 0

/-- The end of the check list of a CHECK or a COMMIT (R150, R152). -/
def endCheck (kind at_ : Nat) (p : Path) (s : State) : State :=
  let s := { s with stg := { s.stg with checking := none } }
  match checkList at_ p s with
  | some (r, item) => rejectCheck r item s
  | none =>
    if kind = 0 then (passCheck stPassed s).setFlag .STG_STAT_DONE true
    else
      let s := passCheck stArmed s
      { s with stg := { s.stg with
        armed := true, armedAt := at_, armedAngle := if at_ = 1 then s.regN Reg.STG_AT else 0, reached := at_ == 0 } }

/-! ### The core clock -/

/-- One core clock of running counts into the 10 s window of AVLOSS (R514); a clearing of the counts in between starts
them from 0. -/
def availClock (s : State) : State :=
  if !s.flag .SEQ_STAT_RUNNING then s
  else
    let (n, due, miss) := s.rope.avWindow
    if n + 1 < clocksPerMs 10000 then s.modRope (fun r => { r with avWindow := (n + 1, due, miss) })
    else
      let d := s.reg32 Reg.SEQ_DUE
      let m := s.reg32 Reg.SEQ_MISS
      let dd := if due ≤ d then d - due else d
      let dm := if miss ≤ m then m - miss else m
      let loss := if dd = 0 then 0 else min 65535 (roundDiv (1000000 * dm) dd).toNat
      s.modRope (fun r => { r with avWindow := (0, d, m), avLoss := loss })

/-- One core clock, after what the last one left to be applied at its end (R153). -/
def coreClock (s : State) : State :=
  let s := availClock (settleCommit s)
  exciteClock (endSetups (modulatorClock (angleClock (countMissed { s with now := s.now + 1 }))))

/-- n core clocks. -/
def runClocks : Nat → State → State
  | 0, s => s
  | n + 1, s => runClocks n (coreClock s)

/-- ANGLE_ADVANCE (R184): n core clocks pass; a device held in reset has no core clock (log entry 2). -/
def angleAdvance (n : Nat) (s : State) : State :=
  if s.sys.held then s else refreshSpeed (runClocks n s)

def execAngleAdvance (clocks : Nat) (s : State) : Host.Outcome State Fault Refusal := .next (angleAdvance clocks s)

end Sys2Proof.Machine
end

