-- ==== Sys2Proof/Machine/Log.lean ====
section
/-! DEFINITION. The cairn log (16) beyond its writing: reading by cursor, base and snapshot, clearing with a token, the
rate limiter's refill, and the remote records of the head. -/

namespace Sys2Proof.Machine

/-! ### Reading (R621 to R624) -/

/-- The newest valid SEQ, 0 if none. -/
def State.newestSeq (s : State) : Nat := s.regN Reg.LOG_SEQ

/-- A read of LOG.SEQ: it sets the path's base (R621). -/
def logSeqRead (p : Path) (s : State) : Word × State :=
  (s.reg Reg.LOG_SEQ, s.modPath p (fun x => { x with base := some (s.reg Reg.LOG_SEQ) }))

def snapOk : Nat := 0
def snapOvertaken : Nat := 1
def snapEmpty : Nat := 2
def snapBad : Nat := 3

/-- A slot is being erased or programmed (R623). -/
def State.slotBusy (s : State) (i : Nat) : Bool :=
  (match s.nvm.op with | some (.erase k) => slotSector i == k | _ => false)
  || (match s.nvm.jobs with
    | j :: _ => (s.nvm.op.isSome || j.step == 1) && j.place == i
        && (match j.kind with | .logRec _ => true | .clearing _ => decide (j.step < 2) | _ => false)
    | [] => false)

/-- What a latch of slot i finds (R623, REL = 0). -/
def State.slotFinds (s : State) (i : Nat) : Nat :=
  let bs := s.logBytes i
  if s.slotBusy i || allErased bs || logCleared bs || (s.logValid bs && s.logHides bs) then snapEmpty
  else if s.slotValidAt i then snapOk
  else snapBad

/-- Set a path's snapshot and its LOG.SNAP (R623, R632). -/
def setSnap (p : Path) (bs : List Byte) (st slot : Nat) (s : State) : State :=
  s.modPath p (fun x => { x with snap := bs, snapStat := word (st * 16384 + slot) })

/-- Latch slot i (R623, R624). -/
def latchSlot (p : Path) (i : Nat) (s : State) : State := setSnap p (s.logBytes i) (s.slotFinds i) i s

/-- Latch the record with the SEQ that lies IDX before the base (R622, R623, REL = 1). -/
def latchBack (p : Path) (idx : Nat) (s : State) : State :=
  let zeros := List.replicate 32 (0 : Byte)
  let b := match (s.path p).base with
    | some w => w.toNat
    | none => s.newestSeq
  if b = 0 then setSnap p zeros snapEmpty 0 s
  else
    let t := (b + 65536 - idx) % 65536
    let valid := s.validSlots.filter (fun e => !s.slotBusy e.1)
    match valid.find? (fun e => e.2 == t) with
    | some e => setSnap p (s.logBytes e.1) snapOk e.1 s
    | none =>
      let n := s.newestSeq
      let span := valid.foldl (fun m e => max m ((n + 65536 - e.2) % 65536)) 0
      if valid.isEmpty || span < (n + 65536 - t) % 65536 then
        setSnap p zeros (if s.flag .LOG_STAT_DROP then snapOvertaken else snapEmpty) 0 s
      else setSnap p zeros snapBad 0 s

/-- The cursor after a latch (R622): with AUTO it steps back by one. -/
def stepCursor (c : Word) : Word :=
  let idx := getField c 0 10
  if !c.getLsbD 14 then c
  else if c.getLsbD 15 then putField c 0 10 (min 1023 (idx + 1))
  else putField c 0 10 ((idx + 1023) % 1024)

/-- A word of a path's snapshot. -/
def State.snapWord (s : State) (p : Path) (w : Nat) : Word := word (ofLe (slice' (s.path p).snap (2 * w) 2))

/-- A read of LOG.WIN word 0 (R623). -/
def logWinLatch (p : Path) (s : State) : Word × State :=
  let c := (s.path p).cursor
  let idx := getField c 0 10
  let s := if c.getLsbD 15 then latchBack p idx s else latchSlot p idx s
  (s.snapWord p 0, s.modPath p (fun x => { x with cursor := stepCursor c }))

/-! ### Clearing (R625 to R627) -/

/-- Clearing cannot be asked for: no grant, the lockout, no key, or a clearing running. -/
def clearClosed (p : Path) (s : State) : Bool :=
  !s.granted p grantLogClr || s.flag .LOG_STAT_LOCK || s.flag .LOG_STAT_NOKEY || s.flag .LOG_STAT_BUSY

/-- A read of the low word of LOG.CHAL (R625): a new challenge of the internal random source, a free value. -/
def issueChallenge (p : Path) (s : State) : Nat × State :=
  if clearClosed p s then (0, s)
  else
    let (v, s) := s.freeDraw
    (v.toNat, { s with log := { s.log with chal := some (p, v.toNat) } }.setFld .LOG_CLRST_STATE 1)

/-- CHALLENGE_EXPIRE (R625). -/
def challengeExpire (s : State) : State :=
  match s.log.chal with
  | none => s
  | some _ => { s with log := { s.log with chal := none } }.setFld .LOG_CLRST_STATE 0

def execChallengeExpire (s : State) : Host.Outcome State Fault Refusal := .next (challengeExpire s)

/-- The token of a challenge (R626): the first 8 bytes of the tag, byte 0 the least significant. -/
def clearToken (key : List Byte) (chal uid : Nat) : Nat :=
  ofLe ((hmacSha256 key (leNat 8 chal ++ leNat 8 uid ++ [0x43, 0x4C, 0x52])).take 8)

/-- A path as records name it (R618): its kind, and its rope address or loop. -/
def pathParams : Path → List Nat
  | .host => [0, 0]
  | .rope src => [1, src]
  | .loop ch => [2, ch]
  | .engine => [3, 0]

/-- The clearing begins (R627): LOGCLEARED is made, and its job follows the records already queued. -/
def beginClear (p : Path) (s : State) : State :=
  let s := (s.setFld .LOG_CLRST_FAILS 0).setFld .LOG_CLRST_STATE 2
  let s := { s.setFlag .LOG_STAT_BUSY true with log := { s.log with chal := none } }
  let r : Rec := ⟨0x381, stamp s 0x381 clsInfo (pathParams p), false, false⟩
  let s := bindCounters 0x381 s
  let s := if s.fld .XFER_CAP_SRC = 1 && s.fld .XFER_CAP_PARAM = 0x381 then capTrigger 1 s else s
  addJob s { kind := .clearing r }

/-- The running time of the lockout (R627): 10 minutes. -/
def lockoutClocks : Nat := clocksPerMs 600000

/-- An attempt fails (R627); the third in a row locks clearing out. -/
def clearFail (p : Path) (s : State) : State :=
  let n := s.fld .LOG_CLRST_FAILS
  let s := { s with log := { s.log with chal := none } }.setFld .LOG_CLRST_STATE 4
  if n < 2 then s.setFld .LOG_CLRST_FAILS (n + 1)
  else
    let s := (s.setFlag .LOG_STAT_LOCK true).setFld .LOG_CLRST_STATE 5
    mkRecord 0x382 clsNote (pathParams p) { s with log := { s.log with lockUntil := s.now + lockoutClocks } }

/-- The write of the highest word of LOG.CLR submits the token (R627): the answer's status, and the state. -/
def logClrSubmit (p : Path) (token : Nat) (s : State) : Nat × State :=
  if clearClosed p s then (stDeny, s)
  else
    match s.log.chal, s.nvm.logKey with
    | some (q, c), some k => if q = p && clearToken k c s.uid = token then (0, beginClear p s) else (0, clearFail p s)
    | _, _ => (0, clearFail p s)

/-- The lockout minutes remaining, rounded up (R635). -/
def State.lockMin (s : State) : Nat :=
  if s.flag .LOG_STAT_LOCK then min 10 (ceilDiv (s.log.lockUntil - s.now) (clocksPerMs 60000)) else 0

/-- CLEAR_LOCKOUT_END (R627). -/
def clearLockoutEnd (s : State) : State :=
  if s.flag .LOG_STAT_LOCK then
    ((s.setFlag .LOG_STAT_LOCK false).setFld .LOG_CLRST_FAILS 0).setFld .LOG_CLRST_STATE 0
  else s

def execClearLockoutEnd (s : State) : Host.Outcome State Fault Refusal := .next (clearLockoutEnd s)

/-! ### Rate limiting (R620) -/

/-- BUCKET_REFILL (R620): a token, and the SUPPRESSED record where records were suppressed. -/
def bucketRefill (g : Nat) (s : State) : State :=
  let b := nth {} s.log.buckets g
  if b.depth = 255 || b.depth ≤ b.tokens then s
  else
    let s := { s with log := { s.log with buckets := s.log.buckets.set g { b with tokens := b.tokens + 1, count := 0 } } }
    if b.count = 0 then s else mkRecord 0x383 clsInfo [g, b.count, b.first, b.last] s

def execBucketRefill (g : Nat) (s : State) : Host.Outcome State Fault Refusal := answerIf (g < 32) (bucketRefill g s)

/-! ### Remote records (R613) -/

/-- EVT (R510, R613): the head's remote record; a link lost at a unit detaches what lies below it. -/
def evtReceive (src : Nat) (bytes : List Byte) (s : State) : State :=
  let s := takeInbox tyEvt src s
  if !s.isHead then s
  else
    let w := ofLe (bytes.take 2)
    let s := queueRecord ⟨w % 4096, leNat 2 (w % 32768 + 32768) ++ bytes.drop 2, false, false⟩ s
    let s := s.setFlag .ROPE_STAT_EVRX true
    if w % 4096 = 0x10E && ofLe (slice' bytes 12 2) = 1 && s.rope.chain.contains src then
      detachFrom (s.rope.chain.findIdx (· == src) + 1) s
    else s

def execEvt (src : Nat) (bytes : List Byte) (s : State) : Host.Outcome State Fault Refusal :=
  answerIf (src < 32 && bytes.length == 28) (evtReceive src bytes s)

end Sys2Proof.Machine
end

