-- ==== Sys2Proof/Machine/TeamTab.lean ====
section
/-! DEFINITION. The leader's team table (R512 to R514, R523 to R526): its entries and masks, the figures a unit reports
of itself, the aggregate entry, and the live writes with DEFINE and DELETE. The manual gives the TEAM and CMT frames no
byte layout; the sub-op codes and layouts here are the model's (log entry 11). -/

namespace Sys2Proof.Machine

/-! ### Sub-ops of TEAM frames (log entry 11) -/

def opRegister : Nat := 1
def opDeregister : Nat := 2
def opExpand : Nat := 3
def opJoin : Nat := 4
def opLeave : Nat := 5
def opPoll : Nat := 6
def opGrant : Nat := 7
def opMasks : Nat := 8
def opJoined : Nat := 9
def opSummary : Nat := 10

/-- Send a TEAM frame of a sub-op about a team. -/
def sendTeam (dst op team : Nat) (rest : List Byte) (s : State) : State :=
  sendOff (ownFrame s tyTeam dst (leNat 1 op ++ leNat 1 team ++ rest)) s

/-! ### Entries (R523 to R526) -/

def setTeamW (t e w : Nat) (v : Word) (s : State) : State :=
  { s with tab := { s.tab with team := writeAt zeroWord s.tab.team (teamKey t e w) v } }

/-- Write words of an entry from word w on. -/
def setTeamRun (t e w : Nat) (vs : List Word) (s : State) : State :=
  { s with tab := { s.tab with team := writeRun zeroWord s.tab.team (teamKey t e w) vs } }

/-- Two words of an entry as a mask. -/
def State.teamMask (s : State) (t e w : Nat) : Nat := (s.teamW t e w).toNat + 65536 * (s.teamW t e (w + 1)).toNat

def setTeamMask (t e w m : Nat) (s : State) : State := setTeamRun t e w [word m, word (m / 65536)] s

def State.teamUnits (s : State) (t : Nat) : Nat := s.teamMask t 0 2
def State.teamClosure (s : State) (t : Nat) : Nat := s.teamMask t 0 4

def tsEmpty : Nat := 0
def tsDefining : Nat := 1
def tsActive : Nat := 2
def tsCycle : Nat := 3
def tsRefused : Nat := 4

/-- The addresses of a mask, ascending. -/
def bitsOf (m : Nat) : List Nat := (List.range 32).filter (fun a => m.testBit a)

/-- The mask of a list of addresses. -/
def maskOf (l : List Nat) : Nat := l.foldl (fun m a => m ||| 2 ^ a) 0

/-- ROPE.TEAMS.LEAD and ROPE.STAT.CYCLE follow the slots (R527, R536). -/
def showTeams (s : State) : State :=
  let led := (List.range 4).filter (fun t => s.teamState t == tsActive || s.teamState t == tsCycle)
  (s.setFld .ROPE_TEAMS_LEAD led.length).setFlag .ROPE_STAT_CYCLE (led.any (fun t => s.teamState t == tsCycle))

/-- Set STATE and DREASON of a slot. -/
def setTeamState (t st reason : Nat) (s : State) : State := showTeams (setTeamW t 0 1 (word (st * 8192 + reason)) s)

/-- A slot's members in force, with their entry numbers: (entry, kind, address). -/
def State.members (s : State) (t : Nat) : List (Nat × Nat × Nat) :=
  let l := nth [] s.rope.teams t
  (List.range l.length).map (fun i => (i + 1, nth (0, 0) l i))

/-- The members that the entries 1 to NMEM name (R524, R525). -/
def State.writtenMembers (s : State) (t : Nat) : List (Nat × Nat) :=
  (List.range (getField (s.teamW t 0 0) 8 5)).map (fun i =>
    let w := s.teamW t (i + 1) 0
    (getField w 15 1, getField w 0 5))

def mbNone : Nat := 0
def mbJoined : Nat := 1
def mbLost : Nat := 2
def mbMismatch : Nat := 3

def State.memberState (s : State) (t e : Nat) : Nat := getField (s.teamW t e 1) 14 2
def setMemberState (t e st : Nat) (s : State) : State := setTeamW t e 1 (word (st * 16384)) s

/-- The UID that a member entry holds. -/
def State.memberUid (s : State) (t e : Nat) : Nat := s.teamMask t e 2 + 4294967296 * s.teamMask t e 4
def setMemberUid (t e uid : Nat) (s : State) : State := setTeamMask t e 4 (uid / 4294967296) (setTeamMask t e 2 uid s)

/-- The last SUMMARY of a member. -/
def State.sumOf (s : State) (t e : Nat) : Option Summary := lookupAt s.rope.sums (32 * t + e)

/-- UNITS and CLOSURE from the members and what the member teams last answered (R512 step 5, R513). -/
def showMasks (t : Nat) (s : State) : State :=
  let ms := s.members t
  let masks := s.rope.nested.filter (fun x => x.1 / 32 == t)
  let units := maskOf ((ms.filter (fun m => m.2.1 == 0)).map (fun m => m.2.2))
  let teams := maskOf ((ms.filter (fun m => m.2.1 == 1)).map (fun m => m.2.2))
  setTeamMask t 0 4 (masks.foldl (fun k x => k ||| x.2.2) teams)
    (setTeamMask t 0 2 (masks.foldl (fun k x => k ||| x.2.1) units) s)

/-! ### What a unit reports of itself (R513, R514) -/

/-- The slices that are not retired, the swing slice among them. -/
def State.goodSlices (s : State) : Nat :=
  ((List.range 12).filter (fun n => !s.fldBit .SLC_RETIRED_RET n)).length + (if s.flag .CAL_STAT_SWRET then 0 else 1)

/-- HEALTH (R514). -/
def State.health (s : State) : Nat :=
  let fit := (List.range 6).filter s.fitted
  let ok := (fit.filter (fun n => s.fld (.LOOP_STAT_SRC n) != srcAlarm)).length
  let a := 100 * s.goodSlices / 13
  if fit.isEmpty then a else min a (100 * ok / fit.length)

/-- The SUMMARY of this unit as a member. -/
def State.ownSummary (s : State) : Summary :=
  ⟨s.uid, s.flth, s.fld .FLT_STAT_WCLASS, s.health, s.rope.avLoss, 0, 0⟩

/-- The SUMMARY of a team led here: its aggregate entry, UNITS and CLOSURE. -/
def State.teamSummary (s : State) (t : Nat) : Summary :=
  let w := s.teamW t 31 0
  ⟨0, w.getLsbD 15, getField w 13 2, (s.teamW t 31 1).toNat, (s.teamW t 31 2).toNat, s.teamUnits t, s.teamClosure t⟩

/-- A SUMMARY as the bytes after its sub-op and team. -/
def summaryBytes (m : Summary) : List Byte :=
  leNat 8 m.uid ++ leNat 1 (m.fault.toNat + 2 * m.wclass) ++ leNat 1 m.health ++ leNat 2 m.avloss ++ leNat 4 m.units
    ++ leNat 4 m.closure

/-- A TEAM POLL that reaches this unit, or a team that it leads, is answered with its SUMMARY (R513). -/
def answerPoll (f : RopeFrame) (s : State) : State :=
  if f.typ = tyTeam && f.payload.head? == some (byte opPoll) then
    let team := (f.payload.getD 1 0).toNat
    let m := match s.ledSlot f.dst with
      | some t => s.teamSummary t
      | none => s.ownSummary
    sendTeam f.src opSummary team (summaryBytes m) s
  else s

/-! ### The aggregate entry (R514, R526) -/

/-- The aggregate of a slot over its JOINED members. With none that has reported, the manual states no minimum and no
worst member: HEALTH and WORST are then free values (log entry 1). -/
def showAggregate (t : Nat) (s : State) : State :=
  let ms := s.members t
  let joined := ms.filter (fun m => s.memberState t m.1 == mbJoined)
  let lost := ms.any (fun m => s.memberState t m.1 == mbLost || s.memberState t m.1 == mbMismatch)
  let sums := joined.filterMap (fun m => (s.sumOf t m.1).map (fun x => (m.2.2, x)))
  let wclass := sums.foldl (fun k x => max k x.2.wclass) 0
  let part := getField (s.teamW t 31 0) 11 1
  let w0 := (if sums.any (fun x => x.2.fault) then 32768 else 0) + 8192 * wclass + (if lost then 4096 else 0) + 2048 * part
    + joined.length % 32
  let av := sums.foldl (fun k x => max k x.2.avloss) 0
  let (v, s) := if sums.isEmpty then s.freeDraw else (0, s)
  let health := if sums.isEmpty then v.toNat % 65536 else sums.foldl (fun k x => min k x.2.health) 65535
  let worst := match sums.find? (fun x => x.2.wclass == wclass) with
    | some x => x.1
    | none => v.toNat / 65536 % 32
  setTeamRun t 31 0 [word w0, word health, word av, word worst] s

/-- The PARTIAL mark of the aggregate entry. -/
def setPartial (t : Nat) (b : Bool) (s : State) : State :=
  setTeamW t 31 0 (putField (s.teamW t 31 0) 11 1 (if b then 1 else 0)) s

/-! ### Membership of this unit, and the head's team ids -/

/-- This unit is joined directly to a team of a leader (R512 step 4, R536). -/
def joinTeam (leader team : Nat) (s : State) : State :=
  let s := s.modRope (fun r => { r with
    memberOf := if r.memberOf.contains (leader, team) then r.memberOf else r.memberOf ++ [(leader, team)] })
  s.setFld .ROPE_TEAMS_MEMB (min 30 s.rope.memberOf.length)

/-- This unit leaves a team (R512). -/
def leaveTeam (leader team : Nat) (s : State) : State :=
  let s := s.modRope (fun r => { r with memberOf := r.memberOf.filter (· != (leader, team)) })
  s.setFld .ROPE_TEAMS_MEMB (min 30 s.rope.memberOf.length)

/-- The head grants a team id: it is free, or already bound to this team of this leader's UID (R506, R512). -/
def claimFree (r : Rope) (id uid : Nat) : Bool :=
  freeAddr r id || r.teamIds.any (fun x => x.1 == id && x.2.2 == uid)

/-- The head binds a team id. -/
def bindTeam (id leader uid : Nat) (s : State) : State :=
  s.modRope (fun r => { r with teamIds := r.teamIds.filter (fun x => x.1 != id) ++ [(id, leader, uid)] })

/-- A team id leaves DNMASK. -/
def unmask (id : Nat) (s : State) : State :=
  s.modRope (fun r => { r with dnMask := if r.dnMask.testBit id then r.dnMask - 2 ^ id else r.dnMask })

/-- The head releases a team id. -/
def releaseTeam (id : Nat) (s : State) : State :=
  unmask id (s.modRope (fun r => { r with teamIds := r.teamIds.filter (fun x => x.1 != id) }))

/-- The leader gives a team id back: at the head itself at once, else by a DEREGISTER. -/
def deregisterTeam (id : Nat) (s : State) : State :=
  if s.isHead then releaseTeam id s else sendTeam (s.fld .ROPE_ADDR_HEADA) opDeregister id [] s

/-- The leader claims or confirms a team id (R506, R512): at the head itself at once, else by a REGISTER. -/
def registerTeam (id : Nat) (s : State) : State :=
  if s.isHead then if claimFree s.rope id s.uid then bindTeam id s.unitNo s.uid s else s
  else sendTeam (s.fld .ROPE_ADDR_HEADA) opRegister id (uidBytes s.uid) s

/-! ### DEFINE and DELETE (R512) -/

/-- A DEFINE is written: the slot is DEFINING until its steps have ended. -/
def beginDefine (t : Nat) (s : State) : State := setTeamState t tsDefining 0 s

/-- DELETE: a DEREGISTER, LEAVE to each unit member, and STATE EMPTY. -/
def deleteTeam (t : Nat) (s : State) : State :=
  let id := s.teamId t
  let led := s.teamState t == tsActive || s.teamState t == tsCycle
  let s := if led then
      forList (s.members t) (fun m u =>
        if m.2.1 != 0 then u
        else if m.2.2 = u.unitNo then leaveTeam u.unitNo id u
        else sendTeam m.2.2 opLeave id [] u) (deregisterTeam id s)
    else s
  let s := s.modRope (fun r => { r with
    teams := r.teams.set t []
    sums := r.sums.filter (fun x => x.1 / 32 != t)
    nested := r.nested.filter (fun x => x.1 / 32 != t) })
  setTeamState t tsEmpty 0 (setTeamW t 31 4 0 s)

/-- The checks of step 1: DREASON, or none where they pass. -/
def defineFails (s : State) (t : Nat) : Option Nat :=
  let id := getField (s.teamW t 0 0) 0 5
  let ms := s.writtenMembers t
  let addrs := ms.map (·.2)
  if id < 1 || 30 < id || ms.isEmpty || 30 < ms.length || addrs.any (fun a => a == 0 || a == 31 || a == id)
      || addrs.eraseDups.length != addrs.length then some 1
  else if !s.flag .ROPE_STAT_ENUMD then some 2
  else none

/-- Step 4 for member entry e: a unit member joins; its answer is its UID, or none within ROPE.VTMO. -/
def joinMember (t id e kind addr : Nat) (ans : Option (Nat × Nat)) (s : State) : State :=
  let s := setTeamRun t e 1 (List.replicate 7 0) s
  let own := kind == 0 && addr == s.unitNo
  let s := if kind = 0 then (if own then joinTeam s.unitNo id s else sendTeam addr opJoin id [] s) else s
  match (if own then some (s.uid, 0) else ans) with
  | none => setMemberState t e mbLost s
  | some x => setMemberState t e mbJoined (if kind = 0 then setMemberUid t e x.1 s else s)

/-- Steps 2 to 5 of a DEFINE that passed its checks; `granted` is the head's answer, `answers` the members' in order: a
unit's UID, a team's UNITS and CLOSURE, or none within ROPE.VTMO. -/
def runDefine (t : Nat) (granted : Bool) (answers : List (Option (Nat × Nat))) (s : State) : State :=
  let id := getField (s.teamW t 0 0) 0 5
  let ms := s.writtenMembers t
  let ok := if s.isHead then claimFree s.rope id s.uid else granted
  let s := registerTeam id s
  if !ok then setTeamState t tsRefused 3 s
  else
    let es := (List.range ms.length).map (fun i => (i + 1, (nth (0, 0) ms i).1, (nth (0, 0) ms i).2, nth none answers i))
    let nested := es.filter (fun x => x.2.1 == 1)
    let s := forList nested (fun x u => sendTeam x.2.2.1 opExpand x.2.2.1 [] u) s
    if nested.any (fun x => match x.2.2.2 with | some m => m.2.testBit id | none => false) then
      setTeamState t tsRefused 4 (deregisterTeam id s)
    else
      let masks := nested.filterMap (fun x => x.2.2.2.map (fun m => (32 * t + x.1, m)))
      let s := showMasks t (s.modRope (fun r => { r with
        teams := r.teams.set t ms
        sums := r.sums.filter (fun x => x.1 / 32 != t)
        nested := r.nested.filter (fun x => x.1 / 32 != t) ++ masks }))
      let s := forList es (fun x u => joinMember t id x.1 x.2.1 x.2.2.1 x.2.2.2 u) s
      let s := setTeamW t 31 4 (word id) (setPartial t false s)
      let joined := (es.filter (fun x => s.memberState t x.1 == mbJoined)).length
      let w0 := (if joined = es.length then 0 else 4096) + joined % 32
      setTeamState t tsActive 0 (setTeamW t 31 0 (word w0) s)

/-- The end of the steps that a DEFINE has started (R512). -/
def defineTeam (t : Nat) (granted : Bool) (answers : List (Option (Nat × Nat))) (s : State) : State :=
  if s.teamState t != tsDefining then s
  else
    match defineFails s t with
    | some r => setTeamState t tsRefused r s
    | none => runDefine t granted answers s

/-! ### Live writes of table space TEAM (R523 to R525) -/

/-- A write of header word 0: the status bits and the state. -/
def teamHeader (t : Nat) (v : Word) (s : State) : Nat × State :=
  let cmd := getField v 14 2
  let put := fun u => setTeamW t 0 0 (v &&& 0x1F1F) u
  if cmd = 3 then (stDeny, s)
  else if cmd = 1 then
    if (nth {} s.rope.leads t).phase != 0 then (stBusy, s) else (0, beginDefine t (put s))
  else if cmd = 2 then (0, put (deleteTeam t s))
  else (0, put s)

/-- A write of word w of entry e of slot t: only the fields marked RW or WO take effect; a slot being defined answers
BUSY. -/
def teamWrite (t e w : Nat) (v : Word) (s : State) : Nat × State :=
  if s.teamState t = tsDefining then (stBusy, s)
  else if e = 0 && w = 0 then teamHeader t v s
  else if 1 ≤ e && e ≤ 30 && w = 0 then (0, setTeamW t e 0 (v &&& 0x801F) s)
  else (0, s)

end Sys2Proof.Machine
end

