-- ==== Sys2Proof/Machine/Windows.lean ====
section
/-! DEFINITION. Wider quantities with their shadows (R136 to R139), and the table windows (R141 to R146): the words of
every table space, read and written. -/

namespace Sys2Proof.Machine

/-! ### Quantities and shadows (R137 to R139) -/

/-- A word of a wider quantity: the key of its lowest word, its place, and the quantity's words. -/
structure QWord where
  key : Nat
  idx : Nat
  words : Nat
deriving DecidableEq, Repr

/-- A read of a word of a quantity (R137, R138): the low word latches the higher ones; a higher word that is not in the
shadow is read live and torn. -/
def quantityRead (p : Path) (q : QWord) (live : Nat → Word) (s : State) : Answer × State :=
  if q.idx = 0 then
    let high := (List.range (q.words - 1)).map (fun i => (q.key + i + 1, live (i + 1)))
    (⟨0, live 0⟩, s.modPath p (fun x => { x with readShadow := high }))
  else
    match lookupAt (s.path p).readShadow (q.key + q.idx) with
    | some w => (⟨0, w⟩, s)
    | none => (⟨stTorn, live q.idx⟩, s)

/-- What a write of a word of a quantity does (R139): it waits in the shadow, it is out of order, or it completes the
quantity. -/
inductive QWrite where
  | held
  | torn
  | whole (ws : List Word)
deriving DecidableEq, Repr

/-- A write of a word of a quantity into the path's write shadow (R139). -/
def quantityWrite (p : Path) (q : QWord) (v : Word) (s : State) : QWrite × State :=
  let sh := (s.path p).writeShadow
  let put := fun (l : List (Nat × Word)) => s.modPath p (fun x => { x with writeShadow := l })
  if q.idx = 0 then (.held, put [(q.key, v)])
  else if sh.length = q.idx && (sh.headD (0, 0)).1 = q.key then
    if q.idx + 1 = q.words then (.whole (sh.map (·.2) ++ [v]), put [])
    else (.held, put (sh ++ [(q.key + q.idx, v)]))
  else (.torn, s)

/-- Words of a quantity as a number, low word first. -/
def ofWords (ws : List Word) : Nat := ws.foldr (fun w n => w.toNat + 65536 * n) 0

/-! ### Table spaces (R143) -/

def spTopo : Nat := 1
def spRoute : Nat := 2
def spResult : Nat := 3
def spCoef : Nat := 4
def spChar : Nat := 5
def spValprog : Nat := 6
def spWave : Nat := 7
def spLog : Nat := 8
def spFskq : Nat := 9
def spCapture : Nat := 10
def spProt : Nat := 11
def spTeam : Nat := 12
def spNvj : Nat := 13

/-- The entries and the words per entry of a space. -/
def spaceSize (sp : Nat) : Nat × Nat :=
  match sp with
  | 1 => (256, 8)
  | 2 => (64, 4)
  | 3 => (264, 2)
  | 4 => (168, 6)
  | 5 => (408, 4)
  | 6 => (102, 16)
  | 7 => (256, 1)
  | 8 => (1024, 16)
  | 9 => (192, 16)
  | 10 => (2048, 16)
  | 11 => (1, 16)
  | 12 => (128, 8)
  | 13 => (2048, 16)
  | _ => (0, 0)

/-- The block that owns a space (R81). -/
def spaceBlock (sp : Nat) : Nat :=
  match sp with
  | 4 => 6
  | 5 => 7
  | 6 => 7
  | 7 => 5
  | 8 => 11
  | 9 => 7
  | 10 => 9
  | 11 => 0
  | 12 => 8
  | 13 => 10
  | _ => 4

/-- The wider quantity that a table word belongs to, as (its first offset, its words): results, CHAR points, engine
parameters and state, and team masks and UIDs. -/
def tableQuantity (sp cur ofs : Nat) : Option (Nat × Nat) :=
  if sp = spResult then some (0, 2)
  else if sp = spChar then if cur % 34 = 0 then none else some (ofs / 2 * 2, 2)
  else if sp = spValprog then
    if cur < 96 then if ofs < 2 then none else some (ofs / 2 * 2, 2)
    else if ofs < 8 then some (ofs / 2 * 2, 2) else none
  else if sp = spTeam then
    if cur % 32 = 0 then if ofs < 2 then none else some (ofs / 2 * 2, 2)
    else if cur % 32 < 31 && 2 ≤ ofs && ofs < 6 then some (2, 4)
    else none
  else none

/-- A table word as a word of its quantity. -/
def tableQWord (sp cur ofs : Nat) : Option QWord :=
  (tableQuantity sp cur ofs).map (fun q => ⟨65536 * sp + 16 * cur + q.1, ofs - q.1, q.2⟩)

/-! ### Reserved bits read as 0 (R5) -/

/-- The bits of a word of a topo entry that are not reserved (R308 to R315). -/
def topoMask (ofs : Nat) : Word :=
  match ofs with
  | 2 => 0xFFF0
  | 4 => 0x80FF
  | 5 => 0x003F
  | 6 => 0xF000
  | _ => 0xFFFF

/-- Those of a route word (R229). -/
def routeMask (ofs : Nat) : Word := if ofs = 0 then 0xFFBF else 0xFFFF

/-- Those of a COEF word (R356, R357). -/
def coefMask (i ofs : Nat) : Word :=
  if i < 64 then if ofs = 2 then 0xFFF0 else if ofs = 4 then 0xFFF8 else 0xFFFF
  else if ofs = 2 then 0xFF80 else 0xFFFF

/-- Those of a CHAR word (R424). -/
def charMask (cur ofs : Nat) : Word :=
  if cur % 34 = 0 then if ofs = 0 then 0x003F else if ofs < 3 then 0 else 0xFFFF else 0xFFFF

/-- Those of a word of a stage entry with operation code op (R407, R408). -/
def stageMask (op ofs : Nat) : Word :=
  if ofs = 0 then if op = opSrc then 0xFFE0 else 0xFFC0
  else if op = opEnd then 0xFFFF
  else if ofs = 1 then opndMask op
  else if (ofs - 2) / 2 < paramsOf op then 0xFFFF else 0

/-- Those of word w of a burst entry (R471). -/
def burstMask (w : Nat) : Word :=
  if w = 0 then 0x80FF else if w = 1 then 0xFFFF else if w = 2 then 0x00FF else if w = 3 then 0
  else if w < 36 then 0xFFFF else 0

/-- A word of table space FSKQ (R469 to R472): word w of loop n's part; word 2 of a slot is its age in ms. -/
def State.fskqWord (s : State) (alt : Bool) (n w : Nat) : Word :=
  if w < 256 && w % 64 = 2 then
    match (s.fskCh n).arrived.find? (fun a => a.1 == w / 64) with
    | some a => word (min 65535 ((s.now - a.2) / clocksPerMs 1))
    | none => 0
  else if 256 ≤ w && w < 448 then
    (if alt then s.shadowFsk (512 * n + w) else s.fskW (512 * n + w)) &&& burstMask ((w - 256) % 64)
  else s.fskW (512 * n + w)

/-- The live word of a table space that a read returns, apart from the two banks (R143). -/
def State.tableWord (s : State) (p : Path) (alt : Bool) (sp cur ofs : Nat) : Word :=
  match sp with
  | 1 => (if alt then ew (s.shadowTopo cur) ofs else s.topoW cur ofs) &&& topoMask ofs
  | 2 => (if alt then ew (s.shadowRoute cur) ofs else s.routeW cur ofs) &&& routeMask ofs
  | 3 => s.resultWord cur ofs
  | 6 =>
    if cur < 96 then
      let e := if alt then s.shadowStage cur else readRun zeroWord s.tab.valprog (16 * cur) 16
      ew e ofs &&& stageMask (stOp e) ofs
    else ew (s.engine (cur - 96)).entry ofs
  | 7 => if alt then shadowWord waveDefault s.tab.wave s.stg.wave cur else readAt waveDefault s.tab.wave cur
  | 8 => s.snapWord p ofs
  | 9 => s.fskqWord alt (cur / 32) (cur % 32 * 16 + ofs)
  | 10 => word (ofLe (readRun ramByte s.xfer.ram (32 * cur + 2 * ofs) 2))
  | 11 => s.protWord ofs
  | 12 => readAt zeroWord s.tab.team (8 * cur + ofs)
  | _ => 0

/-- A word of a bank: while a swapped bank is being copied, each word of the inactive one that still differs reads old or
new (R154, a free choice, log entry 1). -/
def bankWord (d : Nat → Word) (active inactive : List (Nat × Word)) (copying alt : Bool) (k : Nat) (s : State) : Word × State :=
  if !alt then (readAt d active k, s)
  else if copying && readAt d active k != readAt d inactive k then
    let (new, s) := s.freeChoice
    (if new then readAt d active k else readAt d inactive k, s)
  else (readAt d inactive k, s)

/-- A single word of a space and the state after its read. -/
def spaceRead (p : Path) (alt : Bool) (sp cur ofs : Nat) (s : State) : Answer × State :=
  match tableQWord sp cur ofs with
  | some q =>
    if sp = spChar then
      let base := 4 * cur + ofs - q.idx
      let (w0, s) := bankWord charDefault s.tab.char s.tab.charAlt s.stg.charCopy alt base s
      let (w1, s) := bankWord charDefault s.tab.char s.tab.charAlt s.stg.charCopy alt (base + 1) s
      quantityRead p q (fun i => if i = 0 then w0 else w1) s
    else quantityRead p q (fun i => s.tableWord p alt sp cur (ofs - q.idx + i)) s
  | none =>
    if sp = spCoef then
      let (w, s) := bankWord coefDefault s.tab.coef s.tab.coefAlt s.stg.coefCopy alt (6 * cur + ofs) s
      (⟨0, w &&& coefMask cur ofs⟩, s)
    else if sp = spChar then
      let (w, s) := bankWord charDefault s.tab.char s.tab.charAlt s.stg.charCopy alt (4 * cur + ofs) s
      (⟨0, w &&& charMask cur ofs⟩, s)
    else if sp = spLog then
      let s := if ofs = 0 then latchSlot p cur s else s
      (⟨0, s.snapWord p ofs⟩, s)
    else if sp = spNvj && (!s.testMode || s.storeHeld (32 * cur + 2 * ofs)) then (⟨stDeny, 0⟩, s)
    else if sp = spNvj then
      let (w, s) := readStore (32 * cur + 2 * ofs) s
      (⟨0, w⟩, s)
    else (⟨0, s.tableWord p alt sp cur ofs⟩, s)

/-! ### Staged and banked writes (R146, R147) -/

def markDirty (s : State) : State := s.setFlag .STG_STAT_DIRTY true

def State.modStg (s : State) (f : Staging → Staging) : State := { s with stg := f s.stg }

/-- Stage the ST bits of a register. -/
def stageReg (a : Nat) (v : Word) (s : State) : State :=
  markDirty (s.modStg (fun g => { g with regs := insertAt g.regs a (v &&& stMask a) }))

/-- A write of a COEF word: into the inactive bank, its check word computed; word 5 is discarded (R358). -/
def coefWrite (i ofs : Nat) (v : Word) (s : State) : State :=
  if ofs = 5 then s
  else
    let e := (coefEntry s.tab.coefAlt i).set ofs v
    stageCoef [i] { s with tab := { s.tab with coefAlt := putCoef s.tab.coefAlt i e } }

/-- A write of words of a CHAR entry: into the inactive bank, the table's check word computed (R425). -/
def charWrite (cur ofs : Nat) (vs : List Word) (s : State) : State :=
  let t := cur / 34
  let bank := writeRun charDefault s.tab.charAlt (4 * cur + ofs) vs
  let bank := writeAt charDefault bank (136 * t + 3) (charCrc bank t)
  let s := s.modStg (fun g => { g with charHost := if g.charHost.contains t then g.charHost else g.charHost ++ [t] })
  markDirty { s with tab := { s.tab with charAlt := bank } }

/-- The bits of a live FSKQ word that a write takes: the response of a slot, and the identity (R470, R472). -/
def fskqMask (w : Nat) : Word :=
  if w < 256 then
    let k := w % 64
    if k = 32 || k = 33 then 0x00FF else if 36 ≤ k then 0xFFFF else 0
  else if 448 ≤ w then
    match w - 448 with
    | 0 => 0x1F3F
    | 1 => 0xFFFF
    | 2 => 0xFFFF
    | 3 => 0xFFFF
    | 4 => 0x00FF
    | 5 => 0x00FF
    | _ => 0
  else 0

/-- A write of an FSKQ word: word 0 of a slot under R463, burst entries staged, the rest live. -/
def fskqWrite (n w : Nat) (v : Word) (s : State) : Nat × State :=
  if w < 256 && w % 64 = 0 then slotWrite n (w / 64) v s
  else if 256 ≤ w && w < 448 then (0, markDirty (s.modStg (fun g => { g with fsk := insertAt g.fsk (512 * n + w) v })))
  else
    let m := fskqMask w
    (0, setFskW (512 * n + w) ((s.fskW (512 * n + w) &&& ~~~m) ||| (v &&& m)) s)

/-- The staged part of a write: spaces whose writes are answered BUSY during a check or an armed commit (R125). -/
def spaceStaged (sp cur : Nat) : Bool :=
  sp == spTopo || sp == spRoute || sp == spCoef || sp == spChar || sp == spValprog || sp == spWave
    || (sp == spFskq && 16 ≤ cur % 32 && cur % 32 < 28)

/-- A write to a table word, in range and allowed: its status bits and the state (R143). -/
def spaceWrite (p : Path) (sp cur ofs : Nat) (v : Word) (s : State) : Nat × State :=
  if sp = spResult || sp = spLog || sp = spCapture || sp = spProt || sp = spNvj || (sp = spValprog && 96 ≤ cur) then (stDeny, s)
  else if spaceStaged sp cur && s.stagedBusy then (stBusy, s)
  else if (sp = spCoef && s.stg.coefCopy) || (sp = spChar && s.stg.charCopy) then (stBusy, s)
  else
    let put := fun (vs : List Word) (from_ : Nat) (s : State) =>
      if sp = spChar then charWrite cur from_ vs s
      else markDirty (s.modStg (fun g => { g with
        valprog := (List.range vs.length).foldl (fun m i => insertAt m (16 * cur + from_ + i) (ew vs i)) g.valprog }))
    match (if sp = spTeam then none else tableQWord sp cur ofs) with
    | some q =>
      match quantityWrite p q v s with
      | (.held, s) => (0, s)
      | (.torn, s) => (stTorn, s)
      | (.whole ws, s) => (0, put ws (ofs - q.idx) s)
    | none =>
      match sp with
      | 1 => (0, markDirty (s.modStg (fun g => { g with
          topo := insertAt g.topo (8 * cur + ofs) v
          topoSince := if s.seq.crcDead.contains cur && !g.topoSince.contains cur then g.topoSince ++ [cur] else g.topoSince })))
      | 2 => (0, markDirty (s.modStg (fun g => { g with
          route := insertAt g.route (4 * cur + ofs) (if ofs = 3 then v &&& 0x0FFF else v) })))
      | 4 => (0, coefWrite cur ofs v s)
      | 5 => (0, if ofs = 3 then s else put [v] ofs s)
      | 6 => (0, put [v] ofs s)
      | 7 => (0, markDirty (s.modStg (fun g => { g with wave := insertAt g.wave cur v })))
      | 9 => fskqWrite (cur / 32) (cur % 32 * 16 + ofs) v s
      | 12 => teamWrite (cur / 32) (cur % 32) ofs v s
      | _ => (stDeny, s)

/-! ### The window registers (R141, R142, R144, R145) -/

def State.win (s : State) (n : Nat) : Win := nth {} s.wins n
def State.modWindow (s : State) (n : Nat) (f : Win → Win) : State := { s with wins := modNth s.wins n f }

/-- The path may use CUR, OFS and DATA of a window: the window is open and its own. -/
def State.ownsWindow (s : State) (p : Path) (n : Nat) : Bool := (s.win n).owner == some p

/-- A write of WIN[n].SPACE (R142, R163). -/
def windowSpace (p : Path) (n : Nat) (v : Word) (s : State) : Nat × State :=
  let id := getField v 0 8
  if 13 < id then (stDeny, s)
  else
    let err := s.flag (.WIN_SPACE_ERR n) && !v.getLsbD 15
    let s := s.setReg (Reg.WIN_SPACE n)
      ((v &&& 0x01FF) ||| word ((if err then 32768 else 0) + 1024 * min 2 (pathRow p)))
    let s := (s.setReg (Reg.WIN_CUR n) 0).setReg (Reg.WIN_OFS n) 0
    (0, s.modWindow n (fun _ => { owner := if id = 0 then none else some p, past := false }))

/-- A window closes by itself (R142): ID reads 0, and OWNER, ALT and ERR stay as they were (DESIGN CHOICE, log entry 58). -/
def windowClose (n : Nat) (s : State) : State :=
  (s.setFld (.WIN_SPACE_ID n) 0).modWindow n (fun _ => {})

/-- The window advances by one word (R144); past entry 2,047 it stands beyond the space (R145). -/
def windowAdvance (n : Nat) (s : State) : State :=
  let words := (spaceSize (s.fld (.WIN_SPACE_ID n))).2
  let ofs := s.fld (.WIN_OFS_OFS n)
  let cur := s.fld (.WIN_CUR_CUR n)
  if ofs + 1 < words then s.setFld (.WIN_OFS_OFS n) (ofs + 1)
  else
    ((s.setFld (.WIN_OFS_OFS n) 0).setFld (.WIN_CUR_CUR n) ((cur + 1) % 2048)).modWindow n
      (fun w => { w with past := w.past || cur == 2047 })

/-- The access lies outside the space (R145). -/
def State.windowOutside (s : State) (n : Nat) : Bool :=
  let size := spaceSize (s.fld (.WIN_SPACE_ID n))
  (s.win n).past || decide (size.1 ≤ s.fld (.WIN_CUR_CUR n)) || decide (size.2 ≤ s.fld (.WIN_OFS_OFS n))

/-- A read of WIN[n].DATA. -/
def windowRead (p : Path) (n : Nat) (s : State) : Answer × State :=
  let sp := s.fld (.WIN_SPACE_ID n)
  if !s.ownsWindow p n || !s.mayRead p (spaceBlock sp) then (⟨stDeny, 0⟩, s)
  else if s.windowOutside n then (⟨stDeny, 0⟩, s.setFlag (.WIN_SPACE_ERR n) true)
  else
    let (a, s) := spaceRead p (s.flag (.WIN_SPACE_ALT n)) sp (s.fld (.WIN_CUR_CUR n)) (s.fld (.WIN_OFS_OFS n)) s
    (a, if a.status &&& (stDeny + stBusy) = 0 then windowAdvance n s else s)

/-- A write of WIN[n].DATA; one that is refused, BUSY or torn does not advance. -/
def windowWrite (p : Path) (n : Nat) (v : Word) (s : State) : Nat × State :=
  let sp := s.fld (.WIN_SPACE_ID n)
  if !s.ownsWindow p n || !s.mayWrite p (spaceBlock sp) then (stDeny, s)
  else if s.windowOutside n then (stDeny, s.setFlag (.WIN_SPACE_ERR n) true)
  else
    let (st, s) := spaceWrite p sp (s.fld (.WIN_CUR_CUR n)) (s.fld (.WIN_OFS_OFS n)) v s
    (st, if st = 0 then windowAdvance n s else s)

end Sys2Proof.Machine
end

