-- ==== Sys2Proof/Machine/Access.lean ====
section
/-! DEFINITION. Register access on any path (R9, R78 to R84, R116, R125, R126, R136 to R148): the gates every access
passes, what a read returns, and what a write does in each block. -/

namespace Sys2Proof.Machine

/-! ### Gates -/

/-- Normal access is served: from ACTIVE onward, or in the fatal state once the map is locked (R91, R125). -/
def State.served (s : State) : Bool := !s.sys.held && (s.isActive || (s.isFatal && s.sys.boot.lockDone))

/-- The registers that every path can read at any time (R84, R86). -/
def alwaysReadable (a : Nat) : Bool := a == Reg.SYS_ID || a == Reg.SYS_BOOTST

/-- The window register that an address is: the window and 0 SPACE, 1 CUR, 2 OFS, 3 DATA (R141). -/
def windowReg (a : Nat) : Option (Nat × Nat) := if 0x1F0 ≤ a ∧ a < 0x200 then some ((a - 0x1F0) / 4, (a - 0x1F0) % 4) else none

/-- The writes that the fatal state allows (R651). -/
def fatalWritable (a : Nat) : Bool :=
  a == Reg.SYS_RST || a == Reg.FLT_CLR || a == Reg.LOG_CURSOR
    || (match windowReg a with | some w => w.2 != 3 | none => false)

/-- A write of the register reaches an LK field (R126). -/
def lockedReg (a : Nat) : Bool := (regInfo a).lk != 0

/-- The registers wider than 16 bits (R168): low word and words. -/
def quantities : List (Nat × Nat) :=
  [(Reg.SYS_UID, 4), (Reg.SYS_IMGCRC, 2), (Reg.FLT_FIRST, 2), (Reg.FLT_LAST, 2), (Reg.FLT_ACT, 4), (Reg.ANG_SPEED, 2),
   (Reg.ANG_PASS, 2), (Reg.SEQ_DUE, 2), (Reg.SEQ_MISS, 2), (Reg.EXC_FREQ 0, 2), (Reg.EXC_FREQ 1, 2), (Reg.EXC_FREQ 2, 2),
   (Reg.EXC_FREQ 3, 2), (Reg.XMEM_SIZE, 2), (Reg.XFER_WPTR, 2), (Reg.CNT 0, 2), (Reg.CNT 1, 2), (Reg.CNT 2, 2),
   (Reg.CNT 3, 2), (Reg.CNT 4, 2), (Reg.CNT 5, 2), (Reg.CNT 6, 2), (Reg.CNT 7, 2), (Reg.LOG_CHAL, 4), (Reg.LOG_CLR, 4)]

/-- A register word as a word of its quantity. -/
def regQWord (a : Nat) : Option QWord :=
  (quantities.find? (fun q => decide (q.1 ≤ a) && decide (a < q.1 + q.2))).map (fun q => ⟨q.1, a - q.1, q.2⟩)

/-! ### Reads -/

/-- The outstanding challenge as the path that holds it sees it (R625, R633). -/
def State.challengeOf (s : State) (p : Path) : Nat :=
  match s.log.chal with
  | some (q, c) => if q = p then c else 0
  | none => 0

/-- The word that a register shows a path: per-path registers, values computed at the read, the shadow of ST fields with
STG.VIEW (R148), else the register; WO fields read 0 (R9). -/
def State.regView (s : State) (p : Path) (a : Nat) : Word :=
  if a = Reg.STG_VIEW then if (s.path p).view then 1 else 0
  else if a = Reg.LOG_CURSOR then (s.path p).cursor
  else if a = Reg.LOG_SNAP then (s.path p).snapStat
  else if Reg.LOG_WIN ≤ a ∧ a < Reg.LOG_WIN + 16 then s.snapWord p (a - Reg.LOG_WIN)
  else if Reg.LOG_CHAL ≤ a ∧ a < Reg.LOG_CHAL + 4 then word (s.challengeOf p / 65536 ^ (a - Reg.LOG_CHAL))
  else if a = Reg.LOG_CLRST then putField (s.reg a) 7 4 s.lockMin
  else if a = Reg.ROPE_UP ∨ a = Reg.ROPE_DN then putField (s.reg a) 13 1 (if s.linkActive then 1 else 0)
  else if (s.path p).view && stMask a != 0 then s.shadowReg a
  else s.reg a

/-- What a read clears (R9): the RC fields; THM.MAX takes the present hottest reading (R667). -/
def readClears (a : Nat) (s : State) : State :=
  let m := word (regInfo a).rc
  if m = 0 then s
  else
    let s := s.setReg a (s.reg a &&& ~~~m)
    if a = Reg.THM_MAX then
      match s.hottest with
      | some t => s.setRegN Reg.THM_MAX (wrap16 t)
      | none => s
    else s

/-- A read of a register that the gates let through. -/
def readReg (p : Path) (a : Nat) (s : State) : Answer × State :=
  match windowReg a with
  | some (n, 3) => windowRead p n s
  | some (n, k) => if k != 0 && !s.ownsWindow p n then (⟨stDeny, 0⟩, s) else (⟨0, s.reg a⟩, s)
  | none =>
    if a = Reg.NVM_DATA then
      let (st, w, s) := nvmDataRead s
      (⟨st, w⟩, s)
    else if a = Reg.XFER_PULL then
      let (w, s) := pullNext s
      (⟨0, w⟩, s)
    else if a = Reg.LOG_SEQ then
      let (w, s) := logSeqRead p s
      (⟨0, w⟩, s)
    else if a = Reg.LOG_WIN then
      let (w, s) := logWinLatch p s
      (⟨0, w⟩, s)
    else if a = Reg.LOG_CHAL then
      let (c, s) := issueChallenge p s
      quantityRead p ⟨Reg.LOG_CHAL, 0, 4⟩ (fun i => word (c / 65536 ^ i)) s
    else
      match regQWord a with
      | some q => quantityRead p q (fun i => s.regView p (q.key + i)) s
      | none => (⟨0, s.regView p a⟩, readClears a s)

/-- The key of R606 counts for the access immediately after it. -/
def dropKey (p : Path) (s : State) : State := s.modPath p (fun x => { x with nvmKey := false })

/-- A read access on a path: its answer and the state after it. Before ACTIVE, and in reset, only SYS.ID and SYS.BOOTST
return data, with BUSY (R125); a refused read returns 0 with DENY (R84). -/
def accessRead (p : Path) (a : Nat) (s : State) : Answer × State :=
  if !s.served then (⟨stBusy, if alwaysReadable a then s.reg a else 0⟩, s)
  else
    let s := dropKey p s
    if !alwaysReadable a && !s.mayRead p (blockOf a) then (⟨stDeny, 0⟩, s)
    else readReg p a s

/-! ### Writes: registers without a behaviour of their own (R9) -/

/-- RW bits take the value, W1C bits written 1 clear, ST bits are staged, all others are left. -/
def plainWrite (a : Nat) (v : Word) (s : State) : State :=
  let i := regInfo a
  let w := ((s.reg a &&& ~~~(word i.rw)) ||| (v &&& word i.rw)) &&& ~~~(v &&& word i.w1c)
  let s := s.setReg a w
  if i.st = 0 then s else stageReg a v s

/-! ### Writes by block -/

/-- SYS.MODE (R96, R99, R102, R111). A write of BIVREQ = 0 clears it, and so leaves bivouac, only where it was 1; in a bivouac
for SPEED it does nothing (DESIGN CHOICE, log entry 54). -/
def modeWrite (v : Word) (s : State) : State :=
  let s := redreqEffect (v.getLsbD 15) s
  if v.getLsbD 14 then if s.flag .SYS_MODE_BIVREQ then s else bivreqEffect s
  else if s.flag .SYS_MODE_BIVREQ then leaveBivouac false (s.setFlag .SYS_MODE_BIVREQ false)
  else s

/-- SYS.RST (R113). -/
def resetWrite (v : Word) (s : State) : Nat × State :=
  if v = 0xC35A then (0, gentleReset .software s) else (stDeny, s)

/-- SEQ.CTRL (R343): a refused RUN leaves CLRCNT undone. -/
def seqCtrlWrite (v : Word) (s : State) : Nat × State :=
  let (st, s) := if v.getLsbD 15 then sequencerStart s
    else (0, if s.flag .SEQ_CTRL_RUN then sequencerStop s else s)
  if st != 0 then (st, s) else (0, if v.getLsbD 14 then clearCounts s else s)

/-- The command of a write of CAL.CTRL (R390). -/
def calCommand (nvWr : Bool) (v : Word) (s : State) : Nat × State :=
  let route := getField v 6 6
  let n := getField v 2 4
  match getField v 12 3 with
  | 1 => if nvWr then (0, saveCommand s) else (stDeny, s)
  | 2 => sysCommand false route n s
  | 3 => sysCommand true route n s
  | 4 => nowCommand n s
  | 5 => retestCommand n s
  | 6 => if s.stagedBusy || s.stg.coefCopy then (stBusy, s) else reloadCommand s
  | 7 => if s.stagedBusy || s.stg.coefCopy then (stBusy, s) else factoryCommand s
  | _ => (0, s)

/-- CAL.CTRL: an accepted write also sets BGEN (R390). -/
def calCtrlWrite (nvWr : Bool) (v : Word) (s : State) : Nat × State :=
  if 13 ≤ getField v 2 4 then (stDeny, s)
  else
    let (st, s) := calCommand nvWr v s
    (st, if st = 0 then s.setFlag .CAL_CTRL_BGEN (v.getLsbD 15) else s)

/-- XMEM.CLK (R570). -/
def clkWrite (v : Word) (s : State) : State :=
  let top := if s.flag .XMEM_STAT_SAFE then 4 else min 33 (max 1 s.xfer.clockMax)
  s.setFld .XMEM_CLK_MHZ (min top (max 1 (getField v 0 6)))

/-- XFER.CTRL (R559, R571): its bits DXMEM and CXMEM need the ENGINE path's XMCAP. -/
def xferCtrl (v : Word) (s : State) : Nat × State :=
  if ctrlAllowed (s.granted .engine grantXmCap) v s then (0, ctrlEffect v s) else (stDeny, s)

/-- XFER.RING (R573). -/
def ringWrite (v : Word) (s : State) : Nat × State :=
  if s.flag .XFER_CTRL_EN || 32 < getField v 0 6 then (stDeny, s) else (0, s.setReg Reg.XFER_RING v)

/-- The completed write of XFER.WPTR (R575); FULL ends. -/
def wptrWrite (a : Nat) (s : State) : Nat × State :=
  if s.flag .XFER_CTRL_EN || a % 4 != 0 || a < s.capRegion.1 || s.capRegion.2 ≤ a then (stDeny, s)
  else
    (0, ((s.setReg32 Reg.XFER_WPTR a).setFlag .XFER_STAT_FULL false).modXfer (fun x => { x with erased := [] }))

/-- The command of XFER.CAP (R546, R548). -/
def capCommand (cmd : Nat) (s : State) : State :=
  if cmd = 1 then armCapture s
  else if cmd = 2 then capTrigger 3 s
  else if cmd = 3 then stopCapture s
  else s

/-- XFER.CAP (R576). -/
def capWrite (v : Word) (s : State) : Nat × State :=
  if getField v 14 2 = 3 then (stDeny, s) else (0, capCommand (getField v 12 2) (s.setReg Reg.XFER_CAP (v &&& 0xCFFF)))

/-- XFER.PULL (R561). -/
def pullWriteBy (p : Path) (v : Word) (s : State) : State :=
  pullWrite p v (fun q => s.mayRead q 9) (fun q b => s.granted q b) s

/-- NVM.CTRL (R600, R603); `key` says that the path's last access wrote the key. -/
def nvmCtrlWrite (p : Path) (key : Bool) (v : Word) (s : State) : Nat × State :=
  let grant := s.granted p grantNvWr
  let arg := getField v 8 4
  match getField v 12 4 with
  | 1 => (0, progCommand key grant s)
  | 2 => (0, eraseCommand key grant s)
  | 3 => (0, jreadCommand (s.mayRead p 10) s)
  | 4 => (0, jwriteCommand key grant (getField v 0 5) s)
  | 5 => (0, lsaveCommand key grant arg s)
  | 6 => (0, cincCommand grant arg s)
  | _ => (stDeny, s)

/-- NVM.KEY (R606). -/
def nvmKeyEffect (p : Path) (v : Word) (s : State) : Nat × State :=
  if v = 0x3C96 then (0, s.modPath p (fun x => { x with nvmKey := true })) else (stDeny, s)

/-- FLT.CLR (R647, R659). -/
def fltClrWrite (p : Path) (v : Word) (s : State) : Nat × State :=
  if getField v 8 8 != 0xB7 then (stDeny, s)
  else
    match getField v 0 4 with
    | 1 => (0, clearLatches s)
    | 2 => (0, clearAllLatches s)
    | 3 => (0, kickTimer p s)
    | _ => (stDeny, s)

/-- FLT.STAT (R649, R658): a write of HKA restarts the keep-alive timer. -/
def fltStatWrite (v : Word) (s : State) : State :=
  let s := plainWrite Reg.FLT_STAT v s
  { s with flt := { s.flt with hkaRun := s.hkaEnabled } }

/-- An armed injection ends. -/
def disarm (s : State) : State := { s with flt := { s.flt with injPath := none } }.setFlag .FLT_STAT_INJARM false

/-- FLT.INJ (R653). -/
def fltInjWrite (p : Path) (v : Word) (s : State) : Nat × State :=
  if !s.testMode then (stDeny, s)
  else if s.flt.injPath = some p then
    match inject v.toNat (disarm s) with
    | some t => (0, t)
    | none => (stDeny, disarm s)
  else if v = 0x6E19 then
    (0, { s with flt := { s.flt with injPath := some p } }.setFlag .FLT_STAT_INJARM true)
  else (stDeny, s)

/-- A word of a quantity goes through the path's write shadow (R139); whole, EXC[k].FREQ is staged, XFER.WPTR and LOG.CLR
take it, and any other quantity ignores it (R9). -/
def quantityReg (p : Path) (q : QWord) (v : Word) (s : State) : Nat × State :=
  if q.key = Reg.XFER_WPTR && s.flag .XFER_CTRL_EN then (stDeny, s)
  else
    match quantityWrite p q v s with
    | (.held, s) => (0, s)
    | (.torn, s) => (stTorn, s)
    | (.whole ws, s) =>
      if Reg.EXC_FREQ 0 ≤ q.key && q.key ≤ Reg.EXC_FREQ 3 then
        (0, stageReg (q.key + 1) (ew ws 1) (stageReg q.key (ew ws 0) s))
      else if q.key = Reg.XFER_WPTR then wptrWrite (ofWords ws) s
      else if q.key = Reg.LOG_CLR then logClrSubmit p (ofWords ws) s
      else (0, s)

/-- A window register (R141 to R144). -/
def windowRegWrite (p : Path) (n k : Nat) (v : Word) (s : State) : Nat × State :=
  if k = 0 then windowSpace p n v s
  else if k = 3 then windowWrite p n v s
  else if !s.ownsWindow p n then (stDeny, s)
  else if k = 1 then (0, (s.setReg (Reg.WIN_CUR n) (v &&& 0x07FF)).modWindow n (fun w => { w with past := false }))
  else (0, s.setReg (Reg.WIN_OFS n) (v &&& 0x000F))

/-- The slice of an SLC[n].FORCE address, or the loop of a LOOP[n].FIXED address. -/
def forceSlice (a : Nat) : Option Nat := (List.range 13).find? (fun n => Reg.SLC_FORCE n == a)
def fixedLoop (a : Nat) : Option Nat := (List.range 6).find? (fun n => Reg.LOOP_FIXED n == a)

/-- A write to a register of blocks SYS, PWR, SEQ, SLC and CAL that has a behaviour of its own; none otherwise. -/
def writeCore (p : Path) (a : Nat) (v : Word) (s : State) : Option (Nat × State) :=
  if a = Reg.SYS_MODE then some (0, modeWrite v s)
  else if a = Reg.SYS_RST then some (resetWrite v s)
  else if a = Reg.PWR_HOSTP then some (0, hostpEffect (getField v 0 8) s)
  else if a = Reg.PWR_VT then some (0, showVt (plainWrite a v s))
  else if a = Reg.SEQ_CTRL then some (seqCtrlWrite v s)
  else if a = Reg.SEQ_URG then some (urgentRequest v.toNat s)
  else if a = Reg.SLC_DIRECT then some (directWrite v.toNat s)
  else if a = Reg.CAL_CTRL then some (calCtrlWrite (s.granted p grantNvWr) v s)
  else
    match forceSlice a, fixedLoop a with
    | some n, _ => some (sliceForce n v.toNat s)
    | none, some n => some (fixedEffect p n v.toNat s)
    | none, none => none

/-- A write to a register of the other blocks that has a behaviour of its own; none otherwise. -/
def writeRest (p : Path) (key : Bool) (a : Nat) (v : Word) (s : State) : Option (Nat × State) :=
  if a = Reg.STG_CTRL then some (stgCtrl p v s)
  else if a = Reg.STG_VIEW then some (0, s.modPath p (fun x => { x with view := v.getLsbD 0 }))
  else if a = Reg.ROPE_CMT then some (stDeny, s)
  else if a = Reg.XMEM_CLK then some (0, clkWrite v s)
  else if a = Reg.XFER_CTRL then some (xferCtrl v s)
  else if a = Reg.XFER_RING then some (ringWrite v s)
  else if a = Reg.XFER_CAP then some (capWrite v s)
  else if a = Reg.XFER_PULL then some (0, pullWriteBy p v s)
  else if a = Reg.NVM_ADDR then some (0, nvmAddr v.toNat s)
  else if a = Reg.NVM_DATA then some (nvmDataWrite v s)
  else if a = Reg.NVM_CTRL then some (nvmCtrlWrite p key v s)
  else if a = Reg.NVM_KEY then some (nvmKeyEffect p v s)
  else if a = Reg.LOG_CURSOR then some (0, s.modPath p (fun x => { x with cursor := v &&& 0xC3FF }))
  else if a = Reg.FLT_STAT then some (0, fltStatWrite v s)
  else if a = Reg.FLT_CLR then some (fltClrWrite p v s)
  else if a = Reg.FLT_INJ then some (fltInjWrite p v s)
  else none

/-- A write of a register that the gates let through: its status bits and the state. -/
def writeReg (p : Path) (key : Bool) (a : Nat) (v : Word) (s : State) : Nat × State :=
  match windowReg a with
  | some (n, k) => windowRegWrite p n k v s
  | none =>
    match regQWord a with
    | some q => quantityReg p q v s
    | none =>
      match writeCore p a v s with
      | some r => r
      | none =>
        match writeRest p key a v s with
        | some r => r
        | none => (0, plainWrite a v s)

/-- A write by the path to a register other than FLT.INJ disarms its injection (R653). -/
def disarmBy (p : Path) (a : Nat) (s : State) : State :=
  if s.flt.injPath = some p && a != Reg.FLT_INJ then disarm s else s

/-- The gates of a write (R84, R125, R126, R651): the status bits of a write that is not executed. -/
def writeGate (p : Path) (a : Nat) (s : State) : Option Nat :=
  if !s.served then some stBusy
  else if !s.mayWrite p (blockOf a) then some stDeny
  else if s.isFatal && !fatalWritable a then some stDeny
  else if lockedReg a then some stDeny
  else if stMask a != 0 && s.stagedBusy then some stBusy
  else none

/-- An executed write empties the path's read shadow (R137). -/
def executed (p : Path) (r : Nat × State) : Nat × State :=
  (r.1, if r.1 = 0 then r.2.modPath p (fun x => { x with readShadow := [] }) else r.2)

/-- A write access on a path: its status bits and the state after it. -/
def accessWrite (p : Path) (a : Nat) (v : Word) (s : State) : Nat × State :=
  let key := (s.path p).nvmKey
  let s := if s.served then disarmBy p a (dropKey p s) else s
  match writeGate p a s with
  | some st => (st, s)
  | none => executed p (writeReg p key a v s)

/-! ### The host's answer -/

/-- The answer of an access of the host is carried in the next frame (R122). -/
def hostAnswer (st : Nat) (d : Word) (s : State) : State := { s with host := { s.host with answer := ⟨st, d⟩ } }

/-- A write on a path, its answer kept where the path is the host port. -/
def pathWrite (p : Path) (a : Nat) (v : Word) (s : State) : State :=
  let (st, t) := accessWrite p a v s
  if p = .host then hostAnswer st v t else t

/-- A read on a path, its answer kept where the path is the host port. -/
def pathRead (p : Path) (a : Nat) (s : State) : State :=
  let (r, t) := accessRead p a s
  if p = .host then hostAnswer r.status r.data t else t

end Sys2Proof.Machine
end

