-- ==== Sys2Proof/Machine/Commands.lean ====
section
/-! DEFINITION. The commands that are one access of a path to the register map, or to a table word: each is the write or
read that the manual names, made on that path with its gates. -/

namespace Sys2Proof.Machine

/-- A 16-bit operand. -/
def isWord (v : Nat) : Bool := decide (v < 65536)

/-- A rope source is 5 bits and a loop channel one of six (R136, R492). -/
def okPath : Path → Bool
  | .rope src => decide (src < 32)
  | .loop ch => decide (ch < 6)
  | _ => true

/-! ### SYS and PWR -/

/-- SOFTWARE_RESET (R113). -/
def execSoftwareReset (p : Path) (key : Nat) (s : State) : Host.Outcome State Fault Refusal :=
  answerIf (okPath p && isWord key) (pathWrite p Reg.SYS_RST (word key) s)

/-- HOSTP_WRITE (R50). -/
def execHostpWrite (p : Path) (v : Nat) (s : State) : Host.Outcome State Fault Refusal :=
  answerIf (okPath p && isWord v) (pathWrite p Reg.PWR_HOSTP (word v) s)

/-- SYS.MODE as it stands, with one bit replaced. -/
def modeWith (s : State) (bit : Nat) (b : Bool) : Word := putField (s.reg Reg.SYS_MODE) bit 1 (if b then 1 else 0)

/-- SET_REDREQ (R96). -/
def execSetRedreq (p : Path) (s : State) : Host.Outcome State Fault Refusal :=
  answerIf (okPath p) (pathWrite p Reg.SYS_MODE (modeWith s 15 true) s)

/-- CLEAR_REDREQ (R96). -/
def execClearRedreq (p : Path) (s : State) : Host.Outcome State Fault Refusal :=
  answerIf (okPath p) (pathWrite p Reg.SYS_MODE (modeWith s 15 false) s)

/-- SET_BIVREQ (R99). -/
def execSetBivreq (p : Path) (s : State) : Host.Outcome State Fault Refusal :=
  answerIf (okPath p) (pathWrite p Reg.SYS_MODE (modeWith s 14 true) s)

/-- CLEAR_BIVREQ (R102). -/
def execClearBivreq (p : Path) (s : State) : Host.Outcome State Fault Refusal :=
  answerIf (okPath p) (pathWrite p Reg.SYS_MODE (modeWith s 14 false) s)

/-! ### Registers and windows -/

/-- REGISTER_WRITE (R9). -/
def execRegisterWrite (p : Path) (a v : Nat) (s : State) : Host.Outcome State Fault Refusal :=
  answerIf (okPath p && a < 512 && isWord v) (pathWrite p a (word v) s)

/-- READ_CLEAR (R9). -/
def execReadClear (p : Path) (a : Nat) (s : State) : Host.Outcome State Fault Refusal :=
  answerIf (okPath p && a < 512) (pathRead p a s)

/-- WINDOW_SPACE_WRITE (R142). -/
def execWindowSpaceWrite (p : Path) (n v : Nat) (s : State) : Host.Outcome State Fault Refusal :=
  answerIf (okPath p && n < 4 && isWord v) (pathWrite p (Reg.WIN_SPACE n) (word v) s)

/-- WINDOW_DATA_ACCESS (R144): a write of a word, or a read. -/
def execWindowDataAccess (p : Path) (n : Nat) (w : Option Nat) (s : State) : Host.Outcome State Fault Refusal :=
  match w with
  | some v => answerIf (okPath p && n < 4 && isWord v) (pathWrite p (Reg.WIN_DATA n) (word v) s)
  | none => answerIf (okPath p && n < 4) (pathRead p (Reg.WIN_DATA n) s)

/-- WINDOW_IDLE_CLOSE (R142): 10 s without access by an owner that is a rope requester or a loop channel. -/
def windowIdle (n : Nat) (s : State) : State :=
  match (s.win n).owner with
  | some (.rope _) => windowClose n s
  | some (.loop _) => windowClose n s
  | _ => s

def execWindowIdleClose (n : Nat) (s : State) : Host.Outcome State Fault Refusal := answerIf (n < 4) (windowIdle n s)

/-! ### STG -/

/-- The word of a STG.CTRL command (R156). -/
def stgWord (at_ cmd : Nat) : Word := word (0x5C00 + 16 * at_ + cmd)

/-- COMMIT (R149). -/
def execCommit (p : Path) (at_ : Nat) (s : State) : Host.Outcome State Fault Refusal :=
  answerIf (okPath p && at_ < 8) (pathWrite p Reg.STG_CTRL (stgWord at_ 1) s)

/-- CHECK (R149). -/
def execCheck (p : Path) (at_ : Nat) (s : State) : Host.Outcome State Fault Refusal :=
  answerIf (okPath p && at_ < 8) (pathWrite p Reg.STG_CTRL (stgWord at_ 2) s)

/-- DISCARD (R149). -/
def execDiscard (p : Path) (s : State) : Host.Outcome State Fault Refusal :=
  answerIf (okPath p) (pathWrite p Reg.STG_CTRL (stgWord 0 3) s)

/-! ### SLC, SEQ and CAL -/

/-- SLICE_FORCE (R292). -/
def execSliceForce (p : Path) (n v : Nat) (s : State) : Host.Outcome State Fault Refusal :=
  answerIf (okPath p && n < 13 && isWord v) (pathWrite p (Reg.SLC_FORCE n) (word v) s)

/-- SLICE_DIRECT_WRITE (R291). -/
def execSliceDirectWrite (p : Path) (v : Nat) (s : State) : Host.Outcome State Fault Refusal :=
  answerIf (okPath p && isWord v) (pathWrite p Reg.SLC_DIRECT (word v) s)

/-- URGENT_REQUEST (R337). -/
def execUrgentRequest (p : Path) (v : Nat) (s : State) : Host.Outcome State Fault Refusal :=
  answerIf (okPath p && isWord v) (pathWrite p Reg.SEQ_URG (word v) s)

/-- SEQUENCER_START (R323). -/
def execSequencerStart (p : Path) (s : State) : Host.Outcome State Fault Refusal :=
  answerIf (okPath p) (pathWrite p Reg.SEQ_CTRL 0x8000 s)

/-- SEQUENCER_STOP (R324). -/
def execSequencerStop (p : Path) (s : State) : Host.Outcome State Fault Refusal :=
  answerIf (okPath p) (pathWrite p Reg.SEQ_CTRL 0x0000 s)

/-- CLRCNT (R335), RUN as it stands. -/
def execClrcnt (p : Path) (s : State) : Host.Outcome State Fault Refusal :=
  answerIf (okPath p) (pathWrite p Reg.SEQ_CTRL ((s.reg Reg.SEQ_CTRL &&& 0x8000) ||| 0x4000) s)

/-- The word of a CAL.CTRL command, BGEN as it stands (R390). -/
def calWord (s : State) (cmd route slice : Nat) : Word :=
  (s.reg Reg.CAL_CTRL &&& 0x8000) ||| word (4096 * cmd + 64 * route + 4 * slice)

/-- SAVE (R387). -/
def execSave (p : Path) (s : State) : Host.Outcome State Fault Refusal :=
  answerIf (okPath p) (pathWrite p Reg.CAL_CTRL (calWord s 1 0 0) s)

/-- SYSZERO (R382). -/
def execSyszero (p : Path) (route slice : Nat) (s : State) : Host.Outcome State Fault Refusal :=
  answerIf (okPath p && route < 64 && slice < 16) (pathWrite p Reg.CAL_CTRL (calWord s 2 route slice) s)

/-- SYSFULL (R382). -/
def execSysfull (p : Path) (route slice : Nat) (s : State) : Host.Outcome State Fault Refusal :=
  answerIf (okPath p && route < 64 && slice < 16) (pathWrite p Reg.CAL_CTRL (calWord s 3 route slice) s)

/-- NOW (R365). -/
def execNow (p : Path) (slice : Nat) (s : State) : Host.Outcome State Fault Refusal :=
  answerIf (okPath p && slice < 16) (pathWrite p Reg.CAL_CTRL (calWord s 4 0 slice) s)

/-- RETEST (R379). -/
def execRetest (p : Path) (slice : Nat) (s : State) : Host.Outcome State Fault Refusal :=
  answerIf (okPath p && slice < 16) (pathWrite p Reg.CAL_CTRL (calWord s 5 0 slice) s)

/-- RELOAD (R388). -/
def execReload (p : Path) (s : State) : Host.Outcome State Fault Refusal :=
  answerIf (okPath p) (pathWrite p Reg.CAL_CTRL (calWord s 6 0 0) s)

/-- FACTORY (R388). -/
def execFactory (p : Path) (s : State) : Host.Outcome State Fault Refusal :=
  answerIf (okPath p) (pathWrite p Reg.CAL_CTRL (calWord s 7 0 0) s)

/-! ### LOOP and FSK -/

/-- LOOP_FIXED_WRITE (R446). -/
def execLoopFixedWrite (p : Path) (n v : Nat) (s : State) : Host.Outcome State Fault Refusal :=
  answerIf (okPath p && n < 6 && isWord v) (pathWrite p (Reg.LOOP_FIXED n) (word v) s)

/-- A write to a table word on a path, whichever window of the path it goes through: the gates of R84, R125 and R651. -/
def tableWrite (p : Path) (sp cur ofs : Nat) (v : Word) (s : State) : State :=
  let s := if s.served then disarmBy p (Reg.WIN_DATA 0) (dropKey p s) else s
  let (st, t) :=
    if !s.served then (stBusy, s)
    else if !s.mayWrite p (spaceBlock sp) || s.isFatal then (stDeny, s)
    else spaceWrite p sp cur ofs v s
  let t := if st = 0 then t.modPath p (fun x => { x with readShadow := [] }) else t
  if p = .host then hostAnswer st v t else t

/-- MESSAGE_POST (R463). -/
def execMessagePost (p : Path) (n slot : Nat) (s : State) : Host.Outcome State Fault Refusal :=
  answerIf (okPath p && n < 6 && slot < 4) (tableWrite p spFskq (32 * n + 4 * slot) 0 0x4000 s)

/-- MESSAGE_DROP (R463). -/
def execMessageDrop (p : Path) (n slot : Nat) (s : State) : Host.Outcome State Fault Refusal :=
  answerIf (okPath p && n < 6 && slot < 4) (tableWrite p spFskq (32 * n + 4 * slot) 0 0x0000 s)

/-! ### Teams -/

/-- A team header's word 0 with a command. -/
def headerWith (s : State) (slot cmd : Nat) : Word := (s.teamW slot 0 0 &&& 0x1F1F) ||| word (16384 * cmd)

/-- DEFINE (R512): written now unless the slot is already DEFINING, and its steps end. -/
def defineNow (p : Path) (slot : Nat) (granted : Bool) (answers : List (Option (Nat × Nat))) (s : State) : State :=
  defineTeam slot granted answers
    (if s.teamState slot = tsDefining then s else tableWrite p spTeam (32 * slot) 0 (headerWith s slot 1) s)

def execDefine (p : Path) (slot : Nat) (granted : Bool) (answers : List (Option (Nat × Nat))) (s : State) :
    Host.Outcome State Fault Refusal :=
  answerIf (okPath p && slot < 4) (defineNow p slot granted answers s)

/-- DELETE (R512). -/
def execDelete (p : Path) (slot : Nat) (s : State) : Host.Outcome State Fault Refusal :=
  answerIf (okPath p && slot < 4) (tableWrite p spTeam (32 * slot) 0 (headerWith s slot 2) s)

/-! ### XFER -/

/-- The word of an XFER.CAP command, SRC and PARAM as they stand (R576). -/
def capWord (s : State) (cmd : Nat) : Word := (s.reg Reg.XFER_CAP &&& 0xCFFF) ||| word (4096 * cmd)

/-- ARM (R546). -/
def execArm (p : Path) (s : State) : Host.Outcome State Fault Refusal :=
  answerIf (okPath p) (pathWrite p Reg.XFER_CAP (capWord s 1) s)

/-- TRIGGER (R546). -/
def execTrigger (p : Path) (s : State) : Host.Outcome State Fault Refusal :=
  answerIf (okPath p) (pathWrite p Reg.XFER_CAP (capWord s 2) s)

/-- STOP (R548). -/
def execStop (p : Path) (s : State) : Host.Outcome State Fault Refusal :=
  answerIf (okPath p) (pathWrite p Reg.XFER_CAP (capWord s 3) s)

/-- XFER_CTRL_WRITE (R571). -/
def execXferCtrlWrite (p : Path) (v : Nat) (s : State) : Host.Outcome State Fault Refusal :=
  answerIf (okPath p && isWord v) (pathWrite p Reg.XFER_CTRL (word v) s)

/-- PULL_READ (R553). -/
def execPullRead (p : Path) (s : State) : Host.Outcome State Fault Refusal :=
  answerIf (okPath p) (pathRead p Reg.XFER_PULL s)

/-- The writes of XFER.PULL that make up a mailbox command (R561). -/
def mailbox (p : Path) (op n addr : Nat) (words : List Nat) (s : State) : State :=
  forList ([4096 * op + n, addr, addr / 65536] ++ words) (fun w t => pathWrite p Reg.XFER_PULL (word w) t) s

def isAddr (a : Nat) : Bool := decide (a < 4294967296)

/-- READ (R561). -/
def execRead (p : Path) (addr n : Nat) (s : State) : Host.Outcome State Fault Refusal :=
  answerIf (okPath p && isAddr addr && n < 256) (mailbox p 1 n addr [] s)

/-- WRITE (R561). -/
def execWrite (p : Path) (addr : Nat) (words : List Nat) (s : State) : Host.Outcome State Fault Refusal :=
  answerIf (okPath p && isAddr addr && words.length < 256 && words.all isWord) (mailbox p 2 words.length addr words s)

/-- ERASE_SECTOR (R561). -/
def execEraseSector (p : Path) (addr : Nat) (s : State) : Host.Outcome State Fault Refusal :=
  answerIf (okPath p && isAddr addr) (mailbox p 3 0 addr [] s)

/-! ### NVM -/

/-- NVM_ADDR_WRITE (R599). -/
def execNvmAddrWrite (p : Path) (v : Nat) (s : State) : Host.Outcome State Fault Refusal :=
  answerIf (okPath p && isWord v) (pathWrite p Reg.NVM_ADDR (word v) s)

/-- NVM_DATA_ACCESS (R599): a write of a word, or a read. -/
def execNvmDataAccess (p : Path) (w : Option Nat) (s : State) : Host.Outcome State Fault Refusal :=
  match w with
  | some v => answerIf (okPath p && isWord v) (pathWrite p Reg.NVM_DATA (word v) s)
  | none => answerIf (okPath p) (pathRead p Reg.NVM_DATA s)

/-- NVM_KEY_WRITE (R606). -/
def execNvmKeyWrite (p : Path) (v : Nat) (s : State) : Host.Outcome State Fault Refusal :=
  answerIf (okPath p && isWord v) (pathWrite p Reg.NVM_KEY (word v) s)

/-- The word of an NVM.CTRL command (R603). -/
def nvmWord (cmd arg len : Nat) : Word := word (4096 * cmd + 256 * arg + len)

/-- PROG (R600). -/
def execProg (p : Path) (s : State) : Host.Outcome State Fault Refusal :=
  answerIf (okPath p) (pathWrite p Reg.NVM_CTRL (nvmWord 1 0 0) s)

/-- ERASE (R600). -/
def execErase (p : Path) (s : State) : Host.Outcome State Fault Refusal :=
  answerIf (okPath p) (pathWrite p Reg.NVM_CTRL (nvmWord 2 0 0) s)

/-- JREAD (R600). -/
def execJread (p : Path) (s : State) : Host.Outcome State Fault Refusal :=
  answerIf (okPath p) (pathWrite p Reg.NVM_CTRL (nvmWord 3 0 0) s)

/-- JWRITE (R590, R600). -/
def execJwrite (p : Path) (len : Nat) (s : State) : Host.Outcome State Fault Refusal :=
  answerIf (okPath p && len < 32) (pathWrite p Reg.NVM_CTRL (nvmWord 4 0 len) s)

/-- LSAVE (R600). -/
def execLsave (p : Path) (arg : Nat) (s : State) : Host.Outcome State Fault Refusal :=
  answerIf (okPath p && arg < 16) (pathWrite p Reg.NVM_CTRL (nvmWord 5 arg 0) s)

/-- CINC (R600). -/
def execCinc (p : Path) (arg : Nat) (s : State) : Host.Outcome State Fault Refusal :=
  answerIf (okPath p && arg < 16) (pathWrite p Reg.NVM_CTRL (nvmWord 6 arg 0) s)

/-! ### LOG -/

/-- LOG_SEQ_READ (R621). -/
def execLogSeqRead (p : Path) (s : State) : Host.Outcome State Fault Refusal :=
  answerIf (okPath p) (pathRead p Reg.LOG_SEQ s)

/-- LOG_WIN_LATCH (R623). -/
def execLogWinLatch (p : Path) (s : State) : Host.Outcome State Fault Refusal :=
  answerIf (okPath p) (pathRead p Reg.LOG_WIN s)

/-- LOG_CHAL_READ (R625). -/
def execLogChalRead (p : Path) (s : State) : Host.Outcome State Fault Refusal :=
  answerIf (okPath p) (pathRead p Reg.LOG_CHAL s)

/-- LOG_CLR_SUBMIT (R627): the token is written low word first, and its highest word submits it. -/
def execLogClrSubmit (p : Path) (token : Nat) (s : State) : Host.Outcome State Fault Refusal :=
  answerIf (okPath p && token < 18446744073709551616)
    (forEach 4 (fun i t => pathWrite p (Reg.LOG_CLR + i) (word (token / 65536 ^ i)) t) s)

/-! ### FLT -/

/-- CLEAR (R648). -/
def execClear (p : Path) (s : State) : Host.Outcome State Fault Refusal :=
  answerIf (okPath p) (pathWrite p Reg.FLT_CLR 0xB701 s)

/-- CLEARALL (R647). -/
def execClearall (p : Path) (s : State) : Host.Outcome State Fault Refusal :=
  answerIf (okPath p) (pathWrite p Reg.FLT_CLR 0xB702 s)

/-- KICK (R649). -/
def execKick (p : Path) (s : State) : Host.Outcome State Fault Refusal :=
  answerIf (okPath p) (pathWrite p Reg.FLT_CLR 0xB703 s)

/-- INJECTION_ARM (R653). -/
def execInjectionArm (p : Path) (s : State) : Host.Outcome State Fault Refusal :=
  answerIf (okPath p) (pathWrite p Reg.FLT_INJ 0x6E19 s)

/-- FAULT_INJECT (R653). -/
def execFaultInject (p : Path) (v : Nat) (s : State) : Host.Outcome State Fault Refusal :=
  answerIf (okPath p && isWord v) (pathWrite p Reg.FLT_INJ (word v) s)

end Sys2Proof.Machine
end

