-- ==== Sys2Proof/Machine/TeamCommit.lean ====
section
/-! DEFINITION. The two-phase commit of a rope team (R516 to R522): the leader's decision, the member's part, and the end
of a check list, which may be a member's. -/

namespace Sys2Proof.Machine

/-! ### CMT frames (sub-ops of log entry 11) -/

def opPrepare : Nat := 1
def opVote : Nat := 2
def opCommit : Nat := 3
def opAbort : Nat := 4
def opCack : Nat := 5

/-- Send a CMT frame of a sub-op about a commit. -/
def sendCmt (dst op team seq : Nat) (rest : List Byte) (s : State) : State :=
  sendOff (ownFrame s tyCmt dst (leNat 1 op ++ leNat 1 team ++ leNat 1 seq ++ rest)) s

/-! ### The way to the crossing (R189, R192, R517) -/

/-- Ticks from ANG.POS to the next crossing of an angle in the direction of motion: 1 to 65,536. -/
def State.ticksTo (s : State) (angle : Nat) : Nat :=
  let d := if s.angDir then (s.angPos + 65536 - angle % 65536) % 65536 else (angle + 65536 - s.angPos) % 65536
  if d = 0 then 65536 else d

/-- The low 16 bits of ANG.PASS after d ticks in the direction of motion: each crossing of 0x0000 counts, the first one
under its travel rule. -/
def State.passAfter (s : State) (d : Nat) : Nat :=
  let z := s.ticksTo 0
  let first := if !s.ang.counted || 32768 ≤ s.ang.travel + z then 1 else 0
  let n := if d < z then 0 else first + (d - z) / 65536
  (s.regN Reg.ANG_PASS + n) % 65536

/-- Ticks travelled in a time at the present speed, rounded up; ANG.SPEED is in 1/65,536 of a revolution per second. -/
def State.ticksIn (s : State) (us : Nat) : Nat := ceilDiv (s.speed * us) 1000000

/-- Ticks to the designated crossing: the first crossing of the angle at least `least` ticks ahead (R517). -/
def State.crossingAt (s : State) (angle least : Nat) : Nat :=
  let d := s.ticksTo angle
  d + 65536 * ceilDiv (least - d) 65536

/-- Ticks to the crossing of the angle that leaves the pass P, 0 where it lies behind. -/
def State.aheadOf (s : State) (angle pass : Nat) : Nat :=
  let d := s.ticksTo angle
  let k := (pass + 65536 - s.passAfter d) % 65536
  if k < 32768 then d + 65536 * k else 0

/-! ### The leader's side -/

def State.lead (s : State) (t : Nat) : LeadCommit := nth {} s.rope.leads t
def State.modLead (s : State) (t : Nat) (f : LeadCommit → LeadCommit) : State :=
  s.modRope (fun r => { r with leads := modNth r.leads t f })

/-- ROPE.CSTAT as it describes a slot's last commit (R534). -/
def State.cstatOf (s : State) (t : Nat) : Word :=
  let l := s.lead t
  putField (word (16384 * l.phase + 4096 * l.outcome + 256 * l.cause + (if l.late then 128 else 0) + l.team)) 6 1
    (s.fld .ROPE_CSTAT_DONE)

/-- ROPE.CSTAT shows the last commit led here. -/
def showCstat (t : Nat) (s : State) : State :=
  if s.fld .ROPE_CSTAT_TEAM = (s.lead t).team then s.setReg Reg.ROPE_CSTAT (s.cstatOf t) else s

def outcomeApplied : Nat := 1
def outcomeAborted : Nat := 2
def outcomePartial : Nat := 3

def causeNovote : Nat := 1
def causeVtmo : Nat := 2
def causeLate : Nat := 3
def causeCancel : Nat := 4
def causeAngle : Nat := 5

/-- A led commit ends (R522): its outcome and cause, the MISSING mask, PARTIAL, DONE, and its record. -/
def endLead (t outcome cause missing : Nat) (s : State) : State :=
  let s := s.modLead t (fun l => { l with phase := 0, outcome := outcome, cause := cause })
  let s := setPartial t (outcome == outcomePartial) (setTeamMask t 0 6 missing s)
  let s := (showCstat t s).setFlag .ROPE_CSTAT_DONE true
  if outcome = outcomeApplied then s
  else mkRecord 0x305 clsNote [(s.lead t).team, outcome, cause, missing % 65536] s

/-- The units that have not voted YES. -/
def LeadCommit.unvoted (l : LeadCommit) : List Nat := l.units.filter (fun u => !l.votes.contains (u, true))

/-- ABORT at a member (R520): it leaves PREPARED; a NO voter stays as it is, DONE set. -/
def memberAbort (leader team seq : Nat) (s : State) : State :=
  let s := s.modRope (fun r => { r with
    prepWait := r.prepWait.filter (fun m => !(m.leader == leader && m.team == team && m.seq == seq)) })
  match s.rope.member with
  | some m =>
    if m.leader != leader || m.team != team || m.seq != seq then s
    else if m.stage = 1 || m.stage = 2 then
      let s := { s with stg := { s.stg with teamHeld := false, checking := if m.stage = 1 then none else s.stg.checking } }
      memberOutcome outAborted ((s.setFld .STG_STAT_STATE stIdle).setFlag .STG_STAT_DONE true)
    else if m.stage = 4 && m.outcome = outRefused then s.setFlag .STG_STAT_DONE true
    else s
  | none => s

/-- The leader aborts its commit (R519): ABORT to every unit, its own part last. -/
def abortCommit (t cause : Nat) (s : State) : State :=
  let l := s.lead t
  let s := forList (l.units.filter (· != s.unitNo)) (fun u w => sendCmt u opAbort l.team l.seq [] w) s
  let s := if l.units.contains s.unitNo then memberAbort s.unitNo l.team l.seq s else s
  endLead t outcomeAborted cause (maskOf l.unvoted) s

/-- A CACK reaches the leader (R519, R522). -/
def takeCack (t unit : Nat) (late : Bool) (s : State) : State :=
  if (s.lead t).phase != 2 then s
  else
    showCstat t (s.modLead t (fun l => { l with
      acks := if l.acks.contains unit then l.acks else l.acks ++ [unit]
      late := l.late || late }))

/-- The slot of a commit in progress of a team with a sequence. -/
def State.leadSlot (s : State) (team seq : Nat) : Option Nat :=
  (List.range 4).find? (fun t => (s.lead t).phase != 0 && (s.lead t).team == team && (s.lead t).seq == seq)

/-- Acknowledge a COMMIT to its leader. -/
def sendCack (leader team seq : Nat) (late : Bool) (s : State) : State :=
  if leader = s.unitNo then
    match s.leadSlot team seq with
    | some t => takeCack t leader late s
    | none => s
  else sendCmt leader opCack team seq (leNat 1 late.toNat) s

/-- COMMIT at a member (R520): it arms for X, or applies at once where it recorded X as missed; a repeated one is
acknowledged again. -/
def memberCommit (leader team seq : Nat) (s : State) : State :=
  match s.rope.member with
  | none => s
  | some m =>
    if m.leader != leader || m.team != team || m.seq != seq then s
    else if m.stage = 2 && m.missed then
      let s := { s with stg := { s.stg with teamHeld := false, armedAt := 3 } }
      sendCack leader team seq true (memberOutcome outLate (applyCommit s))
    else if m.stage = 2 then
      let s := { s with stg := { s.stg with
        teamHeld := false, armed := true, armedAt := 3, armedAngle := m.angle, armedPass := m.pass, reached := false } }
      let s := (s.setFld .STG_STAT_STATE stArmed).setRegN Reg.ROPE_REASON (8192 * outArmed + 256 * m.team)
      sendCack leader team seq false (s.modRope (fun r => { r with member := some { m with stage := 3, outcome := outArmed } }))
    else if m.stage = 3 || m.outcome = outApplied || m.outcome = outLate then
      sendCack leader team seq (m.outcome == outLate) s
    else s

/-- Send COMMIT to units, this one last. -/
def sendCommit (t : Nat) (units : List Nat) (s : State) : State :=
  let l := s.lead t
  let s := forList (units.filter (· != s.unitNo)) (fun u w => sendCmt u opCommit l.team l.seq [] w) s
  if units.contains s.unitNo then memberCommit s.unitNo l.team l.seq s else s

/-- All votes are YES (R519): COMMIT if X still lies far enough ahead, else LATE. -/
def decideCommit (t : Nat) (s : State) : State :=
  let l := s.lead t
  let ahead := s.aheadOf l.angle l.pass
  if 0 < ahead && s.ticksIn (100 * l.span + 200) ≤ ahead then
    sendCommit t l.units (showCstat t (s.modLead t (fun l => { l with phase := 2 })))
  else abortCommit t causeLate s

/-- A vote reaches the leader (R519). -/
def takeVote (t unit : Nat) (yes : Bool) (s : State) : State :=
  let l := s.lead t
  if l.phase != 1 || !l.units.contains unit || l.votes.any (fun v => v.1 == unit) then s
  else
    let s := s.modLead t (fun l => { l with votes := l.votes ++ [(unit, yes)] })
    if !yes then abortCommit t causeNovote s
    else if (s.lead t).unvoted.isEmpty then decideCommit t s
    else s

/-- Vote to the leader. -/
def sendVote (leader team seq : Nat) (yes : Bool) (reason : Nat) (s : State) : State :=
  if leader = s.unitNo then
    match s.leadSlot team seq with
    | some t => takeVote t leader yes s
    | none => s
  else sendCmt leader opVote team seq (leNat 1 (if yes then 0 else 128 + reason)) s

/-! ### The member's vote (R518) -/

/-- A NO vote: ROPE.REASON shows it; a part that still runs keeps its place. -/
def refusePrepare (m : MemberCommit) (reason : Nat) (s : State) : State :=
  let s := s.setRegN Reg.ROPE_REASON (8192 * outRefused + 256 * m.team + reason)
  let busy := match s.rope.member with | some x => x.stage != 4 | none => false
  let s := if busy then s else s.modRope (fun r => { r with member := some { m with stage := 4, outcome := outRefused } })
  sendVote m.leader m.team m.seq false reason s

/-- The unit's angle cannot follow the commit: row 1 of R518. -/
def angleUnfit (m : MemberCommit) (s : State) : Bool :=
  (!s.flag .ANG_STAT_BCN && !s.isHead) || s.angleHolds || newer16 m.pass (s.regN Reg.ANG_PASS)

/-- The unit is PREPARED for this very commit. -/
def preparedFor (m : MemberCommit) (s : State) : Bool :=
  match s.rope.member with
  | some x => x.stage == 2 && x.leader == m.leader && x.team == m.team && x.seq == m.seq
  | none => false

/-- A PREPARE is taken up: a NO vote at once, or the check list, whose end votes (R518, R651). -/
def prepareNow (m : MemberCommit) (s : State) : State :=
  if s.isFatal then refusePrepare m chkProt s
  else if angleUnfit m s then refusePrepare m chkAngle s
  else if preparedFor m s then sendVote m.leader m.team m.seq true 0 s
  else if s.stg.armed || s.stg.teamHeld then refusePrepare m chkBusyset s
  else startCheck 2 0 (.rope m.leader) (s.modRope (fun r => { r with member := some { m with stage := 1 } }))

/-- A PREPARE arrives; during a check it waits for the end. -/
def takePrepare (m : MemberCommit) (s : State) : State :=
  if s.stg.checking.isSome then s.modRope (fun r => { r with prepWait := r.prepWait ++ [m] }) else prepareNow m s

/-- The PREPAREs that waited for a check are taken up, until one of them starts another. -/
def drainPrepares (s : State) : State :=
  forList s.rope.prepWait takePrepare (s.modRope (fun r => { r with prepWait := [] }))

/-- The prepare timeout Tp in 0.1 ms: ROPE.PTMO, and at least twice the carried VTMO and 3 ms (R518). -/
def State.prepareTimeout (s : State) (vtmo : Nat) : Nat := max (10 * s.fld .ROPE_PTMO_PTMO) (2 * vtmo + 30)

/-- The end of a member's check: PREPARED and YES, or REJECT and NO (R518). -/
def endTeamCheck (p : Path) (s : State) : State :=
  let s := { s with stg := { s.stg with checking := none } }
  match s.rope.member with
  | none => s
  | some m =>
    match contentFails p s with
    | some (r, item) =>
      let s := s.modRope (fun x => { x with member := some { m with stage := 4, outcome := outRefused } })
      refusePrepare m r (rejectCheck r item s)
    | none =>
      let s := passCheck stPrepared { s with stg := { s.stg with teamHeld := true } }
      let s := s.setRegN Reg.ROPE_REASON (8192 * outPrepared + 256 * m.team)
      sendVote m.leader m.team m.seq true 0
        (s.modRope (fun r => { r with member := some { m with stage := 2, outcome := outPrepared, tp := s.prepareTimeout m.vtmo } }))

/-- CHECK_LIST_END (R150, R518). -/
def checkListEnd (s : State) : State :=
  match s.stg.checking with
  | none => s
  | some (k, at_, p) => drainPrepares (if k = 2 then endTeamCheck p s else endCheck k at_ p s)

def execCheckListEnd (s : State) : Host.Outcome State Fault Refusal := .next (checkListEnd s)

/-! ### The commands -/

/-- The hop span between the leader and the units (R517): at the head from its chain; another leader's knowledge of hops is
not given, and is a free value (log entry 1). -/
def hopSpan (units : List Nat) (s : State) : Nat × State :=
  if s.isHead then
    ((units.map (fun u => if s.rope.chain.contains u then s.rope.chain.findIdx (· == u) + 1 else 0)).foldl max 0, s)
  else
    let (v, s) := s.freeDraw
    (v.toNat % 30, s)

/-- The leader's own angle is not usable (R516). -/
def leaderUnfit (s : State) : Bool :=
  !s.flag .ANG_STAT_SYNC || s.angleHolds || s.speed == 0 || (!s.isHead && !s.flag .ANG_STAT_BCN)

/-- Begin a commit of a slot's team at an angle (R516, R517). -/
def beginCommit (t angle : Nat) (s : State) : State :=
  let team := s.teamId t
  let units := bitsOf (s.teamUnits t)
  let seq := ((s.lead t).seq + 1) % 256
  let (h, s) := hopSpan units s
  let d := s.crossingAt angle (s.ticksIn (100 * s.fld .ROPE_VTMO_VTMO + 100 * h + 200))
  let l : LeadCommit := { phase := 1, team := team, seq := seq, angle := angle, pass := s.passAfter d, span := h, units := units }
  let s := s.modLead t (fun _ => l)
  let s := s.setFld .ROPE_CSTAT_TEAM team
  if leaderUnfit s then endLead t outcomeAborted causeAngle (maskOf units) s
  else
    let s := showCstat t s
    let body := leNat 2 angle ++ leNat 2 l.pass ++ leNat 1 (s.fld .ROPE_VTMO_VTMO)
    let s := forList (units.filter (· != s.unitNo)) (fun u w => sendCmt u opPrepare team seq body w) s
    if units.isEmpty then decideCommit t s
    else if units.contains s.unitNo then
      takePrepare ⟨s.unitNo, team, seq, angle, l.pass, s.fld .ROPE_VTMO_VTMO, 1, false, 0, 0⟩ s
    else s

/-- A write of ROPE.CMT to a team that this unit leads in slot t (R516, R533). -/
def cmtWrite (t : Nat) (v : Word) (s : State) : Nat × State :=
  match getField v 14 2 with
  | 1 =>
    if (s.lead t).phase != 0 then (stBusy, s)
    else if s.teamState t != tsActive then (stDeny, s)
    else (0, beginCommit t (4 * getField v 0 14) s)
  | 3 => if (s.lead t).phase = 1 then (0, drainPrepares (abortCommit t causeCancel s)) else (stDeny, s)
  | _ => (stDeny, s)

/-- A write of ROPE.CMT to a team on a path, with the gates of that register at the leader. -/
def cmtAccess (p : Path) (t : Nat) (v : Word) (s : State) : Nat × State :=
  let s := if s.served then disarmBy p Reg.ROPE_CMT (dropKey p s) else s
  match writeGate p Reg.ROPE_CMT s with
  | some st => (st, s)
  | none => executed p (cmtWrite t v s)

/-- A command of ROPE.CMT on a path, to a team by its id: UNITERR where this unit leads no such team. -/
def cmtCommand (p : Path) (team : Nat) (v : Word) (s : State) : State :=
  match s.ledSlot team with
  | none => if p = .host then hostAnswer stUnitErr v s else s
  | some t =>
    let (st, u) := cmtAccess p t v s
    if p = .host then hostAnswer st v u else u

/-- TEAM_COMMIT (R516). -/
def execTeamCommit (p : Path) (team ang4 : Nat) (s : State) : Host.Outcome State Fault Refusal :=
  answerIf (okPath p && 1 ≤ team && team ≤ 30 && ang4 < 16384) (cmtCommand p team (word (0x4000 + ang4)) s)

/-- CANCEL (R516). -/
def execCancel (p : Path) (team : Nat) (s : State) : Host.Outcome State Fault Refusal :=
  answerIf (okPath p && 1 ≤ team && team ≤ 30) (cmtCommand p team 0xC000 s)

def isTeam (n : Nat) : Bool := decide (1 ≤ n) && decide (n ≤ 30)
def isUnit (n : Nat) : Bool := decide (n < 31)

/-- PREPARE (R518). -/
def execPrepare (src team seq a pass vtmo : Nat) (s : State) : Host.Outcome State Fault Refusal :=
  answerIf (isUnit src && isTeam team && seq < 256 && isWord a && isWord pass && vtmo < 256)
    (takePrepare ⟨src, team, seq, a, pass, vtmo, 1, false, 0, 0⟩ (takeInbox tyCmt src s))

/-- VOTE (R519). -/
def voteIn (src team seq : Nat) (yes : Bool) (s : State) : State :=
  let s := takeInbox tyCmt src s
  match s.leadSlot team seq with
  | some t => drainPrepares (takeVote t src yes s)
  | none => s

def execVote (src team seq : Nat) (yes : Bool) (reason : Nat) (s : State) : Host.Outcome State Fault Refusal :=
  answerIf (isUnit src && isTeam team && seq < 256 && reason < 256) (voteIn src team seq yes s)

/-- VOTE_TIMEOUT (R519). -/
def execVoteTimeout (slot : Nat) (s : State) : Host.Outcome State Fault Refusal :=
  answerIf (slot < 4) (if (s.lead slot).phase = 1 then drainPrepares (abortCommit slot causeVtmo s) else s)

/-- COMMIT_RESEND (R519). -/
def execCommitResend (slot : Nat) (s : State) : Host.Outcome State Fault Refusal :=
  answerIf (slot < 4)
    (if (s.lead slot).phase = 2 then
      sendCommit slot ((s.lead slot).units.filter (fun u => !(s.lead slot).acks.contains u)) s
    else s)

/-- TEAM_OUTCOME (R522). -/
def teamOutcome (t : Nat) (s : State) : State :=
  let l := s.lead t
  let missing := l.units.filter (fun u => !l.acks.contains u)
  if l.phase != 2 then s
  else endLead t (if missing.isEmpty then outcomeApplied else outcomePartial) 0 (maskOf missing) s

def execTeamOutcome (slot : Nat) (s : State) : Host.Outcome State Fault Refusal := answerIf (slot < 4) (teamOutcome slot s)

/-- TEAM_COMMIT_RECEIVE (R520). -/
def execTeamCommitReceive (src team seq : Nat) (s : State) : Host.Outcome State Fault Refusal :=
  answerIf (isUnit src && isTeam team && seq < 256) (memberCommit src team seq (takeInbox tyCmt src s))

/-- ABORT (R520). -/
def execAbort (src team seq : Nat) (s : State) : Host.Outcome State Fault Refusal :=
  answerIf (isUnit src && isTeam team && seq < 256) (drainPrepares (memberAbort src team seq (takeInbox tyCmt src s)))

/-- CACK (R519). -/
def cackIn (src team seq : Nat) (late : Bool) (s : State) : State :=
  let s := takeInbox tyCmt src s
  match s.leadSlot team seq with
  | some t => takeCack t src late s
  | none => s

def execCack (src team seq : Nat) (late : Bool) (s : State) : Host.Outcome State Fault Refusal :=
  answerIf (isUnit src && isTeam team && seq < 256) (cackIn src team seq late s)

/-- PREPARE_TIMEOUT (R521). -/
def prepareTimeout (s : State) : State :=
  match s.rope.member with
  | some m =>
    if m.stage = 2 then
      let s := { s with stg := { s.stg with teamHeld := false } }.setFld .STG_STAT_STATE stIdle
      mkRecord 0x306 clsNote [m.team, m.seq] (memberOutcome outTimeout s)
    else s
  | none => s

def execPrepareTimeout (s : State) : Host.Outcome State Fault Refusal := .next (prepareTimeout s)

end Sys2Proof.Machine
end

