-- ==== Sys2Proof/Machine/RopeAccess.lean ====
section
/-! DEFINITION. What consumed rope frames do: register access for other units (R495), reset and wake (R511), team writes
through a leader (R515), the management and polling of teams (R512, R513), and the stream at the head (R552). -/

namespace Sys2Proof.Machine

/-! ### Answers -/

/-- The status bits that an RSP carries (R495). -/
def rspBits (st : Nat) : Nat := st &&& (stBusy + stDeny + stTorn + stUnitErr)

/-- The next TAG of this unit's own accesses. -/
def nextTag (s : State) : Nat × State := (s.rope.tag, s.modRope (fun r => { r with tag := (r.tag + 1) % 256 }))

/-- The pending remote access of the host with that TAG gets its answer; one that is no longer pending keeps the answer it
has. -/
def answerRemote (tag st : Nat) (d : Word) (s : State) : State :=
  match s.host.remote with
  | some r =>
    if r.tag = tag && r.answer.isNone then
      { s with host := { s.host with remote := some { r with answer := some ⟨rspBits st, d⟩ } } }
    else s
  | none => s

/-! ### Team reads (R515) -/

/-- A read addressed to a team led here in slot t: the aggregate entry at 0x000 to 0x007, the team's commit status at
ROPE.CSTAT, and DENY elsewhere. -/
def teamRead (t addr : Nat) (s : State) : Answer :=
  if !s.served then ⟨stBusy, 0⟩
  else if addr < 8 then ⟨0, s.teamW t 31 addr⟩
  else if addr = Reg.ROPE_CSTAT then ⟨0, s.cstatOf t⟩
  else ⟨stDeny, 0⟩

/-! ### Reset and wake (R511) -/

/-- A unit wakes: it leaves bivouac unless the cause is BUDGET (R102). -/
def wakeUnit (s : State) : State := leaveBivouac false s

/-- What an RST or WAKE needs: RW on block 0 for the requester's path; the status of a refusal. -/
def powerGate (src : Nat) (keyOk : Bool) (s : State) : Nat :=
  if !s.served then stBusy else if keyOk && s.mayWrite (.rope src) 0 then 0 else stDeny

/-! ### Team writes (R515) and their kin (R511) -/

/-- The bits known at the start: UNITERR where a member is not JOINED. -/
def joinedBits (t : Nat) (s : State) : Nat :=
  if (s.members t).any (fun m => s.memberState t m.1 != mbJoined) then stUnitErr else 0

/-- A team write is over: its requester is answered. A reset of the leader itself follows its answer (R511). -/
def endTeamWrite (w : TeamWrite) (s : State) : State :=
  let s := if w.src = 0 then answerRemote w.tag w.bits (word w.data) s else sendRsp s.unitNo w.src w.tag (rspBits w.bits) w.data s
  if w.last then s.modRope (fun r => { r with resetAfter := some (w.src, w.tag) }) else s

/-- The leader sends one frame to a unit of the team: the unit with its TAG to wait for, or its bits at once. -/
def fanOut (typ : Nat) (body : Nat → List Byte) (u : Nat) (acc : List (Nat × Nat) × Nat × State) :
    List (Nat × Nat) × Nat × State :=
  let (wait, bits, s) := acc
  let (tag, s) := nextTag s
  let (sent, s) := sendFrame (ownFrame s typ u (body tag)) s
  if sent then (wait ++ [(u, tag)], bits, s) else (wait, bits ||| stUnitErr, s)

/-- Begin a team write, reset or wake: frames to the other units, this one's own part in `own` with its bits, and the
answer at once where nothing is outstanding. -/
def beginTeamWrite (t src tag data typ : Nat) (body : Nat → List Byte) (own : State → Nat × State) (last : Bool) (s : State) :
    State :=
  let units := bitsOf (s.teamUnits t)
  let (wait, bits, s) := (units.filter (· != s.unitNo)).foldl (fun acc u => fanOut typ body u acc) ([], joinedBits t s, s)
  let (st, s) := if units.contains s.unitNo then own s else (0, s)
  let w : TeamWrite := ⟨t, src, tag, wait, bits ||| rspBits st, data, last⟩
  if wait.isEmpty then endTeamWrite w s else s.modRope (fun r => { r with teamWrites := r.teamWrites ++ [w] })

/-- The answer of a team that is not ACTIVE: UNITERR, and DENY in CYCLE (R513, R515). -/
def inactiveBits (t : Nat) (s : State) : Nat := stUnitErr + (if s.teamState t = tsCycle then stDeny else 0)

/-- A write addressed to a team led in slot t, from a rope requester, or from the host port (src 0): `p` is its path here. -/
def teamRegWrite (p : Path) (t src tag addr data : Nat) (s : State) : State :=
  if !s.served then endTeamWrite ⟨t, src, tag, [], stBusy, data, false⟩ s
  else if addr = Reg.ROPE_CMT then
    let (st, s) := cmtAccess p t (word data) s
    endTeamWrite ⟨t, src, tag, [], rspBits st, data, false⟩ s
  else if s.teamState t != tsActive then endTeamWrite ⟨t, src, tag, [], inactiveBits t s, data, false⟩ s
  else
    beginTeamWrite t src tag data tyWr (fun g => leNat 2 addr ++ leNat 1 g ++ leNat 2 data)
      (fun u => accessWrite (.rope u.unitNo) addr (word data) u) false s

/-- One unit's answer to a team write (R515). -/
def takeTeamRsp (src tag status : Nat) (s : State) : Option State :=
  match s.rope.teamWrites.find? (fun w => w.waiting.contains (src, tag)) with
  | none => none
  | some w =>
    let v := { w with waiting := w.waiting.erase (src, tag), bits := w.bits ||| (status &&& (stBusy + stDeny + stTorn + stUnitErr)) }
    let others := s.rope.teamWrites.erase w
    if v.waiting.isEmpty then some (endTeamWrite v (s.modRope (fun r => { r with teamWrites := others })))
    else some (s.modRope (fun r => { r with teamWrites := r.teamWrites.map (fun x => if x == w then v else x) }))

/-- TEAM_WRITE_TIMEOUT (R515): the oldest team write is answered with UNITERR for the units that stayed silent. -/
def teamWriteTimeout (s : State) : State :=
  match s.rope.teamWrites with
  | [] => s
  | w :: rest => endTeamWrite { w with bits := w.bits ||| stUnitErr } (s.modRope (fun r => { r with teamWrites := rest }))

def execTeamWriteTimeout (s : State) : Host.Outcome State Fault Refusal := .next (teamWriteTimeout s)

/-! ### RD, WR and RSP (R495) -/

/-- RD: on the ROPE-REMOTE path, or a team's read; exactly one RSP. -/
def ropeRead (src dst tag addr : Nat) (s : State) : State :=
  let s := takeInbox tyRd src s
  if s.sys.held then s
  else
    let (r, s) := match s.ledSlot dst with
      | some t => (teamRead t addr s, s)
      | none => accessRead (.rope src) addr s
    sendRsp s.unitNo src tag (rspBits r.status) r.data.toNat s

def execRd (src dst tag addr : Nat) (s : State) : Host.Outcome State Fault Refusal :=
  answerIf (isUnit src && isUnit dst && tag < 256 && addr < 512) (ropeRead src dst tag addr s)

/-- WR: executed on the ROPE-REMOTE path, fanned out by a leader, or, as a broadcast, executed without an RSP. -/
def ropeWrite (src dst tag addr data : Nat) (s : State) : State :=
  let s := takeInbox tyWr src s
  if s.sys.held then s
  else
    match s.ledSlot dst with
    | some t => teamRegWrite (.rope src) t src tag addr data s
    | none =>
      let (st, s) := accessWrite (.rope src) addr (word data) s
      if dst = 31 then s else sendRsp s.unitNo src tag (rspBits st) data s

def execWr (src dst tag addr data : Nat) (s : State) : Host.Outcome State Fault Refusal :=
  answerIf (isUnit src && dst < 32 && tag < 256 && addr < 512 && isWord data) (ropeWrite src dst tag addr data s)

/-- RSP: it completes a team write's part or the host's pending access; one whose TAG matches nothing is discarded. -/
def ropeRsp (src tag status data : Nat) (s : State) : State :=
  let s := takeInbox tyRsp src s
  match takeTeamRsp src tag status s with
  | some t => t
  | none => answerRemote tag status (word data) s

def execRsp (src tag status data : Nat) (s : State) : Host.Outcome State Fault Refusal :=
  answerIf (src < 32 && tag < 256 && status < 256 && isWord data) (ropeRsp src tag status data s)

/-! ### RST and WAKE (R511) -/

/-- The RSP of an RST or WAKE; what its data bytes hold the manual does not say: a free value (log entry 1). -/
def powerRsp (src tag st : Nat) (s : State) : State :=
  let (v, s) := s.freeDraw
  sendRsp s.unitNo src tag st (v.toNat % 65536) s

/-- An RST or WAKE to a team led in slot t (R511): `own` is this unit's own part where it belongs to the set, with what
it needs, and `last` that the leader resets itself after its answer. -/
def teamPower (t src tag typ : Nat) (body : Nat → List Byte) (own : State → Nat × State) (last : Bool) (s : State) : State :=
  let (v, s) := s.freeDraw
  let data := v.toNat % 65536
  if !s.served then endTeamWrite ⟨t, src, tag, [], stBusy, data, false⟩ s
  else if s.teamState t != tsActive then endTeamWrite ⟨t, src, tag, [], inactiveBits t s, data, false⟩ s
  else beginTeamWrite t src tag data typ body own last s

/-- RST: answered, and the rope reset once the answer has been sent; a leader resets itself last. -/
def ropeReset (src dst key tag : Nat) (s : State) : State :=
  let s := takeInbox tyRst src s
  if s.sys.held then s
  else
    match s.ledSlot dst with
    | some t =>
      let g := powerGate s.unitNo (key == 0xC35A) s
      teamPower t src tag tyRst (fun k => leNat 2 key ++ leNat 1 k) (fun u => (g, u))
        ((s.teamUnits t).testBit s.unitNo && g == 0) s
    | none =>
      let g := powerGate src (key == 0xC35A) s
      let s := powerRsp src tag g s
      if g = 0 then s.modRope (fun r => { r with resetAfter := some (src, tag) }) else s

def execRst (src dst key tag : Nat) (s : State) : Host.Outcome State Fault Refusal :=
  answerIf (isUnit src && isUnit dst && isWord key && tag < 256) (ropeReset src dst key tag s)

/-- WAKE: answered; the unit leaves bivouac. -/
def ropeWake (src dst tag : Nat) (s : State) : State :=
  let s := takeInbox tyWake src s
  if s.sys.held then s
  else
    match s.ledSlot dst with
    | some t =>
      teamPower t src tag tyWake (fun k => leNat 1 k)
        (fun u => let g := powerGate u.unitNo true u; (g, if g = 0 then wakeUnit u else u)) false s
    | none =>
      let g := powerGate src true s
      let s := powerRsp src tag g s
      if g = 0 then wakeUnit s else s

def execWake (src dst tag : Nat) (s : State) : Host.Outcome State Fault Refusal :=
  answerIf (isUnit src && isUnit dst && tag < 256) (ropeWake src dst tag s)

/-! ### Enumeration ends (R502, R506, R512) -/

/-- A team of the image's ROPEROLE record, as (slot, ID, members): its entries are written and its definition begins. -/
def defineImageTeam (ws : List Word) (s : State) : State :=
  let t := (ew ws 0).toNat % 4
  let ms := ws.drop 2
  let s := setTeamW t 0 0 (word (256 * (ms.length % 32) + (ew ws 1).toNat % 32)) s
  let s := (List.range ms.length).foldl (fun u i => setTeamW t (i + 1) 0 (ew ms i &&& 0x801F) u) s
  beginDefine t s

/-- FINISH: ENUMD, a REGISTER for every team led, and the image's teams where the boot cleared the slots. -/
def enumFinish (s : State) : State :=
  let s := setEnumd (takeInbox tyEnum (s.fld .ROPE_ADDR_HEADA) s)
  let s := forEach 4 (fun t u =>
    if u.teamState t = tsActive || u.teamState t = tsCycle then registerTeam (u.teamId t) u else u) s
  forList s.rope.imageTeams defineImageTeam (s.modRope (fun r => { r with imageTeams := [] }))

def execFinish (s : State) : Host.Outcome State Fault Refusal := .next (enumFinish s)

/-! ### Team management (R500, R512) -/

/-- A team id enters DNMASK. -/
def maskIn (id : Nat) (s : State) : State := s.modRope (fun r => { r with dnMask := r.dnMask ||| 2 ^ id })

/-- TEAM_REGISTER: the head grants or refuses the claim; DNMASK gets the id where the leader lies DN. -/
def teamRegister (id leader uid : Nat) (s : State) : State :=
  let s := takeInbox tyTeam leader s
  if !s.isHead then maskIn id s
  else if claimFree s.rope id uid then sendTeam leader opGrant id [1] (maskIn id (bindTeam id leader uid s))
  else sendTeam leader opGrant id [0] s

def execTeamRegister (id leader uid : Nat) (s : State) : Host.Outcome State Fault Refusal :=
  answerIf (isTeam id && isUnit leader && uid < 18446744073709551616) (teamRegister id leader uid s)

/-- DEREGISTER: the head releases the id of its leader; DNMASK loses it. -/
def deregister (id leader : Nat) (s : State) : State :=
  let s := takeInbox tyTeam leader s
  if !s.isHead then unmask id s
  else if s.rope.teamIds.any (fun x => x.1 == id && x.2.1 == leader) then releaseTeam id s
  else s

def execDeregister (id leader : Nat) (s : State) : Host.Outcome State Fault Refusal :=
  answerIf (isTeam id && isUnit leader) (deregister id leader s)

/-- EXPAND: the leader of the team answers with its UNITS and CLOSURE. -/
def expand (src team : Nat) (s : State) : State :=
  let s := takeInbox tyTeam src s
  match s.ledSlot team with
  | some t => sendTeam src opMasks team (leNat 4 (s.teamUnits t) ++ leNat 4 (s.teamClosure t)) s
  | none => s

def execExpand (src team : Nat) (s : State) : Host.Outcome State Fault Refusal :=
  answerIf (isUnit src && isTeam team) (expand src team s)

/-- JOIN: the unit counts the team and answers with its UID. -/
def execJoin (src team : Nat) (s : State) : Host.Outcome State Fault Refusal :=
  answerIf (isUnit src && isTeam team)
    (sendTeam src opJoined team (uidBytes s.uid) (joinTeam src team (takeInbox tyTeam src s)))

/-- LEAVE. -/
def execLeave (src team : Nat) (s : State) : Host.Outcome State Fault Refusal :=
  answerIf (isUnit src && isTeam team) (leaveTeam src team (takeInbox tyTeam src s))

/-! ### Polling (R513) -/

/-- UNITS and CLOSURE are refreshed; a team that contains itself is in CYCLE. -/
def judgeCycle (t : Nat) (s : State) : State :=
  let s := showMasks t s
  if s.teamState t = tsActive && (s.teamClosure t).testBit (s.teamId t) then
    mkRecord 0x304 clsNote [s.teamId t] (setTeamState t tsCycle 0 s)
  else s

/-- A SUMMARY of a unit member: MISMATCH with another UID, else its figures; a LOST one is joined again. -/
def unitSummary (t e addr : Nat) (m : Summary) (s : State) : State :=
  let known := s.memberUid t e
  if known != 0 && known != m.uid then
    if s.memberState t e = mbMismatch then s
    else mkRecord 0x303 clsNote [s.teamId t, addr] (setMemberState t e mbMismatch s)
  else
    let s := if s.memberState t e = mbLost then
        let s := if addr = s.unitNo then joinTeam addr (s.teamId t) s else sendTeam addr opJoin (s.teamId t) [] s
        setMemberUid t e m.uid (setMemberState t e mbJoined s)
      else s
    let s := setTeamRun t e 6 [word m.health, word m.avloss] s
    s.modRope (fun r => { r with sums := insertAt r.sums (32 * t + e) m })

/-- A SUMMARY of a member team: its aggregate, UNITS and CLOSURE. -/
def nestedSummary (t e : Nat) (m : Summary) (s : State) : State :=
  let s := setTeamRun t e 6 [word m.health, word m.avloss] (setMemberState t e mbJoined s)
  s.modRope (fun r => { r with
    sums := insertAt r.sums (32 * t + e) m
    nested := insertAt r.nested (32 * t + e) (m.units, m.closure) })

/-- The team of a slot is polled: ACTIVE or in CYCLE. -/
def State.polled (s : State) (t : Nat) : Bool := s.teamState t == tsActive || s.teamState t == tsCycle

/-- A member's SUMMARY reaches the leader. -/
def takeSummary (t e : Nat) (m : Summary) (s : State) : State :=
  match (s.members t).find? (fun x => x.1 == e) with
  | none => s
  | some x =>
    if !s.polled t then s
    else showAggregate t (judgeCycle t (if x.2.1 = 0 then unitSummary t e x.2.2 m s else nestedSummary t e m s))

/-- SUMMARY (R513). -/
def execSummary (slot entry : Nat) (m : Summary) (s : State) : Host.Outcome State Fault Refusal :=
  answerIf (slot < 4 && 1 ≤ entry && entry ≤ 30 && m.uid < 18446744073709551616 && m.wclass < 4 && m.health < 65536
      && m.avloss < 65536 && m.units < 4294967296 && m.closure < 4294967296)
    (takeSummary slot entry m
      (takeInbox tyTeam (match (s.members slot).find? (fun x => x.1 == entry) with | some x => x.2.2 | none => 0) s))

/-- TEAM_POLL (R513): a POLL to each member, this unit's own part answered at once. -/
def teamPoll (t : Nat) (s : State) : State :=
  if !s.polled t then s
  else
    forList (s.members t) (fun m u =>
      if m.2.1 = 0 && m.2.2 = u.unitNo then takeSummary t m.1 u.ownSummary u
      else sendTeam m.2.2 opPoll (u.teamId t) [] u) s

def execTeamPoll (slot : Nat) (s : State) : Host.Outcome State Fault Refusal := answerIf (slot < 4) (teamPoll slot s)

/-- TEAM_MEMBER_TIMEOUT (R512, R513): the member becomes LOST. -/
def memberTimeout (t e : Nat) (s : State) : State :=
  if s.polled t && (s.members t).any (fun x => x.1 == e) then
    showAggregate t (setMemberState t e mbLost s)
  else s

def execTeamMemberTimeout (slot entry : Nat) (s : State) : Host.Outcome State Fault Refusal :=
  answerIf (slot < 4 && 1 ≤ entry && entry ≤ 30) (memberTimeout slot entry s)

/-! ### Ports -/

/-- The frame that a receipt has just put in the inbox, where it is a POLL, leaves it with its answer. -/
def servePoll (s : State) : State :=
  match s.rope.inbox.getLast? with
  | some e =>
    if e.2.typ = tyTeam && e.2.payload.head? == some (byte opPoll) then
      let s := s.modRope (fun r => { r with inbox := r.inbox.dropLast })
      answerPoll e.2 (if e.2.fwd then s else freeUnits e.1 e.2.vc (frameUnits e.2.payload.length) s)
    else s
  | none => s

/-- FRAME_RECEIVE (R493, R501, R513). -/
def execFrameReceive (port : Port) (bytes : List Byte) (violation : Bool) (s : State) : Host.Outcome State Fault Refusal :=
  .next (servePoll (receiveFrame port bytes violation s))

/-- The answer to an RST has been sent, so the rope reset follows (R511). -/
def resetAfterRsp (p : Port) (s t : State) : State :=
  match (s.port p).sending, s.rope.resetAfter with
  | some (f, _, _), some (dst, tag) =>
    if f.typ = tyRsp && f.src = s.unitNo && !f.fwd && f.dst = dst && f.payload.head? == some (byte tag) then
      gentleReset .ropeReset (t.modRope (fun r => { r with resetAfter := none }))
    else t
  | _, _ => t

/-- FRAME_TRANSMIT_END (R497, R511). -/
def execFrameTransmitEnd (port : Port) (s : State) : Host.Outcome State Fault Refusal :=
  .next (resetAfterRsp port s (transmitEnd port s))

/-- DATA (R552): at the head; a segment that finds the ring full stays in its buffer. -/
def streamIn (src : Nat) (bytes : List Byte) (s : State) : State :=
  if !s.isHead || segmentWaits src bytes s then s else takeSegment src bytes (takeInbox tyData src s)

def execData (src : Nat) (bytes : List Byte) (s : State) : Host.Outcome State Fault Refusal :=
  answerIf (src < 32 && bytes.length ≤ 64) (streamIn src bytes s)

end Sys2Proof.Machine
end

