-- ==== Sys2Proof/Machine/HostPort.lean ====
section
/-! DEFINITION. The host port (R117 to R135): frames, their CRC and gap, the answer in the next frame, bursts, broadcasts
and remote accesses. -/

namespace Sys2Proof.Machine

/-! ### Frames (R119 to R123) -/

/-- The command word of a frame (R119). -/
def hostCommandWord (w : Bool) (f : HostFrame) : Nat :=
  (if w then 32768 else 0) + 1024 * f.unit + 2 * f.addr + (if f.inc then 1 else 0)

/-- Frame bits 39:8, as bytes in the order received. -/
def hostFrameBytes (w : Bool) (f : HostFrame) : List Byte :=
  [byte (hostCommandWord w f / 256), byte (hostCommandWord w f), byte (f.data / 256), byte f.data]

/-- The frame passes its CRC (R121). -/
def frameCrcOk (w : Bool) (f : HostFrame) : Bool := crc8 (hostFrameBytes w f) == byte f.crc

/-- The five bytes of the answer that stands, with IRQ and FAULT as they are now (R120, R124). -/
def State.answerBytes (s : State) : List Byte :=
  let b := [byte (s.host.answer.status ||| s.liveBits), byte (s.host.answer.data.toNat / 256), byte s.host.answer.data.toNat]
  b ++ [crc8 b, 0]

def modHost (f : HostPort → HostPort) (s : State) : State := { s with host := f s.host }

/-- A frame shifts the answer out (R122). -/
def shiftAnswer (s : State) : State :=
  modHost (fun h => { h with shifted := s.answerBytes, driven := true, answer := ⟨0, 0⟩ }) s

/-- A frame that starts within tGAP shifts all ones out, and the answer waits for the frame after it (R122). -/
def shiftOnes (s : State) : State :=
  modHost (fun h => { h with shifted := List.replicate 5 0xFF, driven := true }) s

def setBurst (b : Option (Bool × Nat × Nat)) (s : State) : State := modHost (fun h => { h with burst := b }) s

/-- A remote access waits for its answer (R134). -/
def State.remotePending (s : State) : Bool :=
  match s.host.remote with
  | some r => r.answer.isNone
  | none => false

/-! ### Remote accesses (R129 to R133) -/

/-- A remote access has begun: it is answered PEND, or, where its answer stands already, with that answer. -/
def remoteBegun (w : Bool) (v : Word) (s : State) : State :=
  match s.host.remote with
  | some r =>
    match r.answer with
    | some a => hostAnswer a.status a.data (modHost (fun h => { h with remote := none }) s)
    | none => hostAnswer stPend (if w then v else 0) s
  | none => s

/-- The RD or WR of a remote access is sent; where it cannot be, this unit answers UNITERR on the target's behalf
(R495). -/
def sendRemote (w : Bool) (unit a tag : Nat) (v : Word) (s : State) : State :=
  let body := leNat 2 a ++ leNat 1 tag ++ (if w then leNat 2 v.toNat else [])
  let (sent, t) := sendFrame (ownFrame s (if w then tyWr else tyRd) unit body) s
  if sent then t else answerRemote tag stUnitErr (if w then v else 0) t

/-- A read or write of a unit or team of the rope (R129): with both ports DOWN it ends at once with UNITERR (R131); a
team led here is answered here (R133). -/
def remoteFrame (w : Bool) (unit a : Nat) (v : Word) (s : State) : State :=
  if s.link .up = linkDown && s.link .dn = linkDown then hostAnswer stUnitErr 0 s
  else
    let (tag, s) := nextTag s
    let s := modHost (fun h => { h with remote := some ⟨tag, w, none⟩ }) s
    remoteBegun w v
      (match s.ledSlot unit with
       | some t =>
         if w then teamRegWrite .host t 0 tag a v.toNat s
         else
           let r := teamRead t a s
           answerRemote tag r.status r.data s
       | none => sendRemote w unit a tag v s)

/-- A broadcast write: executed here and forwarded to every unit, its answer the local outcome (R129, R132). -/
def broadcastFrame (a : Nat) (v : Word) (s : State) : State :=
  let (tag, s) := nextTag s
  let s := sendOff (ownFrame s tyWr 31 (leNat 2 a ++ leNat 1 tag ++ leNat 2 v.toNat)) s
  let (st, s) := accessWrite .host a v s
  hostAnswer st v s

/-! ### Local accesses and bursts (R127, R128) -/

/-- The address that a continuation uses, where the frame is one. -/
def State.nextInBurst (s : State) (w : Bool) (unit : Nat) : Option Nat :=
  match s.host.burst with
  | some (bw, bu, last) => if bw == w && bu == unit then some (last + 1) else none
  | none => none

/-- One access of this unit and its answer. -/
def localAccess (w : Bool) (a : Nat) (v : Word) (s : State) : Nat × State :=
  if w then
    let (st, s) := accessWrite .host a v s
    (st, hostAnswer st v s)
  else
    let (r, s) := accessRead .host a s
    (r.status, hostAnswer r.status r.data s)

/-- A frame for this unit. A frame answered BUSY leaves the burst as it was, so that its repetition reaches the same
address. -/
def localFrame (w : Bool) (unit a : Nat) (inc : Bool) (v : Word) (s : State) : State :=
  let next := s.nextInBurst w unit
  let at_ := next.getD a
  if 0x1FF < at_ then
    setBurst (if inc then some (w, unit, 0x1FF) else none) (hostAnswer stDeny (if w then v else 0) s)
  else
    let (st, t) := localAccess w at_ v s
    if st &&& stBusy != 0 then setBurst (if next.isSome then s.host.burst else none) t
    else setBurst (if inc then some (w, unit, at_) else none) t

/-! ### Execution -/

/-- The target is this unit (R128, R129). -/
def State.ownTarget (s : State) (unit : Nat) : Bool := unit == 0 || (s.hasAddr && unit == s.unitNo)

/-- A frame for another target (R129), which ends any burst. -/
def farFrame (w : Bool) (unit a : Nat) (v : Word) (s : State) : State :=
  let s := setBurst none s
  if !s.hasAddr then hostAnswer stUnitErr (if w then v else 0) s
  else if unit = 31 then if w then broadcastFrame a v s else hostAnswer stUnitErr 0 s
  else remoteFrame w unit a v s

/-- The answer before ACTIVE (R120, R125, R129): BUSY, with data for a read of SYS.ID or SYS.BOOTST with UNIT 0, and a write's
own data. -/
def busyFrame (w : Bool) (f : HostFrame) (s : State) : State :=
  hostAnswer stBusy (if w then word f.data else if f.unit = 0 && f.data = 0 && alwaysReadable f.addr then s.reg f.addr else 0) (setBurst none s)

/-- A frame that passed its CRC and is no NOP. -/
def runFrame (w : Bool) (f : HostFrame) (s : State) : State :=
  if !s.served then busyFrame w f s
  else if s.remotePending then hostAnswer (stPend + stBusy) 0 s
  else if !w && f.data != 0 then
    hostAnswer stDeny 0 (if (s.nextInBurst w f.unit).isSome then s else setBurst none s)
  else if s.ownTarget f.unit then localFrame w f.unit f.addr f.inc (word f.data) s
  else farFrame w f.unit f.addr (word f.data) s

/-- A NOP (R123, R134, R135): the state of a pending access, its final answer once, else status alone. It ends a burst. -/
def runNop (s : State) : State :=
  let s := setBurst none s
  if !s.served then hostAnswer stBusy 0 s
  else
    match s.host.remote with
    | some r =>
      match r.answer with
      | some a => hostAnswer a.status a.data (modHost (fun h => { h with remote := none }) s)
      | none => hostAnswer stPend 0 s
    | none => hostAnswer 0 0 s

/-- The NOP of R123. -/
def nopFrame (crc : Nat) (gapOk : Bool) : HostFrame := ⟨0, 0, false, 0xFFFF, crc, gapOk⟩

def isNop (w : Bool) (f : HostFrame) : Bool := !w && f.unit == 0 && f.addr == 0 && !f.inc && f.data == 0xFFFF

/-- A 40-bit frame is received (R118 to R123); held in reset, nothing is. -/
def hostFrame (w : Bool) (f : HostFrame) (s : State) : State :=
  if s.sys.held then s
  else if !f.gapOk then shiftOnes s
  else if !frameCrcOk w f then hostAnswer stCrcErr 0 (shiftAnswer s)
  else if isNop w f then runNop (shiftAnswer s)
  else runFrame w f (shiftAnswer s)

/-- The fields of a frame fit. -/
def okFrame (f : HostFrame) : Bool := f.unit < 32 && f.addr < 512 && isWord f.data && f.crc < 256

/-- HOST_READ_FRAME (R119, R123). -/
def execHostReadFrame (f : HostFrame) (s : State) : Host.Outcome State Fault Refusal := answerIf (okFrame f) (hostFrame false f s)

/-- HOST_WRITE_FRAME (R119). -/
def execHostWriteFrame (f : HostFrame) (s : State) : Host.Outcome State Fault Refusal := answerIf (okFrame f) (hostFrame true f s)

/-- HOST_NOP_FRAME (R123, R134, R135). -/
def execHostNopFrame (crc : Nat) (gapOk : Bool) (s : State) : Host.Outcome State Fault Refusal :=
  answerIf (crc < 256) (hostFrame false (nopFrame crc gapOk) s)

/-- HCS rises: any burst ends and HSDO is at high impedance (R117, R127). -/
def hcsUp (s : State) : State := modHost (fun h => { h with burst := none, driven := false }) s

/-- HCS_RISE (R127). -/
def execHcsRise (s : State) : Host.Outcome State Fault Refusal := .next (hcsUp s)

/-- HCS rises within a frame (R118): the whole bytes of the answer that were shifted, and CRCERR in the next frame. -/
def frameAbort (edges : Nat) (s : State) : State :=
  if s.sys.held then hcsUp s
  else
    hostAnswer stCrcErr 0
      (hcsUp (modHost (fun h => { h with shifted := s.answerBytes.take (edges % 40 / 8) }) s))

/-- HOST_FRAME_ABORT (R118): the rising edges since HCS fell are no multiple of 40. -/
def execHostFrameAbort (edges : Nat) (s : State) : Host.Outcome State Fault Refusal :=
  answerIf (edges % 40 != 0) (frameAbort edges s)

/-- 5 ms without an answer (R131). -/
def remoteTimeout (s : State) : State :=
  match s.host.remote with
  | some r => answerRemote r.tag stUnitErr 0 s
  | none => s

/-- REMOTE_ACCESS_TIMEOUT (R131). -/
def execRemoteAccessTimeout (s : State) : Host.Outcome State Fault Refusal := .next (remoteTimeout s)

end Sys2Proof.Machine
end

