-- ==== Sys2Proof/Machine/Image.lean ====
section
/-! DEFINITION. The image in external memory (R74, R556, R562 to R566, R689): its header, its checks, its records, and the
loads of registers and table words that boot phase 5 makes from it. -/

namespace Sys2Proof.Machine

/-! ### Headers (R562) -/

/-- The first byte of slot A (0) or slot B (1). -/
def slotBase (k : Nat) : Nat := 65536 * k

def State.header (s : State) (k : Nat) : List Byte := s.memBytes (slotBase k) 32

def hasMagic (h : List Byte) : Bool := h.take 4 == [0x4E, 0x52, 0x4D, 0x49]
def hFmt (h : List Byte) : Nat := ofLe (slice' h 4 2)
def hSeq (h : List Byte) : Nat := ofLe (slice' h 6 2)
def hLen (h : List Byte) : Nat := ofLe (slice' h 8 4)
def hFlags (h : List Byte) : Nat := ofLe (slice' h 12 2)
def hTag (h : List Byte) : Bool := (hFlags h).testBit 0
def hStrap (h : List Byte) : Bool := (hFlags h).testBit 1
def hNrec (h : List Byte) : Nat := ofLe (slice' h 14 2)
def hPart (h : List Byte) : Nat := (h.getD 16 0).toNat
def hStepMin (h : List Byte) : Nat := (h.getD 17 0).toNat

/-- The memory strap record of a header, bytes 24 to 31, where it is there and valid. -/
def strapOf (h : List Byte) : Option (List Byte) :=
  let r := slice' h 24 8
  let b := fun i => (r.getD i 0).toNat
  if hasMagic h && hStrap h && (b 0 == 1 || b 0 == 2) && b 1 % 4 != 3 && b 2 ≤ 15 && 1 ≤ b 3 && b 3 ≤ 33
      && 17 ≤ b 4 && b 4 ≤ 27 && b 5 == 0 && b 6 == 0 && r.getD 7 0 == (r.take 7).foldl (· ^^^ ·) 0xA5 then some r
  else none

/-- The format, the part, the stepping and the length of a header are ones that this stepping supports (R562). -/
def State.headerOk (s : State) (h : List Byte) : Bool :=
  hasMagic h && hFmt h == 1 && hFlags h < 4 && hPart h == s.fld .SYS_ID_PART && hStepMin h ≤ s.fld .SYS_ID_STEP
    && hLen h % 4 == 0 && 36 ≤ hLen h && hLen h + (if hTag h then 32 else 0) ≤ 65536

/-- The CRC-32 that a slot carries (R563). -/
def State.slotCrc (s : State) (k : Nat) : Nat :=
  ofLe (s.memBytes (slotBase k + hLen (s.header k) - 4) 4)

def State.slotCrcOk (s : State) (k : Nat) : Bool :=
  (crc32 (s.memBytes (slotBase k) (hLen (s.header k) - 4))).toNat == s.slotCrc k

/-- The tag of a slot verifies, where the unit is provisioned for image authentication (R564). -/
def State.slotTagOk (s : State) (k : Nat) : Bool :=
  if s.flag .SYS_BOOTST_AUTH then
    match s.nvm.imgKey with
    | some key =>
      let h := s.header k
      hTag h && hmacSha256 key (s.memBytes (slotBase k) (hLen h)) == s.memBytes (slotBase k + hLen h) 32
    | none => false
  else true

/-- A slot is valid (R74). -/
def State.slotValid (s : State) (k : Nat) : Bool := s.headerOk (s.header k) && s.slotCrcOk k && s.slotTagOk k

/-! ### Records (R565) -/

structure ImgRec where
  typ : Nat
  val : List Byte
deriving DecidableEq, Repr

/-- The records of n that start at byte offset o with index i, and the index and offset of the fault that ends them. -/
def parseRecords : Nat → Nat → Nat → List Byte → List ImgRec × Option (Nat × Nat)
  | 0, i, o, bs => ([], if bs.isEmpty then none else some (i, o))
  | n + 1, i, o, bs =>
    let len := ofLe (slice' bs 2 2)
    let adv := 4 + (len + 3) / 4 * 4
    if bs.length < 4 || bs.length < adv then ([], some (i, o))
    else
      let (rs, f) := parseRecords n (i + 1) (o + adv) (bs.drop adv)
      (⟨ofLe (bs.take 2), slice' bs 4 len⟩ :: rs, f)

/-- The records of a slot's image and their fault, if any. -/
def State.imageRecords (s : State) (k : Nat) : List ImgRec × Option (Nat × Nat) :=
  let h := s.header k
  parseRecords (hNrec h) 0 32 (s.memBytes (slotBase k + 32) (hLen h - 36))

/-! ### Register loads (R566, R689) -/

/-- The bits of a register that an image loads: RW, ST and LK fields. -/
def loadMask (a : Nat) : Word := word (regInfo a).rw ||| word (regInfo a).st ||| word (regInfo a).lk

/-- Words whose value is an access, or is held by each path: a load has nothing to place there, and counts as skipped. -/
def accessPoint (a : Nat) : Bool :=
  a == Reg.STG_VIEW || a == Reg.LOG_CURSOR || a == Reg.XFER_PULL || a == Reg.NVM_DATA
    || (match windowReg a with | some w => w.2 == 3 | none => false)

/-- The load rules of R55, R56, R64, R475, R529, R568 and R629. -/
def loadRule (a : Nat) (w : Word) : Word :=
  if a = Reg.PWR_CAP then if outside 47 1000 w.toNat then 47 else w
  else if a = Reg.PWR_HOSTP then putField w 0 8 (min 200 (getField w 0 8))
  else if (List.range 6).any (fun n => Reg.LOOP_CFG n == a) then if getField w 14 2 = 3 then putField w 14 2 0 else w
  else if a = Reg.ROPE_CFG then
    let w := if getField w 14 2 = 3 then putField w 14 2 0 else w
    if getField w 8 5 = 31 then putField w 8 5 0 else w
  else if a = Reg.XMEM_CFG then if getField w 11 5 < 2 then putField w 11 5 2 else w
  else if a = Reg.LOG_MODE then if getField w 0 2 = 3 then putField w 0 2 2 else w
  else w

/-- A word of blocks SYS to CAL with a reserved code or a value outside its range (R689). -/
def loadBadCore (a : Nat) (w : Word) : Bool :=
  let f := getField w
  if a = Reg.ANG_CFG then 4 < f 13 3 || f 11 2 == 3
  else if a = Reg.ANG_TEETH then outside 1 2 (f 14 2) || outside 8 512 (f 0 10)
  else if a = Reg.ANG_LINES then outside 1 8192 (f 0 14)
  else if a = Reg.ANG_TMO then outside (if w.msb then 1 else 5) 32767 (f 0 15)
  else if a = Reg.ANG_TPER then outside 4 40000 w.toNat
  else if a = Reg.ANG_SPDMAX then outside 1 60000 w.toNat
  else if a = Reg.SEQ_URGSLICE then 12 < f 0 4
  else if a = Reg.REF_CTRL then f 13 2 == 3
  else if a = Reg.CAL_TOL then f 8 8 == 0 || f 0 8 == 0
  else if a = Reg.CAL_OVERLAP then f 8 4 == 0 || f 0 8 == 0
  else (List.range 4).any (fun k => Reg.EXC_CFG k == a) && (f 13 2 == 3 || f 11 2 == 3)

/-- The same of the other blocks. -/
def loadBadRest (a : Nat) (w : Word) : Bool :=
  let f := getField w
  let loopReg := fun (g : Nat → Nat) => (List.range 6).any (fun n => g n == a)
  if a = Reg.ROPE_VTMO then f 0 8 == 0
  else if a = Reg.ROPE_PTMO then w == 0
  else if a = Reg.ROPE_SHARE then 139 < f 0 8
  else if a = Reg.THM_GRACE then outside 1 1000 (f 0 10)
  else if a = Reg.XMEM_CLK then outside 1 33 (f 0 6)
  else if a = Reg.XFER_RING then 32 < f 0 6
  else if a = Reg.XFER_CAP then f 14 2 == 3
  else if (List.range 4).any (fun n => Reg.WIN_SPACE n == a) then 13 < f 0 8
  else if loopReg Reg.LOOP_RBTOL then outside 28 2731 w.toNat
  else if loopReg Reg.LOOP_RBTMO then outside 1 1000 w.toNat
  else if loopReg Reg.LOOP_LVTMO then outside 1 6000 w.toNat
  else if loopReg Reg.LOOP_FVTMO then outside 1 6000 w.toNat
  else (loopReg Reg.LOOP_FIXED || loopReg Reg.LOOP_PARK || loopReg Reg.LOOP_CLRC) && outside codeLow codeHigh w.toNat

/-- A load of LOOP[n].MODE = FIXED (R88). -/
def loadsFixed (a : Nat) (w : Word) : Bool := (List.range 6).any (fun n => Reg.LOOP_MODE n == a) && getField w 0 2 == 2

/-- What follows from a register load: the capture pointer of R575, the clock limit of R570, the estimate shown, and the
slices that the word holds in direct mode. -/
def afterLoad (a : Nat) (s : State) : State :=
  if a = Reg.XMEM_CFG then s.setReg32 Reg.XFER_WPTR (s.fld .XMEM_CFG_CAPBASE * 65536)
  else if a = Reg.XMEM_CLK then clkWrite (s.reg a) s
  else if a = Reg.PWR_VT then showVt s
  else if a = Reg.SLC_DIRECT then { s with cal := { s.cal with hostDirect := bitsOf (getField (s.reg a) 0 13) } }
  else s

/-- Load a register word: whether the load counts as skipped, and the state. -/
def loadReg (a : Nat) (v : Word) (s : State) : Bool × State :=
  let m := loadMask a
  if 512 ≤ a || m = 0 || accessPoint a then (true, s)
  else
    let fixed := loadsFixed a v
    let w := loadRule a (((if fixed then 0 else v) &&& m) ||| (s.reg a &&& ~~~m))
    if loadBadCore a w || loadBadRest a w then (true, s)
    else (fixed, afterLoad a (s.setReg a w))

/-! ### Table loads (R566, R689) -/

/-- A topo word with a reserved code, or a DPH above DIV (R310 to R314). -/
def topoWordBad (ofs : Nat) (v : Word) : Bool :=
  let e := (List.replicate 8 (0 : Word)).set ofs v
  tKind e == 3 || (12 ≤ tSlice e && tSlice e ≤ 14) || 2 ≤ tExcm e || tBurn e == 3 || topoReserved e || tDiv e < tDph e

/-- A route word with a reserved code (R233). -/
def routeWordBad (ofs : Nat) (v : Word) : Bool :=
  let r := [0x3030, 0x3030, 0x0C30, 0x0C30].set ofs v
  [rPos r, rNeg r, rExaPin r, rExbPin r, rRefp r, rRefn r, rRtn r, rBias r].any badPin || 2 ≤ rRefsel r || 10 ≤ rDiag r

/-- A COEF word with a reserved code or a value outside its range (R358). -/
def coefWordBad (i ofs : Nat) (v : Word) : Bool := coefBad i ([0, 0, 0x4000, 0, 0, 0].set ofs v)

/-- Word ofs of a stage entry holds a reserved code or a value outside its range, as its entry describes it (R408). A
parameter is judged with its high word. -/
def stageWordBad (e : List Word) (ofs : Nat) : Bool :=
  let op := stOp e
  let p := stP e ((ofs - 2) / 2)
  if ofs = 0 then
    if op = opEnd then getField (ew e 0) 0 6 != 0
    else opFixed < op || 5 ≤ stA e || (if op = opComb || op = opLin then 5 ≤ stB e else stB e != 0)
      || getField (ew e 0) 0 5 != 0 || (stNoat e && op != opSrc)
  else if ofs = 1 then
    (op = opSrc && 263 < getField (stOpnd e) 0 9) || (op = opLin && 8 < getField (stOpnd e) 12 4)
      || (op = opTable && 11 < getField (stOpnd e) 0 4)
  else if ofs % 2 = 0 || paramsOf op ≤ (ofs - 2) / 2 then false
  else
    !fFinite p
      || ((op = opDamp || (op = opAlarm && ofs = 7)) && (fLt p f0 || fLt f60 p))
      || ((op = opRate || op = opSqrt && ofs = 3 || op = opAlarm && ofs = 9) && fLt p f0)

/-- A word of a CHAR header with a reserved value, or an NPTS outside 2 to 33 (R424). -/
def charWordBad (cur ofs : Nat) (v : Word) : Bool :=
  cur % 34 = 0 && (if ofs = 0 then getField v 6 10 != 0 || outside 2 33 (getField v 0 6) else (ofs = 1 || ofs = 2) && v != 0)

/-- Word w of a loop's burst entries out of range (R467, R471). -/
def burstWordBad (w : Nat) (v : Word) : Bool :=
  match w % 64 with
  | 1 => v.toNat < 10
  | 2 => 56 < getField v 0 8
  | k => 4 ≤ k && k < 8 && (5 < getField v 0 4 || 5 < getField v 4 4)

/-- Load an FSKQ word: burst entries and the live words that a write takes. -/
def loadFskq (n w : Nat) (v : Word) (s : State) : Bool × State :=
  let key := 512 * n + w
  if 256 ≤ w && w < 448 then if burstWordBad w v then (true, s) else (false, setFskW key v s)
  else
    let m := fskqMask w
    if m = 0 || (w < 256 && w % 64 = 33 && 56 < getField v 0 8) then (true, s) else (false, setFskW key ((s.fskW key &&& ~~~m) ||| (v &&& m)) s)

/-- Load a TEAM word: the fields of headers and members that are written; NMEM and ID are 1 to 30 (R524). -/
def loadTeam (cur ofs : Nat) (v : Word) (s : State) : Bool × State :=
  let e := cur % 32
  if ofs != 0 || 30 < e || (e = 0 && (outside 1 30 (getField v 8 5) || outside 1 30 (getField v 0 5))) then (true, s)
  else (false, setTeamW (cur / 32) e 0 (v &&& (if e = 0 then 0x1F1F else 0x801F)) s)

def modTab (f : Tables → Tables) (s : State) : State := { s with tab := f s.tab }

/-- Load a COEF word into both banks, its check word with it. -/
def loadCoef (i ofs : Nat) (v : Word) (s : State) : State :=
  if ofs = 5 then s
  else
    let b := putCoef s.tab.coef i ((coefEntry s.tab.coef i).set ofs v)
    modTab (fun t => { t with coef := b, coefAlt := b }) s

/-- Load a CHAR word into both banks, the table's check word with it. -/
def loadChar (cur ofs : Nat) (v : Word) (s : State) : State :=
  if cur % 34 = 0 && ofs = 3 then s
  else
    let b := writeAt charDefault s.tab.char (4 * cur + ofs) v
    let b := writeAt charDefault b (136 * (cur / 34) + 3) (charCrc b (cur / 34))
    modTab (fun t => { t with char := b, charAlt := b }) s

/-- Load one word of a table: whether it counts as skipped, and the state. -/
def loadWord (sp cur ofs : Nat) (v : Word) (s : State) : Bool × State :=
  if (spaceSize sp).1 ≤ cur || (spaceSize sp).2 ≤ ofs then (true, s)
  else
    match sp with
    | 1 => if topoWordBad ofs v then (true, s)
      else (false, modTab (fun t => { t with topo := writeAt zeroWord t.topo (8 * cur + ofs) v }) s)
    | 2 => if routeWordBad ofs v then (true, s)
      else (false, modTab (fun t => { t with
        route := writeAt routeDefault t.route (4 * cur + ofs) (if ofs = 3 then v &&& 0x0FFF else v) }) s)
    | 4 => if coefWordBad cur ofs v then (true, s) else (false, loadCoef cur ofs v s)
    | 5 => if charWordBad cur ofs v then (true, s) else (false, loadChar cur ofs v s)
    | 6 => if 96 ≤ cur || stageWordBad ((readRun zeroWord s.tab.valprog (16 * cur) 16).set ofs v) ofs then (true, s)
      else (false, modTab (fun t => { t with valprog := writeAt zeroWord t.valprog (16 * cur + ofs) v }) s)
    | 7 => (false, modTab (fun t => { t with wave := writeAt waveDefault t.wave cur v }) s)
    | 9 => loadFskq (cur / 32) (cur % 32 * 16 + ofs) v s
    | 12 => loadTeam cur ofs v s
    | _ => (true, s)

/-! ### Skipped loads (R566) -/

/-- A load of a record of type t was skipped. -/
def noteSkip (t : Nat) (skipped : Bool) (s : State) : State :=
  if !skipped then s
  else
    let b := s.sys.boot
    { s with sys := { s.sys with boot := { b with
      skipped := b.skipped + 1, skipType := if b.skipped = 0 then t else b.skipType } } }

def loadRegs : List Word → State → State
  | a :: v :: rest, s =>
    let (k, s) := loadReg a.toNat v s
    loadRegs rest (noteSkip 1 k s)
  | _, s => s

/-- Load consecutive words of a table from (cur, ofs), advancing inside the entry (R144). -/
def loadTable (sp : Nat) : List Word → Nat → Nat → State → State
  | [], _, _, s => s
  | v :: rest, cur, ofs, s =>
    let (k, s) := loadWord sp cur ofs v s
    let last := (spaceSize sp).2 ≤ ofs + 1
    loadTable sp rest (if last then cur + 1 else cur) (if last then 0 else ofs + 1) (noteSkip 2 k s)

/-! ### The records (R566) -/

def modBoot (f : Boot → Boot) (s : State) : State := { s with sys := { s.sys with boot := f s.sys.boot } }

/-- The protection map and the loops' identities. -/
def loadIdent (v : List Byte) (s : State) : State :=
  let mask := (v.getD 0 0).toNat
  let ws := wordsOfBytes (slice' v 2 12)
  forEach 6 (fun n t =>
    if mask.testBit n then forEach 6 (fun w u => setFskW (identKey n w) (ew ws w &&& fskqMask (448 + w)) u) t else t) s

/-- Keys are written once, where they are blank. -/
def loadKey (v : List Byte) (s : State) : State :=
  let key := padTo 32 (slice' v 4 32)
  match (v.getD 0 0).toNat with
  | 1 => if s.nvm.imgKey.isSome then s else { s with nvm := { s.nvm with imgKey := some key } }
  | 2 => if s.nvm.logKey.isSome then s else { s with nvm := { s.nvm with logKey := some key } }.setFlag .LOG_STAT_NOKEY false
  | _ => s

/-- The teams of a ROPEROLE record, each as slot, ID and member words. -/
def parseTeams : Nat → List Byte → List (List Word)
  | 0, _ => []
  | n + 1, bs =>
    let m := (bs.getD 2 0).toNat
    let member := fun (b : Byte) => word ((if b.msb then 0x8000 else 0) + b.toNat % 32)
    (word (bs.getD 0 0).toNat :: word (bs.getD 1 0).toNat :: (slice' bs 4 m).map member)
      :: parseTeams n (bs.drop (4 + (m + 3) / 4 * 4))

/-- ROLE and PIN, and the teams of the first ENUM FINISH after a boot that cleared the slots (R512). -/
def loadRole (v : List Byte) (s : State) : State :=
  let role := (v.getD 0 0).toNat
  let pin := (v.getD 1 0).toNat
  let (_, s) := loadReg Reg.ROPE_CFG (word (16384 * (if role < 3 then role else 0) + 256 * (if pin < 31 then pin else 0))) s
  if keepsRope s.sys.boot.cause then s
  else s.modRope (fun r => { r with imageTeams := parseTeams (v.getD 2 0).toNat (v.drop 4) })

/-- The depth of a bucket (R619). -/
def bucketOf (b : Nat) : Bucket :=
  let n := if b = 0 then 4 else b
  { tokens := n, depth := n }

def loadLimits (v : List Byte) (s : State) : State :=
  { s with log := { s.log with buckets := (List.range 32).map (fun g => bucketOf (v.getD g 0).toNat) } }

/-- The ranges of journal items that override the image. -/
def journalPairs : List Word → List (Nat × Nat)
  | a :: b :: rest => (a.toNat, b.toNat) :: journalPairs rest
  | _ => []

/-- Apply one record. -/
def applyRecord (r : ImgRec) (s : State) : State :=
  let v := r.val
  match r.typ with
  | 1 => loadRegs (wordsOfBytes v) s
  | 2 =>
    let n := min (ofLe (slice' v 6 2)) ((v.length - 8) / 2)
    if v.length < 8 then noteSkip 2 true s
    else loadTable (v.getD 0 0).toNat (wordsOfBytes (slice' v 8 (2 * n))) (ofLe (slice' v 2 2)) (v.getD 4 0).toNat s
  | 3 => if s.sys.boot.mapRec.isSome then s else modBoot (fun b => { b with mapRec := some (wordsOfBytes (padTo 32 v)) }) s
  | 4 => loadIdent v s
  | 5 => modBoot (fun b => { b with journalRanges := b.journalRanges ++ journalPairs (wordsOfBytes v) }) s
  | 6 => loadKey v s
  | 7 => loadRole v s
  | 8 => loadLimits v s
  | t => if 0x8000 ≤ t && t ≤ 0xFFFE then s else noteSkip t true s

end Sys2Proof.Machine
end

