-- ==== Sys2Proof/Machine/Boot.lean ====
section
/-! DEFINITION. The boot sequence (R71 to R79, R86 to R92, R556, R594, R617): its eight phases, each taken once and in
order. -/

namespace Sys2Proof.Machine

def setPhaseNo (n : Nat) (s : State) : State := s.setFld .SYS_BOOTST_PHASE n

/-- The sequencer stands in phase n of a boot in progress. -/
def State.inPhase (s : State) (n : Nat) : Bool := !s.sys.held && !s.isActive && s.phase == n

/-! ### Phase 1: oscillator and POR release (R71, R16, R17, R40) -/

/-- The bands in which the loops stand when the budget is first computed; the profile of their count is taken at once (R40).
That this first profile sets no PROFCHG is a DESIGN CHOICE (log entry 51). -/
def firstBudget (bands : Nat) (s : State) : State :=
  let s := forEach 6 (fun n t => setBand n (bands / 4 ^ n % 4) t) s
  let s := recompute s
  recompute (s.setFld .PWR_PROFILE_PROFILE s.profileTarget)

/-- The straps: ALMSEL is sampled for the last POR or BOR and TEST for the last POR, once each, whatever other reset has
come since their release (R16, R17). -/
def sampleStraps (almsel test : Bool) (s : State) : State :=
  let s := if s.sys.strapDue then s.setFlag .SYS_STAT_ALMPIN almsel else s
  let s := if s.sys.testDue then s.setFlag .SYS_STAT_TESTMODE test else s
  { s with sys := { s.sys with strapDue := false, testDue := false } }

/-- BOOT_OSCILLATOR (R71): the regulators and the crystal oscillator start, the straps are sampled, and the first budget
is computed. -/
def bootOscillator (almsel test : Bool) (bands : Nat) (s : State) : State :=
  if !s.inPhase 1 then s
  else
    let s := sampleStraps almsel test { s with sys := { s.sys with vddio := true, xosc := true } }
    let s := (s.setFlag .SYS_BOOTST_AUTH s.nvm.imgKey.isSome).setFlag .LOG_STAT_NOKEY s.nvm.logKey.isNone
    driveFaultPins (updateLoops (setPhaseNo 2 (firstBudget bands s)))

/-- The band codes of six loops: short, bypass or harvest. -/
def okBands (b : Nat) : Bool := b < 4096 && (List.range 6).all (fun n => b / 4 ^ n % 4 != 3)

def execBootOscillator (almsel test : Bool) (bands : Nat) (s : State) : Host.Outcome State Fault Refusal :=
  answerIf (okBands bands) (bootOscillator almsel test bands s)

/-! ### Phase 2: headers and slot choice (R556, R75, R76) -/

/-- The port takes the parameters that SFDP or the strap record gives; the read mode is 0 for 0x03, 1 for 0x6B and 2 for 0xEB. -/
def setMemory (kind size clock page mode dummy : Nat) (addr4 safe : Bool) (s : State) : State :=
  let s := ((s.setFld .XMEM_STAT_KIND kind).setFlag .XMEM_STAT_SAFE safe).setFlag .XMEM_STAT_QUAD (mode != 0)
  let s := (s.setFlag .XMEM_STAT_ADDR4 addr4).setReg32 Reg.XMEM_SIZE size
  let s := s.modXfer (fun x => { x with page := page, clockMax := clock, readMode := mode, readDummy := dummy })
  clkWrite (s.reg Reg.XMEM_CLK) s

/-- Safe mode: 16 MiB, 4 MHz, no writes. -/
def safeMemory (kind : Nat) (s : State) : State := setMemory kind 16777216 4 256 0 0 false true s

/-- The discovery of a memory that answers (R556). -/
def discover (sfdp : Option Sfdp) (s : State) : State :=
  match sfdp with
  | some d =>
    if d.erase4k then
      let s := setMemory 1 d.size d.clockMhz d.page d.readMode d.readDummy d.addr4 false s
      s.modXfer (fun x => { x with
        eraseOp := d.eraseOp, progTypUs := d.progTypUs, progMaxUs := d.progMaxUs, eraseTypUs := d.eraseTypUs, eraseMaxUs := d.eraseMaxUs })
    else safeMemory 1 s
  | none =>
    match [s.header 0, s.header 1].findSome? strapOf with
    | some r =>
      let b := fun i => (r.getD i 0).toNat
      setMemory (b 0 + 1) (2 ^ b 4) (b 3) 256 (b 1 % 4) (b 2) ((r.getD 1 0).getLsbD 2) false s
    | none => safeMemory 0 s

/-- The candidate slot of R75 and R76. -/
def chooseSlot (s : State) : State :=
  let a := s.header 0
  let b := s.header 1
  let both := hasMagic a && hasMagic b
  let tie := both && !newer16 (hSeq a) (hSeq b) && !newer16 (hSeq b) (hSeq a)
  let cand := if tie then none
    else if both then some (if newer16 (hSeq a) (hSeq b) then 1 else 0)
    else if hasMagic a then some 0 else if hasMagic b then some 1 else none
  modBoot (fun x => { x with
    magicA := hasMagic a, magicB := hasMagic b, tie := tie, candidate := cand, seqA := hSeq a, seqB := hSeq b }) s

/-- BOOT_HEADERS (R71, R556). -/
def bootHeaders (answers : Bool) (sfdp : Option Sfdp) (s : State) : State :=
  if !s.inPhase 2 then s
  else
    let s := setPhaseNo 3 (modBoot (fun b => { b with memory := answers }) s)
    if answers then chooseSlot (discover sfdp s) else s

/-- What SFDP can give. -/
def okSfdp (d : Sfdp) : Bool :=
  d.size < 4294967296 && d.eraseOp < 256 && 1 ≤ d.clockMhz && 1 ≤ d.page && d.readMode < 3

def execBootHeaders (answers : Bool) (sfdp : Option Sfdp) (s : State) : Host.Outcome State Fault Refusal :=
  answerIf (match sfdp with | some d => okSfdp d | none => true) (bootHeaders answers sfdp s)

/-! ### Phase 3: image read and check (R74, R76, R77) -/

/-- Phases 3 and 4 end together: phase 5 begins when both are done. -/
def joinPhases (s : State) : State :=
  if s.sys.boot.imageDone then setPhaseNo (if s.sys.boot.scanDone then 5 else 4) s else s

def failFld : Nat → Fld
  | 0 => .SYS_BOOTST_AFAIL
  | _ => .SYS_BOOTST_BFAIL

/-- A slot that carries the magic and failed R74. -/
def noteFail (k : Nat) (ok : Bool) (s : State) : State := if ok then s else s.setFlag (failFld k) true

def resOk : Nat := 1
def resNoXmem : Nat := 2
def resBlank : Nat := 3
def resBadImg : Nat := 4

def setResult (r : Nat) (s : State) : State := s.setFld .SYS_BOOTST_RESULT r

/-- Slot k's image is the one in use. -/
def useSlot (k : Nat) (s : State) : State :=
  let s := (setResult resOk s).setFld .SYS_BOOTST_SLOT k
  (s.setRegN Reg.SYS_IMGSEQ (hSeq (s.header k))).setReg32 Reg.SYS_IMGCRC (s.slotCrc k)

def State.seqOf (s : State) (k : Nat) : Nat := if k = 0 then s.sys.boot.seqA else s.sys.boot.seqB

/-- The candidate, and the other slot where it fails (R76). -/
def tryCandidate (c : Nat) (s : State) : State :=
  let okC := s.slotValid c
  let s := noteFail c okC s
  if okC then useSlot c s
  else if s.sys.boot.magicA && s.sys.boot.magicB then
    let d := 1 - c
    let okD := s.slotValid d
    let s := noteFail d okD s
    if okD then
      mkRecord 0x002 clsNote [c, s.seqOf c, s.seqOf d] (useSlot d (s.setFlag .SYS_BOOTST_FALLBK true))
    else setResult resBadImg s
  else setResult resBadImg s

/-- A tie (R76): both slots are read; slot A is used where it is valid. -/
def tryTie (s : State) : State :=
  let okA := s.slotValid 0
  let okB := s.slotValid 1
  let s := noteFail 1 okB (noteFail 0 okA s)
  let differ := okA && okB && (hLen (s.header 0) != hLen (s.header 1) || s.slotCrc 0 != s.slotCrc 1)
  let s := if differ then
      mkRecord 0x003 clsNote [s.sys.boot.seqA, s.slotCrc 0 % 65536, s.slotCrc 1 % 65536] (s.setFlag .SYS_BOOTST_TIE true)
    else s
  if okA then useSlot 0 s else if okB then useSlot 1 s else setResult resBadImg s

/-- BOOT_IMAGE_CHECK (R71). -/
def bootImageCheck (s : State) : State :=
  if !s.inPhase 3 then s
  else
    let s := modBoot (fun b => { b with imageDone := true }) s
    joinPhases
      (if !s.sys.boot.memory then setResult resNoXmem s
       else if s.sys.boot.tie then tryTie s
       else match s.sys.boot.candidate with
         | some c => tryCandidate c s
         | none => setResult resBlank s)

def execBootImageCheck (s : State) : Host.Outcome State Fault Refusal := .next (bootImageCheck s)

/-! ### Phase 4: journal, log and counters (R594, R617) -/

/-- The items that hold a valid record in either chain. -/
def State.journalItems (s : State) : List Nat :=
  ((s.chainRecords 0 ++ s.chainRecords 1).map (fun r => recItem r.2.2)).eraseDups

/-- A tie of an item between its chain winners (R591). -/
def noteTie (item : Nat) (s : State) : State :=
  match s.chainWinner 0 item, s.chainWinner 1 item with
  | some a, some b =>
    if recSeq a.2.2 = recSeq b.2.2 && a.2.2.take 29 != b.2.2.take 29 then
      mkRecord 0x380 clsNote [item, min a.1 b.1, max a.1 b.1, recSeq a.2.2] (s.setFlag .NVM_JSTAT_TIE true)
    else s
  | _, _ => s

/-- The repairs of an item (R592): a chain with no valid record of the winner's bytes 0 to 28 gets one. -/
def queueRepairs (item : Nat) (s : State) : State :=
  match s.winner item with
  | none => s
  | some w =>
    forEach 2 (fun c t =>
      if (t.chainRecords c).any (fun r => r.2.2.take 29 == w.2.2.take 29) then t
      else addJob t { kind := .repair c w.2.2 }) s

/-- Every journal sector that is neither open nor erased is erased again (R585), and a compaction cut short completed
(R593). -/
def queueChain (c : Nat) (s : State) : State :=
  let bad := (chainSectors c).filter (fun k => !s.sectorOpen c k && !s.sectorErased k)
  let s := forList bad (fun k t => addJob t { kind := .sectorErase k }) s
  if s.compactDue c && bad.isEmpty then addJob s { kind := .compact c } else s

/-- The scan of the journal. -/
def scanJournal (s : State) : State :=
  let items := s.journalItems
  forEach 2 queueChain (forList items queueRepairs (forList items noteTie s))

/-- The bits that a program cut short left open are taken as the scan reads them (R584, log entry 1). -/
def settleLoose (s : State) : State :=
  forList s.nvm.loose (fun e t =>
    let (d, t) := t.freeDraw
    let m : Byte := BitVec.ofNat 8 e.2
    t.setStore (writeAt erasedByte t.nvm.store e.1 ((t.storeByte e.1 &&& ~~~m) ||| (d.setWidth 8 &&& m)))) s

/-- The reports of the words in which the scan finds an error (R580). -/
def scanErrors (s : State) : State :=
  forList s.nvm.errs (fun e t =>
    match t.wordErr e.1 with
    | some double => report 4 (e.1 / 256 + if double then 0x80 else 0) (8 * e.1 % 2048) 0 t
    | none => t) s

/-- The last programmed bit of a counter's field is unstable (R597): where the scan finds it so, which is open (log entry 1),
it is programmed again and counted. -/
def settleCounter (n : Nat) (s : State) : State :=
  let a := fieldAddr n (s.counterBase n).2
  match s.nvm.loose.find? (fun e => decide (a ≤ e.1) && decide (e.1 < a + 512)) with
  | none => s
  | some e =>
    let (found, s) := s.freeChoice
    if found then
      let m : Byte := BitVec.ofNat 8 e.2
      let s := s.setStore (writeAt erasedByte s.nvm.store e.1 (s.storeByte e.1 ||| m))
      countUp n (s.setReg32 (Reg.CNT n) (s.storedCount n))
    else s

/-- The counters: their stored values, and the erase of the sector of a pair that no base names any more (R595, R596). -/
def scanCounters (s : State) : State :=
  let s := forEach 8 (fun n t => settleCounter n (t.setReg32 (Reg.CNT n) (t.storedCount n))) s
  forList [26, 27, 28, 29] (fun k t =>
    if (pairCounters (if k < 28 then 0 else 4)).all (fun n => (t.counterBase n).2 != k) && !t.sectorErased k then
      addJob t { kind := .counterErase k }
    else t) s

/-- The slot and SEQ of the newest of some records (R75, R617). -/
def newestOf (l : List (Nat × Nat)) : Option (Nat × Nat) :=
  l.foldl (fun acc x => match acc with
    | none => some x
    | some y => if newer16 y.2 x.2 then some x else some y) none

/-- The oldest of some records. -/
def oldestOf (l : List (Nat × Nat)) : Option (Nat × Nat) :=
  l.foldl (fun acc x => match acc with
    | none => some x
    | some y => if newer16 x.2 y.2 then some x else some y) none

/-- The slots that hold a valid LOGCLEARED record of this unit. -/
def State.clearedSlots (s : State) (valid : List (Nat × Nat)) : List (Nat × Nat) :=
  valid.filter (fun x => let w := ofLe ((s.logBytes x.1).take 2); w < 32768 && w % 4096 == 0x381)

/-- A clearing cut short (R617, R627): valid records older than LOGCLEARED remain, so its erases run again after ACTIVE. -/
def resumeClear (slot : Nat) (s : State) : State :=
  let r : Rec := ⟨0x381, (s.logBytes slot).take 28, false, false⟩
  let s := { s with log := { s.log with clearedBy := some (logSeq (s.logBytes slot)) } }
  addJob ((s.setFlag .LOG_STAT_BUSY true).setFld .LOG_CLRST_STATE 2) { kind := .clearing r, step := 2, place := slot }

/-- The slots from the write point to the oldest valid record hold something that was discarded (R617). -/
def State.holdsDiscarded (s : State) (write oldest : Nat) : Bool :=
  (List.range ((oldest + 1024 - write) % 1024)).any (fun i =>
    let bs := s.logBytes ((write + i) % 1024)
    !allErased bs && !logCleared bs)

/-- The write point, the first erased slot in ring order from a slot on, and the erases that it needs (R610, R617): of the sector
after its own, and, where no slot of the ring is erased, of its own. -/
def placeWrite (from_ : Nat) (s : State) : State :=
  let free := (List.range 1024).find? (fun i => allErased (s.logBytes ((from_ + i) % 1024)))
  let write := match free with
    | some i => (from_ + i) % 1024
    | none => ((from_ + 1023) % 1024 / 64 * 64 + 64) % 1024
  let ahead := fun (k : Nat) (t : State) => if t.sectorErased k then t else addJob t { kind := .logErase k }
  let s := { s with log := { s.log with writeSlot := write } }
  ahead (slotSector (write / 64 * 64 + 64)) (if free.isSome then s else ahead (slotSector write) s)

/-- The scan of the log (R617). -/
def scanLog (s : State) : State :=
  let valid := s.validSlots
  match newestOf valid, oldestOf valid with
  | some n, some o =>
    let s := placeWrite (n.1 + 1) s
    let s := { s with log := { s.log with nextSeq := (n.2 + 1) % 65536 } }.setRegN Reg.LOG_SEQ n.2
    match newestOf (s.clearedSlots valid) with
    | some c =>
      if valid.any (fun x => newer16 x.2 c.2) then resumeClear c.1 s else s
    | none => s.setFlag .LOG_STAT_DROP (s.holdsDiscarded s.log.writeSlot o.1)
  | _, _ =>
    let s := placeWrite 0 s
    { s with log := { s.log with nextSeq := 1 } }

/-- BOOT_SCAN (R594). -/
def bootScan (s : State) : State :=
  if s.sys.held || s.isActive || s.phase < 2 || 4 < s.phase || s.sys.boot.scanDone then s
  else joinPhases (modBoot (fun b => { b with scanDone := true }) (scanLog (scanCounters (scanJournal (scanErrors (settleLoose s))))))

def execBootScan (s : State) : Host.Outcome State Fault Refusal := .next (bootScan s)

/-! ### Phase 5: apply (R73, R77, R386, R566, R588) -/

/-- Both COEF banks get a run of words. -/
def putBanks (k : Nat) (ws : List Word) (s : State) : State :=
  let b := writeRun coefDefault s.tab.coef k ws
  modTab (fun t => { t with coef := b, coefAlt := b }) s

/-- The slice entries from the factory copy (R386). -/
def factoryCoef (s : State) : State :=
  forEach 13 (fun n t => forEach 8 (fun c u => putBanks (6 * sliceEntry n c) (u.factoryEntry n c) u) t) s

/-- An item that the journal holds is applied, and JRNL shows it. -/
def applyItem (item : Nat) (f : List Byte → State → State) (s : State) : State :=
  match s.itemData item with
  | some d => (f d s).setFlag .SYS_BOOTST_JRNL true
  | none => s

/-- The loop trim of loop n (R589). -/
def applyTrim (n : Nat) (d : List Byte) (s : State) : State :=
  s.modLoop n (fun l => { l with trimZero := signed16 (ofLe (d.take 2)), trimSpan := signed16 (ofLe (slice' d 2 2)) })

/-- The identity of loop n (R472, R588). -/
def applyIdentity (n : Nat) (d : List Byte) (s : State) : State :=
  forEach 6 (fun w t => setFskW (identKey n w) (ew (wordsOfBytes d) w &&& fskqMask (448 + w)) t) s

/-- The range of loop n: P0 and P1 of the first RANGE stage of its program; without one it is ignored (R588). -/
def applyRange (n : Nat) (d : List Byte) (s : State) : State :=
  match s.rangeStage n with
  | some k => modTab (fun t => { t with
      valprog := writeRun zeroWord t.valprog (16 * (16 * n + k) + 2) (wordsOfBytes (padTo 8 d)) }) s
  | none => s

/-- The image flags an item as journalled (R566). -/
def State.journalled (s : State) (item : Nat) : Bool := s.sys.boot.journalRanges.any (fun r => r.1 ≤ item && item ≤ r.2)

/-- A COEF entry as the journal gives it at boot: the figures RES and SPR of a slice entry are unknown after a reset (R357). -/
def bootEntry (i : Nat) (e : List Word) : List Word :=
  if i < 64 || !coefOk e then e
  else
    let w := (e.set 3 0xFFFF).set 4 0xFFFF
    w.set 5 (coefCrc w)

/-- Journal item i of the COEF entries 2i and 2i + 1. -/
def applyCoef (i : Nat) (d : List Byte) (s : State) : State :=
  let ws := wordsOfBytes (padTo 24 d)
  putBanks (12 * i) (bootEntry (2 * i) (ws.take 6) ++ bootEntry (2 * i + 1) (ws.drop 6)) s

/-- The journal's items whose targets exist (R77, R588). -/
def applyJournal (s : State) : State :=
  let s := forEach 84 (fun i => applyItem (0x400 + i) (applyCoef i)) s
  let s := forEach 4 (fun k => applyItem (0x310 + k) (fun d t =>
    { t with nvm := { t.nvm with bind := t.nvm.bind.set k (word (ofLe (d.take 2))) } })) s
  forEach 6 (fun n t =>
    let t := applyItem (0x502 + 16 * n) (applyTrim n) t
    let t := if t.journalled (0x500 + 16 * n) then applyItem (0x500 + 16 * n) (applyIdentity n) t else t
    if t.journalled (0x501 + 16 * n) && (t.rangeStage n).isSome then applyItem (0x501 + 16 * n) (applyRange n) t else t) s

/-- The image's records, and the records of the log that report what was wrong with them (R565, R566). -/
def applyImage (s : State) : State :=
  if s.fld .SYS_BOOTST_RESULT != resOk then s
  else
    let k := s.fld .SYS_BOOTST_SLOT
    let (rs, fault) := s.imageRecords k
    let s := forList rs applyRecord s
    let s := match fault with
      | some (i, o) => mkRecord 0x004 clsNote [i, o % 65536, hNrec (s.header k)] s
      | none => s
    if s.sys.boot.skipped = 0 then s
    else mkRecord 0x005 clsNote [s.sys.boot.skipType, min 65535 s.sys.boot.skipped] s

/-- BADIMG (R77, R639): every fitted loop is set to ALARM, and the boot-checksum source is reported. -/
def applyBadImage (s : State) : State :=
  if s.fld .SYS_BOOTST_RESULT != resBadImg then s
  else
    let s := forEach 6 (fun n t => if t.fitted n then t.setFld (.LOOP_MODE_MODE n) 3 else t) s
    report 1 (s.fld .SYS_BOOTST_AFAIL + 2 * s.fld .SYS_BOOTST_BFAIL) s.sys.boot.seqA s.sys.boot.seqB s

/-- The boot record, and CNT[1] after POR and BOR (R73). -/
def bootRecord (s : State) : State :=
  let r := s.fld .SYS_BOOTST_RESULT
  let slot := if r = resOk then s.fld .SYS_BOOTST_SLOT else 0xFFFF
  let s := mkRecord 0x001 clsInfo [s.regN Reg.SYS_RSTCAUSE, slot, s.regN Reg.SYS_IMGSEQ, r] s
  let c := s.sys.boot.cause
  if c == .por || c == .bor then countUp 1 s else s

/-- The crosspoint may close from here on: XCLR (R87), or a fatal latch that survived (R91), takes the outputs to their
clear routes, and the outputs' settings are those loaded. -/
def openOutputs (s : State) : State :=
  let s := forEach 4 (fun k t => t.modExc k (fun x => { x with applied := t.excRegs k, pending := false })) s
  let s := if s.isFatal then keepClearOnly (excClearAll evFatal s) else s
  if s.sys.xclrLow then keepClearOnly (excClearAll evXclr s) else s

/-- Unfitted loops leave PWR.LOOPS and report no LOWV (R441). -/
def dropUnfitted (s : State) : State :=
  forEach 6 (fun n t =>
    if t.fitted n then t
    else ((setBand n bandShort t).setFlag (.LOOP_STAT_LOWV n) false).modLoop n (fun l => { l with lvTimer := false })) s

/-- BOOT_APPLY (R71). -/
def bootApply (s : State) : State :=
  if !s.inPhase 5 then s
  else
    let s := applyJournal (factoryCoef (applyImage s))
    let s := s.setFlag .SYS_STAT_UNCONF (s.fld .SYS_BOOTST_RESULT != resOk)
    let s := if s.flag .PWR_CFG_VAUXEN then s else s.setFlag .PWR_STAT_VAUXP false
    let s := recompute (dropUnfitted (bootRecord (applyBadImage s)))
    updateLoops (openOutputs (setPhaseNo 6 (forEach 6 initEngine s)))

def execBootApply (s : State) : Host.Outcome State Fault Refusal := .next (bootApply s)

/-! ### Phase 6: protection lock (R78, R79, R83, R566) -/

/-- The bits of a grant word that R82 lists; the others are reserved. -/
def grantBits : Word := 0x0F07

/-- Word k of a map without its reserved bits, which read 0 (R5, R79, R82). -/
def mapWord (m : List Word) (k : Nat) : Word :=
  if k = 0 then ew m 0 &&& 0xFF03 else if k % 3 = 0 then ew m k &&& grantBits else ew m k

/-- A map as it is stored: LOCKED set, reserved bits 0, the check word computed over what is stored, words 14 and 15 zero. -/
def lockedMap (m : List Word) : List Word :=
  let ws := ((mapWord m 0 ||| 2) :: (List.range 12).map (fun k => mapWord m (k + 1)))
  ws ++ [protCheck ws, 0, 0]

/-- An image's map record is usable: its CRC-16 and its format version (R79). -/
def mapOk (m : List Word) : Bool := protCheck m == ew m 13 && getField (ew m 0) 8 8 == 1

/-- The map to be locked, and whether the closed map stands for a bad one. DEFAULT is 0 in a map that the image carries,
whatever bit 0 of the record says (R79; DEDUCED, log entry 61). -/
def chosenMap (s : State) : List Word × Bool :=
  match s.sys.boot.mapRec with
  | some m => if mapOk m then ((ew m 0 &&& 0xFFFE) :: (m.drop 1).take 12, false) else (closedMap, true)
  | none => (defaultMap, false)

/-- PROTECTION_LOCK (R71, R78). -/
def protectionLock (s : State) : State :=
  if !s.inPhase 6 || s.sys.boot.lockDone then s
  else
    let (m, closed) := chosenMap s
    let s := { s with sys := { s.sys with prot := lockedMap m } }
    let s := modBoot (fun b => { b with lockDone := true, closedMap := closed }) s
    let s := (s.setFlag .SYS_STAT_LOCKED true).setFlag .SYS_BOOTST_DEFMAP s.sys.boot.mapRec.isNone
    let rec_ := s.sys.boot.mapRec.getD []
    let s := if closed then report 2 1 (protCheck rec_).toNat (ew rec_ 13).toNat s else s
    updateLoops (if s.flag .REF_CTRL_BUFEN && !s.isFatal then setPhaseNo 7 s else s)

def execProtectionLock (s : State) : Host.Outcome State Fault Refusal := .next (protectionLock s)

/-! ### Phase 7: reference enable (R71, R294) -/

/-- BOOT_REFERENCE_WAIT (R71): the buffer is turned on; REF_READY sets READY. -/
def bootReferenceWait (s : State) : State :=
  if !s.inPhase 7 || s.sys.boot.refWait then s
  else modBoot (fun b => { b with refWait := true }) ((s.setFlag .REF_STAT_BUFON true).setFlag .SYS_BOOTST_REFW true)

def execBootReferenceWait (s : State) : Host.Outcome State Fault Refusal := .next (bootReferenceWait s)

/-! ### Phase 8: ACTIVE (R71, R86) -/

/-- Phases 6 and 7 have ended; in the fatal state the boot stays in phase 6 (R91). -/
def State.bootEnded (s : State) : Bool :=
  !s.isFatal && s.sys.boot.lockDone && (s.inPhase 6 || (s.inPhase 7 && s.sys.boot.refWait && s.flag .REF_STAT_READY))

/-- The rope starts (R490, R502): ports that did not run through the boot go to DOWN, and a unit with ROLE = HEAD is head,
its UP port OFF. -/
def startRope (s : State) : State :=
  let start := fun (p : Port) (t : State) =>
    if t.link p = linkOff then setLink p linkDown (t.modPort p (fun q => { q with unheard := true })) else t
  let s := start .dn (if s.role = 1 then setLink .up linkOff s else start .up s)
  let s := s.modRope (fun r => { r with headDue := s.role != 1 && s.role != 2 && !s.isHead && !s.isUp .up })
  showHopDelay (if s.role = 1 && !s.isHead then becomeHead s else s)

/-- The leases asked for at ACTIVE (R41, R43, R50, R55). -/
def firstLeases (s : State) : State :=
  let want := excLeaseWant s.activeCfg s.speed
  let s := if 2 ≤ s.profile && 0 < want then requestLease .exc want s else s
  let s := if s.profile = 3 then requestLease .rope 120 s else if s.profile = 2 then requestLease .rope 30 s else s
  if s.flag .PWR_CFG_HSTAUTO && 0 < s.fld .PWR_HOSTP_HOSTP then
    requestLease .host (s.fld .PWR_HOSTP_HOSTP) { s with pwr := { s.pwr with hostAsked := true } }
  else s

/-- The engines begin with initialised states, and the loops in their configured modes, FVTMO running (R401, R435, R445). -/
def startEngines (s : State) : State :=
  let s := forEach 6 initEngine s
  let s := forEach 6 (fun n t => t.modLoop n (fun l => { l with
    mode := t.fld (.LOOP_MODE_MODE n), fvRun := t.fld (.LOOP_MODE_MODE n) == 1, modePend := false })) s
  showCharFb (showEngines s)

/-- The sequencer's slices are powered and every enabled entry is at its enabling instant (R323). -/
def startSequencer (s : State) : State :=
  let s := showRunning (powerSlices { s with sys := { s.sys with slicesOn := true } })
  if s.seqRuns then enableEntries s.entries (oweSetl s.entries s) else s

/-- What holds at once: the energy test of the first profile (R40), the requests that the image loaded into SYS.MODE, and
bivouac for BUDGET in profile NONE (R42). -/
def settleStart (s : State) : State :=
  let s := judgeProfile s
  let s := if s.flag .SYS_MODE_REDREQ then redreqEffect true s else s
  let s := if s.flag .SYS_MODE_BIVREQ then bivreqEffect s else s
  if s.profile = 0 then enterBivouac bivBudget s else s

/-- ENTER_ACTIVE (R71). -/
def enterActive (crystalStable : Bool) (s : State) : State :=
  if !s.bootEnded then s
  else
    let s := (setPhaseNo 8 s).setFld .SYS_STAT_STATE modeActive
    let s := { s with
      sys := { s.sys with crystal := crystalStable, slowClock := s.profile == 1 }
      log := { s.log with buckets := s.log.buckets.map (fun b => { b with tokens := b.depth }) } }
    let s := if crystalStable then s else report 18 0 0 0 s
    let s := forEach 6 showModem (startSequencer (startSync (startAtZero (startEngines s))))
    let s := allDue (startRope (firstLeases s))
    let s := { s with flt := { s.flt with hkaRun := s.hkaEnabled } }
    driveFaultPins (updateLoops (settleStart s))

def execEnterActive (crystalStable : Bool) (s : State) : Host.Outcome State Fault Refusal := .next (enterActive crystalStable s)

end Sys2Proof.Machine
end

