-- ==== Sys2Proof/Machine/Maint.lean ====
section
/-! DEFINITION. Frames that a loop's FSK receiver hears (R458 to R460, R462), and the maintenance commands that the
data-link layer runs itself on the LOOP-MAINTENANCE path (R468). -/

namespace Sys2Proof.Machine

/-! ### Maintenance commands (R468) -/

/-- What ends a maintenance command: the response code of a status, 0 to go on. -/
def maintCode (st : Nat) : Nat := if st &&& stBusy != 0 then 32 else if st &&& stDeny != 0 then 16 else 0

/-- Read n words from an address on, up to the first refused or BUSY: the words, the response code, and the state. -/
def maintRead (p : Path) : Nat → Nat → State → List Word × Nat × State
  | 0, _, s => ([], 0, s)
  | n + 1, a, s =>
    let (r, s) := accessRead p a s
    if maintCode r.status != 0 then ([], maintCode r.status, s)
    else
      let (ws, c, s) := maintRead p n (a + 1) s
      (r.data :: ws, c, s)

/-- Write words from an address on, up to the first refused or BUSY; the fatal state refuses every one. -/
def maintWrite (p : Path) : List Word → Nat → State → Nat × Nat × State
  | [], _, s => (0, 0, s)
  | w :: ws, a, s =>
    let (st, s) := if s.isFatal then (stDeny, s) else accessWrite p a w s
    if maintCode st != 0 then (0, maintCode st, s)
    else
      let (k, c, s) := maintWrite p ws (a + 1) s
      (k + 1, c, s)

/-- Run command 248 or 249: the response code, the response data and the state. -/
def maintRun (n cmd : Nat) (req : List Byte) (s : State) : Nat × List Byte × State :=
  let a := ofBe (req.take 2)
  let count := (req.getD 2 0).toNat
  let words := (List.range count).map (fun i => word (ofBe (slice' req (3 + 2 * i) 2)))
  let need := if cmd = 249 then 3 + 2 * count else 3
  if req.length < need || count < 1 || 16 < count then (5, [], s)
  else if 512 < a + count then (2, beNat 2 a ++ (if cmd = 249 then [0] else []), s)
  else if cmd = 248 then
    let (ws, c, s) := maintRead (.loop n) count a s
    (c, beNat 2 a ++ ws.flatMap (fun w => beNat 2 w.toNat), s)
  else
    let (k, c, s) := maintWrite (.loop n) words a s
    (c, beNat 2 a ++ [byte k], s)

/-! ### Frames in -/

def fskLong (f : FskFrame) : Bool := f.delim == 0x82
def fskBroadcast (f : FskFrame) : Bool := fskLong f && f.addr == 0

/-- The frame is for this loop (R459). -/
def State.fskMine (s : State) (n : Nat) (f : FskFrame) : Bool :=
  if fskLong f then f.addr == 0 || f.addr == s.longAddr n else f.addr == s.pollAddr n

/-- The communication errors of a frame as its answer's first status byte carries them (R460); 0 without one. -/
def fskErrors (f : FskFrame) : Nat :=
  (if f.parityErr then 0x40 else 0) + (if f.overrunErr then 0x20 else 0) + (if f.framingErr then 0x10 else 0)
    + (if f.checkErr then 0x08 else 0) + (if 56 < f.data.length then 0x02 else 0)

/-- Answer a frame at once. -/
def fskAnswer (n : Nat) (f : FskFrame) (code : Nat) (data : List Byte) (s : State) : State :=
  sendFsk n (ackFrame s n (fskLong f) f.master f.addr f.cmd code data) none s

/-- Store a frame in slot k (R462, R470). -/
def storeMessage (n k : Nat) (f : FskFrame) (s : State) : State :=
  let w0 := 8192 * slotReceived + (if f.master then 4096 else 0) + (if fskLong f then 2048 else 0)
    + (if fskBroadcast f then 1024 else 0)
  let s := (List.range 64).foldl (fun t w => setFskW (slotKey n k w) 0 t) s
  let s := setFskW (slotKey n k 1) (word (256 * f.cmd + f.data.length)) (setFskW (slotKey n k 0) (word w0) s)
  let ws := wordsOfBytes f.data
  let s := (List.range ws.length).foldl (fun t i => setFskW (slotKey n k (4 + i)) (ew ws i) t) s
  let s := s.modFsk n (fun c => { c with arrived := c.arrived.filter (fun a => a.1 != k) ++ [(k, s.now)] })
  showQueue n (s.setFlag (.FSK_STAT_RXIRQ n) true)

/-- Queue a frame, or answer it Busy (R462). -/
def queueMessage (n : Nat) (f : FskFrame) (s : State) : State :=
  match (if s.flag (.FSK_CTRL_QEN n) then (List.range 4).find? (fun k => s.slotState n k == slotFree) else none) with
  | some k => storeMessage n k f s
  | none => fskAnswer n f 32 [] (s.setFlag (.FSK_STAT_BUSYR n) true)

/-- A frame for this loop, free of error: a maintenance command runs, any other is queued. -/
def fskTake (n : Nat) (f : FskFrame) (s : State) : State :=
  if s.flag (.FSK_CTRL_MNTEN n) && (f.cmd = 248 || f.cmd = 249) then
    let (c, data, s) := maintRun n f.cmd f.data s
    fskAnswer n f c data (s.setFlag (.FSK_STAT_MNT n) true)
  else queueMessage n f s

/-- A frame is heard (R458 to R460): two preambles at least, STX, and a receiver that is not blanked by its own frame. -/
def fskReceive (n : Nat) (f : FskFrame) (s : State) : State :=
  if !s.modemOn n || s.flag (.FSK_STAT_TXON n) || f.preambles < 2 || !(f.delim = 0x02 || f.delim = 0x82) then s
  else if f.addrErr then s.setFlag (.FSK_STAT_CERR n) true
  else if !s.fskMine n f then s
  else if fskErrors f != 0 then fskAnswer n f (0x80 + fskErrors f) [] (s.setFlag (.FSK_STAT_CERR n) true)
  else fskTake n f s

/-- The parts of a frame fit their bits: a 6-bit or a 38-bit address, byte command and count. -/
def okFsk (f : FskFrame) : Bool :=
  f.delim < 256 && f.cmd < 256 && f.data.length < 256 && f.addr < 274877906944 && (fskLong f || f.addr < 64)

/-- FSK_FRAME_RECEIVE (R458). -/
def execFskFrameReceive (n : Nat) (f : FskFrame) (s : State) : Host.Outcome State Fault Refusal :=
  answerIf (n < 6 && okFsk f) (fskReceive n f s)

/-- A frame to this loop with a maintenance command, as its master sends it. -/
def maintFrame (s : State) (n : Nat) (long master : Bool) (cmd : Nat) (req : List Byte) : FskFrame :=
  ⟨5, if long then 0x82 else 0x02, if long then s.longAddr n else s.pollAddr n, master, cmd, req,
   false, false, false, false, false⟩

/-- READ_WORDS (R468). -/
def execReadWords (n : Nat) (long master : Bool) (req : List Byte) (s : State) : Host.Outcome State Fault Refusal :=
  answerIf (n < 6 && req.length < 256) (fskReceive n (maintFrame s n long master 248 req) s)

/-- WRITE_WORDS (R468). -/
def execWriteWords (n : Nat) (long master : Bool) (req : List Byte) (s : State) : Host.Outcome State Fault Refusal :=
  answerIf (n < 6 && req.length < 256) (fskReceive n (maintFrame s n long master 249 req) s)

end Sys2Proof.Machine
end

