-- ==== Sys2Proof/Machine/Dispatch.lean ====
section
/-! DEFINITION. The dispatch: one arm per command, each a direct call of that command's meaning. -/

namespace Sys2Proof.Machine

/-- The effect of a command on everything but the queue. -/
def exec (i : Instr) (s : State) : Host.Outcome State Fault Refusal :=
  match i with
  | .porAssert => Sys2Proof.Machine.execPorAssert s
  | .porRelease => Sys2Proof.Machine.execPorRelease s
  | .borAssert => Sys2Proof.Machine.execBorAssert s
  | .borRelease => Sys2Proof.Machine.execBorRelease s
  | .xrstAssert widthNs => Sys2Proof.Machine.execXrstAssert widthNs s
  | .xrstRelease => Sys2Proof.Machine.execXrstRelease s
  | .watchdogExpire => Sys2Proof.Machine.execWatchdogExpire s
  | .softwareReset p key => Sys2Proof.Machine.execSoftwareReset p key s
  | .bootOscillator almsel test bands => Sys2Proof.Machine.execBootOscillator almsel test bands s
  | .bootHeaders answers sfdp => Sys2Proof.Machine.execBootHeaders answers sfdp s
  | .bootImageCheck => Sys2Proof.Machine.execBootImageCheck s
  | .bootScan => Sys2Proof.Machine.execBootScan s
  | .bootApply => Sys2Proof.Machine.execBootApply s
  | .protectionLock => Sys2Proof.Machine.execProtectionLock s
  | .bootReferenceWait => Sys2Proof.Machine.execBootReferenceWait s
  | .enterActive crystalStable => Sys2Proof.Machine.execEnterActive crystalStable s
  | .protMapCheck => Sys2Proof.Machine.execProtMapCheck s
  | .leaveHarvest n => Sys2Proof.Machine.execLeaveHarvest n s
  | .liftProbe n level => Sys2Proof.Machine.execLiftProbe n level s
  | .budgetRecompute loopUa => Sys2Proof.Machine.execBudgetRecompute loopUa s
  | .leaseWithdrawDeadline r => Sys2Proof.Machine.execLeaseWithdrawDeadline r s
  | .leaseLevelReached r => Sys2Proof.Machine.execLeaseLevelReached r s
  | .leaseRequest r power => Sys2Proof.Machine.execLeaseRequest r power s
  | .dischargeConverterOn => Sys2Proof.Machine.execDischargeConverterOn s
  | .shedStep surplusUa => Sys2Proof.Machine.execShedStep surplusUa s
  | .shuntFailDetect => Sys2Proof.Machine.execShuntFailDetect s
  | .shedReturn => Sys2Proof.Machine.execShedReturn s
  | .storeMeasurement mv => Sys2Proof.Machine.execStoreMeasurement mv s
  | .powerFail => Sys2Proof.Machine.execPowerFail s
  | .burstRequest r credits => Sys2Proof.Machine.execBurstRequest r credits s
  | .xmemCreditTimeout => Sys2Proof.Machine.execXmemCreditTimeout s
  | .vauxPresent => Sys2Proof.Machine.execVauxPresent s
  | .vauxAbsent => Sys2Proof.Machine.execVauxAbsent s
  | .profileChange => Sys2Proof.Machine.execProfileChange s
  | .hostpWrite p v => Sys2Proof.Machine.execHostpWrite p v s
  | .hostOverdraw hosti => Sys2Proof.Machine.execHostOverdraw hosti s
  | .hostSupplyCut hosti => Sys2Proof.Machine.execHostSupplyCut hosti s
  | .hostSupplyRestore => Sys2Proof.Machine.execHostSupplyRestore s
  | .vddaWarn mv => Sys2Proof.Machine.execVddaWarn mv s
  | .dipRecoveryConfirm => Sys2Proof.Machine.execDipRecoveryConfirm s
  | .setRedreq p => Sys2Proof.Machine.execSetRedreq p s
  | .clearRedreq p => Sys2Proof.Machine.execClearRedreq p s
  | .setBivreq p => Sys2Proof.Machine.execSetBivreq p s
  | .clearBivreq p => Sys2Proof.Machine.execClearBivreq p s
  | .bivouacStandstill => Sys2Proof.Machine.execBivouacStandstill s
  | .bivouacExit c => Sys2Proof.Machine.execBivouacExit c s
  | .bivouacResume => Sys2Proof.Machine.execBivouacResume s
  | .xclrAssert widthNs => Sys2Proof.Machine.execXclrAssert widthNs s
  | .xclrRelease => Sys2Proof.Machine.execXclrRelease s
  | .hostReadFrame f => Sys2Proof.Machine.execHostReadFrame f s
  | .hostWriteFrame f => Sys2Proof.Machine.execHostWriteFrame f s
  | .hostNopFrame crc gapOk => Sys2Proof.Machine.execHostNopFrame crc gapOk s
  | .hostFrameAbort edges => Sys2Proof.Machine.execHostFrameAbort edges s
  | .remoteAccessTimeout => Sys2Proof.Machine.execRemoteAccessTimeout s
  | .registerWrite p a v => Sys2Proof.Machine.execRegisterWrite p a v s
  | .readClear p a => Sys2Proof.Machine.execReadClear p a s
  | .windowSpaceWrite p n v => Sys2Proof.Machine.execWindowSpaceWrite p n v s
  | .windowDataAccess p n w => Sys2Proof.Machine.execWindowDataAccess p n w s
  | .windowIdleClose n => Sys2Proof.Machine.execWindowIdleClose n s
  | .commit p at_ => Sys2Proof.Machine.execCommit p at_ s
  | .check p at_ => Sys2Proof.Machine.execCheck p at_ s
  | .discard p => Sys2Proof.Machine.execDiscard p s
  | .checkListEnd => Sys2Proof.Machine.execCheckListEnd s
  | .commitInstant => Sys2Proof.Machine.execCommitInstant s
  | .bankCopyDone b => Sys2Proof.Machine.execBankCopyDone b s
  | .angleAdvance clocks => Sys2Proof.Machine.execAngleAdvance clocks s
  | .indexEdge e => Sys2Proof.Machine.execIndexEdge e s
  | .toothEdge e => Sys2Proof.Machine.execToothEdge e s
  | .quadCount a b c => Sys2Proof.Machine.execQuadCount a b c s
  | .mainsCrossing => Sys2Proof.Machine.execMainsCrossing s
  | .angleLoss => Sys2Proof.Machine.execAngleLoss s
  | .speedStop => Sys2Proof.Machine.execSpeedStop s
  | .beaconLoss => Sys2Proof.Machine.execBeaconLoss s
  | .beaconSend => Sys2Proof.Machine.execBeaconSend s
  | .beaconReceive b crcOk => Sys2Proof.Machine.execBeaconReceive b crcOk s
  | .beaconApply => Sys2Proof.Machine.execBeaconApply s
  | .timeTrigger e => Sys2Proof.Machine.execTimeTrigger e s
  | .afterTrigger e => Sys2Proof.Machine.execAfterTrigger e s
  | .windowSetup n => Sys2Proof.Machine.execWindowSetup n s
  | .settleEnd n => Sys2Proof.Machine.execSettleEnd n s
  | .timeWindowEnd n => Sys2Proof.Machine.execTimeWindowEnd n s
  | .windowLimit n => Sys2Proof.Machine.execWindowLimit n s
  | .halfWindowExchange n => Sys2Proof.Machine.execHalfWindowExchange n s
  | .resultWrite n m partner => Sys2Proof.Machine.execResultWrite n m partner s
  | .complianceLoss n => Sys2Proof.Machine.execComplianceLoss n s
  | .excOvercurrent n => Sys2Proof.Machine.execExcOvercurrent n s
  | .excApplicationPoint n => Sys2Proof.Machine.execExcApplicationPoint n s
  | .excReconnect n => Sys2Proof.Machine.execExcReconnect n s
  | .sliceForce p n v => Sys2Proof.Machine.execSliceForce p n v s
  | .sliceDirectWrite p v => Sys2Proof.Machine.execSliceDirectWrite p v s
  | .urgentRequest p v => Sys2Proof.Machine.execUrgentRequest p v s
  | .urgentStart => Sys2Proof.Machine.execUrgentStart s
  | .sequencerStart p => Sys2Proof.Machine.execSequencerStart p s
  | .sequencerStop p => Sys2Proof.Machine.execSequencerStop p s
  | .clrcnt p => Sys2Proof.Machine.execClrcnt p s
  | .topoScrub e => Sys2Proof.Machine.execTopoScrub e s
  | .refReady => Sys2Proof.Machine.execRefReady s
  | .refMonitor diffPpm => Sys2Proof.Machine.execRefMonitor diffPpm s
  | .refioRangeError => Sys2Proof.Machine.execRefioRangeError s
  | .calPeriodExpire n => Sys2Proof.Machine.execCalPeriodExpire n s
  | .swingLeadBegin => Sys2Proof.Machine.execSwingLeadBegin s
  | .calibrationComplete passA passB => Sys2Proof.Machine.execCalibrationComplete passA passB s
  | .coefScrub n => Sys2Proof.Machine.execCoefScrub n s
  | .save p => Sys2Proof.Machine.execSave p s
  | .syszero p route slice => Sys2Proof.Machine.execSyszero p route slice s
  | .sysfull p route slice => Sys2Proof.Machine.execSysfull p route slice s
  | .syscalPointDone group1 group2 valid => Sys2Proof.Machine.execSyscalPointDone group1 group2 valid s
  | .now p slice => Sys2Proof.Machine.execNow p slice s
  | .retest p slice => Sys2Proof.Machine.execRetest p slice s
  | .reload p => Sys2Proof.Machine.execReload p s
  | .factory p => Sys2Proof.Machine.execFactory p s
  | .engineCycleStart n => Sys2Proof.Machine.execEngineCycleStart n s
  | .engineCycleEnd n upset differ => Sys2Proof.Machine.execEngineCycleEnd n upset differ s
  | .twinStorageCheck n => Sys2Proof.Machine.execTwinStorageCheck n s
  | .charScrub t => Sys2Proof.Machine.execCharScrub t s
  | .fvtmoExpire n => Sys2Proof.Machine.execFvtmoExpire n s
  | .loopFixedWrite p n v => Sys2Proof.Machine.execLoopFixedWrite p n v s
  | .readbackWindowEnd n rback mean => Sys2Proof.Machine.execReadbackWindowEnd n rback mean s
  | .lowvDetect n => Sys2Proof.Machine.execLowvDetect n s
  | .lowvClear n => Sys2Proof.Machine.execLowvClear n s
  | .lvtmoExpire n => Sys2Proof.Machine.execLvtmoExpire n s
  | .lvalmRetry n => Sys2Proof.Machine.execLvalmRetry n s
  | .fskFrameReceive n f => Sys2Proof.Machine.execFskFrameReceive n f s
  | .fskFrameAbort n => Sys2Proof.Machine.execFskFrameAbort n s
  | .messagePost p n slot => Sys2Proof.Machine.execMessagePost p n slot s
  | .messageDrop p n slot => Sys2Proof.Machine.execMessageDrop p n slot s
  | .responseSent n => Sys2Proof.Machine.execResponseSent n s
  | .messageExpire n slot => Sys2Proof.Machine.execMessageExpire n slot s
  | .burstFrameSend n e => Sys2Proof.Machine.execBurstFrameSend n e s
  | .readWords n long master req => Sys2Proof.Machine.execReadWords n long master req s
  | .writeWords n long master req => Sys2Proof.Machine.execWriteWords n long master req s
  | .linkLoss port => Sys2Proof.Machine.execLinkLoss port s
  | .helloSend port => Sys2Proof.Machine.execHelloSend port s
  | .helloReceive port h => Sys2Proof.Machine.execHelloReceive port h s
  | .linkResetEnd port => Sys2Proof.Machine.execLinkResetEnd port s
  | .frameReceive port bytes violation => Sys2Proof.Machine.execFrameReceive port bytes violation s
  | .frameTransmitStart port => Sys2Proof.Machine.execFrameTransmitStart port s
  | .credit port cvc ccnt sync => Sys2Proof.Machine.execCredit port cvc ccnt sync s
  | .creditReturnTimeout port => Sys2Proof.Machine.execCreditReturnTimeout port s
  | .creditSync port => Sys2Proof.Machine.execCreditSync port s
  | .rd src dst tag addr => Sys2Proof.Machine.execRd src dst tag addr s
  | .wr src dst tag addr data => Sys2Proof.Machine.execWr src dst tag addr data s
  | .rsp src tag status data => Sys2Proof.Machine.execRsp src tag status data s
  | .teamWriteTimeout => Sys2Proof.Machine.execTeamWriteTimeout s
  | .headTakeover => Sys2Proof.Machine.execHeadTakeover s
  | .query src => Sys2Proof.Machine.execQuery src s
  | .report uid present pinned => Sys2Proof.Machine.execReport uid present pinned s
  | .assign src addr hop delay uid => Sys2Proof.Machine.execAssign src addr hop delay uid s
  | .done src dnState => Sys2Proof.Machine.execDone src dnState s
  | .finish => Sys2Proof.Machine.execFinish s
  | .reattach src => Sys2Proof.Machine.execReattach src s
  | .dlyProbe => Sys2Proof.Machine.execDlyProbe s
  | .dlyEcho => Sys2Proof.Machine.execDlyEcho s
  | .dlyEchoReceive rt => Sys2Proof.Machine.execDlyEchoReceive rt s
  | .rst src dst key tag => Sys2Proof.Machine.execRst src dst key tag s
  | .wake src dst tag => Sys2Proof.Machine.execWake src dst tag s
  | .evt src bytes => Sys2Proof.Machine.execEvt src bytes s
  | .define p slot granted answers => Sys2Proof.Machine.execDefine p slot granted answers s
  | .delete p slot => Sys2Proof.Machine.execDelete p slot s
  | .teamRegister id leader uid => Sys2Proof.Machine.execTeamRegister id leader uid s
  | .deregister id leader => Sys2Proof.Machine.execDeregister id leader s
  | .expand src team => Sys2Proof.Machine.execExpand src team s
  | .join src team => Sys2Proof.Machine.execJoin src team s
  | .leave src team => Sys2Proof.Machine.execLeave src team s
  | .teamPoll slot => Sys2Proof.Machine.execTeamPoll slot s
  | .summary slot entry m => Sys2Proof.Machine.execSummary slot entry m s
  | .teamMemberTimeout slot entry => Sys2Proof.Machine.execTeamMemberTimeout slot entry s
  | .teamCommit p team ang4 => Sys2Proof.Machine.execTeamCommit p team ang4 s
  | .cancel p team => Sys2Proof.Machine.execCancel p team s
  | .prepare src team seq a pass vtmo => Sys2Proof.Machine.execPrepare src team seq a pass vtmo s
  | .vote src team seq yes reason => Sys2Proof.Machine.execVote src team seq yes reason s
  | .voteTimeout slot => Sys2Proof.Machine.execVoteTimeout slot s
  | .commitResend slot => Sys2Proof.Machine.execCommitResend slot s
  | .teamOutcome slot => Sys2Proof.Machine.execTeamOutcome slot s
  | .teamCommitReceive src team seq => Sys2Proof.Machine.execTeamCommitReceive src team seq s
  | .abort src team seq => Sys2Proof.Machine.execAbort src team seq s
  | .cack src team seq late => Sys2Proof.Machine.execCack src team seq late s
  | .prepareTimeout => Sys2Proof.Machine.execPrepareTimeout s
  | .data src bytes => Sys2Proof.Machine.execData src bytes s
  | .frameItemTake => Sys2Proof.Machine.execFrameItemTake s
  | .frameAgeClose => Sys2Proof.Machine.execFrameAgeClose s
  | .arm p => Sys2Proof.Machine.execArm p s
  | .trigger p => Sys2Proof.Machine.execTrigger p s
  | .stop p => Sys2Proof.Machine.execStop p s
  | .xferCtrlWrite p v => Sys2Proof.Machine.execXferCtrlWrite p v s
  | .xmemOpStart => Sys2Proof.Machine.execXmemOpStart s
  | .xmemOpComplete => Sys2Proof.Machine.execXmemOpComplete s
  | .xmemContinuation => Sys2Proof.Machine.execXmemContinuation s
  | .xmemTimeout => Sys2Proof.Machine.execXmemTimeout s
  | .pullRead p => Sys2Proof.Machine.execPullRead p s
  | .read p addr n => Sys2Proof.Machine.execRead p addr n s
  | .write p addr words => Sys2Proof.Machine.execWrite p addr words s
  | .eraseSector p addr => Sys2Proof.Machine.execEraseSector p addr s
  | .flashOpStart => Sys2Proof.Machine.execFlashOpStart s
  | .flashOpComplete ok => Sys2Proof.Machine.execFlashOpComplete ok s
  | .nvmAddrWrite p v => Sys2Proof.Machine.execNvmAddrWrite p v s
  | .nvmDataAccess p w => Sys2Proof.Machine.execNvmDataAccess p w s
  | .nvmKeyWrite p v => Sys2Proof.Machine.execNvmKeyWrite p v s
  | .prog p => Sys2Proof.Machine.execProg p s
  | .erase p => Sys2Proof.Machine.execErase p s
  | .jread p => Sys2Proof.Machine.execJread p s
  | .jwrite p len => Sys2Proof.Machine.execJwrite p len s
  | .lsave p arg => Sys2Proof.Machine.execLsave p arg s
  | .cinc p arg => Sys2Proof.Machine.execCinc p arg s
  | .operatingTimeTick => Sys2Proof.Machine.execOperatingTimeTick s
  | .bucketRefill g => Sys2Proof.Machine.execBucketRefill g s
  | .logSeqRead p => Sys2Proof.Machine.execLogSeqRead p s
  | .logWinLatch p => Sys2Proof.Machine.execLogWinLatch p s
  | .logChalRead p => Sys2Proof.Machine.execLogChalRead p s
  | .challengeExpire => Sys2Proof.Machine.execChallengeExpire s
  | .logClrSubmit p token => Sys2Proof.Machine.execLogClrSubmit p token s
  | .clearLockoutEnd => Sys2Proof.Machine.execClearLockoutEnd s
  | .belayReport src param p2 p3 => Sys2Proof.Machine.execBelayReport src param p2 p3 s
  | .collectorIdle => Sys2Proof.Machine.execCollectorIdle s
  | .wireFault src high => Sys2Proof.Machine.execWireFault src high s
  | .levelRepeat src => Sys2Proof.Machine.execLevelRepeat src s
  | .crystalStop => Sys2Proof.Machine.execCrystalStop s
  | .clear p => Sys2Proof.Machine.execClear p s
  | .clearall p => Sys2Proof.Machine.execClearall p s
  | .kick p => Sys2Proof.Machine.execKick p s
  | .hostKeepaliveExpire => Sys2Proof.Machine.execHostKeepaliveExpire s
  | .injectionArm p => Sys2Proof.Machine.execInjectionArm p s
  | .faultInject p v => Sys2Proof.Machine.execFaultInject p v s
  | .thermalSample t0 t1 t2 t3 => Sys2Proof.Machine.execThermalSample t0 t1 t2 t3 s
  | .graceExpire => Sys2Proof.Machine.execGraceExpire s
  | .thermalRelease => Sys2Proof.Machine.execThermalRelease s
  | .linkSignal port => Sys2Proof.Machine.execLinkSignal port s
  | .vddaRecoveryRise minMv => Sys2Proof.Machine.execVddaRecoveryRise minMv s
  | .carrierDetect n on => Sys2Proof.Machine.execCarrierDetect n on s
  | .frameTransmitEnd port => Sys2Proof.Machine.execFrameTransmitEnd port s
  | .hcsRise => Sys2Proof.Machine.execHcsRise s
  | .probeTmaxExpire => Sys2Proof.Machine.execProbeTmaxExpire s
  | .minimumWindowEnd n => Sys2Proof.Machine.execMinimumWindowEnd n s

end Sys2Proof.Machine
end

