-- ==== Sys2Proof/Safety.lean ====
section
/-! DEFINITION. What claims are stated in: a command that runs to a next state, the frames (which register words, which
part of the state and which bytes of the memories a command may change), and the invariant of the machine. -/

namespace Sys2Proof.Machine

/-! ### Outcomes -/

/-- The command answers a next state, of which P holds. -/
def Runs (c : Instr) (s : State) (P : State → Prop) : Prop := ∃ t, exec c s = .next t ∧ P t

/-! ### Frames -/

/-- A whole register word as a field. -/
abbrev wholeReg (a : Nat) : Fld := ⟨a, 0, 16⟩

/-- The two words of a 32-bit register as fields. -/
abbrev wholeReg32 (a : Nat) : List Fld := [wholeReg a, wholeReg (a + 1)]

/-- Bit n of a field that holds one bit per unit. -/
abbrev Fld.bit (f : Fld) (n : Nat) : Fld := ⟨f.addr, f.lo + n, 1⟩

/-- Every bit of every register word that lies in none of the fields listed reads as before. -/
def FieldsKept (fs : List Fld) (s t : State) : Prop :=
  ∀ a i, (∀ f ∈ fs, f.addr = a → i < f.lo ∨ f.lo + f.width ≤ i) → (t.reg a).getLsbD i = (s.reg a).getLsbD i

/-- Every register word outside the blocks listed (R80) reads as before. -/
def BlocksKept (bs : List Nat) (s t : State) : Prop := ∀ a, blockOf a ∉ bs → t.reg a = s.reg a

/-- The fields that a computation of the budget shows (R38, R53, R58 to R62). -/
def budgetFields : List Fld :=
  [wholeReg Reg.PWR_GUAR, wholeReg Reg.PWR_AVAIL, wholeReg Reg.PWR_FREE, wholeReg Reg.PWR_LOAD, .PWR_PROFILE_NHARV,
   .PWR_STAT_CHG, .PWR_STAT_SHEXT]

/-- A byte of the external memory. -/
def State.memByte (s : State) (a : Nat) : Byte := readAt erasedByte s.xfer.mem a

/-- A byte of the capture RAM. -/
def State.captureByte (s : State) (a : Nat) : Byte := readAt ramByte s.xfer.ram a

/-- Every byte of the on-chip store, of the external memory and of the capture RAM reads as before. -/
def MemKept (s t : State) : Prop :=
  (∀ a, t.storeByte a = s.storeByte a) ∧ (∀ a, t.memByte a = s.memByte a) ∧ (∀ a, t.captureByte a = s.captureByte a)

/-! ### Gates of an access -/

/-- A path's write of a register without a gate that stops it: the access is served, the path may write the block, the
block is not in the fatal state, and the register has neither a locked field nor a staged one held by a check. -/
def Admits (p : Path) (a : Nat) (s : State) : Prop :=
  s.served = true ∧ s.mayWrite p (blockOf a) = true ∧ s.isFatal = false ∧ lockedReg a = false ∧
    (stMask a = 0 ∨ s.stagedBusy = false) ∧ s.flt.injPath ≠ some p

/-- The registers whose write does more than R9 says, apart from the wider quantities, the windows, and the direct and
fixed-current registers of the units. -/
def actingRegs : List Nat :=
  [Reg.SYS_MODE, Reg.SYS_RST, Reg.PWR_HOSTP, Reg.PWR_VT, Reg.SEQ_CTRL, Reg.SEQ_URG, Reg.SLC_DIRECT, Reg.CAL_CTRL,
   Reg.STG_CTRL, Reg.STG_VIEW, Reg.ROPE_CMT, Reg.XMEM_CLK, Reg.XFER_CTRL, Reg.XFER_RING, Reg.XFER_CAP, Reg.XFER_PULL,
   Reg.NVM_ADDR, Reg.NVM_DATA, Reg.NVM_CTRL, Reg.NVM_KEY, Reg.LOG_CURSOR, Reg.FLT_STAT, Reg.FLT_CLR, Reg.FLT_INJ]

/-- A register of live fields whose write does what R9 says and no more. -/
def plainlyWritten (a : Nat) : Bool :=
  !actingRegs.contains a && regQWord a == none && windowReg a == none && forceSlice a == none && fixedLoop a == none
    && stMask a == 0

/-- The registers whose read does more than R9 says, or that show a path its own value. -/
def showingRegs : List Nat :=
  [Reg.STG_VIEW, Reg.LOG_CURSOR, Reg.LOG_SNAP, Reg.LOG_CLRST, Reg.LOG_SEQ, Reg.ROPE_UP, Reg.ROPE_DN, Reg.NVM_DATA,
   Reg.XFER_PULL, Reg.THM_MAX]

/-- A register whose read returns its word and does what R9 says. -/
def plainlyRead (a : Nat) : Bool :=
  !showingRegs.contains a && regQWord a == none && windowReg a == none && !(Reg.LOG_WIN ≤ a && a < Reg.LOG_WIN + 16)
    && stMask a == 0

/-- The word that a write leaves in a register under the access codes of R9: RW bits take the value, W1C bits written 1
clear, and every other bit stays. -/
def writtenWord (a : Nat) (old v : Word) : Word :=
  ((old &&& ~~~(word (regInfo a).rw)) ||| (v &&& word (regInfo a).rw)) &&& ~~~(v &&& word (regInfo a).w1c)

/-- A path's read of a register without a gate that stops it. -/
def AdmitsRead (p : Path) (a : Nat) (s : State) : Prop :=
  s.served = true ∧ (alwaysReadable a = true ∨ s.mayRead p (blockOf a) = true)

/-- A path's write of a word of a table space without a gate that stops it (R84, R125, R143, R651). -/
def AdmitsTable (p : Path) (sp : Nat) (s : State) : Prop :=
  s.served = true ∧ s.mayWrite p (spaceBlock sp) = true ∧ s.isFatal = false ∧ s.flt.injPath ≠ some p

/-! ### Loops -/

/-- LOOP[n] shows the first row of R444 whose condition holds: SRC, ALMC, the direction and the code driven. -/
def LoopShows (n : Nat) (t : State) : Prop :=
  t.fld (.LOOP_STAT_SRC n) = (loopRow t n).1 ∧ t.fld (.LOOP_STAT_ALMC n) = (loopRow t n).2.1 ∧
  t.fld (.LOOP_STAT_ALMDIR n) = t.almDir n ∧ t.regN (Reg.LOOP_DAC n) = (loopRow t n).2.2 % 65536

/-- The fields that a re-evaluation of R444 on loop n may change. -/
def loopFields (n : Nat) : List Fld :=
  [.LOOP_STAT_SRC n, .LOOP_STAT_ALMC n, .LOOP_STAT_ALMDIR n, .LOOP_STAT_EVT n, wholeReg (Reg.LOOP_DAC n)]

/-! ### Reports to the belay collector -/

/-- The collector accepts a report of a source: it is idle, it watches, and the source's pair is not ignored (R637, R638,
R642). -/
def Watches (src : Nat) (s : State) : Prop := s.flt.busy = false ∧ 1 < s.phase ∧ s.flt.ignored.contains src = false

/-- A report was accepted between two states (R641, R643, R644, R646): the source is active, the first of all is kept,
the worst class, NEW and FLTH follow the class. -/
def Reported (src param cls : Nat) (s t : State) : Prop :=
  t.flt.busy = true ∧ t.fldBit ⟨Reg.FLT_ACT + src / 16, 0, 16⟩ (src % 16) = true ∧
  (s.reg32 Reg.FLT_FIRST = 0 → t.reg32 Reg.FLT_FIRST = src + 256 * (param % 256) + 65536 * cls) ∧
  (s.reg32 Reg.FLT_FIRST ≠ 0 → t.reg32 Reg.FLT_FIRST = s.reg32 Reg.FLT_FIRST ∧ t.flag .FLT_STAT_OVF = true) ∧
  t.fld .FLT_STAT_WCLASS = max (s.fld .FLT_STAT_WCLASS) (wclassOf cls) ∧
  (clsU ≤ cls → t.flag .FLT_STAT_NEW = true ∧ t.flag .FLT_STAT_FLTHS = true)

/-- The blocks that a report may change beside its reporter's: the belay registers, the transfer engine (a capture
triggered by the record), the counters bound to the record, and the log. -/
def reportBlocks : List Nat := [2, 9, 10, 11]

/-! ### Windows and results -/

/-- The window w of slice n, which holds no burst and runs unpaired, has ended between two states: it waits for its end
phase, the drive connections that the next window does not keep are open, and every other slice is as before. -/
def WindowEnded (n : Nat) (w : Window) (s t : State) : Prop :=
  (t.slice n).win = none ∧ (t.slice n).ended = (s.slice n).ended ++ [w] ∧
  (t.slice n).off = ((s.slice n).off || (s.slice n).offPend) ∧ (∀ m, m ≠ n → t.slice m = s.slice m) ∧
  t.conns.all (fun c => !(c.owner == n && decide (4 ≤ c.role)) || (keptConns n s).contains c) = true ∧
  FieldsKept [Fld.SLC_BUSY_BUSY.bit n, .REF_STAT_BUFON] s t ∧
  t = { s with regs := t.regs, conns := t.conns, slices := t.slices }

/-- A result register holds a value and a status byte (R285, R286). -/
def Shows (reg : Nat) (value : Int) (status : Nat) (t : State) : Prop :=
  t.resultWord reg 0 = (resultWords value status).1 ∧ t.resultWord reg 1 = (resultWords value status).2

/-- A window on a slice that drives no excitation output and, where it needs the internal reference, finds it ready. -/
def StartsFree (n : Nat) (w : Window) (s : State) : Prop :=
  (s.slice n).off = false ∧ (needsRef w.route = false ∨ s.flag .REF_STAT_READY = true) ∧
  (List.range 4).all (fun k => !w.uses k) = true ∧ s.partnerOf n = none

/-- What a window that starts free holds on its slice: its occurrence, words, gain, phase, trims and supply mark
(R276, R353). -/
def Started (n : Nat) (w : Window) (s t : State) : Prop :=
  (t.slice n).win.any (fun v => v.occ == w.occ && v.topo == w.topo && v.route == w.route && v.gain == w.gain
    && v.cycles == w.cycles && v.ticks == w.ticks && v.angleWin == w.angleWin && v.supd == s.warn
    && v.phase == (if windowDiffers (s.slice n) w then 2 else 1)
    && (v.ofs, v.gn) == (loadTrims n w.gain w.routeIdx (rDiag w.route) s).1) = true

/-! ### Engine cycles -/

/-- The datapaths agree at the end of engine n's cycle (R432): the DAC codes differ by 1 at most and the states are the same,
with datapath B's as a fault that has struck it leaves them. -/
def CycleAgrees (n : Nat) (upset : Option Nat) (differ : Bool) (o oB : CycleOut) (s : State) : Prop :=
  let r := s.cycleEnds n o oB
  let code := upset.getD r.2.core.dac
  max r.1.core.dac code - min r.1.core.dac code ≤ 1 ∧ r.1.states = r.2.states ∧ differ = false

/-! ### Team commits -/

/-- The commit led in slot k has ended between two states (R519, R522): its outcome and cause, the MISSING mask and DONE
show it, ROPE.CSTAT does where it describes that team, and no other slot's commit has changed. -/
def LeadEnded (k outcome cause missing : Nat) (s t : State) : Prop :=
  (t.lead k).phase = 0 ∧ (t.lead k).outcome = outcome ∧ (t.lead k).cause = cause ∧
  t.teamMask k 0 6 = missing % 4294967296 ∧ t.flag .ROPE_CSTAT_DONE = true ∧
  (s.fld .ROPE_CSTAT_TEAM = (s.lead k).team →
    t.fld .ROPE_CSTAT_STATE = 0 ∧ t.fld .ROPE_CSTAT_OUTCOME = outcome ∧ t.fld .ROPE_CSTAT_CAUSE = cause) ∧
  (∀ j, j ≠ k → t.lead j = s.lead j)

/-! ### The invariant -/

/-- The byte memories are in their canonical form. -/
def Memory.wf (m : List Host.Cell) (d : Nat → Byte) : Bool := canonical d m

/-- Every sparse memory of the state is in its canonical form. -/
def State.memoriesWf (s : State) : Bool :=
  canonical regReset s.regs && Memory.wf s.nvm.store erasedByte && Memory.wf s.xfer.mem erasedByte
    && Memory.wf s.xfer.ram ramByte

end Sys2Proof.Machine
end

