-- ==== Sys2Proof/WellFormed.lean ====
section
/-! DEFINITION. The well-formed commands: those whose operands name units, registers and values that the block has. A
command that is not well-formed cannot be sent, and its meaning faults (log entry 7). -/

namespace Sys2Proof

/-- A value of so many bits. -/
def fits (bits v : Nat) : Bool := v < 2 ^ bits

/-- One of the six loop ports. -/
def isLoop (n : Nat) : Bool := n < 6

/-- One of the twelve slices and the swing slice. -/
def isSlice (n : Nat) : Bool := n < 13

/-- A path of R136: a rope source is 5 bits, a maintenance channel one of six. -/
def isPath : Path → Bool
  | .host => true
  | .rope src => src < 32
  | .loop ch => ch < 6
  | .engine => true

/-- A word written, or none for a read. -/
def isDatum : Option Nat → Bool
  | some v => fits 16 v
  | none => true

/-- A requester of a lease (R47). -/
def takesLease : Requester → Bool
  | .exc => true
  | .host => true
  | .rope => true
  | .nvm => false
  | .xmem => false

/-- A requester of burst credits (R44). -/
def takesCredits : Requester → Bool
  | .nvm => true
  | .exc => true
  | .xmem => true
  | .host => false
  | .rope => false

/-- Six band codes of 0 to 2, two bits each (R54). -/
def isBands (b : Nat) : Bool := fits 12 b && [0, 1, 2, 3, 4, 5].all (fun n => b / 4 ^ n % 4 != 3)

/-- SFDP values that a flash can give (R556). -/
def isSfdp (d : Sfdp) : Bool := fits 32 d.size && fits 8 d.eraseOp && 1 ≤ d.clockMhz && 1 ≤ d.page && d.readMode < 3

/-- The fields of a host frame within their widths (R119). -/
def isFrame (f : HostFrame) : Bool := fits 5 f.unit && fits 9 f.addr && fits 16 f.data && fits 8 f.crc

/-- An FSK frame (R458): a short address is 6 bits, a long one 38. -/
def isFskFrame (f : FskFrame) : Bool :=
  fits 8 f.delim && fits 8 f.cmd && f.data.length < 256 && fits 38 f.addr && (f.delim == 0x82 || fits 6 f.addr)

/-- Overload runs of R242: the runs at the two ends are no longer than the longest. -/
def isReading (m : Reading) : Bool := m.overHead ≤ m.overMax && m.overTail ≤ m.overMax

/-- A trim code of 14 bits (R352). -/
def isTrim (v : Int) : Bool := -8192 ≤ v && v ≤ 8191

/-- A conversion result of 24 bits (R285). -/
def isResult (v : Int) : Bool := -8388608 ≤ v && v ≤ 8388607

/-- A unit address as a frame's source or destination: 0 for a unit without one, 1 to 30 (R492). -/
def isUnit (n : Nat) : Bool := n < 31

/-- An assigned unit or team address, 1 to 30 (R503, R512). -/
def isAddress (n : Nat) : Bool := 1 ≤ n && n ≤ 30

/-- The fields of a SUMMARY within their widths (R513). -/
def isSummary (m : Summary) : Bool :=
  fits 64 m.uid && fits 2 m.wclass && fits 16 m.health && fits 16 m.avloss && fits 32 m.units && fits 32 m.closure

/-- A belay source with report wires (R638). -/
def isSource (src : Nat) : Bool := 1 ≤ src && src ≤ 20

/-- A temperature reading of 16 bits (R654). -/
def isTemperature (t : Int) : Bool := -32768 ≤ t && t ≤ 32767

/-- The command's operands are in range. -/
def Instr.wellFormed : Instr → Bool
  | .porAssert => true
  | .porRelease => true
  | .borAssert => true
  | .borRelease => true
  | .xrstAssert _ => true
  | .xrstRelease => true
  | .watchdogExpire => true
  | .softwareReset p key => isPath p && fits 16 key
  | .bootOscillator _ _ bands => isBands bands
  | .bootHeaders _ sfdp => match sfdp with | some d => isSfdp d | none => true
  | .bootImageCheck => true
  | .bootScan => true
  | .bootApply => true
  | .protectionLock => true
  | .bootReferenceWait => true
  | .enterActive _ => true
  | .protMapCheck => true
  | .leaveHarvest n => isLoop n
  | .liftProbe n level => isLoop n && level ≤ 780
  | .budgetRecompute loopUa => loopUa.length = 6
  | .leaseWithdrawDeadline r => takesLease r
  | .leaseLevelReached r => takesLease r
  | .leaseRequest r _ => takesLease r
  | .dischargeConverterOn => true
  | .shedStep _ => true
  | .shuntFailDetect => true
  | .shedReturn => true
  | .storeMeasurement mv => fits 16 mv
  | .powerFail => true
  | .burstRequest r _ => takesCredits r
  | .xmemCreditTimeout => true
  | .vauxPresent => true
  | .vauxAbsent => true
  | .profileChange => true
  | .hostpWrite p v => isPath p && fits 16 v
  | .hostOverdraw hosti => fits 16 hosti
  | .hostSupplyCut hosti => fits 16 hosti
  | .hostSupplyRestore => true
  | .vddaWarn mv => fits 16 mv
  | .dipRecoveryConfirm => true
  | .setRedreq p => isPath p
  | .clearRedreq p => isPath p
  | .setBivreq p => isPath p
  | .clearBivreq p => isPath p
  | .bivouacStandstill => true
  | .bivouacExit _ => true
  | .bivouacResume => true
  | .xclrAssert _ => true
  | .xclrRelease => true
  | .hostReadFrame f => isFrame f
  | .hostWriteFrame f => isFrame f
  | .hostNopFrame crc _ => fits 8 crc
  | .hostFrameAbort edges => edges % 40 != 0
  | .remoteAccessTimeout => true
  | .registerWrite p a v => isPath p && a < 512 && fits 16 v
  | .readClear p a => isPath p && a < 512
  | .windowSpaceWrite p n v => isPath p && n < 4 && fits 16 v
  | .windowDataAccess p n w => isPath p && n < 4 && isDatum w
  | .windowIdleClose n => n < 4
  | .commit p at_ => isPath p && fits 3 at_
  | .check p at_ => isPath p && fits 3 at_
  | .discard p => isPath p
  | .checkListEnd => true
  | .commitInstant => true
  | .bankCopyDone _ => true
  | .angleAdvance _ => true
  | .indexEdge _ => true
  | .toothEdge _ => true
  | .quadCount _ _ _ => true
  | .mainsCrossing => true
  | .angleLoss => true
  | .speedStop => true
  | .beaconLoss => true
  | .beaconSend => true
  | .beaconReceive b _ => fits 8 b.seq && fits 16 b.pos && fits 32 b.speed && fits 32 b.pass
  | .beaconApply => true
  | .timeTrigger e => e < 256
  | .afterTrigger e => e < 256
  | .windowSetup n => isSlice n
  | .settleEnd n => isSlice n
  | .timeWindowEnd n => isSlice n
  | .windowLimit n => isSlice n
  | .halfWindowExchange n => isSlice n
  | .resultWrite n m partner => isSlice n && isReading m && (match partner with | some r => isReading r | none => true)
  | .complianceLoss n => n < 4
  | .excOvercurrent n => n < 4
  | .excApplicationPoint n => n < 4
  | .excReconnect n => n < 4
  | .sliceForce p n v => isPath p && isSlice n && fits 16 v
  | .sliceDirectWrite p v => isPath p && fits 16 v
  | .urgentRequest p v => isPath p && fits 16 v
  | .urgentStart => true
  | .sequencerStart p => isPath p
  | .sequencerStop p => isPath p
  | .clrcnt p => isPath p
  | .topoScrub e => e < 256
  | .refReady => true
  | .refMonitor _ => true
  | .refioRangeError => true
  | .calPeriodExpire n => isSlice n
  | .swingLeadBegin => true
  | .calibrationComplete passA passB => passA.length = 8 && passB.length = 8 && (passA ++ passB).all (fun c => isResult c.1 && isResult c.2)
  | .coefScrub i => i < 168
  | .save p => isPath p
  | .syszero p route slice => isPath p && route < 64 && fits 4 slice
  | .sysfull p route slice => isPath p && route < 64 && fits 4 slice
  | .syscalPointDone group1 group2 _ => group1.length = 16 && group2.length = 16 && (group1 ++ group2).all isResult
  | .now p slice => isPath p && fits 4 slice
  | .retest p slice => isPath p && fits 4 slice
  | .reload p => isPath p
  | .factory p => isPath p
  | .engineCycleStart n => isLoop n
  | .engineCycleEnd n upset _ => isLoop n && upset.all (fits 16)
  | .twinStorageCheck n => isLoop n
  | .charScrub t => t < 12
  | .fvtmoExpire n => isLoop n
  | .loopFixedWrite p n v => isPath p && isLoop n && fits 16 v
  | .readbackWindowEnd n rback mean => isLoop n && fits 16 rback && fits 16 mean
  | .lowvDetect n => isLoop n
  | .lowvClear n => isLoop n
  | .lvtmoExpire n => isLoop n
  | .lvalmRetry n => isLoop n
  | .fskFrameReceive n f => isLoop n && isFskFrame f
  | .fskFrameAbort n => isLoop n
  | .messagePost p n slot => isPath p && isLoop n && slot < 4
  | .messageDrop p n slot => isPath p && isLoop n && slot < 4
  | .responseSent n => isLoop n
  | .messageExpire n slot => isLoop n && slot < 4
  | .burstFrameSend n e => isLoop n && e < 3
  | .readWords n _ _ req => isLoop n && req.length < 256
  | .writeWords n _ _ req => isLoop n && req.length < 256
  | .linkLoss _ => true
  | .helloSend _ => true
  | .helloReceive _ h => fits 64 h.uid && h.addr < 32 && h.pinned < 32
  | .linkResetEnd _ => true
  | .frameReceive _ _ _ => true
  | .frameTransmitStart _ => true
  | .credit _ cvc ccnt sync => cvc < 4 && ccnt < 64 && (sync.isEmpty || (sync.length == 4 && sync.all (fits 8)))
  | .creditReturnTimeout _ => true
  | .creditSync _ => true
  | .rd src dst tag addr => isUnit src && isUnit dst && fits 8 tag && fits 9 addr
  | .wr src dst tag addr word => isUnit src && fits 5 dst && fits 8 tag && fits 9 addr && fits 16 word
  | .rsp src tag status word => fits 5 src && fits 8 tag && fits 8 status && fits 16 word
  | .teamWriteTimeout => true
  | .headTakeover => true
  | .query src => fits 5 src
  | .report uid present pinned => fits 64 uid && fits 5 present && fits 5 pinned
  | .assign src addr hop delay uid => fits 5 src && isAddress addr && fits 5 hop && fits 16 delay && fits 64 uid
  | .done src dnState => fits 5 src && dnState < 4
  | .finish => true
  | .reattach src => fits 5 src
  | .dlyProbe => true
  | .dlyEcho => true
  | .dlyEchoReceive _ => true
  | .rst src dst key tag => isUnit src && isUnit dst && fits 16 key && fits 8 tag
  | .wake src dst tag => isUnit src && isUnit dst && fits 8 tag
  | .evt src bytes => fits 5 src && bytes.length == 28
  | .define p slot _ _ => isPath p && slot < 4
  | .delete p slot => isPath p && slot < 4
  | .teamRegister id leader uid => isAddress id && isUnit leader && fits 64 uid
  | .deregister id leader => isAddress id && isUnit leader
  | .expand src team => isUnit src && isAddress team
  | .join src team => isUnit src && isAddress team
  | .leave src team => isUnit src && isAddress team
  | .teamPoll slot => slot < 4
  | .summary slot entry m => slot < 4 && isAddress entry && isSummary m
  | .teamMemberTimeout slot entry => slot < 4 && isAddress entry
  | .teamCommit p team ang4 => isPath p && isAddress team && fits 14 ang4
  | .cancel p team => isPath p && isAddress team
  | .prepare src team seq a pass vtmo => isUnit src && isAddress team && fits 8 seq && fits 16 a && fits 16 pass && fits 8 vtmo
  | .vote src team seq _ reason => isUnit src && isAddress team && fits 8 seq && fits 8 reason
  | .voteTimeout slot => slot < 4
  | .commitResend slot => slot < 4
  | .teamOutcome slot => slot < 4
  | .teamCommitReceive src team seq => isUnit src && isAddress team && fits 8 seq
  | .abort src team seq => isUnit src && isAddress team && fits 8 seq
  | .cack src team seq _ => isUnit src && isAddress team && fits 8 seq
  | .prepareTimeout => true
  | .data src bytes => fits 5 src && bytes.length ≤ 64
  | .frameItemTake => true
  | .frameAgeClose => true
  | .arm p => isPath p
  | .trigger p => isPath p
  | .stop p => isPath p
  | .xferCtrlWrite p v => isPath p && fits 16 v
  | .xmemOpStart => true
  | .xmemOpComplete => true
  | .xmemContinuation => true
  | .xmemTimeout => true
  | .pullRead p => isPath p
  | .read p addr n => isPath p && fits 32 addr && n < 256
  | .write p addr words => isPath p && fits 32 addr && words.length < 256 && words.all (fits 16)
  | .eraseSector p addr => isPath p && fits 32 addr
  | .flashOpStart => true
  | .flashOpComplete _ => true
  | .nvmAddrWrite p v => isPath p && fits 16 v
  | .nvmDataAccess p w => isPath p && isDatum w
  | .nvmKeyWrite p v => isPath p && fits 16 v
  | .prog p => isPath p
  | .erase p => isPath p
  | .jread p => isPath p
  | .jwrite p len => isPath p && len < 32
  | .lsave p arg => isPath p && fits 4 arg
  | .cinc p arg => isPath p && fits 4 arg
  | .operatingTimeTick => true
  | .bucketRefill g => fits 5 g
  | .logSeqRead p => isPath p
  | .logWinLatch p => isPath p
  | .logChalRead p => isPath p
  | .challengeExpire => true
  | .logClrSubmit p token => isPath p && fits 64 token
  | .clearLockoutEnd => true
  | .belayReport src param p2 _ => isSource src && fits 8 param && fits 16 p2
  | .collectorIdle => true
  | .wireFault src _ => isSource src
  | .levelRepeat src => [1, 2, 9, 16, 17, 19, 21].contains src
  | .crystalStop => true
  | .clear p => isPath p
  | .clearall p => isPath p
  | .kick p => isPath p
  | .hostKeepaliveExpire => true
  | .injectionArm p => isPath p
  | .faultInject p v => isPath p && fits 16 v
  | .thermalSample t0 t1 t2 t3 => [t0, t1, t2, t3].all isTemperature
  | .graceExpire => true
  | .thermalRelease => true
  | .linkSignal _ => true
  | .vddaRecoveryRise minMv => fits 16 minMv
  | .carrierDetect n _ => isLoop n
  | .frameTransmitEnd _ => true
  | .hcsRise => true
  | .probeTmaxExpire => true
  | .minimumWindowEnd n => isSlice n

end Sys2Proof
end

