-- ==== Sys2Proof/Certificates/Slice0/Obligations.lean ====
section
/-! DEFINITION. The statements for the provers: what each command does and leaves alone, when it runs to a next state, and
what holds of the whole machine. -/

open Sys2Proof Sys2Proof.Machine

/-! ### Living on six loops (02) -/

/-- LEAVE_HARVEST and LIFT_PROBE (R28, R54, R67): the loop's band, its estimate, and nothing else. -/
def Obligations.LoopBandsMove : Prop :=
  (∀ (n : Nat) (s : State), n < 6 → n < s.pwr.vt.length → s.fld (bandFld n) = bandHarvest →
    Runs (.leaveHarvest n) s (fun t =>
      t.fld (bandFld n) = bandBypass ∧ (s.fld .PWR_VT_LSEL = n → t.fld .PWR_VT_VT = 200) ∧
      FieldsKept [bandFld n, .PWR_VT_VT] s t ∧
      t = { s with regs := t.regs, pwr := { s.pwr with vt := s.pwr.vt.set n 200 } })) ∧
  (∀ (n level : Nat) (s : State), n < 6 → n < s.pwr.vt.length → level < 780 → s.fld (bandFld n) = bandBypass →
    Runs (.liftProbe n level) s (fun t =>
      (s.fld .PWR_VT_LSEL = n → t.fld .PWR_VT_VT = max 200 level) ∧ FieldsKept [.PWR_VT_VT] s t ∧
      t = { s with regs := t.regs, pwr := { s.pwr with vt := s.pwr.vt.set n (max 200 level) } })) ∧
  (∀ (n : Nat) (s : State), n < 6 → n < s.pwr.vt.length → s.fld (bandFld n) = bandBypass →
    Runs (.liftProbe n 780) s (fun t =>
      t.fld (bandFld n) = bandHarvest ∧ (s.fld .PWR_VT_LSEL = n → t.fld .PWR_VT_VT = 780) ∧
      FieldsKept [bandFld n, .PWR_VT_VT] s t ∧
      t = { s with regs := t.regs, pwr := { s.pwr with vt := s.pwr.vt.set n 780 },
                   sys := { s.sys with bleed := false } }))

/-- LEASE_REQUEST, LEASE_LEVEL_REACHED and LEASE_WITHDRAW_DEADLINE (R47, R48, R50), on an empty waiting list: a
request that the guaranteed budget covers is granted whole from it, one that it covers in part takes the rest from the
opportunistic power with its cover, and one that neither covers waits; a consumer at its fallback level gives up what it held
and its lease waits again, and one that holds no withdrawn lease, or a host that still draws above its level, changes nothing.
The model's own readings: log entry 22. -/
def Obligations.LeasesAreGrantedAndReturned : Prop :=
  (∀ (r : Requester) (power : Nat) (s : State), takesLease r = true → s.sys.held = false → s.pwr.waiting = [] →
      leaseAllowed s.profile r = true → power ≤ guarLeft s r →
    Runs (.leaseRequest r power) s (fun t =>
      t.lease r = { state := gGrant, want := power, guar := power, opp := 0, cover := 0 } ∧
      t.fld (grantFld r) = gGrant ∧ t.pwr.waiting = [] ∧ (r = .host → t.flag .PWR_HOSTG_VHSTON = true) ∧
      (∀ q : Requester, q ≠ r → t.lease q = s.lease q) ∧ t.pwr.granted = s.pwr.granted ∧
      FieldsKept [grantFld r, wholeReg Reg.PWR_FREE, wholeReg Reg.PWR_LOAD, wholeReg Reg.PWR_HOSTG, .PWR_STAT_HWDR] s t ∧
      (r = .rope → t = { s with regs := t.regs, pwr := { s.pwr with
        rope := { state := gGrant, want := power, guar := power, opp := 0, cover := 0 } } }) ∧
      t = { s with regs := t.regs, pwr := t.pwr, exc := t.exc, conns := t.conns, flt := t.flt })) ∧
  (∀ (r : Requester) (power : Nat) (s : State), takesLease r = true → s.sys.held = false → s.pwr.waiting = [] →
      leaseAllowed s.profile r = true → guarLeft s r < power → s.flag .PWR_CFG_OPPEN = true →
      oppOthers s r + (power - guarLeft s r) ≤ s.oppPower → (s.lease r).cover = 0 →
      coverOf (power - guarLeft s r) ≤ s.freeCredits → s.flag .PWR_STAT_BELOWRES = false →
    Runs (.leaseRequest r power) s (fun t =>
      t.lease r = { state := gGrantOpp, want := power, guar := guarLeft s r, opp := power - guarLeft s r,
                    cover := coverOf (power - guarLeft s r) } ∧
      t.fld (grantFld r) = gGrantOpp ∧ t.pwr.waiting = [] ∧ (r = .host → t.flag .PWR_HOSTG_VHSTON = true) ∧
      (∀ q : Requester, q ≠ r → t.lease q = s.lease q) ∧ t.pwr.granted = s.pwr.granted ∧
      FieldsKept [grantFld r, wholeReg Reg.PWR_FREE, wholeReg Reg.PWR_LOAD, wholeReg Reg.PWR_HOSTG, .PWR_STAT_HWDR] s t ∧
      t = { s with regs := t.regs, pwr := t.pwr, exc := t.exc, conns := t.conns, flt := t.flt })) ∧
  (∀ (r : Requester) (power : Nat) (s : State), takesLease r = true → s.pwr.waiting = [] → guarLeft s r < power →
      s.flag .PWR_CFG_OPPEN = false →
    Runs (.leaseRequest r power) s (fun t =>
      t.lease r = { state := gWait, want := power, guar := 0, opp := 0, cover := 0 } ∧
      t.fld (grantFld r) = gWait ∧ t.pwr.waiting = [⟨r, 0, leaseTag⟩] ∧ (∀ q : Requester, q ≠ r → t.lease q = s.lease q) ∧
      FieldsKept [grantFld r, wholeReg Reg.PWR_FREE, wholeReg Reg.PWR_LOAD] s t ∧
      t = { s with regs := t.regs, pwr := t.pwr })) ∧
  (∀ (c : Instr) (r : Requester) (s : State), c = .leaseLevelReached r ∨ c = .leaseWithdrawDeadline r →
      takesLease r = true → s.pwr.waiting = [] → (s.lease r).state = gWithdraw → leaseAllowed s.profile r = false →
      (r = .host → s.regN Reg.PWR_HOSTI * 33 ≤ s.fld .PWR_HOSTG_HOSTG * 100) →
    Runs c s (fun t =>
      t.lease r = { state := gWait, want := (s.lease r).want, guar := 0, opp := 0, cover := 0 } ∧
      t.fld (grantFld r) = gWait ∧ t.pwr.waiting = [⟨r, 0, leaseTag⟩] ∧ (∀ q : Requester, q ≠ r → t.lease q = s.lease q) ∧
      (r = .exc → ∀ k, k ∈ leasedOutputs s → t.fldBit .EXC_STAT_CLRST k = true) ∧
      FieldsKept [grantFld r, wholeReg Reg.PWR_FREE, wholeReg Reg.PWR_LOAD, .EXC_STAT_CLRST] s t ∧
      (r ≠ .exc → t = { s with regs := t.regs, pwr := t.pwr }) ∧ MemKept s t)) ∧
  (∀ (c : Instr) (r : Requester) (s : State), c = .leaseLevelReached r ∨ c = .leaseWithdrawDeadline r →
      takesLease r = true → (s.lease r).state ≠ gWithdraw → Runs c s (fun t => t = s)) ∧
  (∀ (c : Instr) (s : State), c = .leaseLevelReached .host ∨ c = .leaseWithdrawDeadline .host →
      s.fld .PWR_HOSTG_HOSTG * 100 < s.regN Reg.PWR_HOSTI * 33 → Runs c s (fun t => t = s))

/-- STORE_MEASUREMENT (R35, R44, R45, R48, R51): ESTOV, the store content of R35's formula, and its two marks, on
every state. With nothing waiting and no opportunistic part in force nothing else changes but PWR.FREE and PWR.LOAD, except
that a fall below 200 credits of a unit that is active reports source 19 to the belay collector. Below 200 credits a lease with
an opportunistic part is withdrawn; a waiting burst that the new content covers is granted. The model's own readings: log entry
22. -/
def Obligations.StoreIsMeasured : Prop :=
  (∀ (mv : Nat) (s : State), mv < 65536 →
    Runs (.storeMeasurement mv) s (fun t =>
      t.regN Reg.PWR_ESTOV = mv ∧
      t.regN Reg.PWR_STORE = min 65535 (s.regN Reg.PWR_CAP * (mv * mv - 49000000) / 20000000) ∧
      t.flag .PWR_STAT_STFULL = decide (16000 ≤ mv) ∧
      t.flag .PWR_STAT_BELOWRES = decide (t.regN Reg.PWR_STORE < 200) ∧ MemKept s t)) ∧
  (∀ (mv : Nat) (s : State), mv < 65536 → s.pwr.waiting = [] → s.pwr.exc.opp = 0 → s.pwr.host.opp = 0 →
      s.pwr.rope.opp = 0 →
      200 ≤ s.regN Reg.PWR_CAP * (mv * mv - 49000000) / 20000000 ∨ s.flag .PWR_STAT_BELOWRES = true ∨ s.isActive = false →
    Runs (.storeMeasurement mv) s (fun t =>
      t.regN Reg.PWR_ESTOV = mv ∧
      t.regN Reg.PWR_STORE = min 65535 (s.regN Reg.PWR_CAP * (mv * mv - 49000000) / 20000000) ∧
      t.regN Reg.PWR_FREE = t.regN Reg.PWR_STORE - s.outstanding - 200 ∧
      FieldsKept [wholeReg Reg.PWR_ESTOV, wholeReg Reg.PWR_STORE, .PWR_STAT_STFULL, .PWR_STAT_BELOWRES,
        wholeReg Reg.PWR_FREE, wholeReg Reg.PWR_LOAD] s t ∧
      t = { s with regs := t.regs })) ∧
  (∀ (mv : Nat) (s : State), mv < 65536 → s.pwr.waiting = [] → s.pwr.exc.opp = 0 → s.pwr.host.opp = 0 →
      s.pwr.rope.opp = 0 → s.regN Reg.PWR_CAP * (mv * mv - 49000000) / 20000000 < 200 →
      s.flag .PWR_STAT_BELOWRES = false → s.isActive = true → s.isFatal = false → Watches 19 s →
    Runs (.storeMeasurement mv) s (fun t =>
      t.regN Reg.PWR_ESTOV = mv ∧ t.flag .PWR_STAT_BELOWRES = true ∧ Reported 19 0 clsU s t ∧
      BlocksKept (1 :: reportBlocks) s t ∧ MemKept s t)) ∧
  (∀ (mv : Nat) (r : Requester) (s : State), mv < 65536 → s.pwr.waiting = [] → (s.lease r).inForce = true →
      0 < (s.lease r).opp → s.regN Reg.PWR_CAP * (mv * mv - 49000000) / 20000000 < 200 →
    Runs (.storeMeasurement mv) s (fun t =>
      t.lease r = { s.lease r with state := gWithdraw, opp := 0 } ∧ t.fld (grantFld r) = gWithdraw ∧
      t.flag .PWR_STAT_WDR = true ∧ (r = .host → t.flag .PWR_STAT_HWDR = true ∧ t.pwr.hostNotice = true))) ∧
  (∀ (mv n : Nat) (s : State), mv < 65536 → s.sys.held = false → s.pwr.waiting = [⟨.nvm, n, 0⟩] → s.pwr.exc.opp = 0 →
      s.pwr.host.opp = 0 → s.pwr.rope.opp = 0 →
      s.outstanding + 200 + n ≤ min 65535 (s.regN Reg.PWR_CAP * (mv * mv - 49000000) / 20000000) →
    Runs (.storeMeasurement mv) s (fun t =>
      t.pwr.granted = s.pwr.granted ++ [⟨.nvm, n, 0⟩] ∧ t.pwr.waiting = [] ∧ t.fld .PWR_GRANT_NVM = gGrant ∧
      t = { s with regs := t.regs, pwr := { s.pwr with granted := t.pwr.granted, waiting := [] } }))

/-- BURST_REQUEST and XMEM_CREDIT_TIMEOUT (R43 to R45, R63, R550): a burst that the free credits cover is granted at
once, one that they do not cover yet waits, and one that the largest store content can never cover is denied at once; an
external-memory burst that has waited 100 ms is denied, and the transfer engine is told. The model's own readings: log entry
22. -/
def Obligations.BurstsAreGrantedOrDenied : Prop :=
  (∀ (r : Requester) (credits : Nat) (s : State), takesCredits r = true → s.sys.held = false → s.pwr.waiting = [] →
      credits + 200 ≤ s.storeMax → s.outstanding + 200 + credits ≤ s.regN Reg.PWR_STORE →
      s.flag .PWR_STAT_BELOWRES = false →
    Runs (.burstRequest r credits) s (fun t =>
      ((s.lease r).state = gIdle → t.fld (grantFld r) = gGrant) ∧ t.pwr.granted = s.pwr.granted ++ [⟨r, credits, 0⟩] ∧
      t.outstanding = s.outstanding + credits ∧
      FieldsKept [grantFld r, wholeReg Reg.PWR_FREE, wholeReg Reg.PWR_LOAD] s t ∧
      t = { s with regs := t.regs, pwr := { s.pwr with granted := t.pwr.granted } })) ∧
  (∀ (r : Requester) (credits : Nat) (s : State), takesCredits r = true → s.storeMax < credits + 200 →
    Runs (.burstRequest r credits) s (fun t =>
      t.fld (grantFld r) = gDenied ∧ (r = .xmem → t.flag .XFER_STAT_XDEN = true) ∧
      FieldsKept [grantFld r, .XFER_STAT_XDEN] s t ∧ t = { s with regs := t.regs })) ∧
  (∀ (credits : Nat) (s : State), s.pwr.waiting = [⟨.xmem, credits, 0⟩] →
    Runs .xmemCreditTimeout s (fun t =>
      t.pwr.waiting = [] ∧ t.fld .PWR_GRANT_XMEM = gDenied ∧ t.flag .XFER_STAT_XDEN = true ∧
      FieldsKept [.PWR_GRANT_XMEM, .XFER_STAT_XDEN, wholeReg Reg.PWR_FREE, wholeReg Reg.PWR_LOAD] s t ∧
      t = { s with regs := t.regs, pwr := { s.pwr with waiting := [] } })) ∧
  (∀ (r : Requester) (credits : Nat) (s : State), takesCredits r = true → s.pwr.waiting = [] →
      credits + 200 ≤ s.storeMax → s.regN Reg.PWR_STORE < s.outstanding + 200 + credits →
    Runs (.burstRequest r credits) s (fun t =>
      ((s.lease r).state = gIdle → t.fld (grantFld r) = gWait) ∧ t.pwr.waiting = [⟨r, credits, 0⟩] ∧
      FieldsKept [grantFld r, .XFER_STAT_XDEN, wholeReg Reg.PWR_FREE, wholeReg Reg.PWR_LOAD] s t ∧
      t = { s with regs := t.regs, pwr := { s.pwr with waiting := [⟨r, credits, 0⟩] } })) ∧
  (∀ s : State, s.pwr.waiting = [] → Runs .xmemCreditTimeout s (fun t => t = s))

/-- BUDGET_RECOMPUTE, VAUX_PRESENT, VAUX_ABSENT and DISCHARGE_CONVERTER_ON (R11, R29, R30, R37, R38, R42, R47,
R48). With no lease in force, none waiting and no loop shed, the guaranteed and the actual power are 88 % of their node
powers, and nothing but the budget's registers changes. A lease that the new guaranteed power no longer covers is withdrawn.
In reset only the currents are taken; without VAUXEN a supply at VAUX is ignored. When the income returns after a power fail the
slices of an active unit are on again and its outputs may leave their clear state. The model's own readings: log entries 22, 33
and 50. -/
def Obligations.BudgetFollowsTheLoops : Prop :=
  (∀ (ua : List Nat) (s : State), ua.length = 6 → s.sys.held = false →
      s.flag .PWR_STAT_PFAIL = false → s.pwr.exc.inForce = false → s.pwr.host.inForce = false →
      s.pwr.rope.inForce = false → s.pwr.waiting = [] → s.pwr.shed = [] →
    Runs (.budgetRecompute ua) s (fun t =>
      t.pwr.loopUa = ua ∧ t.regN Reg.PWR_GUAR = s.guarNode * 88 / 100 % 65536 ∧
      t.regN Reg.PWR_AVAIL = t.availNode * 88 / 100 % 65536 ∧ t.fld .PWR_PROFILE_NHARV = s.harvesting.length ∧
      FieldsKept budgetFields s t ∧
      t = { s with regs := t.regs, pwr := t.pwr })) ∧
  (∀ s : State, s.flag .PWR_CFG_VAUXEN = true → s.sys.held = false → s.flag .PWR_STAT_PFAIL = false →
      s.pwr.exc.inForce = false → s.pwr.host.inForce = false →
      s.pwr.rope.inForce = false → s.pwr.waiting = [] → s.pwr.shed = [] →
    Runs .vauxPresent s (fun t => t.flag .PWR_STAT_VAUXP = true ∧
      t.regN Reg.PWR_AVAIL = t.availNode * 88 / 100 % 65536 ∧ t.profileTarget = 3 ∧ t.sys.bleed = false ∧
      FieldsKept (.PWR_STAT_VAUXP :: budgetFields) s t ∧
      t = { s with regs := t.regs, pwr := t.pwr, sys := { s.sys with bleed := false } })) ∧
  (∀ s : State, s.sys.held = false → s.flag .PWR_STAT_PFAIL = false → s.pwr.exc.inForce = false →
      s.pwr.host.inForce = false → s.pwr.rope.inForce = false →
      s.pwr.waiting = [] → s.pwr.shed = [] →
    Runs .vauxAbsent s (fun t => t.flag .PWR_STAT_VAUXP = false ∧
      t.regN Reg.PWR_AVAIL = t.availNode * 88 / 100 % 65536 ∧ FieldsKept (.PWR_STAT_VAUXP :: budgetFields) s t ∧
      t = { s with regs := t.regs, pwr := t.pwr })) ∧
  (∀ s : State, Runs .dischargeConverterOn s (fun t => t = { s with pwr := { s.pwr with discharge := true } })) ∧
  (∀ (ua : List Nat) (s : State), ua.length = 6 → s.sys.held = true →
    Runs (.budgetRecompute ua) s (fun t => t = { s with pwr := { s.pwr with loopUa := ua } })) ∧
  (∀ s : State, s.flag .PWR_CFG_VAUXEN = false → Runs .vauxPresent s (fun t => t = s)) ∧
  (∀ (ua : List Nat) (s : State), ua.length = 6 → s.sys.held = false → s.flag .PWR_STAT_PFAIL = false →
      s.pwr.exc.inForce = true → s.pwr.exc.cover = 0 → s.pwr.host.inForce = false → s.pwr.rope.inForce = false →
      s.pwr.waiting = [] → s.pwr.shed = [] →
      s.guarNode * 88 / 100 % 65536 < baseLoad s.profile + s.pwr.exc.want →
    Runs (.budgetRecompute ua) s (fun t =>
      t.pwr.exc.state = gWithdraw ∧ t.pwr.exc.opp = 0 ∧
      t.pwr.exc.guar = s.guarNode * 88 / 100 % 65536 - baseLoad s.profile ∧ t.fld .PWR_GRANT_EXC = gWithdraw ∧
      t.flag .PWR_STAT_WDR = true ∧ t.pwr.loopUa = ua ∧
      FieldsKept (.PWR_GRANT_EXC :: .PWR_STAT_WDR :: budgetFields) s t ∧ t = { s with regs := t.regs, pwr := t.pwr })) ∧
  (∀ (ua : List Nat) (s : State), ua.length = 6 → s.sys.held = false → s.flag .PWR_STAT_PFAIL = true →
      s.pwr.exc = {} → s.pwr.host = {} → s.pwr.rope = {} → s.pwr.waiting = [] → s.pwr.shed = [] → s.pwr.hostCut = false →
      { s with pwr := { s.pwr with loopUa := ua } }.availNode ≠ 0 → s.mode = modeActive ∨ s.mode = modeReduced →
    Runs (.budgetRecompute ua) s (fun t =>
      t.flag .PWR_STAT_PFAIL = false ∧ t.sys.slicesOn = true ∧ t.pwr.loopUa = ua ∧ t.mode = s.mode ∧
      (∀ k, k < 4 → evPfail ∉ (t.excOut k).clearBy)))

/-- SHED_STEP, SHUNT_FAIL_DETECT and SHED_RETURN (R31, R32): with a surplus above what the shunt can take the
harvesting loop of the highest current goes to SHED, and with one that it can take none does; when the shunt fails one goes at
once; with the surplus 5 mA below the capacity the loop shed last comes back first, and otherwise none. -/
def Obligations.LoopsAreShedAndReturned : Prop :=
  (∀ (surplus n : Nat) (s : State), s.intOnly = true → s.extOnly = false → 40000 < surplus → n < 6 →
      n < s.pwr.vt.length → s.fitted n = true → s.fld (bandFld n) = bandHarvest →
      (∀ m, m < 6 → m ≠ n → s.fitted m = true → s.fld (bandFld m) = bandHarvest →
        nth 0 s.pwr.loopUa m < nth 0 s.pwr.loopUa n ∨
          (nth 0 s.pwr.loopUa m = nth 0 s.pwr.loopUa n ∧ n < m)) →
    Runs (.shedStep surplus) s (fun t =>
      t.fld (bandFld n) = bandShed ∧ (∀ m, m < 6 → m ≠ n → t.fld (bandFld m) = s.fld (bandFld m)) ∧
      t.pwr.shed = n :: s.pwr.shed ∧ t.flag .PWR_STAT_SHED = true ∧ t.pwr.surplusUa = surplus ∧
      t.sys = s.sys ∧ BlocksKept (1 :: reportBlocks) s t ∧ MemKept s t)) ∧
  (∀ (surplus : Nat) (s : State), s.extOnly = false → surplus ≤ 40000 →
    Runs (.shedStep surplus) s (fun t => t = { s with pwr := { s.pwr with surplusUa := surplus } })) ∧
  (∀ (n : Nat) (s : State), n < 6 → s.fitted n = true → s.fld (bandFld n) = bandHarvest →
      (∀ m, m < 6 → m ≠ n → s.fitted m = true → s.fld (bandFld m) ≠ bandHarvest) →
    Runs .shuntFailDetect s (fun t =>
      t.flag .PWR_STAT_SHFAIL = true ∧ t.fld (bandFld n) = bandShed ∧ t.pwr.shed = n :: s.pwr.shed ∧
      t.flag .PWR_STAT_SHED = true ∧ t.sys = s.sys ∧ BlocksKept (1 :: reportBlocks) s t ∧ MemKept s t)) ∧
  (∀ (n : Nat) (rest : List Nat) (s : State), n < 6 → s.pwr.shed = n :: rest →
      n ∉ rest → s.shedFits = true →
    Runs .shedReturn s (fun t =>
      t.fld (bandFld n) = bandHarvest ∧ t.pwr.shed = rest ∧ t.flag .PWR_STAT_SHED = !rest.isEmpty ∧
      FieldsKept [bandFld n, .PWR_VT_VT, .PWR_STAT_SHED] s t ∧
      t = { s with regs := t.regs, pwr := { s.pwr with shed := rest, vt := s.pwr.vt.set n 780 },
                   sys := { s.sys with bleed := false } })) ∧
  (∀ s : State, s.shedFits = false ∨ s.pwr.shed = [] → Runs .shedReturn s (fun t => t = s))

/-- HOSTP_WRITE, HOST_OVERDRAW, HOST_SUPPLY_CUT and HOST_SUPPLY_RESTORE (R48, R50, R64): a power asked for is
stored up to 200, granted where the guaranteed budget covers it, kept for later while the supply is cut or the unit is not
active, and 0 ends the lease and VHST; a draw more than 10 % above the grant gives the notice; a draw still above it after the
notice cuts VHST, and one that is not, or that had no notice, does not; when the second is over the lease is asked for again. -/
def Obligations.HostSupplyFollowsItsLease : Prop :=
  (∀ (p : Path) (v : Nat) (s : State), isPath p = true → fits 16 v = true → v % 256 = 0 → Admits p Reg.PWR_HOSTP s →
      s.pwr.waiting = [] →
    Runs (.hostpWrite p v) s (fun t =>
      t.fld .PWR_HOSTP_HOSTP = 0 ∧ t.flag .PWR_HOSTG_VHSTON = false ∧ t.fld .PWR_HOSTG_HOSTG = 0 ∧ t.pwr.host = {} ∧
      t.pwr.hostAsked = false ∧ t.fld .PWR_GRANT_HOST = gIdle ∧ BlocksKept [1] s t ∧ MemKept s t)) ∧
  (∀ (p : Path) (v : Nat) (s : State), isPath p = true → fits 16 v = true → v % 256 ≠ 0 → Admits p Reg.PWR_HOSTP s →
      s.sys.held = false → s.isActive = true → s.pwr.hostCut = false → s.pwr.waiting = [] →
      leaseAllowed s.profile .host = true → min (v % 256) 200 ≤ guarLeft s .host →
    Runs (.hostpWrite p v) s (fun t =>
      t.fld .PWR_HOSTP_HOSTP = min (v % 256) 200 ∧ t.flag .PWR_HOSTG_VHSTON = true ∧
      t.fld .PWR_HOSTG_HOSTG = min (v % 256) 200 ∧ t.fld .PWR_GRANT_HOST = gGrant ∧ t.pwr.hostAsked = true ∧
      (s.flag .PWR_HOSTG_VHSTON = true → min (v % 256) 200 < s.fld .PWR_HOSTG_HOSTG →
        t.flag .PWR_STAT_HWDR = true ∧ t.hirq = true ∧ t.pwr.hostNotice = true) ∧
      BlocksKept [1] s t ∧ MemKept s t)) ∧
  (∀ (p : Path) (v : Nat) (s : State), isPath p = true → fits 16 v = true → v % 256 ≠ 0 → Admits p Reg.PWR_HOSTP s →
      s.isActive = false ∨ s.pwr.hostCut = true →
    Runs (.hostpWrite p v) s (fun t =>
      t.fld .PWR_HOSTP_HOSTP = min (v % 256) 200 ∧ t.pwr = { s.pwr with hostAsked := true } ∧
      FieldsKept [.PWR_HOSTP_HOSTP] s t ∧ MemKept s t)) ∧
  (∀ (i : Nat) (s : State), i < 65536 → s.flag .PWR_HOSTG_VHSTON = true →
      s.fld .PWR_HOSTG_HOSTG * 1100 < i * 330 →
    Runs (.hostOverdraw i) s (fun t =>
      t.regN Reg.PWR_HOSTI = i ∧ t.flag .PWR_STAT_HWDR = true ∧ t.hirq = true ∧
      FieldsKept [wholeReg Reg.PWR_HOSTI, .PWR_STAT_HWDR] s t ∧
      t = { s with regs := t.regs, pwr := { s.pwr with hostNotice := true } })) ∧
  (∀ (i : Nat) (s : State), i < 65536 →
      s.flag .PWR_HOSTG_VHSTON = false ∨ i * 330 ≤ s.fld .PWR_HOSTG_HOSTG * 1100 →
    Runs (.hostOverdraw i) s (fun t =>
      t.regN Reg.PWR_HOSTI = i ∧ FieldsKept [wholeReg Reg.PWR_HOSTI] s t ∧ t = { s with regs := t.regs })) ∧
  (∀ (i : Nat) (s : State), i < 65536 → s.pwr.hostNotice = true → s.fld .PWR_HOSTG_HOSTG * 100 < i * 33 →
      s.pwr.waiting = [] →
    Runs (.hostSupplyCut i) s (fun t =>
      t.regN Reg.PWR_HOSTI = i ∧ t.flag .PWR_HOSTG_VHSTON = false ∧ t.fld .PWR_HOSTG_HOSTG = 0 ∧
      t.pwr.hostCut = true ∧ t.pwr.hostNotice = false ∧
      ((s.lease .host).state = gWithdraw →
        t.pwr.host = { state := gWait, want := (s.lease .host).want, guar := 0, opp := 0, cover := 0 } ∧
        t.fld .PWR_GRANT_HOST = gWait) ∧
      ((s.lease .host).state ≠ gWithdraw → t.pwr.host = {} ∧ t.fld .PWR_GRANT_HOST = gIdle) ∧
      BlocksKept [1] s t ∧ MemKept s t)) ∧
  (∀ (i : Nat) (s : State), i < 65536 → s.pwr.hostNotice = false ∨ i * 33 ≤ s.fld .PWR_HOSTG_HOSTG * 100 →
    Runs (.hostSupplyCut i) s (fun t =>
      t.regN Reg.PWR_HOSTI = i ∧ FieldsKept [wholeReg Reg.PWR_HOSTI] s t ∧
      t = { s with regs := t.regs, pwr := { s.pwr with hostNotice := false } })) ∧
  (∀ s : State, s.sys.held = false → s.pwr.hostCut = true → s.fld .PWR_HOSTP_HOSTP ≠ 0 → s.pwr.waiting = [] →
      leaseAllowed s.profile .host = true → s.fld .PWR_HOSTP_HOSTP ≤ guarLeft s .host →
    Runs .hostSupplyRestore s (fun t =>
      t.pwr.hostCut = false ∧ t.flag .PWR_HOSTG_VHSTON = true ∧ t.fld .PWR_HOSTG_HOSTG = s.fld .PWR_HOSTP_HOSTP ∧
      t.fld .PWR_GRANT_HOST = gGrant ∧ BlocksKept [1] s t ∧ MemKept s t)) ∧
  (∀ s : State, s.pwr.hostCut = true → s.fld .PWR_HOSTP_HOSTP = 0 →
    Runs .hostSupplyRestore s (fun t => t = { s with pwr := { s.pwr with hostCut := false } })) ∧
  (∀ s : State, s.pwr.hostCut = false → Runs .hostSupplyRestore s (fun t => t = s))

/-- POWER_FAIL and PROFILE_CHANGE (R40, R42, R53): with no income and the store at its reserve the unit marks PFAIL
and turns its slices, its excitation, the rope stream and the host supply off, its windows ending with SUPD; otherwise nothing
changes. A change of the harvesting count sets the profile and marks it, before the unit is active and after; the count 0 sends
an active unit to bivouac; without a change, or in reset, nothing happens. The model's own readings: log entries 19, 22 and
51. -/
def Obligations.PowerFailAndProfile : Prop :=
  (∀ s : State, s.sys.held = false → s.availNode = 0 → s.regN Reg.PWR_STORE ≤ 200 → s.flag .PWR_STAT_PFAIL = false →
    Runs .powerFail s (fun t =>
      t.flag .PWR_STAT_PFAIL = true ∧ t.flag .PWR_HOSTG_VHSTON = false ∧ t.sys.slicesOn = false ∧
      (∀ n, n < 13 → (t.slice n).win = none) ∧
      (∀ k, k < 4 → t.fldBit .EXC_STAT_CLRST k = true) ∧ t.pwr.exc = {} ∧ t.pwr.rope = {} ∧ t.pwr.host = {} ∧
      t.fld .PWR_HOSTG_HOSTG = 0 ∧ t.mode = s.mode ∧ t.profile = s.profile ∧
      (∀ a, t.storeByte a = s.storeByte a) ∧ (∀ a, t.memByte a = s.memByte a))) ∧
  (∀ s : State, s.sys.held = true ∨ s.availNode ≠ 0 ∨ 200 < s.regN Reg.PWR_STORE ∨ s.flag .PWR_STAT_PFAIL = true →
    Runs .powerFail s (fun t => t = s)) ∧
  (∀ s : State, s.sys.held = false → s.isActive = false → s.profile ≠ s.profileTarget →
    Runs .profileChange s (fun t =>
      t.profile = s.profileTarget ∧ t.flag .PWR_STAT_PROFCHG = true ∧
      FieldsKept [.PWR_PROFILE_PROFILE, .PWR_STAT_PROFCHG, wholeReg Reg.PWR_FREE, wholeReg Reg.PWR_LOAD] s t ∧
      t = { s with regs := t.regs })) ∧
  (∀ s : State, s.sys.held = true ∨ s.profile = s.profileTarget → Runs .profileChange s (fun t => t = s)) ∧
  (∀ s : State, s.sys.held = false → s.isActive = true → s.profile ≠ s.profileTarget → s.profileTarget ≠ 0 →
      s.inBivouac = false →
    Runs .profileChange s (fun t => t.profile = s.profileTarget ∧ t.flag .PWR_STAT_PROFCHG = true ∧
      t.isActive = true ∧ t.inBivouac = false ∧
      (t.mode = modeReduced ↔ (s.flag .SYS_STAT_REDHOST = true ∨ s.flag .SYS_STAT_REDTHERM = true ∨
        t.flag .SYS_STAT_REDPROF = true)))) ∧
  (∀ s : State, s.sys.held = false → s.mode = modeActive ∨ s.mode = modeReduced → s.profile ≠ 0 → s.profileTarget = 0 →
    Runs .profileChange s (fun t => t.profile = 0 ∧ t.mode = modeBivouac ∧ t.fld .SYS_STAT_BIVC = bivBudget ∧
      t.flag .PWR_STAT_PROFCHG = true ∧ (∀ a, t.storeByte a = s.storeByte a)))

/-! ### Resets, modes and the supply dip (03) -/

/-- POR_ASSERT and BOR_ASSERT (R68 to R70, R89, R107): the device is held and the cause recorded; the counters stay,
and the store and the external memory where no operation is in progress on them; POR clears a fatal latch and brings every
other register but the loops' and the fault status to its reset value, BOR keeps the latch, TESTMODE, the supply registers and
the last report. The model's own readings: log entries 1 and 35. -/
def Obligations.SupplyResetsHold : Prop :=
  (∀ s : State,
    Runs .porAssert s (fun t =>
      t.sys.held = true ∧ ResetSrc.por ∈ t.sys.asserted ∧ (t.reg Reg.SYS_RSTCAUSE).getLsbD 0 = true ∧
      t.mode = modeBoot ∧ t.phase = 1 ∧ t.isFatal = false ∧ t.sys.fatal = none ∧ t.pending = s.pending ∧ t.now = s.now ∧
      t.conns = [] ∧ t.nvm.jobs = [] ∧ t.nvm.op = none ∧ t.xfer.op = none ∧
      (∀ n, n < 6 → (t.loop n).held = none) ∧
      (∀ k, k < 16 → t.reg (Reg.CNT 0 + k) = s.reg (Reg.CNT 0 + k)) ∧
      (∀ a, blockOf a ≠ 7 → blockOf a ≠ 10 → a ≠ Reg.SYS_RSTCAUSE → a ≠ Reg.FLT_STAT → t.reg a = regReset a) ∧
      (s.nvm.op = none → ∀ a, t.storeByte a = s.storeByte a) ∧
      (s.xfer.op = none → ∀ a, t.memByte a = s.memByte a))) ∧
  (∀ s : State, s.sys.held = false → s.sys.waiting = [] → s.sys.asserted = [] →
    Runs .borAssert s (fun t =>
      t.sys.held = true ∧ t.sys.asserted = [.bor] ∧ (t.reg Reg.SYS_RSTCAUSE).getLsbD 1 = true ∧
      t.mode = modeBoot ∧ t.phase = 1 ∧ t.isFatal = s.isFatal ∧ t.sys.fatal = s.sys.fatal ∧ t.pending = s.pending ∧
      t.now = s.now ∧ t.testMode = s.testMode ∧ t.sys.strapDue = true ∧
      t.sys.bleed = (s.sys.bleed || (s.availNode == 0 && decide (s.regN Reg.PWR_ESTOV < 7000))) ∧
      t.conns = [] ∧ t.nvm.jobs = [] ∧ t.nvm.op = none ∧ t.xfer.op = none ∧
      t.reg Reg.PWR_LOOPS = s.reg Reg.PWR_LOOPS ∧ t.reg Reg.PWR_ESTOV = s.reg Reg.PWR_ESTOV ∧
      t.reg32 Reg.FLT_LAST = (if s.reg32 Reg.FLT_FIRST = 0 then s.reg32 Reg.FLT_LAST else s.reg32 Reg.FLT_FIRST) ∧
      (∀ k, k < 16 → t.reg (Reg.CNT 0 + k) = s.reg (Reg.CNT 0 + k)) ∧
      (s.nvm.op = none → ∀ a, t.storeByte a = s.storeByte a) ∧
      (s.xfer.op = none → ∀ a, t.memByte a = s.memByte a)))

/-- XRST_ASSERT (R68, R69, R92, R582): from 1 µs on the device is held, the cause is added to those recorded, and each
fitted loop holds the current it carried; while a store operation is in progress the reset waits for it. A pulse below 200 ns
does nothing; one between takes the reset or does nothing as a free value decides. The model's own readings: log entries 1 and
35. -/
def Obligations.ResetPinHoldsTheLoops : Prop :=
  (∀ (w : Nat) (s : State), 1000 ≤ w → s.nvm.op = none → s.sys.held = false →
    Runs (.xrstAssert w) s (fun t =>
      t.sys.held = true ∧ ResetSrc.xrst ∈ t.sys.asserted ∧ (t.reg Reg.SYS_RSTCAUSE).getLsbD 2 = true ∧
      t.mode = modeBoot ∧ t.phase = 1 ∧ t.isFatal = s.isFatal ∧ t.sys.fatal = s.sys.fatal ∧ t.pending = s.pending ∧
      t.now = s.now ∧ t.testMode = s.testMode ∧ t.fld .SYS_STAT_ALMPIN = s.fld .SYS_STAT_ALMPIN ∧
      (∀ n, n < 6 → s.flag (.LOOP_CFG_FIT n) = true → s.regN (Reg.LOOP_DAC n) ≠ 0 →
        (t.loop n).held = some (s.regN (Reg.LOOP_DAC n))) ∧
      (∀ k, k < 16 → t.reg (Reg.CNT 0 + k) = s.reg (Reg.CNT 0 + k)) ∧
      (∀ a, t.storeByte a = s.storeByte a) ∧ (s.xfer.op = none → ∀ a, t.memByte a = s.memByte a))) ∧
  (∀ (w : Nat) (s : State), 1000 ≤ w → s.sys.held = true → s.sys.boot.cause = .por →
    Runs (.xrstAssert w) s (fun t =>
      t.sys.held = true ∧ ResetSrc.xrst ∈ t.sys.asserted ∧ (t.reg Reg.SYS_RSTCAUSE).getLsbD 2 = true ∧
      (∀ k, k < 6 → (s.reg Reg.SYS_RSTCAUSE).getLsbD k = true → (t.reg Reg.SYS_RSTCAUSE).getLsbD k = true))) ∧
  (∀ (w : Nat) (s : State), 1000 ≤ w → s.nvm.op ≠ none → s.sys.held = false →
    Runs (.xrstAssert w) s (fun t => t = { s with sys := { s.sys with
      asserted := s.sys.asserted.filter (· != .xrst) ++ [.xrst], waiting := s.sys.waiting ++ [.xrst] } })) ∧
  (∀ (w : Nat) (s : State), 200 ≤ w → w < 1000 →
    Runs (.xrstAssert w) s (fun t => t = { s with free := s.free + 1 } ∨
      exec (.xrstAssert 1000) { s with free := s.free + 1 } = .next t)) ∧
  (∀ (w : Nat) (s : State), w < 200 → Runs (.xrstAssert w) s (fun t => t = s))

/-- POR_RELEASE, BOR_RELEASE and XRST_RELEASE (R68, R69, R107): the last source to go releases the device into phase 1 of
the boot with the causes recorded as they were; while another still asserts, or where the device is not held, nothing but the
list of the asserted sources changes. The model's own readings: log entry 35. -/
def Obligations.LastSourceReleases : Prop :=
  ∀ (c : Instr) (r : ResetSrc), (c = .porRelease ∧ r = .por) ∨ (c = .borRelease ∧ r = .bor) ∨
      (c = .xrstRelease ∧ r = .xrst) →
    (∀ s : State, s.sys.held = true → s.sys.asserted = [r] → keepsRope s.sys.boot.cause = false →
      Runs c s (fun t => t.sys.held = false ∧ t.sys.asserted = [] ∧ t.phase = 1 ∧ t.mode = modeBoot ∧
        t.isFatal = s.isFatal ∧ t.now = s.now ∧ t.pending = s.pending ∧
        (∀ k, k < 6 → (t.reg Reg.SYS_RSTCAUSE).getLsbD k = (s.reg Reg.SYS_RSTCAUSE).getLsbD k) ∧
        (∀ a, t.storeByte a = s.storeByte a) ∧ (∀ a, t.memByte a = s.memByte a))) ∧
    (∀ (q : ResetSrc) (s : State), q ≠ r → s.sys.asserted = [r, q] →
      Runs c s (fun t => t = { s with sys := { s.sys with asserted := [q] } })) ∧
    (∀ s : State, s.sys.held = false →
      Runs c s (fun t => t = { s with sys := { s.sys with asserted := s.sys.asserted.filter (· != r) } }))

/-- WATCHDOG_EXPIRE and SOFTWARE_RESET (R68, R69, R89, R107, R113, R582): with no source asserted and no store operation in
progress the reset takes effect and ends at once in phase 1 of the boot; a software reset keeps the rope; both wait for a store
operation in progress; a watchdog of a device that is held does nothing; any other key is discarded with DENY. The model's own
readings: log entries 1 and 35. -/
def Obligations.ResetsThatReleaseThemselves : Prop :=
  (∀ s : State, s.sys.held = false → s.sys.asserted = [] → s.nvm.op = none →
    Runs .watchdogExpire s (fun t =>
      t.sys.held = false ∧ t.phase = 1 ∧ (t.reg Reg.SYS_RSTCAUSE).getLsbD 3 = true ∧ t.mode = modeBoot ∧ t.rope = {} ∧
      t.isFatal = s.isFatal ∧ t.pending = s.pending ∧ t.now = s.now ∧ t.testMode = s.testMode ∧
      (∀ k, k < 16 → t.reg (Reg.CNT 0 + k) = s.reg (Reg.CNT 0 + k)) ∧
      (∀ a, t.storeByte a = s.storeByte a) ∧ (s.xfer.op = none → ∀ a, t.memByte a = s.memByte a))) ∧
  (∀ s : State, s.sys.held = true → Runs .watchdogExpire s (fun t => t = s)) ∧
  (∀ s : State, s.sys.held = false → s.nvm.op ≠ none →
    Runs .watchdogExpire s (fun t => t = { s with sys := { s.sys with waiting := s.sys.waiting ++ [.watchdog] } })) ∧
  (∀ (p : Path) (s : State), isPath p = true → Admits p Reg.SYS_RST s → s.sys.held = false → s.sys.asserted = [] →
      s.nvm.op = none →
    Runs (.softwareReset p 0xC35A) s (fun t =>
      t.sys.held = false ∧ t.phase = 1 ∧ (t.reg Reg.SYS_RSTCAUSE).getLsbD 4 = true ∧ t.mode = modeBoot ∧
      t.reg Reg.ROPE_ADDR = s.reg Reg.ROPE_ADDR ∧ t.rope.chain = s.rope.chain ∧ t.rope.up = s.rope.up ∧
      t.rope.dn = s.rope.dn ∧ t.pending = s.pending ∧ (p = .host → t.host.answer = ⟨0, 0xC35A⟩) ∧
      (∀ a, t.storeByte a = s.storeByte a) ∧ (s.xfer.op = none → ∀ a, t.memByte a = s.memByte a))) ∧
  (∀ (p : Path) (s : State), isPath p = true → Admits p Reg.SYS_RST s → s.sys.held = false → s.nvm.op ≠ none →
    Runs (.softwareReset p 0xC35A) s (fun t =>
      t.sys = { s.sys with waiting := s.sys.waiting ++ [.software] } ∧ t.regs = s.regs ∧ MemKept s t)) ∧
  (∀ (p : Path) (key : Nat) (s : State), isPath p = true → fits 16 key = true → key ≠ 0xC35A →
      Admits p Reg.SYS_RST s →
    Runs (.softwareReset p key) s (fun t =>
      (p = .host → t.host.answer = ⟨stDeny, word key⟩) ∧
      t = { s with paths := t.paths, host := t.host }))

/-- SET_REDREQ and CLEAR_REDREQ (R96, R97, R111): the request sets and clears the cause REDHOST; the unit is in REDUCED
while a cause is present, and in bivouac and in boot the mode stays. -/
def Obligations.ReducedByRequest : Prop :=
  (∀ (p : Path) (s : State), isPath p = true → Admits p Reg.SYS_MODE s → s.flag .SYS_MODE_BIVREQ = false →
      s.mode = modeActive ∨ s.mode = modeReduced →
    Runs (.setRedreq p) s (fun t =>
      t.flag .SYS_MODE_REDREQ = true ∧ t.flag .SYS_STAT_REDHOST = true ∧ t.mode = modeReduced ∧ t.profile = s.profile ∧ t.isFatal = s.isFatal ∧ MemKept s t)) ∧
  (∀ (p : Path) (s : State), isPath p = true → Admits p Reg.SYS_MODE s → s.flag .SYS_MODE_BIVREQ = false →
      s.mode = modeActive ∨ s.mode = modeReduced →
    Runs (.clearRedreq p) s (fun t =>
      t.flag .SYS_MODE_REDREQ = false ∧ t.flag .SYS_STAT_REDHOST = false ∧
      (s.flag .SYS_STAT_REDTHERM = false → s.flag .SYS_STAT_REDPROF = false → t.mode = modeActive) ∧
      (s.flag .SYS_STAT_REDTHERM = true ∨ s.flag .SYS_STAT_REDPROF = true → t.mode = modeReduced) ∧ MemKept s t)) ∧
  (∀ (p : Path) (s : State), isPath p = true → Admits p Reg.SYS_MODE s → s.flag .SYS_MODE_BIVREQ = false →
      s.isActive = false ∨ s.inBivouac = true →
    Runs (.setRedreq p) s (fun t =>
      t.flag .SYS_MODE_REDREQ = true ∧ t.flag .SYS_STAT_REDHOST = true ∧ t.mode = s.mode ∧
      FieldsKept [.SYS_MODE_REDREQ, .SYS_STAT_REDHOST] s t ∧ MemKept s t)) ∧
  (∀ (p : Path) (s : State), isPath p = true → Admits p Reg.SYS_MODE s → s.flag .SYS_MODE_BIVREQ = false →
      s.isActive = false ∨ s.inBivouac = true →
    Runs (.clearRedreq p) s (fun t =>
      t.flag .SYS_MODE_REDREQ = false ∧ t.flag .SYS_STAT_REDHOST = false ∧ t.mode = s.mode ∧
      FieldsKept [.SYS_MODE_REDREQ, .SYS_STAT_REDHOST] s t ∧ MemKept s t))

/-- SET_BIVREQ, BIVOUAC_STANDSTILL, CLEAR_BIVREQ, BIVOUAC_EXIT and BIVOUAC_RESUME (R99 to R103, R111): the unit goes to
bivouac for its cause with its slices, its reference and its connections off, and the store and the external memory as they were;
in bivouac a request only sets its bit, and while an exit is under way it ends the exit; standstill does nothing where R99 does
not hold. An exit condition that holds begins the exit, with the slices on and the reference as it was, except that for BUDGET
only a profile above NONE does, and for the other causes the profile does not. At READY, or at once where the buffer was off,
the unit resumes in the mode that the causes of REDUCED give; before that BIVOUAC_RESUME does nothing. The model's own readings:
log entries 14, 19, 49 and 54. -/
def Obligations.BivouacIsEnteredAndLeft : Prop :=
  (∀ (p : Path) (s : State), isPath p = true → Admits p Reg.SYS_MODE s → s.flag .SYS_MODE_BIVREQ = false →
      s.mode = modeActive ∨ s.mode = modeReduced →
    Runs (.setBivreq p) s (fun t =>
      t.mode = modeBivouac ∧ t.fld .SYS_STAT_BIVC = bivHost ∧ t.flag .SYS_MODE_BIVREQ = true ∧
      t.flag .REF_STAT_BUFON = false ∧ t.flag .REF_STAT_READY = false ∧ t.sys.bivRef = s.flag .REF_STAT_BUFON ∧
      t.sys.slicesOn = false ∧ t.sys.bivExit = false ∧ t.conns = [] ∧ t.pwr.exc = {} ∧ t.pwr.rope = {} ∧
      (∀ n, n < 13 → (t.slice n).win = none) ∧ (∀ k, k < 4 → t.fldBit .EXC_STAT_CLRST k = true) ∧
      t.profile = s.profile ∧ (∀ a, t.storeByte a = s.storeByte a) ∧ (∀ a, t.memByte a = s.memByte a))) ∧
  (∀ (p : Path) (s : State), isPath p = true → Admits p Reg.SYS_MODE s → s.flag .SYS_MODE_BIVREQ = false →
      s.mode = modeBivouac → s.sys.bivExit = false → s.flag .SYS_MODE_REDREQ = s.flag .SYS_STAT_REDHOST →
    Runs (.setBivreq p) s (fun t =>
      t.flag .SYS_MODE_BIVREQ = true ∧ t.fld .SYS_STAT_BIVC = s.fld .SYS_STAT_BIVC ∧
      FieldsKept [.SYS_MODE_BIVREQ] s t ∧ MemKept s t)) ∧
  (∀ (p : Path) (s : State), isPath p = true → Admits p Reg.SYS_MODE s → s.flag .SYS_MODE_BIVREQ = false →
      s.mode = modeBivouac → s.sys.bivExit = true →
    Runs (.setBivreq p) s (fun t =>
      t.flag .SYS_MODE_BIVREQ = true ∧ t.fld .SYS_STAT_BIVC = bivHost ∧ t.mode = modeBivouac ∧ t.sys.bivExit = false ∧
      t.sys.slicesOn = false ∧ t.flag .REF_STAT_BUFON = false)) ∧
  (∀ s : State, s.mayStandstill = true →
    Runs .bivouacStandstill s (fun t =>
      t.mode = modeBivouac ∧ t.fld .SYS_STAT_BIVC = bivSpeed ∧ t.flag .REF_STAT_BUFON = false ∧
      t.flag .REF_STAT_READY = false ∧ t.sys.bivRef = s.flag .REF_STAT_BUFON ∧
      t.sys.slicesOn = false ∧ t.sys.bivExit = false ∧ t.conns = [] ∧ t.pwr.exc = {} ∧ t.pwr.rope = {} ∧
      (∀ n, n < 13 → (t.slice n).win = none) ∧ (∀ k, k < 4 → t.fldBit .EXC_STAT_CLRST k = true) ∧
      t.profile = s.profile ∧ (∀ a, t.storeByte a = s.storeByte a) ∧ (∀ a, t.memByte a = s.memByte a))) ∧
  (∀ s : State, s.mayStandstill = false → Runs .bivouacStandstill s (fun t => t = s)) ∧
  (∀ (p : Path) (s : State), isPath p = true → Admits p Reg.SYS_MODE s → s.flag .SYS_MODE_BIVREQ = true →
      s.mode = modeBivouac → s.sys.bivExit = false → s.fld .SYS_STAT_BIVC ≠ bivBudget →
      s.flag .SYS_MODE_REDREQ = s.flag .SYS_STAT_REDHOST →
    Runs (.clearBivreq p) s (fun t =>
      t.flag .SYS_MODE_BIVREQ = false ∧ t.sys.bivExit = true ∧ t.sys.slicesOn = true ∧
      t.flag .REF_STAT_BUFON = s.sys.bivRef ∧ t.mode = modeBivouac ∧ MemKept s t)) ∧
  (∀ (p : Path) (s : State), isPath p = true → Admits p Reg.SYS_MODE s → s.flag .SYS_MODE_BIVREQ = true →
      s.fld .SYS_STAT_BIVC = bivBudget → s.mode = modeBivouac → s.flag .SYS_MODE_REDREQ = s.flag .SYS_STAT_REDHOST →
    Runs (.clearBivreq p) s (fun t =>
      t.flag .SYS_MODE_BIVREQ = false ∧ t.sys = s.sys ∧ FieldsKept [.SYS_MODE_BIVREQ] s t ∧ MemKept s t)) ∧
  (∀ (c : ExitCause) (s : State), s.mode = modeBivouac → s.sys.bivExit = false →
      (c = .profile ∧ s.fld .SYS_STAT_BIVC = bivBudget ∧ s.profile ≠ 0) ∨
        (s.fld .SYS_STAT_BIVC ≠ bivBudget ∧ (c = .wake ∨
          (c = .speed ∧ s.regN Reg.ANG_BIVSPD * 65536 < s.speed * 600) ∨
          (c = .host ∧ s.flag .SYS_MODE_BIVREQ = true))) →
    Runs (.bivouacExit c) s (fun t =>
      t.flag .SYS_MODE_BIVREQ = false ∧ t.sys.bivExit = true ∧ t.sys.slicesOn = true ∧
      t.sys.slowClock = (s.profile == 1) ∧
      t.flag .REF_STAT_BUFON = s.sys.bivRef ∧ t.mode = modeBivouac ∧ MemKept s t)) ∧
  (∀ (c : ExitCause) (s : State), (s.fld .SYS_STAT_BIVC = bivBudget ∧ (c ≠ .profile ∨ s.profile = 0)) ∨
      (s.fld .SYS_STAT_BIVC ≠ bivBudget ∧ c = .profile) ∨
      (c = .speed ∧ s.speed * 600 ≤ s.regN Reg.ANG_BIVSPD * 65536) ∨
      (c = .host ∧ s.flag .SYS_MODE_BIVREQ = false) ∨ s.mode ≠ modeBivouac ∨ s.sys.bivExit = true →
    Runs (.bivouacExit c) s (fun t => t = s)) ∧
  (∀ s : State, s.mode = modeBivouac → s.sys.bivExit = true → s.flag .REF_STAT_READY = true ∨ s.sys.bivRef = false →
    Runs .bivouacResume s (fun t =>
      t.mode = (if s.redCause then modeReduced else modeActive) ∧ t.fld .SYS_STAT_BIVC = 0 ∧ t.sys.bivExit = false ∧
      (∀ k, k < 4 → evBivouac ∉ (t.excOut k).clearBy) ∧
      (∀ n, n < s.loops.length → n < 6 → (t.loop n).fvRun = true ∧ (t.loop n).parked = s.fldBit .SYS_BIVCFG_PARK n) ∧
      MemKept s t)) ∧
  (∀ s : State, s.mode ≠ modeBivouac ∨ s.sys.bivExit = false ∨
      (s.flag .REF_STAT_READY = false ∧ s.sys.bivRef = true) →
    Runs .bivouacResume s (fun t => t = s))

/-- XCLR_ASSERT and XCLR_RELEASE (R87, R226, R259, R260, R682): from the end of phase 5 of the boot a pulse of 200 ns acts on
every output and leaves only the clear connections closed; before that it is only held; one below 100 ns does nothing, and
between the two a free value decides; the release takes the event from every output and lets every loop show its own row again.
The model's own readings: log entry 1. -/
def Obligations.ClearPinActs : Prop :=
  (∀ (w : Nat) (s : State), 200 ≤ w → 6 ≤ s.phase →
    Runs (.xclrAssert w) s (fun t =>
      t.sys.xclrLow = true ∧ (∀ k, k < 4 → t.fldBit .EXC_STAT_CLRST k = true) ∧ t.seq.bias = [] ∧
      (∀ c, c ∈ t.conns → 100 ≤ c.owner ∧ c.owner < 104) ∧ BlocksKept [5, 7] s t ∧ MemKept s t)) ∧
  (∀ (w : Nat) (s : State), 200 ≤ w → s.phase < 6 →
    Runs (.xclrAssert w) s (fun t =>
      t.sys = { s.sys with xclrLow := true } ∧ BlocksKept [7] s t ∧ t = { s with regs := t.regs, sys := t.sys })) ∧
  (∀ (w : Nat) (s : State), 100 ≤ w → w < 200 →
    Runs (.xclrAssert w) s (fun t => t = { s with free := s.free + 1 } ∨
      exec (.xclrAssert 200) { s with free := s.free + 1 } = .next t)) ∧
  (∀ (w : Nat) (s : State), w < 100 → Runs (.xclrAssert w) s (fun t => t = s)) ∧
  (∀ s : State,
    Runs .xclrRelease s (fun t =>
      t.sys = { s.sys with xclrLow := false } ∧ (∀ k, k < s.exc.length → evXclr ∉ (t.excOut k).clearBy) ∧
      BlocksKept [7] s t ∧ MemKept s t))

/-- VDDA_WARN, VDDA_RECOVERY_RISE and DIP_RECOVERY_CONFIRM (R93, R94, R114, R259, R261): the first crossing of a dip sets WARN,
sends every output to its clear state and marks the windows in progress; further ones keep the minimum and stop the recovery
timer; the rise starts it; its end closes the dip with the duration in µs and the minimum. Without a dip, or with no rise, nothing
happens. The model's own readings: log entries 19 and 55. -/
def Obligations.SupplyDipIsRecorded : Prop :=
  (∀ (mv : Nat) (s : State), mv < 65536 → s.sys.dip = none →
    Runs (.vddaWarn mv) s (fun t =>
      t.sys.dip = some ⟨s.now, none, mv⟩ ∧ t.warn = true ∧ (∀ k, k < 4 → t.fldBit .EXC_STAT_CLRST k = true) ∧
      (∀ n w, (t.slice n).win = some w → n < 13 → w.supd = true) ∧
      FieldsKept [.PWR_STAT_WARN, .EXC_STAT_CLRST] s t ∧ MemKept s t)) ∧
  (∀ (mv : Nat) (d : Dip) (s : State), mv < 65536 → s.sys.dip = some d →
    Runs (.vddaWarn mv) s (fun t =>
      t = { s with sys := { s.sys with dip := some ⟨d.start, none, min d.minMv mv⟩ } })) ∧
  (∀ (mv : Nat) (d : Dip) (s : State), mv < 65536 → s.sys.dip = some d →
    Runs (.vddaRecoveryRise mv) s (fun t =>
      t = { s with sys := { s.sys with dip := some ⟨d.start, some s.now, min d.minMv mv⟩ } })) ∧
  (∀ (start rise low : Nat) (s : State), s.sys.dip = some ⟨start, some rise, low⟩ →
    Runs .dipRecoveryConfirm s (fun t =>
      t.sys.dip = none ∧ t.warn = false ∧ t.flag .SYS_STAT_DIP = true ∧
      t.regN Reg.SYS_DIPT = min 65535 ((rise - start) * 1000 / 16384) ∧ t.regN Reg.SYS_DIPMIN = low % 65536 ∧
      (∀ k, k < 4 → evDip ∉ (t.excOut k).clearBy) ∧ BlocksKept [0, 1, 9, 10, 11] s t ∧ MemKept s t)) ∧
  (∀ (mv : Nat) (s : State), mv < 65536 → s.sys.dip = none → Runs (.vddaRecoveryRise mv) s (fun t => t = s)) ∧
  (∀ (start low : Nat) (s : State), s.sys.dip = none ∨ s.sys.dip = some ⟨start, none, low⟩ →
    Runs .dipRecoveryConfirm s (fun t => t = s))

/-! ### The boot (03) -/

/-- BOOT_OSCILLATOR, BOOT_HEADERS, BOOT_IMAGE_CHECK and BOOT_SCAN (R16, R17, R40, R71, R75, R76, R556, R594, R595): phases
1 to 4 of the boot, each taken once and in its phase only. The straps are sampled where they are due, the bands and the first
profile taken; a memory that answers is discovered by SFDP, by a strap record, or runs in safe mode, and the newer slot with the
magic is the candidate; the image in use, or the result that stands for none, is chosen; the counters come from the store. The
model's own readings: log entries 1, 15 and 51. -/
def Obligations.BootFindsTheImage : Prop :=
  (∀ (almsel test : Bool) (bands : Nat) (s : State), isBands bands = true → s.inPhase 1 = true → s.pwr.shed = [] →
    Runs (.bootOscillator almsel test bands) s (fun t =>
      t.phase = 2 ∧ t.sys.vddio = true ∧ t.sys.xosc = true ∧
      t.flag .SYS_STAT_ALMPIN = (if s.sys.strapDue then almsel else s.flag .SYS_STAT_ALMPIN) ∧
      t.testMode = (if s.sys.testDue then test else s.testMode) ∧ t.sys.strapDue = false ∧ t.sys.testDue = false ∧
      t.flag .SYS_BOOTST_AUTH = s.nvm.imgKey.isSome ∧ t.flag .LOG_STAT_NOKEY = s.nvm.logKey.isNone ∧
      (∀ n, n < 6 → t.fld (bandFld n) = bands / 4 ^ n % 4) ∧ t.profile = t.profileTarget ∧
      t.flag .PWR_STAT_PROFCHG = s.flag .PWR_STAT_PROFCHG ∧
      BlocksKept [0, 1, 7, 11, 12] s t ∧ MemKept s t)) ∧
  (∀ (sfdp : Option Sfdp) (s : State), sfdp.all isSfdp = true → s.inPhase 2 = true →
    Runs (.bootHeaders false sfdp) s (fun t =>
      t.phase = 3 ∧ t.sys.boot.memory = false ∧ FieldsKept [.SYS_BOOTST_PHASE] s t ∧
      t = { s with regs := t.regs, sys := { s.sys with boot := { s.sys.boot with memory := false } } })) ∧
  (∀ (d : Sfdp) (s : State), isSfdp d = true → d.erase4k = true → s.inPhase 2 = true →
    Runs (.bootHeaders true (some d)) s (fun t =>
      t.phase = 3 ∧ t.sys.boot.memory = true ∧ t.fld .XMEM_STAT_KIND = 1 ∧ t.flag .XMEM_STAT_SAFE = false ∧
      t.flag .XMEM_STAT_ADDR4 = d.addr4 ∧ t.flag .XMEM_STAT_QUAD = (d.readMode != 0) ∧
      t.reg32 Reg.XMEM_SIZE = d.size ∧ t.xfer.page = d.page ∧ t.xfer.clockMax = d.clockMhz ∧ t.xfer.eraseOp = d.eraseOp ∧
      BlocksKept [0, 9] s t ∧ MemKept s t)) ∧
  (∀ (d : Sfdp) (s : State), isSfdp d = true → d.erase4k = false → s.inPhase 2 = true →
    Runs (.bootHeaders true (some d)) s (fun t =>
      t.phase = 3 ∧ t.sys.boot.memory = true ∧ t.fld .XMEM_STAT_KIND = 1 ∧ t.flag .XMEM_STAT_SAFE = true ∧
      t.reg32 Reg.XMEM_SIZE = 16777216 ∧ t.xfer.clockMax = 4 ∧ BlocksKept [0, 9] s t ∧ MemKept s t)) ∧
  (∀ (r : List Byte) (s : State), s.inPhase 2 = true → [s.header 0, s.header 1].findSome? strapOf = some r →
    Runs (.bootHeaders true none) s (fun t =>
      t.phase = 3 ∧ t.sys.boot.memory = true ∧ t.flag .XMEM_STAT_SAFE = false ∧
      t.fld .XMEM_STAT_KIND = (r.getD 0 0).toNat + 1 ∧ t.xfer.clockMax = (r.getD 3 0).toNat ∧
      t.reg32 Reg.XMEM_SIZE = 2 ^ (r.getD 4 0).toNat ∧ BlocksKept [0, 9] s t ∧ MemKept s t)) ∧
  (∀ s : State, s.inPhase 2 = true → [s.header 0, s.header 1].findSome? strapOf = none →
    Runs (.bootHeaders true none) s (fun t =>
      t.phase = 3 ∧ t.sys.boot.memory = true ∧ t.fld .XMEM_STAT_KIND = 0 ∧ t.flag .XMEM_STAT_SAFE = true ∧
      t.reg32 Reg.XMEM_SIZE = 16777216 ∧ t.xfer.clockMax = 4 ∧ BlocksKept [0, 9] s t ∧ MemKept s t)) ∧
  (∀ (sfdp : Option Sfdp) (s : State), sfdp.all isSfdp = true → s.inPhase 2 = true →
    Runs (.bootHeaders true sfdp) s (fun t =>
      t.phase = 3 ∧ t.sys.boot.memory = true ∧
      (hasMagic (s.header 0) = true → hasMagic (s.header 1) = false → t.sys.boot.candidate = some 0) ∧
      (hasMagic (s.header 0) = false → hasMagic (s.header 1) = true → t.sys.boot.candidate = some 1) ∧
      (hasMagic (s.header 0) = false → hasMagic (s.header 1) = false → t.sys.boot.candidate = none) ∧
      (hasMagic (s.header 0) = true → hasMagic (s.header 1) = true →
        (newer16 (hSeq (s.header 0)) (hSeq (s.header 1)) = true → t.sys.boot.candidate = some 1) ∧
        (newer16 (hSeq (s.header 1)) (hSeq (s.header 0)) = true → t.sys.boot.candidate = some 0) ∧
        (newer16 (hSeq (s.header 0)) (hSeq (s.header 1)) = false → newer16 (hSeq (s.header 1)) (hSeq (s.header 0)) = false →
          t.sys.boot.candidate = none ∧ t.sys.boot.tie = true)))) ∧
  (∀ s : State, s.inPhase 3 = true →
    Runs .bootImageCheck s (fun t =>
      t.phase = (if s.sys.boot.scanDone then 5 else 4) ∧ t.sys.boot.imageDone = true ∧
      (s.sys.boot.memory = false → t.fld .SYS_BOOTST_RESULT = resNoXmem) ∧
      (s.sys.boot.memory = true → s.sys.boot.tie = false → s.sys.boot.candidate = none →
        t.fld .SYS_BOOTST_RESULT = resBlank) ∧
      (∀ c, s.sys.boot.memory = true → s.sys.boot.tie = false → s.sys.boot.candidate = some c → c < 2 →
        (s.slotValid c = true → t.fld .SYS_BOOTST_RESULT = resOk ∧ t.fld .SYS_BOOTST_SLOT = c) ∧
        (s.slotValid c = false → s.sys.boot.magicA = true → s.sys.boot.magicB = true → s.slotValid (1 - c) = true →
          t.fld .SYS_BOOTST_RESULT = resOk ∧ t.fld .SYS_BOOTST_SLOT = 1 - c ∧ t.flag .SYS_BOOTST_FALLBK = true) ∧
        (s.slotValid c = false → s.slotValid (1 - c) = false → t.fld .SYS_BOOTST_RESULT = resBadImg)) ∧
      (s.sys.boot.memory = true → s.sys.boot.tie = true →
        (s.slotValid 0 = true → t.fld .SYS_BOOTST_RESULT = resOk ∧ t.fld .SYS_BOOTST_SLOT = 0) ∧
        (s.slotValid 0 = false → s.slotValid 1 = true → t.fld .SYS_BOOTST_RESULT = resOk ∧ t.fld .SYS_BOOTST_SLOT = 1) ∧
        (s.slotValid 0 = false → s.slotValid 1 = false → t.fld .SYS_BOOTST_RESULT = resBadImg)) ∧ MemKept s t)) ∧
  (∀ s : State, s.sys.held = false → s.isActive = false → 2 ≤ s.phase → s.phase ≤ 4 → s.sys.boot.scanDone = false →
    Runs .bootScan s (fun t =>
      t.sys.boot.scanDone = true ∧ t.phase = (if s.sys.boot.imageDone then 5 else s.phase) ∧
      (s.nvm.loose = [] → s.nvm.errs = [] →
        (∀ n, n < 8 → t.reg32 (Reg.CNT n) = s.storedCount n % 4294967296) ∧ MemKept s t))) ∧
  (∀ (almsel test : Bool) (bands : Nat) (c : Instr) (n : Nat) (s : State), isBands bands = true →
      (c = .bootOscillator almsel test bands ∧ n = 1) ∨ (c = .bootHeaders test none ∧ n = 2) ∨
        (c = .bootImageCheck ∧ n = 3) →
      s.inPhase n = false → Runs c s (fun t => t = s)) ∧
  (∀ s : State, s.sys.held = true ∨ s.isActive = true ∨ s.sys.boot.scanDone = true ∨ s.phase < 2 ∨ 4 < s.phase →
    Runs .bootScan s (fun t => t = s))

/-- BOOT_APPLY, PROTECTION_LOCK, BOOT_REFERENCE_WAIT and ENTER_ACTIVE (R71, R73, R77 to R79, R83, R86, R491, R645): phases 5 to
8, each in its phase only. A unit without a good image is unconfigured, and with a bad one its fitted loops go to ALARM; CNT[1]
counts the boot after POR and BOR; the protection is locked with the default map, the image's map, or the closed map with its
report; the buffer is turned on; at the end the unit is active, in bivouac where its profile is NONE. The model's own readings:
log entries 14 and 15. -/
def Obligations.BootEndsInActive : Prop :=
  (∀ s : State, s.inPhase 5 = true → s.fld .SYS_BOOTST_RESULT ≠ resOk →
    Runs .bootApply s (fun t =>
      t.phase = 6 ∧ t.flag .SYS_STAT_UNCONF = true ∧
      (s.sys.boot.cause = .por ∨ s.sys.boot.cause = .bor →
        t.reg32 (Reg.CNT 1) = (s.reg32 (Reg.CNT 1) + 1) % 4294967296) ∧
      (s.sys.boot.cause ≠ .por → s.sys.boot.cause ≠ .bor → t.reg32 (Reg.CNT 1) = s.reg32 (Reg.CNT 1)) ∧
      (s.fld .SYS_BOOTST_RESULT = resBadImg → ∀ n, n < 6 → s.fitted n = true → t.fld (.LOOP_MODE_MODE n) = 3) ∧
      (s.flag .PWR_CFG_VAUXEN = false → t.flag .PWR_STAT_VAUXP = false) ∧ MemKept s t)) ∧
  (∀ s : State, s.inPhase 5 = true →
    Runs .bootApply s (fun t => t.phase = 6 ∧
      t.flag .SYS_STAT_UNCONF = decide (s.fld .SYS_BOOTST_RESULT ≠ resOk) ∧ MemKept s t)) ∧
  (∀ s : State, s.inPhase 6 = true → s.sys.boot.lockDone = false → s.sys.boot.mapRec = none →
    Runs .protectionLock s (fun t =>
      t.sys.prot = lockedMap defaultMap ∧ t.flag .SYS_STAT_LOCKED = true ∧ t.flag .SYS_BOOTST_DEFMAP = true ∧
      t.sys.boot.lockDone = true ∧
      t.phase = (if s.flag .REF_CTRL_BUFEN && !s.isFatal then 7 else 6) ∧ BlocksKept [0, 7] s t ∧ MemKept s t)) ∧
  (∀ (m : List Word) (s : State), s.inPhase 6 = true → s.sys.boot.lockDone = false → s.sys.boot.mapRec = some m →
      mapOk m = true →
    Runs .protectionLock s (fun t =>
      t.sys.prot = lockedMap ((ew m 0 &&& 0xFFFE) :: (m.drop 1).take 12) ∧ t.flag .SYS_STAT_LOCKED = true ∧
      t.flag .SYS_BOOTST_DEFMAP = false ∧ t.sys.boot.lockDone = true ∧ t.sys.boot.closedMap = false ∧
      t.phase = (if s.flag .REF_CTRL_BUFEN && !s.isFatal then 7 else 6) ∧ BlocksKept [0, 7] s t ∧ MemKept s t)) ∧
  (∀ (m : List Word) (s : State), s.inPhase 6 = true → s.sys.boot.lockDone = false → s.sys.boot.mapRec = some m →
      mapOk m = false → s.isFatal = false → Watches 2 s →
    Runs .protectionLock s (fun t =>
      t.sys.prot = lockedMap closedMap ∧ t.flag .SYS_STAT_LOCKED = true ∧ t.flag .SYS_BOOTST_DEFMAP = false ∧
      t.sys.boot.closedMap = true ∧ Reported 2 1 clsU s t ∧ MemKept s t)) ∧
  (∀ s : State, s.inPhase 7 = true → s.sys.boot.refWait = false →
    Runs .bootReferenceWait s (fun t =>
      t.flag .REF_STAT_BUFON = true ∧ t.flag .SYS_BOOTST_REFW = true ∧
      FieldsKept [.REF_STAT_BUFON, .SYS_BOOTST_REFW] s t ∧
      t = { s with regs := t.regs, sys := { s.sys with boot := { s.sys.boot with refWait := true } } })) ∧
  (∀ (stable : Bool) (s : State), s.bootEnded = true →
    Runs (.enterActive stable) s (fun t =>
      t.phase = 8 ∧ t.isActive = true ∧ t.sys.crystal = stable ∧
      (s.profile = 0 → t.mode = modeBivouac) ∧
      (s.profile ≠ 0 → s.flag .SYS_MODE_BIVREQ = false → t.inBivouac = false ∧ t.sys.slicesOn = true) ∧
      (∀ n, n < s.loops.length → n < 6 → (t.loop n).mode = s.fld (.LOOP_MODE_MODE n)) ∧
      (s.role = 1 → t.flag .ROPE_STAT_HEAD = true) ∧
      (stable = false → Watches 18 s → t.fldBit ⟨Reg.FLT_ACT + 1, 0, 16⟩ 2 = true) ∧
      (∀ a, t.storeByte a = s.storeByte a) ∧ (∀ a, t.memByte a = s.memByte a))) ∧
  (∀ (c : Instr) (stable : Bool) (s : State), (c = .bootApply ∧ s.inPhase 5 = false) ∨
      (c = .protectionLock ∧ (s.inPhase 6 = false ∨ s.sys.boot.lockDone = true)) ∨
      (c = .bootReferenceWait ∧ (s.inPhase 7 = false ∨ s.sys.boot.refWait = true)) ∨
      (c = .enterActive stable ∧ s.bootEnded = false) →
    Runs c s (fun t => t = s))

/-! ### The host port, the register map and the windows (04) -/

/-- HOST_READ_FRAME, HOST_WRITE_FRAME and HOST_NOP_FRAME (R9, R119 to R125, R127, R129, R134, R135): the bits of a frame
say which command it is; a good frame shifts the standing answer out and leaves its own, at the address it carries or at the
next one of the burst; one that fails its CRC does nothing and leaves CRCERR; one that starts within the gap shifts ones out and
the answer waits; before ACTIVE a frame is answered BUSY, while a remote access waits with BUSY and PEND, and for another unit
of a chain that is not enumerated with UNITERR. The model's own readings: log entries 12 and 13. -/
def Obligations.HostFramesAreAnswered : Prop :=
  (∀ (f : HostFrame) (s : State), isFrame f = true → f.gapOk = true → frameCrcOk false f = true → f.data = 0 →
      f.inc = false → s.ownTarget f.unit = true → s.host.burst = none → s.remotePending = false →
      AdmitsRead .host f.addr s → plainlyRead f.addr = true →
    Runs (.hostReadFrame f) s (fun t =>
      t.host = { s.host with answer := ⟨0, s.reg f.addr⟩, shifted := s.answerBytes, driven := true } ∧
      t.reg f.addr = s.reg f.addr &&& ~~~(word (regInfo f.addr).rc) ∧ FieldsKept [wholeReg f.addr] s t ∧
      t = { s with regs := t.regs, paths := t.paths, host := t.host })) ∧
  (∀ (f : HostFrame) (s : State), isFrame f = true → f.gapOk = true → frameCrcOk true f = true →
      f.inc = false → s.ownTarget f.unit = true → s.host.burst = none → s.remotePending = false →
      Admits .host f.addr s → plainlyWritten f.addr = true →
    Runs (.hostWriteFrame f) s (fun t =>
      t.host = { s.host with answer := ⟨0, word f.data⟩, shifted := s.answerBytes, driven := true } ∧
      t.reg f.addr = writtenWord f.addr (s.reg f.addr) (word f.data) ∧ FieldsKept [wholeReg f.addr] s t ∧
      t = { s with regs := t.regs, paths := t.paths, host := t.host })) ∧
  (∀ (crc : Nat) (s : State), frameCrcOk false (nopFrame crc true) = true → crc < 256 → s.served = true →
    Runs (.hostNopFrame crc true) s (fun t =>
      t.host.shifted = s.answerBytes ∧
      (s.host.remote = none → t.host.answer = ⟨0, 0⟩) ∧
      (∀ r, s.host.remote = some r → r.answer = none → t.host.answer = ⟨stPend, 0⟩ ∧ t.host.remote = some r) ∧
      (∀ r a, s.host.remote = some r → r.answer = some a → t.host.answer = a ∧ t.host.remote = none) ∧
      t = { s with host := t.host })) ∧
  (∀ (c : Instr) (f : HostFrame) (s : State), isFrame f = true → f.gapOk = true → s.sys.held = false →
      (c = .hostReadFrame f ∧ frameCrcOk false f = false) ∨ (c = .hostWriteFrame f ∧ frameCrcOk true f = false) →
    Runs c s (fun t => t = { s with host :=
      { s.host with answer := ⟨stCrcErr, 0⟩, shifted := s.answerBytes, driven := true } })) ∧
  (∀ (c : Instr) (f : HostFrame) (s : State), isFrame f = true → f.gapOk = false → s.sys.held = false →
      c = .hostReadFrame f ∨ c = .hostWriteFrame f ∨ c = .hostNopFrame f.crc false →
    Runs c s (fun t => t = { s with host := { s.host with shifted := List.replicate 5 0xFF, driven := true } })) ∧
  (∀ (f : HostFrame) (last : Nat) (s : State), isFrame f = true → f.gapOk = true → frameCrcOk false f = true → f.data = 0 →
      f.inc = true → s.ownTarget f.unit = true → s.host.burst = some (false, f.unit, last) → last < 511 →
      s.remotePending = false → AdmitsRead .host (last + 1) s → plainlyRead (last + 1) = true →
    Runs (.hostReadFrame f) s (fun t =>
      t.host = { s.host with answer := ⟨0, s.reg (last + 1)⟩, shifted := s.answerBytes, driven := true,
                             burst := some (false, f.unit, last + 1) } ∧
      t.reg (last + 1) = s.reg (last + 1) &&& ~~~(word (regInfo (last + 1)).rc) ∧
      FieldsKept [wholeReg (last + 1)] s t ∧ t = { s with regs := t.regs, paths := t.paths, host := t.host })) ∧
  (∀ (f : HostFrame) (s : State), isFrame f = true → f.gapOk = true → frameCrcOk true f = true → s.sys.held = false →
      s.served = false →
    Runs (.hostWriteFrame f) s (fun t => t = { s with host :=
      { s.host with answer := ⟨stBusy, word f.data⟩, shifted := s.answerBytes, driven := true, burst := none } })) ∧
  (∀ (f : HostFrame) (s : State), isFrame f = true → f.gapOk = true → frameCrcOk true f = true → s.served = true →
      s.remotePending = true →
    Runs (.hostWriteFrame f) s (fun t => t = { s with host :=
      { s.host with answer := ⟨stPend + stBusy, 0⟩, shifted := s.answerBytes, driven := true } })) ∧
  (∀ (f : HostFrame) (s : State), isFrame f = true → f.gapOk = true → frameCrcOk true f = true → s.served = true →
      s.remotePending = false → s.hasAddr = false → f.unit ≠ 0 →
    Runs (.hostWriteFrame f) s (fun t => t = { s with host :=
      { s.host with answer := ⟨stUnitErr, word f.data⟩, shifted := s.answerBytes, driven := true, burst := none } })) ∧
  (∀ (w : Bool) (f : HostFrame), isFrame f = true →
    hostFrameCommand (frameBits w f) f.gapOk =
      (if w then .hostWriteFrame f
       else if f.unit = 0 ∧ f.addr = 0 ∧ f.inc = false ∧ f.data = 0xFFFF then .hostNopFrame f.crc f.gapOk
       else .hostReadFrame f))

/-- HCS_RISE, HOST_FRAME_ABORT and REMOTE_ACCESS_TIMEOUT (R117, R118, R127, R131): HCS ends a burst and releases HSDO; a frame
broken off leaves CRCERR, with the whole bytes of the answer that were shifted out, and in reset only ends as HCS rises; 5 ms
without an answer end a remote access with UNITERR, and without one that waits nothing happens. The model's own readings: log
entries 12 and 13. -/
def Obligations.HostPortEnds : Prop :=
  (∀ s : State, Runs .hcsRise s (fun t => t = { s with host := { s.host with burst := none, driven := false } })) ∧
  (∀ (e : Nat) (s : State), e % 40 ≠ 0 → s.sys.held = false →
    Runs (.hostFrameAbort e) s (fun t => t = { s with host := { s.host with
      answer := ⟨stCrcErr, 0⟩, shifted := s.answerBytes.take (e % 40 / 8), driven := false, burst := none } })) ∧
  (∀ (r : Remote) (s : State), s.host.remote = some r → r.answer = none →
    Runs .remoteAccessTimeout s (fun t => t = { s with host := { s.host with
      remote := some { r with answer := some ⟨stUnitErr, 0⟩ } } })) ∧
  (∀ (e : Nat) (s : State), e % 40 ≠ 0 → s.sys.held = true →
    Runs (.hostFrameAbort e) s (fun t => t = { s with host := { s.host with burst := none, driven := false } })) ∧
  (∀ s : State, s.remotePending = false → Runs .remoteAccessTimeout s (fun t => t = s))

/-- REGISTER_WRITE and READ_CLEAR (R9, R84, R91, R125, R126, R147): a write changes the register under its access codes and
nothing else, its staged fields going to the shadow, or answered BUSY while a check or a commit holds them; a read clears the RC
fields and answers the word before; a refused write is discarded and a refused read returns 0, both with DENY; before ACTIVE
both are answered BUSY; and SYS.ID and SYS.BOOTST can always be read. -/
def Obligations.RegistersObeyTheirAccessCodes : Prop :=
  (∀ (p : Path) (a v : Nat) (s : State), isPath p = true → a < 512 → fits 16 v = true → Admits p a s →
      plainlyWritten a = true →
    Runs (.registerWrite p a v) s (fun t =>
      t.reg a = writtenWord a (s.reg a) (word v) ∧ FieldsKept [wholeReg a] s t ∧
      (p = .host → t.host = { s.host with answer := ⟨0, word v⟩ }) ∧ (p ≠ .host → t.host = s.host) ∧
      t = { s with regs := t.regs, paths := t.paths, host := t.host })) ∧
  (∀ (p : Path) (a : Nat) (s : State), isPath p = true → a < 512 → AdmitsRead p a s → plainlyRead a = true →
    Runs (.readClear p a) s (fun t =>
      t.reg a = s.reg a &&& ~~~(word (regInfo a).rc) ∧ FieldsKept [wholeReg a] s t ∧
      (p = .host → t.host = { s.host with answer := ⟨0, s.reg a⟩ }) ∧ (p ≠ .host → t.host = s.host) ∧
      t = { s with regs := t.regs, paths := t.paths, host := t.host })) ∧
  (∀ (p : Path) (a v : Nat) (s : State), isPath p = true → a < 512 → fits 16 v = true → s.served = true →
      s.mayWrite p (blockOf a) = false →
    Runs (.registerWrite p a v) s (fun t =>
      (accessWrite p a (word v) s).1 = stDeny ∧
      (p = .host → t.host = { s.host with answer := ⟨stDeny, word v⟩ }) ∧ (p ≠ .host → t.host = s.host) ∧
      (s.flt.injPath ≠ some p → t = { s with paths := t.paths, host := t.host }) ∧
      FieldsKept [.FLT_STAT_INJARM] s t ∧
      t = { s with regs := t.regs, paths := t.paths, host := t.host, flt := { s.flt with injPath := t.flt.injPath } })) ∧
  (∀ (p : Path) (a : Nat) (s : State), isPath p = true → a < 512 → s.served = true →
      a ≠ Reg.SYS_ID → a ≠ Reg.SYS_BOOTST → s.mayRead p (blockOf a) = false →
    Runs (.readClear p a) s (fun t =>
      (accessRead p a s).1 = ⟨stDeny, 0⟩ ∧
      (p = .host → t.host = { s.host with answer := ⟨stDeny, 0⟩ }) ∧ (p ≠ .host → t.host = s.host) ∧
      t = { s with paths := t.paths, host := t.host })) ∧
  (∀ (p : Path) (a : Nat) (s : State), isPath p = true → s.served = true → a = Reg.SYS_ID ∨ a = Reg.SYS_BOOTST →
    Runs (.readClear p a) s (fun t =>
      (accessRead p a s).1 = ⟨0, s.reg a⟩ ∧ (p = .host → t.host = { s.host with answer := ⟨0, s.reg a⟩ }) ∧
      t = { s with paths := t.paths, host := t.host })) ∧
  (∀ (p : Path) (a v : Nat) (s : State), isPath p = true → a < 512 → fits 16 v = true → s.served = false →
    Runs (.registerWrite p a v) s (fun t =>
      (p = .host → t.host = { s.host with answer := ⟨stBusy, word v⟩ }) ∧ (p ≠ .host → t.host = s.host) ∧
      t = { s with host := t.host })) ∧
  (∀ (p : Path) (a : Nat) (s : State), isPath p = true → a < 512 → s.served = false →
    Runs (.readClear p a) s (fun t =>
      (p = .host → t.host = { s.host with answer :=
        ⟨stBusy, if a = Reg.SYS_ID ∨ a = Reg.SYS_BOOTST then s.reg a else 0⟩ }) ∧ (p ≠ .host → t.host = s.host) ∧
      t = { s with host := t.host })) ∧
  (∀ (p : Path) (a v : Nat) (s : State), isPath p = true → a < 512 → fits 16 v = true → s.served = true →
      s.mayWrite p (blockOf a) = true → s.isFatal = false → (regInfo a).lk = 0 → stMask a ≠ 0 → s.stagedBusy = true →
      s.flt.injPath ≠ some p →
    Runs (.registerWrite p a v) s (fun t =>
      (p = .host → t.host = { s.host with answer := ⟨stBusy, word v⟩ }) ∧ (p ≠ .host → t.host = s.host) ∧
      t = { s with paths := t.paths, host := t.host })) ∧
  (∀ (p : Path) (a v : Nat) (s : State), isPath p = true → a < 512 → fits 16 v = true → Admits p a s → stMask a ≠ 0 →
      actingRegs.contains a = false → regQWord a = none → windowReg a = none → forceSlice a = none → fixedLoop a = none →
    Runs (.registerWrite p a v) s (fun t =>
      t.shadowReg a = ((t.reg a &&& ~~~(stMask a)) ||| (word v &&& stMask a)) ∧
      t.reg a = writtenWord a (s.reg a) (word v) ∧ t.flag .STG_STAT_DIRTY = true ∧
      FieldsKept [wholeReg a, .STG_STAT_DIRTY] s t ∧ t.tab = s.tab ∧
      (p = .host → t.host = { s.host with answer := ⟨0, word v⟩ }) ∧ (p ≠ .host → t.host = s.host) ∧
      t = { s with regs := t.regs, paths := t.paths, host := t.host, stg := { s.stg with regs := t.stg.regs } }))

/-- WINDOW_SPACE_WRITE, WINDOW_DATA_ACCESS and WINDOW_IDLE_CLOSE (R5, R142 to R147): a write of SPACE gives the window to
its path at entry 0, word 0, and an unknown space is refused; each access to DATA reads a word without its reserved bits, or
stages one, and advances by one word; one outside the space sets ERR and is refused, and one by another path is refused; a rope
or loop path's window closes when idle, and any other stays. The model's own readings: log entries 18 and 58. -/
def Obligations.WindowsReachTheTables : Prop :=
  (∀ (p : Path) (n v : Nat) (s : State), isPath p = true → n < 4 → n < s.wins.length → fits 16 v = true → v % 256 ≤ 13 →
      Admits p (Reg.WIN_SPACE n) s →
    Runs (.windowSpaceWrite p n v) s (fun t =>
      t.fld (.WIN_SPACE_ID n) = v % 256 ∧ t.fld (.WIN_CUR_CUR n) = 0 ∧ t.fld (.WIN_OFS_OFS n) = 0 ∧
      (t.win n).owner = (if v % 256 = 0 then none else some p) ∧
      (∀ m, m < 4 → m ≠ n → t.win m = s.win m) ∧
      FieldsKept [wholeReg (Reg.WIN_SPACE n), wholeReg (Reg.WIN_CUR n), wholeReg (Reg.WIN_OFS n)] s t ∧
      t = { s with regs := t.regs, paths := t.paths, host := t.host, wins := t.wins })) ∧
  (∀ (p : Path) (n : Nat) (s : State), isPath p = true → n < 4 → AdmitsRead p (Reg.WIN_DATA n) s →
      s.ownsWindow p n = true → s.fld (.WIN_SPACE_ID n) = spTopo → s.flag (.WIN_SPACE_ALT n) = false →
      s.mayRead p (spaceBlock spTopo) = true → s.fld (.WIN_CUR_CUR n) < 256 → s.fld (.WIN_OFS_OFS n) < 7 →
      (s.win n).past = false →
    Runs (.windowDataAccess p n none) s (fun t =>
      (p = .host → t.host.answer =
        ⟨0, s.topoW (s.fld (.WIN_CUR_CUR n)) (s.fld (.WIN_OFS_OFS n)) &&& topoMask (s.fld (.WIN_OFS_OFS n))⟩) ∧
      t.fld (.WIN_OFS_OFS n) = s.fld (.WIN_OFS_OFS n) + 1 ∧ FieldsKept [.WIN_OFS_OFS n] s t ∧
      t = { s with regs := t.regs, paths := t.paths, host := t.host })) ∧
  (∀ (p : Path) (n v : Nat) (s : State), isPath p = true → n < 4 → fits 16 v = true → Admits p (Reg.WIN_DATA n) s →
      s.ownsWindow p n = true → s.fld (.WIN_SPACE_ID n) = spTopo → s.mayWrite p (spaceBlock spTopo) = true →
      s.stagedBusy = false → s.fld (.WIN_CUR_CUR n) < 256 → s.fld (.WIN_OFS_OFS n) = 7 → (s.win n).past = false →
    Runs (.windowDataAccess p n (some v)) s (fun t =>
      t.shadowTopo (s.fld (.WIN_CUR_CUR n)) = (s.shadowTopo (s.fld (.WIN_CUR_CUR n))).set 7 (word v) ∧
      t.topoEntry (s.fld (.WIN_CUR_CUR n)) = s.topoEntry (s.fld (.WIN_CUR_CUR n)) ∧
      t.flag .STG_STAT_DIRTY = true ∧ t.fld (.WIN_OFS_OFS n) = 0 ∧
      t.fld (.WIN_CUR_CUR n) = s.fld (.WIN_CUR_CUR n) + 1 ∧
      FieldsKept [.WIN_OFS_OFS n, .WIN_CUR_CUR n, .STG_STAT_DIRTY] s t ∧
      t = { s with regs := t.regs, paths := t.paths, host := t.host, wins := t.wins, stg := t.stg })) ∧
  (∀ (n : Nat) (s : State), n < 4 → n < s.wins.length →
      (∃ r, (s.win n).owner = some (.rope r)) ∨ (∃ c, (s.win n).owner = some (.loop c)) →
    Runs (.windowIdleClose n) s (fun t =>
      t.fld (.WIN_SPACE_ID n) = 0 ∧ t.win n = {} ∧ FieldsKept [.WIN_SPACE_ID n] s t ∧
      t = { s with regs := t.regs, wins := t.wins })) ∧
  (∀ (n : Nat) (s : State), n < 4 →
      (s.win n).owner = none ∨ (s.win n).owner = some .host ∨ (s.win n).owner = some .engine →
    Runs (.windowIdleClose n) s (fun t => t = s)) ∧
  (∀ (p : Path) (n v : Nat) (s : State), isPath p = true → n < 4 → fits 16 v = true → 13 < v % 256 →
      Admits p (Reg.WIN_SPACE n) s →
    Runs (.windowSpaceWrite p n v) s (fun t =>
      (p = .host → t.host = { s.host with answer := ⟨stDeny, word v⟩ }) ∧ (p ≠ .host → t.host = s.host) ∧
      t = { s with paths := t.paths, host := t.host })) ∧
  (∀ (p : Path) (n : Nat) (w : Option Nat) (s : State), isPath p = true → n < 4 → w.all (fits 16) = true →
      Admits p (Reg.WIN_DATA n) s → s.mayRead p (blockOf (Reg.WIN_DATA n)) = true → s.ownsWindow p n = false →
    Runs (.windowDataAccess p n w) s (fun t =>
      (p = .host → t.host.answer = ⟨stDeny, word (w.getD 0)⟩) ∧ (p ≠ .host → t.host = s.host) ∧
      t = { s with paths := t.paths, host := t.host })) ∧
  (∀ (p : Path) (n : Nat) (w : Option Nat) (s : State), isPath p = true → n < 4 → w.all (fits 16) = true →
      Admits p (Reg.WIN_DATA n) s → s.mayRead p (blockOf (Reg.WIN_DATA n)) = true → s.ownsWindow p n = true →
      s.mayRead p (spaceBlock (s.fld (.WIN_SPACE_ID n))) = true → s.mayWrite p (spaceBlock (s.fld (.WIN_SPACE_ID n))) = true →
      (s.win n).past = true ∨ (spaceSize (s.fld (.WIN_SPACE_ID n))).1 ≤ s.fld (.WIN_CUR_CUR n) ∨
        (spaceSize (s.fld (.WIN_SPACE_ID n))).2 ≤ s.fld (.WIN_OFS_OFS n) →
    Runs (.windowDataAccess p n w) s (fun t =>
      t.flag (.WIN_SPACE_ERR n) = true ∧
      (p = .host → t.host.answer = ⟨stDeny, word (w.getD 0)⟩) ∧ FieldsKept [.WIN_SPACE_ERR n] s t ∧
      t = { s with regs := t.regs, paths := t.paths, host := t.host }))

/-- COMMIT, CHECK, DISCARD, CHECK_LIST_END, COMMIT_INSTANT and BANK_COPY_DONE (R125, R147 to R156): the commands start or
undo, a reserved instant and a DISCARD of a held PREPARE are refused, and while a check runs all are answered BUSY; the check
list's end arms, passes or rejects; at the instant the shadow becomes active and is counted; a copy that is done brings the banks
together. Without a check, an instant or a copy due nothing happens. The model's own readings: log entries 17, 56 and 57. -/
def Obligations.StagedSettingsAreCommitted : Prop :=
  (∀ (p : Path) (k : Nat) (s : State), isPath p = true → k ≤ 2 → Admits p Reg.STG_CTRL s → s.stg.checking = none →
    Runs (.commit p k) s (fun t =>
      t.stg = { s.stg with checking := some (1, k, p) } ∧ t.stgState = stChecking ∧ FieldsKept [.STG_STAT_STATE] s t ∧
      t = { s with regs := t.regs, paths := t.paths, host := t.host, stg := t.stg })) ∧
  (∀ (p : Path) (k : Nat) (s : State), isPath p = true → k ≤ 2 → Admits p Reg.STG_CTRL s → s.stg.checking = none →
    Runs (.check p k) s (fun t =>
      t.stg = { s.stg with checking := some (0, k, p) } ∧ t.stgState = stChecking ∧ FieldsKept [.STG_STAT_STATE] s t ∧
      t = { s with regs := t.regs, paths := t.paths, host := t.host, stg := t.stg })) ∧
  (∀ (p : Path) (s : State), isPath p = true → Admits p Reg.STG_CTRL s → s.stg.checking = none → s.stg.teamHeld = false →
    Runs (.discard p) s (fun t =>
      t.flag .STG_STAT_DIRTY = false ∧ t.stgState = stIdle ∧ t.stg.armed = false ∧ t.stg.regs = [] ∧ t.stg.topo = [] ∧
      t.stg.route = [] ∧ t.stg.valprog = [] ∧ t.stg.wave = [] ∧ t.stg.fsk = [] ∧
      t.tab = { s.tab with coefAlt := s.tab.coef, charAlt := s.tab.char } ∧ BlocksKept [12] s t ∧ MemKept s t)) ∧
  (∀ (p : Path) (s : State), s.stg.checking = some (1, 0, p) → checkList 0 p { s with stg := { s.stg with checking := none } } = none →
      s.rope.prepWait = [] →
    Runs .checkListEnd s (fun t =>
      t.stg = { s.stg with checking := none, armed := true, armedAt := 0, armedAngle := 0, reached := true } ∧
      t.stgState = stArmed ∧ t.fld .STG_STAT_REASON = 0 ∧
      FieldsKept [.STG_STAT_STATE, .STG_STAT_REASON, wholeReg Reg.STG_ITEM] s t ∧
      t = { s with regs := t.regs, stg := t.stg })) ∧
  (∀ (p : Path) (k at_ r item : Nat) (s : State), s.stg.checking = some (k, at_, p) → k ≤ 1 → r < 16 → item < 65536 →
      checkList at_ p { s with stg := { s.stg with checking := none } } = some (r, item) → s.rope.prepWait = [] →
    Runs .checkListEnd s (fun t =>
      t.stg = { s.stg with checking := none } ∧ t.stgState = stReject ∧ t.fld .STG_STAT_REASON = r ∧
      t.regN Reg.STG_ITEM = item ∧ t.flag .STG_STAT_DONE = true ∧
      FieldsKept [.STG_STAT_STATE, .STG_STAT_REASON, .STG_STAT_DONE, wholeReg Reg.STG_ITEM] s t ∧
      t = { s with regs := t.regs, stg := t.stg })) ∧
  (∀ s : State, s.stg.armed = true → s.stg.reached = true →
    Runs .commitInstant s (fun t =>
      t.stg.armed = false ∧ t.stg.regs = [] ∧ t.stg.topo = [] ∧ t.flag .STG_STAT_DIRTY = false ∧
      t.stgState = stApplied ∧ t.regN Reg.STG_COUNT = (s.regN Reg.STG_COUNT + 1) % 65536 ∧
      t.regN Reg.STG_APPANG = s.angPos ∧ t.flag .STG_STAT_DONE = true ∧
      (∀ e, e < 256 → t.topoEntry e = s.shadowTopo e) ∧
      (s.stg.coefHost ≠ [] → t.tab.coef = s.tab.coefAlt ∧ t.stg.coefCopy = true) ∧
      (∀ a, t.storeByte a = s.storeByte a))) ∧
  (∀ s : State, s.stg.coefCopy = true →
    Runs (.bankCopyDone .coef) s (fun t =>
      t = { s with tab := { s.tab with coefAlt := s.tab.coef }, stg := { s.stg with coefCopy := false } })) ∧
  (∀ s : State, s.stg.charCopy = true →
    Runs (.bankCopyDone .char) s (fun t =>
      t = { s with tab := { s.tab with charAlt := s.tab.char }, stg := { s.stg with charCopy := false } })) ∧
  (∀ (p : Path) (s : State), s.stg.checking = some (0, 0, p) →
      checkList 0 p { s with stg := { s.stg with checking := none } } = none → s.rope.prepWait = [] →
    Runs .checkListEnd s (fun t =>
      t.stg = { s.stg with checking := none } ∧ t.stgState = stPassed ∧ t.fld .STG_STAT_REASON = 0 ∧
      t.regN Reg.STG_ITEM = 0 ∧ t.flag .STG_STAT_DONE = true ∧
      FieldsKept [.STG_STAT_STATE, .STG_STAT_REASON, .STG_STAT_DONE, wholeReg Reg.STG_ITEM] s t ∧
      t = { s with regs := t.regs, stg := t.stg })) ∧
  (∀ (c : Instr) (p : Path) (k : Nat) (s : State), isPath p = true → k < 8 →
      ((c = .commit p k ∨ c = .check p k) ∧ 2 < k) ∨ (c = .discard p ∧ s.stg.checking = none ∧ s.stg.teamHeld = true) →
      Admits p Reg.STG_CTRL s →
    Runs c s (fun t =>
      (p = .host → t.host.answer.status = stDeny) ∧ (p ≠ .host → t.host = s.host) ∧
      t = { s with paths := t.paths, host := t.host })) ∧
  (∀ (c : Instr) (p : Path) (k : Nat) (s : State), isPath p = true → k ≤ 2 →
      c = .commit p k ∨ c = .check p k ∨ c = .discard p → s.stg.checking ≠ none → Admits p Reg.STG_CTRL s →
    Runs c s (fun t =>
      (p = .host → t.host.answer.status = stBusy) ∧ (p ≠ .host → t.host = s.host) ∧
      t = { s with paths := t.paths, host := t.host })) ∧
  (∀ (c : Instr) (s : State), (c = .checkListEnd ∧ s.stg.checking = none) ∨
      (c = .commitInstant ∧ (s.stg.armed = false ∨ s.stg.reached = false)) ∨
      (c = .bankCopyDone .coef ∧ s.stg.coefCopy = false) ∨ (c = .bankCopyDone .char ∧ s.stg.charCopy = false) →
    Runs c s (fun t => t = s))

/-! ### The angle base (05) -/

/-- ANGLE_ADVANCE, SPEED_STOP, INDEX_EDGE, TOOTH_EDGE, QUAD_COUNT and MAINS_CROSSING (R171, R173, R175, R176, R178 to R180,
R182, R184 to R186): the clock passes and the angle is interpolated; the speed that falls below 0.1 rpm stops; an accepted
edge of INDEX, TOOTH, QUAD and MAINS sets the true angle, which ANG.POS takes unless it lies behind; the filter and the edge
selection pass an event or not; a first crossing of MAINS in loss is a candidate; events of another mode or source do nothing.
The model's own readings: log entries 2 and 23. -/
def Obligations.AngleFollowsItsReference : Prop :=
  (∀ (n : Nat) (s : State), s.sys.held = false →
    Runs (.angleAdvance n) s (fun t => t.now = s.now + n ∧ t.pending = s.pending ∧ (∀ a, t.storeByte a = s.storeByte a))) ∧
  (∀ s : State, s.sys.held = false → s.stg.armed = false → s.ang.deadBand = false → s.ang.expected = none →
      s.angDir = false → s.ang.num ≠ 0 → (s.ang.rem + s.ang.num) / s.ang.den ≤ 4294967296 →
    Runs (.angleAdvance 1) s (fun t =>
      t.ang.acc = (s.ang.acc + (s.ang.rem + s.ang.num) / s.ang.den) % 4294967296 ∧
      t.ang.rem = (s.ang.rem + s.ang.num) % s.ang.den)) ∧
  (∀ s : State, s.speedDecays = true → s.flag .ANG_STAT_STOP = false →
    Runs .speedStop s (fun t =>
      t.reg32 Reg.ANG_SPEED = 0 ∧ t.flag .ANG_STAT_STOP = true ∧ t.ang.num = 0 ∧ t.flag .ANG_STAT_OVSPD = false ∧
      t.angPos = s.angPos ∧ MemKept s t)) ∧
  (∀ (e : AngleEdge) (s : State), s.takesEdge amIndex e = true →
      s.flag .ANG_STAT_SYNC = true → s.ang.lastEvent = none → s.ang.deadBand = false → seenBackward s e.angb = s.angDir →
    Runs (.indexEdge e) s (fun t =>
      t.ang.lastEvent = some s.eventTime ∧ t.ang.events = s.ang.events + 1 ∧ t.ang.expected = some s.zero32 ∧
      t.ang.acc = (advanceBy s.filterClocks s.angDir
        { s.ang with acc := s.zero32, rem := 0, expected := some s.zero32 }).acc ∧
      (s.filterClocks = 0 → t.ang.acc = s.zero32) ∧
      (dist16 s.angDir s.angPos (t.ang.acc / 65536) < 32768 →
        t.angPos = t.ang.acc / 65536 ∧ t.flag .ANG_STAT_SLEW = false) ∧
      (32768 ≤ dist16 s.angDir s.angPos (t.ang.acc / 65536) →
        t.angPos = s.angPos ∧ t.flag .ANG_STAT_SLEW = true))) ∧
  (∀ (e : AngleEdge) (j : Nat) (s : State), s.takesEdge amTooth e = true → seenBackward s e.angb = false →
      s.flag .ANG_STAT_SYNC = true → s.ang.lastEvent = none → s.ang.deadBand = false → s.angDir = false →
      s.ang.tooth = some j → s.filterClocks = 0 →
    Runs (.toothEdge e) s (fun t =>
      t.ang.tooth = some (j + 1) ∧ t.ang.lastEvent = some s.now ∧
      t.ang.acc = (s.zero32 + (j + 1) * 4294967296 / max 1 (s.fld .ANG_TEETH_N)) % 4294967296)) ∧
  (∀ (c : Instr) (e : AngleEdge) (s : State), s.passesFilter e.stable = false ∨ marksEvent s e = false →
      c = .indexEdge e ∨ c = .toothEdge e →
    Runs c s (fun t => t = s)) ∧
  (∀ (a b i : AngleLevel) (s : State), s.passesFilter a.stable = false → s.passesFilter b.stable = false →
      s.passesFilter i.stable = false →
    Runs (.quadCount a b i) s (fun t => t = s)) ∧
  (∀ (a b i : AngleLevel) (s : State), s.localAngle = true → s.angMode = amQuad → s.isActive = true →
      s.flag .ANG_STAT_SYNC = true → s.flag .ANG_CFG_QIDX = false → s.ang.quadTimes = [] →
      s.ang.lastEvent = none → s.ang.deadBand = false → s.angDir = false → s.filterClocks = 0 →
      (grayPlace s.ang.quadA s.ang.quadB + 1) % 4 =
        grayPlace (s.filtered a s.ang.quadA) (s.filtered b s.ang.quadB) →
    Runs (.quadCount a b i) s (fun t =>
      t.ang.quadA = s.filtered a s.ang.quadA ∧ t.ang.quadB = s.filtered b s.ang.quadB ∧
      t.ang.quadI = s.filtered i s.ang.quadI ∧ t.ang.quadCount = (s.ang.quadCount + 1) % s.quadCounts ∧
      t.ang.acc = (s.zero32 + (s.ang.quadCount + 1) % s.quadCounts * 4294967296 / s.quadCounts) % 4294967296)) ∧
  (∀ s : State, s.localAngle = true → s.angMode = amMains → s.isActive = true → s.flag .ANG_STAT_SYNC = false →
      s.ang.mainsCand = none →
    Runs .mainsCrossing s (fun t => t = { s with ang := { s.ang with mainsCand := some s.now } })) ∧
  (∀ (u : Nat) (s : State), s.localAngle = true → s.angMode = amMains → s.isActive = true →
      s.flag .ANG_STAT_SYNC = true → s.ang.lastEvent = some u → s.ang.interval = none → mainsGood (s.now - u) = true →
      s.ang.deadBand = false → s.angDir = false →
    Runs .mainsCrossing s (fun t => t.ang.lastEvent = some s.now ∧ t.ang.acc = s.zero32)) ∧
  (∀ s : State, s.speedDecays = false ∨ s.flag .ANG_STAT_STOP = true → Runs .speedStop s (fun t => t = s)) ∧
  (∀ (c : Instr) (e : AngleEdge) (s : State), s.localAngle = false ∨ s.isActive = false →
      c = .indexEdge e ∨ c = .toothEdge e ∨ c = .mainsCrossing →
    Runs c s (fun t => t = s))

/-- ANGLE_LOSS, BEACON_LOSS, BEACON_SEND, BEACON_RECEIVE and BEACON_APPLY (R193 to R196, R199, R200, R508, R509): a local
reference lost ends SYNC and holds the angle or substitutes it; lost beacons fall back as ANG.CFG.SRC says; the head sends a
beacon; a valid one waits; the oldest one waiting gives angle, speed, direction, pass count and states, and is forwarded where
DN has credit; and where its condition does not hold each of the five does nothing. The model's own readings: log entries 21
and 23. -/
def Obligations.AngleIsLostAndBeaconed : Prop :=
  (∀ s : State, s.localAngle = true → s.angMode = amIndex ∨ s.angMode = amTooth ∨ s.angMode = amMains →
      s.flag .ANG_STAT_SYNC = true → s.isActive = true →
    Runs .angleLoss s (fun t =>
      t.flag .ANG_STAT_SYNC = false ∧ t.flag .ANG_STAT_LOSS = true ∧ t.flag .ANG_STAT_LOSSEV = true ∧ t.hirq = true ∧
      (s.flag .ANG_CFG_LOSS = false → t.ang.num = 0 ∧ t.angPos = s.angPos) ∧
      (s.flag .ANG_CFG_LOSS = true → t.flag .ANG_STAT_SUBST = true ∧ t.fld .ANG_STAT_ACTMODE = amTime) ∧
      BlocksKept (3 :: 5 :: reportBlocks) s t ∧ MemKept s t)) ∧
  (∀ s : State, s.angSrc ≠ 0 → s.flag .ANG_STAT_BCNLOSS = false → s.isActive = true →
    Runs .beaconLoss s (fun t =>
      t.flag .ANG_STAT_BCNLOSS = true ∧ t.flag .ANG_STAT_LOSSEV = true ∧ t.flag .ANG_STAT_BCN = false ∧
      t.fld .ANG_BCN_HEAD = 0 ∧
      (s.angSrc = 1 → t.flag .ANG_STAT_SUBST = true ∧ t.flag .ANG_STAT_LOSS = true ∧ t.fld .ANG_STAT_ACTMODE = amTime) ∧
      (s.angSrc ≠ 1 → s.flag .ANG_CFG_LOSS = false → t.fld .ANG_STAT_ACTMODE = s.angMode) ∧
      BlocksKept (3 :: 5 :: reportBlocks) s t ∧ MemKept s t)) ∧
  (∀ s : State, s.isHead = true → s.isUp .dn = true → s.isActive = true →
    Runs .beaconSend s (fun t =>
      t.flag .ROPE_STAT_BCNTX = true ∧ t.rope.bcnSeq = (s.rope.bcnSeq + 1) % 256 ∧ t.ang = s.ang ∧
      FieldsKept [.ROPE_STAT_BCNTX] s t ∧ t = { s with regs := t.regs, rope := t.rope })) ∧
  (∀ s : State, s.isHead = false ∨ s.isUp .dn = false ∨ s.isActive = false →
    Runs .beaconSend s (fun t =>
      t.flag .ROPE_STAT_BCNTX = false ∧ FieldsKept [.ROPE_STAT_BCNTX] s t ∧ t = { s with regs := t.regs })) ∧
  (∀ (b : Beacon) (s : State), fits 8 b.seq = true → fits 16 b.pos = true → fits 32 b.speed = true →
      fits 32 b.pass = true → s.isUp .up = true →
    Runs (.beaconReceive b true) s
      (fun t => t = { s with ang := { s.ang with beaconWait := s.ang.beaconWait ++ [b] } })) ∧
  (∀ (b : Beacon) (crcOk : Bool) (s : State), fits 8 b.seq = true → fits 16 b.pos = true → fits 32 b.speed = true →
      fits 32 b.pass = true → crcOk = false ∨ s.isUp .up = false →
    Runs (.beaconReceive b crcOk) s (fun t => t = s)) ∧
  (∀ (b : Beacon) (rest : List Beacon) (s : State), s.ang.beaconWait = b :: rest → b.pass < 4294967296 →
      b.speed < 4294967296 → s.angSrc ≠ 0 → s.isActive = true →
    Runs .beaconApply s (fun t =>
      t.ang.beaconWait = rest ∧ t.ang.beacon = some b ∧ t.ang.lastBeacon = s.now ∧ t.flag .ANG_STAT_BCN = true ∧
      t.flag .ANG_STAT_BCNLOSS = false ∧ t.flag .ANG_STAT_SYNC = b.sync ∧ t.flag .ANG_STAT_LOSS = b.loss ∧
      t.flag .ANG_STAT_SUBST = b.subst ∧ t.fld .ANG_STAT_ACTMODE = amBeacon ∧
      t.fld .ANG_BCN_HEAD = s.fld .ROPE_ADDR_HEADA ∧
      t.angDir = b.dir ∧ t.reg32 Reg.ANG_PASS = b.pass ∧ t.flag .ANG_STAT_STOP = decide (b.speed < 109) ∧
      t.reg32 Reg.ANG_SPEED = (if b.speed < 109 then 0 else b.speed) ∧
      t.ang.num = (if b.speed < 109 ∨ b.hold = true then 0 else b.speed * 65536) ∧
      t.ang.acc = beaconTrue s b * 65536 ∧
      (dist16 b.dir s.angPos (beaconTrue s b) < 32768 → t.angPos = beaconTrue s b ∧ t.flag .ANG_STAT_SLEW = false) ∧
      (32768 ≤ dist16 b.dir s.angPos (beaconTrue s b) → t.angPos = s.angPos ∧ t.flag .ANG_STAT_SLEW = true))) ∧
  (∀ (b : Beacon) (rest : List Beacon) (s : State), s.ang.beaconWait = b :: rest → s.angSrc = 0 → s.isHead = false →
      s.isUp .dn = true →
      s.rope.dn.sending = none →
      hasCredit s.rope.dn { vc := 1, typ := tyBcn, src := s.fld .ROPE_ADDR_HEADA, dst := 31, payload := beaconBytes b } = true →
    Runs .beaconApply s (fun t =>
      t.rope.dn.sending.map (fun x => x.1) =
        some { vc := 1, typ := tyBcn, src := s.fld .ROPE_ADDR_HEADA, dst := 31, payload := beaconBytes b } ∧
      t.rope.lastFwd = some s.now ∧ t.ang = { s.ang with beaconWait := rest })) ∧
  (∀ s : State, s.ang.beaconWait = [] → Runs .beaconApply s (fun t => t = s)) ∧
  (∀ s : State, s.localAngle = false ∨ s.flag .ANG_STAT_SYNC = false ∨ s.isActive = false →
    Runs .angleLoss s (fun t => t = s)) ∧
  (∀ s : State, s.angSrc = 0 ∨ s.flag .ANG_STAT_BCNLOSS = true ∨ s.isActive = false →
    Runs .beaconLoss s (fun t => t = s))

/-! ### Excitation and reference (07, 08) -/

/-- COMPLIANCE_LOSS, EXC_OVERCURRENT, EXC_APPLICATION_POINT and EXC_RECONNECT (R243, R254, R259, R260, R263 to R267, R269): a
lost compliance of an output that drives is latched and marked in the windows that use it; an overcurrent disconnects the
output and is reported; at its application point a change comes into force, with SETL in the windows and owed by the entries,
FOR judged, and the break where the driver changes; the break ends with the connections made again, those of the clear state
where the output is held in it; and without a change awaited, an application point or a break nothing happens. The model's own
readings: log entry 29. -/
def Obligations.ExcitationOutputsFollowTheirEvents : Prop :=
  (∀ (k : Nat) (s : State), k < 4 → s.excConnected k = true → s.driveIsZero k = false →
      (s.excOut k).breakOn = false →
    Runs (.complianceLoss k) s (fun t =>
      t.fldBit .EXC_STAT_CMPL k = true ∧
      (∀ n w, n < 13 → n < s.slices.length → (s.slice n).win = some w → w.uses k = true →
        (t.slice n).win.any (fun v => if w.half then v.lostSecond.contains k else v.lostFirst.contains k) = true) ∧
      FieldsKept [Fld.EXC_STAT_CMPL.bit k] s t ∧ t = { s with regs := t.regs, slices := t.slices })) ∧
  (∀ (k : Nat) (s : State), k < 4 →
      s.excConnected k = false ∨ s.driveIsZero k = true ∨ (s.excOut k).breakOn = true →
    Runs (.complianceLoss k) s (fun t => t = s)) ∧
  (∀ (k : Nat) (s : State), k < 4 → k < s.exc.length → Watches 12 s →
    Runs (.excOvercurrent k) s (fun t =>
      t.fldBit .EXC_STAT_OFLT k = true ∧ t.fldBit .EXC_STAT_CLRST k = true ∧
      (t.excOut k).overcurrent = true ∧ (t.excOut k).clearBy.contains evOver = true ∧
      t.conns.all (fun c => c.role != roleExc k) = true ∧ Reported 12 k clsU s t ∧
      BlocksKept (5 :: reportBlocks) s t ∧ MemKept s t)) ∧
  (∀ (k : Nat) (s : State), k < 4 → (s.excOut k).pending = false ∨ s.atPoint k = false →
    Runs (.excApplicationPoint k) s (fun t => t = s)) ∧
  (∀ (k : Nat) (s : State), k < 4 → (s.excOut k).pending = true → s.atPoint k = true →
    Runs (.excApplicationPoint k) s (fun t =>
      t.excSet k = s.excRegs k ∧ (t.excOut k).pending = false ∧
      (∀ n w, n < 13 → n < s.slices.length → (s.slice n).win = some w → w.uses k = true →
        (t.slice n).win.any (fun v => v.setl) = true) ∧
      (s.entriesUsing k).all (fun e => t.seq.setlOwed.contains e) = true ∧
      (needsBreak (s.excSet k) (s.excRegs k) = true →
        (t.excOut k).breakOn = true ∧ t.conns.all (fun c => c.role != roleExc k) = true) ∧
      (∀ j, j < 4 → t.fldBit .EXC_STAT_FOR j =
        (xAlock (t.excSet j) && xWave (t.excSet j) != 0 && outOfRange (t.excSet j) s.speed)) ∧
      t = { judgeFor (excSettle k s) with exc := t.exc, conns := t.conns, slices := t.slices,
                                          seq := { s.seq with setlOwed := t.seq.setlOwed } })) ∧
  (∀ (k : Nat) (s : State), k < 4 → (s.excOut k).breakOn = true →
    Runs (.excReconnect k) s (fun t =>
      (t.excOut k).breakOn = false ∧
      ((s.excOut k).clearBy = [] → (s.excOut k).atCode = true → s.crosspointOpen = false →
        ∀ n w, n < 13 → (s.slice n).win = some w → w.uses k = true → w.occ.kind ≠ 9 →
        (driveConns t w n).all (fun c => c.role != roleExc k || t.conns.contains c) = true) ∧
      ((s.excOut k).clearBy ≠ [] → (clearConns s k).all (fun c => t.conns.contains c) = true) ∧
      FieldsKept [Fld.EXC_STAT_CLRST.bit k] s t ∧ t = { s with regs := t.regs, exc := t.exc, conns := t.conns })) ∧
  (∀ (k : Nat) (s : State), k < 4 → (s.excOut k).breakOn = false → Runs (.excReconnect k) s (fun t => t = s))

/-- REF_READY, REF_MONITOR and REFIO_RANGE_ERROR (R294, R296, R297): READY follows the buffer; the third failed
comparison in a row sets MONERR and is reported, while MONERR is clear; a REFIO level out of range is reported with IOMODE = IN;
and without the buffer, without READY, or in another IOMODE nothing happens. The model's own readings: log entry 30. -/
def Obligations.ReferenceIsMonitored : Prop :=
  (∀ s : State, s.flag .REF_STAT_BUFON = true → s.flag .REF_CTRL_BUFEN = true →
    Runs .refReady s (fun t =>
      t.flag .REF_STAT_READY = true ∧ FieldsKept [.REF_STAT_READY] s t ∧ t = { s with regs := t.regs })) ∧
  (∀ s : State, s.flag .REF_STAT_BUFON = false ∨ s.flag .REF_CTRL_BUFEN = false →
    Runs .refReady s (fun t => t = s)) ∧
  (∀ (d : Nat) (s : State), s.flag .REF_STAT_READY = true → d ≤ 2000 →
    Runs (.refMonitor d) s (fun t => t = { s with seq := { s.seq with refBad := 0, refDiff := d } })) ∧
  (∀ (d : Nat) (s : State), s.flag .REF_STAT_READY = true → 2000 < d →
      s.seq.refBad < 2 ∨ s.flag .REF_STAT_MONERR = true →
    Runs (.refMonitor d) s (fun t =>
      t = { s with seq := { s.seq with refBad := min 3 (s.seq.refBad + 1), refDiff := d } })) ∧
  (∀ (d : Nat) (s : State), s.flag .REF_STAT_READY = true → 2000 < d → 2 ≤ s.seq.refBad →
      s.flag .REF_STAT_MONERR = false → Watches 9 s →
    Runs (.refMonitor d) s (fun t =>
      t.flag .REF_STAT_MONERR = true ∧ Reported 9 0 clsU s t ∧ BlocksKept (5 :: reportBlocks) s t ∧
      (∀ a, a ≠ Reg.REF_STAT → blockOf a = 5 → t.reg a = s.reg a) ∧ MemKept s t)) ∧
  (∀ (d : Nat) (s : State), s.flag .REF_STAT_READY = false → Runs (.refMonitor d) s (fun t => t = s)) ∧
  (∀ s : State, s.fld .REF_CTRL_IOMODE = 2 → Watches 9 s →
    Runs .refioRangeError s (fun t =>
      t.flag .REF_STAT_EXTERR = true ∧ Reported 9 1 clsU s t ∧ BlocksKept (5 :: reportBlocks) s t ∧ MemKept s t)) ∧
  (∀ s : State, s.fld .REF_CTRL_IOMODE ≠ 2 → Runs .refioRangeError s (fun t => t = s))

/-! ### The sequencer and the slices (08, 09) -/

/-- TIME_TRIGGER, AFTER_TRIGGER, SEQUENCER_START, SEQUENCER_STOP, CLRCNT and TOPO_SCRUB (R318, R321 to R325, R327, R330,
R343, R344): a due slot goes to its slice's pending list, takes the place of an occurrence of its entry that is still pending, or
is missed where no slice can take it; one that is not due only counts; starting arms the timers, and is denied while the host
holds a live slice; stopping drops what is pending; the counts clear; an entry that fails its CRC is disabled and reported.
The model's own readings: log entry 29. -/
def Obligations.SequencerFiresEntries : Prop :=
  (∀ (e n : Nat) (s : State), e < 256 → s.seq.timeRun.contains e = true → tKind (s.topoEntry e) = kindTime →
      s.seqRuns = true → s.entryOn e = true → (s.inReduced = false ∨ tEss (s.topoEntry e) = true) →
      s.occCount e % (tDiv (s.topoEntry e) + 1) = tDph (s.topoEntry e) → targetSlice s (s.topoEntry e) = some n →
      n < s.slices.length → (s.slice n).off = false → s.pendingOf e = none → (s.slice n).pending.length < 8 →
    Runs (.timeTrigger e) s (fun t =>
      (t.slice n).pending = (s.slice n).pending ++ [⟨0, e, 0, s.now, s.regN Reg.ANG_PASS, false⟩] ∧ t.occCount e = s.occCount e + 1 ∧
      (∀ m, m ≠ n → t.slice m = s.slice m) ∧ (∀ f, f ≠ e → t.occCount f = s.occCount f) ∧
      t = { s with slices := t.slices, seq := { s.seq with divCount := t.seq.divCount },
                   cal := { s.cal with pairs := t.cal.pairs } })) ∧
  (∀ (e : Nat) (s : State), e < 256 → s.seq.timeRun.contains e = true → tKind (s.topoEntry e) = kindTime →
      s.seqRuns = true → s.entryOn e = true → (s.inReduced = false ∨ tEss (s.topoEntry e) = true) →
      s.occCount e % (tDiv (s.topoEntry e) + 1) = tDph (s.topoEntry e) → targetSlice s (s.topoEntry e) = none →
    Runs (.timeTrigger e) s (fun t =>
      t.flag .SEQ_STAT_NOSLC = true ∧ Shows (tRreg (s.topoEntry e)) 0 (s.regN Reg.ANG_PASS % 2) t ∧
      t.reg32 Reg.SEQ_DUE = (s.reg32 Reg.SEQ_DUE + 1) % 4294967296 ∧
      t.reg32 Reg.SEQ_MISS = (s.reg32 Reg.SEQ_MISS + 1) % 4294967296 ∧ BlocksKept [4] s t ∧ MemKept s t)) ∧
  (∀ (e : Nat) (s : State), e < 256 → s.seq.timeRun.contains e = true → tKind (s.topoEntry e) = kindTime →
      s.seqRuns = true → s.entryOn e = true →
      s.occCount e % (tDiv (s.topoEntry e) + 1) ≠ tDph (s.topoEntry e) →
    Runs (.timeTrigger e) s (fun t =>
      t.occCount e = s.occCount e + 1 ∧ t = { s with seq := { s.seq with divCount := t.seq.divCount } })) ∧
  (∀ (e : Nat) (s : State), e < 256 → s.seqRuns = false → Runs (.timeTrigger e) s (fun t => t = s)) ∧
  (∀ (e n : Nat) (s : State), e < 256 → s.seq.afterRun.any (fun x => x.1 == e) = true →
      tKind (s.topoEntry e) = kindAfter → s.seqRuns = true → s.entryOn e = true →
      (s.inReduced = false ∨ tEss (s.topoEntry e) = true) →
      s.occCount e % (tDiv (s.topoEntry e) + 1) = tDph (s.topoEntry e) → targetSlice s (s.topoEntry e) = some n →
      n < s.slices.length → (s.slice n).off = false → s.pendingOf e = none → (s.slice n).pending.length < 8 →
    Runs (.afterTrigger e) s (fun t =>
      (t.slice n).pending = (s.slice n).pending ++ [⟨0, e, 0, s.now, s.regN Reg.ANG_PASS, false⟩] ∧ t.occCount e = s.occCount e + 1 ∧
      t.seq.afterRun = s.seq.afterRun.eraseP (fun x => x.1 == e) ∧ (∀ m, m ≠ n → t.slice m = s.slice m) ∧
      t = { s with slices := t.slices, seq := { s.seq with divCount := t.seq.divCount, afterRun := t.seq.afterRun },
                   cal := { s.cal with pairs := t.cal.pairs } })) ∧
  (∀ (p : Path) (s : State), isPath p = true → Admits p Reg.SEQ_CTRL s → s.cal.hostDirect.any (· < 12) = false →
    Runs (.sequencerStart p) s (fun t =>
      t.flag .SEQ_CTRL_RUN = true ∧
      t.flag .SEQ_STAT_RUNNING = (s.mode == modeActive || s.mode == modeReduced) ∧
      (s.flag .SEQ_CTRL_RUN = false → t.seqRuns = true → ∀ e, e < 256 → s.entryOn e = true →
        tKind (s.topoEntry e) = kindTime → t.seq.timeRun.contains e = true ∧ t.seq.setlOwed.contains e = true ∧
          t.occCount e = 0) ∧
      BlocksKept [4] s t ∧ MemKept s t)) ∧
  (∀ (p : Path) (s : State), isPath p = true → Admits p Reg.SEQ_CTRL s → s.cal.hostDirect.any (· < 12) = true →
    Runs (.sequencerStart p) s (fun t =>
      (p = .host → t.host.answer = ⟨stDeny, 0x8000⟩) ∧ t = { s with paths := t.paths, host := t.host })) ∧
  (∀ (p : Path) (s : State), isPath p = true → Admits p Reg.SEQ_CTRL s → s.flag .SEQ_CTRL_RUN = true →
    Runs (.sequencerStop p) s (fun t =>
      t.flag .SEQ_CTRL_RUN = false ∧ t.flag .SEQ_STAT_RUNNING = false ∧ t.seq.timeRun = [] ∧ t.seq.afterRun = [] ∧
      t.xfer.openFrame = none ∧ (∀ n, n < 13 → (t.slice n).pending.all (fun o => o.kind != 0) = true) ∧
      (∀ a, t.storeByte a = s.storeByte a) ∧ (∀ a, t.memByte a = s.memByte a))) ∧
  (∀ (p : Path) (s : State), isPath p = true → Admits p Reg.SEQ_CTRL s → s.flag .SEQ_CTRL_RUN = false →
    Runs (.sequencerStop p) s (fun t => t = { s with paths := t.paths, host := t.host })) ∧
  (∀ (p : Path) (s : State), isPath p = true → Admits p Reg.SEQ_CTRL s → s.cal.hostDirect.any (· < 12) = false →
    Runs (.clrcnt p) s (fun t =>
      t.reg32 Reg.SEQ_DUE = 0 ∧ t.reg32 Reg.SEQ_MISS = 0 ∧ t.regN Reg.SEQ_JITMAX = 0 ∧
      t.flag .SEQ_CTRL_RUN = s.flag .SEQ_CTRL_RUN ∧
      FieldsKept (.SEQ_STAT_RUNNING :: wholeReg Reg.SEQ_JITMAX :: wholeReg32 Reg.SEQ_DUE ++ wholeReg32 Reg.SEQ_MISS) s t ∧
      t = { s with regs := t.regs, paths := t.paths, host := t.host })) ∧
  (∀ (e : Nat) (s : State), e < 256 → s.entryOn e = true → tCrcOk (s.topoEntry e) = false → Watches 6 s →
      s.seq.crcDead.contains e = false → [phTake, phBack, phProbe].contains s.calPhase = false →
    Runs (.topoScrub e) s (fun t =>
      t.seq.crcDead = s.seq.crcDead ++ [e] ∧ t.entryOn e = false ∧ t.flag .SEQ_STAT_CRCF = true ∧
      t.fld .SEQ_DISENT_LAST = e ∧ t.fld .SEQ_DISENT_COUNT = min 255 (s.seq.crcDead.length + 1) ∧
      (∀ n, n < 13 → (t.slice n).pending = (s.slice n).pending.filter (fun o => !(o.kind == 0 && o.entry == e))) ∧
      Reported 6 e clsU s t ∧ BlocksKept (4 :: reportBlocks) s t ∧ MemKept s t)) ∧
  (∀ (e : Nat) (s : State), e < 256 → s.entryOn e = false ∨ tCrcOk (s.topoEntry e) = true →
    Runs (.topoScrub e) s (fun t => t = s)) ∧
  (∀ (e n : Nat) (q : Occ) (s : State), e < 256 → s.seq.timeRun.contains e = true → tKind (s.topoEntry e) = kindTime →
      s.seqRuns = true → s.entryOn e = true → (s.inReduced = false ∨ tEss (s.topoEntry e) = true) →
      s.occCount e % (tDiv (s.topoEntry e) + 1) = tDph (s.topoEntry e) → targetSlice s (s.topoEntry e) = some n →
      (s.slice n).off = false → s.slices.length = 13 → s.pendingOf e = some q →
    Runs (.timeTrigger e) s (fun t =>
      t.flag .SEQ_STAT_OVRUN = true ∧ t.pendingOf e = some ⟨0, e, 0, s.now, s.regN Reg.ANG_PASS, false⟩ ∧
      (∀ m, m < 13 → (t.slice m).pending.length = (s.slice m).pending.length) ∧
      t.reg32 Reg.SEQ_DUE = (s.reg32 Reg.SEQ_DUE + 1) % 4294967296 ∧
      t.reg32 Reg.SEQ_MISS = (s.reg32 Reg.SEQ_MISS + 1) % 4294967296 ∧ BlocksKept [4] s t ∧ MemKept s t)) ∧
  (∀ (e : Nat) (s : State), e < 256 → s.seq.afterRun.any (fun x => x.1 == e) = false →
    Runs (.afterTrigger e) s (fun t => t = s))

/-- WINDOW_SETUP, SETTLE_END, TIME_WINDOW_END, WINDOW_LIMIT, MINIMUM_WINDOW_END and HALF_WINDOW_EXCHANGE (R240, R276 to
R279, R281, R282, R293, R318, R353, R368): the oldest pending occurrence starts with its trims, gives SUPD on a slice that is
off, and is missed where its entry fails its CRC; a settle ends in integration, on a paired slice too; a window ends with its
cycles integrated, marked early at its limit, and a paired one ends with it; at the exchange the excitation connections are
exchanged; and a command that meets a window in another phase or of another kind does nothing. The model's own readings:
log entry 29. -/
def Obligations.WindowsRunTheirPhases : Prop :=
  (∀ (n : Nat) (o : Occ) (rest : List Occ) (s : State), n < 13 → n < s.slices.length → (s.slice n).win = none →
      (s.slice n).pending = o :: rest →
      (o.kind ≠ 0 ∨ (s.entryOn o.entry = true ∧ tCrcOk (s.topoEntry o.entry) = true)) →
      StartsFree n (windowOf s o) s →
    Runs (.windowSetup n) s (fun t =>
      Started n (windowOf s o) s t ∧ (t.slice n).pending = rest ∧ t.fldBit .SLC_BUSY_BUSY n = true ∧
      (∀ m, m ≠ n → t.slice m = s.slice m) ∧ BlocksKept (4 :: 5 :: 6 :: reportBlocks) s t ∧ MemKept s t)) ∧
  (∀ (n : Nat) (o : Occ) (rest : List Occ) (s : State), n < 13 → n < s.slices.length → (s.slice n).win = none →
      (s.slice n).pending = o :: rest → o.kind = 0 → s.entryOn o.entry = true → tCrcOk (s.topoEntry o.entry) = true →
      (s.slice n).off = true →
    Runs (.windowSetup n) s (fun t =>
      Shows (tRreg (s.topoEntry o.entry)) 0
        (rsSupd + (if s.seq.setlOwed.contains o.entry then rsSetl else 0) + bitIf (s.subOn n o) rsSub + o.pass % 2) t ∧
      (t.slice n).win = none ∧ (t.slice n).pending = rest ∧ t.reg32 Reg.SEQ_DUE = s.reg32 Reg.SEQ_DUE ∧
      BlocksKept [4] s t ∧ MemKept s t)) ∧
  (∀ (n : Nat) (o : Occ) (rest : List Occ) (s : State), n < 13 → n < s.slices.length → (s.slice n).win = none →
      (s.slice n).pending = o :: rest → o.kind = 0 → s.entryOn o.entry = true → tCrcOk (s.topoEntry o.entry) = false →
      Watches 6 s → s.seq.crcDead.contains o.entry = false → [phTake, phBack, phProbe].contains s.calPhase = false →
    Runs (.windowSetup n) s (fun t =>
      t.entryOn o.entry = false ∧ Shows (tRreg (s.topoEntry o.entry)) 0 (o.pass % 2) t ∧ Reported 6 o.entry clsU s t ∧
      t.reg32 Reg.SEQ_MISS = (s.reg32 Reg.SEQ_MISS + 1) % 4294967296 ∧
      BlocksKept (4 :: reportBlocks) s t ∧ MemKept s t)) ∧
  (∀ (n : Nat) (s : State), n < 13 → (s.slice n).win.isSome = true ∨ (s.slice n).pending = [] →
    Runs (.windowSetup n) s (fun t => t = s)) ∧
  (∀ (n : Nat) (w : Window) (s : State), n < 13 → n < s.slices.length → (s.slice n).win = some w → w.phase = 2 →
      w.partner ≠ some n →
    Runs (.settleEnd n) s (fun t =>
      (t.slice n).win = some (beginPeriod s.speed { w with phase := 3, intStart := s.now, travel := 0 }) ∧
      (∀ p v, w.partner = some p → (s.slice p).win = some v →
        (t.slice p).win = some (beginPeriod s.speed { v with phase := 3, intStart := s.now, travel := 0 })) ∧
      (∀ m, m ≠ n → w.partner ≠ some m → t.slice m = s.slice m) ∧ t = { s with slices := t.slices })) ∧
  (∀ (n : Nat) (w : Window) (s : State), n < 13 → n < s.slices.length → (s.slice n).win = some w → w.phase ≠ 2 →
      w.angleWin = false → w.occ.kind ≠ 9 → w.occ.kind ≠ 3 → w.partner = none → w.burst = false →
      s.hasBurst .exc 0 = false →
    Runs (.timeWindowEnd n) s (fun t => WindowEnded n { w with chop := integrated (timeTotal w) w.chop } s t)) ∧
  (∀ (n : Nat) (w : Window) (s : State), n < 13 → n < s.slices.length → (s.slice n).win = some w → w.phase ≠ 2 →
      w.angleWin = true → w.occ.kind ≠ 9 → w.occ.kind ≠ 3 → w.partner = none → w.burst = false →
      s.hasBurst .exc 0 = false →
    Runs (.windowLimit n) s (fun t =>
      WindowEnded n { w with early := true, chop := integrated 4194304 w.chop } s t)) ∧
  (∀ (n : Nat) (w : Window) (s : State), n < 13 → n < s.slices.length → (s.slice n).win = some w → w.short = true →
      w.occ.kind ≠ 9 → w.occ.kind ≠ 3 → w.partner = none → w.burst = false → s.hasBurst .exc 0 = false →
    Runs (.minimumWindowEnd n) s (fun t => WindowEnded n { w with chop := integrated 256 w.chop } s t)) ∧
  (∀ (n q : Nat) (w v : Window) (s : State), n < 13 → n < s.slices.length → q < s.slices.length → q ≠ n →
      (s.slice n).win = some w → w.partner = some q → (s.slice q).win = some v → w.phase ≠ 2 → w.angleWin = false →
      w.occ.kind = 0 → v.occ.kind = 9 → w.burst = false → s.hasBurst .exc 0 = false →
    Runs (.timeWindowEnd n) s (fun t =>
      (t.slice n).win = none ∧ (t.slice q).win = none ∧
      (t.slice n).ended = (s.slice n).ended ++ [{ w with chop := integrated (timeTotal w) w.chop }] ∧
      (t.slice q).ended.length = (s.slice q).ended.length + 1 ∧
      (∀ m, m ≠ n → m ≠ q → t.slice m = s.slice m) ∧
      FieldsKept [Fld.SLC_BUSY_BUSY.bit n, Fld.SLC_BUSY_BUSY.bit q, .REF_STAT_BUFON] s t ∧
      t = { s with regs := t.regs, conns := t.conns, slices := t.slices })) ∧
  (∀ (n : Nat) (w : Window) (s : State), n < 13 → n < s.slices.length → (s.slice n).win = some w → splits w = true →
      w.half = false → w.phase ≠ 2 → w.occ.kind ≠ 9 → w.partner ≠ some n →
    Runs (.halfWindowExchange n) s (fun t =>
      (t.slice n).win = some (atExchange s.speed w) ∧
      (∀ p v, w.partner = some p → (s.slice p).win = some v → (t.slice p).win = some (atExchange s.speed v)) ∧
      (∀ m, m ≠ n → w.partner ≠ some m → t.slice m = s.slice m) ∧
      (s.crosspointOpen = false → (driveConns s { w with half := true } n).all (fun c => t.conns.contains c) = true) ∧
      t = { s with conns := t.conns, slices := t.slices })) ∧
  (∀ (n : Nat) (c : Instr) (s : State), n < 13 → (s.slice n).win = none →
      c ∈ [.settleEnd n, .timeWindowEnd n, .windowLimit n, .minimumWindowEnd n, .halfWindowExchange n] →
    Runs c s (fun t => t = s)) ∧
  (∀ (n : Nat) (w : Window) (c : Instr) (s : State), n < 13 → (s.slice n).win = some w →
      (c = .settleEnd n ∧ w.phase ≠ 2) ∨ (c = .timeWindowEnd n ∧ (w.angleWin = true ∨ w.phase = 2)) ∨
      (c = .windowLimit n ∧ (w.angleWin = false ∨ w.phase = 2)) ∨ (c = .minimumWindowEnd n ∧ w.short = false) ∨
      (c = .halfWindowExchange n ∧ (splits w = false ∨ w.half = true ∨ w.phase = 2)) →
    Runs c s (fun t => t = s))

/-- RESULT_WRITE (R244, R284 to R287, R290, R292, R332 to R334, R341, R381): the oldest ended window's value and status byte
go to its result register, its notices to the engines, and its slot is counted; its overload cycles carry into the window after
it; a slice fault writes no value, counts the slot as missed and is reported; a direct conversion writes its own register; and
without an ended window of the slice's own nothing is written. The model's own readings: log entry 30. -/
def Obligations.ResultsAreWritten : Prop :=
  (∀ (n : Nat) (w : Window) (rest : List Window) (m : Reading) (s : State), n < 13 → n < s.slices.length →
      isReading m = true → m.fault = false → (s.slice n).ended = w :: rest → w.occ.kind = 0 → w.partner = none →
      leadCheckOn w = false → tAuto w.topo = false →
    Runs (.resultWrite n m none) s (fun t =>
      Shows (tRreg w.topo) (Machine.measure w m).1
        (statusOf w (validOf w (Machine.measure w m).2.1 (Machine.measure w m).2.2.1)
          (Machine.measure w m).2.1 (Machine.measure w m).2.2.1 w.sub) t ∧
      (t.slice n).ended.map (fun v => { v with carry := 0 }) = rest.map (fun v => { v with carry := 0 }) ∧
      (t.slice n).win.map (fun v => { v with carry := 0 }) = (s.slice n).win.map (fun v => { v with carry := 0 }) ∧
      (rest = [] → (s.slice n).win = none → (t.slice n).overCarry = m.overTail) ∧
      (t.slice n).pending = (s.slice n).pending ∧
      t.reg32 Reg.SEQ_DUE = (s.reg32 Reg.SEQ_DUE + (if validOf w (Machine.measure w m).2.1
        (Machine.measure w m).2.2.1 then 1 else 0)) % 4294967296 ∧
      t.reg32 Reg.SEQ_MISS = s.reg32 Reg.SEQ_MISS ∧
      (∀ k, k < 6 → k < s.eng.length → (tFeed w.topo).testBit k = true → (s.engine k).notices.length < 8 →
        (t.engine k).notices = (s.engine k).notices ++ [w.occ.entry]) ∧
      (∀ r, r ≠ tRreg w.topo → t.resultWord r 0 = s.resultWord r 0 ∧ t.resultWord r 1 = s.resultWord r 1) ∧
      BlocksKept [4] s t ∧ MemKept s t)) ∧
  (∀ (n : Nat) (w : Window) (rest : List Window) (m : Reading) (s : State), n < 13 → n < s.slices.length →
      isReading m = true → m.fault = true → (s.slice n).ended = w :: rest → w.occ.kind = 0 → w.partner = none →
      Watches 7 s →
    Runs (.resultWrite n m none) s (fun t =>
      Shows (tRreg w.topo) 0 (w.occ.pass % 2) t ∧ (t.slice n).ended.length = rest.length ∧ Reported 7 n clsC s t ∧
      t.reg32 Reg.SEQ_MISS = (s.reg32 Reg.SEQ_MISS + 1) % 4294967296 ∧
      BlocksKept (4 :: 6 :: reportBlocks) s t ∧ MemKept s t)) ∧
  (∀ (n : Nat) (w : Window) (rest : List Window) (m : Reading) (s : State), n < 13 → n < s.slices.length →
      isReading m = true → m.fault = false → (s.slice n).ended = w :: rest → w.occ.kind = 2 → w.partner = none →
      s.cal.sys = none → s.cal.hostFree = [] →
    Runs (.resultWrite n m none) s (fun t =>
      Shows (256 + w.occ.word % 8) (Machine.measure w m).1
        (statusOf w (validOf w (Machine.measure w m).2.1 (Machine.measure w m).2.2.1)
          (Machine.measure w m).2.1 (Machine.measure w m).2.2.1 w.sub) t ∧
      (t.slice n).ended.length = rest.length ∧ t.eng = s.eng ∧ FieldsKept [Fld.SLC_BUSY_BUSY.bit n] s t ∧ MemKept s t)) ∧
  (∀ (n : Nat) (m : Reading) (s : State), n < 13 → isReading m = true → (s.slice n).ended = [] →
    Runs (.resultWrite n m none) s (fun t => t = s)) ∧
  (∀ (n : Nat) (w : Window) (rest : List Window) (m : Reading) (s : State), n < 13 → isReading m = true →
      (s.slice n).ended = w :: rest → w.occ.kind = 9 →
    Runs (.resultWrite n m none) s (fun t => t = s))

/-- SLICE_FORCE, SLICE_DIRECT_WRITE, URGENT_REQUEST and URGENT_START (R291, R292, R337 to R340, R377): a direct conversion
starts at once, is dropped where its slice is busy or a pin is taken, or denied; the host holds and releases the slices it may,
and is denied another; urgent requests queue four deep, one more sets UOVF, and an empty route is denied; the head request starts
on its slice, and waits where that is not free. The model's own readings: log entry 29. -/
def Obligations.DirectAndUrgentConversions : Prop :=
  (∀ (p : Path) (n v : Nat) (s : State), isPath p = true → n < 13 → n < s.slices.length → fits 16 v = true →
      Admits p (Reg.SLC_FORCE n) s → s.fldBit .SLC_DIRECT_DIR n = true → s.fldBit .SLC_BUSY_BUSY n = false →
      rEmpty (s.routeEntry (v / 1024)) = false → calHolds s n = false → directRuns s n = false →
      driveConflict s n (s.routeEntry (v / 1024)) = false →
      StartsFree n (windowOf s ⟨2, 0, v, s.now, s.regN Reg.ANG_PASS, false⟩) s →
    Runs (.sliceForce p n v) s (fun t =>
      Started n (windowOf s ⟨2, 0, v, s.now, s.regN Reg.ANG_PASS, false⟩) s t ∧ t.fldBit .SLC_BUSY_BUSY n = true ∧
      (∀ m, m ≠ n → t.slice m = s.slice m) ∧ BlocksKept (4 :: 5 :: 6 :: reportBlocks) s t ∧ MemKept s t)) ∧
  (∀ (p : Path) (n v : Nat) (s : State), isPath p = true → n < 13 → fits 16 v = true → Admits p (Reg.SLC_FORCE n) s →
      s.fldBit .SLC_DIRECT_DIR n = true → rEmpty (s.routeEntry (v / 1024)) = false →
      s.fldBit .SLC_BUSY_BUSY n = true ∨ directRuns s n = true ∨ calHolds s n = true ∨
        driveConflict s n (s.routeEntry (v / 1024)) = true →
    Runs (.sliceForce p n v) s (fun t =>
      t.fld (.SLC_DROPCNT_DROP n) = min (s.fld (.SLC_DROPCNT_DROP n) + 1) (2 ^ (Fld.SLC_DROPCNT_DROP n).width - 1) ∧
      FieldsKept [.SLC_DROPCNT_DROP n] s t ∧ t = { s with regs := t.regs, paths := t.paths, host := t.host })) ∧
  (∀ (p : Path) (n v : Nat) (s : State), isPath p = true → n < 13 → fits 16 v = true → Admits p (Reg.SLC_FORCE n) s →
      s.fldBit .SLC_DIRECT_DIR n = false ∨ rEmpty (s.routeEntry (v / 1024)) = true →
    Runs (.sliceForce p n v) s (fun t =>
      (p = .host → t.host.answer = ⟨stDeny, word v⟩) ∧ t = { s with paths := t.paths, host := t.host })) ∧
  (∀ (p : Path) (v : Nat) (s : State), isPath p = true → fits 16 v = true → Admits p Reg.SLC_DIRECT s →
      (List.range 13).all (fun n => !v.testBit n || s.cal.hostDirect.contains n || calHolds s n || mayHold s n) = true →
      s.cal.hostDirect.all (fun n => v.testBit n || !directRuns s n) = true →
      (List.range 13).all (fun n => !s.cal.hostDirect.contains n || s.fldBit .SLC_DIRECT_DIR n) = true →
    Runs (.sliceDirectWrite p v) s (fun t =>
      (∀ n, n < 13 → t.fldBit .SLC_DIRECT_DIR n = if calHolds s n then true else v.testBit n) ∧
      (∀ n, n < 13 → calHolds s n = false → t.cal.hostDirect.contains n = v.testBit n) ∧
      FieldsKept [.SLC_DIRECT_DIR] s t ∧
      t = { s with regs := t.regs, paths := t.paths, host := t.host, slices := t.slices,
                   cal := { s.cal with hostDirect := t.cal.hostDirect, hostFree := t.cal.hostFree } })) ∧
  (∀ (p : Path) (n v : Nat) (s : State), isPath p = true → fits 16 v = true → Admits p Reg.SLC_DIRECT s → n < 13 →
      v.testBit n = true → s.cal.hostDirect.contains n = false → calHolds s n = false → mayHold s n = false →
    Runs (.sliceDirectWrite p v) s (fun t =>
      (p = .host → t.host.answer = ⟨stDeny, word v⟩) ∧ t = { s with paths := t.paths, host := t.host })) ∧
  (∀ (p : Path) (v : Nat) (s : State), isPath p = true → fits 16 v = true → Admits p Reg.SEQ_URG s →
      rEmpty (s.routeEntry (v / 1024)) = false → (s.flag .CAL_STAT_SWRET = false ∨ s.fld .SEQ_URGSLICE_SLICE ≠ 12) →
      s.seq.urgent.length < 4 →
    Runs (.urgentRequest p v) s (fun t =>
      t.seq.urgent = s.seq.urgent ++ [⟨1, 0, v, s.now, s.regN Reg.ANG_PASS, false⟩] ∧
      t.fld .SEQ_STAT_UQ = s.seq.urgent.length + 1 ∧ FieldsKept [.SEQ_STAT_UQ, .SEQ_STAT_UWAIT] s t ∧
      t = { s with regs := t.regs, paths := t.paths, host := t.host, seq := { s.seq with urgent := t.seq.urgent } })) ∧
  (∀ (p : Path) (v : Nat) (s : State), isPath p = true → fits 16 v = true → Admits p Reg.SEQ_URG s →
      rEmpty (s.routeEntry (v / 1024)) = false → (s.flag .CAL_STAT_SWRET = false ∨ s.fld .SEQ_URGSLICE_SLICE ≠ 12) →
      4 ≤ s.seq.urgent.length →
    Runs (.urgentRequest p v) s (fun t =>
      t.flag .SEQ_STAT_UOVF = true ∧ FieldsKept [.SEQ_STAT_UOVF] s t ∧
      t = { s with regs := t.regs, paths := t.paths, host := t.host })) ∧
  (∀ (p : Path) (v : Nat) (s : State), isPath p = true → fits 16 v = true → Admits p Reg.SEQ_URG s →
      rEmpty (s.routeEntry (v / 1024)) = true →
    Runs (.urgentRequest p v) s (fun t =>
      (p = .host → t.host.answer = ⟨stDeny, word v⟩) ∧ t = { s with paths := t.paths, host := t.host })) ∧
  (∀ (n : Nat) (o : Occ) (rest : List Occ) (s : State), s.seq.urgent = o :: rest → urgentSlice s = some n →
      n < s.slices.length →
      StartsFree n (windowOf s { o with pass := s.regN Reg.ANG_PASS }) s →
    Runs .urgentStart s (fun t =>
      t.seq.urgentOn = some n ∧ t.seq.urgent = s.seq.urgent ∧
      Started n (windowOf s { o with pass := s.regN Reg.ANG_PASS }) s t ∧
      t.regN Reg.SEQ_JITMAX = max (s.regN Reg.SEQ_JITMAX) (min 65535 ((s.now - o.clock) / 8)) ∧
      BlocksKept (4 :: 5 :: 6 :: reportBlocks) s t ∧ MemKept s t)) ∧
  (∀ s : State, s.seq.urgent = [] ∨ urgentSlice s = none → Runs .urgentStart s (fun t => t = s)) ∧
  (∀ (p : Path) (v : Nat) (s : State), isPath p = true → fits 16 v = true → Admits p Reg.SEQ_URG s →
      rEmpty (s.routeEntry (v / 1024)) = false → s.flag .CAL_STAT_SWRET = true → s.fld .SEQ_URGSLICE_SLICE = 12 →
    Runs (.urgentRequest p v) s (fun t =>
      Shows (256 + v % 8) 0 (s.regN Reg.ANG_PASS % 2) t ∧ t.seq = s.seq ∧ t.slices = s.slices ∧ MemKept s t)) ∧
  (∀ (p : Path) (n v : Nat) (s : State), isPath p = true → fits 16 v = true → Admits p Reg.SLC_DIRECT s → n < 13 →
      v.testBit n = false → s.cal.hostDirect.contains n = true → s.fldBit .SLC_DIRECT_DIR n = true →
      directRuns s n = true → (List.range 13).all (fun k => !v.testBit k || s.cal.hostDirect.contains k) = true →
    Runs (.sliceDirectWrite p v) s (fun t =>
      t.fldBit .SLC_DIRECT_DIR n = true ∧ t.cal.hostDirect.contains n = true ∧ t.cal.hostFree.contains n = true ∧
      FieldsKept [.SLC_DIRECT_DIR] s t))

/-! ### Calibration (10) -/

/-- CAL_PERIOD_EXPIRE, NOW, SWING_LEAD_BEGIN and PROBE_TMAX_EXPIRE (R363, R365 to R367, R374, R390): a powered slice in service
becomes due, and not with CAL.PERIOD = 0; NOW is denied for a slice retired or absent; the lead begins with the longest-due slice
it may take and the swing slice measures, or does not begin; a probe without a pair ends without a verdict, and one with a pair
goes on. The model's own readings: log entries 19 and 45. -/
def Obligations.SlicesBecomeDue : Prop :=
  (∀ (n : Nat) (s : State), n < 13 → s.fld .CAL_PERIOD_SEC ≠ 0 → s.flag .CAL_CTRL_BGEN = true →
      s.cal.due.contains n = false → s.fldBit .SLC_RETIRED_RET n = false → (s.slice n).off = false →
    Runs (.calPeriodExpire n) s (fun t =>
      t.cal.due = s.cal.due ++ [n] ∧ FieldsKept [.CAL_STAT_HELD] s t ∧
      t = { s with regs := t.regs, cal := { s.cal with due := t.cal.due } })) ∧
  (∀ (n : Nat) (s : State), n < 13 → s.fld .CAL_PERIOD_SEC = 0 → Runs (.calPeriodExpire n) s (fun t => t = s)) ∧
  (∀ (p : Path) (n : Nat) (s : State), isPath p = true → n < 13 → Admits p Reg.CAL_CTRL s →
      s.flag .CAL_CTRL_BGEN = true → s.cal.due.contains n = false → s.fldBit .SLC_RETIRED_RET n = false →
      (s.slice n).off = false → (n = 12 → s.flag .CAL_STAT_SWRET = false) →
    Runs (.now p n) s (fun t =>
      t.cal.due = s.cal.due ++ [n] ∧ FieldsKept [.CAL_STAT_HELD] s t ∧
      t = { s with regs := t.regs, paths := t.paths, host := t.host, cal := { s.cal with due := t.cal.due } })) ∧
  (∀ (p : Path) (n : Nat) (s : State), isPath p = true → n < 16 → Admits p Reg.CAL_CTRL s →
      (13 ≤ n ∨ s.fldBit .SLC_RETIRED_RET n = true ∨ (n = 12 ∧ s.flag .CAL_STAT_SWRET = true)) →
    Runs (.now p n) s (fun t =>
      (p = .host → t.host.answer.status = stDeny) ∧ t = { s with paths := t.paths, host := t.host })) ∧
  (∀ (n : Nat) (s : State), leadCandidate s = some n →
    Runs .swingLeadBegin s (fun t =>
      t.calPhase = phSwcal ∧ t.calSlice = n ∧ t.fldBit .SLC_DIRECT_DIR 12 = true ∧ t.retries n = 0 ∧ t.retries 12 = 0 ∧
      t.cal.takeFails = 0 ∧
      t.cal.measuring = true ∧ t.tab = s.tab ∧ (∀ m, m ≠ 12 → t.slice m = s.slice m) ∧
      ((s.slice 12).win = none → (s.slice 12).off = false → s.flag .REF_STAT_READY = true →
        (t.slice 12).win.any (fun w => w.occ.kind == 3) = true) ∧
      BlocksKept (4 :: 5 :: 6 :: reportBlocks) s t ∧ MemKept s t)) ∧
  (∀ s : State, leadCandidate s = none → Runs .swingLeadBegin s (fun t => t = s)) ∧
  (∀ s : State, s.calPhase = phProbe → s.cal.compared = 0 → s.cal.sys = none →
    Runs .probeTmaxExpire s (fun t =>
      t.calPhase = phIdle ∧ t.cal.due = s.cal.due.filter (· != s.calSlice) ∧ t.cal.probe = none ∧
      FieldsKept [.CAL_STAT_PHASE, .CAL_STAT_SLICE, .CAL_STAT_HELD, .SEQ_STAT_UQ, .SEQ_STAT_UWAIT] s t ∧
      t = { s with regs := t.regs, cal := t.cal })) ∧
  (∀ s : State, s.calPhase ≠ phProbe ∨ s.cal.compared ≠ 0 → Runs .probeTmaxExpire s (fun t => t = s))

/-- CALIBRATION_COMPLETE and COEF_SCRUB (R359, R361 to R364, R367, R373, R377, R389): two passes whose codes agree install their
means into the eight entries and the overlap follows, in SWCAL and in COVER; passes that differ are tried again, and the fourth
failure retires the slice; no calibration in progress, nothing happens; a damaged entry is reported and its slice becomes due.
The model's own readings: log entries 20, 30, 45 and 53. -/
def Obligations.CalibrationInstallsCodes : Prop :=
  (∀ (ma mb : List (Int × Int)) (s : State), (Instr.calibrationComplete ma mb).wellFormed = true →
      s.calPhase = phSwcal → s.cal.measuring = true → s.hasBurst .exc 0 = false →
      (List.range 8).all (fun c => coefOk (coefEntry s.tab.coef (sliceEntry 12 c))) = true →
      worstDiff (passCodes 12 ma s).1 (passCodes 12 mb s).1 ≤ s.fld .CAL_TOL_RTOL * 1000 → s.flag .SEQ_CTRL_RUN = true →
      s.entries.any (fun e => tSlice (s.topoEntry e) == s.calSlice || tSlice (s.topoEntry e) == sliceAny) = true →
    Runs (.calibrationComplete ma mb) s (fun t =>
      t.calPhase = phTake ∧ t.calSlice = s.calSlice ∧ t.fldBit .SLC_DIRECT_DIR 12 = false ∧ t.cal.measuring = false ∧
      t.cal.due = s.cal.due.filter (· != 12) ∧
      (s.fldBit .SLC_RETIRED_RET 12 = false → t.regN (Reg.CAL_QUALSPR 12) =
        min 65534 (ceilDiv (worstDiff (passCodes 12 ma s).1 (passCodes 12 mb s).1) 1000)) ∧
      (∀ c, c < 8 → coefOk (coefEntry t.tab.coef (sliceEntry 12 c)) = true ∧
        ew (coefEntry t.tab.coef (sliceEntry 12 c)) 0 = word (wrap16 (meanToward
          (signed16 (ew (coefEntry s.tab.coef (sliceEntry 12 c)) 0).toNat)
          (nth (0, 0) (passCodes 12 ma s).1 c).1 (nth (0, 0) (passCodes 12 mb s).1 c).1)) ∧
        ew (coefEntry t.tab.coef (sliceEntry 12 c)) 1 = word (wrap16 (meanToward
          (signed16 (ew (coefEntry s.tab.coef (sliceEntry 12 c)) 1).toNat)
          (nth (0, 0) (passCodes 12 ma s).1 c).2 (nth (0, 0) (passCodes 12 mb s).1 c).2))) ∧
      (∀ m, m ≠ 12 → t.slice m = s.slice m) ∧
      t = { s with regs := t.regs, tab := { s.tab with coef := t.tab.coef, coefAlt := t.tab.coefAlt }, cal := t.cal,
                   conns := t.conns, slices := t.slices } ∧
      BlocksKept [4, 5, 6] s t)) ∧
  (∀ (ma mb : List (Int × Int)) (s : State), (Instr.calibrationComplete ma mb).wellFormed = true →
      s.calPhase = phCover → s.cal.measuring = true → s.hasBurst .exc 0 = false → s.calSlice < 12 →
      (List.range 8).all (fun c => coefOk (coefEntry s.tab.coef (sliceEntry s.calSlice c))) = true →
      worstDiff (passCodes s.calSlice ma s).1 (passCodes s.calSlice mb s).1 ≤ s.fld .CAL_TOL_RTOL * 1000 →
      s.flag .SEQ_CTRL_RUN = true →
      s.entries.any (fun e => tSlice (s.topoEntry e) == s.calSlice || tSlice (s.topoEntry e) == sliceAny) = true →
    Runs (.calibrationComplete ma mb) s (fun t =>
      t.calPhase = phBack ∧ t.calSlice = s.calSlice ∧ t.fldBit .SLC_DIRECT_DIR s.calSlice = false ∧
      t.cal.measuring = false ∧ t.cal.due = s.cal.due.filter (· != s.calSlice) ∧
      (∀ c, c < 8 → coefOk (coefEntry t.tab.coef (sliceEntry s.calSlice c)) = true ∧
        ew (coefEntry t.tab.coef (sliceEntry s.calSlice c)) 0 = word (wrap16 (meanToward
          (signed16 (ew (coefEntry s.tab.coef (sliceEntry s.calSlice c)) 0).toNat)
          (nth (0, 0) (passCodes s.calSlice ma s).1 c).1 (nth (0, 0) (passCodes s.calSlice mb s).1 c).1)) ∧
        ew (coefEntry t.tab.coef (sliceEntry s.calSlice c)) 1 = word (wrap16 (meanToward
          (signed16 (ew (coefEntry s.tab.coef (sliceEntry s.calSlice c)) 1).toNat)
          (nth (0, 0) (passCodes s.calSlice ma s).1 c).2 (nth (0, 0) (passCodes s.calSlice mb s).1 c).2))) ∧
      (∀ m, m ≠ s.calSlice → t.slice m = s.slice m) ∧
      t = { s with regs := t.regs, tab := { s.tab with coef := t.tab.coef, coefAlt := t.tab.coefAlt }, cal := t.cal,
                   conns := t.conns, slices := t.slices } ∧
      BlocksKept [4, 5, 6] s t)) ∧
  (∀ (ma mb : List (Int × Int)) (s : State), (Instr.calibrationComplete ma mb).wellFormed = true →
      s.calPhase = phSwcal → s.cal.measuring = true →
      (List.range 8).all (fun c => coefOk (coefEntry s.tab.coef (sliceEntry 12 c))) = true →
      s.fld .CAL_TOL_RTOL * 1000 < worstDiff (passCodes 12 ma s).1 (passCodes 12 mb s).1 → s.retries 12 < 3 →
    Runs (.calibrationComplete ma mb) s (fun t =>
      t.retries 12 = s.retries 12 + 1 ∧ t.calPhase = phSwcal ∧ t.tab = s.tab ∧
      BlocksKept (4 :: 5 :: 6 :: reportBlocks) s t ∧ MemKept s t)) ∧
  (∀ (ma mb : List (Int × Int)) (s : State), (Instr.calibrationComplete ma mb).wellFormed = true →
      s.calPhase = phSwcal → s.cal.measuring = true →
      (List.range 8).all (fun c => coefOk (coefEntry s.tab.coef (sliceEntry 12 c))) = true →
      s.fld .CAL_TOL_RTOL * 1000 < worstDiff (passCodes 12 ma s).1 (passCodes 12 mb s).1 → 3 ≤ s.retries 12 →
      s.cal.sys = none → 12 < s.slices.length →
    Runs (.calibrationComplete ma mb) s (fun t =>
      t.flag .CAL_STAT_SWRET = true ∧ t.flag .CAL_STAT_NOBG = true ∧ t.calPhase = phIdle ∧ (t.slice 12).off = true ∧
      t.regN (Reg.CAL_QUALSPR 12) = 65535 ∧ t.tab.coef = s.tab.coef ∧ MemKept s t)) ∧
  (∀ (ma mb : List (Int × Int)) (s : State), (Instr.calibrationComplete ma mb).wellFormed = true →
      s.calPhase = phCover → s.cal.measuring = true → s.calSlice < 12 → s.calSlice < s.slices.length →
      (List.range 8).all (fun c => coefOk (coefEntry s.tab.coef (sliceEntry s.calSlice c))) = true →
      s.fld .CAL_TOL_RTOL * 1000 < worstDiff (passCodes s.calSlice ma s).1 (passCodes s.calSlice mb s).1 →
      3 ≤ s.retries s.calSlice → s.cal.sys = none →
    Runs (.calibrationComplete ma mb) s (fun t =>
      t.fldBit .SLC_RETIRED_RET s.calSlice = true ∧ t.flag .CAL_STAT_NOBG = true ∧ t.calPhase = phIdle ∧
      (t.slice s.calSlice).off = true ∧ t.regN (Reg.CAL_QUALSPR s.calSlice) = 65535 ∧
      t.regN (Reg.CAL_QUALRES s.calSlice) = 65535 ∧ t.cal.cover = s.cal.cover ∧ t.tab.coef = s.tab.coef ∧
      MemKept s t)) ∧
  (∀ (ma mb : List (Int × Int)) (s : State), (Instr.calibrationComplete ma mb).wellFormed = true → s.calRuns = false →
    Runs (.calibrationComplete ma mb) s (fun t => t = s)) ∧
  (∀ (i : Nat) (s : State), i < 168 → coefOk (coefEntry s.tab.coef i) = true → Runs (.coefScrub i) s (fun t => t = s)) ∧
  (∀ (i : Nat) (s : State), i < 64 → coefOk (coefEntry s.tab.coef i) = false → Watches 7 s →
    Runs (.coefScrub i) s (fun t =>
      t.flag .CAL_STAT_COEFFB = true ∧ Reported 7 (128 + i) clsC s t ∧ t.cal = s.cal ∧ t.tab = s.tab ∧
      BlocksKept (6 :: reportBlocks) s t ∧ MemKept s t)) ∧
  (∀ (n c : Nat) (s : State), n < 13 → c < 8 → coefOk (coefEntry s.tab.coef (64 + 8 * n + c)) = false → Watches 7 s →
      s.flag .CAL_CTRL_BGEN = true → s.fldBit .SLC_RETIRED_RET n = false → (s.slice n).off = false →
    Runs (.coefScrub (64 + 8 * n + c)) s (fun t =>
      t.flag .CAL_STAT_COEFFB = true ∧ Reported 7 (64 + n) clsC s t ∧ t.cal.due.contains n = true ∧ t.tab = s.tab ∧
      BlocksKept (6 :: reportBlocks) s t ∧ MemKept s t))

/-- SAVE, RELOAD, FACTORY and RETEST (R363, R379, R387, R388, R390, R600): the items of the active bank that differ from their
journal copies are queued, and none while a job is outstanding or without the grant; the inactive bank takes the journal's or the
factory's codes, or the access is BUSY while a commit stands; a retired slice is covered and measures again, and RETEST of another
slice, of one that the host holds, or during a lead is denied. The model's own readings: log entries 6, 39 and 45. -/
def Obligations.TrimsAreSavedAndReloaded : Prop :=
  (∀ (p : Path) (s : State), isPath p = true → Admits p Reg.CAL_CTRL s → s.granted p grantNvWr = true →
      s.flag .NVM_STAT_PEND = false →
    Runs (.save p) s (fun t =>
      t.nvm.jobs = s.nvm.jobs ++ (((List.range 84).filter (fun i => s.itemData (0x400 + i) != some (s.coefItem i))).map
        (fun i => { kind := .save (0x400 + i) (s.coefItem i), host := true })) ∧
      BlocksKept [10, 11] s t ∧
      t = { s with regs := t.regs, paths := t.paths, host := t.host, nvm := { s.nvm with jobs := t.nvm.jobs, jobFail := t.nvm.jobFail } })) ∧
  (∀ (p : Path) (s : State), isPath p = true → Admits p Reg.CAL_CTRL s → s.granted p grantNvWr = false →
    Runs (.save p) s (fun t =>
      (p = .host → t.host.answer.status = stDeny) ∧ t = { s with paths := t.paths, host := t.host })) ∧
  (∀ (p : Path) (s : State), isPath p = true → Admits p Reg.CAL_CTRL s → s.stagedBusy = false → s.stg.coefCopy = false →
    Runs (.reload p) s (fun t =>
      (∀ i d, i < 84 → s.itemData (0x400 + i) = some d → d.length = 24 →
        readRun coefDefault t.tab.coefAlt (12 * i) 12 = wordsOfBytes d ∧ t.stg.coefHost.contains (2 * i) = true ∧
        t.stg.coefHost.contains (2 * i + 1) = true) ∧
      t.flag .STG_STAT_DIRTY = true ∧ FieldsKept [.STG_STAT_DIRTY, .CAL_STAT_HELD] s t ∧
      t = { s with regs := t.regs, paths := t.paths, host := t.host, tab := { s.tab with coefAlt := t.tab.coefAlt },
                   stg := { s.stg with coefHost := t.stg.coefHost } })) ∧
  (∀ (p : Path) (s : State), isPath p = true → Admits p Reg.CAL_CTRL s → s.stagedBusy = false → s.stg.coefCopy = false →
    Runs (.factory p) s (fun t =>
      (∀ n c, n < 13 → c < 8 → (coefEntry t.tab.coefAlt (sliceEntry n c)).take 5 = s.factoryEntry n c ∧
        coefOk (coefEntry t.tab.coefAlt (sliceEntry n c)) = true ∧ t.stg.coefHost.contains (sliceEntry n c) = true) ∧
      t.flag .STG_STAT_DIRTY = true ∧ FieldsKept [.STG_STAT_DIRTY, .CAL_STAT_HELD] s t ∧
      t = { s with regs := t.regs, paths := t.paths, host := t.host, tab := { s.tab with coefAlt := t.tab.coefAlt },
                   stg := { s.stg with coefHost := t.stg.coefHost } })) ∧
  (∀ (p : Path) (c : Bool) (s : State), isPath p = true → Admits p Reg.CAL_CTRL s →
      s.stagedBusy = true ∨ s.stg.coefCopy = true →
    Runs (if c then .reload p else .factory p) s (fun t =>
      (p = .host → t.host.answer.status = stBusy) ∧ t = { s with paths := t.paths, host := t.host })) ∧
  (∀ (p : Path) (n : Nat) (s : State), isPath p = true → n < 12 → n < s.slices.length → Admits p Reg.CAL_CTRL s →
      s.fldBit .SLC_RETIRED_RET n = true → s.flag .CAL_STAT_SWRET = false → s.calPhase = phIdle →
      s.cal.hostDirect.contains 12 = false → s.cal.hostDirect.contains n = false → s.cal.cover = none →
      (s.slice n).win = none →
    Runs (.retest p n) s (fun t =>
      t.calPhase = phCover ∧ t.calSlice = n ∧ t.cal.cover = some n ∧ t.cal.retest = true ∧ t.retries n = 0 ∧
      (t.slice n).off = false ∧ t.fldBit .SLC_DIRECT_DIR n = true ∧
      t.cal.measuring = (!s.trimsHeld n) ∧ (∀ m, m ≠ n → t.slice m = s.slice m) ∧
      (s.trimsHeld n = true → (t.slice n).win = none) ∧
      (s.trimsHeld n = false → s.flag .REF_STAT_READY = true →
        (t.slice n).win.any (fun w => w.occ.kind == 3) = true) ∧
      BlocksKept (4 :: 5 :: 6 :: reportBlocks) s t ∧ MemKept s t)) ∧
  (∀ (p : Path) (n : Nat) (s : State), isPath p = true → n < 13 → Admits p Reg.CAL_CTRL s →
      n = 12 ∨ s.fldBit .SLC_RETIRED_RET n = false ∨ s.flag .CAL_STAT_SWRET = true ∨ s.calPhase ≠ phIdle ∨
        s.cal.hostDirect.contains 12 = true ∨ s.cal.hostDirect.contains n = true →
    Runs (.retest p n) s (fun t =>
      (p = .host → t.host.answer.status = stDeny) ∧ t = { s with paths := t.paths, host := t.host })) ∧
  (∀ (p : Path) (s : State), isPath p = true → Admits p Reg.CAL_CTRL s → s.granted p grantNvWr = true →
      s.flag .NVM_STAT_PEND = true →
    Runs (.save p) s (fun t =>
      t.nvm = s.nvm ∧ BlocksKept [10] s t ∧ t = { s with regs := t.regs, paths := t.paths, host := t.host })) ∧
  (∀ (p : Path) (n : Nat) (s : State), isPath p = true → 13 ≤ n → n < 16 → Admits p Reg.CAL_CTRL s →
    Runs (.retest p n) s (fun t =>
      (p = .host → t.host.answer.status = stDeny) ∧ t = { s with paths := t.paths, host := t.host }))

/-- SYSZERO, SYSFULL and SYSCAL_POINT_DONE (R382 to R384): a system calibration starts on a slice that the host holds, or on
the swing slice, where it waits for a lead to end; it is BUSY while another runs and denied where the slice or the route does not
serve; groups that agree write the point's code into the inactive entry, and a code out of range ends it as out of range; groups
that do not agree are repeated three times and then end it; without a system calibration, and while it waits, nothing happens.
The model's own readings: log entries 30 and 45. -/
def Obligations.SystemCalibrationWritesItsPoint : Prop :=
  (∀ (p : Path) (full : Bool) (r n : Nat) (s : State), isPath p = true → r < 64 → n < 12 → Admits p Reg.CAL_CTRL s →
      s.fld .CAL_STAT_SYSST ≠ 1 → s.cal.hostDirect.contains n = true → rEmpty (s.routeEntry r) = false →
    Runs (if full then .sysfull p r n else .syszero p r n) s (fun t =>
      t.fld .CAL_STAT_SYSST = 1 ∧ t.fld .CAL_STAT_SYSRSN = 0 ∧ t.cal.sys = some (full, r, n) ∧ t.cal.sysTry = 0 ∧
      t.cal.cover = s.cal.cover ∧ t.calPhase = s.calPhase ∧ t.tab.coef = s.tab.coef ∧ t.tab.coefAlt = s.tab.coefAlt ∧
      (∀ m, m ≠ n → t.slice m = s.slice m) ∧ (∀ w, (s.slice n).win = some w → t.slices = s.slices) ∧
      BlocksKept (1 :: 4 :: 5 :: 6 :: reportBlocks) s t ∧ MemKept s t)) ∧
  (∀ (p : Path) (full : Bool) (r : Nat) (s : State), isPath p = true → r < 64 → Admits p Reg.CAL_CTRL s →
      s.fld .CAL_STAT_SYSST ≠ 1 → s.flag .CAL_STAT_SWRET = false → s.swingCommitted = false →
      s.cal.hostDirect.contains 12 = false → rEmpty (s.routeEntry r) = false → s.calPhase = phIdle →
    Runs (if full then .sysfull p r 12 else .syszero p r 12) s (fun t =>
      t.fld .CAL_STAT_SYSST = 1 ∧ t.calPhase = phSyscal ∧ t.calSlice = 12 ∧
      t.cal.sys = some (full, r, 12) ∧ t.cal.sysTry = 0 ∧ t.tab.coef = s.tab.coef ∧ t.tab.coefAlt = s.tab.coefAlt ∧
      (∀ m, m ≠ 12 → t.slice m = s.slice m) ∧
      BlocksKept (1 :: 4 :: 5 :: 6 :: reportBlocks) s t ∧ MemKept s t)) ∧
  (∀ (p : Path) (full : Bool) (r n : Nat) (s : State), isPath p = true → r < 64 → n < 13 → Admits p Reg.CAL_CTRL s →
      s.fld .CAL_STAT_SYSST = 1 →
    Runs (if full then .sysfull p r n else .syszero p r n) s (fun t =>
      (p = .host → t.host.answer.status = stBusy) ∧ t = { s with paths := t.paths, host := t.host })) ∧
  (∀ (g1 g2 : List Int) (ok : Bool) (r n : Nat) (s : State), (Instr.syscalPointDone g1 g2 ok).wellFormed = true → r < 64 →
      n < 13 → s.cal.sys = some (false, r, n) → (n = 12 → s.calPhase = phSyscal) → s.cal.sysSkip = false →
      ok = true → (groupSum g1 - groupSum g2).natAbs ≤ 16 * s.otolLsb →
      coefOk (coefEntry s.tab.coef (sliceEntry n (getField (ew (coefEntry s.tab.coefAlt r) 2) 5 3))) = true →
      isCode (sysOffset (groupSum g1 + groupSum g2)
        (sliceCodes n (getField (ew (coefEntry s.tab.coefAlt r) 2) 5 3) s).1.2) = true →
    Runs (.syscalPointDone g1 g2 ok) s (fun t =>
      ew (coefEntry t.tab.coefAlt r) 0 = word (wrap16 (sysOffset (groupSum g1 + groupSum g2)
        (sliceCodes n (getField (ew (coefEntry s.tab.coefAlt r) 2) 5 3) s).1.2)) ∧
      (ew (coefEntry t.tab.coefAlt r) 2).getLsbD 4 = true ∧ coefOk (coefEntry t.tab.coefAlt r) = true ∧
      t.fld .CAL_STAT_SYSST = 2 ∧ t.fld .CAL_STAT_SYSRSN = 0 ∧ t.cal.sys = none ∧ t.flag .STG_STAT_DIRTY = true ∧
      t.stg.coefHost.contains r = true ∧ t.tab = { s.tab with coefAlt := t.tab.coefAlt } ∧ MemKept s t)) ∧
  (∀ (g1 g2 : List Int) (ok f : Bool) (r n : Nat) (s : State), (Instr.syscalPointDone g1 g2 ok).wellFormed = true →
      n < 13 → s.cal.sys = some (f, r, n) → (n = 12 → s.calPhase = phSyscal) →
      (ok = false ∨ s.cal.sysSkip = true ∨ 16 * s.otolLsb < (groupSum g1 - groupSum g2).natAbs) →
      s.cal.sysTry < 3 →
    Runs (.syscalPointDone g1 g2 ok) s (fun t =>
      t.cal.sys = s.cal.sys ∧ t.cal.sysTry = s.cal.sysTry + 1 ∧ t.tab = s.tab ∧ MemKept s t)) ∧
  (∀ (g1 g2 : List Int) (ok f : Bool) (r n : Nat) (s : State), (Instr.syscalPointDone g1 g2 ok).wellFormed = true →
      n < 13 → s.cal.sys = some (f, r, n) → (n = 12 → s.calPhase = phSyscal) →
      (ok = false ∨ s.cal.sysSkip = true ∨ 16 * s.otolLsb < (groupSum g1 - groupSum g2).natAbs) →
      3 ≤ s.cal.sysTry →
    Runs (.syscalPointDone g1 g2 ok) s (fun t =>
      t.fld .CAL_STAT_SYSST = 3 ∧
      t.fld .CAL_STAT_SYSRSN = (if ok && !s.cal.sysSkip then 1 else 3) ∧
      t.cal.sys = none ∧ t.cal.sysTry = 0 ∧ t.tab = s.tab ∧ MemKept s t)) ∧
  (∀ (g1 g2 : List Int) (ok : Bool) (s : State), (Instr.syscalPointDone g1 g2 ok).wellFormed = true → s.cal.sys = none →
    Runs (.syscalPointDone g1 g2 ok) s (fun t => t = s)) ∧
  (∀ (p : Path) (full : Bool) (r : Nat) (s : State), isPath p = true → r < 64 → Admits p Reg.CAL_CTRL s →
      s.fld .CAL_STAT_SYSST ≠ 1 → s.flag .CAL_STAT_SWRET = false → s.swingCommitted = false →
      s.cal.hostDirect.contains 12 = false → rEmpty (s.routeEntry r) = false → s.calPhase ≠ phIdle →
    Runs (if full then .sysfull p r 12 else .syszero p r 12) s (fun t =>
      t.fld .CAL_STAT_SYSST = 1 ∧ t.fld .CAL_STAT_SYSRSN = 0 ∧ FieldsKept [.CAL_STAT_SYSST, .CAL_STAT_SYSRSN] s t ∧
      t = { s with regs := t.regs, paths := t.paths, host := t.host,
                   cal := { s.cal with sys := some (full, r, 12), sysTry := 0 } })) ∧
  (∀ (p : Path) (full : Bool) (r n : Nat) (s : State), isPath p = true → r < 64 → n < 13 → Admits p Reg.CAL_CTRL s →
      s.fld .CAL_STAT_SYSST ≠ 1 →
      (n ≠ 12 ∧ s.cal.hostDirect.contains n = false) ∨ rEmpty (s.routeEntry r) = true ∨ (n = 12 ∧
        (s.flag .CAL_STAT_SWRET = true ∨ s.swingCommitted = true ∨ s.cal.hostDirect.contains 12 = true)) →
    Runs (if full then .sysfull p r n else .syszero p r n) s (fun t =>
      (p = .host → t.host.answer.status = stDeny) ∧ t = { s with paths := t.paths, host := t.host })) ∧
  (∀ (g1 g2 : List Int) (ok : Bool) (r n : Nat) (v : Int) (s : State), (Instr.syscalPointDone g1 g2 ok).wellFormed = true →
      r < 64 → n < 13 → s.cal.sys = some (true, r, n) → (n = 12 → s.calPhase = phSyscal) → s.cal.sysSkip = false →
      ok = true → (groupSum g1 - groupSum g2).natAbs ≤ 16 * s.otolLsb →
      coefOk (coefEntry s.tab.coef (sliceEntry n (getField (ew (coefEntry s.tab.coefAlt r) 2) 5 3))) = true →
      sysGain (groupSum g1 + groupSum g2) (target (coefEntry s.tab.coefAlt r))
        (sliceCodes n (getField (ew (coefEntry s.tab.coefAlt r) 2) 5 3) s).1.2 = some v → isCode v = true →
    Runs (.syscalPointDone g1 g2 ok) s (fun t =>
      ew (coefEntry t.tab.coefAlt r) 1 = word (wrap16 v) ∧ coefOk (coefEntry t.tab.coefAlt r) = true ∧
      t.fld .CAL_STAT_SYSST = 2 ∧ t.fld .CAL_STAT_SYSRSN = 0 ∧ t.cal.sys = none ∧ t.flag .STG_STAT_DIRTY = true ∧
      t.stg.coefHost.contains r = true ∧ t.tab = { s.tab with coefAlt := t.tab.coefAlt } ∧ MemKept s t)) ∧
  (∀ (g1 g2 : List Int) (ok : Bool) (r n : Nat) (s : State), (Instr.syscalPointDone g1 g2 ok).wellFormed = true →
      r < 64 → n < 13 → s.cal.sys = some (true, r, n) → (n = 12 → s.calPhase = phSyscal) → s.cal.sysSkip = false →
      ok = true → (groupSum g1 - groupSum g2).natAbs ≤ 16 * s.otolLsb →
      coefOk (coefEntry s.tab.coef (sliceEntry n (getField (ew (coefEntry s.tab.coefAlt r) 2) 5 3))) = true →
      (sysGain (groupSum g1 + groupSum g2) (target (coefEntry s.tab.coefAlt r))
        (sliceCodes n (getField (ew (coefEntry s.tab.coefAlt r) 2) 5 3) s).1.2).all (fun v => !isCode v) = true →
    Runs (.syscalPointDone g1 g2 ok) s (fun t =>
      t.fld .CAL_STAT_SYSST = 3 ∧ t.fld .CAL_STAT_SYSRSN = 2 ∧ t.cal.sys = none ∧ t.tab = s.tab ∧ t.stg = s.stg ∧
      MemKept s t)) ∧
  (∀ (g1 g2 : List Int) (ok f : Bool) (r : Nat) (s : State), (Instr.syscalPointDone g1 g2 ok).wellFormed = true →
      s.cal.sys = some (f, r, 12) → s.calPhase ≠ phSyscal →
    Runs (.syscalPointDone g1 g2 ok) s (fun t => t = s))

/-! ### The value engines (11) -/

/-- ENGINE_CYCLE_START, ENGINE_CYCLE_END, TWIN_STORAGE_CHECK and CHAR_SCRUB (R398 to R400, R419 to R422, R426, R429 to
R433): a running engine consumes its notices and runs its program on both datapaths; where they agree a valid value is delivered to
the loop, and an alarm requested where a threshold is crossed; where they do not, nothing is delivered and the engine halts with an
alarm request and a report; damaged twins halt it; a damaged table falls back; and an engine that does not run, without a cycle,
with sound twins or tables is left as it is. The model's own readings: log entry 44. -/
def Obligations.EnginesDeliverValues : Prop :=
  (∀ (n : Nat) (s : State), n < 6 → n < s.eng.length → s.engineRuns n = true → (s.engine n).cycle = none →
      (runProgram s n).2.1 = [] → (runProgramB s n).2.1 = [] →
    Runs (.engineCycleStart n) s (fun t =>
      t.engine n = { s.engine n with
        notices := [], cycle := some (runProgram s n).1, cycleB := some (runProgramB s n).1 } ∧
      t.fldBit .SEQ_QSTAT_ECOAL n = false ∧ t.free = s.free + (runProgramB s n).2.2 + 1 ∧
      (∀ m, m ≠ n → t.engine m = s.engine m) ∧ FieldsKept [Fld.SEQ_QSTAT_ECOAL.bit n] s t ∧
      t = { s with regs := t.regs, eng := t.eng, free := t.free })) ∧
  (∀ (n : Nat) (s : State), n < 6 → s.engineRuns n = false ∨ (s.engine n).cycle.isSome = true →
    Runs (.engineCycleStart n) s (fun t => t = s)) ∧
  (∀ (n : Nat) (u : Option Nat) (d : Bool) (o oB : CycleOut) (s : State), (Instr.engineCycleEnd n u d).wellFormed = true →
      n < s.eng.length → n < s.loops.length → (s.engine n).cycle = some o → (s.engine n).cycleB = some oB →
      CycleAgrees n u d o oB s → (s.loop n).trimPend = none → (s.loop n).modePend = false →
      (s.engine n).cfgPend = false → (s.loop n).mode = 1 → o.x.2 = true → o.lo = false → o.hi = false →
      o.latch = false → s.flag (.VAL_STAT_ALMLAT n) = false →
    Runs (.engineCycleEnd n u d) s (fun t =>
      (t.engine n).cycle = none ∧ (t.engine n).hold = none ∧
      (t.engine n).dac = dacCode (fMin (fMax o.x.1 ma38) ma205) ∧ (t.loop n).setpoint = (t.engine n).dac ∧
      (t.engine n).stateAgrees = true ∧ (t.engine n).progTwin = (s.engine n).progTwin ∧
      t.flag (.VAL_STAT_VALID n) = true ∧ t.flag (.VAL_STAT_FIRST n) = true ∧ t.flag (.VAL_STAT_ALMREQ n) = false ∧
      t.flag (.LOOP_STAT_FVEXP n) = false ∧ (t.loop n).hasValue = true ∧ LoopShows n t ∧
      (∀ m, m ≠ n → t.engine m = s.engine m ∧ t.loop m = s.loop m) ∧ BlocksKept [7] s t ∧ MemKept s t)) ∧
  (∀ (n : Nat) (u : Option Nat) (d : Bool) (o oB : CycleOut) (s : State), (Instr.engineCycleEnd n u d).wellFormed = true →
      n < s.eng.length → n < s.loops.length → (s.engine n).cycle = some o → (s.engine n).cycleB = some oB →
      CycleAgrees n u d o oB s → (s.loop n).trimPend = none → (s.loop n).modePend = false →
      (s.engine n).cfgPend = false → o.lo = true ∨ o.hi = true →
    Runs (.engineCycleEnd n u d) s (fun t =>
      (t.engine n).cycle = none ∧ t.flag (.VAL_STAT_VALID n) = false ∧ t.flag (.VAL_STAT_ALMREQ n) = true ∧
      t.flag (.VAL_STAT_THRLO n) = o.lo ∧ t.flag (.VAL_STAT_THRHI n) = o.hi ∧ LoopShows n t ∧
      BlocksKept [7, 9] s t ∧ MemKept s t)) ∧
  (∀ (n : Nat) (u : Option Nat) (d : Bool) (o oB : CycleOut) (s : State), (Instr.engineCycleEnd n u d).wellFormed = true →
      n < s.eng.length → (s.engine n).cycle = some o → (s.engine n).cycleB = some oB → ¬ CycleAgrees n u d o oB s →
      Watches 10 s →
    Runs (.engineCycleEnd n u d) s (fun t =>
      (t.engine n).haltN = true ∧ (t.engine n).cycle = none ∧ t.flag (.VAL_STAT_VALID n) = false ∧
      ((s.engine n).cfgPend = false → (t.engine n).core = (s.engine n).core) ∧
      t.flag (.VAL_STAT_TWIN n) = true ∧ t.flag (.VAL_STAT_ALMREQ n) = true ∧
      t.flag (.VAL_STAT_RUNNING n) = false ∧ Reported 10 n clsU s t ∧ BlocksKept (7 :: reportBlocks) s t ∧
      MemKept s t)) ∧
  (∀ (n : Nat) (u : Option Nat) (d : Bool) (s : State), (Instr.engineCycleEnd n u d).wellFormed = true →
      (s.engine n).cycle = none →
    Runs (.engineCycleEnd n u d) s (fun t => t = s)) ∧
  (∀ (n : Nat) (s : State), n < 6 → progAgrees s n = true → (s.engine n).stateAgrees = true →
    Runs (.twinStorageCheck n) s (fun t => t = s)) ∧
  (∀ (n : Nat) (s : State), n < 6 → n < s.eng.length → (progAgrees s n = false ∨ (s.engine n).stateAgrees = false) →
      (s.engine n).haltS = false → Watches 10 s →
    Runs (.twinStorageCheck n) s (fun t =>
      (t.engine n).haltS = true ∧ t.flag (.VAL_STAT_TWIN n) = true ∧ t.flag (.VAL_STAT_ALMREQ n) = true ∧
      t.flag (.VAL_STAT_RUNNING n) = false ∧ Reported 10 (16 + n) clsU s t ∧
      BlocksKept (7 :: reportBlocks) s t ∧ MemKept s t)) ∧
  (∀ (k : Nat) (s : State), k < 12 → charOk s.tab.char k = true ∨ s.tab.charBad.contains k = true →
    Runs (.charScrub k) s (fun t => t = s)) ∧
  (∀ (k : Nat) (s : State), k < 12 → charOk s.tab.char k = false → s.tab.charBad.contains k = false →
    Runs (.charScrub k) s (fun t =>
      t.tab = { s.tab with charBad := s.tab.charBad ++ [k] } ∧
      (∀ n, n < 6 → t.flag (.VAL_STAT_CHARFB n) = t.tab.charBad.any (s.charNames n)) ∧
      BlocksKept [7, 9, 10, 11] s t ∧ MemKept s t))

/-! ### Loop ports and FSK (12) -/

/-- FVTMO_EXPIRE, LOOP_FIXED_WRITE and READBACK_WINDOW_END (R444 to R446, R448, R449): a loop in ENGINE mode without a value in
time sets FVEXP, and one in another mode only ends its timer; a fixed code is taken with FORCE and in the range of R482, and
denied otherwise; a readback window shows its mean, and no deviation within the tolerance, in a low voltage or from a start; a
deviation counts, and one that lasts RBTMO is a fault that is reported; the row of R444 is shown; and a timer that does not
run and a loop that is not fitted or not active are left as they are. The model's own readings: log entries 19 and 44. -/
def Obligations.LoopsDriveTheirRow : Prop :=
  (∀ (n : Nat) (s : State), n < 6 → n < s.loops.length → (s.loop n).fvRun = true → s.isActive = true →
      s.seq.frozenAt = none → (s.loop n).mode = 1 →
    Runs (.fvtmoExpire n) s (fun t =>
      t.flag (.LOOP_STAT_FVEXP n) = true ∧ t.loop n = { s.loop n with fvRun := false } ∧ LoopShows n t ∧
      (∀ m, m ≠ n → t.loop m = s.loop m) ∧ BlocksKept [7, 9, 10, 11] s t ∧ MemKept s t)) ∧
  (∀ (n : Nat) (s : State), n < 6 → (s.loop n).fvRun = false ∨ s.isActive = false ∨ s.seq.frozenAt.isSome = true →
    Runs (.fvtmoExpire n) s (fun t => t = s)) ∧
  (∀ (p : Path) (n v : Nat) (s : State), isPath p = true → n < 6 → Admits p (Reg.LOOP_FIXED n) s →
      s.granted p grantForce = true → codeLow ≤ v → v ≤ codeHigh →
    Runs (.loopFixedWrite p n v) s (fun t =>
      t.regN (Reg.LOOP_FIXED n) = v ∧ LoopShows n t ∧ FieldsKept (wholeReg (Reg.LOOP_FIXED n) :: loopFields n) s t ∧
      t = { s with regs := t.regs, paths := t.paths, host := t.host })) ∧
  (∀ (p : Path) (n v : Nat) (s : State), isPath p = true → n < 6 → fits 16 v = true → Admits p (Reg.LOOP_FIXED n) s →
      (s.granted p grantForce = false ∨ v < codeLow ∨ codeHigh < v) →
    Runs (.loopFixedWrite p n v) s (fun t =>
      (p = .host → t.host.answer.status = stDeny) ∧ t = { s with paths := t.paths, host := t.host })) ∧
  (∀ (n r m : Nat) (s : State), n < 6 → n < s.loops.length → r < 65536 → m < 65536 → s.fitted n = true →
      s.isActive = true → (max r m - min r m ≤ s.regN (Reg.LOOP_RBTOL n) ∨ ((s.loop n).lowvSeen = true ∧ r < m) ∨
        (s.loop n).startSeen = true) →
    Runs (.readbackWindowEnd n r m) s (fun t =>
      t.regN (Reg.LOOP_RBACK n) = r ∧ t.flag (.LOOP_STAT_RBDEV n) = false ∧ (t.loop n).devCount = 0 ∧
      FieldsKept [wholeReg (Reg.LOOP_RBACK n), .LOOP_STAT_RBDEV n] s t ∧
      t = { s with regs := t.regs, loops := t.loops })) ∧
  (∀ (n r m : Nat) (s : State), n < 6 → n < s.loops.length → r < 65536 → m < 65536 → s.fitted n = true →
      s.isActive = true → s.regN (Reg.LOOP_RBTOL n) < max r m - min r m → ((s.loop n).lowvSeen = false ∨ m ≤ r) →
      (s.loop n).startSeen = false → (s.loop n).devCount + 1 < s.regN (Reg.LOOP_RBTMO n) →
    Runs (.readbackWindowEnd n r m) s (fun t =>
      t.regN (Reg.LOOP_RBACK n) = r ∧ t.flag (.LOOP_STAT_RBDEV n) = true ∧
      (t.loop n).devCount = (s.loop n).devCount + 1 ∧
      FieldsKept [wholeReg (Reg.LOOP_RBACK n), .LOOP_STAT_RBDEV n] s t ∧
      t = { s with regs := t.regs, loops := t.loops })) ∧
  (∀ (n r m : Nat) (s : State), n < 6 → n < s.loops.length → r < 65536 → m < 65536 → s.fitted n = true →
      s.isActive = true → s.regN (Reg.LOOP_RBTOL n) < max r m - min r m → ((s.loop n).lowvSeen = false ∨ m ≤ r) →
      (s.loop n).startSeen = false → s.regN (Reg.LOOP_RBTMO n) ≤ (s.loop n).devCount + 1 →
      s.flag (.LOOP_STAT_RBF n) = false → Watches 11 s →
    Runs (.readbackWindowEnd n r m) s (fun t =>
      t.flag (.LOOP_STAT_RBF n) = true ∧ t.flag (.LOOP_STAT_EVT n) = true ∧ LoopShows n t ∧ Reported 11 n clsU s t ∧
      BlocksKept (7 :: reportBlocks) s t ∧ MemKept s t)) ∧
  (∀ (n r m : Nat) (s : State), n < 6 → r < 65536 → m < 65536 → s.fitted n = false ∨ s.isActive = false →
    Runs (.readbackWindowEnd n r m) s (fun t => t = s)) ∧
  (∀ (n : Nat) (s : State), n < 6 → (s.loop n).fvRun = true → s.isActive = true → s.seq.frozenAt = none →
      (s.loop n).mode ≠ 1 →
    Runs (.fvtmoExpire n) s (fun t =>
      (n < s.loops.length → t.loop n = { s.loop n with fvRun := false }) ∧ (∀ m, m ≠ n → t.loop m = s.loop m) ∧
      t = { s with loops := t.loops }))

/-- LOWV_DETECT, LOWV_CLEAR, LVTMO_EXPIRE and LVALM_RETRY (R451 to R454): low loop voltage sets LOWV and EVT, gives the short
band and starts its timer; its end gives back the band and, with direction HIGH, clears LVALM; LOWV that lasts LVTMO sets
LVALM, and a retry without LOWV clears it; a retry starts with direction LOW; the row of R444 is shown; and each of the four
outside its condition does nothing. The model's own readings: log entry 27. -/
def Obligations.LowLoopVoltageIsHandled : Prop :=
  (∀ (n : Nat) (s : State), n < 6 → n < s.loops.length → s.fitted n = true → s.flag (.LOOP_STAT_LOWV n) = false →
    Runs (.lowvDetect n) s (fun t =>
      t.flag (.LOOP_STAT_LOWV n) = true ∧ t.flag (.LOOP_STAT_EVT n) = true ∧ t.fld (bandFld n) = bandShort ∧
      (t.loop n).lvTimer = true ∧ (t.loop n).lvRetry = false ∧ LoopShows n t ∧
      (∀ m, m ≠ n → t.loop m = s.loop m) ∧ BlocksKept [1, 7, 9, 10, 11] s t ∧ MemKept s t)) ∧
  (∀ (n : Nat) (s : State), n < 6 → s.fitted n = false ∨ s.flag (.LOOP_STAT_LOWV n) = true →
    Runs (.lowvDetect n) s (fun t => t = s)) ∧
  (∀ (n : Nat) (s : State), n < 6 → n < s.loops.length → s.flag (.LOOP_STAT_LOWV n) = true →
    Runs (.lowvClear n) s (fun t =>
      t.flag (.LOOP_STAT_LOWV n) = false ∧ t.flag (.LOOP_STAT_EVT n) = true ∧ (t.loop n).lvTimer = false ∧
      t.fld (bandFld n) = (if s.fld (bandFld n) = bandShort then bandBypass else s.fld (bandFld n)) ∧
      t.flag (.LOOP_STAT_LVALM n) = (s.flag (.LOOP_STAT_LVALM n) && s.almDir n != 1) ∧ LoopShows n t ∧
      BlocksKept [1, 7] s t ∧ MemKept s t)) ∧
  (∀ (n : Nat) (s : State), n < 6 → s.flag (.LOOP_STAT_LOWV n) = false → Runs (.lowvClear n) s (fun t => t = s)) ∧
  (∀ (n : Nat) (s : State), n < 6 → n < s.loops.length → (s.loop n).lvTimer = true → s.flag (.LOOP_STAT_LOWV n) = true →
      s.flag (.LOOP_STAT_LVALM n) = false →
    Runs (.lvtmoExpire n) s (fun t =>
      t.flag (.LOOP_STAT_LVALM n) = true ∧ (t.loop n).lvTimer = false ∧ LoopShows n t ∧
      BlocksKept [7, 9, 10, 11] s t ∧ MemKept s t)) ∧
  (∀ (n : Nat) (s : State), n < 6 → n < s.loops.length → (s.loop n).lvRetry = true → s.flag (.LOOP_STAT_LOWV n) = false →
      s.flag (.LOOP_STAT_LVALM n) = true →
    Runs (.lvtmoExpire n) s (fun t =>
      t.flag (.LOOP_STAT_LVALM n) = false ∧ (t.loop n).lvRetry = false ∧ LoopShows n t ∧
      BlocksKept [7, 9, 10, 11] s t ∧ MemKept s t)) ∧
  (∀ (n : Nat) (s : State), n < 6 → (s.loop n).lvTimer = false → (s.loop n).lvRetry = false →
    Runs (.lvtmoExpire n) s (fun t => t = s)) ∧
  (∀ (n : Nat) (s : State), n < 6 → n < s.loops.length → s.flag (.LOOP_STAT_LVALM n) = true → s.almDir n = 0 →
      s.flag (.LOOP_STAT_LOWV n) = false →
    Runs (.lvalmRetry n) s (fun t =>
      (t.loop n).lvRetry = true ∧ LoopShows n t ∧ FieldsKept (loopFields n) s t ∧
      t = { s with regs := t.regs, loops := t.loops })) ∧
  (∀ (n : Nat) (s : State), n < 6 → s.flag (.LOOP_STAT_LVALM n) = false ∨ s.almDir n ≠ 0 ∨
      s.flag (.LOOP_STAT_LOWV n) = true → Runs (.lvalmRetry n) s (fun t => t = s)) ∧
  (∀ (n : Nat) (s : State), n < 6 → (s.loop n).lvTimer = true → s.flag (.LOOP_STAT_LOWV n) = true →
      s.flag (.LOOP_STAT_LVALM n) = true →
    Runs (.lvtmoExpire n) s (fun t =>
      (n < s.loops.length → t.loop n = { s.loop n with lvTimer := false }) ∧ (∀ m, m ≠ n → t.loop m = s.loop m) ∧
      t = { s with loops := t.loops }))

/-- FSK_FRAME_RECEIVE, FSK_FRAME_ABORT and CARRIER_DETECT (R455 to R462): a good frame for the loop is stored in the lowest
free slot with RXIRQ, and answered Busy without a free slot or a host; one with communication errors is answered with them,
one with an error in its address only sets CERR, and one for another loop, without preambles, without a start delimiter or while
the loop's own frame goes out leaves nothing; an aborted frame leaves nothing; CD follows the carrier while the modem is on.
The model's own readings: log entries 28 and 41. -/
def Obligations.FskFramesAreReceived : Prop :=
  (∀ (n k : Nat) (f : FskFrame) (s : State), (Instr.fskFrameReceive n f).wellFormed = true → s.modemOn n = true →
      s.flag (.FSK_STAT_TXON n) = false → 2 ≤ f.preambles → (f.delim = 0x02 ∨ f.delim = 0x82) → f.addrErr = false →
      s.fskMine n f = true → fskErrors f = 0 → (s.flag (.FSK_CTRL_MNTEN n) = false ∨ (f.cmd ≠ 248 ∧ f.cmd ≠ 249)) →
      s.flag (.FSK_CTRL_QEN n) = true → (List.range 4).find? (fun k => s.slotState n k == slotFree) = some k →
    Runs (.fskFrameReceive n f) s (fun t =>
      t.slotState n k = slotReceived ∧ t.fskW (slotKey n k 1) = word (256 * f.cmd + f.data.length) ∧
      (fskBytes t (slotKey n k 4) f.data.length = f.data) ∧ t.flag (.FSK_STAT_RXIRQ n) = true ∧
      (∀ j, j < 4 → j ≠ k → t.slotState n j = s.slotState n j) ∧
      FieldsKept [.FSK_STAT_QCNT n, .FSK_STAT_RXIRQ n] s t ∧
      t = { s with regs := t.regs, fsk := t.fsk, tab := { s.tab with fsk := t.tab.fsk } })) ∧
  (∀ (n : Nat) (f : FskFrame) (s : State), (Instr.fskFrameReceive n f).wellFormed = true → n < s.fsk.length →
      s.modemOn n = true → s.flag (.FSK_STAT_TXON n) = false → 2 ≤ f.preambles → (f.delim = 0x02 ∨ f.delim = 0x82) →
      f.addrErr = false → s.fskMine n f = true → fskErrors f = 0 →
      (s.flag (.FSK_CTRL_MNTEN n) = false ∨ (f.cmd ≠ 248 ∧ f.cmd ≠ 249)) →
      (s.flag (.FSK_CTRL_QEN n) = false ∨ (List.range 4).all (fun k => s.slotState n k != slotFree) = true) →
    Runs (.fskFrameReceive n f) s (fun t =>
      (t.fskCh n).tx = (s.fskCh n).tx ++ [⟨ackFrame s n (fskLong f) f.master f.addr f.cmd 32 [], none⟩] ∧
      t.flag (.FSK_STAT_BUSYR n) = true ∧ t.flag (.FSK_STAT_TXON n) = true ∧
      FieldsKept [.FSK_STAT_BUSYR n, .FSK_STAT_TXON n] s t ∧ t = { s with regs := t.regs, fsk := t.fsk })) ∧
  (∀ (n : Nat) (f : FskFrame) (s : State), (Instr.fskFrameReceive n f).wellFormed = true → n < s.fsk.length →
      s.modemOn n = true → s.flag (.FSK_STAT_TXON n) = false → 2 ≤ f.preambles → (f.delim = 0x02 ∨ f.delim = 0x82) →
      f.addrErr = false → s.fskMine n f = true → fskErrors f ≠ 0 →
    Runs (.fskFrameReceive n f) s (fun t =>
      (t.fskCh n).tx = (s.fskCh n).tx ++
        [⟨ackFrame s n (fskLong f) f.master f.addr f.cmd (0x80 + fskErrors f) [], none⟩] ∧
      t.flag (.FSK_STAT_CERR n) = true ∧ t.flag (.FSK_STAT_TXON n) = true ∧
      FieldsKept [.FSK_STAT_CERR n, .FSK_STAT_TXON n] s t ∧ t = { s with regs := t.regs, fsk := t.fsk })) ∧
  (∀ (n : Nat) (f : FskFrame) (s : State), (Instr.fskFrameReceive n f).wellFormed = true → s.modemOn n = true →
      s.flag (.FSK_STAT_TXON n) = false → 2 ≤ f.preambles → (f.delim = 0x02 ∨ f.delim = 0x82) → f.addrErr = true →
    Runs (.fskFrameReceive n f) s (fun t =>
      t.flag (.FSK_STAT_CERR n) = true ∧ FieldsKept [.FSK_STAT_CERR n] s t ∧ t = { s with regs := t.regs })) ∧
  (∀ (n : Nat) (f : FskFrame) (s : State), (Instr.fskFrameReceive n f).wellFormed = true →
      (s.modemOn n = false ∨ s.flag (.FSK_STAT_TXON n) = true ∨ f.preambles < 2 ∨ (f.delim ≠ 0x02 ∧ f.delim ≠ 0x82) ∨
        (f.addrErr = false ∧ s.fskMine n f = false)) →
    Runs (.fskFrameReceive n f) s (fun t => t = s)) ∧
  (∀ (n : Nat) (s : State), n < 6 → Runs (.fskFrameAbort n) s (fun t => t = s)) ∧
  (∀ (n : Nat) (on : Bool) (s : State), n < 6 →
    Runs (.carrierDetect n on) s (fun t =>
      t.flag (.FSK_STAT_CD n) = (on && s.modemOn n) ∧ FieldsKept [.FSK_STAT_CD n] s t ∧ t = { s with regs := t.regs }))

/-- MESSAGE_POST, MESSAGE_DROP, RESPONSE_SENT, MESSAGE_EXPIRE and BURST_FRAME_SEND (R461, R463 to R466): a received message
is answered with the response that stands in its slot, dropped, or answered Busy when it expires; a slot in another state is
denied; a slot is free once its answer has gone; a burst entry is sent with the master bit alternating; and without a frame, a
received message or an enabled entry nothing happens. The model's own readings: log entries 28 and 41. -/
def Obligations.FskMessagesAreAnswered : Prop :=
  (∀ (p : Path) (n k : Nat) (s : State), isPath p = true → n < 6 → n < s.fsk.length → k < 4 → AdmitsTable p spFskq s →
      s.slotState n k = slotReceived →
    Runs (.messagePost p n k) s (fun t =>
      t.slotState n k = slotPosted ∧ t.flag (.FSK_STAT_TXON n) = true ∧
      (t.fskCh n).tx = (s.fskCh n).tx ++ [⟨ackFrame s n ((s.fskW (slotKey n k 0)).getLsbD 11)
        ((s.fskW (slotKey n k 0)).getLsbD 12) (slotAddr s n k) (getField (s.fskW (slotKey n k 1)) 8 8)
        (getField (s.fskW (slotKey n k 32)) 0 8)
        (fskBytes s (slotKey n k 36) (min 56 (getField (s.fskW (slotKey n k 33)) 0 8))), some k⟩] ∧
      FieldsKept [.FSK_STAT_TXON n, .FSK_STAT_QCNT n] s t ∧
      t = { s with regs := t.regs, paths := t.paths, host := t.host, fsk := t.fsk,
                   tab := { s.tab with fsk := t.tab.fsk } })) ∧
  (∀ (p : Path) (n k : Nat) (s : State), isPath p = true → n < 6 → k < 4 → AdmitsTable p spFskq s →
      s.slotState n k = slotReceived →
    Runs (.messageDrop p n k) s (fun t =>
      t.slotState n k = slotFree ∧ FieldsKept [.FSK_STAT_QCNT n] s t ∧
      t = { s with regs := t.regs, paths := t.paths, host := t.host, fsk := t.fsk,
                   tab := { s.tab with fsk := t.tab.fsk } })) ∧
  (∀ (p : Path) (n k : Nat) (post : Bool) (s : State), isPath p = true → n < 6 → k < 4 → AdmitsTable p spFskq s →
      s.slotState n k ≠ slotReceived →
    Runs (if post then .messagePost p n k else .messageDrop p n k) s (fun t =>
      (p = .host → t.host.answer.status = stDeny) ∧ t = { s with paths := t.paths, host := t.host })) ∧
  (∀ (n k : Nat) (f : FskTx) (rest : List FskTx) (s : State), n < 6 → n < s.fsk.length → k < 4 →
      (s.fskCh n).tx = f :: rest → f.slot = some k →
    Runs (.responseSent n) s (fun t =>
      (t.fskCh n).tx = rest ∧ t.flag (.FSK_STAT_TXON n) = !rest.isEmpty ∧ t.slotState n k = slotFree ∧
      FieldsKept [.FSK_STAT_TXON n, .FSK_STAT_QCNT n] s t ∧
      t = { s with regs := t.regs, fsk := t.fsk, tab := { s.tab with fsk := t.tab.fsk } })) ∧
  (∀ (n : Nat) (s : State), n < 6 → (s.fskCh n).tx = [] → Runs (.responseSent n) s (fun t => t = s)) ∧
  (∀ (n k : Nat) (s : State), n < 6 → n < s.fsk.length → k < 4 → s.slotState n k = slotReceived →
    Runs (.messageExpire n k) s (fun t =>
      t.slotState n k = slotFree ∧ t.flag (.FSK_STAT_LATE n) = true ∧ t.flag (.FSK_STAT_TXON n) = true ∧
      (t.fskCh n).tx = (s.fskCh n).tx ++ [⟨ackFrame s n ((s.fskW (slotKey n k 0)).getLsbD 11)
        ((s.fskW (slotKey n k 0)).getLsbD 12) (slotAddr s n k) (getField (s.fskW (slotKey n k 1)) 8 8) 32 [], none⟩] ∧
      FieldsKept [.FSK_STAT_TXON n, .FSK_STAT_QCNT n, .FSK_STAT_LATE n] s t ∧
      t = { s with regs := t.regs, fsk := t.fsk, tab := { s.tab with fsk := t.tab.fsk } })) ∧
  (∀ (n k : Nat) (s : State), n < 6 → k < 4 → s.slotState n k ≠ slotReceived →
    Runs (.messageExpire n k) s (fun t => t = s)) ∧
  (∀ (n b : Nat) (s : State), n < 6 → n < s.fsk.length → b < 3 → s.modemOn n = true → s.flag (.FSK_CTRL_BURST n) = true →
      (s.fskW (burstKey n b 0)).getLsbD 15 = true → s.isFatal = false →
    Runs (.burstFrameSend n b) s (fun t =>
      (t.fskCh n).tx = (s.fskCh n).tx ++ [⟨frameOut s n 0x81 (addrBytes s n true (s.fskCh n).burstMaster (s.longAddr n))
        (getField (s.fskW (burstKey n b 0)) 0 8) 0 (burstPayload s n b), none⟩] ∧
      (t.fskCh n).burstMaster = !(s.fskCh n).burstMaster ∧ t.flag (.FSK_STAT_TXON n) = true ∧
      FieldsKept [.FSK_STAT_TXON n] s t ∧ t = { s with regs := t.regs, fsk := t.fsk })) ∧
  (∀ (n b : Nat) (s : State), n < 6 → b < 3 → (s.modemOn n = false ∨ s.flag (.FSK_CTRL_BURST n) = false ∨
      (s.fskW (burstKey n b 0)).getLsbD 15 = false ∨ s.isFatal = true) →
    Runs (.burstFrameSend n b) s (fun t => t = s))

/-- READ_WORDS and WRITE_WORDS (R460, R462, R468): with MNTEN a maintenance command of one word on the loop's own path reads or
writes the register and answers at once; a refused word answers code 16, and a request with a count of 0 code 5; without MNTEN and
QEN the frame is answered Busy like any other; and a modem that is off, or whose own frame goes out, does not hear it. The
model's own readings: log entries 28 and 41. -/
def Obligations.MaintenanceReachesRegisters : Prop :=
  (∀ (n a : Nat) (long master : Bool) (s : State), n < 6 → n < s.fsk.length → a < 512 → s.modemOn n = true →
      s.flag (.FSK_STAT_TXON n) = false → s.flag (.FSK_CTRL_MNTEN n) = true → AdmitsRead (.loop n) a s →
      plainlyRead a = true → (regInfo a).rc = 0 →
    Runs (.readWords n long master (beNat 2 a ++ [1])) s (fun t =>
      (t.fskCh n).tx = (s.fskCh n).tx ++ [⟨ackFrame s n long master (if long then s.longAddr n else s.pollAddr n) 248 0
        (beNat 2 a ++ beNat 2 (s.regN a)), none⟩] ∧
      t.flag (.FSK_STAT_MNT n) = true ∧ t.flag (.FSK_STAT_TXON n) = true ∧
      FieldsKept [.FSK_STAT_MNT n, .FSK_STAT_TXON n] s t ∧
      t = { s with regs := t.regs, paths := t.paths, fsk := t.fsk })) ∧
  (∀ (n a : Nat) (long master : Bool) (s : State), n < 6 → n < s.fsk.length → a < 512 → s.modemOn n = true →
      s.flag (.FSK_STAT_TXON n) = false → s.flag (.FSK_CTRL_MNTEN n) = true → s.served = true →
      alwaysReadable a = false → s.mayRead (.loop n) (blockOf a) = false →
    Runs (.readWords n long master (beNat 2 a ++ [1])) s (fun t =>
      (t.fskCh n).tx = (s.fskCh n).tx ++ [⟨ackFrame s n long master (if long then s.longAddr n else s.pollAddr n) 248 16
        (beNat 2 a), none⟩] ∧
      FieldsKept [.FSK_STAT_MNT n, .FSK_STAT_TXON n] s t ∧
      t = { s with regs := t.regs, paths := t.paths, fsk := t.fsk })) ∧
  (∀ (n a v : Nat) (long master : Bool) (s : State), n < 6 → n < s.fsk.length → a < 512 → fits 16 v = true →
      s.modemOn n = true → s.flag (.FSK_STAT_TXON n) = false → s.flag (.FSK_CTRL_MNTEN n) = true →
      Admits (.loop n) a s → plainlyWritten a = true → a ≠ Reg.FSK_STAT n →
    Runs (.writeWords n long master (beNat 2 a ++ [1] ++ beNat 2 v)) s (fun t =>
      t.reg a = writtenWord a (s.reg a) (word v) ∧
      (t.fskCh n).tx = (s.fskCh n).tx ++ [⟨ackFrame t n long master (if long then s.longAddr n else s.pollAddr n) 249 0
        (beNat 2 a ++ [1]), none⟩] ∧
      t.flag (.FSK_STAT_MNT n) = true ∧ t.flag (.FSK_STAT_TXON n) = true ∧
      FieldsKept [.FSK_STAT_MNT n, .FSK_STAT_TXON n, wholeReg a] s t ∧
      t = { s with regs := t.regs, paths := t.paths, fsk := t.fsk })) ∧
  (∀ (n a : Nat) (long master wr : Bool) (s : State), n < 6 → n < s.fsk.length → a < 512 → s.modemOn n = true →
      s.flag (.FSK_STAT_TXON n) = false → s.flag (.FSK_CTRL_MNTEN n) = true →
    Runs (if wr then .writeWords n long master (beNat 2 a ++ [0]) else .readWords n long master (beNat 2 a ++ [0])) s
      (fun t =>
        (t.fskCh n).tx = (s.fskCh n).tx ++ [⟨ackFrame s n long master (if long then s.longAddr n else s.pollAddr n)
          (if wr then 249 else 248) 5 [], none⟩] ∧
        FieldsKept [.FSK_STAT_MNT n, .FSK_STAT_TXON n] s t ∧ t = { s with regs := t.regs, fsk := t.fsk })) ∧
  (∀ (n : Nat) (long master wr : Bool) (req : List Byte) (s : State), n < 6 → req.length < 256 →
      (s.modemOn n = false ∨ s.flag (.FSK_STAT_TXON n) = true) →
    Runs (if wr then .writeWords n long master req else .readWords n long master req) s (fun t => t = s)) ∧
  (∀ (n : Nat) (long master wr : Bool) (req : List Byte) (s : State), n < 6 → n < s.fsk.length → req.length ≤ 56 →
      s.modemOn n = true → s.flag (.FSK_STAT_TXON n) = false → s.flag (.FSK_CTRL_MNTEN n) = false →
      s.flag (.FSK_CTRL_QEN n) = false →
    Runs (if wr then .writeWords n long master req else .readWords n long master req) s (fun t =>
      (t.fskCh n).tx = (s.fskCh n).tx ++ [⟨ackFrame s n long master (if long then s.longAddr n else s.pollAddr n)
        (if wr then 249 else 248) 32 [], none⟩] ∧
      t.flag (.FSK_STAT_BUSYR n) = true ∧
      FieldsKept [.FSK_STAT_BUSYR n, .FSK_STAT_TXON n] s t ∧ t = { s with regs := t.regs, fsk := t.fsk }))

/-! ### The rope (13) -/

/-- LINK_LOSS, LINK_SIGNAL, HELLO_SEND, HELLO_RECEIVE and LINK_RESET_END (R131, R490, R493, R505, R506): a loss, the first
after OFF too, puts a port DOWN with its waiting frames but those of VC2 gone, is reported, orphans a unit on UP, and with both ports
DOWN ends a remote access; transitions bring SIGNAL, and a port without an answer sends HELLO; a HELLO with SEEN brings the port UP
with its credit counts at zero, and DN of the head with an enumeration; one without SEEN brings SIGNAL; and a port that is off, held,
or in another state is left as it is. The model's own readings: log entry 36. -/
def Obligations.LinksComeUpAndGoDown : Prop :=
  (∀ s : State, s.link .dn = linkSignal ∨ s.link .dn = linkUp ∨ (s.link .dn = linkDown ∧ s.rope.dn.unheard = true) →
      Watches 14 s →
    Runs (.linkLoss .dn) s (fun t =>
      t.link .dn = linkDown ∧ t.flag .ROPE_DN_LOSSEV = true ∧ t.flag .ROPE_STAT_LINKEV = true ∧
      t.flag .ROPE_STAT_BCNTX = false ∧ t.rope.dn.queue = s.rope.dn.queue.filter (fun f => f.vc == 2) ∧
      t.rope.dn.sending = none ∧ t.rope.dn.seen = false ∧ t.rope.dn.peer = none ∧
      t.rope.dn.unheard = false ∧ t.rope.up.queue = s.rope.up.queue ∧ t.rope.up.sending = s.rope.up.sending ∧
      (lostForwards s.rope.dn = [] → t.rope.up = s.rope.up) ∧
      (s.link .up = linkDown → ∀ r, s.host.remote = some r → r.answer = none →
        t.host.remote = some { r with answer := some ⟨stUnitErr, 0⟩ }) ∧
      (s.isHead = true → t.rope.chain = []) ∧ Reported 14 1 clsC s t ∧ BlocksKept (8 :: reportBlocks) s t ∧
      MemKept s t)) ∧
  (∀ s : State, s.link .up = linkSignal ∨ s.link .up = linkUp ∨ (s.link .up = linkDown ∧ s.rope.up.unheard = true) →
      s.isHead = false → s.hasAddr = true → Watches 14 s →
    Runs (.linkLoss .up) s (fun t =>
      t.link .up = linkDown ∧ t.flag .ROPE_UP_LOSSEV = true ∧ t.flag .ROPE_STAT_ORPHAN = true ∧
      t.rope.up.queue = s.rope.up.queue.filter (fun f => f.vc == 2) ∧ t.rope.up.sending = none ∧
      t.rope.up.peer = none ∧ t.rope.dn.queue = s.rope.dn.queue ∧ (lostForwards s.rope.up = [] → t.rope.dn = s.rope.dn) ∧
      Reported 14 0 clsC s t ∧
      BlocksKept (8 :: reportBlocks) s t ∧ MemKept s t)) ∧
  (∀ (p : Port) (s : State), s.link p = linkOff ∨ (s.link p = linkDown ∧ (s.port p).unheard = false) →
    Runs (.linkLoss p) s (fun t => t = s)) ∧
  (∀ (p : Port) (s : State), s.link p = linkDown → (s.port p).holdDown = false →
    Runs (.linkSignal p) s (fun t =>
      t.link p = linkSignal ∧ t.flag .ROPE_STAT_LINKEV = true ∧ FieldsKept [stateFld p, .ROPE_STAT_LINKEV] s t ∧
      t = { s with regs := t.regs })) ∧
  (∀ (p : Port) (s : State), s.link p ≠ linkDown ∨ (s.port p).holdDown = true →
    Runs (.linkSignal p) s (fun t => t = s)) ∧
  (∀ (p : Port) (s : State), s.link p = linkDown ∨ s.link p = linkSignal → (s.port p).holdDown = false →
    Runs (.helloSend p) s (fun t =>
      (t.port p).queue = (s.port p).queue ++ [⟨0, tyHello, s.unitNo, 0, helloBytes s p, false⟩] ∧
      t.port (otherPort p) = s.port (otherPort p) ∧ t = { s with rope := t.rope })) ∧
  (∀ (p : Port) (s : State), s.isUp p = true ∨ s.link p = linkOff ∨ (s.port p).holdDown = true →
    Runs (.helloSend p) s (fun t => t = s)) ∧
  (∀ (p : Port) (h : Hello) (s : State), (Instr.helloReceive p h).wellFormed = true → h.seen = false →
      s.link p = linkDown ∨ s.link p = linkSignal → (s.port p).holdDown = false →
    Runs (.helloReceive p h) s (fun t =>
      t.link p = linkSignal ∧ (t.port p).seen = true ∧ (t.port p).peer = some h ∧
      FieldsKept [stateFld p, .ROPE_STAT_LINKEV] s t ∧ t = { s with regs := t.regs, rope := t.rope })) ∧
  (∀ (p : Port) (h : Hello) (s : State), (Instr.helloReceive p h).wellFormed = true → h.seen = true →
      s.link p = linkDown ∨ s.link p = linkSignal → (s.port p).holdDown = false →
      p = .up ∨ (s.isHead = false ∧ (s.hasAddr = false ∨ s.flag .ROPE_STAT_ENUMD = false)) →
    Runs (.helloReceive p h) s (fun t =>
      t.isUp p = true ∧ t.flag .ROPE_STAT_LINKEV = true ∧ (t.port p).peer = some h ∧
      (t.port p).sent = [0, 0, 0, 0] ∧ (t.port p).freed = [0, 0, 0, 0] ∧ (t.port p).received = [0, 0, 0, 0] ∧
      (t.port p).freedOut = [0, 0, 0, 0] ∧ (t.port p).creditPend = [] ∧
      (p = .up → t.isHead = (s.isHead && s.role == 1) ∧ t.rope.headDue = false) ∧
      FieldsKept [stateFld p, .ROPE_STAT_LINKEV, .ROPE_STAT_HEAD, .ROPE_STAT_BCNTX] s t ∧
      t = { s with regs := t.regs, rope := t.rope })) ∧
  (∀ (p : Port) (h : Hello) (s : State), (Instr.helloReceive p h).wellFormed = true →
      s.link p = linkOff ∨ (s.port p).holdDown = true → Runs (.helloReceive p h) s (fun t => t = s)) ∧
  (∀ (p : Port) (s : State),
    Runs (.linkResetEnd p) s (fun t =>
      t.port p = { s.port p with holdDown := false } ∧ t.port (otherPort p) = s.port (otherPort p) ∧
      t = { s with rope := t.rope })) ∧
  (∀ s : State, s.link .up = linkSignal ∨ s.link .up = linkUp ∨ (s.link .up = linkDown ∧ s.rope.up.unheard = true) →
      s.isHead = true ∨ s.hasAddr = false →
    Runs (.linkLoss .up) s (fun t =>
      t.link .up = linkDown ∧ t.flag .ROPE_UP_LOSSEV = true ∧ t.rope.up.sending = none ∧
      FieldsKept [.ROPE_UP_STATE, .ROPE_UP_LOSSEV, .ROPE_STAT_LINKEV] s t ∧
      t = { s with regs := t.regs, rope := t.rope, host := t.host })) ∧
  (∀ (p : Port) (h : Hello) (s : State), (Instr.helloReceive p h).wellFormed = true → s.isUp p = true →
      (s.port p).holdDown = false →
    Runs (.helloReceive p h) s (fun t =>
      t.port p = { s.port p with seen := true, peer := some h } ∧ t.port (otherPort p) = s.port (otherPort p) ∧
      t = { s with rope := t.rope })) ∧
  (∀ (h : Hello) (s : State), (Instr.helloReceive .dn h).wellFormed = true → h.seen = true →
      s.link .dn = linkDown ∨ s.link .dn = linkSignal → s.rope.dn.holdDown = false → s.isHead = true →
    Runs (.helloReceive .dn h) s (fun t =>
      t.isUp .dn = true ∧ t.flag .ROPE_STAT_LINKEV = true ∧ t.rope.proxy = s.unitNo ∧ t.rope.dn.peer = some h ∧
      BlocksKept (8 :: reportBlocks) s t ∧ MemKept s t)) ∧
  (∀ (h : Hello) (s : State), (Instr.helloReceive .dn h).wellFormed = true → h.seen = true →
      s.link .dn = linkDown ∨ s.link .dn = linkSignal → s.rope.dn.holdDown = false → s.isHead = false →
      s.hasAddr = true → s.flag .ROPE_STAT_ENUMD = true →
    Runs (.helloReceive .dn h) s (fun t =>
      t.isUp .dn = true ∧ t.flag .ROPE_STAT_LINKEV = true ∧ t.rope.dn.peer = some h ∧
      (s.isUp .up = true → s.isMine (s.fld .ROPE_ADDR_HEADA) = false → s.fld .ROPE_ADDR_HEADA < 31 →
        s.rope.dnMask.testBit (s.fld .ROPE_ADDR_HEADA) = false →
        t.rope.up.queue = s.rope.up.queue ++ [⟨0, tyEnum, s.unitNo, s.fld .ROPE_ADDR_HEADA, leNat 1 6, false⟩]) ∧
      FieldsKept [.ROPE_DN_STATE, .ROPE_STAT_LINKEV] s t ∧ t = { s with regs := t.regs, rope := t.rope }))

/-- FRAME_RECEIVE, FRAME_TRANSMIT_START, FRAME_TRANSMIT_END, CREDIT, CREDIT_RETURN_TIMEOUT and CREDIT_SYNC (R490, R493,
R496, R497, R501): a frame in error is counted and dropped, and the sixteenth within 1 ms resets the link; one for this unit waits
for its step and one for another goes on; a waiting frame of VC1, else of VC0, starts with the credit it carries; the end of a
forwarded frame frees its units; credit comes back as counted, and a sync sets what has arrived; credit that waits and the sync are
sent; and a port that is off, held, not UP or without a frame is left as it is. The model's own readings: log entry 36. -/
def Obligations.FramesMoveUnderCredit : Prop :=
  (∀ (p : Port) (bs : List Byte) (v : Bool) (s : State), s.link p ≠ linkOff → (s.port p).holdDown = false →
      s.rope.inbox = [] → (v = true ∨ parseFrame bs = none) → (s.port p).errorsAt.length < 15 →
    Runs (.frameReceive p bs v) s (fun t =>
      t.fld (errFld p) = min (s.fld (errFld p) + 1) 255 ∧ FieldsKept [errFld p] s t ∧
      t = { s with regs := t.regs, rope := t.rope })) ∧
  (∀ (p : Port) (bs : List Byte) (f : RopeFrame) (cvc ccnt : Nat) (s : State), s.isUp p = true →
      (s.port p).holdDown = false → parseFrame bs = some (f, cvc, ccnt) → linkLocal f.typ = false → f.typ ≠ tyBcn →
      f.typ ≠ tyTeam → badBroadcast f = false → s.arrivalRoute p f.dst = ⟨true, false, false, false⟩ →
      s.rope.inbox = [] →
    Runs (.frameReceive p bs false) s (fun t =>
      t.rope.inbox = [(p, { f with fwd := false })] ∧ (t.port p).freed = (s.port p).freed.set cvc (ccnt % 64) ∧
      (t.port p).queue = (s.port p).queue ∧ t.port (otherPort p) = s.port (otherPort p) ∧
      t = { s with rope := t.rope })) ∧
  (∀ (bs : List Byte) (f : RopeFrame) (cvc ccnt : Nat) (s : State), s.isUp .dn = true → s.isUp .up = true →
      s.rope.dn.holdDown = false → parseFrame bs = some (f, cvc, ccnt) → linkLocal f.typ = false → f.typ ≠ tyBcn →
      f.typ ≠ tyTeam → badBroadcast f = false → s.arrivalRoute .dn f.dst = ⟨false, true, false, false⟩ →
      s.rope.inbox = [] →
    Runs (.frameReceive .dn bs false) s (fun t =>
      t.rope.up.queue = s.rope.up.queue ++ [{ f with fwd := true }] ∧ t.rope.inbox = [] ∧
      t.rope.dn.freed = s.rope.dn.freed.set cvc (ccnt % 64) ∧ t.rope.dn.queue = s.rope.dn.queue ∧
      t = { s with rope := t.rope })) ∧
  (∀ (p : Port) (bs : List Byte) (v : Bool) (s : State), s.link p = linkOff ∨ (s.port p).holdDown = true →
      s.rope.inbox = [] → Runs (.frameReceive p bs v) s (fun t => t = s)) ∧
  (∀ (p : Port) (f : RopeFrame) (s : State), s.link p ≠ linkOff → (s.port p).sending = none →
      (s.port p).holdDown = false → s.beaconGuard p = false →
      (readyOf (s.port p) 1 (s.isUp p) = some f ∨
        (readyOf (s.port p) 1 (s.isUp p) = none ∧ readyOf (s.port p) 0 (s.isUp p) = some f)) →
    Runs (.frameTransmitStart p) s (fun t =>
      (t.port p).sending = some (freshFrame p f s, (s.port p).creditPend.headD 0,
        listAt (s.port p).freedOut ((s.port p).creditPend.headD 0)) ∧
      (t.port p).queue = (s.port p).queue.erase f ∧ (t.port p).creditPend = (s.port p).creditPend.drop 1 ∧
      t.port (otherPort p) = s.port (otherPort p) ∧ t = { s with rope := t.rope })) ∧
  (∀ (p : Port) (s : State), s.link p = linkOff ∨ (s.port p).sending.isSome = true ∨ (s.port p).holdDown = true →
    Runs (.frameTransmitStart p) s (fun t => t = s)) ∧
  (∀ (p : Port) (f : RopeFrame) (c k : Nat) (s : State), (s.port p).sending = some (f, c, k) →
      s.rope.resetAfter = none →
    Runs (.frameTransmitEnd p) s (fun t =>
      (t.port p).sending = none ∧ (t.port p).queue = (s.port p).queue ∧
      (f.fwd = false → t.port (otherPort p) = s.port (otherPort p)) ∧
      (f.fwd = true → f.vc < (s.port (otherPort p)).freedOut.length →
        listAt (t.port (otherPort p)).freedOut f.vc =
          (listAt (s.port (otherPort p)).freedOut f.vc + frameUnits f.payload.length) % 64) ∧
      t = { s with rope := t.rope })) ∧
  (∀ (p : Port) (s : State), (s.port p).sending = none → Runs (.frameTransmitEnd p) s (fun t => t = s)) ∧
  (∀ (p : Port) (cvc ccnt : Nat) (s : State), cvc < 4 → ccnt < 64 → s.isUp p = true →
    Runs (.credit p cvc ccnt []) s (fun t =>
      t.port p = { s.port p with freed := (s.port p).freed.set cvc ccnt } ∧
      t.port (otherPort p) = s.port (otherPort p) ∧ t = { s with rope := t.rope })) ∧
  (∀ (p : Port) (cvc ccnt : Nat) (sync : List Nat) (s : State), cvc < 4 → ccnt < 64 → sync.length = 4 →
      sync.all (· < 256) = true → s.isUp p = true → (s.port p).received.length = 4 →
      (s.port p).received.all (· < 64) = true →
    Runs (.credit p cvc ccnt sync) s (fun t =>
      (t.port p).received = sync.map (· % 64) ∧ (t.port p).freed = (s.port p).freed.set cvc ccnt ∧
      t = { s with rope := t.rope })) ∧
  (∀ (p : Port) (cvc ccnt : Nat) (s : State), cvc < 4 → ccnt < 64 → s.isUp p = false →
    Runs (.credit p cvc ccnt []) s (fun t => t = s)) ∧
  (∀ (p : Port) (s : State), s.isUp p = true → (s.port p).creditPend ≠ [] →
    Runs (.creditReturnTimeout p) s (fun t =>
      (t.port p).queue = (s.port p).queue ++ [⟨0, tyCredit, s.unitNo, 0, [], false⟩] ∧ t = { s with rope := t.rope })) ∧
  (∀ (p : Port) (s : State), s.isUp p = false ∨ (s.port p).creditPend = [] →
    Runs (.creditReturnTimeout p) s (fun t => t = s)) ∧
  (∀ (p : Port) (s : State), s.isUp p = true →
    Runs (.creditSync p) s (fun t =>
      (t.port p).queue = (s.port p).queue ++ [⟨0, tyCredit, s.unitNo, 0, (s.port p).sent.map byte, false⟩] ∧
      t = { s with rope := t.rope })) ∧
  (∀ (p : Port) (s : State), s.isUp p = false → Runs (.creditSync p) s (fun t => t = s)) ∧
  (∀ (p : Port) (bs : List Byte) (v : Bool) (s : State), s.link p ≠ linkOff → (s.port p).holdDown = false →
      s.rope.inbox = [] → (v = true ∨ parseFrame bs = none) →
      ((s.port p).errorsAt.filter (fun c => decide (s.now < c + clocksPerMs 1))).length = 15 → Watches 14 s →
    Runs (.frameReceive p bs v) s (fun t =>
      t.fld (errFld p) = min (s.fld (errFld p) + 1) 255 ∧ t.link p = linkDown ∧ (t.port p).holdDown = true ∧
      (t.port p).errorsAt = [] ∧ (t.port p).queue = (s.port p).queue.filter (fun f => f.vc == 2) ∧
      Reported 14 (match p with | .up => 0x10 | .dn => 0x11) clsU s t ∧ BlocksKept (8 :: reportBlocks) s t ∧ MemKept s t))

/-- RD, WR, RSP, RST, WAKE and TEAM_WRITE_TIMEOUT (R495, R511, R515): a read and a write on the rope are made with their
requester's rights and answered with their TAG, and a read without the right is answered DENY; a broadcast write has no answer; an
answer reaches the host's access of its TAG, and without one is dropped; a reset with key and right waits for its answer, and
without them is only answered; WAKE with the right starts the exit from bivouac, and otherwise is only answered; a team write that
stays silent is answered with UNITERR, and without one nothing happens. The model's own readings: log entries 1, 36 and 37. -/
def Obligations.RopeAccessIsAnswered : Prop :=
  (∀ (src dst tag a : Nat) (s : State), (Instr.rd src dst tag a).wellFormed = true → s.sys.held = false →
      s.ledSlot dst = none → AdmitsRead (.rope src) a s → plainlyRead a = true → (regInfo a).rc = 0 →
    Runs (.rd src dst tag a) s (fun t =>
      t.rope = (sendOff (rspFrame s.unitNo src tag 0 (s.regN a)) (takeInbox tyRd src s)).rope ∧
      t = { s with paths := t.paths, rope := t.rope })) ∧
  (∀ (src dst tag a : Nat) (s : State), (Instr.rd src dst tag a).wellFormed = true → s.served = true →
      s.ledSlot dst = none → alwaysReadable a = false → s.mayRead (.rope src) (blockOf a) = false →
    Runs (.rd src dst tag a) s (fun t =>
      t.rope = (sendOff (rspFrame s.unitNo src tag stDeny 0) (takeInbox tyRd src s)).rope ∧
      t = { s with paths := t.paths, rope := t.rope })) ∧
  (∀ (src dst tag a v : Nat) (s : State), (Instr.wr src dst tag a v).wellFormed = true →
      s.ledSlot dst = none → Admits (.rope src) a s → plainlyWritten a = true → dst ≠ 31 →
    Runs (.wr src dst tag a v) s (fun t =>
      t.reg a = writtenWord a (s.reg a) (word v) ∧ FieldsKept [wholeReg a] s t ∧
      t.rope = (sendOff (rspFrame t.unitNo src tag 0 v) { takeInbox tyWr src s with regs := t.regs }).rope ∧
      t = { s with regs := t.regs, paths := t.paths, rope := t.rope })) ∧
  (∀ (src tag a v : Nat) (s : State), (Instr.wr src 31 tag a v).wellFormed = true →
      s.ledSlot 31 = none → Admits (.rope src) a s → plainlyWritten a = true →
    Runs (.wr src 31 tag a v) s (fun t =>
      t.reg a = writtenWord a (s.reg a) (word v) ∧ FieldsKept [wholeReg a] s t ∧
      t.rope = (takeInbox tyWr src s).rope ∧ t = { s with regs := t.regs, paths := t.paths, rope := t.rope })) ∧
  (∀ (src tag st d : Nat) (r : Remote) (s : State), (Instr.rsp src tag st d).wellFormed = true →
      s.rope.teamWrites = [] → s.host.remote = some r → r.tag = tag → r.answer = none →
    Runs (.rsp src tag st d) s (fun t =>
      t.host = { s.host with remote := some { r with answer := some ⟨rspBits st, word d⟩ } } ∧
      t.rope = (takeInbox tyRsp src s).rope ∧ t = { s with host := t.host, rope := t.rope })) ∧
  (∀ (src tag st d : Nat) (s : State), (Instr.rsp src tag st d).wellFormed = true → s.rope.teamWrites = [] →
      s.host.remote = none →
    Runs (.rsp src tag st d) s (fun t => t = { s with rope := (takeInbox tyRsp src s).rope })) ∧
  (∀ (src dst tag : Nat) (s : State), (Instr.rst src dst 0xC35A tag).wellFormed = true → s.served = true →
      s.ledSlot dst = none → s.mayWrite (.rope src) 0 = true →
    Runs (.rst src dst 0xC35A tag) s (fun t =>
      t.rope.resetAfter = some (src, tag) ∧ t.free = s.free + 1 ∧ t = { s with rope := t.rope, free := t.free })) ∧
  (∀ (src dst key tag : Nat) (s : State), (Instr.rst src dst key tag).wellFormed = true → s.served = true →
      s.ledSlot dst = none → (key ≠ 0xC35A ∨ s.mayWrite (.rope src) 0 = false) →
    Runs (.rst src dst key tag) s (fun t =>
      t.rope.resetAfter = s.rope.resetAfter ∧ t.free = s.free + 1 ∧ t = { s with rope := t.rope, free := t.free })) ∧
  (∀ (src dst tag : Nat) (s : State), (Instr.wake src dst tag).wellFormed = true → s.served = true →
      s.ledSlot dst = none → s.mayWrite (.rope src) 0 = true → s.inBivouac = true → s.sys.bivExit = false →
      s.fld .SYS_STAT_BIVC ≠ bivBudget →
    Runs (.wake src dst tag) s (fun t =>
      t.flag .SYS_MODE_BIVREQ = false ∧ t.sys.bivExit = true ∧ t.sys.slicesOn = true ∧ t.free = s.free + 1 ∧
      MemKept s t)) ∧
  (∀ (src dst tag : Nat) (s : State), (Instr.wake src dst tag).wellFormed = true → s.served = true →
      s.ledSlot dst = none → (s.mayWrite (.rope src) 0 = false ∨ s.inBivouac = false) →
    Runs (.wake src dst tag) s (fun t => t.free = s.free + 1 ∧ t = { s with rope := t.rope, free := t.free })) ∧
  (∀ (w : TeamWrite) (rest : List TeamWrite) (r : Remote) (s : State), s.rope.teamWrites = w :: rest → w.src = 0 →
      w.last = false → s.host.remote = some r → r.tag = w.tag → r.answer = none →
    Runs .teamWriteTimeout s (fun t =>
      t.rope = { s.rope with teamWrites := rest } ∧
      t.host.remote = some { r with answer := some ⟨rspBits (w.bits ||| stUnitErr), word w.data⟩ } ∧
      t = { s with host := t.host, rope := t.rope })) ∧
  (∀ (w : TeamWrite) (rest : List TeamWrite) (s : State), s.rope.teamWrites = w :: rest → w.src ≠ 0 → w.last = false →
    Runs .teamWriteTimeout s (fun t =>
      t.rope = (sendRsp s.unitNo w.src w.tag (rspBits (w.bits ||| stUnitErr)) w.data
        { s with rope := { s.rope with teamWrites := rest } }).rope ∧ t = { s with rope := t.rope })) ∧
  (∀ s : State, s.rope.teamWrites = [] → Runs .teamWriteTimeout s (fun t => t = s))

/-- HEAD_TAKEOVER, QUERY, REPORT, ASSIGN, DONE, FINISH and REATTACH (R500, R502 to R504, R506): a unit that has waited for a
rope above it becomes head with its own address; a queried unit reports its neighbour; the head binds an address to a reported unit
and assigns it; the unit takes it, leaving its teams where it had another, and a proxy passes it on; the head goes on from a new
unit whose DN is UP and ends where it is not; FINISH sets ENUMD; the head enumerates again from a unit that asks; and at a unit that
is not head, or while nothing is enumerated, nothing happens. The model's own readings: log entry 36. -/
def Obligations.UnitsAreEnumerated : Prop :=
  (∀ (a : Nat) (moved : Bool) (s : State), s.isActive = true → s.rope.headDue = true → s.isUp .dn = false →
      chooseAddr s.rope s.uid (if s.hasAddr then s.unitNo else 0) (s.fld .ROPE_CFG_PIN) = some (a, moved) → a < 32 →
    Runs .headTakeover s (fun t =>
      t.isHead = true ∧ t.hasAddr = true ∧ t.unitNo = a ∧ t.fld .ROPE_ADDR_HEADA = a ∧ t.fld .ROPE_ADDR_HOP = 0 ∧
      t.rope.binding.contains (a, s.uid) = true ∧ t.rope.chain = [] ∧ t.rope.cumDelay = 0 ∧ t.rope.headDue = false ∧
      FieldsKept [.ROPE_STAT_HEAD, .ROPE_STAT_ORPHAN, .ROPE_ADDR_VALID, .ROPE_ADDR_ADDR, .ROPE_ADDR_HEADA,
        .ROPE_ADDR_HOP] s t ∧ t = { s with regs := t.regs, rope := t.rope })) ∧
  (∀ s : State, s.isActive = false ∨ s.rope.headDue = false → Runs .headTakeover s (fun t => t = s)) ∧
  (∀ (src : Nat) (h : Hello) (s : State), (Instr.query src).wellFormed = true → s.rope.dn.peer = some h →
    Runs (.query src) s (fun t =>
      t = sendEnum src 2 (uidBytes h.uid ++ leNat 1 h.addr ++ leNat 1 h.pinned) (takeInbox tyEnum src s) ∧
      t = { s with rope := t.rope })) ∧
  (∀ (src : Nat) (s : State), (Instr.query src).wellFormed = true → s.rope.dn.peer = none →
    Runs (.query src) s (fun t => t = { s with rope := (takeInbox tyEnum src s).rope })) ∧
  (∀ (uid present pinned a : Nat) (s : State), (Instr.report uid present pinned).wellFormed = true → s.isHead = true →
      s.rope.enumOn = true → chooseAddr s.rope uid present pinned = some (a, false) →
    Runs (.report uid present pinned) s (fun t =>
      t.rope.binding.contains (a, uid) = true ∧ t.rope.chain = s.rope.chain.take (proxyHop s) ++ [a] ∧
      t.rope.dnMask = s.rope.dnMask ||| 2 ^ a ∧ t.rope.detached.contains a = false ∧ t = { s with rope := t.rope })) ∧
  (∀ (uid present pinned : Nat) (s : State), (Instr.report uid present pinned).wellFormed = true →
      s.isHead = false ∨ s.rope.enumOn = false → Runs (.report uid present pinned) s (fun t => t = s)) ∧
  (∀ (src addr hop delay : Nat) (s : State), (Instr.assign src addr hop delay s.uid).wellFormed = true →
      (s.hasAddr = false ∨ s.unitNo = addr) → (s.fld .ROPE_CFG_PIN = 0 ∨ s.fld .ROPE_CFG_PIN = addr) →
    Runs (.assign src addr hop delay s.uid) s (fun t =>
      t.hasAddr = true ∧ t.unitNo = addr ∧ t.fld .ROPE_ADDR_HOP = hop ∧ t.fld .ROPE_ADDR_HEADA = src ∧
      t.flag .ROPE_STAT_ORPHAN = false ∧
      t.rope = { (takeInbox tyEnum src s).rope with base := delay, probes := [], probesLeft := 8 } ∧
      FieldsKept [.ROPE_ADDR_VALID, .ROPE_ADDR_ADDR, .ROPE_ADDR_HOP, .ROPE_ADDR_HEADA, .ROPE_STAT_ORPHAN] s t ∧
      t = { s with regs := t.regs, rope := t.rope })) ∧
  (∀ (src addr hop delay uid : Nat) (s : State), (Instr.assign src addr hop delay uid).wellFormed = true → uid ≠ s.uid →
      s.isUp .dn = true → s.rope.inbox = [] →
    Runs (.assign src addr hop delay uid) s (fun t =>
      t.rope.dnMask = s.rope.dnMask ||| 2 ^ addr ∧
      t.rope.dn.queue = s.rope.dn.queue ++ [⟨0, tyEnum, src, 0,
        leNat 1 3 ++ leNat 1 addr ++ leNat 1 hop ++ leNat 2 s.rope.cumDelay ++ uidBytes uid, false⟩] ∧
      t = { s with rope := t.rope })) ∧
  (∀ (src d : Nat) (s : State), (Instr.done src d).wellFormed = true → s.isHead = true → s.rope.enumOn = true →
      d ≠ linkUp →
    Runs (.done src d) s (fun t =>
      t.rope.enumOn = false ∧ t.flag .ROPE_STAT_ENUMD = true ∧ FieldsKept [.ROPE_STAT_ENUMD] s t ∧
      t = { s with regs := t.regs, rope := t.rope })) ∧
  (∀ (src : Nat) (s : State), (Instr.done src linkUp).wellFormed = true → s.isHead = true → s.rope.enumOn = true →
      src ≠ s.unitNo →
    Runs (.done src linkUp) s (fun t =>
      t.rope.enumOn = true ∧ t.rope.proxy = src ∧
      t = sendEnum src 1 [] ((takeInbox tyEnum src s).modRope (fun r => { r with enumOn := true, proxy := src })))) ∧
  (∀ (src d : Nat) (s : State), (Instr.done src d).wellFormed = true → s.isHead = false ∨ s.rope.enumOn = false →
    Runs (.done src d) s (fun t => t = s)) ∧
  (∀ s : State, (List.range 4).all (fun k => s.teamState k != tsActive && s.teamState k != tsCycle) = true →
      s.rope.imageTeams = [] →
    Runs .finish s (fun t =>
      t.flag .ROPE_STAT_ENUMD = true ∧ FieldsKept [.ROPE_STAT_ENUMD] s t ∧
      t.rope = (takeInbox tyEnum (s.fld .ROPE_ADDR_HEADA) s).rope ∧ t = { s with regs := t.regs, rope := t.rope })) ∧
  (∀ (src : Nat) (s : State), (Instr.reattach src).wellFormed = true → s.isHead = true → src ≠ s.unitNo →
    Runs (.reattach src) s (fun t =>
      t = sendEnum src 1 [] ((takeInbox tyEnum src s).modRope (fun r => { r with enumOn := true, proxy := src })))) ∧
  (∀ (src : Nat) (s : State), (Instr.reattach src).wellFormed = true → s.isHead = false →
    Runs (.reattach src) s (fun t => t = s)) ∧
  (∀ (src addr hop delay : Nat) (s : State), (Instr.assign src addr hop delay s.uid).wellFormed = true →
      s.hasAddr = true → s.unitNo ≠ addr → (s.fld .ROPE_CFG_PIN = 0 ∨ s.fld .ROPE_CFG_PIN = addr) →
    Runs (.assign src addr hop delay s.uid) s (fun t =>
      t.hasAddr = true ∧ t.unitNo = addr ∧ t.fld .ROPE_ADDR_HOP = hop ∧ t.fld .ROPE_ADDR_HEADA = src ∧
      t.flag .ROPE_STAT_ORPHAN = false ∧ t.fld .ROPE_TEAMS_MEMB = 0 ∧ t.rope.memberOf = [] ∧
      t.rope.base = delay ∧ t.rope.probes = [] ∧ t.rope.probesLeft = 8 ∧
      BlocksKept (8 :: reportBlocks) s t ∧ MemKept s t))

/-- DLY_PROBE, DLY_ECHO, DLY_ECHO_RECEIVE, EVT and DATA (R217, R504, R510, R552): probes and echoes go out, and the eighth
echo gives the hop delay and ANG.HOPDLY; the head keeps a remote event as a record, and a unit that is not head only takes it;
the head joins the stream's segments, drops a frame whose check fails, takes a whole one into its stream ring, and leaves a segment
waiting while the ring has no room; and without probes, a link that is UP or the head nothing happens. The model's own readings:
log entries 36 and 40. -/
def Obligations.DelaysEventsAndStreams : Prop :=
  (∀ s : State, 0 < s.rope.probesLeft → s.isUp .up = true →
    Runs .dlyProbe s (fun t =>
      t.rope.up.queue = s.rope.up.queue ++ [⟨1, tyDly, s.unitNo, 0, [1], false⟩] ∧
      t.rope.probesLeft = s.rope.probesLeft - 1 ∧ t = { s with rope := t.rope })) ∧
  (∀ s : State, s.rope.probesLeft = 0 ∨ s.isUp .up = false → Runs .dlyProbe s (fun t => t = s)) ∧
  (∀ s : State, s.isUp .dn = true →
    Runs .dlyEcho s (fun t =>
      t.rope.dn.queue = s.rope.dn.queue ++ [⟨1, tyDly, s.unitNo, 0, [2], false⟩] ∧ t = { s with rope := t.rope })) ∧
  (∀ s : State, s.isUp .dn = false → Runs .dlyEcho s (fun t => t = s)) ∧
  (∀ (rt : Nat) (s : State), s.isUp .up = true → s.rope.probes.length < 7 →
    Runs (.dlyEchoReceive rt) s (fun t => t = { s with rope := { s.rope with probes := s.rope.probes ++ [rt] } })) ∧
  (∀ (rt l : Nat) (s : State), s.isUp .up = true → s.rope.probes.length = 7 →
      l = (roundDiv (((s.rope.probes.foldl (· + ·) 0 + rt : Nat) : Int) - 3200) 16).toNat → l ≤ 64 →
    Runs (.dlyEchoReceive rt) s (fun t =>
      t.fld .ROPE_UP_LDLY = l ∧ t.rope.cumDelay = (s.rope.base + l + 400) % 65536 ∧ t.rope.probes = [] ∧
      t.regN Reg.ANG_HOPDLY = (if s.angSrc = 0 then 0 else t.rope.cumDelay) ∧
      FieldsKept [.ROPE_UP_LDLY, wholeReg Reg.ANG_HOPDLY] s t ∧ t = { s with regs := t.regs, rope := t.rope })) ∧
  (∀ (rt : Nat) (s : State), s.isUp .up = false → Runs (.dlyEchoReceive rt) s (fun t => t = s)) ∧
  (∀ (src : Nat) (bs : List Byte) (s : State), (Instr.evt src bs).wellFormed = true → s.isHead = true →
      s.isFatal = false → (s.nvm.jobs.filter isLogJob).length < 16 → ofLe (bs.take 2) % 4096 ≠ 0x10E →
    Runs (.evt src bs) s (fun t =>
      t.flag .ROPE_STAT_EVRX = true ∧
      t.nvm.jobs = s.nvm.jobs ++ [{ kind := .logRec ⟨ofLe (bs.take 2) % 4096,
        leNat 2 (ofLe (bs.take 2) % 32768 + 32768) ++ bs.drop 2, false, false⟩ }] ∧
      FieldsKept [.ROPE_STAT_EVRX, .LOG_STAT_QLOG, .NVM_JSTAT_QCNT] s t ∧
      t = { s with regs := t.regs, rope := (takeInbox tyEvt src s).rope, nvm := { s.nvm with jobs := t.nvm.jobs } })) ∧
  (∀ (src : Nat) (bs : List Byte) (s : State), (Instr.evt src bs).wellFormed = true → s.isHead = false →
    Runs (.evt src bs) s (fun t => t = { s with rope := (takeInbox tyEvt src s).rope })) ∧
  (∀ (src : Nat) (bs seg : List Byte) (b : Byte) (l : List Byte) (s : State), (Instr.data src bs).wellFormed = true →
      s.isHead = true → bs = b :: seg → joinSegment src b seg s = (false, some l) → b.getLsbD 6 = false →
      segmentWaits src bs s = false →
    Runs (.data src bs) s (fun t =>
      t.xfer.reasm = s.xfer.reasm.filter (fun r => r.1 != src) ++ [(src, b.toNat % 64 + 1, l)] ∧
      t = { s with rope := (takeInbox tyData src s).rope, xfer := { s.xfer with reasm := t.xfer.reasm } })) ∧
  (∀ (src : Nat) (bs seg : List Byte) (b : Byte) (l : List Byte) (s : State), (Instr.data src bs).wellFormed = true →
      s.isHead = true → bs = b :: seg → joinSegment src b seg s = (false, some l) → b.getLsbD 6 = true →
      frameCheck l = false →
    Runs (.data src bs) s (fun t =>
      t.flag .XFER_STAT_RDROP = true ∧ t.xfer.reasm = s.xfer.reasm.filter (fun r => r.1 != src) ∧
      FieldsKept [.XFER_STAT_RDROP] s t ∧
      t = { s with regs := t.regs, rope := (takeInbox tyData src s).rope,
                   xfer := { s.xfer with reasm := t.xfer.reasm } })) ∧
  (∀ (src : Nat) (bs : List Byte) (s : State), (Instr.data src bs).wellFormed = true → s.isHead = false →
    Runs (.data src bs) s (fun t => t = s)) ∧
  (∀ (src : Nat) (bs : List Byte) (s : State), (Instr.data src bs).wellFormed = true → s.isHead = true →
      segmentWaits src bs s = true → Runs (.data src bs) s (fun t => t = s)) ∧
  (∀ (src : Nat) (bs seg : List Byte) (b : Byte) (l : List Byte) (s : State), (Instr.data src bs).wellFormed = true →
      s.isHead = true → bs = b :: seg → joinSegment src b seg s = (false, some l) → b.getLsbD 6 = true →
      frameCheck l = true → ringRoom s l.length = true →
    Runs (.data src bs) s (fun t =>
      t.xfer.reasm = s.xfer.reasm.filter (fun r => r.1 != src) ∧
      t.fld .XFER_HEAD_BLK = (s.fld .XFER_HEAD_BLK + ceilDiv l.length 32) % s.ringBlocks ∧
      BlocksKept [9] s t ∧ t.rope = (takeInbox tyData src s).rope ∧ (∀ a, t.storeByte a = s.storeByte a) ∧
      (∀ a, t.memByte a = s.memByte a)))

/-- DEFINE, DELETE, TEAM_REGISTER, DEREGISTER, EXPAND, JOIN, LEAVE, TEAM_POLL, SUMMARY and TEAM_MEMBER_TIMEOUT (R500,
R512, R513, R523 to R526): a definition ends ACTIVE with each member joined or LOST, or REFUSED for its words, its id or a cycle,
and is BUSY during a commit; a deletion empties the slot, and is BUSY while it is being defined; the head grants, refuses and
releases ids, and another unit notes the way to a team; a leader tells its masks; a unit counts the teams it has joined; a poll
asks each member; a summary reaches its member's entry, marks another UID, and joins a LOST one again; a silence makes a member
LOST; and a summary without its entry, a poll and a silence outside a team are nothing. The model's own readings: log entries 11
and 37. -/
def Obligations.TeamsAreManaged : Prop :=
  (∀ (p : Path) (slot r : Nat) (granted : Bool) (answers : List (Option (Nat × Nat))) (s : State),
      (Instr.define p slot granted answers).wellFormed = true →
      (s.teamState slot = tsDefining ∨ (AdmitsTable p spTeam s ∧ (s.lead slot).phase = 0)) →
      defineFails s slot = some r →
    Runs (.define p slot granted answers) s (fun t =>
      t.teamState slot = tsRefused ∧ getField (t.teamW slot 0 1) 0 4 = r ∧
      (∀ e w, 1 ≤ e → w < 8 → t.teamW slot e w = s.teamW slot e w) ∧
      FieldsKept [.ROPE_TEAMS_LEAD, .ROPE_STAT_CYCLE] s t ∧
      t = { s with regs := t.regs, paths := t.paths, tab := t.tab, host := t.host })) ∧
  (∀ (p : Path) (slot id : Nat) (granted : Bool) (answers : List (Option (Nat × Nat))) (s : State),
      (Instr.define p slot granted answers).wellFormed = true →
      (s.teamState slot = tsDefining ∨ (AdmitsTable p spTeam s ∧ (s.lead slot).phase = 0)) →
      defineFails s slot = none → id = getField (s.teamW slot 0 0) 0 5 →
      (if s.isHead = true then claimFree s.rope id s.uid = true else granted = true) →
      ((List.range (s.writtenMembers slot).length).all (fun i => (nth (0, 0) (s.writtenMembers slot) i).1 == 0
        || (nth none answers i).all (fun m => !m.2.testBit id))) = true → slot < s.rope.teams.length →
    Runs (.define p slot granted answers) s (fun t =>
      t.teamState slot = tsActive ∧ t.teamId slot = id ∧ nth [] t.rope.teams slot = s.writtenMembers slot ∧
      (∀ i, i < (s.writtenMembers slot).length →
        (nth (0, 0) (s.writtenMembers slot) i).1 ≠ 0 ∨ (nth (0, 0) (s.writtenMembers slot) i).2 ≠ s.unitNo →
        t.memberState slot (i + 1) = if (nth none answers i).isSome then mbJoined else mbLost) ∧
      (∀ i, i < (s.writtenMembers slot).length → nth (0, 0) (s.writtenMembers slot) i = (0, s.unitNo) →
        t.memberState slot (i + 1) = mbJoined ∧ t.rope.memberOf.contains (s.unitNo, id) = true) ∧
      (s.isHead = true → t.rope.teamIds.contains (id, s.unitNo, s.uid) = true) ∧
      FieldsKept [.ROPE_TEAMS_LEAD, .ROPE_TEAMS_MEMB, .ROPE_STAT_CYCLE] s t ∧
      t = { s with regs := t.regs, paths := t.paths, tab := t.tab, host := t.host, rope := t.rope })) ∧
  (∀ (p : Path) (slot : Nat) (granted : Bool) (answers : List (Option (Nat × Nat))) (s : State),
      (Instr.define p slot granted answers).wellFormed = true →
      (s.teamState slot = tsDefining ∨ (AdmitsTable p spTeam s ∧ (s.lead slot).phase = 0)) →
      defineFails s slot = none →
      (if s.isHead = true then claimFree s.rope (getField (s.teamW slot 0 0) 0 5) s.uid = false else granted = false) →
    Runs (.define p slot granted answers) s (fun t =>
      t.teamState slot = tsRefused ∧ getField (t.teamW slot 0 1) 0 4 = 3 ∧ t.rope.teams = s.rope.teams ∧
      t.rope.memberOf = s.rope.memberOf ∧ FieldsKept [.ROPE_TEAMS_LEAD, .ROPE_STAT_CYCLE] s t ∧
      t = { s with regs := t.regs, paths := t.paths, tab := t.tab, host := t.host, rope := t.rope })) ∧
  (∀ (p : Path) (slot id i : Nat) (granted : Bool) (answers : List (Option (Nat × Nat))) (m : Nat × Nat) (s : State),
      (Instr.define p slot granted answers).wellFormed = true →
      (s.teamState slot = tsDefining ∨ (AdmitsTable p spTeam s ∧ (s.lead slot).phase = 0)) →
      defineFails s slot = none → id = getField (s.teamW slot 0 0) 0 5 →
      (if s.isHead = true then claimFree s.rope id s.uid = true else granted = true) →
      i < (s.writtenMembers slot).length → (nth (0, 0) (s.writtenMembers slot) i).1 = 1 → nth none answers i = some m →
      m.2.testBit id = true →
    Runs (.define p slot granted answers) s (fun t =>
      t.teamState slot = tsRefused ∧ getField (t.teamW slot 0 1) 0 4 = 4 ∧ t.rope.teams = s.rope.teams ∧
      t.rope.memberOf = s.rope.memberOf ∧ (s.isHead = true → t.rope.teamIds.all (fun x => x.1 != id) = true) ∧
      FieldsKept [.ROPE_TEAMS_LEAD, .ROPE_STAT_CYCLE] s t ∧
      t = { s with regs := t.regs, paths := t.paths, tab := t.tab, host := t.host, rope := t.rope })) ∧
  (∀ (p : Path) (slot : Nat) (granted : Bool) (answers : List (Option (Nat × Nat))) (s : State),
      (Instr.define p slot granted answers).wellFormed = true → s.teamState slot ≠ tsDefining → AdmitsTable p spTeam s →
      (s.lead slot).phase ≠ 0 →
    Runs (.define p slot granted answers) s (fun t =>
      (p = .host → t.host.answer.status = stBusy) ∧ t = { s with paths := t.paths, host := t.host })) ∧
  (∀ (p : Path) (slot : Nat) (s : State), (Instr.delete p slot).wellFormed = true → AdmitsTable p spTeam s →
      s.teamState slot ≠ tsDefining →
    Runs (.delete p slot) s (fun t =>
      t.teamState slot = tsEmpty ∧ t.teamId slot = 0 ∧ nth [] t.rope.teams slot = [] ∧
      t.rope.dnMask = (if s.isHead = true ∧ (s.teamState slot = tsActive ∨ s.teamState slot = tsCycle) ∧
        s.rope.dnMask.testBit (s.teamId slot) = true then s.rope.dnMask - 2 ^ s.teamId slot else s.rope.dnMask) ∧
      FieldsKept [.ROPE_TEAMS_LEAD, .ROPE_TEAMS_MEMB, .ROPE_STAT_CYCLE] s t ∧
      t = { s with regs := t.regs, paths := t.paths, tab := t.tab, host := t.host, rope := t.rope })) ∧
  (∀ (p : Path) (slot : Nat) (s : State), (Instr.delete p slot).wellFormed = true → AdmitsTable p spTeam s →
      s.teamState slot = tsDefining →
    Runs (.delete p slot) s (fun t =>
      (p = .host → t.host.answer.status = stBusy) ∧ t = { s with paths := t.paths, host := t.host })) ∧
  (∀ (id leader uid : Nat) (s : State), (Instr.teamRegister id leader uid).wellFormed = true → s.isHead = true →
      claimFree s.rope id uid = true →
    Runs (.teamRegister id leader uid) s (fun t =>
      t.rope.teamIds = s.rope.teamIds.filter (fun x => x.1 != id) ++ [(id, leader, uid)] ∧
      t.rope.dnMask = s.rope.dnMask ||| 2 ^ id ∧ t = { s with rope := t.rope })) ∧
  (∀ (id leader uid : Nat) (s : State), (Instr.teamRegister id leader uid).wellFormed = true → s.isHead = true →
      claimFree s.rope id uid = false →
    Runs (.teamRegister id leader uid) s (fun t =>
      t.rope.teamIds = s.rope.teamIds ∧ t.rope.dnMask = s.rope.dnMask ∧
      t = sendTeam leader opGrant id [0] (takeInbox tyTeam leader s))) ∧
  (∀ (id leader uid : Nat) (s : State), (Instr.teamRegister id leader uid).wellFormed = true → s.isHead = false →
    Runs (.teamRegister id leader uid) s (fun t =>
      t = { s with rope := { (takeInbox tyTeam leader s).rope with dnMask := s.rope.dnMask ||| 2 ^ id } })) ∧
  (∀ (id leader : Nat) (s : State), (Instr.deregister id leader).wellFormed = true →
      (s.isHead = true → s.rope.teamIds.any (fun x => x.1 == id && x.2.1 == leader) = true) →
    Runs (.deregister id leader) s (fun t =>
      (s.isHead = true → t.rope.teamIds = s.rope.teamIds.filter (fun x => x.1 != id)) ∧
      t.rope.dnMask.testBit id = false ∧ (∀ k, k ≠ id → t.rope.dnMask.testBit k = s.rope.dnMask.testBit k) ∧
      t = { s with rope := t.rope })) ∧
  (∀ (id leader : Nat) (s : State), (Instr.deregister id leader).wellFormed = true → s.isHead = true →
      s.rope.teamIds.any (fun x => x.1 == id && x.2.1 == leader) = false →
    Runs (.deregister id leader) s (fun t => t = { s with rope := (takeInbox tyTeam leader s).rope })) ∧
  (∀ (src team k : Nat) (s : State), (Instr.expand src team).wellFormed = true → s.ledSlot team = some k →
    Runs (.expand src team) s (fun t =>
      t = sendTeam src opMasks team (leNat 4 (s.teamUnits k) ++ leNat 4 (s.teamClosure k)) (takeInbox tyTeam src s) ∧
      t = { s with rope := t.rope })) ∧
  (∀ (src team : Nat) (s : State), (Instr.expand src team).wellFormed = true → s.ledSlot team = none →
    Runs (.expand src team) s (fun t => t = { s with rope := (takeInbox tyTeam src s).rope })) ∧
  (∀ (src team : Nat) (s : State), (Instr.join src team).wellFormed = true →
    Runs (.join src team) s (fun t =>
      t.rope.memberOf =
        (if s.rope.memberOf.contains (src, team) then s.rope.memberOf else s.rope.memberOf ++ [(src, team)]) ∧
      t.fld .ROPE_TEAMS_MEMB = min 30 t.rope.memberOf.length ∧ FieldsKept [.ROPE_TEAMS_MEMB] s t ∧
      t = { s with regs := t.regs, rope := t.rope })) ∧
  (∀ (src team : Nat) (s : State), (Instr.leave src team).wellFormed = true →
    Runs (.leave src team) s (fun t =>
      t.rope.memberOf = s.rope.memberOf.filter (· != (src, team)) ∧
      t.fld .ROPE_TEAMS_MEMB = min 30 t.rope.memberOf.length ∧ FieldsKept [.ROPE_TEAMS_MEMB] s t ∧
      t = { s with regs := t.regs, rope := t.rope })) ∧
  (∀ (slot : Nat) (s : State), slot < 4 → s.polled slot = true →
      (s.members slot).all (fun m => m.2.1 == 1 || m.2.2 != s.unitNo) = true →
    Runs (.teamPoll slot) s (fun t =>
      t = forList (s.members slot) (fun m u => sendTeam m.2.2 opPoll (s.teamId slot) [] u) s ∧
      t = { s with rope := t.rope })) ∧
  (∀ (slot : Nat) (s : State), slot < 4 → s.polled slot = false → Runs (.teamPoll slot) s (fun t => t = s)) ∧
  (∀ (slot entry addr : Nat) (m : Summary) (s : State), (Instr.summary slot entry m).wellFormed = true →
      s.polled slot = true → (s.members slot).find? (fun x => x.1 == entry) = some (entry, 0, addr) →
      s.memberState slot entry = mbJoined → s.memberUid slot entry = m.uid →
      ((showMasks slot s).teamClosure slot).testBit (s.teamId slot) = false →
      s.rope.sums.all (fun x => decide (x.2.wclass < 4) && decide (x.2.avloss < 65536)) = true →
    Runs (.summary slot entry m) s (fun t =>
      t.sumOf slot entry = some m ∧ t.memberState slot entry = mbJoined ∧
      (t.teamW slot entry 6).toNat = m.health ∧ (t.teamW slot entry 7).toNat = m.avloss ∧
      (m.fault = true → (t.teamW slot 31 0).getLsbD 15 = true) ∧ m.wclass ≤ getField (t.teamW slot 31 0) 13 2 ∧
      (t.teamW slot 31 1).toNat ≤ m.health ∧ m.avloss ≤ (t.teamW slot 31 2).toNat ∧
      t = { s with tab := t.tab, rope := t.rope })) ∧
  (∀ (slot entry addr : Nat) (m : Summary) (s : State), (Instr.summary slot entry m).wellFormed = true →
      s.polled slot = true → (s.members slot).find? (fun x => x.1 == entry) = some (entry, 0, addr) →
      s.memberState slot entry ≠ mbMismatch → s.memberUid slot entry ≠ 0 → s.memberUid slot entry ≠ m.uid →
    Runs (.summary slot entry m) s (fun t =>
      t.memberState slot entry = mbMismatch ∧ t.sumOf slot entry = s.sumOf slot entry ∧
      (t.teamW slot 31 0).getLsbD 12 = true ∧ BlocksKept [8, 9, 10, 11] s t ∧ MemKept s t)) ∧
  (∀ (slot entry : Nat) (m : Summary) (s : State), (Instr.summary slot entry m).wellFormed = true →
      (s.members slot).find? (fun x => x.1 == entry) = none →
    Runs (.summary slot entry m) s (fun t => t = { s with rope := (takeInbox tyTeam 0 s).rope })) ∧
  (∀ (slot entry : Nat) (s : State), (Instr.teamMemberTimeout slot entry).wellFormed = true → s.polled slot = true →
      (s.members slot).any (fun x => x.1 == entry) = true →
    Runs (.teamMemberTimeout slot entry) s (fun t =>
      t.memberState slot entry = mbLost ∧ (t.teamW slot 31 0).getLsbD 12 = true ∧
      t = { s with tab := t.tab, free := t.free })) ∧
  (∀ (slot entry : Nat) (s : State), (Instr.teamMemberTimeout slot entry).wellFormed = true →
      (s.polled slot = false ∨ (s.members slot).any (fun x => x.1 == entry) = false) →
    Runs (.teamMemberTimeout slot entry) s (fun t => t = s)) ∧
  (∀ (slot entry addr : Nat) (m : Summary) (s : State), (Instr.summary slot entry m).wellFormed = true →
      s.polled slot = true → (s.members slot).find? (fun x => x.1 == entry) = some (entry, 0, addr) →
      addr ≠ s.unitNo → s.memberState slot entry = mbLost →
      (s.memberUid slot entry = 0 ∨ s.memberUid slot entry = m.uid) →
      ((showMasks slot s).teamClosure slot).testBit (s.teamId slot) = false →
    Runs (.summary slot entry m) s (fun t =>
      t.memberState slot entry = mbJoined ∧ t.memberUid slot entry = m.uid ∧ t.sumOf slot entry = some m ∧
      (t.teamW slot entry 6).toNat = m.health ∧ (t.teamW slot entry 7).toNat = m.avloss ∧
      BlocksKept [8, 9, 10, 11] s t ∧ MemKept s t))

/-- TEAM_COMMIT, CANCEL, VOTE, VOTE_TIMEOUT, COMMIT_RESEND, CACK and TEAM_OUTCOME (R516, R517, R519, R522, R534): a leader
whose part in the team is no unit's starts a commit for the designated crossing, ends it at once with the cause ANGLE where its
own angle is unfit, answers BUSY during one, DENY outside ACTIVE and UNITERR without the team; it adds a unit's YES, turns to the
second phase at the last one where the crossing lies far enough ahead and ends LATE otherwise, ends with NOVOTE, VTMO or CANCEL
and the units that are missing, sends COMMIT again to each unit without an acknowledgement, notes an acknowledgement, and shows
APPLIED or PARTIAL at the end; every other vote, acknowledgement and silence is nothing. The model's own readings: log entries 11
and 38. -/
def Obligations.TeamCommitIsLed : Prop :=
  (∀ (p : Path) (team ang4 k : Nat) (s : State), (Instr.teamCommit p team ang4).wellFormed = true →
      Admits p Reg.ROPE_CMT s → s.ledSlot team = some k → (s.lead k).phase = 0 → s.teamState k = tsActive →
      leaderUnfit s = false → s.teamUnits k ≠ 0 → (s.teamUnits k).testBit s.unitNo = false → k < s.rope.leads.length →
    Runs (.teamCommit p team ang4) s (fun t =>
      (t.lead k).phase = 1 ∧ (t.lead k).team = team ∧ (t.lead k).seq = ((s.lead k).seq + 1) % 256 ∧
      (t.lead k).angle = 4 * ang4 ∧ (t.lead k).units = bitsOf (s.teamUnits k) ∧ (t.lead k).votes = [] ∧
      (t.lead k).acks = [] ∧
      (t.lead k).pass = s.passAfter (s.crossingAt (4 * ang4)
        (s.ticksIn (100 * s.fld .ROPE_VTMO_VTMO + 100 * (t.lead k).span + 200))) ∧
      (s.isHead = true → (t.lead k).span = (hopSpan (bitsOf (s.teamUnits k)) s).1) ∧
      t.fld .ROPE_CSTAT_STATE = 1 ∧ t.fld .ROPE_CSTAT_OUTCOME = 0 ∧ t.fld .ROPE_CSTAT_CAUSE = 0 ∧
      t.fld .ROPE_CSTAT_TEAM = team ∧ (∀ j, j ≠ k → t.lead j = s.lead j) ∧ (p = .host → t.host.answer.status = 0) ∧
      FieldsKept [wholeReg Reg.ROPE_CSTAT] s t ∧
      t = { s with regs := t.regs, paths := t.paths, host := t.host, rope := t.rope, free := t.free })) ∧
  (∀ (p : Path) (team ang4 k : Nat) (s : State), (Instr.teamCommit p team ang4).wellFormed = true →
      Admits p Reg.ROPE_CMT s → s.ledSlot team = some k → (s.lead k).phase = 0 → s.teamState k = tsActive →
      leaderUnfit s = true → k < s.rope.leads.length →
    Runs (.teamCommit p team ang4) s (fun t =>
      (t.lead k).phase = 0 ∧ (t.lead k).outcome = outcomeAborted ∧ (t.lead k).cause = causeAngle ∧
      t.fld .ROPE_CSTAT_TEAM = team ∧ t.fld .ROPE_CSTAT_OUTCOME = outcomeAborted ∧
      t.fld .ROPE_CSTAT_CAUSE = causeAngle ∧ t.flag .ROPE_CSTAT_DONE = true ∧ t.rope.up = s.rope.up ∧
      t.rope.dn = s.rope.dn ∧ (p = .host → t.host.answer.status = 0) ∧ BlocksKept [8, 9, 10, 11] s t ∧ MemKept s t)) ∧
  (∀ (p : Path) (team ang4 k : Nat) (s : State), (Instr.teamCommit p team ang4).wellFormed = true →
      Admits p Reg.ROPE_CMT s → s.ledSlot team = some k → ((s.lead k).phase ≠ 0 ∨ s.teamState k ≠ tsActive) →
    Runs (.teamCommit p team ang4) s (fun t =>
      (p = .host → t.host.answer.status = if (s.lead k).phase ≠ 0 then stBusy else stDeny) ∧
      t = { s with paths := t.paths, host := t.host })) ∧
  (∀ (p : Path) (team ang4 : Nat) (s : State), (Instr.teamCommit p team ang4).wellFormed = true →
      s.ledSlot team = none →
    Runs (.teamCommit p team ang4) s (fun t =>
      (p = .host → t.host.answer.status = stUnitErr) ∧ t = { s with host := t.host })) ∧
  (∀ (p : Path) (team k : Nat) (s : State), (Instr.cancel p team).wellFormed = true → Admits p Reg.ROPE_CMT s →
      s.ledSlot team = some k → (s.lead k).phase = 1 → (s.lead k).units.contains s.unitNo = false →
      s.rope.prepWait = [] →
    Runs (.cancel p team) s (fun t =>
      LeadEnded k outcomeAborted causeCancel (maskOf (s.lead k).unvoted) s t ∧
      (p = .host → t.host.answer.status = 0) ∧ BlocksKept [8, 9, 10, 11] s t ∧ MemKept s t)) ∧
  (∀ (p : Path) (team k : Nat) (s : State), (Instr.cancel p team).wellFormed = true → Admits p Reg.ROPE_CMT s →
      s.ledSlot team = some k → (s.lead k).phase ≠ 1 →
    Runs (.cancel p team) s (fun t =>
      (p = .host → t.host.answer.status = stDeny) ∧ t = { s with paths := t.paths, host := t.host })) ∧
  (∀ (src team seq reason k : Nat) (s : State), (Instr.vote src team seq true reason).wellFormed = true →
      s.leadSlot team seq = some k → (s.lead k).phase = 1 → (s.lead k).units.contains src = true →
      (s.lead k).votes.any (fun v => v.1 == src) = false → s.rope.prepWait = [] →
      ({ s.lead k with votes := (s.lead k).votes ++ [(src, true)] } : LeadCommit).unvoted ≠ [] →
    Runs (.vote src team seq true reason) s (fun t =>
      t.lead k = { s.lead k with votes := (s.lead k).votes ++ [(src, true)] } ∧
      (∀ j, j ≠ k → t.lead j = s.lead j) ∧ t = { s with rope := t.rope })) ∧
  (∀ (src team seq reason k : Nat) (s : State), (Instr.vote src team seq true reason).wellFormed = true →
      s.leadSlot team seq = some k → (s.lead k).phase = 1 → (s.lead k).units.contains src = true →
      (s.lead k).votes.any (fun v => v.1 == src) = false → s.rope.prepWait = [] →
      ({ s.lead k with votes := (s.lead k).votes ++ [(src, true)] } : LeadCommit).unvoted = [] →
      (s.lead k).units.contains s.unitNo = false →
    Runs (.vote src team seq true reason) s (fun t =>
      (0 < s.aheadOf (s.lead k).angle (s.lead k).pass →
        s.ticksIn (100 * (s.lead k).span + 200) ≤ s.aheadOf (s.lead k).angle (s.lead k).pass →
        t.lead k = { s.lead k with phase := 2, votes := (s.lead k).votes ++ [(src, true)] } ∧
        (∀ j, j ≠ k → t.lead j = s.lead j) ∧ FieldsKept [wholeReg Reg.ROPE_CSTAT] s t ∧
        t = { s with regs := t.regs, rope := t.rope }) ∧
      ((s.aheadOf (s.lead k).angle (s.lead k).pass = 0 ∨
        s.aheadOf (s.lead k).angle (s.lead k).pass < s.ticksIn (100 * (s.lead k).span + 200)) →
        LeadEnded k outcomeAborted causeLate 0 s t ∧ BlocksKept [8, 9, 10, 11] s t ∧ MemKept s t))) ∧
  (∀ (src team seq reason k : Nat) (s : State), (Instr.vote src team seq false reason).wellFormed = true →
      s.leadSlot team seq = some k → (s.lead k).phase = 1 → (s.lead k).units.contains src = true →
      (s.lead k).votes.any (fun v => v.1 == src) = false → s.rope.prepWait = [] →
      (s.lead k).units.contains s.unitNo = false →
    Runs (.vote src team seq false reason) s (fun t =>
      LeadEnded k outcomeAborted causeNovote (maskOf (s.lead k).unvoted) s t ∧ BlocksKept [8, 9, 10, 11] s t ∧
      MemKept s t)) ∧
  (∀ (src team seq reason k : Nat) (yes : Bool) (s : State), (Instr.vote src team seq yes reason).wellFormed = true →
      s.rope.prepWait = [] → s.leadSlot team seq = some k → ((s.lead k).phase ≠ 1 ∨
        (s.lead k).units.contains src = false ∨ (s.lead k).votes.any (fun v => v.1 == src) = true) →
    Runs (.vote src team seq yes reason) s (fun t => t = { s with rope := (takeInbox tyCmt src s).rope })) ∧
  (∀ (src team seq reason : Nat) (yes : Bool) (s : State), (Instr.vote src team seq yes reason).wellFormed = true →
      s.leadSlot team seq = none →
    Runs (.vote src team seq yes reason) s (fun t => t = { s with rope := (takeInbox tyCmt src s).rope })) ∧
  (∀ (k : Nat) (s : State), k < 4 → (s.lead k).phase = 1 → (s.lead k).units.contains s.unitNo = false →
      s.rope.prepWait = [] →
    Runs (.voteTimeout k) s (fun t =>
      LeadEnded k outcomeAborted causeVtmo (maskOf (s.lead k).unvoted) s t ∧ BlocksKept [8, 9, 10, 11] s t ∧
      MemKept s t)) ∧
  (∀ (k : Nat) (s : State), k < 4 → (s.lead k).phase ≠ 1 → Runs (.voteTimeout k) s (fun t => t = s)) ∧
  (∀ (k : Nat) (s : State), k < 4 → (s.lead k).phase = 2 → (s.lead k).units.contains s.unitNo = false →
    Runs (.commitResend k) s (fun t =>
      t = forList ((s.lead k).units.filter (fun u => !(s.lead k).acks.contains u))
        (fun u w => sendCmt u opCommit (s.lead k).team (s.lead k).seq [] w) s ∧ t = { s with rope := t.rope })) ∧
  (∀ (k : Nat) (s : State), k < 4 → (s.lead k).phase ≠ 2 → Runs (.commitResend k) s (fun t => t = s)) ∧
  (∀ (src team seq k : Nat) (late : Bool) (s : State), (Instr.cack src team seq late).wellFormed = true →
      s.leadSlot team seq = some k → (s.lead k).phase = 2 →
    Runs (.cack src team seq late) s (fun t =>
      t.lead k = { s.lead k with
        acks := (if (s.lead k).acks.contains src then (s.lead k).acks else (s.lead k).acks ++ [src]),
        late := ((s.lead k).late || late) } ∧
      (∀ j, j ≠ k → t.lead j = s.lead j) ∧ FieldsKept [wholeReg Reg.ROPE_CSTAT] s t ∧
      t = { s with regs := t.regs, rope := t.rope })) ∧
  (∀ (src team seq : Nat) (late : Bool) (s : State), (Instr.cack src team seq late).wellFormed = true →
      (∀ k, s.leadSlot team seq = some k → (s.lead k).phase ≠ 2) →
    Runs (.cack src team seq late) s (fun t => t = { s with rope := (takeInbox tyCmt src s).rope })) ∧
  (∀ (k : Nat) (s : State), k < 4 → (s.lead k).phase = 2 →
      (s.lead k).units.all (fun u => (s.lead k).acks.contains u) = true →
    Runs (.teamOutcome k) s (fun t =>
      LeadEnded k outcomeApplied 0 0 s t ∧ FieldsKept [wholeReg Reg.ROPE_CSTAT] s t ∧
      t = { s with regs := t.regs, rope := t.rope, tab := t.tab })) ∧
  (∀ (k : Nat) (s : State), k < 4 → (s.lead k).phase = 2 →
      (s.lead k).units.all (fun u => (s.lead k).acks.contains u) = false →
    Runs (.teamOutcome k) s (fun t =>
      LeadEnded k outcomePartial 0 (maskOf ((s.lead k).units.filter (fun u => !(s.lead k).acks.contains u))) s t ∧
      (t.teamW k 31 0).getLsbD 11 = true ∧ BlocksKept [8, 9, 10, 11] s t ∧ MemKept s t)) ∧
  (∀ (k : Nat) (s : State), k < 4 → (s.lead k).phase ≠ 2 → Runs (.teamOutcome k) s (fun t => t = s))

/-- PREPARE, CHECK_LIST_END, TEAM_COMMIT_RECEIVE, ABORT and PREPARE_TIMEOUT at a member (R518, R520, R521, R535): a
PREPARE is refused at once in fatal, for the angle or for another set, is answered YES again where it stands, starts the check
list, or waits for the end of one; a check that passes makes the unit PREPARED with its timeout, and one that fails REJECT with
its reason and item; a COMMIT arms a PREPARED unit for the crossing, applies at once where the crossing was missed, and is only
acknowledged again after that; an ABORT takes a part that is checking or PREPARED back, and shows DONE at one that voted NO; the
timeout ends PREPARED; and a COMMIT, an ABORT or a timeout that meets no such part is nothing. The model's own readings: log
entries 11 and 38. -/
def Obligations.TeamCommitIsFollowed : Prop :=
  (∀ (src team seq a pass vtmo : Nat) (m : MemberCommit) (s : State),
      (Instr.prepare src team seq a pass vtmo).wellFormed = true →
      m = ⟨src, team, seq, a, pass, vtmo, 1, false, 0, 0⟩ → src ≠ s.unitNo → s.stg.checking = none →
      (s.isFatal = true ∨ angleUnfit m s = true ∨
        (preparedFor m s = false ∧ (s.stg.armed = true ∨ s.stg.teamHeld = true))) →
    Runs (.prepare src team seq a pass vtmo) s (fun t =>
      t.regN Reg.ROPE_REASON = 8192 * outRefused + 256 * team +
        (if s.isFatal = true then chkProt else if angleUnfit m s = true then chkAngle else chkBusyset) ∧
      t.rope.member = (if s.rope.member.any (fun x => x.stage != 4) then s.rope.member
        else some { m with stage := 4, outcome := outRefused }) ∧
      t.stg = s.stg ∧ FieldsKept [wholeReg Reg.ROPE_REASON] s t ∧ t = { s with regs := t.regs, rope := t.rope })) ∧
  (∀ (src team seq a pass vtmo : Nat) (m : MemberCommit) (s : State),
      (Instr.prepare src team seq a pass vtmo).wellFormed = true →
      m = ⟨src, team, seq, a, pass, vtmo, 1, false, 0, 0⟩ → src ≠ s.unitNo → s.stg.checking = none → s.isFatal = false →
      angleUnfit m s = false → preparedFor m s = true →
    Runs (.prepare src team seq a pass vtmo) s (fun t =>
      t = sendCmt src opVote team seq [0] (takeInbox tyCmt src s) ∧ t = { s with rope := t.rope })) ∧
  (∀ (src team seq a pass vtmo : Nat) (m : MemberCommit) (s : State),
      (Instr.prepare src team seq a pass vtmo).wellFormed = true →
      m = ⟨src, team, seq, a, pass, vtmo, 1, false, 0, 0⟩ → s.stg.checking = none → s.isFatal = false →
      angleUnfit m s = false → preparedFor m s = false → s.stg.armed = false → s.stg.teamHeld = false →
    Runs (.prepare src team seq a pass vtmo) s (fun t =>
      t.stg = { s.stg with checking := some (2, 0, .rope src) } ∧ t.rope.member = some m ∧
      t.fld .STG_STAT_STATE = stChecking ∧ FieldsKept [.STG_STAT_STATE] s t ∧
      t = { s with regs := t.regs, rope := t.rope, stg := t.stg })) ∧
  (∀ (src team seq a pass vtmo : Nat) (s : State), (Instr.prepare src team seq a pass vtmo).wellFormed = true →
      s.stg.checking.isSome = true →
    Runs (.prepare src team seq a pass vtmo) s (fun t =>
      t.rope.prepWait = s.rope.prepWait ++ [⟨src, team, seq, a, pass, vtmo, 1, false, 0, 0⟩] ∧
      t.rope.member = s.rope.member ∧ t = { s with rope := t.rope })) ∧
  (∀ (k : Nat) (p : Path) (m : MemberCommit) (s : State), s.stg.checking = some (2, k, p) → s.rope.member = some m →
      s.rope.prepWait = [] → m.leader ≠ s.unitNo → m.team < 31 →
      contentFails p { s with stg := { s.stg with checking := none } } = none →
    Runs .checkListEnd s (fun t =>
      t.stg = { s.stg with checking := none, teamHeld := true } ∧ t.fld .STG_STAT_STATE = stPrepared ∧
      t.fld .STG_STAT_REASON = 0 ∧ t.regN Reg.STG_ITEM = 0 ∧
      t.regN Reg.ROPE_REASON = 8192 * outPrepared + 256 * m.team ∧
      t.rope.member = some { m with stage := 2, outcome := outPrepared, tp := s.prepareTimeout m.vtmo } ∧
      FieldsKept [.STG_STAT_STATE, .STG_STAT_REASON, wholeReg Reg.STG_ITEM, wholeReg Reg.ROPE_REASON] s t ∧
      t = { s with regs := t.regs, rope := t.rope, stg := t.stg })) ∧
  (∀ (k r item : Nat) (p : Path) (m : MemberCommit) (s : State), s.stg.checking = some (2, k, p) →
      s.rope.member = some m → s.rope.prepWait = [] → m.leader ≠ s.unitNo → m.team < 31 →
      contentFails p { s with stg := { s.stg with checking := none } } = some (r, item) →
    Runs .checkListEnd s (fun t =>
      t.stg = { s.stg with checking := none } ∧ t.fld .STG_STAT_STATE = stReject ∧ t.fld .STG_STAT_REASON = r % 256 ∧
      t.regN Reg.STG_ITEM = item % 65536 ∧ t.flag .STG_STAT_DONE = true ∧
      t.regN Reg.ROPE_REASON = 8192 * outRefused + 256 * m.team + r ∧
      t.rope.member = some { m with stage := 4, outcome := outRefused } ∧
      FieldsKept [.STG_STAT_STATE, .STG_STAT_REASON, .STG_STAT_DONE, wholeReg Reg.STG_ITEM,
        wholeReg Reg.ROPE_REASON] s t ∧ t = { s with regs := t.regs, rope := t.rope, stg := t.stg })) ∧
  (∀ (src team seq : Nat) (m : MemberCommit) (s : State), (Instr.teamCommitReceive src team seq).wellFormed = true →
      s.rope.member = some m → m.leader = src → m.team = team → m.seq = seq → m.stage = 2 → m.missed = false →
      src ≠ s.unitNo →
    Runs (.teamCommitReceive src team seq) s (fun t =>
      t.stg = { s.stg with
        teamHeld := false, armed := true, armedAt := 3, armedAngle := m.angle, armedPass := m.pass, reached := false } ∧
      t.fld .STG_STAT_STATE = stArmed ∧ t.regN Reg.ROPE_REASON = 8192 * outArmed + 256 * team ∧
      t.rope.member = some { m with stage := 3, outcome := outArmed } ∧
      FieldsKept [.STG_STAT_STATE, wholeReg Reg.ROPE_REASON] s t ∧
      t = { s with regs := t.regs, rope := t.rope, stg := t.stg })) ∧
  (∀ (src team seq : Nat) (m : MemberCommit) (s : State), (Instr.teamCommitReceive src team seq).wellFormed = true →
      s.rope.member = some m → m.leader = src → m.team = team → m.seq = seq → m.stage = 2 → m.missed = true →
      src ≠ s.unitNo →
    Runs (.teamCommitReceive src team seq) s (fun t =>
      t.stg.armed = false ∧ t.stg.teamHeld = false ∧ t.regN Reg.ROPE_REASON = 8192 * outLate + 256 * team ∧
      t.rope.member = some { m with stage := 4, outcome := outLate } ∧
      t.regN Reg.STG_COUNT = (s.regN Reg.STG_COUNT + 1) % 65536 ∧ t.regN Reg.STG_APPANG = s.angPos % 65536 ∧
      t.fld .STG_STAT_STATE = 3 ∧ t.flag .STG_STAT_DONE = true)) ∧
  (∀ (src team seq : Nat) (m : MemberCommit) (s : State), (Instr.teamCommitReceive src team seq).wellFormed = true →
      s.rope.member = some m → m.leader = src → m.team = team → m.seq = seq → m.stage ≠ 2 → src ≠ s.unitNo →
      (m.stage = 3 ∨ m.outcome = outApplied ∨ m.outcome = outLate) →
    Runs (.teamCommitReceive src team seq) s (fun t =>
      t = sendCmt src opCack team seq (leNat 1 (if m.outcome = outLate then 1 else 0)) (takeInbox tyCmt src s) ∧
      t = { s with rope := t.rope })) ∧
  (∀ (src team seq : Nat) (s : State), (Instr.teamCommitReceive src team seq).wellFormed = true →
      (∀ m, s.rope.member = some m → m.leader ≠ src ∨ m.team ≠ team ∨ m.seq ≠ seq ∨
        (m.stage ≠ 2 ∧ m.stage ≠ 3 ∧ m.outcome ≠ outApplied ∧ m.outcome ≠ outLate)) →
    Runs (.teamCommitReceive src team seq) s (fun t => t = { s with rope := (takeInbox tyCmt src s).rope })) ∧
  (∀ (src team seq : Nat) (m : MemberCommit) (s : State), (Instr.abort src team seq).wellFormed = true →
      s.rope.member = some m → s.rope.prepWait = [] → m.leader = src → m.team = team → m.seq = seq →
      (m.stage = 1 ∨ m.stage = 2) →
    Runs (.abort src team seq) s (fun t =>
      t.stg = { s.stg with teamHeld := false, checking := if m.stage = 1 then none else s.stg.checking } ∧
      t.fld .STG_STAT_STATE = stIdle ∧ t.flag .STG_STAT_DONE = true ∧
      t.regN Reg.ROPE_REASON = 8192 * outAborted + 256 * team ∧
      t.rope.member = some { m with stage := 4, outcome := outAborted } ∧
      FieldsKept [.STG_STAT_STATE, .STG_STAT_DONE, wholeReg Reg.ROPE_REASON] s t ∧
      t = { s with regs := t.regs, rope := t.rope, stg := t.stg })) ∧
  (∀ (src team seq : Nat) (m : MemberCommit) (s : State), (Instr.abort src team seq).wellFormed = true →
      s.rope.member = some m → s.rope.prepWait = [] → m.leader = src → m.team = team → m.seq = seq → m.stage = 4 →
      m.outcome = outRefused →
    Runs (.abort src team seq) s (fun t =>
      t.flag .STG_STAT_DONE = true ∧ FieldsKept [.STG_STAT_DONE] s t ∧
      t = { s with regs := t.regs, rope := (takeInbox tyCmt src s).rope })) ∧
  (∀ (src team seq : Nat) (s : State), (Instr.abort src team seq).wellFormed = true → s.rope.prepWait = [] →
      (∀ m, s.rope.member = some m → m.leader ≠ src ∨ m.team ≠ team ∨ m.seq ≠ seq ∨ m.stage = 3) →
    Runs (.abort src team seq) s (fun t => t = { s with rope := (takeInbox tyCmt src s).rope })) ∧
  (∀ (m : MemberCommit) (s : State), s.rope.member = some m → m.stage = 2 → m.team < 31 →
    Runs .prepareTimeout s (fun t =>
      t.stg = { s.stg with teamHeld := false } ∧ t.fld .STG_STAT_STATE = stIdle ∧
      t.regN Reg.ROPE_REASON = 8192 * outTimeout + 256 * m.team ∧
      t.rope = { s.rope with member := some { m with stage := 4, outcome := outTimeout } } ∧
      BlocksKept [8, 9, 10, 11, 12] s t ∧ MemKept s t)) ∧
  (∀ s : State, (∀ m, s.rope.member = some m → m.stage ≠ 2) → Runs .prepareTimeout s (fun t => t = s))

/-! ### Capture, transfer and external memory (14) -/

/-- FRAME_ITEM_TAKE, FRAME_AGE_CLOSE, ARM, TRIGGER, STOP and XFER_CTRL_WRITE (R540, R541, R544 to R546, R550, R559,
R571, R576): an item joins the open frame of its pass, opens one, or closes the frame of another pass first, and the 240th item
closes its frame; a frame closed for its age is held for the memory in the stream ring where it has room, and is lost with FOVF
where it has none; ARM and TRIGGER move an idle and an armed capture, and a trigger during a capture is MISSED; STOP ends a capture
at once, or after its delivery; a write of XFER.CTRL releases the frames of each destination that it turns off and puts WPTR to
the next sector of a flash, and is refused without XMCAP or a region; a reserved SRC refuses the capture's commands; and no item,
and no open frame, is nothing. The model's own readings: log entries 24 and 42. -/
def Obligations.FramesAreBuilt : Prop :=
  (∀ (e w0 w1 pass : Nat) (rest : List (Nat × Nat × Nat × Nat)) (l : List (Nat × Nat × Nat)) (s : State),
      s.seq.frameQ = (e, w0, w1, pass) :: rest → s.xfer.openFrame = some l → s.xfer.openPass = pass → l.length < 239 →
    Runs .frameItemTake s (fun t =>
      t.xfer = { s.xfer with openFrame := some (l ++ [(e, w0, w1)]) } ∧ t.seq = { s.seq with frameQ := rest } ∧
      t.fld .SEQ_QSTAT_FQFILL = rest.length % 2 ^ (Fld.SEQ_QSTAT_FQFILL).width ∧ FieldsKept [.SEQ_QSTAT_FQFILL] s t ∧
      t = { s with regs := t.regs, xfer := t.xfer, seq := t.seq })) ∧
  (∀ (e w0 w1 pass : Nat) (rest : List (Nat × Nat × Nat × Nat)) (s : State),
      s.seq.frameQ = (e, w0, w1, pass) :: rest → s.xfer.openFrame = none →
    Runs .frameItemTake s (fun t =>
      t.xfer.openFrame = some [(e, w0, w1)] ∧ t.xfer.openPass = pass ∧ t.xfer.openCont = (s.xfer.contPass == some pass) ∧
      t.xfer.opened = [s.fld .ANG_STAT_ACTMODE + 8 * s.fld .ANG_STAT_DIR + 16 * s.fld .ANG_STAT_SUBST
        + 32 * s.fld .ANG_STAT_LOSS, s.reg32 Reg.ANG_SPEED, s.regN Reg.ANG_POS] ∧
      t.xfer.fseq = s.xfer.fseq ∧ t.xfer.ram = s.xfer.ram ∧ t.xfer.descrs = s.xfer.descrs ∧
      t.seq = { s.seq with frameQ := rest } ∧ FieldsKept [.SEQ_QSTAT_FQFILL] s t ∧
      t = { s with regs := t.regs, xfer := t.xfer, seq := t.seq })) ∧
  (∀ (e w0 w1 pass : Nat) (rest : List (Nat × Nat × Nat × Nat)) (l : List (Nat × Nat × Nat)) (s : State),
      s.seq.frameQ = (e, w0, w1, pass) :: rest → s.xfer.openFrame = some l → s.xfer.openPass ≠ pass →
    Runs .frameItemTake s (fun t =>
      t.xfer.openFrame = some [(e, w0, w1)] ∧ t.xfer.openPass = pass ∧ t.xfer.openCont = false ∧
      t.xfer.fseq = (s.xfer.fseq + 1) % 65536 ∧ t.seq = { s.seq with frameQ := rest, dropped := false } ∧
      t.xfer.mem = s.xfer.mem ∧ t = { s with regs := t.regs, xfer := t.xfer, seq := t.seq })) ∧
  (∀ (e w0 w1 pass : Nat) (rest : List (Nat × Nat × Nat × Nat)) (l : List (Nat × Nat × Nat)) (s : State),
      s.seq.frameQ = (e, w0, w1, pass) :: rest → s.xfer.openFrame = some l → s.xfer.openPass = pass → 239 ≤ l.length →
    Runs .frameItemTake s (fun t =>
      t.xfer.openFrame = none ∧ t.xfer.contPass = some pass ∧ t.xfer.fseq = (s.xfer.fseq + 1) % 65536 ∧
      t.seq = { s.seq with frameQ := rest, dropped := false } ∧ t.xfer.mem = s.xfer.mem ∧
      t = { s with regs := t.regs, xfer := t.xfer, seq := t.seq })) ∧
  (∀ s : State, s.seq.frameQ = [] → Runs .frameItemTake s (fun t => t = s)) ∧
  (∀ (l : List (Nat × Nat × Nat)) (n : Nat) (s : State), s.xfer.openFrame = some l → n = (frameBytes s l).length →
      s.fld .XFER_CAPST_STATE = 0 → ringRoom s n = true → streamMask s = dXmem → s.xmemOut = false →
      s.xfer.descrs.all (fun d => d.dests != 0) = true →
    Runs .frameAgeClose s (fun t =>
      t.xfer.openFrame = none ∧ t.xfer.contPass = some s.xfer.openPass ∧ t.xfer.fseq = (s.xfer.fseq + 1) % 65536 ∧
      t.xfer.descrs.getLast? =
        some { frames := [(s.fld .XFER_HEAD_BLK, n)], record := [], number := s.xfer.fseq, dests := dXmem } ∧
      ramRead t 0 s.ringBlocks (s.fld .XFER_HEAD_BLK) n = frameBytes s l ∧
      (∀ a, (∀ k, k < n → a ≠ ramAddr 0 s.ringBlocks (s.fld .XFER_HEAD_BLK) k) → t.captureByte a = s.captureByte a) ∧
      t.fld .XFER_HEAD_BLK = (s.fld .XFER_HEAD_BLK + ceilDiv n 32) % s.ringBlocks ∧ t.xfer.mem = s.xfer.mem ∧
      FieldsKept [.XFER_HEAD_BLK, .XFER_TAIL_BLK, .XFER_STAT_HRDY] s t ∧
      t = { s with regs := t.regs, xfer := t.xfer, seq := t.seq })) ∧
  (∀ (l : List (Nat × Nat × Nat)) (s : State), s.xfer.openFrame = some l → s.fld .XFER_CAPST_STATE = 0 →
      ringRoom s (frameBytes s l).length = false →
    Runs .frameAgeClose s (fun t =>
      t.flag .XFER_STAT_FOVF = true ∧ t.xfer.descrs = s.xfer.descrs ∧ t.xfer.ram = s.xfer.ram ∧
      t.xfer.openFrame = none ∧ t.xfer.fseq = (s.xfer.fseq + 1) % 65536 ∧ FieldsKept [.XFER_STAT_FOVF] s t ∧
      t = { s with regs := t.regs, xfer := t.xfer, seq := t.seq })) ∧
  (∀ s : State, s.xfer.openFrame = none → Runs .frameAgeClose s (fun t => t = s)) ∧
  (∀ (p : Path) (s : State), okPath p = true → Admits p Reg.XFER_CAP s → s.fld .XFER_CAP_SRC ≠ 3 →
      s.fld .XFER_CAPST_STATE = 0 →
    Runs (.arm p) s (fun t =>
      t.fld .XFER_CAPST_STATE = 1 ∧ t.xfer = { s.xfer with capFrames := [], capStop := false } ∧
      (p = .host → t.host.answer.status = 0) ∧ FieldsKept [.XFER_CAPST_STATE, .XFER_CAP_CMD] s t ∧
      t = { s with regs := t.regs, paths := t.paths, host := t.host, xfer := t.xfer })) ∧
  (∀ (p : Path) (s : State), okPath p = true → Admits p Reg.XFER_CAP s → s.fld .XFER_CAP_SRC ≠ 3 →
      s.fld .XFER_CAPST_STATE ≠ 0 →
    Runs (.arm p) s (fun t =>
      t.xfer = { s.xfer with capStop := false } ∧ (p = .host → t.host.answer.status = 0) ∧
      FieldsKept [.XFER_CAP_CMD] s t ∧ t = { s with regs := t.regs, paths := t.paths, host := t.host, xfer := t.xfer })) ∧
  (∀ (p : Path) (s : State), okPath p = true → Admits p Reg.XFER_CAP s → s.fld .XFER_CAP_SRC ≠ 3 →
      s.fld .XFER_CAPST_STATE = 1 →
    Runs (.trigger p) s (fun t =>
      t.fld .XFER_CAPST_STATE = 2 ∧ t.xfer.capCause = 3 ∧ t.xfer.capWanted = s.fld .XFER_RING_POST + 1 ∧
      t.xfer.capPreKept = s.xfer.capFrames.length ∧ t.xfer.capFrames = s.xfer.capFrames ∧
      t.xfer.capStamp = [s.regN Reg.ANG_POS, s.regN Reg.ANG_PASS, s.fld .XFER_CAP_PARAM] ∧ t.xfer.ram = s.xfer.ram ∧
      (p = .host → t.host.answer.status = 0) ∧ FieldsKept [.XFER_CAPST_STATE, .XFER_CAP_CMD] s t ∧
      t = { s with regs := t.regs, paths := t.paths, host := t.host, xfer := t.xfer })) ∧
  (∀ (p : Path) (s : State), okPath p = true → Admits p Reg.XFER_CAP s → s.fld .XFER_CAP_SRC ≠ 3 →
      s.fld .XFER_CAPST_STATE ≠ 1 →
    Runs (.trigger p) s (fun t =>
      (s.fld .XFER_CAPST_STATE ≠ 0 → t.flag .XFER_CAPST_MISSED = true) ∧ (p = .host → t.host.answer.status = 0) ∧
      FieldsKept ((if s.fld .XFER_CAPST_STATE = 0 then [] else [.XFER_CAPST_MISSED]) ++ [.XFER_CAP_CMD]) s t ∧
      t = { s with regs := t.regs, paths := t.paths, host := t.host })) ∧
  (∀ (p : Path) (s : State), okPath p = true → Admits p Reg.XFER_CAP s → s.fld .XFER_CAP_SRC ≠ 3 →
      s.fld .XFER_CAPST_STATE ≠ 3 →
    Runs (.stop p) s (fun t =>
      t.fld .XFER_CAPST_STATE = 0 ∧ t.xfer = { s.xfer with capFrames := [] } ∧ (p = .host → t.host.answer.status = 0) ∧
      FieldsKept [.XFER_CAPST_STATE, .XFER_CAP_CMD] s t ∧
      t = { s with regs := t.regs, paths := t.paths, host := t.host, xfer := t.xfer })) ∧
  (∀ (p : Path) (s : State), okPath p = true → Admits p Reg.XFER_CAP s → s.fld .XFER_CAP_SRC ≠ 3 →
      s.fld .XFER_CAPST_STATE = 3 →
    Runs (.stop p) s (fun t =>
      t.xfer = { s.xfer with capStop := true } ∧ (p = .host → t.host.answer.status = 0) ∧
      FieldsKept [.XFER_CAP_CMD] s t ∧ t = { s with regs := t.regs, paths := t.paths, host := t.host, xfer := t.xfer })) ∧
  (∀ (p : Path) (v : Nat) (s : State), (Instr.xferCtrlWrite p v).wellFormed = true → Admits p Reg.XFER_CTRL s →
      ctrlAllowed (s.granted .engine grantXmCap) (word v) s = true →
    Runs (.xferCtrlWrite p v) s (fun t =>
      t.regN Reg.XFER_CTRL = v ∧ t.flag .XFER_STAT_RUN = (v / 32768 == 1 && s.isActive) ∧
      (t.flag .XFER_CTRL_DXMEM = false → t.xfer.descrs.all (fun d => !d.record.isEmpty || !d.has dXmem) = true) ∧
      (t.flag .XFER_CTRL_DROPE = false → t.xfer.descrs.all (fun d => !d.record.isEmpty || !d.has dRope) = true) ∧
      (t.flag .XFER_CTRL_DHOST = false → t.xfer.descrs.all (fun d => !d.record.isEmpty || !d.has dHost) = true) ∧
      (t.flag .XFER_CTRL_CXMEM = false → t.xfer.descrs.all (fun d => d.record.isEmpty || !d.has dXmem) = true) ∧
      (t.flag .XFER_CTRL_CROPE = false → t.xfer.descrs.all (fun d => d.record.isEmpty || !d.has dRope) = true) ∧
      (t.flag .XFER_CTRL_CHOST = false → t.xfer.descrs.all (fun d => d.record.isEmpty || !d.has dHost) = true) ∧
      (s.flag .XFER_CTRL_EN = false → v / 32768 = 1 → s.isFlash = true → s.reg32 Reg.XFER_WPTR ≤ 4294963200 →
        t.reg32 Reg.XFER_WPTR = sectorUp (s.reg32 Reg.XFER_WPTR)) ∧
      (p = .host → t.host.answer.status = 0) ∧
      FieldsKept ([wholeReg Reg.XFER_CTRL, .XFER_STAT_RUN, .XFER_STAT_HRDY, .XFER_TAIL_BLK, .XFER_CAPST_STATE] ++
        (if s.flag .XFER_CTRL_EN = true then [] else wholeReg32 Reg.XFER_WPTR)) s t ∧
      t.xfer.ram = s.xfer.ram ∧ t.xfer.mem = s.xfer.mem ∧
      t = { s with regs := t.regs, paths := t.paths, host := t.host, xfer := t.xfer })) ∧
  (∀ (p : Path) (v : Nat) (s : State), (Instr.xferCtrlWrite p v).wellFormed = true → Admits p Reg.XFER_CTRL s →
      ctrlAllowed (s.granted .engine grantXmCap) (word v) s = false →
    Runs (.xferCtrlWrite p v) s (fun t =>
      (p = .host → t.host.answer.status = stDeny) ∧ t = { s with paths := t.paths, host := t.host })) ∧
  (∀ (p : Path) (c : Instr) (s : State), okPath p = true → Admits p Reg.XFER_CAP s → s.fld .XFER_CAP_SRC = 3 →
      (c = .arm p ∨ c = .trigger p ∨ c = .stop p) →
    Runs c s (fun t => (p = .host → t.host.answer.status = stDeny) ∧ t = { s with paths := t.paths, host := t.host }))

/-- XMEM_OP_START, XMEM_OP_COMPLETE, XMEM_CONTINUATION, XMEM_TIMEOUT and BELAY_REPORT of a memory that no longer identifies itself
(R557, R558, R560, R561), and PULL_READ, READ, WRITE and ERASE_SECTOR (R553, R561): the mailbox's operation, or else the stream's, starts with its burst, waits without it, and a
mailbox write ends with TIMEOUT while XERR is set; a read fills the mailbox, a write and an erase change their own bytes and no
others, and each gives its burst back; a flash still busy asks for 10 credits more, or is DENIED them; an operation out of time, or
one whose memory has gone, ends with XERR, the report, and the frames for the memory released; a read of XFER.PULL takes the next
word of the mailbox or of the host's frame; a complete mailbox command queues its operation or fails with its reason; and a command
that finds no operation, no memory or no running unit is nothing. The model's own readings: log entries 8 and 42. -/
def Obligations.ExternalMemoryIsWorked : Prop :=
  (∀ (o : XOp) (rest : List XOp) (s : State), s.xfer.op = none → s.isActive = true → s.isFatal = false →
      s.hasXmem = true → oldestFor s dXmem = none → s.xfer.mboxQ = o :: rest → o.mailbox = true →
      (o.kind = 2 ∨ s.flag .XFER_STAT_XERR = false) → s.hasCredits .xmem 0 (xopCredits s o) = true →
    Runs .xmemOpStart s (fun t =>
      t.xfer = { s.xfer with op := some o, mboxQ := rest } ∧ t.flag .XMEM_STAT_BUSY = true ∧
      FieldsKept [.XMEM_STAT_BUSY] s t ∧ t = { s with regs := t.regs, xfer := t.xfer })) ∧
  (∀ (o : XOp) (s : State), s.xfer.op = none → s.isActive = true → s.isFatal = false → s.hasXmem = true →
      fitPiece s = s → s.xfer.mboxQ = [] → streamOp s = some o → s.hasCredits .xmem 0 (xopCredits s o) = true →
    Runs .xmemOpStart s (fun t =>
      t.xfer = { s.xfer with op := some o } ∧ t.flag .XMEM_STAT_BUSY = true ∧
      FieldsKept [.XMEM_STAT_BUSY] s t ∧ t = { s with regs := t.regs, xfer := t.xfer })) ∧
  (∀ s : State, (s.xfer.op.isSome = true ∨ s.isActive = false ∨ s.isFatal = true ∨ s.hasXmem = false) →
    Runs .xmemOpStart s (fun t => t = s)) ∧
  (∀ (o : XOp) (s : State), s.xfer.op = some o → o.mailbox = true → o.kind = 2 →
    Runs .xmemOpComplete s (fun t =>
      t.xfer = { s.xfer with op := none, mboxData := wordsOfBytes (s.memBytes o.addr o.len) } ∧
      t.flag .XFER_STAT_MBOX = true ∧ t.flag .XMEM_STAT_BUSY = false ∧
      (s.pwr.waiting.all (fun b => b.who != .xmem) = true → t.hasBurst .xmem 0 = false) ∧
      BlocksKept [1, 9] s t ∧ t.nvm.store = s.nvm.store)) ∧
  (∀ (o : XOp) (s : State), s.xfer.op = some o → o.kind = 0 →
    Runs .xmemOpComplete s (fun t =>
      (∀ i, i < o.bytes.length → t.memByte (o.addr + i) =
        if s.isFlash = true then s.memByte (o.addr + i) &&& nth 0 o.bytes i else nth 0 o.bytes i) ∧
      (∀ a, a < o.addr ∨ o.addr + o.bytes.length ≤ a → t.memByte a = s.memByte a) ∧ t.xfer.op = none ∧
      (o.mailbox = false → t.reg32 Reg.XFER_WPTR = (o.addr + o.len) % 4294967296) ∧
      (o.mailbox = true → t.xfer = { s.xfer with op := none, mem := t.xfer.mem }) ∧
      t.flag .XMEM_STAT_BUSY = false ∧
      (s.pwr.waiting.all (fun b => b.who != .xmem) = true → t.hasBurst .xmem 0 = false) ∧ t.xfer.ram = s.xfer.ram ∧
      t.nvm.store = s.nvm.store ∧ BlocksKept [1, 9] s t)) ∧
  (∀ (o : XOp) (s : State), s.xfer.op = some o → o.kind = 1 →
    Runs .xmemOpComplete s (fun t =>
      (∀ a, o.addr ≤ a → a < o.addr + 4096 → t.memByte a = 0xFF) ∧
      (∀ a, a < o.addr ∨ o.addr + 4096 ≤ a → t.memByte a = s.memByte a) ∧
      t.xfer = { s.xfer with
        op := none, mem := t.xfer.mem, erased := if o.mailbox then s.xfer.erased else s.xfer.erased ++ [o.addr] } ∧
      t.flag .XMEM_STAT_BUSY = false ∧
      (s.pwr.waiting.all (fun b => b.who != .xmem) = true → t.hasBurst .xmem 0 = false) ∧ t.nvm.store = s.nvm.store ∧
      BlocksKept [1, 9] s t)) ∧
  (∀ s : State, s.xfer.op = none → Runs .xmemOpComplete s (fun t => t = s)) ∧
  (∀ (o : XOp) (s : State), s.xfer.op = some o → o.kind ≤ 1 → s.isFlash = true → 210 ≤ s.storeMax →
    Runs .xmemContinuation s (fun t =>
      (t.pwr.waiting.any (fun b => b.who == .xmem && b.tag == 1) = true ∨ t.hasBurst .xmem 1 = true) ∧
      t.xfer = s.xfer ∧ BlocksKept [1] s t ∧ MemKept s t)) ∧
  (∀ (o : XOp) (s : State), s.xfer.op = some o → o.kind ≤ 1 → s.isFlash = true → s.storeMax < 210 →
    Runs .xmemContinuation s (fun t =>
      t.fld (grantFld .xmem) = gDenied ∧ FieldsKept [grantFld .xmem] s t ∧ t = { s with regs := t.regs })) ∧
  (∀ s : State, (∀ o, s.xfer.op = some o → 1 < o.kind ∨ s.isFlash = false) →
    Runs .xmemContinuation s (fun t => t = s)) ∧
  (∀ (o : XOp) (s : State), s.xfer.op = some o → o.kind ≤ 1 → Watches 15 s →
    Runs .xmemTimeout s (fun t =>
      (∀ a, a < o.addr ∨ o.addr + (if o.kind = 1 then 4096 else o.bytes.length) ≤ a → t.memByte a = s.memByte a) ∧
      t.xfer.op = none ∧ t.flag .XMEM_STAT_TMO = true ∧ t.flag .XMEM_STAT_BUSY = false ∧ t.flag .XFER_STAT_XERR = true ∧
      (o.mailbox = true → t.flag .XFER_STAT_MERR = true ∧ t.fld .XFER_STAT_MRSN = 5) ∧
      t.xfer.descrs.all (fun d => !d.has dXmem) = true ∧ Reported 15 (if o.kind = 1 then 2 else 1) clsU s t ∧
      t.xfer.ram = s.xfer.ram ∧ t.nvm.store = s.nvm.store ∧ BlocksKept (1 :: reportBlocks) s t)) ∧
  (∀ (p2 p3 : Nat) (s : State), (Instr.belayReport 15 3 p2 p3).wellFormed = true → Watches 15 s →
    Runs (.belayReport 15 3 p2 p3) s (fun t =>
      t.xfer.op = none ∧ t.flag .XMEM_STAT_TMO = true ∧ t.flag .XFER_STAT_XERR = true ∧
      (s.xfer.op.isSome = true → t.flag .XMEM_STAT_BUSY = false) ∧
      (s.xfer.op.any (·.mailbox) = true → t.flag .XFER_STAT_MERR = true ∧ t.fld .XFER_STAT_MRSN = 5) ∧
      t.xfer.descrs.all (fun d => !d.has dXmem) = true ∧ Reported 15 3 clsU s t ∧
      BlocksKept (1 :: reportBlocks) s t ∧ MemKept s t)) ∧
  (∀ s : State, s.xfer.op = none ∨ (∀ o, s.xfer.op = some o → o.kind = 2) →
    Runs .xmemTimeout s (fun t => t = s)) ∧
  (∀ (p : Path) (w : Word) (rest : List Word) (s : State), okPath p = true → AdmitsRead p Reg.XFER_PULL s →
      s.flag .XFER_STAT_MBOX = true → s.xfer.mboxData = w :: rest →
    Runs (.pullRead p) s (fun t =>
      t.xfer = { s.xfer with mboxData := rest } ∧ t.flag .XFER_STAT_MBOX = !rest.isEmpty ∧
      (p = .host → t.host.answer = ⟨0, w⟩) ∧ FieldsKept [.XFER_STAT_MBOX] s t ∧
      t = { s with regs := t.regs, paths := t.paths, host := t.host, xfer := t.xfer })) ∧
  (∀ (p : Path) (s : State), okPath p = true → AdmitsRead p Reg.XFER_PULL s → s.flag .XFER_STAT_MBOX = false →
      oldestFor s dHost = none →
    Runs (.pullRead p) s (fun t =>
      (p = .host → t.host.answer = ⟨0, 0⟩) ∧ t = { s with paths := t.paths, host := t.host })) ∧
  (∀ (p : Path) (d : Descr) (s : State), okPath p = true → AdmitsRead p Reg.XFER_PULL s →
      s.flag .XFER_STAT_MBOX = false → oldestFor s dHost = some d →
    Runs (.pullRead p) s (fun t =>
      (p = .host → t.host.answer =
        ⟨0, (wordsOfBytes (slice' (pieceBytes s d d.atHost.1) d.atHost.2 2)).headD 0⟩) ∧
      t.xfer.ram = s.xfer.ram ∧ t.xfer.mem = s.xfer.mem ∧
      FieldsKept [.XFER_STAT_HRDY, .XFER_TAIL_BLK, .XFER_CAPST_STATE] s t ∧
      t = { s with regs := t.regs, paths := t.paths, host := t.host, xfer := t.xfer })) ∧
  (∀ (p : Path) (addr n : Nat) (s : State), (Instr.read p addr n).wellFormed = true → Admits p Reg.XFER_PULL s →
      s.xfer.mbox = [] → mailboxReason 1 n addr (s.mayRead p 9) (s.granted p) s = none →
    Runs (.read p addr n) s (fun t =>
      t.xfer = { s.xfer with
        mboxPath := p, mboxData := [], mboxQ := s.xfer.mboxQ ++ [⟨2, addr, [], true, 2 * n⟩] } ∧
      t.flag .XFER_STAT_MBOX = false ∧ (p = .host → t.host.answer.status = 0) ∧ FieldsKept [.XFER_STAT_MBOX] s t ∧
      t = { s with regs := t.regs, paths := t.paths, host := t.host, xfer := t.xfer })) ∧
  (∀ (p : Path) (addr r n : Nat) (s : State), (Instr.read p addr n).wellFormed = true → Admits p Reg.XFER_PULL s →
      s.xfer.mbox = [] → mailboxReason 1 n addr (s.mayRead p 9) (s.granted p) s = some r →
    Runs (.read p addr n) s (fun t =>
      t.xfer = { s.xfer with mboxPath := p, mboxData := [] } ∧ t.flag .XFER_STAT_MERR = true ∧
      t.fld .XFER_STAT_MRSN = r ∧ (p = .host → t.host.answer.status = 0) ∧
      FieldsKept [.XFER_STAT_MBOX, .XFER_STAT_MERR, .XFER_STAT_MRSN] s t ∧
      t = { s with regs := t.regs, paths := t.paths, host := t.host, xfer := t.xfer })) ∧
  (∀ (p : Path) (addr : Nat) (ws : List Nat) (s : State), (Instr.write p addr ws).wellFormed = true →
      Admits p Reg.XFER_PULL s → s.xfer.mbox = [] →
      mailboxReason 2 ws.length addr (s.mayRead p 9) (s.granted p) s = none →
    Runs (.write p addr ws) s (fun t =>
      t.xfer = { s.xfer with
        mboxPath := p, mboxData := [], mboxQ := s.xfer.mboxQ ++ [⟨0, addr, bytesOfWords (ws.map word), true, 2 * ws.length⟩] } ∧
      (p = .host → t.host.answer.status = 0) ∧ FieldsKept [.XFER_STAT_MBOX] s t ∧
      t = { s with regs := t.regs, paths := t.paths, host := t.host, xfer := t.xfer })) ∧
  (∀ (p : Path) (addr r : Nat) (ws : List Nat) (s : State), (Instr.write p addr ws).wellFormed = true →
      Admits p Reg.XFER_PULL s → s.xfer.mbox = [] →
      mailboxReason 2 ws.length addr (s.mayRead p 9) (s.granted p) s = some r →
    Runs (.write p addr ws) s (fun t =>
      t.xfer = { s.xfer with mboxPath := p, mboxData := [] } ∧ t.flag .XFER_STAT_MERR = true ∧
      t.fld .XFER_STAT_MRSN = r ∧ (p = .host → t.host.answer.status = 0) ∧
      FieldsKept [.XFER_STAT_MBOX, .XFER_STAT_MERR, .XFER_STAT_MRSN] s t ∧
      t = { s with regs := t.regs, paths := t.paths, host := t.host, xfer := t.xfer })) ∧
  (∀ (p : Path) (addr : Nat) (s : State), (Instr.eraseSector p addr).wellFormed = true → Admits p Reg.XFER_PULL s →
      s.xfer.mbox = [] → mailboxReason 3 0 addr (s.mayRead p 9) (s.granted p) s = none →
    Runs (.eraseSector p addr) s (fun t =>
      t.xfer = { s.xfer with
        mboxPath := p, mboxData := [], mboxQ := s.xfer.mboxQ ++ [⟨1, addr / 4096 * 4096, [], true, 4096⟩] } ∧
      (p = .host → t.host.answer.status = 0) ∧ FieldsKept [.XFER_STAT_MBOX] s t ∧
      t = { s with regs := t.regs, paths := t.paths, host := t.host, xfer := t.xfer })) ∧
  (∀ (p : Path) (addr r : Nat) (s : State), (Instr.eraseSector p addr).wellFormed = true → Admits p Reg.XFER_PULL s →
      s.xfer.mbox = [] → mailboxReason 3 0 addr (s.mayRead p 9) (s.granted p) s = some r →
    Runs (.eraseSector p addr) s (fun t =>
      t.xfer = { s.xfer with mboxPath := p, mboxData := [] } ∧ t.flag .XFER_STAT_MERR = true ∧
      t.fld .XFER_STAT_MRSN = r ∧ (p = .host → t.host.answer.status = 0) ∧
      FieldsKept [.XFER_STAT_MBOX, .XFER_STAT_MERR, .XFER_STAT_MRSN] s t ∧
      t = { s with regs := t.regs, paths := t.paths, host := t.host, xfer := t.xfer })) ∧
  (∀ (o : XOp) (rest : List XOp) (s : State), s.xfer.op = none → oldestFor s dXmem = none → s.xfer.mboxQ = o :: rest →
      (o.kind = 2 ∨ s.flag .XFER_STAT_XERR = false) → s.hasCredits .xmem 0 (xopCredits s o) = false →
    Runs .xmemOpStart s (fun t => t = s)) ∧
  (∀ (o : XOp) (s : State), s.xfer.op = none → s.isActive = true → s.isFatal = false → s.hasXmem = true →
      oldestFor s dXmem = none → s.xfer.mboxQ = [o] → o.kind ≠ 2 → s.flag .XFER_STAT_XERR = true →
    Runs .xmemOpStart s (fun t =>
      t.xfer = { s.xfer with mboxQ := [] } ∧ t.flag .XFER_STAT_MERR = true ∧ t.fld .XFER_STAT_MRSN = 5 ∧
      FieldsKept [.XFER_STAT_MERR, .XFER_STAT_MRSN] s t ∧ t = { s with regs := t.regs, xfer := t.xfer }))

/-! ### The on-chip store (15) -/

/-- FLASH_OP_START, FLASH_OP_COMPLETE and OPERATING_TIME_TICK (R581, R582, R596, R598): the queue's first job that may
run starts its operation once its credits are granted, and waits without them; a job with nothing left to do leaves the queue, and
a full counter puts the switch of its pair before it; a program clears bits of its own bytes only, whole or in part, an erase sets
its sector to 0xFF, and no other byte changes; a raw job of the host ends with DONE and its reason; CNT[0] counts the time out of
reset, without a job in the fatal state; and a queue that may not run, no operation, and a unit held in reset are nothing. The
model's own readings: log entry 39. -/
def Obligations.FlashQueueRuns : Prop :=
  (∀ s : State, (s.mayStart = false ∨ s.nvm.jobs.find? s.canRun = none) → Runs .flashOpStart s (fun t => t = s)) ∧
  (∀ (j k : Job) (o : FlashOp) (s : State), s.mayStart = true → s.nvm.jobs.find? s.canRun = some j →
      nextOp j (setJobs s (j :: s.nvm.jobs.erase j)) = some (o, k) →
      (jobReserved k = true ∨ s.hasCredits .nvm 0 (opCredits o) = true) →
    Runs .flashOpStart s (fun t =>
      t.nvm.op = some o ∧ t.nvm.jobs.head? = some k ∧ t.flag .NVM_STAT_BUSY = true ∧ t.nvm.store = s.nvm.store ∧
      t.nvm.ecc = s.nvm.ecc ∧ BlocksKept [10, 11] s t ∧
      t = { s with regs := t.regs, nvm := t.nvm, rope := t.rope, log := t.log })) ∧
  (∀ (j k : Job) (o : FlashOp) (s : State), s.mayStart = true → s.nvm.jobs.find? s.canRun = some j →
      nextOp j (setJobs s (j :: s.nvm.jobs.erase j)) = some (o, k) → jobReserved k = false →
      s.hasCredits .nvm 0 (opCredits o) = false → Runs .flashOpStart s (fun t => t = s)) ∧
  (∀ (n : Nat) (j : Job) (rest : List Job) (s : State), s.mayStart = true → s.nvm.jobs = j :: rest →
      j.kind = .counter n → n < 8 → s.countOp n = none →
    Runs .flashOpStart s (fun t =>
      t.nvm.jobs = (switchJobs s n).1 ++ j :: rest ++ [(switchJobs s n).2] ∧
      t = { s with regs := t.regs, nvm := { s.nvm with jobs := t.nvm.jobs } } ∧ BlocksKept [10, 11] s t)) ∧
  (∀ (a : Nat) (bs : List Byte) (s : State), s.nvm.op = some (.program a bs) →
    Runs (.flashOpComplete true) s (fun t =>
      (∀ i, i < bs.length → t.storeByte (a + i) = s.storeByte (a + i) &&& nth 0 bs i) ∧
      (∀ b, b < a ∨ a + bs.length ≤ b → t.storeByte b = s.storeByte b) ∧ t.nvm.op = none)) ∧
  (∀ (a : Nat) (bs : List Byte) (s : State), s.nvm.op = some (.program a bs) →
    Runs (.flashOpComplete false) s (fun t =>
      (∀ i, i < bs.length → t.storeByte (a + i) &&& s.storeByte (a + i) = t.storeByte (a + i) ∧
        (s.storeByte (a + i) &&& nth 0 bs i) &&& t.storeByte (a + i) = s.storeByte (a + i) &&& nth 0 bs i) ∧
      (∀ b, b < a ∨ a + bs.length ≤ b → t.storeByte b = s.storeByte b) ∧ t.nvm.op = none)) ∧
  (∀ (a : Nat) (b : Byte) (s : State), s.nvm.op = some (.byteProgram a b) →
    Runs (.flashOpComplete true) s (fun t =>
      t.storeByte a = s.storeByte a &&& b ∧ (∀ c, c ≠ a → t.storeByte c = s.storeByte c) ∧ t.nvm.op = none)) ∧
  (∀ (k : Nat) (ok : Bool) (s : State), s.nvm.op = some (.erase k) →
    Runs (.flashOpComplete ok) s (fun t =>
      (∀ a, 2048 * k ≤ a → a < 2048 * k + 2048 → t.storeByte a = 0xFF) ∧
      (∀ a, a < 2048 * k ∨ 2048 * k + 2048 ≤ a → t.storeByte a = s.storeByte a) ∧ t.nvm.op = none)) ∧
  (∀ (o : FlashOp) (j : Job) (rest : List Job) (ok : Bool) (s : State), s.nvm.op = some o → s.nvm.jobs = j :: rest →
      (match j.kind with | .rawErase _ => true | .rawProg _ _ => true | _ => false) = true → j.host = true →
      rest.any (·.host) = false → s.sys.waiting = [] → s.flag .NVM_STAT_ERR = false → s.nvm.jobFail = 0 →
    Runs (.flashOpComplete ok) s (fun t =>
      t.nvm.jobs = rest ∧ t.flag .NVM_STAT_PEND = false ∧ t.flag .NVM_STAT_DONE = true ∧ t.flag .NVM_STAT_ERR = !ok ∧
      t.fld .NVM_STAT_REASON = (if ok = true then 0 else 6) ∧ t.flag .NVM_STAT_BUSY = false ∧
      BlocksKept [1, 10, 11] s t ∧ t.xfer = s.xfer)) ∧
  (∀ (ok : Bool) (s : State), s.nvm.op = none → Runs (.flashOpComplete ok) s (fun t => t = s)) ∧
  (∀ s : State, s.sys.held = false → s.isFatal = false →
    Runs .operatingTimeTick s (fun t =>
      t.reg32 (Reg.CNT 0) = (s.reg32 (Reg.CNT 0) + 1) % 4294967296 ∧
      t.nvm.jobs = s.nvm.jobs ++ [{ kind := .counter 0 }] ∧
      FieldsKept (wholeReg32 (Reg.CNT 0) ++ [.LOG_STAT_QLOG, .NVM_JSTAT_QCNT]) s t ∧
      t = { s with regs := t.regs, nvm := { s.nvm with jobs := t.nvm.jobs } })) ∧
  (∀ s : State, s.sys.held = false → s.isFatal = true →
    Runs .operatingTimeTick s (fun t =>
      t.reg32 (Reg.CNT 0) = (s.reg32 (Reg.CNT 0) + 1) % 4294967296 ∧ FieldsKept (wholeReg32 (Reg.CNT 0)) s t ∧
      t = { s with regs := t.regs })) ∧
  (∀ s : State, s.sys.held = true → Runs .operatingTimeTick s (fun t => t = s)) ∧
  (∀ (j : Job) (s : State), s.mayStart = true → s.nvm.jobs.find? s.canRun = some j →
      nextOp j (setJobs s (j :: s.nvm.jobs.erase j)) = none →
      (match j.kind with | .counter _ => false | _ => true) = true → j.host = false →
    Runs .flashOpStart s (fun t =>
      t.nvm = { s.nvm with jobs := s.nvm.jobs.erase j } ∧ BlocksKept [10, 11] s t ∧
      t = { s with regs := t.regs, nvm := t.nvm }))

/-- NVM_ADDR_WRITE, NVM_DATA_ACCESS, NVM_KEY_WRITE, PROG, ERASE, JREAD, JWRITE, LSAVE and CINC (R580, R583, R598 to
R600, R606): the address restarts the buffer, whose words are written and read in order and whose 33rd is refused; a raw read gives
the store's word at an even address that no operation holds, and reports a word that the ECC corrects or does not; a key is noted
for its path; a command of a path that has given its key where one is asked for, and holds its grant, becomes a host job or fills
the buffer, and any other ends at once with its reason. That an LSAVE without a RANGE stage saves the identity alone is the model's
choice (log entry 10); what an uncorrectable word and a read past the buffer give is open (log entry 1). -/
def Obligations.StoreIsReachedByCommands : Prop :=
  (∀ (p : Path) (v : Nat) (s : State), (Instr.nvmAddrWrite p v).wellFormed = true → Admits p Reg.NVM_ADDR s →
    Runs (.nvmAddrWrite p v) s (fun t =>
      t.regN Reg.NVM_ADDR = v ∧ t.flag .NVM_STAT_BUFRD = false ∧ t.nvm = { s.nvm with bufIdx := 0 } ∧
      (p = .host → t.host.answer.status = 0) ∧ FieldsKept [wholeReg Reg.NVM_ADDR, .NVM_STAT_BUFRD] s t ∧
      t = { s with regs := t.regs, paths := t.paths, host := t.host, nvm := t.nvm })) ∧
  (∀ (p : Path) (v : Nat) (s : State), (Instr.nvmDataAccess p (some v)).wellFormed = true → Admits p Reg.NVM_DATA s →
      s.nvm.bufIdx < 32 →
    Runs (.nvmDataAccess p (some v)) s (fun t =>
      t.nvm = { s.nvm with buf := t.nvm.buf, bufIdx := s.nvm.bufIdx + 1 } ∧
      slice' t.nvm.buf (2 * s.nvm.bufIdx) 2 = leBytes (word v) ∧ t.nvm.buf.length = 64 ∧
      (∀ i, i < 64 → i / 2 ≠ s.nvm.bufIdx → nth 0 t.nvm.buf i = nth 0 s.nvm.buf i) ∧
      (p = .host → t.host.answer.status = 0) ∧
      t = { s with paths := t.paths, host := t.host, nvm := t.nvm })) ∧
  (∀ (p : Path) (v : Nat) (s : State), (Instr.nvmDataAccess p (some v)).wellFormed = true → Admits p Reg.NVM_DATA s →
      32 ≤ s.nvm.bufIdx →
    Runs (.nvmDataAccess p (some v)) s (fun t =>
      (p = .host → t.host.answer.status = stDeny) ∧ t = { s with paths := t.paths, host := t.host })) ∧
  (∀ (p : Path) (s : State), okPath p = true → AdmitsRead p Reg.NVM_DATA s → s.flag .NVM_STAT_BUFRD = true →
      s.nvm.bufIdx < 32 →
    Runs (.nvmDataAccess p none) s (fun t =>
      (p = .host → t.host.answer =
        ⟨0, word (ofLe [nth 0 s.nvm.buf (2 * s.nvm.bufIdx), nth 0 s.nvm.buf (2 * s.nvm.bufIdx + 1)])⟩) ∧
      t.nvm = { s.nvm with bufIdx := s.nvm.bufIdx + 1 } ∧
      t = { s with paths := t.paths, host := t.host, nvm := t.nvm })) ∧
  (∀ (p : Path) (s : State), okPath p = true → AdmitsRead p Reg.NVM_DATA s → s.flag .NVM_STAT_BUFRD = false →
      s.regN Reg.NVM_ADDR % 2 = 0 → s.storeHeld (s.regN Reg.NVM_ADDR) = false →
      s.wordErr (s.regN Reg.NVM_ADDR / 8) = none → s.looseBits (s.regN Reg.NVM_ADDR) = 0 →
      s.looseBits (s.regN Reg.NVM_ADDR + 1) = 0 →
    Runs (.nvmDataAccess p none) s (fun t =>
      (p = .host → t.host.answer = ⟨0, word ((s.hostByte (s.regN Reg.NVM_ADDR)).toNat
        + 256 * (s.hostByte (s.regN Reg.NVM_ADDR + 1)).toNat)⟩) ∧
      t.regN Reg.NVM_ADDR = (s.regN Reg.NVM_ADDR + 2) % 65536 ∧ FieldsKept [wholeReg Reg.NVM_ADDR] s t ∧
      t = { s with regs := t.regs, paths := t.paths, host := t.host })) ∧
  (∀ (p : Path) (s : State), okPath p = true → AdmitsRead p Reg.NVM_DATA s → s.flag .NVM_STAT_BUFRD = false →
      (s.regN Reg.NVM_ADDR % 2 = 1 ∨ s.storeHeld (s.regN Reg.NVM_ADDR) = true) →
    Runs (.nvmDataAccess p none) s (fun t =>
      (p = .host → t.host.answer = ⟨stDeny, 0⟩) ∧ t = { s with paths := t.paths, host := t.host })) ∧
  (∀ (p : Path) (v : Nat) (s : State), (Instr.nvmKeyWrite p v).wellFormed = true → Admits p Reg.NVM_KEY s →
    Runs (.nvmKeyWrite p v) s (fun t =>
      (t.path p).nvmKey = (v == 0x3C96) ∧ (p = .host → t.host.answer.status = if v = 0x3C96 then 0 else stDeny) ∧
      t = { s with paths := t.paths, host := t.host })) ∧
  (∀ (p : Path) (a n : Nat) (s : State), okPath p = true → Admits p Reg.NVM_CTRL s → a = s.regN Reg.NVM_ADDR →
      commandFails true (s.path p).nvmKey (s.granted p grantNvWr) s = none → s.testMode = true → 0x1000 ≤ a →
      n = min (2 * s.nvm.bufIdx) (64 - a % 64) → 0 < n → s.nvm.bufIdx ≤ 32 →
    Runs (.prog p) s (fun t =>
      t.nvm.jobs = s.nvm.jobs ++ [{ kind := .rawProg a ((padTo 64 s.nvm.buf).take n), host := true }] ∧
      t.fld .NVM_STAT_TRUNC = 2 * s.nvm.bufIdx - n ∧ t.flag .NVM_STAT_PEND = true ∧
      (t.path p).nvmKey = false ∧ (p = .host → t.host.answer.status = 0) ∧
      FieldsKept [.NVM_STAT_TRUNC, .NVM_STAT_PEND, .NVM_STAT_BUSY, .NVM_JSTAT_SAVEREM, .LOG_STAT_QLOG,
        .NVM_JSTAT_QCNT] s t ∧
      t = { s with regs := t.regs, paths := t.paths, host := t.host, nvm := { s.nvm with jobs := t.nvm.jobs, jobFail := 0 } })) ∧
  (∀ (p : Path) (s : State), okPath p = true → Admits p Reg.NVM_CTRL s →
      commandFails true (s.path p).nvmKey (s.granted p grantNvWr) s = none → s.testMode = true →
      0x1000 ≤ s.regN Reg.NVM_ADDR →
    Runs (.erase p) s (fun t =>
      t.nvm.jobs = s.nvm.jobs ++ [{ kind := .rawErase (s.regN Reg.NVM_ADDR / 2048), host := true }] ∧
      t.flag .NVM_STAT_PEND = true ∧ (t.path p).nvmKey = false ∧ (p = .host → t.host.answer.status = 0) ∧
      FieldsKept [.NVM_STAT_PEND, .NVM_STAT_BUSY, .NVM_JSTAT_SAVEREM, .LOG_STAT_QLOG, .NVM_JSTAT_QCNT] s t ∧
      t = { s with regs := t.regs, paths := t.paths, host := t.host, nvm := { s.nvm with jobs := t.nvm.jobs, jobFail := 0 } })) ∧
  (∀ (p : Path) (r : Nat) (c : Instr) (s : State), okPath p = true → Admits p Reg.NVM_CTRL s → c = .prog p ∨ c = .erase p →
      (commandFails true (s.path p).nvmKey (s.granted p grantNvWr) s = some r ∨
        (commandFails true (s.path p).nvmKey (s.granted p grantNvWr) s = none ∧ r = rsnProt ∧
          (s.testMode = false ∨ s.regN Reg.NVM_ADDR < 0x1000))) →
    Runs c s (fun t =>
      t.flag .NVM_STAT_DONE = true ∧ t.flag .NVM_STAT_ERR = true ∧ t.fld .NVM_STAT_REASON = r ∧
      (p = .host → t.host.answer.status = 0) ∧ FieldsKept [.NVM_STAT_DONE, .NVM_STAT_ERR, .NVM_STAT_REASON] s t ∧
      t = { s with regs := t.regs, paths := t.paths, host := t.host })) ∧
  (∀ (p : Path) (x y : Nat) (bs : List Byte) (s : State), okPath p = true → Admits p Reg.NVM_CTRL s →
      commandFails false false (s.mayRead p 10) s = none → s.winner (s.regN Reg.NVM_ADDR) = some (x, y, bs) →
    Runs (.jread p) s (fun t =>
      t.nvm = { s.nvm with buf := padTo 64 (leNat 1 (recLen bs) ++ recData bs), bufIdx := 0 } ∧
      t.flag .NVM_STAT_BUFRD = true ∧ t.regN Reg.NVM_ADDR = recSeq bs ∧ t.flag .NVM_STAT_DONE = true ∧
      t.fld .NVM_STAT_REASON = 0 ∧ (p = .host → t.host.answer.status = 0) ∧
      FieldsKept [.NVM_STAT_BUFRD, .NVM_STAT_DONE, .NVM_STAT_REASON, wholeReg Reg.NVM_ADDR] s t ∧
      t = { s with regs := t.regs, paths := t.paths, host := t.host, nvm := t.nvm })) ∧
  (∀ (p : Path) (r : Nat) (s : State), okPath p = true → Admits p Reg.NVM_CTRL s →
      (commandFails false false (s.mayRead p 10) s = some r ∨
        (commandFails false false (s.mayRead p 10) s = none ∧ s.winner (s.regN Reg.NVM_ADDR) = none ∧ r = rsnNoItem)) →
    Runs (.jread p) s (fun t =>
      t.flag .NVM_STAT_DONE = true ∧ t.flag .NVM_STAT_ERR = true ∧ t.fld .NVM_STAT_REASON = r ∧
      (p = .host → t.host.answer.status = 0) ∧ FieldsKept [.NVM_STAT_DONE, .NVM_STAT_ERR, .NVM_STAT_REASON] s t ∧
      t = { s with regs := t.regs, paths := t.paths, host := t.host })) ∧
  (∀ (p : Path) (len : Nat) (s : State), (Instr.jwrite p len).wellFormed = true → Admits p Reg.NVM_CTRL s →
      commandFails true (s.path p).nvmKey (s.granted p grantNvWr) s = none → len ≤ 24 →
      jwriteAllowed (s.regN Reg.NVM_ADDR) = true →
      trimBad (s.regN Reg.NVM_ADDR) ((padTo 64 s.nvm.buf).take len) = false →
    Runs (.jwrite p len) s (fun t =>
      t.nvm.jobs = s.nvm.jobs ++
        [{ kind := .save (s.regN Reg.NVM_ADDR) ((padTo 64 s.nvm.buf).take len), host := true }] ∧
      t.flag .NVM_STAT_PEND = true ∧ (p = .host → t.host.answer.status = 0) ∧
      FieldsKept [.NVM_STAT_PEND, .NVM_STAT_BUSY, .NVM_JSTAT_SAVEREM, .LOG_STAT_QLOG, .NVM_JSTAT_QCNT] s t ∧
      t = { s with regs := t.regs, paths := t.paths, host := t.host, nvm := { s.nvm with jobs := t.nvm.jobs, jobFail := 0 } })) ∧
  (∀ (p : Path) (len r : Nat) (s : State), (Instr.jwrite p len).wellFormed = true → Admits p Reg.NVM_CTRL s →
      (commandFails true (s.path p).nvmKey (s.granted p grantNvWr) s = some r ∨
        (commandFails true (s.path p).nvmKey (s.granted p grantNvWr) s = none ∧ r = rsnRange ∧
          (24 < len ∨ jwriteAllowed (s.regN Reg.NVM_ADDR) = false ∨
            trimBad (s.regN Reg.NVM_ADDR) ((padTo 64 s.nvm.buf).take len) = true))) →
    Runs (.jwrite p len) s (fun t =>
      t.flag .NVM_STAT_DONE = true ∧ t.flag .NVM_STAT_ERR = true ∧ t.fld .NVM_STAT_REASON = r ∧
      (p = .host → t.host.answer.status = 0) ∧ FieldsKept [.NVM_STAT_DONE, .NVM_STAT_ERR, .NVM_STAT_REASON] s t ∧
      t = { s with regs := t.regs, paths := t.paths, host := t.host })) ∧
  (∀ (p : Path) (n : Nat) (s : State), (Instr.lsave p n).wellFormed = true → Admits p Reg.NVM_CTRL s →
      commandFails true (s.path p).nvmKey (s.granted p grantNvWr) s = none → n < 6 →
    Runs (.lsave p n) s (fun t =>
      t.nvm.jobs = s.nvm.jobs ++ { kind := .save (0x500 + 16 * n) (s.identity n), host := true } ::
        (match s.rangeStage n with
          | some k =>
            [{ kind := .save (0x501 + 16 * n) (bytesOfWords ((s.stageWords n k).drop 2 |>.take 4)), host := true }]
          | none => []) ∧
      t.flag .NVM_STAT_PEND = true ∧ (p = .host → t.host.answer.status = 0) ∧
      FieldsKept [.NVM_STAT_PEND, .NVM_STAT_BUSY, .NVM_JSTAT_SAVEREM, .LOG_STAT_QLOG, .NVM_JSTAT_QCNT] s t ∧
      t = { s with regs := t.regs, paths := t.paths, host := t.host, nvm := { s.nvm with jobs := t.nvm.jobs, jobFail := 0 } })) ∧
  (∀ (p : Path) (n : Nat) (s : State), (Instr.cinc p n).wellFormed = true → Admits p Reg.NVM_CTRL s →
      commandFails false false (s.granted p grantNvWr) s = none → n < 4 →
    Runs (.cinc p n) s (fun t =>
      t.reg32 (Reg.CNT (4 + n)) = (s.reg32 (Reg.CNT (4 + n)) + 1) % 4294967296 ∧
      t.nvm.jobs = s.nvm.jobs ++ [{ kind := .counter (4 + n), host := true }] ∧ t.flag .NVM_STAT_PEND = true ∧
      (p = .host → t.host.answer.status = 0) ∧
      FieldsKept (wholeReg32 (Reg.CNT (4 + n)) ++
        [.NVM_STAT_PEND, .NVM_STAT_BUSY, .NVM_JSTAT_SAVEREM, .LOG_STAT_QLOG, .NVM_JSTAT_QCNT]) s t ∧
      t = { s with regs := t.regs, paths := t.paths, host := t.host, nvm := { s.nvm with jobs := t.nvm.jobs, jobFail := 0 } })) ∧
  (∀ (p : Path) (n r : Nat) (c : Instr) (s : State), okPath p = true → n < 16 → Admits p Reg.NVM_CTRL s →
      ((c = .lsave p n ∧ (commandFails true (s.path p).nvmKey (s.granted p grantNvWr) s = some r ∨
          (commandFails true (s.path p).nvmKey (s.granted p grantNvWr) s = none ∧ 6 ≤ n ∧ r = rsnRange))) ∨
        (c = .cinc p n ∧ (commandFails false false (s.granted p grantNvWr) s = some r ∨
          (commandFails false false (s.granted p grantNvWr) s = none ∧ 4 ≤ n ∧ r = rsnRange)))) →
    Runs c s (fun t =>
      t.flag .NVM_STAT_DONE = true ∧ t.flag .NVM_STAT_ERR = true ∧ t.fld .NVM_STAT_REASON = r ∧
      (p = .host → t.host.answer.status = 0) ∧ FieldsKept [.NVM_STAT_DONE, .NVM_STAT_ERR, .NVM_STAT_REASON] s t ∧
      t = { s with regs := t.regs, paths := t.paths, host := t.host })) ∧
  (∀ (p : Path) (a : Nat) (bad : Bool) (s : State), okPath p = true → AdmitsRead p Reg.NVM_DATA s →
      s.flag .NVM_STAT_BUFRD = false → a = s.regN Reg.NVM_ADDR → a % 2 = 0 → s.storeHeld a = false →
      s.wordErr (a / 8) = some bad → Watches 4 s → (bad = true → 0x1000 ≤ a) →
    Runs (.nvmDataAccess p none) s (fun t =>
      Reported 4 (a / 2048 + (if bad = true then 128 else 0)) (if bad = true then clsU else clsC) s t ∧
      t.regN Reg.NVM_ADDR = (a + 2) % 65536 ∧ (p = .host → t.host.answer.status = 0) ∧
      (p = .host → bad = false →
        t.host.answer.data = word ((s.hostByte a).toNat + 256 * (s.hostByte (a + 1)).toNat)) ∧
      BlocksKept reportBlocks s t ∧ MemKept s t)) ∧
  (∀ (p : Path) (s : State), okPath p = true → AdmitsRead p Reg.NVM_DATA s → s.flag .NVM_STAT_BUFRD = true →
      32 ≤ s.nvm.bufIdx →
    Runs (.nvmDataAccess p none) s (fun t =>
      (p = .host → t.host.answer.status = 0) ∧ t = { s with paths := t.paths, host := t.host, free := t.free })) ∧
  (∀ (p : Path) (s : State), okPath p = true → Admits p Reg.NVM_CTRL s →
      commandFails true (s.path p).nvmKey (s.granted p grantNvWr) s = none → s.testMode = true →
      0x1000 ≤ s.regN Reg.NVM_ADDR → s.nvm.bufIdx = 0 →
    Runs (.prog p) s (fun t =>
      t.flag .NVM_STAT_DONE = true ∧ t.fld .NVM_STAT_REASON = 0 ∧ t.fld .NVM_STAT_TRUNC = 0 ∧
      (t.path p).nvmKey = false ∧ (p = .host → t.host.answer.status = 0) ∧
      FieldsKept [.NVM_STAT_DONE, .NVM_STAT_REASON, .NVM_STAT_TRUNC] s t ∧
      t = { s with regs := t.regs, paths := t.paths, host := t.host }))

/-! ### The cairn log (16) -/

/-- BUCKET_REFILL, LOG_SEQ_READ, LOG_WIN_LATCH, LOG_CHAL_READ, CHALLENGE_EXPIRE, LOG_CLR_SUBMIT and CLEAR_LOCKOUT_END
(R619 to R627): a bucket gains its token and records what it suppressed, and a full one gains nothing; a read of LOG.SEQ sets the
path's base; a latch of LOG.WIN takes the slot, or the record so far before the base, into the path's snapshot and steps its
cursor; a challenge is bound to the path that read it, and ends with its time; the right token of that path starts the clearing,
any other fails, and the third failure in a row locks clearing out for 10 minutes; a closed clearing gives no challenge and refuses
a token; and a time that is not running is nothing. The model's own readings: log entries 1, 18 and 40. -/
def Obligations.LogIsReadAndCleared : Prop :=
  (∀ (g : Nat) (s : State), g < 32 → (nth {} s.log.buckets g).depth ≠ 255 →
      (nth {} s.log.buckets g).tokens < (nth {} s.log.buckets g).depth → g < s.log.buckets.length →
    Runs (.bucketRefill g) s (fun t =>
      nth {} t.log.buckets g = { nth {} s.log.buckets g with
        tokens := (nth {} s.log.buckets g).tokens + 1, count := 0 } ∧
      (∀ k, k ≠ g → nth {} t.log.buckets k = nth {} s.log.buckets k) ∧
      ((nth {} s.log.buckets g).count = 0 → t = { s with log := { s.log with buckets := t.log.buckets } }) ∧
      ((nth {} s.log.buckets g).count ≠ 0 → s.isFatal = false → (s.nvm.jobs.filter isLogJob).length < 16 →
        t.nvm.jobs.getLast?.any (fun j => match j.kind with | .logRec r => r.code == 0x383 | _ => false) = true) ∧
      BlocksKept [9, 10, 11] s t ∧ MemKept s t)) ∧
  (∀ (g : Nat) (s : State), g < 32 → ((nth {} s.log.buckets g).depth = 255 ∨
      (nth {} s.log.buckets g).depth ≤ (nth {} s.log.buckets g).tokens) →
    Runs (.bucketRefill g) s (fun t => t = s)) ∧
  (∀ (p : Path) (s : State), okPath p = true → AdmitsRead p Reg.LOG_SEQ s →
    Runs (.logSeqRead p) s (fun t =>
      (p = .host → t.host.answer = ⟨0, s.reg Reg.LOG_SEQ⟩) ∧ (t.path p).base = some (s.reg Reg.LOG_SEQ) ∧
      (t.path p).cursor = (s.path p).cursor ∧ (∀ q, pathKey q ≠ pathKey p → t.path q = s.path q) ∧
      t = { s with paths := t.paths, host := t.host })) ∧
  (∀ (p : Path) (i : Nat) (s : State), okPath p = true → AdmitsRead p Reg.LOG_WIN s →
      (s.path p).cursor.getLsbD 15 = false → i = getField (s.path p).cursor 0 10 →
    Runs (.logWinLatch p) s (fun t =>
      (t.path p).snap = s.logBytes i ∧ (t.path p).snapStat = word (s.slotFinds i * 16384 + i) ∧
      (t.path p).cursor = stepCursor (s.path p).cursor ∧
      (p = .host → t.host.answer = ⟨0, word (ofLe ((s.logBytes i).take 2))⟩) ∧
      (∀ q, pathKey q ≠ pathKey p → t.path q = s.path q) ∧ t = { s with paths := t.paths, host := t.host })) ∧
  (∀ (p : Path) (b i q : Nat) (s : State), okPath p = true → AdmitsRead p Reg.LOG_WIN s →
      (s.path p).cursor.getLsbD 15 = true →
      b = (match (s.path p).base with | some w => w.toNat | none => s.regN Reg.LOG_SEQ) → b ≠ 0 →
      s.validSlots.find? (fun e => e.2 == (b + 65536 - getField (s.path p).cursor 0 10) % 65536 && !s.slotBusy e.1)
        = some (i, q) →
    Runs (.logWinLatch p) s (fun t =>
      (t.path p).snap = s.logBytes i ∧ (t.path p).snapStat = word (snapOk * 16384 + i) ∧
      (t.path p).cursor = stepCursor (s.path p).cursor ∧
      (p = .host → t.host.answer = ⟨0, word (ofLe ((s.logBytes i).take 2))⟩) ∧
      t = { s with paths := t.paths, host := t.host })) ∧
  (∀ (p : Path) (b : Nat) (s : State), okPath p = true → AdmitsRead p Reg.LOG_WIN s →
      (s.path p).cursor.getLsbD 15 = true →
      b = (match (s.path p).base with | some w => w.toNat | none => s.regN Reg.LOG_SEQ) →
      (b = 0 ∨ s.validSlots.find? (fun e => e.2 == (b + 65536 - getField (s.path p).cursor 0 10) % 65536 &&
        !s.slotBusy e.1) = none) →
    Runs (.logWinLatch p) s (fun t =>
      (t.path p).snap = List.replicate 32 0 ∧ (t.path p).snapStat ≠ 0 ∧
      (b = 0 → (t.path p).snapStat = word (snapEmpty * 16384)) ∧ (p = .host → t.host.answer = ⟨0, 0⟩) ∧
      (t.path p).cursor = stepCursor (s.path p).cursor ∧ t = { s with paths := t.paths, host := t.host })) ∧
  (∀ (p : Path) (c : Nat) (s : State), okPath p = true → AdmitsRead p Reg.LOG_CHAL s → clearClosed p s = false →
      c = (Config.freeBits s.free).toNat →
    Runs (.logChalRead p) s (fun t =>
      t.log = { s.log with chal := some (p, c) } ∧ t.fld .LOG_CLRST_STATE = 1 ∧ t.free = s.free + 1 ∧
      (p = .host → t.host.answer = ⟨0, word c⟩) ∧
      (t.path p).readShadow = [(Reg.LOG_CHAL + 1, word (c / 65536)), (Reg.LOG_CHAL + 2, word (c / 65536 ^ 2)),
        (Reg.LOG_CHAL + 3, word (c / 65536 ^ 3))] ∧ FieldsKept [.LOG_CLRST_STATE] s t ∧
      t = { s with regs := t.regs, paths := t.paths, host := t.host, log := t.log, free := t.free })) ∧
  (∀ (p : Path) (s : State), okPath p = true → AdmitsRead p Reg.LOG_CHAL s → clearClosed p s = true →
    Runs (.logChalRead p) s (fun t =>
      (p = .host → t.host.answer = ⟨0, 0⟩) ∧ t = { s with paths := t.paths, host := t.host })) ∧
  (∀ (q : Path) (c : Nat) (s : State), s.log.chal = some (q, c) →
    Runs .challengeExpire s (fun t =>
      t.log = { s.log with chal := none } ∧ t.fld .LOG_CLRST_STATE = 0 ∧ FieldsKept [.LOG_CLRST_STATE] s t ∧
      t = { s with regs := t.regs, log := t.log })) ∧
  (∀ s : State, s.log.chal = none → Runs .challengeExpire s (fun t => t = s)) ∧
  (∀ (p : Path) (token c : Nat) (k : List Byte) (s : State), (Instr.logClrSubmit p token).wellFormed = true →
      Admits p Reg.LOG_CLR s → clearClosed p s = false → s.log.chal = some (p, c) → s.nvm.logKey = some k →
      token = clearToken k c s.uid →
    Runs (.logClrSubmit p token) s (fun t =>
      t.fld .LOG_CLRST_FAILS = 0 ∧ t.fld .LOG_CLRST_STATE = 2 ∧ t.flag .LOG_STAT_BUSY = true ∧
      t.log = { s.log with chal := none } ∧
      t.nvm.jobs.getLast?.any (fun j => match j.kind with | .clearing r => r.code == 0x381 | _ => false) = true ∧
      (p = .host → t.host.answer.status = 0) ∧ BlocksKept [9, 10, 11] s t ∧ MemKept s t)) ∧
  (∀ (p : Path) (token : Nat) (s : State), (Instr.logClrSubmit p token).wellFormed = true → Admits p Reg.LOG_CLR s →
      clearClosed p s = false →
      (match s.log.chal, s.nvm.logKey with
        | some (q, c), some k => q != p || token != clearToken k c s.uid
        | _, _ => true) = true →
    Runs (.logClrSubmit p token) s (fun t =>
      t.log.chal = none ∧ (p = .host → t.host.answer.status = 0) ∧
      (s.fld .LOG_CLRST_FAILS < 2 → t.fld .LOG_CLRST_FAILS = s.fld .LOG_CLRST_FAILS + 1 ∧
        t.fld .LOG_CLRST_STATE = 4 ∧ FieldsKept [.LOG_CLRST_STATE, .LOG_CLRST_FAILS] s t ∧
        t = { s with regs := t.regs, paths := t.paths, host := t.host, log := t.log }) ∧
      (2 ≤ s.fld .LOG_CLRST_FAILS → t.flag .LOG_STAT_LOCK = true ∧ t.fld .LOG_CLRST_STATE = 5 ∧
        t.log.lockUntil = s.now + clocksPerMs 600000 ∧ BlocksKept [9, 10, 11] s t ∧ MemKept s t))) ∧
  (∀ (p : Path) (token : Nat) (s : State), (Instr.logClrSubmit p token).wellFormed = true → Admits p Reg.LOG_CLR s →
      clearClosed p s = true →
    Runs (.logClrSubmit p token) s (fun t =>
      (p = .host → t.host.answer.status = stDeny) ∧ t = { s with paths := t.paths, host := t.host })) ∧
  (∀ s : State, s.flag .LOG_STAT_LOCK = true →
    Runs .clearLockoutEnd s (fun t =>
      t.flag .LOG_STAT_LOCK = false ∧ t.fld .LOG_CLRST_FAILS = 0 ∧ t.fld .LOG_CLRST_STATE = 0 ∧
      FieldsKept [.LOG_STAT_LOCK, .LOG_CLRST_FAILS, .LOG_CLRST_STATE] s t ∧ t = { s with regs := t.regs })) ∧
  (∀ s : State, s.flag .LOG_STAT_LOCK = false → Runs .clearLockoutEnd s (fun t => t = s))

/-! ### The belay collector, faults and thermal control (17) -/

/-- BELAY_REPORT, COLLECTOR_IDLE, WIRE_FAULT, LEVEL_REPEAT, CRYSTAL_STOP, PROT_MAP_CHECK, CLEAR, CLEARALL, KICK,
HOST_KEEPALIVE_EXPIRE, INJECTION_ARM and FAULT_INJECT (R85, R169, R637 to R653): an accepted report is latched and counted by its
class, and one of class F begins the fatal state; a report that the collector does not take leaves its block's own reaction alone;
the ECC's words are noted whether or not it is taken; a wire fault is reported and its pair ignored; a level source whose condition
holds reports again; a stopped crystal and a spoilt map are reported; the latches clear as commanded, and in the fatal state keep
the report that began it; KICK restarts the keep-alive of the HOST path, and its end cuts the host's supply; an injection is armed in
test mode, then reports once with INJ or is refused; and what finds nothing to act on is nothing. The model's own readings: log
entries 41, 43 and 60. -/
def Obligations.ReportsAreCollected : Prop :=
  (∀ (src param p2 p3 : Nat) (s : State), (Instr.belayReport src param p2 p3).wellFormed = true → Watches src s →
      belayClass src param ≠ clsF →
    Runs (.belayReport src param p2 p3) s (fun t =>
      Reported src param (belayClass src param) s t ∧
      t.fld .FLT_CCNT_COUNT = (if belayClass src param = clsC then min (s.fld .FLT_CCNT_COUNT + 1) 65535
        else s.fld .FLT_CCNT_COUNT) ∧
      t.fld .FLT_UCNT_COUNT = (if belayClass src param = clsU then min (s.fld .FLT_UCNT_COUNT + 1) 65535
        else s.fld .FLT_UCNT_COUNT) ∧
      (src ≠ 15 ∨ param ≠ 3 → BlocksKept reportBlocks s t) ∧ MemKept s t)) ∧
  (∀ (src param p2 p3 : Nat) (s : State), (Instr.belayReport src param p2 p3).wellFormed = true → Watches src s →
      belayClass src param = clsF → s.isFatal = false →
    Runs (.belayReport src param p2 p3) s (fun t =>
      Reported src param clsF s t ∧ t.isFatal = true ∧ t.sys.fatal = some (s.sys.fatal.getD (src, param)) ∧
      t.flag .SEQ_STAT_RUNNING = false ∧ t.flag .XFER_STAT_RUN = false ∧
      (∀ k, k < 4 → t.fldBit .EXC_STAT_CLRST k = true) ∧ (∀ n, n < 6 → LoopShows n t) ∧
      (∀ c, c ∈ t.conns → 100 ≤ c.owner ∧ c.owner < 104) ∧ MemKept s t)) ∧
  (∀ (src param p2 p3 : Nat) (s : State), (Instr.belayReport src param p2 p3).wellFormed = true →
      (s.flt.busy = true ∨ s.phase ≤ 1 ∨ s.flt.ignored.contains src = true) →
    Runs (.belayReport src param p2 p3) s (fun t => t = atDetection src param p2 s ∧ (src ≠ 4 → src ≠ 5 → src ≠ 15 ∨ param ≠ 3 → t = s))) ∧
  (∀ s : State, Runs .collectorIdle s (fun t => t = { s with flt := { s.flt with busy := false } })) ∧
  (∀ (src : Nat) (high : Bool) (s : State), (Instr.wireFault src high).wellFormed = true → Watches 21 s →
      s.flt.ignored.contains src = false →
    Runs (.wireFault src high) s (fun t =>
      Reported 21 (wireParam src high) (belayClass 21 (wireParam src high)) s t ∧
      t.flt.ignored = s.flt.ignored ++ [src] ∧ t.flt.cond.contains (src, wireParam src high) = true ∧ MemKept s t)) ∧
  (∀ (src : Nat) (high : Bool) (s : State), (Instr.wireFault src high).wellFormed = true →
      s.flt.ignored.contains src = true → Runs (.wireFault src high) s (fun t => t = s)) ∧
  (∀ (src p p2 p3 : Nat) (rest : List (Nat × Nat × Nat)) (s : State), (Instr.levelRepeat src).wellFormed = true →
      Watches src s → (s.reg (Reg.FLT_ACT + src / 16)).getLsbD (src % 16) = false →
      levelReports s src = (p, p2, p3) :: rest →
    Runs (.levelRepeat src) s (fun t => Reported src p (belayClass src p) s t ∧ MemKept s t)) ∧
  (∀ (src : Nat) (s : State), (Instr.levelRepeat src).wellFormed = true →
      ((s.reg (Reg.FLT_ACT + src / 16)).getLsbD (src % 16) = true ∨ levelReports s src = []) →
    Runs (.levelRepeat src) s (fun t => t = s)) ∧
  (∀ s : State, s.sys.crystal = true → Watches 18 s →
    Runs .crystalStop s (fun t =>
      t.sys = { s.sys with crystal := false } ∧ Reported 18 1 clsC s t ∧ BlocksKept reportBlocks s t ∧ MemKept s t)) ∧
  (∀ s : State, s.sys.crystal = false → Runs .crystalStop s (fun t => t = s)) ∧
  (∀ s : State, s.flag .SYS_STAT_LOCKED = true → protCheck s.sys.prot ≠ ew s.sys.prot 13 → Watches 2 s →
    Runs .protMapCheck s (fun t => Reported 2 0 clsF s t ∧ t.isFatal = true ∧ MemKept s t)) ∧
  (∀ s : State, s.flag .SYS_STAT_LOCKED = false ∨ protCheck s.sys.prot = ew s.sys.prot 13 →
    Runs .protMapCheck s (fun t => t = s)) ∧
  (∀ (p : Path) (c : Instr) (s : State), okPath p = true → Admits p Reg.FLT_CLR s → c = .clear p ∨ c = .clearall p →
    Runs c s (fun t =>
      t.reg32 Reg.FLT_FIRST = 0 ∧
      t.reg32 Reg.FLT_LAST = (if s.reg32 Reg.FLT_FIRST = 0 then s.reg32 Reg.FLT_LAST else s.reg32 Reg.FLT_FIRST) ∧
      t.reg64 Reg.FLT_ACT = 0 ∧ t.fld .FLT_STAT_WCLASS = 0 ∧ t.flag .FLT_STAT_OVF = false ∧
      t.flag .FLT_STAT_NEW = s.flag .FLT_STAT_NEW ∧ t.flt.ignored = [] ∧ t.flt.cond = [] ∧
      (c = .clear p → t.fld .FLT_CCNT_COUNT = s.fld .FLT_CCNT_COUNT ∧ t.fld .FLT_UCNT_COUNT = s.fld .FLT_UCNT_COUNT) ∧
      (c = .clearall p → t.fld .FLT_CCNT_COUNT = 0 ∧ t.fld .FLT_UCNT_COUNT = 0) ∧
      (∀ n, n < 6 → t.flag (.LOOP_STAT_RBF n) = false) ∧ (∀ n, n < 6 → LoopShows n t) ∧
      (p = .host → t.host.answer.status = 0) ∧ BlocksKept [1, 2, 5, 7] s t ∧ MemKept s t)) ∧
  (∀ (p : Path) (src param : Nat) (c : Instr) (s : State), okPath p = true → s.served = true → s.mayWrite p 2 = true →
      s.isFatal = true → s.sys.fatal = some (src, param) → src < 64 → c = .clear p ∨ c = .clearall p →
    Runs c s (fun t =>
      (c = .clear p → t.fld .FLT_CCNT_COUNT = s.fld .FLT_CCNT_COUNT ∧ t.fld .FLT_UCNT_COUNT = s.fld .FLT_UCNT_COUNT) ∧
      (c = .clearall p → t.fld .FLT_CCNT_COUNT = 0 ∧ t.fld .FLT_UCNT_COUNT = 0) ∧
      t.reg32 Reg.FLT_FIRST = (if s.reg32 Reg.FLT_FIRST / 65536 % 8 = clsF then s.reg32 Reg.FLT_FIRST
        else src + 256 * (param % 256) + 65536 * clsF) ∧ t.fld .FLT_STAT_WCLASS = 3 ∧
      t.reg64 Reg.FLT_ACT = 2 ^ src ∧ t.isFatal = true ∧ (p = .host → t.host.answer.status = 0) ∧ MemKept s t)) ∧
  (∀ (p : Path) (s : State), okPath p = true → s.served = true → s.mayWrite p 2 = true → s.flt.injPath ≠ some p →
    Runs (.kick p) s (fun t =>
      t.flt.hkaRun = (if p = .host then s.hkaEnabled else s.flt.hkaRun) ∧ (p = .host → t.host.answer.status = 0) ∧
      t = { s with paths := t.paths, host := t.host, flt := { s.flt with hkaRun := t.flt.hkaRun } })) ∧
  (∀ s : State, s.flt.hkaRun = true → Watches 20 s →
    Runs .hostKeepaliveExpire s (fun t =>
      Reported 20 0 clsU s t ∧ t.flag .FLT_STAT_HKAEXP = true ∧ t.flag .PWR_STAT_HWDR = true ∧
      t.flt.hkaRun = false ∧ t.pwr.hostCut = true ∧ MemKept s t)) ∧
  (∀ s : State, s.flt.hkaRun = false → Runs .hostKeepaliveExpire s (fun t => t = s)) ∧
  (∀ (p : Path) (s : State), okPath p = true → Admits p Reg.FLT_INJ s → s.testMode = true →
    Runs (.injectionArm p) s (fun t =>
      t.flt = { s.flt with injPath := some p } ∧ t.flag .FLT_STAT_INJARM = true ∧
      (p = .host → t.host.answer.status = 0) ∧ FieldsKept [.FLT_STAT_INJARM] s t ∧
      t = { s with regs := t.regs, paths := t.paths, host := t.host, flt := t.flt })) ∧
  (∀ (p : Path) (v : Nat) (s : State), (Instr.faultInject p v).wellFormed = true → Admits p Reg.FLT_INJ s →
      (s.testMode = false ∨ v ≠ 0x6E19) →
    Runs (.faultInject p v) s (fun t =>
      (p = .host → t.host.answer.status = stDeny) ∧ t = { s with paths := t.paths, host := t.host })) ∧
  (∀ (p : Path) (src param : Nat) (s : State), okPath p = true → s.served = true → s.mayWrite p 2 = true →
      s.isFatal = false → s.testMode = true → s.flt.injPath = some p → 1 ≤ src → src ≤ 20 → param < 256 →
      Watches src s →
    Runs (.faultInject p (src + 256 * param)) s (fun t =>
      t.flt.injPath = none ∧ t.flag .FLT_STAT_INJARM = false ∧ t.flt.busy = true ∧
      t.fldBit ⟨Reg.FLT_ACT + src / 16, 0, 16⟩ (src % 16) = true ∧
      (s.reg32 Reg.FLT_FIRST = 0 →
        t.reg32 Reg.FLT_FIRST = src + 256 * param + 65536 * belayClass src param + 524288) ∧
      (p = .host → t.host.answer.status = 0) ∧ MemKept s t)) ∧
  (∀ (p : Path) (v : Nat) (s : State), (Instr.faultInject p v).wellFormed = true → s.served = true →
      s.mayWrite p 2 = true → s.isFatal = false → s.testMode = true → s.flt.injPath = some p →
      (v % 64 < 1 ∨ 20 < v % 64 ∨ v / 64 % 4 = 3) →
    Runs (.faultInject p v) s (fun t =>
      t.flt = { s.flt with injPath := none } ∧ t.flag .FLT_STAT_INJARM = false ∧
      (p = .host → t.host.answer.status = stDeny) ∧ FieldsKept [.FLT_STAT_INJARM] s t ∧
      t = { s with regs := t.regs, paths := t.paths, host := t.host, flt := t.flt })) ∧
  (∀ (p : Path) (v : Nat) (s : State), okPath p = true → fits 16 v = true → s.served = true → s.mayWrite p 2 = true →
      s.flt.injPath ≠ some p → (v / 256 ≠ 0xB7 ∨ (v % 16 ≠ 1 ∧ v % 16 ≠ 2 ∧ v % 16 ≠ 3)) →
    Runs (.registerWrite p Reg.FLT_CLR v) s (fun t =>
      (p = .host → t.host.answer.status = stDeny) ∧ t = { s with paths := t.paths, host := t.host })) ∧
  (∀ (param p2 p3 w : Nat) (s : State), (Instr.belayReport 4 param p2 p3).wellFormed = true → param % 128 < 32 →
      p2 < 2048 → belayClass 4 param ≠ clsF → w = 256 * (param % 128) + p2 / 8 →
    Runs (.belayReport 4 param p2 p3) s (fun t =>
      t.wordErr w = some (decide (128 ≤ param)) ∧ t.nvm.store = s.nvm.store ∧ MemKept s t)) ∧
  (∀ (p2 p3 : Nat) (s : State), (Instr.belayReport 5 0x80 p2 p3).wellFormed = true →
    Runs (.belayReport 5 0x80 p2 p3) s (fun t =>
      t.xfer.descrs.all (fun d => !(d.record.isEmpty && d.frames.any (fun f => frameHolds 0 s.ringBlocks f p2))) = true ∧
      MemKept s t)) ∧
  (∀ (p2 p3 : Nat) (s : State), (Instr.belayReport 5 0x81 p2 p3).wellFormed = true →
    Runs (.belayReport 5 0x81 p2 p3) s (fun t =>
      (readAt zeroWord t.tab.result (p2 / 2 * 2)).getLsbD 7 = false ∧
      (∀ k, k ≠ p2 / 2 * 2 → readAt zeroWord t.tab.result k = readAt zeroWord s.tab.result k) ∧ MemKept s t)) ∧
  (∀ (p : Path) (src m param : Nat) (s : State), okPath p = true → s.served = true → s.mayWrite p 2 = true →
      s.isFatal = false → s.testMode = true → s.flt.injPath = some p → 1 ≤ src → src ≤ 20 → param < 256 →
      (m = 1 ∨ m = 2) → Watches 21 s → s.flt.ignored.contains src = false →
    Runs (.faultInject p (src + 64 * m + 256 * param)) s (fun t =>
      t.flt.injPath = none ∧ t.flag .FLT_STAT_INJARM = false ∧ t.flt.busy = true ∧ t.flt.cond = s.flt.cond ∧
      t.flt.ignored = s.flt.ignored ++ [src] ∧ t.fldBit ⟨Reg.FLT_ACT + 1, 0, 16⟩ 5 = true ∧
      (s.reg32 Reg.FLT_FIRST = 0 → t.reg32 Reg.FLT_FIRST =
        21 + 256 * wireParam src (m == 2) + 65536 * belayClass 21 (wireParam src (m == 2)) + 524288) ∧
      (p = .host → t.host.answer.status = 0) ∧ MemKept s t)) ∧
  (∀ (p : Path) (v : Nat) (s : State), okPath p = true → fits 16 v = true → s.served = true → s.mayWrite p 2 = false →
      s.flt.injPath ≠ some p →
    Runs (.registerWrite p Reg.FLT_CLR v) s (fun t =>
      (p = .host → t.host.answer.status = stDeny) ∧ t = { s with paths := t.paths, host := t.host }))

/-- THERMAL_SAMPLE, GRACE_EXPIRE and THERMAL_RELEASE (R654 to R656, R665, R667): the readings of four sound sensors set
THM.T, the highest reading, the warning and the throttle request by their levels, and start or end the grace time; a shutdown
reading twice in a row is fatal, and a sensor ten times out of its condition is broken, which warns and throttles; boot phase 1
samples nothing; the end of the grace puts a running unit into REDUCED and one in bivouac on its way out, unless the cause is
BUDGET; ten cool seconds end the enforcement; and a time that is not running is nothing. That a unit in bivouac begins its exit
unless the cause is BUDGET is the model's reading (log entry 26). -/
def Obligations.TemperatureIsHeld : Prop :=
  (∀ (a b c d hot : Int) (s : State), (Instr.thermalSample a b c d).wellFormed = true → 1 < s.phase →
      s.fld .THM_STAT_BRK = 0 → (List.range 4).all (fun n => !sensorBad [a, b, c, d] [0, 1, 2, 3] n) = true →
      hot = max (max a b) (max c d) → hot < 2320 →
    Runs (.thermalSample a b c d) s (fun t =>
      t.regN (Reg.THM_T 0) = wrap16 a ∧ t.regN (Reg.THM_T 1) = wrap16 b ∧ t.regN (Reg.THM_T 2) = wrap16 c ∧
      t.regN (Reg.THM_T 3) = wrap16 d ∧ t.fld .THM_STAT_BRK = 0 ∧
      t.flag .THM_STAT_WARN = (if 1840 ≤ hot then true else if hot < 1808 then false else s.flag .THM_STAT_WARN) ∧
      t.flag .THM_STAT_REQ = (if 2000 ≤ hot then true else if hot < 1968 then false else s.flag .THM_STAT_REQ) ∧
      (2000 ≤ hot → s.flag .THM_STAT_REQ = false → t.flag .THM_STAT_REQEV = true ∧ t.thm.graceRun = true) ∧
      (hot < 1968 → s.flag .THM_STAT_REQ = true → t.thm.graceRun = false) ∧
      t.thm.coolRun = (s.flag .THM_STAT_ENF && decide (hot < 1840)) ∧
      signed16 (t.regN Reg.THM_MAX) =
        (if s.thm.sampled = true then max (signed16 (s.regN Reg.THM_MAX)) hot else hot) ∧ t.thm.sampled = true ∧
      BlocksKept [1, 6, 9, 10, 11] s t ∧ MemKept s t)) ∧
  (∀ (a b c d : Int) (n : Nat) (s : State), (Instr.thermalSample a b c d).wellFormed = true → Watches 17 s →
      s.fld .THM_STAT_BRK = 0 → (List.range 4).all (fun m => !sensorBad [a, b, c, d] [0, 1, 2, 3] m) = true → n < 4 →
      (∀ m, m < 4 → (2320 ≤ nth 0 [a, b, c, d] m ↔ m = n)) → nth 0 s.thm.hotRuns n = 1 → s.isFatal = false →
      s.thm.hotRuns.length = 4 →
    Runs (.thermalSample a b c d) s (fun t =>
      t.isFatal = true ∧ t.fldBit ⟨Reg.FLT_ACT + 1, 0, 16⟩ 1 = true ∧
      (s.reg32 Reg.FLT_FIRST = 0 → t.reg32 Reg.FLT_FIRST = 17 + 256 * n + 65536 * clsF) ∧
      nth 0 t.thm.hotRuns n = 2 ∧ MemKept s t)) ∧
  (∀ (a b c d : Int) (n : Nat) (s : State), (Instr.thermalSample a b c d).wellFormed = true → Watches 16 s →
      s.fld .THM_STAT_BRK = 0 → n < 4 → max (max a b) (max c d) < 2320 →
      (∀ m, m < 4 → (sensorBad [a, b, c, d] [0, 1, 2, 3] m = true ↔ m = n)) → nth 0 s.thm.badRuns n = 9 →
      s.thm.badRuns.length = 4 →
    Runs (.thermalSample a b c d) s (fun t =>
      t.fld .THM_STAT_BRK = 2 ^ n ∧ t.flag .THM_STAT_WARN = true ∧ t.flag .THM_STAT_REQ = true ∧
      t.thm.coolRun = false ∧ t.fldBit ⟨Reg.FLT_ACT + 1, 0, 16⟩ 0 = true ∧
      (s.reg32 Reg.FLT_FIRST = 0 → t.reg32 Reg.FLT_FIRST = 16 + 256 * n + 65536 * clsU) ∧ MemKept s t)) ∧
  (∀ (a b c d : Int) (s : State), (Instr.thermalSample a b c d).wellFormed = true → s.phase ≤ 1 →
    Runs (.thermalSample a b c d) s (fun t => t = s)) ∧
  (∀ s : State, s.thm.graceRun = true → s.flag .THM_STAT_REQ = true → s.mode = modeActive ∨ s.mode = modeReduced →
    Runs .graceExpire s (fun t =>
      t.flag .THM_STAT_ENF = true ∧ t.flag .SYS_STAT_REDTHERM = true ∧ t.mode = modeReduced ∧
      t.thm = { s.thm with graceRun := false } ∧ MemKept s t)) ∧
  (∀ s : State, s.thm.graceRun = true → s.flag .THM_STAT_REQ = true → s.mode = modeBivouac → s.sys.bivExit = false →
      s.fld .SYS_STAT_BIVC ≠ bivBudget →
    Runs .graceExpire s (fun t =>
      t.flag .THM_STAT_ENF = true ∧ t.flag .SYS_STAT_REDTHERM = true ∧ t.mode = modeBivouac ∧ t.sys.bivExit = true ∧
      t.thm = { s.thm with graceRun := false } ∧ MemKept s t)) ∧
  (∀ s : State, s.thm.graceRun = false ∨ s.flag .THM_STAT_REQ = false → Runs .graceExpire s (fun t => t = s)) ∧
  (∀ s : State, s.thm.coolRun = true → s.flag .THM_STAT_ENF = true → s.mode = modeActive ∨ s.mode = modeReduced →
    Runs .thermalRelease s (fun t =>
      t.flag .THM_STAT_ENF = false ∧ t.flag .SYS_STAT_REDTHERM = false ∧
      (s.flag .SYS_STAT_REDHOST = false → s.flag .SYS_STAT_REDPROF = false → t.mode = modeActive) ∧
      (s.flag .SYS_STAT_REDHOST = true ∨ s.flag .SYS_STAT_REDPROF = true → t.mode = modeReduced) ∧
      t.thm = { s.thm with coolRun := false } ∧ MemKept s t)) ∧
  (∀ s : State, s.thm.coolRun = false ∨ s.flag .THM_STAT_ENF = false → Runs .thermalRelease s (fun t => t = s))

/-! ### The whole machine -/

/-- A step takes the command at the front of the queue and runs it with the queue's rest; with no command waiting the
block idles (log entry 9). -/
def Obligations.StepRunsTheFrontCommand : Prop :=
  (∀ (c : Instr) (s : State), step { s with pending := c :: s.pending } = exec c s) ∧
  (∀ (c : Instr) (rest : List Instr) (s : State), s.pending = c :: rest → step s = exec c { s with pending := rest }) ∧
  (∀ s : State, s.pending = [] → step s = .next s)

/-- Every command whose operands name things that the block has runs to a next state, and no other does: it faults
(log entry 7). -/
def Obligations.EveryWellFormedCommandRuns : Prop :=
  (∀ (c : Instr) (s : State), c.wellFormed = true → ∃ t, exec c s = .next t) ∧
  (∀ (c : Instr) (s : State), c.wellFormed = false → exec c s = .fault .badOperand)

/-- Every step keeps the registers, the on-chip store, the external memory and the capture RAM in their canonical
form: addresses strictly rising, and nothing listed that an unlisted address reads as. -/
def Obligations.MemoriesStayCanonical : Prop :=
  ∀ s t : State, s.memoriesWf = true → step s = .next t → t.memoriesWf = true

/-- At reset no command waits, the memories are canonical and the store reads 0xFF, the unit is neither active nor
fatal and is held by its supply, every loop is fitted and shows the short band, both links are off, no connection is closed, no
burst or lease is held, no fault is latched, staging is idle, no frame has arrived and every team slot is empty (R54, R68, R106,
R173, R226, R581). The model's own readings: log entries 8 and 34. -/
def Obligations.ResetIsAsDescribed : Prop :=
  State.reset.memoriesWf = true ∧ State.reset.pending = [] ∧ State.reset.isActive = false ∧
  State.reset.isFatal = false ∧ State.reset.sys.held = true ∧ State.reset.conns = [] ∧
  State.reset.pwr.granted = [] ∧ State.reset.pwr.waiting = [] ∧ State.reset.reg32 Reg.FLT_FIRST = 0 ∧
  State.reset.reg64 Reg.FLT_ACT = 0 ∧ State.reset.fld .STG_STAT_STATE = stIdle ∧ State.reset.rope.inbox = [] ∧
  (∀ n, n < 6 → State.reset.fitted n = true ∧ State.reset.fld (bandFld n) = bandShort) ∧
  (∀ p, State.reset.link p = linkOff) ∧ (∀ a, State.reset.storeByte a = 0xFF) ∧
  (∀ n, n < 4 → State.reset.teamState n = tsEmpty) ∧ (∀ r : Requester, (State.reset.lease r).state = gIdle)
end

