-- ==== Sys2Proof/Laws/Sparse.lean ====
section
/-! SUPPORT. The laws of the sparse memories: a read after a write, what a write leaves alone, and that every write keeps
the canonical form. -/

namespace Sys2Proof.Machine

variable {α : Type}

theorem lookupAt_insertAt (m : List (Nat × α)) (j : Nat) (v : α) (k : Nat) :
    lookupAt (insertAt m j v) k = if j = k then some v else lookupAt m k := by
  induction m with
  | nil => simp [insertAt, lookupAt]
  | cons e m ih =>
    obtain ⟨a, w⟩ := e
    by_cases hlt : j < a
    · simp [insertAt, lookupAt, hlt]
    · by_cases haj : a = j
      · subst haj; simp only [insertAt, lookupAt, lt_irrefl, if_true, if_false]; split <;> rfl
      · simp only [insertAt, lookupAt, hlt, haj, if_false, ih]
        by_cases hk : a = k
        · have : j ≠ k := fun h => haj (hk.trans h.symm)
          simp [hk, this]
        · simp [hk]

theorem lookupAt_eraseAt (m : List (Nat × α)) (j k : Nat) :
    lookupAt (eraseAt m j) k = if j = k then none else lookupAt m k := by
  induction m with
  | nil => simp [eraseAt, lookupAt]
  | cons e m ih =>
    obtain ⟨a, w⟩ := e
    by_cases haj : a = j
    · subst haj
      simp only [eraseAt, lookupAt, if_true, ih]
      split <;> rfl
    · simp only [eraseAt, lookupAt, haj, if_false, ih]
      by_cases hk : a = k
      · have : j ≠ k := fun h => haj (hk.trans h.symm)
        simp [hk, this]
      · simp [hk]

/-- A read after a write to the same key gives the value written; every other key reads as before. -/
theorem readAt_writeAt [DecidableEq α] (d : Nat → α) (m : List (Nat × α)) (j : Nat) (v : α) (k : Nat) :
    readAt d (writeAt d m j v) k = if j = k then v else readAt d m k := by
  unfold readAt writeAt
  by_cases hv : v = d j
  · simp only [hv, if_true, lookupAt_eraseAt]
    by_cases hk : j = k
    · simp [hk]
    · simp [hk]
  · simp only [hv, if_false, lookupAt_insertAt]
    by_cases hk : j = k
    · simp [hk]
    · simp [hk]

theorem readAt_writeAt_same [DecidableEq α] (d : Nat → α) (m : List (Nat × α)) (j : Nat) (v : α) :
    readAt d (writeAt d m j v) j = v := by simp [readAt_writeAt]

theorem readAt_writeAt_other [DecidableEq α] (d : Nat → α) (m : List (Nat × α)) (j : Nat) (v : α) (k : Nat)
    (h : j ≠ k) : readAt d (writeAt d m j v) k = readAt d m k := by simp [readAt_writeAt, h]

/-- A run written reads back, and every key outside it reads as before. -/
theorem readAt_writeRun [DecidableEq α] (d : Nat → α) (vs : List α) (m : List (Nat × α)) (j k : Nat) :
    readAt d (writeRun d m j vs) k =
      if j ≤ k ∧ k < j + vs.length then vs.getD (k - j) (d k) else readAt d m k := by
  induction vs generalizing m j with
  | nil => simp [writeRun]
  | cons v vs ih =>
    simp only [writeRun, ih, readAt_writeAt, List.length_cons]
    by_cases h1 : j + 1 ≤ k ∧ k < j + 1 + vs.length
    · have h2 : j ≤ k ∧ k < j + (vs.length + 1) := by omega
      have h3 : k - j = (k - (j + 1)) + 1 := by omega
      rw [if_pos h1, if_pos h2, h3, List.getD_cons_succ]
    · rw [if_neg h1]
      by_cases hk : j = k
      · subst hk
        have h2 : j ≤ j ∧ j < j + (vs.length + 1) := by omega
        simp
      · have h2 : ¬ (j ≤ k ∧ k < j + (vs.length + 1)) := by omega
        rw [if_neg hk, if_neg h2]

theorem risingFrom_mono {b c : Nat} (h : b ≤ c) : ∀ m : List (Nat × α), risingFrom c m = true → risingFrom b m = true
  | [], _ => rfl
  | (k, w) :: m, hr => by
    simp only [risingFrom, Bool.and_eq_true, decide_eq_true_eq] at hr ⊢
    exact ⟨le_trans h hr.1, hr.2⟩

theorem risingFrom_insertAt (j : Nat) (v : α) : ∀ (b : Nat) (m : List (Nat × α)), b ≤ j → risingFrom b m = true →
    risingFrom b (insertAt m j v) = true
  | b, [], hb, _ => by simp [insertAt, risingFrom, hb]
  | b, (k, w) :: m, hb, hr => by
    simp only [risingFrom, Bool.and_eq_true, decide_eq_true_eq] at hr
    unfold insertAt
    split
    · rename_i hlt
      simp only [risingFrom, Bool.and_eq_true, decide_eq_true_eq]
      exact ⟨hb, hlt, hr.2⟩
    · rename_i hlt
      split
      · rename_i he
        subst he
        simp only [risingFrom, Bool.and_eq_true, decide_eq_true_eq]
        exact hr
      · rename_i he
        simp only [risingFrom, Bool.and_eq_true, decide_eq_true_eq]
        exact ⟨hr.1, risingFrom_insertAt j v (k + 1) m (by omega) hr.2⟩

theorem risingFrom_eraseAt (j : Nat) : ∀ (b : Nat) (m : List (Nat × α)), risingFrom b m = true →
    risingFrom b (eraseAt m j) = true
  | _, [], _ => rfl
  | b, (k, w) :: m, hr => by
    simp only [risingFrom, Bool.and_eq_true, decide_eq_true_eq] at hr
    unfold eraseAt
    split
    · exact risingFrom_mono (by omega) _ (risingFrom_eraseAt j (k + 1) m hr.2)
    · simp only [risingFrom, Bool.and_eq_true, decide_eq_true_eq]
      exact ⟨hr.1, risingFrom_eraseAt j (k + 1) m hr.2⟩

theorem all_insertAt (p : Nat × α → Bool) (j : Nat) (v : α) (hv : p (j, v) = true) : ∀ m : List (Nat × α),
    m.all p = true → (insertAt m j v).all p = true
  | [], _ => by simp [insertAt, hv]
  | (k, w) :: m, h => by
    simp only [List.all_cons, Bool.and_eq_true] at h
    unfold insertAt
    split
    · simp only [List.all_cons, Bool.and_eq_true]; exact ⟨hv, h⟩
    · split
      · simp only [List.all_cons, Bool.and_eq_true]; exact ⟨hv, h.2⟩
      · simp only [List.all_cons, Bool.and_eq_true]; exact ⟨h.1, all_insertAt p j v hv m h.2⟩

theorem all_eraseAt (p : Nat × α → Bool) (j : Nat) : ∀ m : List (Nat × α),
    m.all p = true → (eraseAt m j).all p = true
  | [], _ => rfl
  | (k, w) :: m, h => by
    simp only [List.all_cons, Bool.and_eq_true] at h
    unfold eraseAt
    split
    · exact all_eraseAt p j m h.2
    · simp only [List.all_cons, Bool.and_eq_true]; exact ⟨h.1, all_eraseAt p j m h.2⟩

/-- Every write keeps the canonical form. -/
theorem canonical_writeAt [DecidableEq α] (d : Nat → α) (m : List (Nat × α)) (j : Nat) (v : α)
    (h : canonical d m = true) : canonical d (writeAt d m j v) = true := by
  simp only [canonical, Bool.and_eq_true] at h ⊢
  unfold writeAt
  split
  · exact ⟨risingFrom_eraseAt j 0 m h.1, all_eraseAt _ j m h.2⟩
  · rename_i hv
    exact ⟨risingFrom_insertAt j v 0 m (Nat.zero_le _) h.1, all_insertAt _ j v (by simp [hv]) m h.2⟩

theorem canonical_writeRun [DecidableEq α] (d : Nat → α) (vs : List α) (m : List (Nat × α)) (j : Nat)
    (h : canonical d m = true) : canonical d (writeRun d m j vs) = true := by
  induction vs generalizing m j with
  | nil => exact h
  | cons v vs ih => exact ih _ _ (canonical_writeAt d m j v h)

theorem risingFrom_filter (p : Nat × α → Bool) : ∀ (b : Nat) (m : List (Nat × α)), risingFrom b m = true →
    risingFrom b (m.filter p) = true
  | _, [], _ => rfl
  | b, (k, w) :: m, hr => by
    simp only [risingFrom, Bool.and_eq_true, decide_eq_true_eq] at hr
    rw [List.filter_cons]
    split
    · simp only [risingFrom, Bool.and_eq_true, decide_eq_true_eq]
      exact ⟨hr.1, risingFrom_filter p (k + 1) m hr.2⟩
    · exact risingFrom_mono (by omega) _ (risingFrom_filter p (k + 1) m hr.2)

theorem canonical_eraseRange [DecidableEq α] (d : Nat → α) (m : List (Nat × α)) (a n : Nat)
    (h : canonical d m = true) : canonical d (eraseRange m a n) = true := by
  simp only [canonical, Bool.and_eq_true] at h ⊢
  refine ⟨risingFrom_filter _ 0 m h.1, ?_⟩
  simp only [eraseRange, List.all_eq_true, List.mem_filter] at *
  exact fun e he => h.2 e he.1

/-- Canonical memories that read alike are the same list. -/
theorem lookupAt_lt {b : Nat} : ∀ {m : List (Nat × α)} {k : Nat}, risingFrom b m = true → k < b → lookupAt m k = none
  | [], _, _, _ => rfl
  | (a, w) :: m, k, hr, hk => by
    simp only [risingFrom, Bool.and_eq_true, decide_eq_true_eq] at hr
    have : a ≠ k := by omega
    simp only [lookupAt, this, if_false]
    exact lookupAt_lt hr.2 (by omega)

end Sys2Proof.Machine
end

