-- ==== Sys2Proof/Laws/Ops.lean ====
section
/-! SUPPORT. The laws of the register operations: what a field reads after a field is written, in the same word or in
another, and what every register operation leaves alone. -/

namespace Sys2Proof.Machine

/-! ### Fields of a word -/

theorem getLsbD_fieldMask (lo width i : Nat) (h : width ≤ 16) :
    (fieldMask lo width).getLsbD i = (decide (i < 16) && decide (lo ≤ i) && decide (i < lo + width)) := by
  simp only [fieldMask, BitVec.getLsbD_shiftLeft, BitVec.getLsbD_ushiftRight, BitVec.getLsbD_allOnes]
  by_cases h1 : i < 16
  · by_cases h2 : lo ≤ i
    · by_cases h3 : i < lo + width
      · have h4 : ¬ i < lo := by omega
        have h5 : 16 - width + (i - lo) < 16 := by omega
        simp [h1, h2, h3, h4, h5]
      · have h4 : ¬ i < lo := by omega
        have h5 : ¬ 16 - width + (i - lo) < 16 := by omega
        simp [h1, h2, h3, h5]
    · have h4 : i < lo := by omega
      simp [h1, h2, h4]
  · simp [h1]

theorem getLsbD_putField (w : Word) (lo width v i : Nat) (h : width ≤ 16) :
    (putField w lo width v).getLsbD i =
      if lo ≤ i ∧ i < lo + width ∧ i < 16 then v.testBit (i - lo) else w.getLsbD i := by
  simp only [putField, BitVec.getLsbD_or, BitVec.getLsbD_and, BitVec.getLsbD_not, getLsbD_fieldMask _ _ _ h,
    BitVec.getLsbD_shiftLeft, BitVec.getLsbD_ofNat]
  by_cases h1 : i < 16
  · by_cases h2 : lo ≤ i
    · by_cases h3 : i < lo + width
      · have : i - lo < 16 := by omega
        have h4 : ¬ i < lo := by omega
        simp [h1, h2, h3, h4, this]
      · have h4 : ¬ i < lo := by omega
        simp [h1, h2, h3]
    · have h4 : i < lo := by omega
      simp [h1, h2]
  · simp [h1, BitVec.getLsbD_of_ge w i (by omega)]

theorem testBit_getField (w : Word) (lo width i : Nat) :
    (getField w lo width).testBit i = (decide (i < width) && w.getLsbD (lo + i)) := by
  simp [getField, BitVec.getLsbD]

theorem getField_lt (w : Word) (lo width : Nat) : getField w lo width < 2 ^ width := by
  unfold getField; exact (w.extractLsb' lo width).isLt

/-- A field reads the value written to it, as far as its width goes. -/
theorem getField_putField_same (w : Word) (lo width v : Nat) (h : lo + width ≤ 16) :
    getField (putField w lo width v) lo width = v % 2 ^ width := by
  apply Nat.eq_of_testBit_eq
  intro i
  rw [testBit_getField, getLsbD_putField _ _ _ _ _ (by omega), Nat.testBit_mod_two_pow]
  by_cases hi : i < width
  · have : lo ≤ lo + i ∧ lo + i < lo + width ∧ lo + i < 16 := by omega
    simp [hi, this]
  · simp [hi]

/-- A field of the same word whose bits are others reads as before. -/
theorem getField_putField_other (w : Word) (lo width v lo' width' : Nat) (h : width ≤ 16)
    (hd : lo' + width' ≤ lo ∨ lo + width ≤ lo') : getField (putField w lo width v) lo' width' = getField w lo' width' := by
  apply Nat.eq_of_testBit_eq
  intro i
  rw [testBit_getField, testBit_getField, getLsbD_putField _ _ _ _ _ h]
  by_cases hi : i < width'
  · have : ¬ (lo ≤ lo' + i ∧ lo' + i < lo + width ∧ lo' + i < 16) := by omega
    simp [hi, this]
  · simp [hi]

/-! ### Registers of the state -/

@[simp] theorem reg_setReg (s : State) (a b : Nat) (w : Word) :
    (s.setReg a w).reg b = if a = b then w else s.reg b := by
  simp [State.reg, State.setReg, readAt_writeAt]

theorem reg_setReg_same (s : State) (a : Nat) (w : Word) : (s.setReg a w).reg a = w := by simp

theorem reg_setReg_other (s : State) (a b : Nat) (w : Word) (h : a ≠ b) : (s.setReg a w).reg b = s.reg b := by
  simp [h]

theorem reg_setFld (s : State) (f : Fld) (v b : Nat) :
    (s.setFld f v).reg b = if f.addr = b then putField (s.reg f.addr) f.lo f.width v else s.reg b := by
  simp [State.setFld]

theorem reg_setFld_other (s : State) (f : Fld) (v b : Nat) (h : f.addr ≠ b) : (s.setFld f v).reg b = s.reg b := by
  simp [reg_setFld, h]

/-- A field reads the value written to it, as far as its width goes. -/
theorem fld_setFld_same (s : State) (f : Fld) (v : Nat) (h : f.lo + f.width ≤ 16) :
    (s.setFld f v).fld f = v % 2 ^ f.width := by
  simp [State.fld, reg_setFld, getField_putField_same _ _ _ _ h]

/-- Fields share no bit. -/
def Fld.apart (f g : Fld) : Bool :=
  f.addr != g.addr || decide (g.lo + g.width ≤ f.lo) || decide (f.lo + f.width ≤ g.lo)

/-- A field that shares no bit with the one written reads as before. -/
theorem fld_setFld_other (s : State) (f g : Fld) (v : Nat) (hw : f.width ≤ 16) (h : f.apart g = true) :
    (s.setFld f v).fld g = s.fld g := by
  simp only [State.fld, reg_setFld]
  split
  · rename_i he
    simp only [Fld.apart, he, bne_self_eq_false, Bool.false_or, Bool.or_eq_true, decide_eq_true_eq] at h
    rw [← he, getField_putField_other _ _ _ _ _ _ hw h]
  · rfl

theorem fld_setReg_other (s : State) (a : Nat) (w : Word) (g : Fld) (h : a ≠ g.addr) :
    (s.setReg a w).fld g = s.fld g := by simp [State.fld, h]

theorem fld_lt (s : State) (f : Fld) : s.fld f < 2 ^ f.width := getField_lt _ _ _

theorem flag_setFlag_same (s : State) (f : Fld) (b : Bool) (h : f.lo + f.width ≤ 16) (hw : f.width = 1) :
    (s.setFlag f b).flag f = b := by
  simp only [State.flag, State.setFlag, fld_setFld_same _ _ _ h, hw]
  cases b <;> rfl

theorem flag_setFlag_other (s : State) (f g : Fld) (b : Bool) (hw : f.width ≤ 16) (h : f.apart g = true) :
    (s.setFlag f b).flag g = s.flag g := by
  simp only [State.flag, State.setFlag, fld_setFld_other _ _ _ _ hw h]

theorem fld_setFlag_other (s : State) (f g : Fld) (b : Bool) (hw : f.width ≤ 16) (h : f.apart g = true) :
    (s.setFlag f b).fld g = s.fld g := by
  simp only [State.setFlag, fld_setFld_other _ _ _ _ hw h]

theorem flag_setFld_other (s : State) (f g : Fld) (v : Nat) (hw : f.width ≤ 16) (h : f.apart g = true) :
    (s.setFld f v).flag g = s.flag g := by
  simp only [State.flag, fld_setFld_other _ _ _ _ hw h]

theorem reg_setFlag (s : State) (f : Fld) (c : Bool) (b : Nat) :
    (s.setFlag f c).reg b = if f.addr = b then putField (s.reg f.addr) f.lo f.width (if c then 1 else 0) else s.reg b := by
  simp [State.setFlag, reg_setFld]

theorem reg_setRegN (s : State) (a v b : Nat) : (s.setRegN a v).reg b = if a = b then word v else s.reg b := by
  simp [State.setRegN]

theorem regN_setRegN_same (s : State) (a v : Nat) : (s.setRegN a v).regN a = v % 65536 := by
  simp [State.regN, State.setRegN, BitVec.toNat_ofNat]

/-! ### What the register operations leave alone -/

/-- Only the register map may differ. -/
theorem setReg_rest (s : State) (a : Nat) (w : Word) : s.setReg a w = { s with regs := (s.setReg a w).regs } := rfl
theorem setFld_rest (s : State) (f : Fld) (v : Nat) : s.setFld f v = { s with regs := (s.setFld f v).regs } := rfl
theorem setFlag_rest (s : State) (f : Fld) (b : Bool) : s.setFlag f b = { s with regs := (s.setFlag f b).regs } := rfl
theorem setRegN_rest (s : State) (a v : Nat) : s.setRegN a v = { s with regs := (s.setRegN a v).regs } := rfl

/-! ### Outcomes -/

theorem answerIf_next {ok : Bool} {t u : State} : answerIf ok t = .next u ↔ ok = true ∧ t = u := by
  cases ok <;> simp [answerIf]

theorem answerIf_true (t : State) : answerIf true t = .next t := rfl

theorem answerIf_fault {ok : Bool} {t : State} : answerIf ok t = .fault .badOperand ↔ ok = false := by
  cases ok <;> simp [answerIf]

/-! ### Folds -/

/-- What one turn keeps, the whole fold keeps. -/
theorem forEach_keeps (P : State → Prop) (f : Nat → State → State) (n : Nat) (s : State) (h : P s)
    (hf : ∀ i t, i < n → P t → P (f i t)) : P (forEach n f s) := by
  unfold forEach
  have key : ∀ (l : List Nat) (t : State), (∀ i ∈ l, i < n) → P t → P (l.foldl (fun t i => f i t) t) := by
    intro l
    induction l with
    | nil => exact fun t _ ht => ht
    | cons i l ih =>
      intro t hl ht
      exact ih _ (fun j hj => hl j (List.mem_cons_of_mem _ hj)) (hf i t (hl i List.mem_cons_self) ht)
  exact key _ s (fun i hi => List.mem_range.mp hi) h

/-- What one turn keeps, the whole fold keeps. -/
theorem forList_keeps {α : Type} (P : State → Prop) (f : α → State → State) (l : List α) (s : State) (h : P s)
    (hf : ∀ x t, x ∈ l → P t → P (f x t)) : P (forList l f s) := by
  unfold forList
  induction l generalizing s with
  | nil => exact h
  | cons x l ih =>
    exact ih _ (hf x s List.mem_cons_self h) (fun y t hy => hf y t (List.mem_cons_of_mem _ hy))

end Sys2Proof.Machine
end

