-- ==== Sys2Proof/Laws/Frames.lean ====
section
/-! SUPPORT. The laws of the frames of Safety.lean: each is reflexive and transitive, a write inside the frame keeps it,
and what touches no register keeps it. -/

namespace Sys2Proof.Machine

theorem FieldsKept.refl (fs : List Fld) (s : State) : FieldsKept fs s s := fun _ _ _ => rfl

theorem FieldsKept.trans {fs : List Fld} {s t u : State} (h : FieldsKept fs s t) (k : FieldsKept fs t u) :
    FieldsKept fs s u := fun a i hf => (k a i hf).trans (h a i hf)

theorem FieldsKept.mono {fs gs : List Fld} {s t : State} (h : FieldsKept fs s t) (hs : ∀ f ∈ fs, f ∈ gs) :
    FieldsKept gs s t := fun a i hf => h a i (fun f hm => hf f (hs f hm))

/-- A state with the same register map is in every frame. -/
theorem FieldsKept.of_regs {fs : List Fld} {s t : State} (h : t.regs = s.regs) : FieldsKept fs s t := by
  intro a i _
  simp [State.reg, h]

theorem FieldsKept.setFld {fs : List Fld} {s t : State} {f : Fld} {v : Nat} (h : FieldsKept fs s t) (hf : f ∈ fs)
    (hw : f.width ≤ 16) : FieldsKept fs s (t.setFld f v) := by
  intro a i hi
  rw [reg_setFld]
  split
  · rename_i he
    have hb := hi f hf he
    rw [getLsbD_putField _ _ _ _ _ hw, if_neg (by omega), he]
    exact h a i hi
  · exact h a i hi

theorem FieldsKept.setFlag {fs : List Fld} {s t : State} {f : Fld} {b : Bool} (h : FieldsKept fs s t) (hf : f ∈ fs)
    (hw : f.width ≤ 16) : FieldsKept fs s (t.setFlag f b) := h.setFld hf hw

theorem FieldsKept.setReg {fs : List Fld} {s t : State} {a : Nat} {w : Word} (h : FieldsKept fs s t)
    (hf : wholeReg a ∈ fs) : FieldsKept fs s (t.setReg a w) := by
  intro b i hi
  rw [reg_setReg]
  split
  · rename_i he
    have hb := hi _ hf he
    rw [BitVec.getLsbD_of_ge _ _ (by simp only [Nat.zero_add] at hb; omega), BitVec.getLsbD_of_ge _ _ (by
      simp only [Nat.zero_add] at hb; omega)]
  · exact h b i hi

theorem FieldsKept.setRegN {fs : List Fld} {s t : State} {a v : Nat} (h : FieldsKept fs s t)
    (hf : wholeReg a ∈ fs) : FieldsKept fs s (t.setRegN a v) := h.setReg hf

theorem FieldsKept.setReg32 {fs : List Fld} {s t : State} {a v : Nat} (h : FieldsKept fs s t)
    (h0 : wholeReg a ∈ fs) (h1 : wholeReg (a + 1) ∈ fs) : FieldsKept fs s (t.setReg32 a v) :=
  (h.setRegN h0).setRegN h1

/-- A word none of whose bits lies in the frame's fields reads as before. -/
theorem FieldsKept.reg {fs : List Fld} {s t : State} (h : FieldsKept fs s t) {a : Nat} (ha : ∀ f ∈ fs, f.addr ≠ a) :
    t.reg a = s.reg a := by
  apply BitVec.eq_of_getLsbD_eq
  intro i _
  exact h a i (fun f hf he => absurd he (ha f hf))

/-- A field apart from every field of the frame reads as before. -/
theorem FieldsKept.fld {fs : List Fld} {s t : State} (h : FieldsKept fs s t) {g : Fld}
    (hg : fs.all (fun f => f.apart g) = true) : t.fld g = s.fld g := by
  apply Nat.eq_of_testBit_eq
  intro i
  simp only [State.fld, testBit_getField]
  by_cases hi : i < g.width
  · simp only [hi, decide_true, Bool.true_and]
    apply h
    intro f hf he
    have := List.all_eq_true.mp hg f hf
    simp only [Fld.apart, he, bne_self_eq_false, Bool.false_or, Bool.or_eq_true, decide_eq_true_eq] at this
    omega
  · simp [hi]

theorem FieldsKept.flag {fs : List Fld} {s t : State} (h : FieldsKept fs s t) {g : Fld}
    (hg : fs.all (fun f => f.apart g) = true) : t.flag g = s.flag g := by
  simp only [State.flag, h.fld hg]

theorem FieldsKept.forEach {fs : List Fld} {s t : State} {n : Nat} {f : Nat → State → State} (h : FieldsKept fs s t)
    (hf : ∀ i u, i < n → FieldsKept fs s u → FieldsKept fs s (f i u)) :
    FieldsKept fs s (Sys2Proof.Machine.forEach n f t) := forEach_keeps _ f n t h hf

theorem FieldsKept.forList {α : Type} {fs : List Fld} {s t : State} {l : List α} {f : α → State → State}
    (h : FieldsKept fs s t) (hf : ∀ x u, x ∈ l → FieldsKept fs s u → FieldsKept fs s (f x u)) :
    FieldsKept fs s (Sys2Proof.Machine.forList l f t) := forList_keeps _ f l t h hf

theorem MemKept.refl (s : State) : MemKept s s := ⟨fun _ => rfl, fun _ => rfl, fun _ => rfl⟩

theorem MemKept.trans {s t u : State} (h : MemKept s t) (k : MemKept t u) : MemKept s u :=
  ⟨fun a => (k.1 a).trans (h.1 a), fun a => (k.2.1 a).trans (h.2.1 a), fun a => (k.2.2 a).trans (h.2.2 a)⟩

/-- A state with the same three memories keeps every byte. -/
theorem MemKept.of_eq {s t : State} (h1 : t.nvm.store = s.nvm.store) (h2 : t.xfer.mem = s.xfer.mem)
    (h3 : t.xfer.ram = s.xfer.ram) : MemKept s t := by
  refine ⟨fun a => ?_, fun a => ?_, fun a => ?_⟩
  · simp [State.storeByte, h1]
  · simp [State.memByte, h2]
  · simp [State.captureByte, h3]

theorem BlocksKept.refl (bs : List Nat) (s : State) : BlocksKept bs s s := fun _ _ => rfl

theorem BlocksKept.trans {bs : List Nat} {s t u : State} (h : BlocksKept bs s t) (k : BlocksKept bs t u) :
    BlocksKept bs s u := fun a ha => (k a ha).trans (h a ha)

/-- A frame of fields whose words all lie in the blocks is a frame of blocks. -/
theorem FieldsKept.blocks {fs : List Fld} {bs : List Nat} {s t : State} (h : FieldsKept fs s t)
    (hb : ∀ f ∈ fs, blockOf f.addr ∈ bs) : BlocksKept bs s t := by
  intro a ha
  exact h.reg (fun f hf he => ha (he ▸ hb f hf))

end Sys2Proof.Machine
end

