-- ==== Sys2Proof/Laws/PerInstr.lean ====
section
/-! SUPPORT. What every command's meaning answers, command by command: a next state, or the fault of an operand that
names nothing the block has (log entry 7); never a refusal. -/

namespace Sys2Proof.Laws

/-- A guarded meaning answers its state or the fault. -/
theorem answerIf_or (b : Bool) (t : Machine.State) :
    Machine.answerIf b t = .fault .badOperand ∨ ∃ u, Machine.answerIf b t = .next u := by
  cases b
  · exact .inl rfl
  · exact .inr ⟨t, rfl⟩

/-- In every state the command's meaning answers a next state or the operand fault. -/
def Operand.Statement (i : Instr) : Prop :=
  ∀ s, Machine.exec i s = .fault .badOperand ∨ ∃ t, Machine.exec i s = .next t

theorem Operand.porAssert : Operand.Statement .porAssert :=
  fun _ => .inr ⟨_, rfl⟩

theorem Operand.porRelease : Operand.Statement .porRelease :=
  fun _ => .inr ⟨_, rfl⟩

theorem Operand.borAssert : Operand.Statement .borAssert :=
  fun _ => .inr ⟨_, rfl⟩

theorem Operand.borRelease : Operand.Statement .borRelease :=
  fun _ => .inr ⟨_, rfl⟩

theorem Operand.xrstAssert : ∀ x0, Operand.Statement (.xrstAssert x0) :=
  fun _ _ => .inr ⟨_, rfl⟩

theorem Operand.xrstRelease : Operand.Statement .xrstRelease :=
  fun _ => .inr ⟨_, rfl⟩

theorem Operand.watchdogExpire : Operand.Statement .watchdogExpire :=
  fun _ => .inr ⟨_, rfl⟩

theorem Operand.softwareReset : ∀ x0 x1, Operand.Statement (.softwareReset x0 x1) :=
  fun _ _ _ => answerIf_or _ _

theorem Operand.bootOscillator : ∀ x0 x1 x2, Operand.Statement (.bootOscillator x0 x1 x2) :=
  fun _ _ _ _ => answerIf_or _ _

theorem Operand.bootHeaders : ∀ x0 x1, Operand.Statement (.bootHeaders x0 x1) :=
  fun _ _ _ => answerIf_or _ _

theorem Operand.bootImageCheck : Operand.Statement .bootImageCheck :=
  fun _ => .inr ⟨_, rfl⟩

theorem Operand.bootScan : Operand.Statement .bootScan :=
  fun _ => .inr ⟨_, rfl⟩

theorem Operand.bootApply : Operand.Statement .bootApply :=
  fun _ => .inr ⟨_, rfl⟩

theorem Operand.protectionLock : Operand.Statement .protectionLock :=
  fun _ => .inr ⟨_, rfl⟩

theorem Operand.bootReferenceWait : Operand.Statement .bootReferenceWait :=
  fun _ => .inr ⟨_, rfl⟩

theorem Operand.enterActive : ∀ x0, Operand.Statement (.enterActive x0) :=
  fun _ _ => .inr ⟨_, rfl⟩

theorem Operand.protMapCheck : Operand.Statement .protMapCheck :=
  fun _ => .inr ⟨_, rfl⟩

theorem Operand.leaveHarvest : ∀ x0, Operand.Statement (.leaveHarvest x0) :=
  fun _ _ => answerIf_or _ _

theorem Operand.liftProbe : ∀ x0 x1, Operand.Statement (.liftProbe x0 x1) :=
  fun _ _ _ => answerIf_or _ _

theorem Operand.budgetRecompute : ∀ x0, Operand.Statement (.budgetRecompute x0) :=
  fun _ _ => answerIf_or _ _

theorem Operand.leaseWithdrawDeadline : ∀ x0, Operand.Statement (.leaseWithdrawDeadline x0) :=
  fun _ _ => answerIf_or _ _

theorem Operand.leaseLevelReached : ∀ x0, Operand.Statement (.leaseLevelReached x0) :=
  fun _ _ => answerIf_or _ _

theorem Operand.leaseRequest : ∀ x0 x1, Operand.Statement (.leaseRequest x0 x1) :=
  fun _ _ _ => answerIf_or _ _

theorem Operand.dischargeConverterOn : Operand.Statement .dischargeConverterOn :=
  fun _ => .inr ⟨_, rfl⟩

theorem Operand.shedStep : ∀ x0, Operand.Statement (.shedStep x0) :=
  fun _ _ => .inr ⟨_, rfl⟩

theorem Operand.shuntFailDetect : Operand.Statement .shuntFailDetect :=
  fun _ => .inr ⟨_, rfl⟩

theorem Operand.shedReturn : Operand.Statement .shedReturn :=
  fun _ => .inr ⟨_, rfl⟩

theorem Operand.storeMeasurement : ∀ x0, Operand.Statement (.storeMeasurement x0) :=
  fun _ _ => answerIf_or _ _

theorem Operand.powerFail : Operand.Statement .powerFail :=
  fun _ => .inr ⟨_, rfl⟩

theorem Operand.burstRequest : ∀ x0 x1, Operand.Statement (.burstRequest x0 x1) :=
  fun _ _ _ => answerIf_or _ _

theorem Operand.xmemCreditTimeout : Operand.Statement .xmemCreditTimeout :=
  fun _ => .inr ⟨_, rfl⟩

theorem Operand.vauxPresent : Operand.Statement .vauxPresent :=
  fun _ => .inr ⟨_, rfl⟩

theorem Operand.vauxAbsent : Operand.Statement .vauxAbsent :=
  fun _ => .inr ⟨_, rfl⟩

theorem Operand.profileChange : Operand.Statement .profileChange :=
  fun _ => .inr ⟨_, rfl⟩

theorem Operand.hostpWrite : ∀ x0 x1, Operand.Statement (.hostpWrite x0 x1) :=
  fun _ _ _ => answerIf_or _ _

theorem Operand.hostOverdraw : ∀ x0, Operand.Statement (.hostOverdraw x0) :=
  fun _ _ => answerIf_or _ _

theorem Operand.hostSupplyCut : ∀ x0, Operand.Statement (.hostSupplyCut x0) :=
  fun _ _ => answerIf_or _ _

theorem Operand.hostSupplyRestore : Operand.Statement .hostSupplyRestore :=
  fun _ => .inr ⟨_, rfl⟩

theorem Operand.vddaWarn : ∀ x0, Operand.Statement (.vddaWarn x0) :=
  fun _ _ => answerIf_or _ _

theorem Operand.dipRecoveryConfirm : Operand.Statement .dipRecoveryConfirm :=
  fun _ => .inr ⟨_, rfl⟩

theorem Operand.setRedreq : ∀ x0, Operand.Statement (.setRedreq x0) :=
  fun _ _ => answerIf_or _ _

theorem Operand.clearRedreq : ∀ x0, Operand.Statement (.clearRedreq x0) :=
  fun _ _ => answerIf_or _ _

theorem Operand.setBivreq : ∀ x0, Operand.Statement (.setBivreq x0) :=
  fun _ _ => answerIf_or _ _

theorem Operand.clearBivreq : ∀ x0, Operand.Statement (.clearBivreq x0) :=
  fun _ _ => answerIf_or _ _

theorem Operand.bivouacStandstill : Operand.Statement .bivouacStandstill :=
  fun _ => .inr ⟨_, rfl⟩

theorem Operand.bivouacExit : ∀ x0, Operand.Statement (.bivouacExit x0) :=
  fun _ _ => .inr ⟨_, rfl⟩

theorem Operand.bivouacResume : Operand.Statement .bivouacResume :=
  fun _ => .inr ⟨_, rfl⟩

theorem Operand.xclrAssert : ∀ x0, Operand.Statement (.xclrAssert x0) :=
  fun _ _ => .inr ⟨_, rfl⟩

theorem Operand.xclrRelease : Operand.Statement .xclrRelease :=
  fun _ => .inr ⟨_, rfl⟩

theorem Operand.hostReadFrame : ∀ x0, Operand.Statement (.hostReadFrame x0) :=
  fun _ _ => answerIf_or _ _

theorem Operand.hostWriteFrame : ∀ x0, Operand.Statement (.hostWriteFrame x0) :=
  fun _ _ => answerIf_or _ _

theorem Operand.hostNopFrame : ∀ x0 x1, Operand.Statement (.hostNopFrame x0 x1) :=
  fun _ _ _ => answerIf_or _ _

theorem Operand.hostFrameAbort : ∀ x0, Operand.Statement (.hostFrameAbort x0) :=
  fun _ _ => answerIf_or _ _

theorem Operand.remoteAccessTimeout : Operand.Statement .remoteAccessTimeout :=
  fun _ => .inr ⟨_, rfl⟩

theorem Operand.registerWrite : ∀ x0 x1 x2, Operand.Statement (.registerWrite x0 x1 x2) :=
  fun _ _ _ _ => answerIf_or _ _

theorem Operand.readClear : ∀ x0 x1, Operand.Statement (.readClear x0 x1) :=
  fun _ _ _ => answerIf_or _ _

theorem Operand.windowSpaceWrite : ∀ x0 x1 x2, Operand.Statement (.windowSpaceWrite x0 x1 x2) :=
  fun _ _ _ _ => answerIf_or _ _

theorem Operand.windowDataAccess : ∀ x0 x1 x2, Operand.Statement (.windowDataAccess x0 x1 x2) := by
  intros; intro s; simp only [Machine.exec, Machine.execWindowDataAccess]; repeat' (first | exact .inr ⟨_, rfl⟩ | exact .inl rfl | exact answerIf_or _ _ | split)

theorem Operand.windowIdleClose : ∀ x0, Operand.Statement (.windowIdleClose x0) :=
  fun _ _ => answerIf_or _ _

theorem Operand.commit : ∀ x0 x1, Operand.Statement (.commit x0 x1) :=
  fun _ _ _ => answerIf_or _ _

theorem Operand.check : ∀ x0 x1, Operand.Statement (.check x0 x1) :=
  fun _ _ _ => answerIf_or _ _

theorem Operand.discard : ∀ x0, Operand.Statement (.discard x0) :=
  fun _ _ => answerIf_or _ _

theorem Operand.checkListEnd : Operand.Statement .checkListEnd :=
  fun _ => .inr ⟨_, rfl⟩

theorem Operand.commitInstant : Operand.Statement .commitInstant :=
  fun _ => .inr ⟨_, rfl⟩

theorem Operand.bankCopyDone : ∀ x0, Operand.Statement (.bankCopyDone x0) :=
  fun _ _ => .inr ⟨_, rfl⟩

theorem Operand.angleAdvance : ∀ x0, Operand.Statement (.angleAdvance x0) :=
  fun _ _ => .inr ⟨_, rfl⟩

theorem Operand.indexEdge : ∀ x0, Operand.Statement (.indexEdge x0) :=
  fun _ _ => .inr ⟨_, rfl⟩

theorem Operand.toothEdge : ∀ x0, Operand.Statement (.toothEdge x0) :=
  fun _ _ => .inr ⟨_, rfl⟩

theorem Operand.quadCount : ∀ x0 x1 x2, Operand.Statement (.quadCount x0 x1 x2) :=
  fun _ _ _ _ => .inr ⟨_, rfl⟩

theorem Operand.mainsCrossing : Operand.Statement .mainsCrossing :=
  fun _ => .inr ⟨_, rfl⟩

theorem Operand.angleLoss : Operand.Statement .angleLoss :=
  fun _ => .inr ⟨_, rfl⟩

theorem Operand.speedStop : Operand.Statement .speedStop :=
  fun _ => .inr ⟨_, rfl⟩

theorem Operand.beaconLoss : Operand.Statement .beaconLoss :=
  fun _ => .inr ⟨_, rfl⟩

theorem Operand.beaconSend : Operand.Statement .beaconSend :=
  fun _ => .inr ⟨_, rfl⟩

theorem Operand.beaconReceive : ∀ x0 x1, Operand.Statement (.beaconReceive x0 x1) :=
  fun _ _ _ => answerIf_or _ _

theorem Operand.beaconApply : Operand.Statement .beaconApply :=
  fun _ => .inr ⟨_, rfl⟩

theorem Operand.timeTrigger : ∀ x0, Operand.Statement (.timeTrigger x0) :=
  fun _ _ => answerIf_or _ _

theorem Operand.afterTrigger : ∀ x0, Operand.Statement (.afterTrigger x0) :=
  fun _ _ => answerIf_or _ _

theorem Operand.windowSetup : ∀ x0, Operand.Statement (.windowSetup x0) :=
  fun _ _ => answerIf_or _ _

theorem Operand.settleEnd : ∀ x0, Operand.Statement (.settleEnd x0) :=
  fun _ _ => answerIf_or _ _

theorem Operand.timeWindowEnd : ∀ x0, Operand.Statement (.timeWindowEnd x0) :=
  fun _ _ => answerIf_or _ _

theorem Operand.windowLimit : ∀ x0, Operand.Statement (.windowLimit x0) :=
  fun _ _ => answerIf_or _ _

theorem Operand.halfWindowExchange : ∀ x0, Operand.Statement (.halfWindowExchange x0) :=
  fun _ _ => answerIf_or _ _

theorem Operand.resultWrite : ∀ x0 x1 x2, Operand.Statement (.resultWrite x0 x1 x2) :=
  fun _ _ _ _ => answerIf_or _ _

theorem Operand.complianceLoss : ∀ x0, Operand.Statement (.complianceLoss x0) :=
  fun _ _ => answerIf_or _ _

theorem Operand.excOvercurrent : ∀ x0, Operand.Statement (.excOvercurrent x0) :=
  fun _ _ => answerIf_or _ _

theorem Operand.excApplicationPoint : ∀ x0, Operand.Statement (.excApplicationPoint x0) :=
  fun _ _ => answerIf_or _ _

theorem Operand.excReconnect : ∀ x0, Operand.Statement (.excReconnect x0) :=
  fun _ _ => answerIf_or _ _

theorem Operand.sliceForce : ∀ x0 x1 x2, Operand.Statement (.sliceForce x0 x1 x2) :=
  fun _ _ _ _ => answerIf_or _ _

theorem Operand.sliceDirectWrite : ∀ x0 x1, Operand.Statement (.sliceDirectWrite x0 x1) :=
  fun _ _ _ => answerIf_or _ _

theorem Operand.urgentRequest : ∀ x0 x1, Operand.Statement (.urgentRequest x0 x1) :=
  fun _ _ _ => answerIf_or _ _

theorem Operand.urgentStart : Operand.Statement .urgentStart :=
  fun _ => .inr ⟨_, rfl⟩

theorem Operand.sequencerStart : ∀ x0, Operand.Statement (.sequencerStart x0) :=
  fun _ _ => answerIf_or _ _

theorem Operand.sequencerStop : ∀ x0, Operand.Statement (.sequencerStop x0) :=
  fun _ _ => answerIf_or _ _

theorem Operand.clrcnt : ∀ x0, Operand.Statement (.clrcnt x0) :=
  fun _ _ => answerIf_or _ _

theorem Operand.topoScrub : ∀ x0, Operand.Statement (.topoScrub x0) :=
  fun _ _ => answerIf_or _ _

theorem Operand.refReady : Operand.Statement .refReady :=
  fun _ => .inr ⟨_, rfl⟩

theorem Operand.refMonitor : ∀ x0, Operand.Statement (.refMonitor x0) :=
  fun _ _ => .inr ⟨_, rfl⟩

theorem Operand.refioRangeError : Operand.Statement .refioRangeError :=
  fun _ => .inr ⟨_, rfl⟩

theorem Operand.calPeriodExpire : ∀ x0, Operand.Statement (.calPeriodExpire x0) :=
  fun _ _ => answerIf_or _ _

theorem Operand.swingLeadBegin : Operand.Statement .swingLeadBegin :=
  fun _ => .inr ⟨_, rfl⟩

theorem Operand.calibrationComplete : ∀ x0 x1, Operand.Statement (.calibrationComplete x0 x1) :=
  fun _ _ _ => answerIf_or _ _

theorem Operand.coefScrub : ∀ x0, Operand.Statement (.coefScrub x0) :=
  fun _ _ => answerIf_or _ _

theorem Operand.save : ∀ x0, Operand.Statement (.save x0) :=
  fun _ _ => answerIf_or _ _

theorem Operand.syszero : ∀ x0 x1 x2, Operand.Statement (.syszero x0 x1 x2) :=
  fun _ _ _ _ => answerIf_or _ _

theorem Operand.sysfull : ∀ x0 x1 x2, Operand.Statement (.sysfull x0 x1 x2) :=
  fun _ _ _ _ => answerIf_or _ _

theorem Operand.syscalPointDone : ∀ x0 x1 x2, Operand.Statement (.syscalPointDone x0 x1 x2) :=
  fun _ _ _ _ => answerIf_or _ _

theorem Operand.now : ∀ x0 x1, Operand.Statement (.now x0 x1) :=
  fun _ _ _ => answerIf_or _ _

theorem Operand.retest : ∀ x0 x1, Operand.Statement (.retest x0 x1) :=
  fun _ _ _ => answerIf_or _ _

theorem Operand.reload : ∀ x0, Operand.Statement (.reload x0) :=
  fun _ _ => answerIf_or _ _

theorem Operand.factory : ∀ x0, Operand.Statement (.factory x0) :=
  fun _ _ => answerIf_or _ _

theorem Operand.engineCycleStart : ∀ x0, Operand.Statement (.engineCycleStart x0) :=
  fun _ _ => answerIf_or _ _

theorem Operand.engineCycleEnd : ∀ x0 x1 x2, Operand.Statement (.engineCycleEnd x0 x1 x2) :=
  fun _ _ _ _ => answerIf_or _ _

theorem Operand.twinStorageCheck : ∀ x0, Operand.Statement (.twinStorageCheck x0) :=
  fun _ _ => answerIf_or _ _

theorem Operand.charScrub : ∀ x0, Operand.Statement (.charScrub x0) :=
  fun _ _ => answerIf_or _ _

theorem Operand.fvtmoExpire : ∀ x0, Operand.Statement (.fvtmoExpire x0) :=
  fun _ _ => answerIf_or _ _

theorem Operand.loopFixedWrite : ∀ x0 x1 x2, Operand.Statement (.loopFixedWrite x0 x1 x2) :=
  fun _ _ _ _ => answerIf_or _ _

theorem Operand.readbackWindowEnd : ∀ x0 x1 x2, Operand.Statement (.readbackWindowEnd x0 x1 x2) :=
  fun _ _ _ _ => answerIf_or _ _

theorem Operand.lowvDetect : ∀ x0, Operand.Statement (.lowvDetect x0) :=
  fun _ _ => answerIf_or _ _

theorem Operand.lowvClear : ∀ x0, Operand.Statement (.lowvClear x0) :=
  fun _ _ => answerIf_or _ _

theorem Operand.lvtmoExpire : ∀ x0, Operand.Statement (.lvtmoExpire x0) :=
  fun _ _ => answerIf_or _ _

theorem Operand.lvalmRetry : ∀ x0, Operand.Statement (.lvalmRetry x0) :=
  fun _ _ => answerIf_or _ _

theorem Operand.fskFrameReceive : ∀ x0 x1, Operand.Statement (.fskFrameReceive x0 x1) :=
  fun _ _ _ => answerIf_or _ _

theorem Operand.fskFrameAbort : ∀ x0, Operand.Statement (.fskFrameAbort x0) :=
  fun _ _ => answerIf_or _ _

theorem Operand.messagePost : ∀ x0 x1 x2, Operand.Statement (.messagePost x0 x1 x2) :=
  fun _ _ _ _ => answerIf_or _ _

theorem Operand.messageDrop : ∀ x0 x1 x2, Operand.Statement (.messageDrop x0 x1 x2) :=
  fun _ _ _ _ => answerIf_or _ _

theorem Operand.responseSent : ∀ x0, Operand.Statement (.responseSent x0) :=
  fun _ _ => answerIf_or _ _

theorem Operand.messageExpire : ∀ x0 x1, Operand.Statement (.messageExpire x0 x1) :=
  fun _ _ _ => answerIf_or _ _

theorem Operand.burstFrameSend : ∀ x0 x1, Operand.Statement (.burstFrameSend x0 x1) :=
  fun _ _ _ => answerIf_or _ _

theorem Operand.readWords : ∀ x0 x1 x2 x3, Operand.Statement (.readWords x0 x1 x2 x3) :=
  fun _ _ _ _ _ => answerIf_or _ _

theorem Operand.writeWords : ∀ x0 x1 x2 x3, Operand.Statement (.writeWords x0 x1 x2 x3) :=
  fun _ _ _ _ _ => answerIf_or _ _

theorem Operand.linkLoss : ∀ x0, Operand.Statement (.linkLoss x0) :=
  fun _ _ => .inr ⟨_, rfl⟩

theorem Operand.helloSend : ∀ x0, Operand.Statement (.helloSend x0) :=
  fun _ _ => .inr ⟨_, rfl⟩

theorem Operand.helloReceive : ∀ x0 x1, Operand.Statement (.helloReceive x0 x1) :=
  fun _ _ _ => answerIf_or _ _

theorem Operand.linkResetEnd : ∀ x0, Operand.Statement (.linkResetEnd x0) :=
  fun _ _ => .inr ⟨_, rfl⟩

theorem Operand.frameReceive : ∀ x0 x1 x2, Operand.Statement (.frameReceive x0 x1 x2) :=
  fun _ _ _ _ => .inr ⟨_, rfl⟩

theorem Operand.frameTransmitStart : ∀ x0, Operand.Statement (.frameTransmitStart x0) :=
  fun _ _ => .inr ⟨_, rfl⟩

theorem Operand.credit : ∀ x0 x1 x2 x3, Operand.Statement (.credit x0 x1 x2 x3) :=
  fun _ _ _ _ _ => answerIf_or _ _

theorem Operand.creditReturnTimeout : ∀ x0, Operand.Statement (.creditReturnTimeout x0) :=
  fun _ _ => .inr ⟨_, rfl⟩

theorem Operand.creditSync : ∀ x0, Operand.Statement (.creditSync x0) :=
  fun _ _ => .inr ⟨_, rfl⟩

theorem Operand.rd : ∀ x0 x1 x2 x3, Operand.Statement (.rd x0 x1 x2 x3) :=
  fun _ _ _ _ _ => answerIf_or _ _

theorem Operand.wr : ∀ x0 x1 x2 x3 x4, Operand.Statement (.wr x0 x1 x2 x3 x4) :=
  fun _ _ _ _ _ _ => answerIf_or _ _

theorem Operand.rsp : ∀ x0 x1 x2 x3, Operand.Statement (.rsp x0 x1 x2 x3) :=
  fun _ _ _ _ _ => answerIf_or _ _

theorem Operand.teamWriteTimeout : Operand.Statement .teamWriteTimeout :=
  fun _ => .inr ⟨_, rfl⟩

theorem Operand.headTakeover : Operand.Statement .headTakeover :=
  fun _ => .inr ⟨_, rfl⟩

theorem Operand.query : ∀ x0, Operand.Statement (.query x0) :=
  fun _ _ => answerIf_or _ _

theorem Operand.report : ∀ x0 x1 x2, Operand.Statement (.report x0 x1 x2) :=
  fun _ _ _ _ => answerIf_or _ _

theorem Operand.assign : ∀ x0 x1 x2 x3 x4, Operand.Statement (.assign x0 x1 x2 x3 x4) :=
  fun _ _ _ _ _ _ => answerIf_or _ _

theorem Operand.done : ∀ x0 x1, Operand.Statement (.done x0 x1) :=
  fun _ _ _ => answerIf_or _ _

theorem Operand.finish : Operand.Statement .finish :=
  fun _ => .inr ⟨_, rfl⟩

theorem Operand.reattach : ∀ x0, Operand.Statement (.reattach x0) :=
  fun _ _ => answerIf_or _ _

theorem Operand.dlyProbe : Operand.Statement .dlyProbe :=
  fun _ => .inr ⟨_, rfl⟩

theorem Operand.dlyEcho : Operand.Statement .dlyEcho :=
  fun _ => .inr ⟨_, rfl⟩

theorem Operand.dlyEchoReceive : ∀ x0, Operand.Statement (.dlyEchoReceive x0) :=
  fun _ _ => .inr ⟨_, rfl⟩

theorem Operand.rst : ∀ x0 x1 x2 x3, Operand.Statement (.rst x0 x1 x2 x3) :=
  fun _ _ _ _ _ => answerIf_or _ _

theorem Operand.wake : ∀ x0 x1 x2, Operand.Statement (.wake x0 x1 x2) :=
  fun _ _ _ _ => answerIf_or _ _

theorem Operand.evt : ∀ x0 x1, Operand.Statement (.evt x0 x1) :=
  fun _ _ _ => answerIf_or _ _

theorem Operand.define : ∀ x0 x1 x2 x3, Operand.Statement (.define x0 x1 x2 x3) :=
  fun _ _ _ _ _ => answerIf_or _ _

theorem Operand.delete : ∀ x0 x1, Operand.Statement (.delete x0 x1) :=
  fun _ _ _ => answerIf_or _ _

theorem Operand.teamRegister : ∀ x0 x1 x2, Operand.Statement (.teamRegister x0 x1 x2) :=
  fun _ _ _ _ => answerIf_or _ _

theorem Operand.deregister : ∀ x0 x1, Operand.Statement (.deregister x0 x1) :=
  fun _ _ _ => answerIf_or _ _

theorem Operand.expand : ∀ x0 x1, Operand.Statement (.expand x0 x1) :=
  fun _ _ _ => answerIf_or _ _

theorem Operand.join : ∀ x0 x1, Operand.Statement (.join x0 x1) :=
  fun _ _ _ => answerIf_or _ _

theorem Operand.leave : ∀ x0 x1, Operand.Statement (.leave x0 x1) :=
  fun _ _ _ => answerIf_or _ _

theorem Operand.teamPoll : ∀ x0, Operand.Statement (.teamPoll x0) :=
  fun _ _ => answerIf_or _ _

theorem Operand.summary : ∀ x0 x1 x2, Operand.Statement (.summary x0 x1 x2) :=
  fun _ _ _ _ => answerIf_or _ _

theorem Operand.teamMemberTimeout : ∀ x0 x1, Operand.Statement (.teamMemberTimeout x0 x1) :=
  fun _ _ _ => answerIf_or _ _

theorem Operand.teamCommit : ∀ x0 x1 x2, Operand.Statement (.teamCommit x0 x1 x2) :=
  fun _ _ _ _ => answerIf_or _ _

theorem Operand.cancel : ∀ x0 x1, Operand.Statement (.cancel x0 x1) :=
  fun _ _ _ => answerIf_or _ _

theorem Operand.prepare : ∀ x0 x1 x2 x3 x4 x5, Operand.Statement (.prepare x0 x1 x2 x3 x4 x5) :=
  fun _ _ _ _ _ _ _ => answerIf_or _ _

theorem Operand.vote : ∀ x0 x1 x2 x3 x4, Operand.Statement (.vote x0 x1 x2 x3 x4) :=
  fun _ _ _ _ _ _ => answerIf_or _ _

theorem Operand.voteTimeout : ∀ x0, Operand.Statement (.voteTimeout x0) :=
  fun _ _ => answerIf_or _ _

theorem Operand.commitResend : ∀ x0, Operand.Statement (.commitResend x0) :=
  fun _ _ => answerIf_or _ _

theorem Operand.teamOutcome : ∀ x0, Operand.Statement (.teamOutcome x0) :=
  fun _ _ => answerIf_or _ _

theorem Operand.teamCommitReceive : ∀ x0 x1 x2, Operand.Statement (.teamCommitReceive x0 x1 x2) :=
  fun _ _ _ _ => answerIf_or _ _

theorem Operand.abort : ∀ x0 x1 x2, Operand.Statement (.abort x0 x1 x2) :=
  fun _ _ _ _ => answerIf_or _ _

theorem Operand.cack : ∀ x0 x1 x2 x3, Operand.Statement (.cack x0 x1 x2 x3) :=
  fun _ _ _ _ _ => answerIf_or _ _

theorem Operand.prepareTimeout : Operand.Statement .prepareTimeout :=
  fun _ => .inr ⟨_, rfl⟩

theorem Operand.data : ∀ x0 x1, Operand.Statement (.data x0 x1) :=
  fun _ _ _ => answerIf_or _ _

theorem Operand.frameItemTake : Operand.Statement .frameItemTake :=
  fun _ => .inr ⟨_, rfl⟩

theorem Operand.frameAgeClose : Operand.Statement .frameAgeClose :=
  fun _ => .inr ⟨_, rfl⟩

theorem Operand.arm : ∀ x0, Operand.Statement (.arm x0) :=
  fun _ _ => answerIf_or _ _

theorem Operand.trigger : ∀ x0, Operand.Statement (.trigger x0) :=
  fun _ _ => answerIf_or _ _

theorem Operand.stop : ∀ x0, Operand.Statement (.stop x0) :=
  fun _ _ => answerIf_or _ _

theorem Operand.xferCtrlWrite : ∀ x0 x1, Operand.Statement (.xferCtrlWrite x0 x1) :=
  fun _ _ _ => answerIf_or _ _

theorem Operand.xmemOpStart : Operand.Statement .xmemOpStart :=
  fun _ => .inr ⟨_, rfl⟩

theorem Operand.xmemOpComplete : Operand.Statement .xmemOpComplete :=
  fun _ => .inr ⟨_, rfl⟩

theorem Operand.xmemContinuation : Operand.Statement .xmemContinuation :=
  fun _ => .inr ⟨_, rfl⟩

theorem Operand.xmemTimeout : Operand.Statement .xmemTimeout :=
  fun _ => .inr ⟨_, rfl⟩

theorem Operand.pullRead : ∀ x0, Operand.Statement (.pullRead x0) :=
  fun _ _ => answerIf_or _ _

theorem Operand.read : ∀ x0 x1 x2, Operand.Statement (.read x0 x1 x2) :=
  fun _ _ _ _ => answerIf_or _ _

theorem Operand.write : ∀ x0 x1 x2, Operand.Statement (.write x0 x1 x2) :=
  fun _ _ _ _ => answerIf_or _ _

theorem Operand.eraseSector : ∀ x0 x1, Operand.Statement (.eraseSector x0 x1) :=
  fun _ _ _ => answerIf_or _ _

theorem Operand.flashOpStart : Operand.Statement .flashOpStart :=
  fun _ => .inr ⟨_, rfl⟩

theorem Operand.flashOpComplete : ∀ x0, Operand.Statement (.flashOpComplete x0) :=
  fun _ _ => .inr ⟨_, rfl⟩

theorem Operand.nvmAddrWrite : ∀ x0 x1, Operand.Statement (.nvmAddrWrite x0 x1) :=
  fun _ _ _ => answerIf_or _ _

theorem Operand.nvmDataAccess : ∀ x0 x1, Operand.Statement (.nvmDataAccess x0 x1) := by
  intros; intro s; simp only [Machine.exec, Machine.execNvmDataAccess]; repeat' (first | exact .inr ⟨_, rfl⟩ | exact .inl rfl | exact answerIf_or _ _ | split)

theorem Operand.nvmKeyWrite : ∀ x0 x1, Operand.Statement (.nvmKeyWrite x0 x1) :=
  fun _ _ _ => answerIf_or _ _

theorem Operand.prog : ∀ x0, Operand.Statement (.prog x0) :=
  fun _ _ => answerIf_or _ _

theorem Operand.erase : ∀ x0, Operand.Statement (.erase x0) :=
  fun _ _ => answerIf_or _ _

theorem Operand.jread : ∀ x0, Operand.Statement (.jread x0) :=
  fun _ _ => answerIf_or _ _

theorem Operand.jwrite : ∀ x0 x1, Operand.Statement (.jwrite x0 x1) :=
  fun _ _ _ => answerIf_or _ _

theorem Operand.lsave : ∀ x0 x1, Operand.Statement (.lsave x0 x1) :=
  fun _ _ _ => answerIf_or _ _

theorem Operand.cinc : ∀ x0 x1, Operand.Statement (.cinc x0 x1) :=
  fun _ _ _ => answerIf_or _ _

theorem Operand.operatingTimeTick : Operand.Statement .operatingTimeTick :=
  fun _ => .inr ⟨_, rfl⟩

theorem Operand.bucketRefill : ∀ x0, Operand.Statement (.bucketRefill x0) :=
  fun _ _ => answerIf_or _ _

theorem Operand.logSeqRead : ∀ x0, Operand.Statement (.logSeqRead x0) :=
  fun _ _ => answerIf_or _ _

theorem Operand.logWinLatch : ∀ x0, Operand.Statement (.logWinLatch x0) :=
  fun _ _ => answerIf_or _ _

theorem Operand.logChalRead : ∀ x0, Operand.Statement (.logChalRead x0) :=
  fun _ _ => answerIf_or _ _

theorem Operand.challengeExpire : Operand.Statement .challengeExpire :=
  fun _ => .inr ⟨_, rfl⟩

theorem Operand.logClrSubmit : ∀ x0 x1, Operand.Statement (.logClrSubmit x0 x1) :=
  fun _ _ _ => answerIf_or _ _

theorem Operand.clearLockoutEnd : Operand.Statement .clearLockoutEnd :=
  fun _ => .inr ⟨_, rfl⟩

theorem Operand.belayReport : ∀ x0 x1 x2 x3, Operand.Statement (.belayReport x0 x1 x2 x3) :=
  fun _ _ _ _ _ => answerIf_or _ _

theorem Operand.collectorIdle : Operand.Statement .collectorIdle :=
  fun _ => .inr ⟨_, rfl⟩

theorem Operand.wireFault : ∀ x0 x1, Operand.Statement (.wireFault x0 x1) :=
  fun _ _ _ => answerIf_or _ _

theorem Operand.levelRepeat : ∀ x0, Operand.Statement (.levelRepeat x0) :=
  fun _ _ => answerIf_or _ _

theorem Operand.crystalStop : Operand.Statement .crystalStop :=
  fun _ => .inr ⟨_, rfl⟩

theorem Operand.clear : ∀ x0, Operand.Statement (.clear x0) :=
  fun _ _ => answerIf_or _ _

theorem Operand.clearall : ∀ x0, Operand.Statement (.clearall x0) :=
  fun _ _ => answerIf_or _ _

theorem Operand.kick : ∀ x0, Operand.Statement (.kick x0) :=
  fun _ _ => answerIf_or _ _

theorem Operand.hostKeepaliveExpire : Operand.Statement .hostKeepaliveExpire :=
  fun _ => .inr ⟨_, rfl⟩

theorem Operand.injectionArm : ∀ x0, Operand.Statement (.injectionArm x0) :=
  fun _ _ => answerIf_or _ _

theorem Operand.faultInject : ∀ x0 x1, Operand.Statement (.faultInject x0 x1) :=
  fun _ _ _ => answerIf_or _ _

theorem Operand.thermalSample : ∀ x0 x1 x2 x3, Operand.Statement (.thermalSample x0 x1 x2 x3) :=
  fun _ _ _ _ _ => answerIf_or _ _

theorem Operand.graceExpire : Operand.Statement .graceExpire :=
  fun _ => .inr ⟨_, rfl⟩

theorem Operand.thermalRelease : Operand.Statement .thermalRelease :=
  fun _ => .inr ⟨_, rfl⟩

theorem Operand.linkSignal : ∀ x0, Operand.Statement (.linkSignal x0) :=
  fun _ _ => .inr ⟨_, rfl⟩

theorem Operand.vddaRecoveryRise : ∀ x0, Operand.Statement (.vddaRecoveryRise x0) :=
  fun _ _ => answerIf_or _ _

theorem Operand.carrierDetect : ∀ x0 x1, Operand.Statement (.carrierDetect x0 x1) :=
  fun _ _ _ => answerIf_or _ _

theorem Operand.frameTransmitEnd : ∀ x0, Operand.Statement (.frameTransmitEnd x0) :=
  fun _ _ => .inr ⟨_, rfl⟩

theorem Operand.hcsRise : Operand.Statement .hcsRise :=
  fun _ => .inr ⟨_, rfl⟩

theorem Operand.probeTmaxExpire : Operand.Statement .probeTmaxExpire :=
  fun _ => .inr ⟨_, rfl⟩

theorem Operand.minimumWindowEnd : ∀ x0, Operand.Statement (.minimumWindowEnd x0) :=
  fun _ _ => answerIf_or _ _

end Sys2Proof.Laws
end

