-- ==== Sys2Proof/Laws/State.lean ====
section
/-! SUPPORT. One lemma per field of State and per update of it: what the update leaves alone, and what it sets. -/

namespace Sys2Proof.Machine

/-! ### setReg -/

@[simp] theorem setReg_paths (s : State) (a : Nat) (w : Word) : (s.setReg a w).paths = s.paths := rfl
@[simp] theorem setReg_host (s : State) (a : Nat) (w : Word) : (s.setReg a w).host = s.host := rfl
@[simp] theorem setReg_wins (s : State) (a : Nat) (w : Word) : (s.setReg a w).wins = s.wins := rfl
@[simp] theorem setReg_sys (s : State) (a : Nat) (w : Word) : (s.setReg a w).sys = s.sys := rfl
@[simp] theorem setReg_pwr (s : State) (a : Nat) (w : Word) : (s.setReg a w).pwr = s.pwr := rfl
@[simp] theorem setReg_stg (s : State) (a : Nat) (w : Word) : (s.setReg a w).stg = s.stg := rfl
@[simp] theorem setReg_tab (s : State) (a : Nat) (w : Word) : (s.setReg a w).tab = s.tab := rfl
@[simp] theorem setReg_ang (s : State) (a : Nat) (w : Word) : (s.setReg a w).ang = s.ang := rfl
@[simp] theorem setReg_exc (s : State) (a : Nat) (w : Word) : (s.setReg a w).exc = s.exc := rfl
@[simp] theorem setReg_conns (s : State) (a : Nat) (w : Word) : (s.setReg a w).conns = s.conns := rfl
@[simp] theorem setReg_slices (s : State) (a : Nat) (w : Word) : (s.setReg a w).slices = s.slices := rfl
@[simp] theorem setReg_seq (s : State) (a : Nat) (w : Word) : (s.setReg a w).seq = s.seq := rfl
@[simp] theorem setReg_cal (s : State) (a : Nat) (w : Word) : (s.setReg a w).cal = s.cal := rfl
@[simp] theorem setReg_eng (s : State) (a : Nat) (w : Word) : (s.setReg a w).eng = s.eng := rfl
@[simp] theorem setReg_loops (s : State) (a : Nat) (w : Word) : (s.setReg a w).loops = s.loops := rfl
@[simp] theorem setReg_fsk (s : State) (a : Nat) (w : Word) : (s.setReg a w).fsk = s.fsk := rfl
@[simp] theorem setReg_rope (s : State) (a : Nat) (w : Word) : (s.setReg a w).rope = s.rope := rfl
@[simp] theorem setReg_xfer (s : State) (a : Nat) (w : Word) : (s.setReg a w).xfer = s.xfer := rfl
@[simp] theorem setReg_nvm (s : State) (a : Nat) (w : Word) : (s.setReg a w).nvm = s.nvm := rfl
@[simp] theorem setReg_log (s : State) (a : Nat) (w : Word) : (s.setReg a w).log = s.log := rfl
@[simp] theorem setReg_flt (s : State) (a : Nat) (w : Word) : (s.setReg a w).flt = s.flt := rfl
@[simp] theorem setReg_thm (s : State) (a : Nat) (w : Word) : (s.setReg a w).thm = s.thm := rfl
@[simp] theorem setReg_now (s : State) (a : Nat) (w : Word) : (s.setReg a w).now = s.now := rfl
@[simp] theorem setReg_free (s : State) (a : Nat) (w : Word) : (s.setReg a w).free = s.free := rfl
@[simp] theorem setReg_pending (s : State) (a : Nat) (w : Word) : (s.setReg a w).pending = s.pending := rfl

/-! ### setFld -/

@[simp] theorem setFld_paths (s : State) (f : Fld) (v : Nat) : (s.setFld f v).paths = s.paths := rfl
@[simp] theorem setFld_host (s : State) (f : Fld) (v : Nat) : (s.setFld f v).host = s.host := rfl
@[simp] theorem setFld_wins (s : State) (f : Fld) (v : Nat) : (s.setFld f v).wins = s.wins := rfl
@[simp] theorem setFld_sys (s : State) (f : Fld) (v : Nat) : (s.setFld f v).sys = s.sys := rfl
@[simp] theorem setFld_pwr (s : State) (f : Fld) (v : Nat) : (s.setFld f v).pwr = s.pwr := rfl
@[simp] theorem setFld_stg (s : State) (f : Fld) (v : Nat) : (s.setFld f v).stg = s.stg := rfl
@[simp] theorem setFld_tab (s : State) (f : Fld) (v : Nat) : (s.setFld f v).tab = s.tab := rfl
@[simp] theorem setFld_ang (s : State) (f : Fld) (v : Nat) : (s.setFld f v).ang = s.ang := rfl
@[simp] theorem setFld_exc (s : State) (f : Fld) (v : Nat) : (s.setFld f v).exc = s.exc := rfl
@[simp] theorem setFld_conns (s : State) (f : Fld) (v : Nat) : (s.setFld f v).conns = s.conns := rfl
@[simp] theorem setFld_slices (s : State) (f : Fld) (v : Nat) : (s.setFld f v).slices = s.slices := rfl
@[simp] theorem setFld_seq (s : State) (f : Fld) (v : Nat) : (s.setFld f v).seq = s.seq := rfl
@[simp] theorem setFld_cal (s : State) (f : Fld) (v : Nat) : (s.setFld f v).cal = s.cal := rfl
@[simp] theorem setFld_eng (s : State) (f : Fld) (v : Nat) : (s.setFld f v).eng = s.eng := rfl
@[simp] theorem setFld_loops (s : State) (f : Fld) (v : Nat) : (s.setFld f v).loops = s.loops := rfl
@[simp] theorem setFld_fsk (s : State) (f : Fld) (v : Nat) : (s.setFld f v).fsk = s.fsk := rfl
@[simp] theorem setFld_rope (s : State) (f : Fld) (v : Nat) : (s.setFld f v).rope = s.rope := rfl
@[simp] theorem setFld_xfer (s : State) (f : Fld) (v : Nat) : (s.setFld f v).xfer = s.xfer := rfl
@[simp] theorem setFld_nvm (s : State) (f : Fld) (v : Nat) : (s.setFld f v).nvm = s.nvm := rfl
@[simp] theorem setFld_log (s : State) (f : Fld) (v : Nat) : (s.setFld f v).log = s.log := rfl
@[simp] theorem setFld_flt (s : State) (f : Fld) (v : Nat) : (s.setFld f v).flt = s.flt := rfl
@[simp] theorem setFld_thm (s : State) (f : Fld) (v : Nat) : (s.setFld f v).thm = s.thm := rfl
@[simp] theorem setFld_now (s : State) (f : Fld) (v : Nat) : (s.setFld f v).now = s.now := rfl
@[simp] theorem setFld_free (s : State) (f : Fld) (v : Nat) : (s.setFld f v).free = s.free := rfl
@[simp] theorem setFld_pending (s : State) (f : Fld) (v : Nat) : (s.setFld f v).pending = s.pending := rfl

/-! ### setFlag -/

@[simp] theorem setFlag_paths (s : State) (f : Fld) (b : Bool) : (s.setFlag f b).paths = s.paths := rfl
@[simp] theorem setFlag_host (s : State) (f : Fld) (b : Bool) : (s.setFlag f b).host = s.host := rfl
@[simp] theorem setFlag_wins (s : State) (f : Fld) (b : Bool) : (s.setFlag f b).wins = s.wins := rfl
@[simp] theorem setFlag_sys (s : State) (f : Fld) (b : Bool) : (s.setFlag f b).sys = s.sys := rfl
@[simp] theorem setFlag_pwr (s : State) (f : Fld) (b : Bool) : (s.setFlag f b).pwr = s.pwr := rfl
@[simp] theorem setFlag_stg (s : State) (f : Fld) (b : Bool) : (s.setFlag f b).stg = s.stg := rfl
@[simp] theorem setFlag_tab (s : State) (f : Fld) (b : Bool) : (s.setFlag f b).tab = s.tab := rfl
@[simp] theorem setFlag_ang (s : State) (f : Fld) (b : Bool) : (s.setFlag f b).ang = s.ang := rfl
@[simp] theorem setFlag_exc (s : State) (f : Fld) (b : Bool) : (s.setFlag f b).exc = s.exc := rfl
@[simp] theorem setFlag_conns (s : State) (f : Fld) (b : Bool) : (s.setFlag f b).conns = s.conns := rfl
@[simp] theorem setFlag_slices (s : State) (f : Fld) (b : Bool) : (s.setFlag f b).slices = s.slices := rfl
@[simp] theorem setFlag_seq (s : State) (f : Fld) (b : Bool) : (s.setFlag f b).seq = s.seq := rfl
@[simp] theorem setFlag_cal (s : State) (f : Fld) (b : Bool) : (s.setFlag f b).cal = s.cal := rfl
@[simp] theorem setFlag_eng (s : State) (f : Fld) (b : Bool) : (s.setFlag f b).eng = s.eng := rfl
@[simp] theorem setFlag_loops (s : State) (f : Fld) (b : Bool) : (s.setFlag f b).loops = s.loops := rfl
@[simp] theorem setFlag_fsk (s : State) (f : Fld) (b : Bool) : (s.setFlag f b).fsk = s.fsk := rfl
@[simp] theorem setFlag_rope (s : State) (f : Fld) (b : Bool) : (s.setFlag f b).rope = s.rope := rfl
@[simp] theorem setFlag_xfer (s : State) (f : Fld) (b : Bool) : (s.setFlag f b).xfer = s.xfer := rfl
@[simp] theorem setFlag_nvm (s : State) (f : Fld) (b : Bool) : (s.setFlag f b).nvm = s.nvm := rfl
@[simp] theorem setFlag_log (s : State) (f : Fld) (b : Bool) : (s.setFlag f b).log = s.log := rfl
@[simp] theorem setFlag_flt (s : State) (f : Fld) (b : Bool) : (s.setFlag f b).flt = s.flt := rfl
@[simp] theorem setFlag_thm (s : State) (f : Fld) (b : Bool) : (s.setFlag f b).thm = s.thm := rfl
@[simp] theorem setFlag_now (s : State) (f : Fld) (b : Bool) : (s.setFlag f b).now = s.now := rfl
@[simp] theorem setFlag_free (s : State) (f : Fld) (b : Bool) : (s.setFlag f b).free = s.free := rfl
@[simp] theorem setFlag_pending (s : State) (f : Fld) (b : Bool) : (s.setFlag f b).pending = s.pending := rfl

/-! ### setRegN -/

@[simp] theorem setRegN_paths (s : State) (a v : Nat) : (s.setRegN a v).paths = s.paths := rfl
@[simp] theorem setRegN_host (s : State) (a v : Nat) : (s.setRegN a v).host = s.host := rfl
@[simp] theorem setRegN_wins (s : State) (a v : Nat) : (s.setRegN a v).wins = s.wins := rfl
@[simp] theorem setRegN_sys (s : State) (a v : Nat) : (s.setRegN a v).sys = s.sys := rfl
@[simp] theorem setRegN_pwr (s : State) (a v : Nat) : (s.setRegN a v).pwr = s.pwr := rfl
@[simp] theorem setRegN_stg (s : State) (a v : Nat) : (s.setRegN a v).stg = s.stg := rfl
@[simp] theorem setRegN_tab (s : State) (a v : Nat) : (s.setRegN a v).tab = s.tab := rfl
@[simp] theorem setRegN_ang (s : State) (a v : Nat) : (s.setRegN a v).ang = s.ang := rfl
@[simp] theorem setRegN_exc (s : State) (a v : Nat) : (s.setRegN a v).exc = s.exc := rfl
@[simp] theorem setRegN_conns (s : State) (a v : Nat) : (s.setRegN a v).conns = s.conns := rfl
@[simp] theorem setRegN_slices (s : State) (a v : Nat) : (s.setRegN a v).slices = s.slices := rfl
@[simp] theorem setRegN_seq (s : State) (a v : Nat) : (s.setRegN a v).seq = s.seq := rfl
@[simp] theorem setRegN_cal (s : State) (a v : Nat) : (s.setRegN a v).cal = s.cal := rfl
@[simp] theorem setRegN_eng (s : State) (a v : Nat) : (s.setRegN a v).eng = s.eng := rfl
@[simp] theorem setRegN_loops (s : State) (a v : Nat) : (s.setRegN a v).loops = s.loops := rfl
@[simp] theorem setRegN_fsk (s : State) (a v : Nat) : (s.setRegN a v).fsk = s.fsk := rfl
@[simp] theorem setRegN_rope (s : State) (a v : Nat) : (s.setRegN a v).rope = s.rope := rfl
@[simp] theorem setRegN_xfer (s : State) (a v : Nat) : (s.setRegN a v).xfer = s.xfer := rfl
@[simp] theorem setRegN_nvm (s : State) (a v : Nat) : (s.setRegN a v).nvm = s.nvm := rfl
@[simp] theorem setRegN_log (s : State) (a v : Nat) : (s.setRegN a v).log = s.log := rfl
@[simp] theorem setRegN_flt (s : State) (a v : Nat) : (s.setRegN a v).flt = s.flt := rfl
@[simp] theorem setRegN_thm (s : State) (a v : Nat) : (s.setRegN a v).thm = s.thm := rfl
@[simp] theorem setRegN_now (s : State) (a v : Nat) : (s.setRegN a v).now = s.now := rfl
@[simp] theorem setRegN_free (s : State) (a v : Nat) : (s.setRegN a v).free = s.free := rfl
@[simp] theorem setRegN_pending (s : State) (a v : Nat) : (s.setRegN a v).pending = s.pending := rfl

/-! ### setReg32 -/

@[simp] theorem setReg32_paths (s : State) (a v : Nat) : (s.setReg32 a v).paths = s.paths := rfl
@[simp] theorem setReg32_host (s : State) (a v : Nat) : (s.setReg32 a v).host = s.host := rfl
@[simp] theorem setReg32_wins (s : State) (a v : Nat) : (s.setReg32 a v).wins = s.wins := rfl
@[simp] theorem setReg32_sys (s : State) (a v : Nat) : (s.setReg32 a v).sys = s.sys := rfl
@[simp] theorem setReg32_pwr (s : State) (a v : Nat) : (s.setReg32 a v).pwr = s.pwr := rfl
@[simp] theorem setReg32_stg (s : State) (a v : Nat) : (s.setReg32 a v).stg = s.stg := rfl
@[simp] theorem setReg32_tab (s : State) (a v : Nat) : (s.setReg32 a v).tab = s.tab := rfl
@[simp] theorem setReg32_ang (s : State) (a v : Nat) : (s.setReg32 a v).ang = s.ang := rfl
@[simp] theorem setReg32_exc (s : State) (a v : Nat) : (s.setReg32 a v).exc = s.exc := rfl
@[simp] theorem setReg32_conns (s : State) (a v : Nat) : (s.setReg32 a v).conns = s.conns := rfl
@[simp] theorem setReg32_slices (s : State) (a v : Nat) : (s.setReg32 a v).slices = s.slices := rfl
@[simp] theorem setReg32_seq (s : State) (a v : Nat) : (s.setReg32 a v).seq = s.seq := rfl
@[simp] theorem setReg32_cal (s : State) (a v : Nat) : (s.setReg32 a v).cal = s.cal := rfl
@[simp] theorem setReg32_eng (s : State) (a v : Nat) : (s.setReg32 a v).eng = s.eng := rfl
@[simp] theorem setReg32_loops (s : State) (a v : Nat) : (s.setReg32 a v).loops = s.loops := rfl
@[simp] theorem setReg32_fsk (s : State) (a v : Nat) : (s.setReg32 a v).fsk = s.fsk := rfl
@[simp] theorem setReg32_rope (s : State) (a v : Nat) : (s.setReg32 a v).rope = s.rope := rfl
@[simp] theorem setReg32_xfer (s : State) (a v : Nat) : (s.setReg32 a v).xfer = s.xfer := rfl
@[simp] theorem setReg32_nvm (s : State) (a v : Nat) : (s.setReg32 a v).nvm = s.nvm := rfl
@[simp] theorem setReg32_log (s : State) (a v : Nat) : (s.setReg32 a v).log = s.log := rfl
@[simp] theorem setReg32_flt (s : State) (a v : Nat) : (s.setReg32 a v).flt = s.flt := rfl
@[simp] theorem setReg32_thm (s : State) (a v : Nat) : (s.setReg32 a v).thm = s.thm := rfl
@[simp] theorem setReg32_now (s : State) (a v : Nat) : (s.setReg32 a v).now = s.now := rfl
@[simp] theorem setReg32_free (s : State) (a v : Nat) : (s.setReg32 a v).free = s.free := rfl
@[simp] theorem setReg32_pending (s : State) (a v : Nat) : (s.setReg32 a v).pending = s.pending := rfl

/-! ### setReg64 -/

@[simp] theorem setReg64_paths (s : State) (a v : Nat) : (s.setReg64 a v).paths = s.paths := rfl
@[simp] theorem setReg64_host (s : State) (a v : Nat) : (s.setReg64 a v).host = s.host := rfl
@[simp] theorem setReg64_wins (s : State) (a v : Nat) : (s.setReg64 a v).wins = s.wins := rfl
@[simp] theorem setReg64_sys (s : State) (a v : Nat) : (s.setReg64 a v).sys = s.sys := rfl
@[simp] theorem setReg64_pwr (s : State) (a v : Nat) : (s.setReg64 a v).pwr = s.pwr := rfl
@[simp] theorem setReg64_stg (s : State) (a v : Nat) : (s.setReg64 a v).stg = s.stg := rfl
@[simp] theorem setReg64_tab (s : State) (a v : Nat) : (s.setReg64 a v).tab = s.tab := rfl
@[simp] theorem setReg64_ang (s : State) (a v : Nat) : (s.setReg64 a v).ang = s.ang := rfl
@[simp] theorem setReg64_exc (s : State) (a v : Nat) : (s.setReg64 a v).exc = s.exc := rfl
@[simp] theorem setReg64_conns (s : State) (a v : Nat) : (s.setReg64 a v).conns = s.conns := rfl
@[simp] theorem setReg64_slices (s : State) (a v : Nat) : (s.setReg64 a v).slices = s.slices := rfl
@[simp] theorem setReg64_seq (s : State) (a v : Nat) : (s.setReg64 a v).seq = s.seq := rfl
@[simp] theorem setReg64_cal (s : State) (a v : Nat) : (s.setReg64 a v).cal = s.cal := rfl
@[simp] theorem setReg64_eng (s : State) (a v : Nat) : (s.setReg64 a v).eng = s.eng := rfl
@[simp] theorem setReg64_loops (s : State) (a v : Nat) : (s.setReg64 a v).loops = s.loops := rfl
@[simp] theorem setReg64_fsk (s : State) (a v : Nat) : (s.setReg64 a v).fsk = s.fsk := rfl
@[simp] theorem setReg64_rope (s : State) (a v : Nat) : (s.setReg64 a v).rope = s.rope := rfl
@[simp] theorem setReg64_xfer (s : State) (a v : Nat) : (s.setReg64 a v).xfer = s.xfer := rfl
@[simp] theorem setReg64_nvm (s : State) (a v : Nat) : (s.setReg64 a v).nvm = s.nvm := rfl
@[simp] theorem setReg64_log (s : State) (a v : Nat) : (s.setReg64 a v).log = s.log := rfl
@[simp] theorem setReg64_flt (s : State) (a v : Nat) : (s.setReg64 a v).flt = s.flt := rfl
@[simp] theorem setReg64_thm (s : State) (a v : Nat) : (s.setReg64 a v).thm = s.thm := rfl
@[simp] theorem setReg64_now (s : State) (a v : Nat) : (s.setReg64 a v).now = s.now := rfl
@[simp] theorem setReg64_free (s : State) (a v : Nat) : (s.setReg64 a v).free = s.free := rfl
@[simp] theorem setReg64_pending (s : State) (a v : Nat) : (s.setReg64 a v).pending = s.pending := rfl

/-! ### incFld -/

@[simp] theorem incFld_paths (s : State) (f : Fld) : (s.incFld f).paths = s.paths := rfl
@[simp] theorem incFld_host (s : State) (f : Fld) : (s.incFld f).host = s.host := rfl
@[simp] theorem incFld_wins (s : State) (f : Fld) : (s.incFld f).wins = s.wins := rfl
@[simp] theorem incFld_sys (s : State) (f : Fld) : (s.incFld f).sys = s.sys := rfl
@[simp] theorem incFld_pwr (s : State) (f : Fld) : (s.incFld f).pwr = s.pwr := rfl
@[simp] theorem incFld_stg (s : State) (f : Fld) : (s.incFld f).stg = s.stg := rfl
@[simp] theorem incFld_tab (s : State) (f : Fld) : (s.incFld f).tab = s.tab := rfl
@[simp] theorem incFld_ang (s : State) (f : Fld) : (s.incFld f).ang = s.ang := rfl
@[simp] theorem incFld_exc (s : State) (f : Fld) : (s.incFld f).exc = s.exc := rfl
@[simp] theorem incFld_conns (s : State) (f : Fld) : (s.incFld f).conns = s.conns := rfl
@[simp] theorem incFld_slices (s : State) (f : Fld) : (s.incFld f).slices = s.slices := rfl
@[simp] theorem incFld_seq (s : State) (f : Fld) : (s.incFld f).seq = s.seq := rfl
@[simp] theorem incFld_cal (s : State) (f : Fld) : (s.incFld f).cal = s.cal := rfl
@[simp] theorem incFld_eng (s : State) (f : Fld) : (s.incFld f).eng = s.eng := rfl
@[simp] theorem incFld_loops (s : State) (f : Fld) : (s.incFld f).loops = s.loops := rfl
@[simp] theorem incFld_fsk (s : State) (f : Fld) : (s.incFld f).fsk = s.fsk := rfl
@[simp] theorem incFld_rope (s : State) (f : Fld) : (s.incFld f).rope = s.rope := rfl
@[simp] theorem incFld_xfer (s : State) (f : Fld) : (s.incFld f).xfer = s.xfer := rfl
@[simp] theorem incFld_nvm (s : State) (f : Fld) : (s.incFld f).nvm = s.nvm := rfl
@[simp] theorem incFld_log (s : State) (f : Fld) : (s.incFld f).log = s.log := rfl
@[simp] theorem incFld_flt (s : State) (f : Fld) : (s.incFld f).flt = s.flt := rfl
@[simp] theorem incFld_thm (s : State) (f : Fld) : (s.incFld f).thm = s.thm := rfl
@[simp] theorem incFld_now (s : State) (f : Fld) : (s.incFld f).now = s.now := rfl
@[simp] theorem incFld_free (s : State) (f : Fld) : (s.incFld f).free = s.free := rfl
@[simp] theorem incFld_pending (s : State) (f : Fld) : (s.incFld f).pending = s.pending := rfl

/-! ### setFldBit -/

@[simp] theorem setFldBit_paths (s : State) (f : Fld) (n : Nat) (b : Bool) : (s.setFldBit f n b).paths = s.paths := rfl
@[simp] theorem setFldBit_host (s : State) (f : Fld) (n : Nat) (b : Bool) : (s.setFldBit f n b).host = s.host := rfl
@[simp] theorem setFldBit_wins (s : State) (f : Fld) (n : Nat) (b : Bool) : (s.setFldBit f n b).wins = s.wins := rfl
@[simp] theorem setFldBit_sys (s : State) (f : Fld) (n : Nat) (b : Bool) : (s.setFldBit f n b).sys = s.sys := rfl
@[simp] theorem setFldBit_pwr (s : State) (f : Fld) (n : Nat) (b : Bool) : (s.setFldBit f n b).pwr = s.pwr := rfl
@[simp] theorem setFldBit_stg (s : State) (f : Fld) (n : Nat) (b : Bool) : (s.setFldBit f n b).stg = s.stg := rfl
@[simp] theorem setFldBit_tab (s : State) (f : Fld) (n : Nat) (b : Bool) : (s.setFldBit f n b).tab = s.tab := rfl
@[simp] theorem setFldBit_ang (s : State) (f : Fld) (n : Nat) (b : Bool) : (s.setFldBit f n b).ang = s.ang := rfl
@[simp] theorem setFldBit_exc (s : State) (f : Fld) (n : Nat) (b : Bool) : (s.setFldBit f n b).exc = s.exc := rfl
@[simp] theorem setFldBit_conns (s : State) (f : Fld) (n : Nat) (b : Bool) : (s.setFldBit f n b).conns = s.conns := rfl
@[simp] theorem setFldBit_slices (s : State) (f : Fld) (n : Nat) (b : Bool) : (s.setFldBit f n b).slices = s.slices := rfl
@[simp] theorem setFldBit_seq (s : State) (f : Fld) (n : Nat) (b : Bool) : (s.setFldBit f n b).seq = s.seq := rfl
@[simp] theorem setFldBit_cal (s : State) (f : Fld) (n : Nat) (b : Bool) : (s.setFldBit f n b).cal = s.cal := rfl
@[simp] theorem setFldBit_eng (s : State) (f : Fld) (n : Nat) (b : Bool) : (s.setFldBit f n b).eng = s.eng := rfl
@[simp] theorem setFldBit_loops (s : State) (f : Fld) (n : Nat) (b : Bool) : (s.setFldBit f n b).loops = s.loops := rfl
@[simp] theorem setFldBit_fsk (s : State) (f : Fld) (n : Nat) (b : Bool) : (s.setFldBit f n b).fsk = s.fsk := rfl
@[simp] theorem setFldBit_rope (s : State) (f : Fld) (n : Nat) (b : Bool) : (s.setFldBit f n b).rope = s.rope := rfl
@[simp] theorem setFldBit_xfer (s : State) (f : Fld) (n : Nat) (b : Bool) : (s.setFldBit f n b).xfer = s.xfer := rfl
@[simp] theorem setFldBit_nvm (s : State) (f : Fld) (n : Nat) (b : Bool) : (s.setFldBit f n b).nvm = s.nvm := rfl
@[simp] theorem setFldBit_log (s : State) (f : Fld) (n : Nat) (b : Bool) : (s.setFldBit f n b).log = s.log := rfl
@[simp] theorem setFldBit_flt (s : State) (f : Fld) (n : Nat) (b : Bool) : (s.setFldBit f n b).flt = s.flt := rfl
@[simp] theorem setFldBit_thm (s : State) (f : Fld) (n : Nat) (b : Bool) : (s.setFldBit f n b).thm = s.thm := rfl
@[simp] theorem setFldBit_now (s : State) (f : Fld) (n : Nat) (b : Bool) : (s.setFldBit f n b).now = s.now := rfl
@[simp] theorem setFldBit_free (s : State) (f : Fld) (n : Nat) (b : Bool) : (s.setFldBit f n b).free = s.free := rfl
@[simp] theorem setFldBit_pending (s : State) (f : Fld) (n : Nat) (b : Bool) : (s.setFldBit f n b).pending = s.pending := rfl

/-! ### modPath -/

@[simp] theorem modPath_paths (s : State) (p : Path) (f : PathState → PathState) : (s.modPath p f).paths = writeAt (fun _ => {}) s.paths (pathKey p) (f (s.path p)) := rfl
@[simp] theorem modPath_regs (s : State) (p : Path) (f : PathState → PathState) : (s.modPath p f).regs = s.regs := rfl
@[simp] theorem modPath_host (s : State) (p : Path) (f : PathState → PathState) : (s.modPath p f).host = s.host := rfl
@[simp] theorem modPath_wins (s : State) (p : Path) (f : PathState → PathState) : (s.modPath p f).wins = s.wins := rfl
@[simp] theorem modPath_sys (s : State) (p : Path) (f : PathState → PathState) : (s.modPath p f).sys = s.sys := rfl
@[simp] theorem modPath_pwr (s : State) (p : Path) (f : PathState → PathState) : (s.modPath p f).pwr = s.pwr := rfl
@[simp] theorem modPath_stg (s : State) (p : Path) (f : PathState → PathState) : (s.modPath p f).stg = s.stg := rfl
@[simp] theorem modPath_tab (s : State) (p : Path) (f : PathState → PathState) : (s.modPath p f).tab = s.tab := rfl
@[simp] theorem modPath_ang (s : State) (p : Path) (f : PathState → PathState) : (s.modPath p f).ang = s.ang := rfl
@[simp] theorem modPath_exc (s : State) (p : Path) (f : PathState → PathState) : (s.modPath p f).exc = s.exc := rfl
@[simp] theorem modPath_conns (s : State) (p : Path) (f : PathState → PathState) : (s.modPath p f).conns = s.conns := rfl
@[simp] theorem modPath_slices (s : State) (p : Path) (f : PathState → PathState) : (s.modPath p f).slices = s.slices := rfl
@[simp] theorem modPath_seq (s : State) (p : Path) (f : PathState → PathState) : (s.modPath p f).seq = s.seq := rfl
@[simp] theorem modPath_cal (s : State) (p : Path) (f : PathState → PathState) : (s.modPath p f).cal = s.cal := rfl
@[simp] theorem modPath_eng (s : State) (p : Path) (f : PathState → PathState) : (s.modPath p f).eng = s.eng := rfl
@[simp] theorem modPath_loops (s : State) (p : Path) (f : PathState → PathState) : (s.modPath p f).loops = s.loops := rfl
@[simp] theorem modPath_fsk (s : State) (p : Path) (f : PathState → PathState) : (s.modPath p f).fsk = s.fsk := rfl
@[simp] theorem modPath_rope (s : State) (p : Path) (f : PathState → PathState) : (s.modPath p f).rope = s.rope := rfl
@[simp] theorem modPath_xfer (s : State) (p : Path) (f : PathState → PathState) : (s.modPath p f).xfer = s.xfer := rfl
@[simp] theorem modPath_nvm (s : State) (p : Path) (f : PathState → PathState) : (s.modPath p f).nvm = s.nvm := rfl
@[simp] theorem modPath_log (s : State) (p : Path) (f : PathState → PathState) : (s.modPath p f).log = s.log := rfl
@[simp] theorem modPath_flt (s : State) (p : Path) (f : PathState → PathState) : (s.modPath p f).flt = s.flt := rfl
@[simp] theorem modPath_thm (s : State) (p : Path) (f : PathState → PathState) : (s.modPath p f).thm = s.thm := rfl
@[simp] theorem modPath_now (s : State) (p : Path) (f : PathState → PathState) : (s.modPath p f).now = s.now := rfl
@[simp] theorem modPath_free (s : State) (p : Path) (f : PathState → PathState) : (s.modPath p f).free = s.free := rfl
@[simp] theorem modPath_pending (s : State) (p : Path) (f : PathState → PathState) : (s.modPath p f).pending = s.pending := rfl

/-! ### modWindow -/

@[simp] theorem modWindow_wins (s : State) (n : Nat) (f : Win → Win) : (s.modWindow n f).wins = modNth s.wins n f := rfl
@[simp] theorem modWindow_regs (s : State) (n : Nat) (f : Win → Win) : (s.modWindow n f).regs = s.regs := rfl
@[simp] theorem modWindow_paths (s : State) (n : Nat) (f : Win → Win) : (s.modWindow n f).paths = s.paths := rfl
@[simp] theorem modWindow_host (s : State) (n : Nat) (f : Win → Win) : (s.modWindow n f).host = s.host := rfl
@[simp] theorem modWindow_sys (s : State) (n : Nat) (f : Win → Win) : (s.modWindow n f).sys = s.sys := rfl
@[simp] theorem modWindow_pwr (s : State) (n : Nat) (f : Win → Win) : (s.modWindow n f).pwr = s.pwr := rfl
@[simp] theorem modWindow_stg (s : State) (n : Nat) (f : Win → Win) : (s.modWindow n f).stg = s.stg := rfl
@[simp] theorem modWindow_tab (s : State) (n : Nat) (f : Win → Win) : (s.modWindow n f).tab = s.tab := rfl
@[simp] theorem modWindow_ang (s : State) (n : Nat) (f : Win → Win) : (s.modWindow n f).ang = s.ang := rfl
@[simp] theorem modWindow_exc (s : State) (n : Nat) (f : Win → Win) : (s.modWindow n f).exc = s.exc := rfl
@[simp] theorem modWindow_conns (s : State) (n : Nat) (f : Win → Win) : (s.modWindow n f).conns = s.conns := rfl
@[simp] theorem modWindow_slices (s : State) (n : Nat) (f : Win → Win) : (s.modWindow n f).slices = s.slices := rfl
@[simp] theorem modWindow_seq (s : State) (n : Nat) (f : Win → Win) : (s.modWindow n f).seq = s.seq := rfl
@[simp] theorem modWindow_cal (s : State) (n : Nat) (f : Win → Win) : (s.modWindow n f).cal = s.cal := rfl
@[simp] theorem modWindow_eng (s : State) (n : Nat) (f : Win → Win) : (s.modWindow n f).eng = s.eng := rfl
@[simp] theorem modWindow_loops (s : State) (n : Nat) (f : Win → Win) : (s.modWindow n f).loops = s.loops := rfl
@[simp] theorem modWindow_fsk (s : State) (n : Nat) (f : Win → Win) : (s.modWindow n f).fsk = s.fsk := rfl
@[simp] theorem modWindow_rope (s : State) (n : Nat) (f : Win → Win) : (s.modWindow n f).rope = s.rope := rfl
@[simp] theorem modWindow_xfer (s : State) (n : Nat) (f : Win → Win) : (s.modWindow n f).xfer = s.xfer := rfl
@[simp] theorem modWindow_nvm (s : State) (n : Nat) (f : Win → Win) : (s.modWindow n f).nvm = s.nvm := rfl
@[simp] theorem modWindow_log (s : State) (n : Nat) (f : Win → Win) : (s.modWindow n f).log = s.log := rfl
@[simp] theorem modWindow_flt (s : State) (n : Nat) (f : Win → Win) : (s.modWindow n f).flt = s.flt := rfl
@[simp] theorem modWindow_thm (s : State) (n : Nat) (f : Win → Win) : (s.modWindow n f).thm = s.thm := rfl
@[simp] theorem modWindow_now (s : State) (n : Nat) (f : Win → Win) : (s.modWindow n f).now = s.now := rfl
@[simp] theorem modWindow_free (s : State) (n : Nat) (f : Win → Win) : (s.modWindow n f).free = s.free := rfl
@[simp] theorem modWindow_pending (s : State) (n : Nat) (f : Win → Win) : (s.modWindow n f).pending = s.pending := rfl

/-! ### modStg -/

@[simp] theorem modStg_stg (s : State) (f : Staging → Staging) : (s.modStg f).stg = f s.stg := rfl
@[simp] theorem modStg_regs (s : State) (f : Staging → Staging) : (s.modStg f).regs = s.regs := rfl
@[simp] theorem modStg_paths (s : State) (f : Staging → Staging) : (s.modStg f).paths = s.paths := rfl
@[simp] theorem modStg_host (s : State) (f : Staging → Staging) : (s.modStg f).host = s.host := rfl
@[simp] theorem modStg_wins (s : State) (f : Staging → Staging) : (s.modStg f).wins = s.wins := rfl
@[simp] theorem modStg_sys (s : State) (f : Staging → Staging) : (s.modStg f).sys = s.sys := rfl
@[simp] theorem modStg_pwr (s : State) (f : Staging → Staging) : (s.modStg f).pwr = s.pwr := rfl
@[simp] theorem modStg_tab (s : State) (f : Staging → Staging) : (s.modStg f).tab = s.tab := rfl
@[simp] theorem modStg_ang (s : State) (f : Staging → Staging) : (s.modStg f).ang = s.ang := rfl
@[simp] theorem modStg_exc (s : State) (f : Staging → Staging) : (s.modStg f).exc = s.exc := rfl
@[simp] theorem modStg_conns (s : State) (f : Staging → Staging) : (s.modStg f).conns = s.conns := rfl
@[simp] theorem modStg_slices (s : State) (f : Staging → Staging) : (s.modStg f).slices = s.slices := rfl
@[simp] theorem modStg_seq (s : State) (f : Staging → Staging) : (s.modStg f).seq = s.seq := rfl
@[simp] theorem modStg_cal (s : State) (f : Staging → Staging) : (s.modStg f).cal = s.cal := rfl
@[simp] theorem modStg_eng (s : State) (f : Staging → Staging) : (s.modStg f).eng = s.eng := rfl
@[simp] theorem modStg_loops (s : State) (f : Staging → Staging) : (s.modStg f).loops = s.loops := rfl
@[simp] theorem modStg_fsk (s : State) (f : Staging → Staging) : (s.modStg f).fsk = s.fsk := rfl
@[simp] theorem modStg_rope (s : State) (f : Staging → Staging) : (s.modStg f).rope = s.rope := rfl
@[simp] theorem modStg_xfer (s : State) (f : Staging → Staging) : (s.modStg f).xfer = s.xfer := rfl
@[simp] theorem modStg_nvm (s : State) (f : Staging → Staging) : (s.modStg f).nvm = s.nvm := rfl
@[simp] theorem modStg_log (s : State) (f : Staging → Staging) : (s.modStg f).log = s.log := rfl
@[simp] theorem modStg_flt (s : State) (f : Staging → Staging) : (s.modStg f).flt = s.flt := rfl
@[simp] theorem modStg_thm (s : State) (f : Staging → Staging) : (s.modStg f).thm = s.thm := rfl
@[simp] theorem modStg_now (s : State) (f : Staging → Staging) : (s.modStg f).now = s.now := rfl
@[simp] theorem modStg_free (s : State) (f : Staging → Staging) : (s.modStg f).free = s.free := rfl
@[simp] theorem modStg_pending (s : State) (f : Staging → Staging) : (s.modStg f).pending = s.pending := rfl

/-! ### modAng -/

@[simp] theorem modAng_ang (s : State) (f : Ang → Ang) : (s.modAng f).ang = f s.ang := rfl
@[simp] theorem modAng_regs (s : State) (f : Ang → Ang) : (s.modAng f).regs = s.regs := rfl
@[simp] theorem modAng_paths (s : State) (f : Ang → Ang) : (s.modAng f).paths = s.paths := rfl
@[simp] theorem modAng_host (s : State) (f : Ang → Ang) : (s.modAng f).host = s.host := rfl
@[simp] theorem modAng_wins (s : State) (f : Ang → Ang) : (s.modAng f).wins = s.wins := rfl
@[simp] theorem modAng_sys (s : State) (f : Ang → Ang) : (s.modAng f).sys = s.sys := rfl
@[simp] theorem modAng_pwr (s : State) (f : Ang → Ang) : (s.modAng f).pwr = s.pwr := rfl
@[simp] theorem modAng_stg (s : State) (f : Ang → Ang) : (s.modAng f).stg = s.stg := rfl
@[simp] theorem modAng_tab (s : State) (f : Ang → Ang) : (s.modAng f).tab = s.tab := rfl
@[simp] theorem modAng_exc (s : State) (f : Ang → Ang) : (s.modAng f).exc = s.exc := rfl
@[simp] theorem modAng_conns (s : State) (f : Ang → Ang) : (s.modAng f).conns = s.conns := rfl
@[simp] theorem modAng_slices (s : State) (f : Ang → Ang) : (s.modAng f).slices = s.slices := rfl
@[simp] theorem modAng_seq (s : State) (f : Ang → Ang) : (s.modAng f).seq = s.seq := rfl
@[simp] theorem modAng_cal (s : State) (f : Ang → Ang) : (s.modAng f).cal = s.cal := rfl
@[simp] theorem modAng_eng (s : State) (f : Ang → Ang) : (s.modAng f).eng = s.eng := rfl
@[simp] theorem modAng_loops (s : State) (f : Ang → Ang) : (s.modAng f).loops = s.loops := rfl
@[simp] theorem modAng_fsk (s : State) (f : Ang → Ang) : (s.modAng f).fsk = s.fsk := rfl
@[simp] theorem modAng_rope (s : State) (f : Ang → Ang) : (s.modAng f).rope = s.rope := rfl
@[simp] theorem modAng_xfer (s : State) (f : Ang → Ang) : (s.modAng f).xfer = s.xfer := rfl
@[simp] theorem modAng_nvm (s : State) (f : Ang → Ang) : (s.modAng f).nvm = s.nvm := rfl
@[simp] theorem modAng_log (s : State) (f : Ang → Ang) : (s.modAng f).log = s.log := rfl
@[simp] theorem modAng_flt (s : State) (f : Ang → Ang) : (s.modAng f).flt = s.flt := rfl
@[simp] theorem modAng_thm (s : State) (f : Ang → Ang) : (s.modAng f).thm = s.thm := rfl
@[simp] theorem modAng_now (s : State) (f : Ang → Ang) : (s.modAng f).now = s.now := rfl
@[simp] theorem modAng_free (s : State) (f : Ang → Ang) : (s.modAng f).free = s.free := rfl
@[simp] theorem modAng_pending (s : State) (f : Ang → Ang) : (s.modAng f).pending = s.pending := rfl

/-! ### modExc -/

@[simp] theorem modExc_exc (s : State) (n : Nat) (f : ExcSt → ExcSt) : (s.modExc n f).exc = modNth s.exc n f := rfl
@[simp] theorem modExc_regs (s : State) (n : Nat) (f : ExcSt → ExcSt) : (s.modExc n f).regs = s.regs := rfl
@[simp] theorem modExc_paths (s : State) (n : Nat) (f : ExcSt → ExcSt) : (s.modExc n f).paths = s.paths := rfl
@[simp] theorem modExc_host (s : State) (n : Nat) (f : ExcSt → ExcSt) : (s.modExc n f).host = s.host := rfl
@[simp] theorem modExc_wins (s : State) (n : Nat) (f : ExcSt → ExcSt) : (s.modExc n f).wins = s.wins := rfl
@[simp] theorem modExc_sys (s : State) (n : Nat) (f : ExcSt → ExcSt) : (s.modExc n f).sys = s.sys := rfl
@[simp] theorem modExc_pwr (s : State) (n : Nat) (f : ExcSt → ExcSt) : (s.modExc n f).pwr = s.pwr := rfl
@[simp] theorem modExc_stg (s : State) (n : Nat) (f : ExcSt → ExcSt) : (s.modExc n f).stg = s.stg := rfl
@[simp] theorem modExc_tab (s : State) (n : Nat) (f : ExcSt → ExcSt) : (s.modExc n f).tab = s.tab := rfl
@[simp] theorem modExc_ang (s : State) (n : Nat) (f : ExcSt → ExcSt) : (s.modExc n f).ang = s.ang := rfl
@[simp] theorem modExc_conns (s : State) (n : Nat) (f : ExcSt → ExcSt) : (s.modExc n f).conns = s.conns := rfl
@[simp] theorem modExc_slices (s : State) (n : Nat) (f : ExcSt → ExcSt) : (s.modExc n f).slices = s.slices := rfl
@[simp] theorem modExc_seq (s : State) (n : Nat) (f : ExcSt → ExcSt) : (s.modExc n f).seq = s.seq := rfl
@[simp] theorem modExc_cal (s : State) (n : Nat) (f : ExcSt → ExcSt) : (s.modExc n f).cal = s.cal := rfl
@[simp] theorem modExc_eng (s : State) (n : Nat) (f : ExcSt → ExcSt) : (s.modExc n f).eng = s.eng := rfl
@[simp] theorem modExc_loops (s : State) (n : Nat) (f : ExcSt → ExcSt) : (s.modExc n f).loops = s.loops := rfl
@[simp] theorem modExc_fsk (s : State) (n : Nat) (f : ExcSt → ExcSt) : (s.modExc n f).fsk = s.fsk := rfl
@[simp] theorem modExc_rope (s : State) (n : Nat) (f : ExcSt → ExcSt) : (s.modExc n f).rope = s.rope := rfl
@[simp] theorem modExc_xfer (s : State) (n : Nat) (f : ExcSt → ExcSt) : (s.modExc n f).xfer = s.xfer := rfl
@[simp] theorem modExc_nvm (s : State) (n : Nat) (f : ExcSt → ExcSt) : (s.modExc n f).nvm = s.nvm := rfl
@[simp] theorem modExc_log (s : State) (n : Nat) (f : ExcSt → ExcSt) : (s.modExc n f).log = s.log := rfl
@[simp] theorem modExc_flt (s : State) (n : Nat) (f : ExcSt → ExcSt) : (s.modExc n f).flt = s.flt := rfl
@[simp] theorem modExc_thm (s : State) (n : Nat) (f : ExcSt → ExcSt) : (s.modExc n f).thm = s.thm := rfl
@[simp] theorem modExc_now (s : State) (n : Nat) (f : ExcSt → ExcSt) : (s.modExc n f).now = s.now := rfl
@[simp] theorem modExc_free (s : State) (n : Nat) (f : ExcSt → ExcSt) : (s.modExc n f).free = s.free := rfl
@[simp] theorem modExc_pending (s : State) (n : Nat) (f : ExcSt → ExcSt) : (s.modExc n f).pending = s.pending := rfl

/-! ### modSlice -/

@[simp] theorem modSlice_slices (s : State) (n : Nat) (f : SliceSt → SliceSt) : (s.modSlice n f).slices = modNth s.slices n f := rfl
@[simp] theorem modSlice_regs (s : State) (n : Nat) (f : SliceSt → SliceSt) : (s.modSlice n f).regs = s.regs := rfl
@[simp] theorem modSlice_paths (s : State) (n : Nat) (f : SliceSt → SliceSt) : (s.modSlice n f).paths = s.paths := rfl
@[simp] theorem modSlice_host (s : State) (n : Nat) (f : SliceSt → SliceSt) : (s.modSlice n f).host = s.host := rfl
@[simp] theorem modSlice_wins (s : State) (n : Nat) (f : SliceSt → SliceSt) : (s.modSlice n f).wins = s.wins := rfl
@[simp] theorem modSlice_sys (s : State) (n : Nat) (f : SliceSt → SliceSt) : (s.modSlice n f).sys = s.sys := rfl
@[simp] theorem modSlice_pwr (s : State) (n : Nat) (f : SliceSt → SliceSt) : (s.modSlice n f).pwr = s.pwr := rfl
@[simp] theorem modSlice_stg (s : State) (n : Nat) (f : SliceSt → SliceSt) : (s.modSlice n f).stg = s.stg := rfl
@[simp] theorem modSlice_tab (s : State) (n : Nat) (f : SliceSt → SliceSt) : (s.modSlice n f).tab = s.tab := rfl
@[simp] theorem modSlice_ang (s : State) (n : Nat) (f : SliceSt → SliceSt) : (s.modSlice n f).ang = s.ang := rfl
@[simp] theorem modSlice_exc (s : State) (n : Nat) (f : SliceSt → SliceSt) : (s.modSlice n f).exc = s.exc := rfl
@[simp] theorem modSlice_conns (s : State) (n : Nat) (f : SliceSt → SliceSt) : (s.modSlice n f).conns = s.conns := rfl
@[simp] theorem modSlice_seq (s : State) (n : Nat) (f : SliceSt → SliceSt) : (s.modSlice n f).seq = s.seq := rfl
@[simp] theorem modSlice_cal (s : State) (n : Nat) (f : SliceSt → SliceSt) : (s.modSlice n f).cal = s.cal := rfl
@[simp] theorem modSlice_eng (s : State) (n : Nat) (f : SliceSt → SliceSt) : (s.modSlice n f).eng = s.eng := rfl
@[simp] theorem modSlice_loops (s : State) (n : Nat) (f : SliceSt → SliceSt) : (s.modSlice n f).loops = s.loops := rfl
@[simp] theorem modSlice_fsk (s : State) (n : Nat) (f : SliceSt → SliceSt) : (s.modSlice n f).fsk = s.fsk := rfl
@[simp] theorem modSlice_rope (s : State) (n : Nat) (f : SliceSt → SliceSt) : (s.modSlice n f).rope = s.rope := rfl
@[simp] theorem modSlice_xfer (s : State) (n : Nat) (f : SliceSt → SliceSt) : (s.modSlice n f).xfer = s.xfer := rfl
@[simp] theorem modSlice_nvm (s : State) (n : Nat) (f : SliceSt → SliceSt) : (s.modSlice n f).nvm = s.nvm := rfl
@[simp] theorem modSlice_log (s : State) (n : Nat) (f : SliceSt → SliceSt) : (s.modSlice n f).log = s.log := rfl
@[simp] theorem modSlice_flt (s : State) (n : Nat) (f : SliceSt → SliceSt) : (s.modSlice n f).flt = s.flt := rfl
@[simp] theorem modSlice_thm (s : State) (n : Nat) (f : SliceSt → SliceSt) : (s.modSlice n f).thm = s.thm := rfl
@[simp] theorem modSlice_now (s : State) (n : Nat) (f : SliceSt → SliceSt) : (s.modSlice n f).now = s.now := rfl
@[simp] theorem modSlice_free (s : State) (n : Nat) (f : SliceSt → SliceSt) : (s.modSlice n f).free = s.free := rfl
@[simp] theorem modSlice_pending (s : State) (n : Nat) (f : SliceSt → SliceSt) : (s.modSlice n f).pending = s.pending := rfl

/-! ### modEng -/

@[simp] theorem modEng_eng (s : State) (n : Nat) (f : EngSt → EngSt) : (s.modEng n f).eng = modNth s.eng n f := rfl
@[simp] theorem modEng_regs (s : State) (n : Nat) (f : EngSt → EngSt) : (s.modEng n f).regs = s.regs := rfl
@[simp] theorem modEng_paths (s : State) (n : Nat) (f : EngSt → EngSt) : (s.modEng n f).paths = s.paths := rfl
@[simp] theorem modEng_host (s : State) (n : Nat) (f : EngSt → EngSt) : (s.modEng n f).host = s.host := rfl
@[simp] theorem modEng_wins (s : State) (n : Nat) (f : EngSt → EngSt) : (s.modEng n f).wins = s.wins := rfl
@[simp] theorem modEng_sys (s : State) (n : Nat) (f : EngSt → EngSt) : (s.modEng n f).sys = s.sys := rfl
@[simp] theorem modEng_pwr (s : State) (n : Nat) (f : EngSt → EngSt) : (s.modEng n f).pwr = s.pwr := rfl
@[simp] theorem modEng_stg (s : State) (n : Nat) (f : EngSt → EngSt) : (s.modEng n f).stg = s.stg := rfl
@[simp] theorem modEng_tab (s : State) (n : Nat) (f : EngSt → EngSt) : (s.modEng n f).tab = s.tab := rfl
@[simp] theorem modEng_ang (s : State) (n : Nat) (f : EngSt → EngSt) : (s.modEng n f).ang = s.ang := rfl
@[simp] theorem modEng_exc (s : State) (n : Nat) (f : EngSt → EngSt) : (s.modEng n f).exc = s.exc := rfl
@[simp] theorem modEng_conns (s : State) (n : Nat) (f : EngSt → EngSt) : (s.modEng n f).conns = s.conns := rfl
@[simp] theorem modEng_slices (s : State) (n : Nat) (f : EngSt → EngSt) : (s.modEng n f).slices = s.slices := rfl
@[simp] theorem modEng_seq (s : State) (n : Nat) (f : EngSt → EngSt) : (s.modEng n f).seq = s.seq := rfl
@[simp] theorem modEng_cal (s : State) (n : Nat) (f : EngSt → EngSt) : (s.modEng n f).cal = s.cal := rfl
@[simp] theorem modEng_loops (s : State) (n : Nat) (f : EngSt → EngSt) : (s.modEng n f).loops = s.loops := rfl
@[simp] theorem modEng_fsk (s : State) (n : Nat) (f : EngSt → EngSt) : (s.modEng n f).fsk = s.fsk := rfl
@[simp] theorem modEng_rope (s : State) (n : Nat) (f : EngSt → EngSt) : (s.modEng n f).rope = s.rope := rfl
@[simp] theorem modEng_xfer (s : State) (n : Nat) (f : EngSt → EngSt) : (s.modEng n f).xfer = s.xfer := rfl
@[simp] theorem modEng_nvm (s : State) (n : Nat) (f : EngSt → EngSt) : (s.modEng n f).nvm = s.nvm := rfl
@[simp] theorem modEng_log (s : State) (n : Nat) (f : EngSt → EngSt) : (s.modEng n f).log = s.log := rfl
@[simp] theorem modEng_flt (s : State) (n : Nat) (f : EngSt → EngSt) : (s.modEng n f).flt = s.flt := rfl
@[simp] theorem modEng_thm (s : State) (n : Nat) (f : EngSt → EngSt) : (s.modEng n f).thm = s.thm := rfl
@[simp] theorem modEng_now (s : State) (n : Nat) (f : EngSt → EngSt) : (s.modEng n f).now = s.now := rfl
@[simp] theorem modEng_free (s : State) (n : Nat) (f : EngSt → EngSt) : (s.modEng n f).free = s.free := rfl
@[simp] theorem modEng_pending (s : State) (n : Nat) (f : EngSt → EngSt) : (s.modEng n f).pending = s.pending := rfl

/-! ### modLoop -/

@[simp] theorem modLoop_loops (s : State) (n : Nat) (f : LoopSt → LoopSt) : (s.modLoop n f).loops = modNth s.loops n f := rfl
@[simp] theorem modLoop_regs (s : State) (n : Nat) (f : LoopSt → LoopSt) : (s.modLoop n f).regs = s.regs := rfl
@[simp] theorem modLoop_paths (s : State) (n : Nat) (f : LoopSt → LoopSt) : (s.modLoop n f).paths = s.paths := rfl
@[simp] theorem modLoop_host (s : State) (n : Nat) (f : LoopSt → LoopSt) : (s.modLoop n f).host = s.host := rfl
@[simp] theorem modLoop_wins (s : State) (n : Nat) (f : LoopSt → LoopSt) : (s.modLoop n f).wins = s.wins := rfl
@[simp] theorem modLoop_sys (s : State) (n : Nat) (f : LoopSt → LoopSt) : (s.modLoop n f).sys = s.sys := rfl
@[simp] theorem modLoop_pwr (s : State) (n : Nat) (f : LoopSt → LoopSt) : (s.modLoop n f).pwr = s.pwr := rfl
@[simp] theorem modLoop_stg (s : State) (n : Nat) (f : LoopSt → LoopSt) : (s.modLoop n f).stg = s.stg := rfl
@[simp] theorem modLoop_tab (s : State) (n : Nat) (f : LoopSt → LoopSt) : (s.modLoop n f).tab = s.tab := rfl
@[simp] theorem modLoop_ang (s : State) (n : Nat) (f : LoopSt → LoopSt) : (s.modLoop n f).ang = s.ang := rfl
@[simp] theorem modLoop_exc (s : State) (n : Nat) (f : LoopSt → LoopSt) : (s.modLoop n f).exc = s.exc := rfl
@[simp] theorem modLoop_conns (s : State) (n : Nat) (f : LoopSt → LoopSt) : (s.modLoop n f).conns = s.conns := rfl
@[simp] theorem modLoop_slices (s : State) (n : Nat) (f : LoopSt → LoopSt) : (s.modLoop n f).slices = s.slices := rfl
@[simp] theorem modLoop_seq (s : State) (n : Nat) (f : LoopSt → LoopSt) : (s.modLoop n f).seq = s.seq := rfl
@[simp] theorem modLoop_cal (s : State) (n : Nat) (f : LoopSt → LoopSt) : (s.modLoop n f).cal = s.cal := rfl
@[simp] theorem modLoop_eng (s : State) (n : Nat) (f : LoopSt → LoopSt) : (s.modLoop n f).eng = s.eng := rfl
@[simp] theorem modLoop_fsk (s : State) (n : Nat) (f : LoopSt → LoopSt) : (s.modLoop n f).fsk = s.fsk := rfl
@[simp] theorem modLoop_rope (s : State) (n : Nat) (f : LoopSt → LoopSt) : (s.modLoop n f).rope = s.rope := rfl
@[simp] theorem modLoop_xfer (s : State) (n : Nat) (f : LoopSt → LoopSt) : (s.modLoop n f).xfer = s.xfer := rfl
@[simp] theorem modLoop_nvm (s : State) (n : Nat) (f : LoopSt → LoopSt) : (s.modLoop n f).nvm = s.nvm := rfl
@[simp] theorem modLoop_log (s : State) (n : Nat) (f : LoopSt → LoopSt) : (s.modLoop n f).log = s.log := rfl
@[simp] theorem modLoop_flt (s : State) (n : Nat) (f : LoopSt → LoopSt) : (s.modLoop n f).flt = s.flt := rfl
@[simp] theorem modLoop_thm (s : State) (n : Nat) (f : LoopSt → LoopSt) : (s.modLoop n f).thm = s.thm := rfl
@[simp] theorem modLoop_now (s : State) (n : Nat) (f : LoopSt → LoopSt) : (s.modLoop n f).now = s.now := rfl
@[simp] theorem modLoop_free (s : State) (n : Nat) (f : LoopSt → LoopSt) : (s.modLoop n f).free = s.free := rfl
@[simp] theorem modLoop_pending (s : State) (n : Nat) (f : LoopSt → LoopSt) : (s.modLoop n f).pending = s.pending := rfl

/-! ### modFsk -/

@[simp] theorem modFsk_fsk (s : State) (n : Nat) (f : FskSt → FskSt) : (s.modFsk n f).fsk = modNth s.fsk n f := rfl
@[simp] theorem modFsk_regs (s : State) (n : Nat) (f : FskSt → FskSt) : (s.modFsk n f).regs = s.regs := rfl
@[simp] theorem modFsk_paths (s : State) (n : Nat) (f : FskSt → FskSt) : (s.modFsk n f).paths = s.paths := rfl
@[simp] theorem modFsk_host (s : State) (n : Nat) (f : FskSt → FskSt) : (s.modFsk n f).host = s.host := rfl
@[simp] theorem modFsk_wins (s : State) (n : Nat) (f : FskSt → FskSt) : (s.modFsk n f).wins = s.wins := rfl
@[simp] theorem modFsk_sys (s : State) (n : Nat) (f : FskSt → FskSt) : (s.modFsk n f).sys = s.sys := rfl
@[simp] theorem modFsk_pwr (s : State) (n : Nat) (f : FskSt → FskSt) : (s.modFsk n f).pwr = s.pwr := rfl
@[simp] theorem modFsk_stg (s : State) (n : Nat) (f : FskSt → FskSt) : (s.modFsk n f).stg = s.stg := rfl
@[simp] theorem modFsk_tab (s : State) (n : Nat) (f : FskSt → FskSt) : (s.modFsk n f).tab = s.tab := rfl
@[simp] theorem modFsk_ang (s : State) (n : Nat) (f : FskSt → FskSt) : (s.modFsk n f).ang = s.ang := rfl
@[simp] theorem modFsk_exc (s : State) (n : Nat) (f : FskSt → FskSt) : (s.modFsk n f).exc = s.exc := rfl
@[simp] theorem modFsk_conns (s : State) (n : Nat) (f : FskSt → FskSt) : (s.modFsk n f).conns = s.conns := rfl
@[simp] theorem modFsk_slices (s : State) (n : Nat) (f : FskSt → FskSt) : (s.modFsk n f).slices = s.slices := rfl
@[simp] theorem modFsk_seq (s : State) (n : Nat) (f : FskSt → FskSt) : (s.modFsk n f).seq = s.seq := rfl
@[simp] theorem modFsk_cal (s : State) (n : Nat) (f : FskSt → FskSt) : (s.modFsk n f).cal = s.cal := rfl
@[simp] theorem modFsk_eng (s : State) (n : Nat) (f : FskSt → FskSt) : (s.modFsk n f).eng = s.eng := rfl
@[simp] theorem modFsk_loops (s : State) (n : Nat) (f : FskSt → FskSt) : (s.modFsk n f).loops = s.loops := rfl
@[simp] theorem modFsk_rope (s : State) (n : Nat) (f : FskSt → FskSt) : (s.modFsk n f).rope = s.rope := rfl
@[simp] theorem modFsk_xfer (s : State) (n : Nat) (f : FskSt → FskSt) : (s.modFsk n f).xfer = s.xfer := rfl
@[simp] theorem modFsk_nvm (s : State) (n : Nat) (f : FskSt → FskSt) : (s.modFsk n f).nvm = s.nvm := rfl
@[simp] theorem modFsk_log (s : State) (n : Nat) (f : FskSt → FskSt) : (s.modFsk n f).log = s.log := rfl
@[simp] theorem modFsk_flt (s : State) (n : Nat) (f : FskSt → FskSt) : (s.modFsk n f).flt = s.flt := rfl
@[simp] theorem modFsk_thm (s : State) (n : Nat) (f : FskSt → FskSt) : (s.modFsk n f).thm = s.thm := rfl
@[simp] theorem modFsk_now (s : State) (n : Nat) (f : FskSt → FskSt) : (s.modFsk n f).now = s.now := rfl
@[simp] theorem modFsk_free (s : State) (n : Nat) (f : FskSt → FskSt) : (s.modFsk n f).free = s.free := rfl
@[simp] theorem modFsk_pending (s : State) (n : Nat) (f : FskSt → FskSt) : (s.modFsk n f).pending = s.pending := rfl

/-! ### modRope -/

@[simp] theorem modRope_rope (s : State) (f : Rope → Rope) : (s.modRope f).rope = f s.rope := rfl
@[simp] theorem modRope_regs (s : State) (f : Rope → Rope) : (s.modRope f).regs = s.regs := rfl
@[simp] theorem modRope_paths (s : State) (f : Rope → Rope) : (s.modRope f).paths = s.paths := rfl
@[simp] theorem modRope_host (s : State) (f : Rope → Rope) : (s.modRope f).host = s.host := rfl
@[simp] theorem modRope_wins (s : State) (f : Rope → Rope) : (s.modRope f).wins = s.wins := rfl
@[simp] theorem modRope_sys (s : State) (f : Rope → Rope) : (s.modRope f).sys = s.sys := rfl
@[simp] theorem modRope_pwr (s : State) (f : Rope → Rope) : (s.modRope f).pwr = s.pwr := rfl
@[simp] theorem modRope_stg (s : State) (f : Rope → Rope) : (s.modRope f).stg = s.stg := rfl
@[simp] theorem modRope_tab (s : State) (f : Rope → Rope) : (s.modRope f).tab = s.tab := rfl
@[simp] theorem modRope_ang (s : State) (f : Rope → Rope) : (s.modRope f).ang = s.ang := rfl
@[simp] theorem modRope_exc (s : State) (f : Rope → Rope) : (s.modRope f).exc = s.exc := rfl
@[simp] theorem modRope_conns (s : State) (f : Rope → Rope) : (s.modRope f).conns = s.conns := rfl
@[simp] theorem modRope_slices (s : State) (f : Rope → Rope) : (s.modRope f).slices = s.slices := rfl
@[simp] theorem modRope_seq (s : State) (f : Rope → Rope) : (s.modRope f).seq = s.seq := rfl
@[simp] theorem modRope_cal (s : State) (f : Rope → Rope) : (s.modRope f).cal = s.cal := rfl
@[simp] theorem modRope_eng (s : State) (f : Rope → Rope) : (s.modRope f).eng = s.eng := rfl
@[simp] theorem modRope_loops (s : State) (f : Rope → Rope) : (s.modRope f).loops = s.loops := rfl
@[simp] theorem modRope_fsk (s : State) (f : Rope → Rope) : (s.modRope f).fsk = s.fsk := rfl
@[simp] theorem modRope_xfer (s : State) (f : Rope → Rope) : (s.modRope f).xfer = s.xfer := rfl
@[simp] theorem modRope_nvm (s : State) (f : Rope → Rope) : (s.modRope f).nvm = s.nvm := rfl
@[simp] theorem modRope_log (s : State) (f : Rope → Rope) : (s.modRope f).log = s.log := rfl
@[simp] theorem modRope_flt (s : State) (f : Rope → Rope) : (s.modRope f).flt = s.flt := rfl
@[simp] theorem modRope_thm (s : State) (f : Rope → Rope) : (s.modRope f).thm = s.thm := rfl
@[simp] theorem modRope_now (s : State) (f : Rope → Rope) : (s.modRope f).now = s.now := rfl
@[simp] theorem modRope_free (s : State) (f : Rope → Rope) : (s.modRope f).free = s.free := rfl
@[simp] theorem modRope_pending (s : State) (f : Rope → Rope) : (s.modRope f).pending = s.pending := rfl

/-! ### modPort -/

@[simp] theorem modPort_regs (s : State) (p : Port) (f : PortSt → PortSt) : (s.modPort p f).regs = s.regs := rfl
@[simp] theorem modPort_paths (s : State) (p : Port) (f : PortSt → PortSt) : (s.modPort p f).paths = s.paths := rfl
@[simp] theorem modPort_host (s : State) (p : Port) (f : PortSt → PortSt) : (s.modPort p f).host = s.host := rfl
@[simp] theorem modPort_wins (s : State) (p : Port) (f : PortSt → PortSt) : (s.modPort p f).wins = s.wins := rfl
@[simp] theorem modPort_sys (s : State) (p : Port) (f : PortSt → PortSt) : (s.modPort p f).sys = s.sys := rfl
@[simp] theorem modPort_pwr (s : State) (p : Port) (f : PortSt → PortSt) : (s.modPort p f).pwr = s.pwr := rfl
@[simp] theorem modPort_stg (s : State) (p : Port) (f : PortSt → PortSt) : (s.modPort p f).stg = s.stg := rfl
@[simp] theorem modPort_tab (s : State) (p : Port) (f : PortSt → PortSt) : (s.modPort p f).tab = s.tab := rfl
@[simp] theorem modPort_ang (s : State) (p : Port) (f : PortSt → PortSt) : (s.modPort p f).ang = s.ang := rfl
@[simp] theorem modPort_exc (s : State) (p : Port) (f : PortSt → PortSt) : (s.modPort p f).exc = s.exc := rfl
@[simp] theorem modPort_conns (s : State) (p : Port) (f : PortSt → PortSt) : (s.modPort p f).conns = s.conns := rfl
@[simp] theorem modPort_slices (s : State) (p : Port) (f : PortSt → PortSt) : (s.modPort p f).slices = s.slices := rfl
@[simp] theorem modPort_seq (s : State) (p : Port) (f : PortSt → PortSt) : (s.modPort p f).seq = s.seq := rfl
@[simp] theorem modPort_cal (s : State) (p : Port) (f : PortSt → PortSt) : (s.modPort p f).cal = s.cal := rfl
@[simp] theorem modPort_eng (s : State) (p : Port) (f : PortSt → PortSt) : (s.modPort p f).eng = s.eng := rfl
@[simp] theorem modPort_loops (s : State) (p : Port) (f : PortSt → PortSt) : (s.modPort p f).loops = s.loops := rfl
@[simp] theorem modPort_fsk (s : State) (p : Port) (f : PortSt → PortSt) : (s.modPort p f).fsk = s.fsk := rfl
@[simp] theorem modPort_xfer (s : State) (p : Port) (f : PortSt → PortSt) : (s.modPort p f).xfer = s.xfer := rfl
@[simp] theorem modPort_nvm (s : State) (p : Port) (f : PortSt → PortSt) : (s.modPort p f).nvm = s.nvm := rfl
@[simp] theorem modPort_log (s : State) (p : Port) (f : PortSt → PortSt) : (s.modPort p f).log = s.log := rfl
@[simp] theorem modPort_flt (s : State) (p : Port) (f : PortSt → PortSt) : (s.modPort p f).flt = s.flt := rfl
@[simp] theorem modPort_thm (s : State) (p : Port) (f : PortSt → PortSt) : (s.modPort p f).thm = s.thm := rfl
@[simp] theorem modPort_now (s : State) (p : Port) (f : PortSt → PortSt) : (s.modPort p f).now = s.now := rfl
@[simp] theorem modPort_free (s : State) (p : Port) (f : PortSt → PortSt) : (s.modPort p f).free = s.free := rfl
@[simp] theorem modPort_pending (s : State) (p : Port) (f : PortSt → PortSt) : (s.modPort p f).pending = s.pending := rfl

/-! ### modLead -/

@[simp] theorem modLead_regs (s : State) (k : Nat) (f : LeadCommit → LeadCommit) : (s.modLead k f).regs = s.regs := rfl
@[simp] theorem modLead_paths (s : State) (k : Nat) (f : LeadCommit → LeadCommit) : (s.modLead k f).paths = s.paths := rfl
@[simp] theorem modLead_host (s : State) (k : Nat) (f : LeadCommit → LeadCommit) : (s.modLead k f).host = s.host := rfl
@[simp] theorem modLead_wins (s : State) (k : Nat) (f : LeadCommit → LeadCommit) : (s.modLead k f).wins = s.wins := rfl
@[simp] theorem modLead_sys (s : State) (k : Nat) (f : LeadCommit → LeadCommit) : (s.modLead k f).sys = s.sys := rfl
@[simp] theorem modLead_pwr (s : State) (k : Nat) (f : LeadCommit → LeadCommit) : (s.modLead k f).pwr = s.pwr := rfl
@[simp] theorem modLead_stg (s : State) (k : Nat) (f : LeadCommit → LeadCommit) : (s.modLead k f).stg = s.stg := rfl
@[simp] theorem modLead_tab (s : State) (k : Nat) (f : LeadCommit → LeadCommit) : (s.modLead k f).tab = s.tab := rfl
@[simp] theorem modLead_ang (s : State) (k : Nat) (f : LeadCommit → LeadCommit) : (s.modLead k f).ang = s.ang := rfl
@[simp] theorem modLead_exc (s : State) (k : Nat) (f : LeadCommit → LeadCommit) : (s.modLead k f).exc = s.exc := rfl
@[simp] theorem modLead_conns (s : State) (k : Nat) (f : LeadCommit → LeadCommit) : (s.modLead k f).conns = s.conns := rfl
@[simp] theorem modLead_slices (s : State) (k : Nat) (f : LeadCommit → LeadCommit) : (s.modLead k f).slices = s.slices := rfl
@[simp] theorem modLead_seq (s : State) (k : Nat) (f : LeadCommit → LeadCommit) : (s.modLead k f).seq = s.seq := rfl
@[simp] theorem modLead_cal (s : State) (k : Nat) (f : LeadCommit → LeadCommit) : (s.modLead k f).cal = s.cal := rfl
@[simp] theorem modLead_eng (s : State) (k : Nat) (f : LeadCommit → LeadCommit) : (s.modLead k f).eng = s.eng := rfl
@[simp] theorem modLead_loops (s : State) (k : Nat) (f : LeadCommit → LeadCommit) : (s.modLead k f).loops = s.loops := rfl
@[simp] theorem modLead_fsk (s : State) (k : Nat) (f : LeadCommit → LeadCommit) : (s.modLead k f).fsk = s.fsk := rfl
@[simp] theorem modLead_xfer (s : State) (k : Nat) (f : LeadCommit → LeadCommit) : (s.modLead k f).xfer = s.xfer := rfl
@[simp] theorem modLead_nvm (s : State) (k : Nat) (f : LeadCommit → LeadCommit) : (s.modLead k f).nvm = s.nvm := rfl
@[simp] theorem modLead_log (s : State) (k : Nat) (f : LeadCommit → LeadCommit) : (s.modLead k f).log = s.log := rfl
@[simp] theorem modLead_flt (s : State) (k : Nat) (f : LeadCommit → LeadCommit) : (s.modLead k f).flt = s.flt := rfl
@[simp] theorem modLead_thm (s : State) (k : Nat) (f : LeadCommit → LeadCommit) : (s.modLead k f).thm = s.thm := rfl
@[simp] theorem modLead_now (s : State) (k : Nat) (f : LeadCommit → LeadCommit) : (s.modLead k f).now = s.now := rfl
@[simp] theorem modLead_free (s : State) (k : Nat) (f : LeadCommit → LeadCommit) : (s.modLead k f).free = s.free := rfl
@[simp] theorem modLead_pending (s : State) (k : Nat) (f : LeadCommit → LeadCommit) : (s.modLead k f).pending = s.pending := rfl

/-! ### modXfer -/

@[simp] theorem modXfer_xfer (s : State) (f : Xfer → Xfer) : (s.modXfer f).xfer = f s.xfer := rfl
@[simp] theorem modXfer_regs (s : State) (f : Xfer → Xfer) : (s.modXfer f).regs = s.regs := rfl
@[simp] theorem modXfer_paths (s : State) (f : Xfer → Xfer) : (s.modXfer f).paths = s.paths := rfl
@[simp] theorem modXfer_host (s : State) (f : Xfer → Xfer) : (s.modXfer f).host = s.host := rfl
@[simp] theorem modXfer_wins (s : State) (f : Xfer → Xfer) : (s.modXfer f).wins = s.wins := rfl
@[simp] theorem modXfer_sys (s : State) (f : Xfer → Xfer) : (s.modXfer f).sys = s.sys := rfl
@[simp] theorem modXfer_pwr (s : State) (f : Xfer → Xfer) : (s.modXfer f).pwr = s.pwr := rfl
@[simp] theorem modXfer_stg (s : State) (f : Xfer → Xfer) : (s.modXfer f).stg = s.stg := rfl
@[simp] theorem modXfer_tab (s : State) (f : Xfer → Xfer) : (s.modXfer f).tab = s.tab := rfl
@[simp] theorem modXfer_ang (s : State) (f : Xfer → Xfer) : (s.modXfer f).ang = s.ang := rfl
@[simp] theorem modXfer_exc (s : State) (f : Xfer → Xfer) : (s.modXfer f).exc = s.exc := rfl
@[simp] theorem modXfer_conns (s : State) (f : Xfer → Xfer) : (s.modXfer f).conns = s.conns := rfl
@[simp] theorem modXfer_slices (s : State) (f : Xfer → Xfer) : (s.modXfer f).slices = s.slices := rfl
@[simp] theorem modXfer_seq (s : State) (f : Xfer → Xfer) : (s.modXfer f).seq = s.seq := rfl
@[simp] theorem modXfer_cal (s : State) (f : Xfer → Xfer) : (s.modXfer f).cal = s.cal := rfl
@[simp] theorem modXfer_eng (s : State) (f : Xfer → Xfer) : (s.modXfer f).eng = s.eng := rfl
@[simp] theorem modXfer_loops (s : State) (f : Xfer → Xfer) : (s.modXfer f).loops = s.loops := rfl
@[simp] theorem modXfer_fsk (s : State) (f : Xfer → Xfer) : (s.modXfer f).fsk = s.fsk := rfl
@[simp] theorem modXfer_rope (s : State) (f : Xfer → Xfer) : (s.modXfer f).rope = s.rope := rfl
@[simp] theorem modXfer_nvm (s : State) (f : Xfer → Xfer) : (s.modXfer f).nvm = s.nvm := rfl
@[simp] theorem modXfer_log (s : State) (f : Xfer → Xfer) : (s.modXfer f).log = s.log := rfl
@[simp] theorem modXfer_flt (s : State) (f : Xfer → Xfer) : (s.modXfer f).flt = s.flt := rfl
@[simp] theorem modXfer_thm (s : State) (f : Xfer → Xfer) : (s.modXfer f).thm = s.thm := rfl
@[simp] theorem modXfer_now (s : State) (f : Xfer → Xfer) : (s.modXfer f).now = s.now := rfl
@[simp] theorem modXfer_free (s : State) (f : Xfer → Xfer) : (s.modXfer f).free = s.free := rfl
@[simp] theorem modXfer_pending (s : State) (f : Xfer → Xfer) : (s.modXfer f).pending = s.pending := rfl

/-! ### setStore -/

@[simp] theorem setStore_nvm (s : State) (m : List Host.Cell) : (s.setStore m).nvm = { s.nvm with store := m } := rfl
@[simp] theorem setStore_regs (s : State) (m : List Host.Cell) : (s.setStore m).regs = s.regs := rfl
@[simp] theorem setStore_paths (s : State) (m : List Host.Cell) : (s.setStore m).paths = s.paths := rfl
@[simp] theorem setStore_host (s : State) (m : List Host.Cell) : (s.setStore m).host = s.host := rfl
@[simp] theorem setStore_wins (s : State) (m : List Host.Cell) : (s.setStore m).wins = s.wins := rfl
@[simp] theorem setStore_sys (s : State) (m : List Host.Cell) : (s.setStore m).sys = s.sys := rfl
@[simp] theorem setStore_pwr (s : State) (m : List Host.Cell) : (s.setStore m).pwr = s.pwr := rfl
@[simp] theorem setStore_stg (s : State) (m : List Host.Cell) : (s.setStore m).stg = s.stg := rfl
@[simp] theorem setStore_tab (s : State) (m : List Host.Cell) : (s.setStore m).tab = s.tab := rfl
@[simp] theorem setStore_ang (s : State) (m : List Host.Cell) : (s.setStore m).ang = s.ang := rfl
@[simp] theorem setStore_exc (s : State) (m : List Host.Cell) : (s.setStore m).exc = s.exc := rfl
@[simp] theorem setStore_conns (s : State) (m : List Host.Cell) : (s.setStore m).conns = s.conns := rfl
@[simp] theorem setStore_slices (s : State) (m : List Host.Cell) : (s.setStore m).slices = s.slices := rfl
@[simp] theorem setStore_seq (s : State) (m : List Host.Cell) : (s.setStore m).seq = s.seq := rfl
@[simp] theorem setStore_cal (s : State) (m : List Host.Cell) : (s.setStore m).cal = s.cal := rfl
@[simp] theorem setStore_eng (s : State) (m : List Host.Cell) : (s.setStore m).eng = s.eng := rfl
@[simp] theorem setStore_loops (s : State) (m : List Host.Cell) : (s.setStore m).loops = s.loops := rfl
@[simp] theorem setStore_fsk (s : State) (m : List Host.Cell) : (s.setStore m).fsk = s.fsk := rfl
@[simp] theorem setStore_rope (s : State) (m : List Host.Cell) : (s.setStore m).rope = s.rope := rfl
@[simp] theorem setStore_xfer (s : State) (m : List Host.Cell) : (s.setStore m).xfer = s.xfer := rfl
@[simp] theorem setStore_log (s : State) (m : List Host.Cell) : (s.setStore m).log = s.log := rfl
@[simp] theorem setStore_flt (s : State) (m : List Host.Cell) : (s.setStore m).flt = s.flt := rfl
@[simp] theorem setStore_thm (s : State) (m : List Host.Cell) : (s.setStore m).thm = s.thm := rfl
@[simp] theorem setStore_now (s : State) (m : List Host.Cell) : (s.setStore m).now = s.now := rfl
@[simp] theorem setStore_free (s : State) (m : List Host.Cell) : (s.setStore m).free = s.free := rfl
@[simp] theorem setStore_pending (s : State) (m : List Host.Cell) : (s.setStore m).pending = s.pending := rfl

/-! ### setTeamW -/

@[simp] theorem setTeamW_regs (s : State) (k e w : Nat) (v : Word) : (setTeamW k e w v s).regs = s.regs := rfl
@[simp] theorem setTeamW_paths (s : State) (k e w : Nat) (v : Word) : (setTeamW k e w v s).paths = s.paths := rfl
@[simp] theorem setTeamW_host (s : State) (k e w : Nat) (v : Word) : (setTeamW k e w v s).host = s.host := rfl
@[simp] theorem setTeamW_wins (s : State) (k e w : Nat) (v : Word) : (setTeamW k e w v s).wins = s.wins := rfl
@[simp] theorem setTeamW_sys (s : State) (k e w : Nat) (v : Word) : (setTeamW k e w v s).sys = s.sys := rfl
@[simp] theorem setTeamW_pwr (s : State) (k e w : Nat) (v : Word) : (setTeamW k e w v s).pwr = s.pwr := rfl
@[simp] theorem setTeamW_stg (s : State) (k e w : Nat) (v : Word) : (setTeamW k e w v s).stg = s.stg := rfl
@[simp] theorem setTeamW_ang (s : State) (k e w : Nat) (v : Word) : (setTeamW k e w v s).ang = s.ang := rfl
@[simp] theorem setTeamW_exc (s : State) (k e w : Nat) (v : Word) : (setTeamW k e w v s).exc = s.exc := rfl
@[simp] theorem setTeamW_conns (s : State) (k e w : Nat) (v : Word) : (setTeamW k e w v s).conns = s.conns := rfl
@[simp] theorem setTeamW_slices (s : State) (k e w : Nat) (v : Word) : (setTeamW k e w v s).slices = s.slices := rfl
@[simp] theorem setTeamW_seq (s : State) (k e w : Nat) (v : Word) : (setTeamW k e w v s).seq = s.seq := rfl
@[simp] theorem setTeamW_cal (s : State) (k e w : Nat) (v : Word) : (setTeamW k e w v s).cal = s.cal := rfl
@[simp] theorem setTeamW_eng (s : State) (k e w : Nat) (v : Word) : (setTeamW k e w v s).eng = s.eng := rfl
@[simp] theorem setTeamW_loops (s : State) (k e w : Nat) (v : Word) : (setTeamW k e w v s).loops = s.loops := rfl
@[simp] theorem setTeamW_fsk (s : State) (k e w : Nat) (v : Word) : (setTeamW k e w v s).fsk = s.fsk := rfl
@[simp] theorem setTeamW_rope (s : State) (k e w : Nat) (v : Word) : (setTeamW k e w v s).rope = s.rope := rfl
@[simp] theorem setTeamW_xfer (s : State) (k e w : Nat) (v : Word) : (setTeamW k e w v s).xfer = s.xfer := rfl
@[simp] theorem setTeamW_nvm (s : State) (k e w : Nat) (v : Word) : (setTeamW k e w v s).nvm = s.nvm := rfl
@[simp] theorem setTeamW_log (s : State) (k e w : Nat) (v : Word) : (setTeamW k e w v s).log = s.log := rfl
@[simp] theorem setTeamW_flt (s : State) (k e w : Nat) (v : Word) : (setTeamW k e w v s).flt = s.flt := rfl
@[simp] theorem setTeamW_thm (s : State) (k e w : Nat) (v : Word) : (setTeamW k e w v s).thm = s.thm := rfl
@[simp] theorem setTeamW_now (s : State) (k e w : Nat) (v : Word) : (setTeamW k e w v s).now = s.now := rfl
@[simp] theorem setTeamW_free (s : State) (k e w : Nat) (v : Word) : (setTeamW k e w v s).free = s.free := rfl
@[simp] theorem setTeamW_pending (s : State) (k e w : Nat) (v : Word) : (setTeamW k e w v s).pending = s.pending := rfl

/-! ### hostAnswer -/

@[simp] theorem hostAnswer_host (s : State) (st : Nat) (d : Word) : (hostAnswer st d s).host = { s.host with answer := ⟨st, d⟩ } := rfl
@[simp] theorem hostAnswer_regs (s : State) (st : Nat) (d : Word) : (hostAnswer st d s).regs = s.regs := rfl
@[simp] theorem hostAnswer_paths (s : State) (st : Nat) (d : Word) : (hostAnswer st d s).paths = s.paths := rfl
@[simp] theorem hostAnswer_wins (s : State) (st : Nat) (d : Word) : (hostAnswer st d s).wins = s.wins := rfl
@[simp] theorem hostAnswer_sys (s : State) (st : Nat) (d : Word) : (hostAnswer st d s).sys = s.sys := rfl
@[simp] theorem hostAnswer_pwr (s : State) (st : Nat) (d : Word) : (hostAnswer st d s).pwr = s.pwr := rfl
@[simp] theorem hostAnswer_stg (s : State) (st : Nat) (d : Word) : (hostAnswer st d s).stg = s.stg := rfl
@[simp] theorem hostAnswer_tab (s : State) (st : Nat) (d : Word) : (hostAnswer st d s).tab = s.tab := rfl
@[simp] theorem hostAnswer_ang (s : State) (st : Nat) (d : Word) : (hostAnswer st d s).ang = s.ang := rfl
@[simp] theorem hostAnswer_exc (s : State) (st : Nat) (d : Word) : (hostAnswer st d s).exc = s.exc := rfl
@[simp] theorem hostAnswer_conns (s : State) (st : Nat) (d : Word) : (hostAnswer st d s).conns = s.conns := rfl
@[simp] theorem hostAnswer_slices (s : State) (st : Nat) (d : Word) : (hostAnswer st d s).slices = s.slices := rfl
@[simp] theorem hostAnswer_seq (s : State) (st : Nat) (d : Word) : (hostAnswer st d s).seq = s.seq := rfl
@[simp] theorem hostAnswer_cal (s : State) (st : Nat) (d : Word) : (hostAnswer st d s).cal = s.cal := rfl
@[simp] theorem hostAnswer_eng (s : State) (st : Nat) (d : Word) : (hostAnswer st d s).eng = s.eng := rfl
@[simp] theorem hostAnswer_loops (s : State) (st : Nat) (d : Word) : (hostAnswer st d s).loops = s.loops := rfl
@[simp] theorem hostAnswer_fsk (s : State) (st : Nat) (d : Word) : (hostAnswer st d s).fsk = s.fsk := rfl
@[simp] theorem hostAnswer_rope (s : State) (st : Nat) (d : Word) : (hostAnswer st d s).rope = s.rope := rfl
@[simp] theorem hostAnswer_xfer (s : State) (st : Nat) (d : Word) : (hostAnswer st d s).xfer = s.xfer := rfl
@[simp] theorem hostAnswer_nvm (s : State) (st : Nat) (d : Word) : (hostAnswer st d s).nvm = s.nvm := rfl
@[simp] theorem hostAnswer_log (s : State) (st : Nat) (d : Word) : (hostAnswer st d s).log = s.log := rfl
@[simp] theorem hostAnswer_flt (s : State) (st : Nat) (d : Word) : (hostAnswer st d s).flt = s.flt := rfl
@[simp] theorem hostAnswer_thm (s : State) (st : Nat) (d : Word) : (hostAnswer st d s).thm = s.thm := rfl
@[simp] theorem hostAnswer_now (s : State) (st : Nat) (d : Word) : (hostAnswer st d s).now = s.now := rfl
@[simp] theorem hostAnswer_free (s : State) (st : Nat) (d : Word) : (hostAnswer st d s).free = s.free := rfl
@[simp] theorem hostAnswer_pending (s : State) (st : Nat) (d : Word) : (hostAnswer st d s).pending = s.pending := rfl

end Sys2Proof.Machine
end

