-- ==== Sys2Proof/Machine/Pins.lean ====
section
/-! DEFINITION. What the balls of R11 show, computed from the state: the levels of the outputs, the supply domains and the
use of REFIO (R295, R296). -/

namespace Sys2Proof.Machine

/-- What an output or a supply ball shows: unpowered, high impedance, a level, a voltage in mV that the device drives, or
the signal of a transfer under way. -/
inductive PinLevel where
  | off
  | highZ
  | low
  | high
  | millivolts (v : Nat)
  | signal
deriving DecidableEq, Repr

/-- The domains VA, VD and VIO are alive: the regulators have started (R11, R71). -/
def State.regulatorsOn (s : State) : Bool := s.sys.vddio

/-- The ball of a VIO output: nothing while VDDIO is off. -/
def State.vio (s : State) (l : PinLevel) : PinLevel := if s.regulatorsOn then l else .off

def levelOf (b : Bool) : PinLevel := if b then .high else .low

def State.pinVdda (s : State) : PinLevel := if s.regulatorsOn then .millivolts 3300 else .off
def State.pinVddd (s : State) : PinLevel := if s.regulatorsOn then .millivolts 1200 else .off
def State.pinVddio (s : State) : PinLevel := if s.regulatorsOn then .millivolts 3300 else .off

/-- VHST: 3.3 V while the host supply is switched on. -/
def State.pinVhst (s : State) : PinLevel := if s.flag .PWR_HOSTG_VHSTON then .millivolts 3300 else .off

/-- The crystal oscillator on XTI and XTO runs from boot stage 1. -/
def State.pinXtoRuns (s : State) : Bool := s.sys.xosc

/-- HIRQ, active low (R124); inactive at reset. -/
def State.pinHirq (s : State) : PinLevel := s.vio (levelOf (s.sys.held || !s.hirq))

/-- HSDO is driven while HCS is low only. -/
def State.pinHsdo (s : State) : PinLevel := s.vio (if s.host.driven && !s.sys.held then .signal else .highZ)

/-- FLTH and FLTL: both low while VDDIO is off (R646). -/
def State.pinFlth (s : State) : PinLevel := levelOf s.flth
def State.pinFltl (s : State) : PinLevel := levelOf s.fltl

/-- The memory port carries an operation: one of R557, or the image reads of boot phases 2 and 3. -/
def State.memoryBusy (s : State) : Bool :=
  !s.sys.held && (s.xfer.op.isSome || (!s.isActive && (s.phase == 2 || s.phase == 3)))

/-- MCS driven high, MSCK driven low and MIO0 to MIO3 at high impedance, but for an operation. -/
def State.pinMcs (s : State) : PinLevel := s.vio (if s.memoryBusy then .signal else .high)
def State.pinMsck (s : State) : PinLevel := s.vio (if s.memoryBusy then .signal else .low)
def State.pinMio (s : State) : PinLevel := s.vio (if s.memoryBusy then .signal else .highZ)

/-- The transmit pair of a rope port: its driver is on while the port is running (R490). -/
def State.pinRopeTx (s : State) (state : Fld) : PinLevel :=
  s.vio (if s.sys.held || s.fld state == 0 then .highZ else .signal)

/-- SHNT: driven low at reset; high while the external shunt carries surplus (R31). -/
def State.pinShnt (s : State) : PinLevel := levelOf (!s.sys.held && s.flag .PWR_STAT_SHEXT)

/-- A ball AIN0 to AIN47: at high impedance unless the crosspoint connects it (R219). -/
def State.pinAin (s : State) (k : Nat) : PinLevel :=
  if !s.sys.held && s.conns.any (fun c => c.pin == k) then .signal else .highZ

/-- LPG of loop n: the start-up regulator after POR and BOR, and the held or commanded setpoint otherwise, in µA (R11). -/
def State.pinLpgUa (s : State) (n : Nat) : Nat := s.setpointUa n

/-- REFCAP is discharged by an internal switch until the reference buffer is on (R294). -/
def State.refcapDischarged (s : State) : Bool := s.sys.held || !s.flag .REF_STAT_BUFON

/-- REFIO by IOMODE (R295, R296): high-impedance when OFF, an input when IN, and 2.500 V when OUT with BUFEN = 1 and the
buffer on, else high-impedance. -/
inductive RefioUse where
  | highZ
  | drives (mv : Nat)
  | input
deriving DecidableEq, Repr

def State.refio (s : State) : RefioUse :=
  if s.sys.held then .highZ
  else match s.fld .REF_CTRL_IOMODE with
    | 1 => if s.flag .REF_CTRL_BUFEN && s.flag .REF_STAT_BUFON then .drives 2500 else .highZ
    | 2 => .input
    | _ => .highZ

end Sys2Proof.Machine
end

