-- ==== Sys2Proof/Tests/Slice0.lean ====
section
/-! SUPPORT. Tests: a well-formed and ill-formed term for each check of WellFormed.lean; worked examples of the spec; and
for each clause of each statement that has hypotheses a state and operands that meet them all together. -/

set_option maxRecDepth 20000
set_option linter.unusedVariables false
set_option Elab.async false

namespace Sys2Proof.Tests

open Sys2Proof Sys2Proof.Machine

/-- An active unit: the boot over, six loops in bypass or above, profile 3 with six harvesting, a part-filled store,
the default map locked. -/
def active : State := { State.reset with
  regs := [(Reg.SYS_BOOTST, 0x8000), (Reg.SYS_STAT, 0x4020), (Reg.PWR_STAT, 0), (Reg.PWR_PROFILE, 0x0603),
    (Reg.PWR_LOOPS, 0x0AAA), (Reg.PWR_CAP, 220), (Reg.PWR_STORE, 2000), (Reg.PWR_AVAIL, 1200), (Reg.PWR_GUAR, 1000)]
  sys := { State.reset.sys with
    held := false, asserted := [], prot := defaultMap ++ [protCheck defaultMap], vddio := true, slicesOn := true
    crystal := true, boot := { State.reset.sys.boot with lockDone := true } } }

/-- A host read frame with its CRC. -/
def crcR (f : HostFrame) : HostFrame := { f with crc := (crc8 (hostFrameBytes false f)).toNat }

/-- A host write frame with its CRC. -/
def crcW (f : HostFrame) : HostFrame := { f with crc := (crc8 (hostFrameBytes true f)).toNat }

/-- Two beacons. -/
def bcns : List Beacon :=
  [⟨3, 500, 655360, 77, false, true, false, false, false⟩, ⟨9, 40000, 50, 12, true, false, true, true, true⟩]

/-- A command frame of a master on an FSK channel. -/
def frameF : FskFrame := ⟨5, 0x02, 0, true, 3, [1, 2, 3], false, false, false, false, false⟩

/-- The next state that a command answers. -/
def after (c : Instr) (s : State) : State :=
  match exec c s with
  | .next t => t
  | _ => s

/-- The outcome is the fault of an operand out of range. -/
def isFault : Host.Outcome State Fault Refusal → Bool
  | .fault .badOperand => true
  | _ => false

namespace Shape

/-- A well-formed term of each command whose operands are checked, part 1. -/
def good1 : List Instr := [
  .softwareReset .host 1,
  .bootOscillator false false 0,
  .bootHeaders false none,
  .leaveHarvest 1,
  .liftProbe 1 1,
  .budgetRecompute (List.replicate 6 0),
  .leaseWithdrawDeadline .exc,
  .leaseLevelReached .exc,
  .leaseRequest .exc 1,
  .storeMeasurement 1,
  .burstRequest .exc 1,
  .hostpWrite .host 1,
  .hostOverdraw 1,
  .hostSupplyCut 1,
  .vddaWarn 1,
  .setRedreq .host,
  .clearRedreq .host,
  .setBivreq .host,
  .clearBivreq .host,
  .hostReadFrame ⟨0, 0, false, 0, 0, true⟩,
  .hostWriteFrame ⟨0, 0, false, 0, 0, true⟩,
  .hostNopFrame 1 false,
  .hostFrameAbort 1,
  .registerWrite .host 1 1,
  .readClear .host 1,
  .windowSpaceWrite .host 1 1,
  .windowDataAccess .host 1 none,
  .windowIdleClose 1,
  .commit .host 1,
  .check .host 1,
  .discard .host,
  .beaconReceive ⟨0, 0, 0, 0, false, false, false, false, false⟩ false,
  .timeTrigger 1,
  .afterTrigger 1,
  .windowSetup 1,
  .settleEnd 1,
  .timeWindowEnd 1,
  .windowLimit 1,
  .halfWindowExchange 1,
  .resultWrite 1 ⟨0, 0, 0, 0, 0, 0, 0, false, false, [], false⟩ none,
  .complianceLoss 1,
  .excOvercurrent 1,
  .excApplicationPoint 1,
  .excReconnect 1,
  .sliceForce .host 1 1,
  .sliceDirectWrite .host 1,
  .urgentRequest .host 1,
  .sequencerStart .host,
  .sequencerStop .host,
  .clrcnt .host,
  .topoScrub 1,
  .calPeriodExpire 1,
  .calibrationComplete (List.replicate 8 (0, 0)) (List.replicate 8 (0, 0)),
  .coefScrub 1,
  .save .host,
  .syszero .host 1 1,
  .sysfull .host 1 1,
  .syscalPointDone (List.replicate 16 0) (List.replicate 16 0) false,
  .now .host 1,
  .retest .host 1]

/-- A well-formed term of each command whose operands are checked, part 2. -/
def good2 : List Instr := [
  .reload .host,
  .factory .host,
  .engineCycleStart 1,
  .engineCycleEnd 1 (some 1) false,
  .twinStorageCheck 1,
  .charScrub 1,
  .fvtmoExpire 1,
  .loopFixedWrite .host 1 1,
  .readbackWindowEnd 1 1 1,
  .lowvDetect 1,
  .lowvClear 1,
  .lvtmoExpire 1,
  .lvalmRetry 1,
  .fskFrameReceive 1 ⟨5, 2, 0, false, 0, [], false, false, false, false, false⟩,
  .fskFrameAbort 1,
  .messagePost .host 1 1,
  .messageDrop .host 1 1,
  .responseSent 1,
  .messageExpire 1 1,
  .burstFrameSend 1 1,
  .readWords 1 false false [],
  .writeWords 1 false false [],
  .helloReceive .up ⟨0, 0, 0, false, false, false⟩,
  .credit .up 1 1 [],
  .rd 1 1 1 1,
  .wr 1 1 1 1 1,
  .rsp 1 1 1 1,
  .query 1,
  .report 1 1 1,
  .assign 1 1 1 1 1,
  .done 1 1,
  .reattach 1,
  .rst 1 1 1 1,
  .wake 1 1 1,
  .evt 1 (List.replicate 28 0),
  .define .host 1 false [],
  .delete .host 1,
  .teamRegister 1 1 1,
  .deregister 1 1,
  .expand 1 1,
  .join 1 1,
  .leave 1 1,
  .teamPoll 1,
  .summary 1 1 ⟨0, false, 0, 0, 0, 0, 0⟩,
  .teamMemberTimeout 1 1,
  .teamCommit .host 1 1,
  .cancel .host 1,
  .prepare 1 1 1 1 1 1,
  .vote 1 1 1 false 1,
  .voteTimeout 1,
  .commitResend 1,
  .teamOutcome 1,
  .teamCommitReceive 1 1 1,
  .abort 1 1 1,
  .cack 1 1 1 false,
  .data 1 [],
  .arm .host,
  .trigger .host,
  .stop .host,
  .xferCtrlWrite .host 1]

/-- A well-formed term of each command whose operands are checked, part 3. -/
def good3 : List Instr := [
  .pullRead .host,
  .read .host 1 1,
  .write .host 1 [],
  .eraseSector .host 1,
  .nvmAddrWrite .host 1,
  .nvmDataAccess .host none,
  .nvmKeyWrite .host 1,
  .prog .host,
  .erase .host,
  .jread .host,
  .jwrite .host 1,
  .lsave .host 1,
  .cinc .host 1,
  .bucketRefill 1,
  .logSeqRead .host,
  .logWinLatch .host,
  .logChalRead .host,
  .logClrSubmit .host 1,
  .belayReport 1 1 1 1,
  .wireFault 1 false,
  .levelRepeat 1,
  .clear .host,
  .clearall .host,
  .kick .host,
  .injectionArm .host,
  .faultInject .host 1,
  .thermalSample 0 0 0 0,
  .vddaRecoveryRise 1,
  .carrierDetect 1 false,
  .minimumWindowEnd 1]

/-- Terms with one operand out of range, one for each check, part 1. -/
def bad1 : List Instr := [
  .softwareReset (.rope 32) 1,
  .softwareReset (.loop 6) 1,
  .softwareReset .host (2 ^ 80),
  .bootOscillator false false 3,
  .bootOscillator false false 4096,
  .bootHeaders false (some ⟨true, 256, 0, 256, 1, 0, 0, true, 0, 0, 0, 0⟩),
  .bootHeaders false (some ⟨true, 0x20, 0, 256, 1, 3, 0, true, 0, 0, 0, 0⟩),
  .bootHeaders false (some ⟨true, 0x20, 2 ^ 32, 256, 1, 0, 0, true, 0, 0, 0, 0⟩),
  .bootHeaders false (some ⟨true, 0x20, 0, 0, 1, 0, 0, true, 0, 0, 0, 0⟩),
  .bootHeaders false (some ⟨true, 0x20, 0, 256, 0, 0, 0, true, 0, 0, 0, 0⟩),
  .leaveHarvest (2 ^ 80),
  .liftProbe (2 ^ 80) 1,
  .liftProbe 1 781,
  .budgetRecompute [],
  .leaseWithdrawDeadline .nvm,
  .leaseLevelReached .nvm,
  .leaseRequest .nvm 1,
  .storeMeasurement (2 ^ 80),
  .burstRequest .host 1,
  .hostpWrite (.rope 32) 1,
  .hostpWrite (.loop 6) 1,
  .hostpWrite .host (2 ^ 80),
  .hostOverdraw (2 ^ 80),
  .hostSupplyCut (2 ^ 80),
  .vddaWarn (2 ^ 80),
  .setRedreq (.rope 32),
  .setRedreq (.loop 6),
  .clearRedreq (.rope 32),
  .clearRedreq (.loop 6),
  .setBivreq (.rope 32),
  .setBivreq (.loop 6),
  .clearBivreq (.rope 32),
  .clearBivreq (.loop 6),
  .hostReadFrame ⟨32, 0, false, 0, 0, true⟩,
  .hostReadFrame ⟨0, 512, false, 0, 0, true⟩,
  .hostReadFrame ⟨0, 0, false, 65536, 0, true⟩,
  .hostReadFrame ⟨0, 0, false, 0, 256, true⟩,
  .hostWriteFrame ⟨32, 0, false, 0, 0, true⟩,
  .hostWriteFrame ⟨0, 512, false, 0, 0, true⟩,
  .hostWriteFrame ⟨0, 0, false, 65536, 0, true⟩,
  .hostWriteFrame ⟨0, 0, false, 0, 256, true⟩,
  .hostNopFrame (2 ^ 80) false,
  .hostFrameAbort 40,
  .registerWrite (.rope 32) 1 1,
  .registerWrite (.loop 6) 1 1,
  .registerWrite .host (2 ^ 80) 1,
  .registerWrite .host 1 (2 ^ 80),
  .readClear (.rope 32) 1,
  .readClear (.loop 6) 1,
  .readClear .host (2 ^ 80),
  .windowSpaceWrite (.rope 32) 1 1,
  .windowSpaceWrite (.loop 6) 1 1,
  .windowSpaceWrite .host (2 ^ 80) 1,
  .windowSpaceWrite .host 1 (2 ^ 80),
  .windowDataAccess (.rope 32) 1 none,
  .windowDataAccess (.loop 6) 1 none,
  .windowDataAccess .host (2 ^ 80) none,
  .windowDataAccess .host 1 (some 65536),
  .windowIdleClose (2 ^ 80),
  .commit (.rope 32) 1,
  .commit (.loop 6) 1,
  .commit .host (2 ^ 80)]

/-- Terms with one operand out of range, one for each check, part 2. -/
def bad2 : List Instr := [
  .check (.rope 32) 1,
  .check (.loop 6) 1,
  .check .host (2 ^ 80),
  .discard (.rope 32),
  .discard (.loop 6),
  .beaconReceive ⟨256, 0, 0, 0, false, false, false, false, false⟩ false,
  .beaconReceive ⟨0, 65536, 0, 0, false, false, false, false, false⟩ false,
  .beaconReceive ⟨0, 0, 2 ^ 32, 0, false, false, false, false, false⟩ false,
  .beaconReceive ⟨0, 0, 0, 2 ^ 32, false, false, false, false, false⟩ false,
  .timeTrigger (2 ^ 80),
  .afterTrigger (2 ^ 80),
  .windowSetup (2 ^ 80),
  .settleEnd (2 ^ 80),
  .timeWindowEnd (2 ^ 80),
  .windowLimit (2 ^ 80),
  .halfWindowExchange (2 ^ 80),
  .resultWrite (2 ^ 80) ⟨0, 0, 0, 0, 0, 0, 0, false, false, [], false⟩ none,
  .resultWrite 1 ⟨0, 0, 0, 0, 1, 0, 0, false, false, [], false⟩ none,
  .resultWrite 1 ⟨0, 0, 0, 0, 0, 0, 1, false, false, [], false⟩ none,
  .resultWrite 1 ⟨0, 0, 0, 0, 0, 0, 0, false, false, [], false⟩ (some ⟨0, 0, 0, 0, 1, 0, 0, false, false, [], false⟩),
  .complianceLoss (2 ^ 80),
  .excOvercurrent (2 ^ 80),
  .excApplicationPoint (2 ^ 80),
  .excReconnect (2 ^ 80),
  .sliceForce (.rope 32) 1 1,
  .sliceForce (.loop 6) 1 1,
  .sliceForce .host (2 ^ 80) 1,
  .sliceForce .host 1 (2 ^ 80),
  .sliceDirectWrite (.rope 32) 1,
  .sliceDirectWrite (.loop 6) 1,
  .sliceDirectWrite .host (2 ^ 80),
  .urgentRequest (.rope 32) 1,
  .urgentRequest (.loop 6) 1,
  .urgentRequest .host (2 ^ 80),
  .sequencerStart (.rope 32),
  .sequencerStart (.loop 6),
  .sequencerStop (.rope 32),
  .sequencerStop (.loop 6),
  .clrcnt (.rope 32),
  .clrcnt (.loop 6),
  .topoScrub (2 ^ 80),
  .calPeriodExpire (2 ^ 80),
  .calibrationComplete [] (List.replicate 8 (0, 0)),
  .calibrationComplete (List.replicate 8 (8388608, 0)) (List.replicate 8 (0, 0)),
  .calibrationComplete (List.replicate 8 (0, -8388609)) (List.replicate 8 (0, 0)),
  .calibrationComplete (List.replicate 8 (0, 0)) [],
  .calibrationComplete (List.replicate 8 (0, 0)) (List.replicate 8 (8388608, 0)),
  .calibrationComplete (List.replicate 8 (0, 0)) (List.replicate 8 (0, -8388609)),
  .coefScrub (2 ^ 80),
  .save (.rope 32),
  .save (.loop 6),
  .syszero (.rope 32) 1 1,
  .syszero (.loop 6) 1 1,
  .syszero .host (2 ^ 80) 1,
  .syszero .host 1 (2 ^ 80),
  .sysfull (.rope 32) 1 1,
  .sysfull (.loop 6) 1 1,
  .sysfull .host (2 ^ 80) 1,
  .sysfull .host 1 (2 ^ 80),
  .syscalPointDone (List.replicate 16 8388608) (List.replicate 16 0) true,
  .syscalPointDone [] (List.replicate 16 0) true]

/-- Terms with one operand out of range, one for each check, part 3. -/
def bad3 : List Instr := [
  .syscalPointDone (List.replicate 16 0) (List.replicate 16 (-8388609)) true,
  .syscalPointDone (List.replicate 16 0) [] true,
  .now (.rope 32) 1,
  .now (.loop 6) 1,
  .now .host (2 ^ 80),
  .retest (.rope 32) 1,
  .retest (.loop 6) 1,
  .retest .host (2 ^ 80),
  .reload (.rope 32),
  .reload (.loop 6),
  .factory (.rope 32),
  .factory (.loop 6),
  .engineCycleStart (2 ^ 80),
  .engineCycleEnd (2 ^ 80) none false,
  .engineCycleEnd 1 (some (2 ^ 80)) false,
  .twinStorageCheck (2 ^ 80),
  .charScrub (2 ^ 80),
  .fvtmoExpire (2 ^ 80),
  .loopFixedWrite (.rope 32) 1 1,
  .loopFixedWrite (.loop 6) 1 1,
  .loopFixedWrite .host (2 ^ 80) 1,
  .loopFixedWrite .host 1 (2 ^ 80),
  .readbackWindowEnd (2 ^ 80) 1 1,
  .readbackWindowEnd 1 (2 ^ 80) 1,
  .readbackWindowEnd 1 1 (2 ^ 80),
  .lowvDetect (2 ^ 80),
  .lowvClear (2 ^ 80),
  .lvtmoExpire (2 ^ 80),
  .lvalmRetry (2 ^ 80),
  .fskFrameReceive (2 ^ 80) ⟨5, 2, 0, false, 0, [], false, false, false, false, false⟩,
  .fskFrameReceive 1 ⟨5, 256, 0, false, 0, [], false, false, false, false, false⟩,
  .fskFrameReceive 1 ⟨5, 2, 64, false, 0, [], false, false, false, false, false⟩,
  .fskFrameReceive 1 ⟨5, 0x82, 2 ^ 38, false, 0, [], false, false, false, false, false⟩,
  .fskFrameReceive 1 ⟨5, 2, 0, false, 256, [], false, false, false, false, false⟩,
  .fskFrameReceive 1 ⟨5, 2, 0, false, 0, List.replicate 256 0, false, false, false, false, false⟩,
  .fskFrameAbort (2 ^ 80),
  .messagePost (.rope 32) 1 1,
  .messagePost (.loop 6) 1 1,
  .messagePost .host (2 ^ 80) 1,
  .messagePost .host 1 (2 ^ 80),
  .messageDrop (.rope 32) 1 1,
  .messageDrop (.loop 6) 1 1,
  .messageDrop .host (2 ^ 80) 1,
  .messageDrop .host 1 (2 ^ 80),
  .responseSent (2 ^ 80),
  .messageExpire (2 ^ 80) 1,
  .messageExpire 1 (2 ^ 80),
  .burstFrameSend (2 ^ 80) 1,
  .burstFrameSend 1 (2 ^ 80),
  .readWords (2 ^ 80) false false [],
  .readWords 1 false false (List.replicate 256 0),
  .writeWords (2 ^ 80) false false [],
  .writeWords 1 false false (List.replicate 256 0),
  .helloReceive .up ⟨2 ^ 64, 0, 0, false, false, false⟩,
  .helloReceive .up ⟨0, 32, 0, false, false, false⟩,
  .helloReceive .up ⟨0, 0, 32, false, false, false⟩,
  .credit .up (2 ^ 80) 1 [],
  .credit .up 1 (2 ^ 80) [],
  .credit .up 1 1 [0],
  .credit .up 1 1 (List.replicate 4 256),
  .rd (2 ^ 80) 1 1 1]

/-- Terms with one operand out of range, one for each check, part 4. -/
def bad4 : List Instr := [
  .rd 1 (2 ^ 80) 1 1,
  .rd 1 1 (2 ^ 80) 1,
  .rd 1 1 1 (2 ^ 80),
  .wr (2 ^ 80) 1 1 1 1,
  .wr 1 (2 ^ 80) 1 1 1,
  .wr 1 1 (2 ^ 80) 1 1,
  .wr 1 1 1 (2 ^ 80) 1,
  .wr 1 1 1 1 (2 ^ 80),
  .rsp (2 ^ 80) 1 1 1,
  .rsp 1 (2 ^ 80) 1 1,
  .rsp 1 1 (2 ^ 80) 1,
  .rsp 1 1 1 (2 ^ 80),
  .query (2 ^ 80),
  .report (2 ^ 80) 1 1,
  .report 1 (2 ^ 80) 1,
  .report 1 1 (2 ^ 80),
  .assign (2 ^ 80) 1 1 1 1,
  .assign 1 (2 ^ 80) 1 1 1,
  .assign 1 1 (2 ^ 80) 1 1,
  .assign 1 1 1 (2 ^ 80) 1,
  .assign 1 1 1 1 (2 ^ 80),
  .done (2 ^ 80) 1,
  .done 1 (2 ^ 80),
  .reattach (2 ^ 80),
  .rst (2 ^ 80) 1 1 1,
  .rst 1 (2 ^ 80) 1 1,
  .rst 1 1 (2 ^ 80) 1,
  .rst 1 1 1 (2 ^ 80),
  .wake (2 ^ 80) 1 1,
  .wake 1 (2 ^ 80) 1,
  .wake 1 1 (2 ^ 80),
  .evt (2 ^ 80) (List.replicate 28 0),
  .evt 1 [],
  .define (.rope 32) 1 false [],
  .define (.loop 6) 1 false [],
  .define .host (2 ^ 80) false [],
  .delete (.rope 32) 1,
  .delete (.loop 6) 1,
  .delete .host (2 ^ 80),
  .teamRegister (2 ^ 80) 1 1,
  .teamRegister 1 (2 ^ 80) 1,
  .teamRegister 1 1 (2 ^ 80),
  .deregister (2 ^ 80) 1,
  .deregister 1 (2 ^ 80),
  .expand (2 ^ 80) 1,
  .expand 1 (2 ^ 80),
  .join (2 ^ 80) 1,
  .join 1 (2 ^ 80),
  .leave (2 ^ 80) 1,
  .leave 1 (2 ^ 80),
  .teamPoll (2 ^ 80),
  .summary (2 ^ 80) 1 ⟨0, false, 0, 0, 0, 0, 0⟩,
  .summary 1 (2 ^ 80) ⟨0, false, 0, 0, 0, 0, 0⟩,
  .summary 1 1 ⟨2 ^ 64, false, 0, 0, 0, 0, 0⟩,
  .summary 1 1 ⟨0, false, 4, 0, 0, 0, 0⟩,
  .summary 1 1 ⟨0, false, 0, 65536, 0, 0, 0⟩,
  .summary 1 1 ⟨0, false, 0, 0, 65536, 0, 0⟩,
  .summary 1 1 ⟨0, false, 0, 0, 0, 2 ^ 32, 0⟩,
  .summary 1 1 ⟨0, false, 0, 0, 0, 0, 2 ^ 32⟩,
  .teamMemberTimeout (2 ^ 80) 1]

/-- Terms with one operand out of range, one for each check, part 5. -/
def bad5 : List Instr := [
  .teamMemberTimeout 1 (2 ^ 80),
  .teamCommit (.rope 32) 1 1,
  .teamCommit (.loop 6) 1 1,
  .teamCommit .host (2 ^ 80) 1,
  .teamCommit .host 1 (2 ^ 80),
  .cancel (.rope 32) 1,
  .cancel (.loop 6) 1,
  .cancel .host (2 ^ 80),
  .prepare (2 ^ 80) 1 1 1 1 1,
  .prepare 1 (2 ^ 80) 1 1 1 1,
  .prepare 1 1 (2 ^ 80) 1 1 1,
  .prepare 1 1 1 (2 ^ 80) 1 1,
  .prepare 1 1 1 1 (2 ^ 80) 1,
  .prepare 1 1 1 1 1 (2 ^ 80),
  .vote (2 ^ 80) 1 1 false 1,
  .vote 1 (2 ^ 80) 1 false 1,
  .vote 1 1 (2 ^ 80) false 1,
  .vote 1 1 1 false (2 ^ 80),
  .voteTimeout (2 ^ 80),
  .commitResend (2 ^ 80),
  .teamOutcome (2 ^ 80),
  .teamCommitReceive (2 ^ 80) 1 1,
  .teamCommitReceive 1 (2 ^ 80) 1,
  .teamCommitReceive 1 1 (2 ^ 80),
  .abort (2 ^ 80) 1 1,
  .abort 1 (2 ^ 80) 1,
  .abort 1 1 (2 ^ 80),
  .cack (2 ^ 80) 1 1 false,
  .cack 1 (2 ^ 80) 1 false,
  .cack 1 1 (2 ^ 80) false,
  .data (2 ^ 80) [],
  .data 1 (List.replicate 65 0),
  .arm (.rope 32),
  .arm (.loop 6),
  .trigger (.rope 32),
  .trigger (.loop 6),
  .stop (.rope 32),
  .stop (.loop 6),
  .xferCtrlWrite (.rope 32) 1,
  .xferCtrlWrite (.loop 6) 1,
  .xferCtrlWrite .host (2 ^ 80),
  .pullRead (.rope 32),
  .pullRead (.loop 6),
  .read (.rope 32) 1 1,
  .read (.loop 6) 1 1,
  .read .host (2 ^ 80) 1,
  .read .host 1 (2 ^ 80),
  .write (.rope 32) 1 [],
  .write (.loop 6) 1 [],
  .write .host (2 ^ 80) [],
  .write .host 1 (List.replicate 256 0),
  .write .host 1 [65536],
  .eraseSector (.rope 32) 1,
  .eraseSector (.loop 6) 1,
  .eraseSector .host (2 ^ 80),
  .nvmAddrWrite (.rope 32) 1,
  .nvmAddrWrite (.loop 6) 1,
  .nvmAddrWrite .host (2 ^ 80),
  .nvmDataAccess (.rope 32) none,
  .nvmDataAccess (.loop 6) none]

/-- Terms with one operand out of range, one for each check, part 6. -/
def bad6 : List Instr := [
  .nvmDataAccess .host (some 65536),
  .nvmKeyWrite (.rope 32) 1,
  .nvmKeyWrite (.loop 6) 1,
  .nvmKeyWrite .host (2 ^ 80),
  .prog (.rope 32),
  .prog (.loop 6),
  .erase (.rope 32),
  .erase (.loop 6),
  .jread (.rope 32),
  .jread (.loop 6),
  .jwrite (.rope 32) 1,
  .jwrite (.loop 6) 1,
  .jwrite .host (2 ^ 80),
  .lsave (.rope 32) 1,
  .lsave (.loop 6) 1,
  .lsave .host (2 ^ 80),
  .cinc (.rope 32) 1,
  .cinc (.loop 6) 1,
  .cinc .host (2 ^ 80),
  .bucketRefill (2 ^ 80),
  .logSeqRead (.rope 32),
  .logSeqRead (.loop 6),
  .logWinLatch (.rope 32),
  .logWinLatch (.loop 6),
  .logChalRead (.rope 32),
  .logChalRead (.loop 6),
  .logClrSubmit (.rope 32) 1,
  .logClrSubmit (.loop 6) 1,
  .logClrSubmit .host (2 ^ 80),
  .belayReport (2 ^ 80) 1 1 1,
  .belayReport 1 (2 ^ 80) 1 1,
  .belayReport 1 1 (2 ^ 80) 1,
  .wireFault (2 ^ 80) false,
  .levelRepeat 3,
  .clear (.rope 32),
  .clear (.loop 6),
  .clearall (.rope 32),
  .clearall (.loop 6),
  .kick (.rope 32),
  .kick (.loop 6),
  .injectionArm (.rope 32),
  .injectionArm (.loop 6),
  .faultInject (.rope 32) 1,
  .faultInject (.loop 6) 1,
  .faultInject .host (2 ^ 80),
  .thermalSample 32768 0 0 0,
  .thermalSample 0 (-32769) 0 0,
  .thermalSample 0 0 32768 0,
  .thermalSample 0 0 0 32768,
  .vddaRecoveryRise (2 ^ 80),
  .carrierDetect (2 ^ 80) false,
  .minimumWindowEnd (2 ^ 80)]

theorem test_accepts_1 : good1.all Instr.wellFormed = true := by decide +kernel

theorem test_accepts_2 : good2.all Instr.wellFormed = true := by decide +kernel

theorem test_accepts_3 : good3.all Instr.wellFormed = true := by decide +kernel

theorem test_refuses_1 : bad1.all (fun c => !c.wellFormed) = true := by decide +kernel

theorem test_refuses_2 : bad2.all (fun c => !c.wellFormed) = true := by decide +kernel

theorem test_refuses_3 : bad3.all (fun c => !c.wellFormed) = true := by decide +kernel

theorem test_refuses_4 : bad4.all (fun c => !c.wellFormed) = true := by decide +kernel

theorem test_refuses_5 : bad5.all (fun c => !c.wellFormed) = true := by decide +kernel

theorem test_refuses_6 : bad6.all (fun c => !c.wellFormed) = true := by decide +kernel

theorem test_faults_1 : bad1.all (fun c => isFault (exec c active)) = true := by decide +kernel

theorem test_faults_2 : bad2.all (fun c => isFault (exec c active)) = true := by decide +kernel

theorem test_faults_3 : bad3.all (fun c => isFault (exec c active)) = true := by decide +kernel

theorem test_faults_4 : bad4.all (fun c => isFault (exec c active)) = true := by decide +kernel

theorem test_faults_5 : bad5.all (fun c => isFault (exec c active)) = true := by decide +kernel

theorem test_faults_6 : bad6.all (fun c => isFault (exec c active)) = true := by decide +kernel

end Shape

namespace Worked

/-! Worked examples of the spec, and one step of some commands with the result that the spec gives. -/

/-- The example of R121: the CRC of a host write of SYS.MODE and of its answer. -/
theorem test_host_crc : crc8 [0x80, 0x16, 0x80, 0x00] = 0x89 ∧ crc8 [0x00, 0x80, 0x00] = 0x9D := by decide +kernel

/-- The example of R121: the frame 0x80 0x16 0x80 0x00 0x89 sets REDREQ, and its answer carries 0x8000. -/
theorem test_host_write_frame :
    (after (.hostWriteFrame ⟨0, 0x00B, false, 0x8000, 0x89, true⟩) active).flag .SYS_MODE_REDREQ = true ∧
    (after (.hostWriteFrame ⟨0, 0x00B, false, 0x8000, 0x89, true⟩) active).host.answer = ⟨0, 0x8000⟩ := by decide +kernel

/-- The example after R146: result entry 17 holds 0x3C81 and 0x1A2B; a window at entry 17 reads the one, then the other. -/
def resultWindow : State :=
  let s := { active with tab := { active.tab with result := [(34, 0x3C81), (35, 0x1A2B)] } }
  (((s.modWindow 0 (fun _ => { owner := some .host })).setFld (.WIN_SPACE_ID 0) 3).setFld (.WIN_CUR_CUR 0) 17)

theorem test_result_window :
    (after (.windowDataAccess .host 0 none) resultWindow).host.answer = ⟨0, 0x3C81⟩ ∧
    (after (.windowDataAccess .host 0 none) resultWindow).fld (.WIN_OFS_OFS 0) = 1 := by decide +kernel

/-- The example after R76: sequence 0x0003 is newer than 0xFFFE. -/
theorem test_newer : newer16 0xFFFE 0x0003 = true ∧ newer16 0x0003 0xFFFE = false := by decide

/-- The example of R307: window lengths of 700, 20,480 and 4,194,304 modulator cycles. -/
theorem test_window_length :
    tCycles [0, 0, 0, 0x02BC] = 700 ∧ tCycles [0, 0, 0, 0x3A00] = 20480 ∧ tCycles [0, 0, 0, 0xB800] = 4194304 := by
  decide

/-- The example of R201: a beacon of 0x3000 at 6,000 rpm, 1,229 core clocks from the head, tells the angle 0x31EC. -/
theorem test_beacon_angle :
    beaconTrue (active.setRegN Reg.ANG_HOPDLY 1229) ⟨0, 0x3000, 6553600, 0, false, true, false, false, false⟩ = 0x31EC := by
  decide +kernel

/-- The example after R384: Z = 1,234 LSB at gS = -210 gives the offset code -123. -/
theorem test_system_offset : sysOffset (32 * 1234) (-210) = -123 := by decide

/-- The example after R384: F = 2,141,000 against T = 2,147,484 gives the gain code 1,270. -/
theorem test_system_gain : sysGain (32 * 2141000) 2147484 (-210) = some 1270 := by decide +kernel

/-- R563: the CRC-32 of the digits 1 to 9. -/
theorem test_crc32 : crc32 [0x31, 0x32, 0x33, 0x34, 0x35, 0x36, 0x37, 0x38, 0x39] = 0xCBF43926 := by decide +kernel

/-- The example after R575: the REG record of an image loads SEQ.CTRL and REF.CTRL: type 1, 8 bytes, then address and
value. -/
theorem test_record_bytes : leNat 2 0x0001 ++ leNat 2 8 ++ leNat 2 Reg.SEQ_CTRL ++ leNat 2 0x8000 ++ leNat 2 Reg.REF_CTRL
    ++ leNat 2 0x8000 = [0x01, 0x00, 0x08, 0x00, 0x80, 0x00, 0x00, 0x80, 0xC0, 0x00, 0x00, 0x80] := by decide +kernel

/-- The example of R595: a field byte of 0x1F has counted three. -/
theorem test_counter_bits : leadingZeros 0x1F = 3 ∧ leadingZeros 0xFF = 0 ∧ leadingZeros 0x00 = 8 := by decide

/-- R6: the CRC-16 of no bytes is its initial value, and of the digits 1 to 9 the value that R6 gives. -/
theorem test_crc16 : crc16 [] = 0xFFFF ∧
    crc16 [0x31, 0x32, 0x33, 0x34, 0x35, 0x36, 0x37, 0x38, 0x39] = 0x29B1 := by decide +kernel

/-- R9: a write of one clears a W1C bit, and a read clears an RC field. -/
theorem test_write_one_clears :
    ((after (.registerWrite .host Reg.PWR_STAT 0xFFFF) (active.setFlag .PWR_STAT_PROFCHG true)).flag .PWR_STAT_PROFCHG)
      = false := by decide +kernel

/-- R68: an XRST pulse of 1 µs holds the device; R68: one below 200 ns does nothing. -/
theorem test_reset_pin : (after (.xrstAssert 1000) active).sys.held = true ∧ after (.xrstAssert 199) active = active := by
  decide +kernel

/-- R96: a request for REDUCED. -/
theorem test_set_redreq : (after (.setRedreq .host) active).mode = modeReduced := by decide +kernel

/-- R641: a report is accepted, and the next within the collector's reaction is lost. -/
theorem test_report_lost :
    (after (.belayReport 5 2 0 0) active).reg32 Reg.FLT_FIRST % 256 = 5 ∧
    (after (.belayReport 6 2 0 0) (after (.belayReport 5 2 0 0) active)).reg32 Reg.FLT_FIRST % 256 = 5 := by decide +kernel

/-- The queue is first in, first out. -/
theorem test_step_takes_the_front :
    (match step { active with pending := [.collectorIdle, .crystalStop] } with
      | .next t => t.pending
      | _ => []) = [.crystalStop] := by decide +kernel

end Worked

namespace Machine

theorem witness_StepRunsTheFrontCommand_2 : ∃ (c : Instr) (rest : List Instr) (s : State), s.pending = c :: rest :=
  ⟨.collectorIdle, [.crystalStop], { active with pending := [.collectorIdle, .crystalStop] }, rfl⟩

theorem witness_StepRunsTheFrontCommand_3 : ∃ s : State, s.pending = [] := ⟨active, rfl⟩

theorem witness_EveryWellFormedCommandRuns_1 : ∃ c : Instr, c.wellFormed = true := ⟨.thermalSample 32767 0 0 (-32768), by decide⟩

theorem witness_EveryWellFormedCommandRuns_2 : ∃ c : Instr, c.wellFormed = false := ⟨.thermalSample 32768 0 0 0, by decide⟩

theorem witness_MemoriesStayCanonical : ∃ s t : State, s.memoriesWf = true ∧ step s = .next t :=
  ⟨{ active with pending := [.collectorIdle] }, _, by decide +kernel, rfl⟩

end Machine

/-! ### The supply (02) -/

namespace Power

def wd (r : Requester) (s : State) : State := setLease r { state := gWithdraw, want := 20, guar := 5, opp := 0, cover := 9 } s

theorem witness_LoopBandsMove_1 : ∃ (n : Nat) (s : State), n < 6 ∧ n < s.pwr.vt.length ∧ s.fld (bandFld n) =
    bandHarvest :=
  ⟨5, active, by decide +kernel⟩

theorem witness_LoopBandsMove_2 : ∃ (n level : Nat) (s : State), n < 6 ∧ n < s.pwr.vt.length ∧ level < 780 ∧
    s.fld (bandFld n) = bandBypass :=
  ⟨2, 779, active.setFld (bandFld 2) 1, by decide +kernel⟩

theorem witness_LoopBandsMove_3 : ∃ (n : Nat) (s : State), n < 6 ∧ n < s.pwr.vt.length ∧ s.fld (bandFld n) =
    bandBypass :=
  ⟨2, active.setFld (bandFld 2) 1, by decide +kernel⟩

theorem witness_LeasesAreGrantedAndReturned_1 : ∃ (r : Requester) (power : Nat) (s : State), takesLease r = true
    ∧ s.sys.held = false ∧ s.pwr.waiting = [] ∧ leaseAllowed s.profile r = true ∧ power ≤ guarLeft s r :=
  ⟨.exc, 500, active, by decide +kernel⟩

theorem witness_LeasesAreGrantedAndReturned_2 : ∃ (r : Requester) (power : Nat) (s : State), takesLease r = true
    ∧ s.sys.held = false ∧ s.pwr.waiting = [] ∧ leaseAllowed s.profile r = true ∧ guarLeft s r < power ∧ s.flag
    .PWR_CFG_OPPEN = true ∧ oppOthers s r + (power - guarLeft s r) ≤ s.oppPower ∧ (s.lease r).cover = 0 ∧
    coverOf (power - guarLeft s r) ≤ s.freeCredits ∧ s.flag .PWR_STAT_BELOWRES = false :=
  ⟨.host, 900, active.setFld .PWR_CFG_OPPEN 1, by decide +kernel⟩

theorem witness_LeasesAreGrantedAndReturned_3 : ∃ (r : Requester) (power : Nat) (s : State), takesLease r = true
    ∧ s.pwr.waiting = [] ∧ guarLeft s r < power ∧ s.flag .PWR_CFG_OPPEN = false :=
  ⟨.rope, 1100, active.setFld .PWR_CFG_OPPEN 0, by decide +kernel⟩

theorem witness_LeasesAreGrantedAndReturned_4 : ∃ (c : Instr) (r : Requester) (s : State), (c =
    .leaseLevelReached r ∨ c = .leaseWithdrawDeadline r) ∧ takesLease r = true ∧ s.pwr.waiting = [] ∧ (s.lease
    r).state = gWithdraw ∧ leaseAllowed s.profile r = false ∧ (r = .host → s.regN Reg.PWR_HOSTI * 33 ≤ s.fld
    .PWR_HOSTG_HOSTG * 100) :=
  ⟨.leaseWithdrawDeadline .exc, .exc, wd .exc (active.setFld .PWR_PROFILE_PROFILE 1), by decide +kernel⟩

theorem witness_LeasesAreGrantedAndReturned_5 : ∃ (c : Instr) (r : Requester) (s : State), (c =
    .leaseLevelReached r ∨ c = .leaseWithdrawDeadline r) ∧ takesLease r = true ∧ (s.lease r).state ≠ gWithdraw
    :=
  ⟨.leaseLevelReached .rope, .rope, active, by decide +kernel⟩

theorem witness_LeasesAreGrantedAndReturned_6 : ∃ (c : Instr) (s : State), (c = .leaseLevelReached .host ∨ c =
    .leaseWithdrawDeadline .host) ∧ s.fld .PWR_HOSTG_HOSTG * 100 < s.regN Reg.PWR_HOSTI * 33 :=
  ⟨.leaseLevelReached .host, (active.setFld .PWR_HOSTG_HOSTG 20).setRegN Reg.PWR_HOSTI 100, by decide +kernel⟩

theorem witness_StoreIsMeasured_1 : ∃ (mv : Nat) (s : State), mv < 65536 :=
  ⟨9000, active, by decide +kernel⟩

theorem witness_StoreIsMeasured_2 : ∃ (mv : Nat) (s : State), mv < 65536 ∧ s.pwr.waiting = [] ∧ s.pwr.exc.opp =
    0 ∧ s.pwr.host.opp = 0 ∧ s.pwr.rope.opp = 0 ∧ (200 ≤ s.regN Reg.PWR_CAP * (mv * mv - 49000000) / 20000000 ∨
    s.flag .PWR_STAT_BELOWRES = true ∨ s.isActive = false) :=
  ⟨9000, active, by decide +kernel⟩

theorem witness_StoreIsMeasured_3 : ∃ (mv : Nat) (s : State), mv < 65536 ∧ s.pwr.waiting = [] ∧ s.pwr.exc.opp =
    0 ∧ s.pwr.host.opp = 0 ∧ s.pwr.rope.opp = 0 ∧ s.regN Reg.PWR_CAP * (mv * mv - 49000000) / 20000000 < 200 ∧
    s.flag .PWR_STAT_BELOWRES = false ∧ s.isActive = true ∧ s.isFatal = false ∧ Watches 19 s :=
  ⟨7100, active, by unfold Watches; decide +kernel⟩

theorem witness_StoreIsMeasured_4 : ∃ (mv : Nat) (r : Requester) (s : State), mv < 65536 ∧ s.pwr.waiting = [] ∧
    (s.lease r).inForce = true ∧ 0 < (s.lease r).opp ∧ s.regN Reg.PWR_CAP * (mv * mv - 49000000) / 20000000 <
    200 :=
  ⟨7100, .rope, setLease .rope ⟨gGrantOpp, 30, 10, 20, 25⟩ active, by decide +kernel⟩

theorem witness_StoreIsMeasured_5 : ∃ (mv n : Nat) (s : State), mv < 65536 ∧ s.sys.held = false ∧ s.pwr.waiting
    = [⟨.nvm, n, 0⟩] ∧ s.pwr.exc.opp = 0 ∧ s.pwr.host.opp = 0 ∧ s.pwr.rope.opp = 0 ∧ s.outstanding + 200 + n ≤
    min 65535 (s.regN Reg.PWR_CAP * (mv * mv - 49000000) / 20000000) :=
  ⟨12000, 60, { active with pwr := { active.pwr with waiting := [⟨.nvm, 60, 0⟩] } }, by decide +kernel⟩

theorem witness_BurstsAreGrantedOrDenied_1 : ∃ (r : Requester) (credits : Nat) (s : State), takesCredits r =
    true ∧ s.sys.held = false ∧ s.pwr.waiting = [] ∧ credits + 200 ≤ s.storeMax ∧ s.outstanding + 200 + credits
    ≤ s.regN Reg.PWR_STORE ∧ s.flag .PWR_STAT_BELOWRES = false :=
  ⟨.xmem, 1000, active, by decide +kernel⟩

theorem witness_BurstsAreGrantedOrDenied_2 : ∃ (r : Requester) (credits : Nat) (s : State), takesCredits r =
    true ∧ s.storeMax < credits + 200 :=
  ⟨.xmem, 65535, active, by decide +kernel⟩

theorem witness_BurstsAreGrantedOrDenied_3 : ∃ (credits : Nat) (s : State), s.pwr.waiting = [⟨.xmem, credits,
    0⟩] :=
  ⟨50, { active with pwr := { active.pwr with waiting := [⟨.xmem, 50, 0⟩] } }, by decide +kernel⟩

theorem witness_BurstsAreGrantedOrDenied_4 : ∃ (r : Requester) (credits : Nat) (s : State), takesCredits r =
    true ∧ s.pwr.waiting = [] ∧ credits + 200 ≤ s.storeMax ∧ s.regN Reg.PWR_STORE < s.outstanding + 200 +
    credits :=
  ⟨.nvm, 1900, active, by decide +kernel⟩

theorem witness_BurstsAreGrantedOrDenied_5 : ∃ s : State, s.pwr.waiting = [] :=
  ⟨active, by decide +kernel⟩

theorem witness_BudgetFollowsTheLoops_1 : ∃ (ua : List Nat) (s : State), ua.length = 6 ∧ s.sys.held = false ∧
    s.flag .PWR_STAT_PFAIL = false ∧ s.pwr.exc.inForce = false ∧ s.pwr.host.inForce = false ∧ s.pwr.rope.inForce
    = false ∧ s.pwr.waiting = [] ∧ s.pwr.shed = [] :=
  ⟨[5000,4000,3000,3500,22000,1], active, by decide +kernel⟩

theorem witness_BudgetFollowsTheLoops_2 : ∃ s : State, s.flag .PWR_CFG_VAUXEN = true ∧ s.sys.held = false ∧
    s.flag .PWR_STAT_PFAIL = false ∧ s.pwr.exc.inForce = false ∧ s.pwr.host.inForce = false ∧ s.pwr.rope.inForce
    = false ∧ s.pwr.waiting = [] ∧ s.pwr.shed = [] :=
  ⟨active, by decide +kernel⟩

theorem witness_BudgetFollowsTheLoops_3 : ∃ s : State, s.sys.held = false ∧ s.flag .PWR_STAT_PFAIL = false ∧
    s.pwr.exc.inForce = false ∧ s.pwr.host.inForce = false ∧ s.pwr.rope.inForce = false ∧ s.pwr.waiting = [] ∧
    s.pwr.shed = [] :=
  ⟨active, by decide +kernel⟩

theorem witness_BudgetFollowsTheLoops_4 : ∃ (ua : List Nat) (s : State), ua.length = 6 ∧ s.sys.held = true :=
  ⟨[1, 2, 3, 4, 5, 6], { active with sys := { active.sys with held := true } }, by decide +kernel⟩

theorem witness_BudgetFollowsTheLoops_5 : ∃ s : State, s.flag .PWR_CFG_VAUXEN = false :=
  ⟨active.setFlag .PWR_CFG_VAUXEN false, by decide +kernel⟩

theorem witness_BudgetFollowsTheLoops_6 : ∃ (ua : List Nat) (s : State), ua.length = 6 ∧ s.sys.held = false ∧
    s.flag .PWR_STAT_PFAIL = false ∧ s.pwr.exc.inForce = true ∧ s.pwr.exc.cover = 0 ∧ s.pwr.host.inForce = false
    ∧ s.pwr.rope.inForce = false ∧ s.pwr.waiting = [] ∧ s.pwr.shed = [] ∧ s.guarNode * 88 / 100 % 65536 <
    baseLoad s.profile + s.pwr.exc.want :=
  ⟨[4000, 4000, 4000, 4000, 4000, 4000], setLease .exc ⟨gGrant, 1400, 1400, 0, 0⟩ active, by decide +kernel⟩

theorem witness_BudgetFollowsTheLoops_7 : ∃ (ua : List Nat) (s : State), ua.length = 6 ∧ s.sys.held = false ∧
    s.flag .PWR_STAT_PFAIL = true ∧ s.pwr.exc = {} ∧ s.pwr.host = {} ∧ s.pwr.rope = {} ∧ s.pwr.waiting = [] ∧
    s.pwr.shed = [] ∧ s.pwr.hostCut = false ∧ { s with pwr := { s.pwr with loopUa := ua } }.availNode ≠ 0 ∧
    (s.mode = modeActive ∨ s.mode = modeReduced) :=
  ⟨[4000, 4000, 4000, 4000, 4000, 4000], active.setFlag .PWR_STAT_PFAIL true, by decide +kernel⟩

theorem witness_LoopsAreShedAndReturned_1 : ∃ (surplus n : Nat) (s : State), s.intOnly = true ∧ s.extOnly =
    false ∧ 40000 < surplus ∧ n < 6 ∧ n < s.pwr.vt.length ∧ s.fitted n = true ∧ s.fld (bandFld n) = bandHarvest
    ∧ (∀ m, m < 6 → m ≠ n → s.fitted m = true → s.fld (bandFld m) = bandHarvest → nth 0 s.pwr.loopUa m < nth 0
    s.pwr.loopUa n ∨ (nth 0 s.pwr.loopUa m = nth 0 s.pwr.loopUa n ∧ n < m)) :=
  ⟨65535, 0, active, by decide +kernel⟩

theorem witness_LoopsAreShedAndReturned_2 : ∃ (surplus : Nat) (s : State), s.extOnly = false ∧ surplus ≤ 40000
    :=
  ⟨40000, active, by decide +kernel⟩

theorem witness_LoopsAreShedAndReturned_3 : ∃ (n : Nat) (s : State), n < 6 ∧ s.fitted n = true ∧ s.fld (bandFld
    n) = bandHarvest ∧ (∀ m, m < 6 → m ≠ n → s.fitted m = true → s.fld (bandFld m) ≠ bandHarvest) :=
  ⟨3, ((List.range 6).foldl (fun s n => if n = 3 then s else s.setFld (bandFld n) 1) active), by decide +kernel⟩

theorem witness_LoopsAreShedAndReturned_4 : ∃ (n : Nat) (rest : List Nat) (s : State), n < 6 ∧ s.pwr.shed = n ::
    rest ∧ n ∉ rest ∧ s.shedFits = true :=
  ⟨2, [3], { active with pwr := { active.pwr with shed := [2, 3] } }, by decide +kernel⟩

theorem witness_LoopsAreShedAndReturned_5 : ∃ s : State, s.shedFits = false ∨ s.pwr.shed = [] :=
  ⟨active, by decide +kernel⟩

theorem witness_HostSupplyFollowsItsLease_1 : ∃ (p : Path) (v : Nat) (s : State), isPath p = true ∧ fits 16 v =
    true ∧ v % 256 = 0 ∧ Admits p Reg.PWR_HOSTP s ∧ s.pwr.waiting = [] :=
  ⟨.host, 0x300, active, by unfold Admits; decide +kernel⟩

theorem witness_HostSupplyFollowsItsLease_2 : ∃ (p : Path) (v : Nat) (s : State), isPath p = true ∧ fits 16 v =
    true ∧ v % 256 ≠ 0 ∧ Admits p Reg.PWR_HOSTP s ∧ s.sys.held = false ∧ s.isActive = true ∧ s.pwr.hostCut =
    false ∧ s.pwr.waiting = [] ∧ leaseAllowed s.profile .host = true ∧ min (v % 256) 200 ≤ guarLeft s .host :=
  ⟨.host, 0x10A, (active.setFlag .PWR_HOSTG_VHSTON true).setFld .PWR_HOSTG_HOSTG 100,
    by unfold Admits; decide +kernel⟩

theorem witness_HostSupplyFollowsItsLease_3 : ∃ (p : Path) (v : Nat) (s : State), isPath p = true ∧ fits 16 v =
    true ∧ v % 256 ≠ 0 ∧ Admits p Reg.PWR_HOSTP s ∧ (s.isActive = false ∨ s.pwr.hostCut = true) :=
  ⟨.host, 77, { active with pwr := { active.pwr with hostCut := true } }, by unfold Admits; decide +kernel⟩

theorem witness_HostSupplyFollowsItsLease_4 : ∃ (i : Nat) (s : State), i < 65536 ∧ s.flag .PWR_HOSTG_VHSTON =
    true ∧ s.fld .PWR_HOSTG_HOSTG * 1100 < i * 330 :=
  ⟨400, (active.setFlag .PWR_HOSTG_VHSTON true).setFld .PWR_HOSTG_HOSTG 100, by decide +kernel⟩

theorem witness_HostSupplyFollowsItsLease_5 : ∃ (i : Nat) (s : State), i < 65536 ∧ (s.flag .PWR_HOSTG_VHSTON =
    false ∨ i * 330 ≤ s.fld .PWR_HOSTG_HOSTG * 1100) :=
  ⟨300, (active.setFlag .PWR_HOSTG_VHSTON true).setFld .PWR_HOSTG_HOSTG 100, by decide +kernel⟩

theorem witness_HostSupplyFollowsItsLease_6 : ∃ (i : Nat) (s : State), i < 65536 ∧ s.pwr.hostNotice = true ∧
    s.fld .PWR_HOSTG_HOSTG * 100 < i * 33 ∧ s.pwr.waiting = [] :=
  ⟨65535,
    { (active.setFlag .PWR_HOSTG_VHSTON true).setFld .PWR_HOSTG_HOSTG 100 with pwr := { (wd .host active).pwr with hostNotice := true } },
    by decide +kernel⟩

theorem witness_HostSupplyFollowsItsLease_7 : ∃ (i : Nat) (s : State), i < 65536 ∧ (s.pwr.hostNotice = false ∨ i
    * 33 ≤ s.fld .PWR_HOSTG_HOSTG * 100) :=
  ⟨303,
    { (active.setFlag .PWR_HOSTG_VHSTON true).setFld .PWR_HOSTG_HOSTG 100 with pwr := { active.pwr with hostNotice := true } },
    by decide +kernel⟩

theorem witness_HostSupplyFollowsItsLease_8 : ∃ s : State, s.sys.held = false ∧ s.pwr.hostCut = true ∧ s.fld
    .PWR_HOSTP_HOSTP ≠ 0 ∧ s.pwr.waiting = [] ∧ leaseAllowed s.profile .host = true ∧ s.fld .PWR_HOSTP_HOSTP ≤
    guarLeft s .host :=
  ⟨{ active.setFld .PWR_HOSTP_HOSTP 50 with pwr := { active.pwr with hostCut := true } }, by decide +kernel⟩

theorem witness_HostSupplyFollowsItsLease_9 : ∃ s : State, s.pwr.hostCut = true ∧ s.fld .PWR_HOSTP_HOSTP = 0 :=
  ⟨{ active.setFld .PWR_HOSTP_HOSTP 0 with pwr := { active.pwr with hostCut := true } }, by decide +kernel⟩

theorem witness_HostSupplyFollowsItsLease_10 : ∃ s : State, s.pwr.hostCut = false :=
  ⟨active, by decide +kernel⟩

theorem witness_PowerFailAndProfile_1 : ∃ s : State, s.sys.held = false ∧ s.availNode = 0 ∧ s.regN Reg.PWR_STORE
    ≤ 200 ∧ s.flag .PWR_STAT_PFAIL = false :=
  ⟨((List.range 6).foldl (fun s n => s.setFld (bandFld n) 1) active).setRegN Reg.PWR_STORE 100, by decide +kernel⟩

theorem witness_PowerFailAndProfile_2 : ∃ s : State, s.sys.held = true ∨ s.availNode ≠ 0 ∨ 200 < s.regN
    Reg.PWR_STORE ∨ s.flag .PWR_STAT_PFAIL = true :=
  ⟨active, by decide +kernel⟩

theorem witness_PowerFailAndProfile_3 : ∃ s : State, s.sys.held = false ∧ s.isActive = false ∧ s.profile ≠
    s.profileTarget :=
  ⟨{ State.reset.setFld .PWR_PROFILE_PROFILE 1 with sys := { State.reset.sys with held := false } },
    by decide +kernel⟩

theorem witness_PowerFailAndProfile_4 : ∃ s : State, s.sys.held = true ∨ s.profile = s.profileTarget :=
  ⟨active, by decide +kernel⟩

theorem witness_PowerFailAndProfile_5 : ∃ s : State, s.sys.held = false ∧ s.isActive = true ∧ s.profile ≠
    s.profileTarget ∧ s.profileTarget ≠ 0 ∧ s.inBivouac = false :=
  ⟨active.setFld .PWR_PROFILE_PROFILE 1, by decide +kernel⟩

theorem witness_PowerFailAndProfile_6 : ∃ s : State, s.sys.held = false ∧ (s.mode = modeActive ∨ s.mode =
    modeReduced) ∧ s.profile ≠ 0 ∧ s.profileTarget = 0 :=
  ⟨((List.range 6).foldl (fun s n => s.setFld (bandFld n) 1) active), by decide +kernel⟩

end Power

/-! ### Resets and modes (03) -/

namespace Modes

def biv : State := ({ (active.setFld .SYS_STAT_STATE 3).setFld .SYS_STAT_BIVC 2 with sys := { active.sys with slicesOn := false } }.setFlag .SYS_MODE_BIVREQ true)

theorem witness_LastSourceReleases_1 : ∃ (c : Instr) (r : ResetSrc) (s : State), ((c = .porRelease ∧ r = .por) ∨
    (c = .borRelease ∧ r = .bor) ∨ (c = .xrstRelease ∧ r = .xrst)) ∧ s.sys.held = true ∧ s.sys.asserted = [r] ∧
    keepsRope s.sys.boot.cause = false :=
  ⟨.porRelease, Machine.ResetSrc.por, State.reset, by decide +kernel⟩

theorem witness_LastSourceReleases_2 : ∃ (c : Instr) (r q : ResetSrc) (s : State), ((c = .porRelease ∧ r = .por)
    ∨ (c = .borRelease ∧ r = .bor) ∨ (c = .xrstRelease ∧ r = .xrst)) ∧ q ≠ r ∧ s.sys.asserted = [r, q] :=
  ⟨.porRelease, Machine.ResetSrc.por, Machine.ResetSrc.bor,
    {active with sys := {active.sys with held := true, asserted := [.por, .bor]}}, by decide +kernel⟩

theorem witness_LastSourceReleases_3 : ∃ (c : Instr) (r : ResetSrc) (s : State), ((c = .porRelease ∧ r = .por) ∨
    (c = .borRelease ∧ r = .bor) ∨ (c = .xrstRelease ∧ r = .xrst)) ∧ s.sys.held = false :=
  ⟨.xrstRelease, Machine.ResetSrc.xrst, active, by decide +kernel⟩

theorem witness_BivouacIsEnteredAndLeft_1 : ∃ (p : Path) (s : State), isPath p = true ∧ Admits p Reg.SYS_MODE s
    ∧ s.flag .SYS_MODE_BIVREQ = false ∧ (s.mode = modeActive ∨ s.mode = modeReduced) :=
  ⟨.host, active, by unfold Admits; decide +kernel⟩

theorem witness_BivouacIsEnteredAndLeft_2 : ∃ (p : Path) (s : State), isPath p = true ∧ Admits p Reg.SYS_MODE s
    ∧ s.flag .SYS_MODE_BIVREQ = false ∧ s.mode = modeBivouac ∧ s.sys.bivExit = false ∧ s.flag .SYS_MODE_REDREQ =
    s.flag .SYS_STAT_REDHOST :=
  ⟨.host, biv.setFlag .SYS_MODE_BIVREQ false, by unfold Admits; decide +kernel⟩

theorem witness_BivouacIsEnteredAndLeft_3 : ∃ (p : Path) (s : State), isPath p = true ∧ Admits p Reg.SYS_MODE s
    ∧ s.flag .SYS_MODE_BIVREQ = false ∧ s.mode = modeBivouac ∧ s.sys.bivExit = true :=
  ⟨.host, ({ biv with sys := { biv.sys with bivExit := true, slicesOn := true } }).setFlag .SYS_MODE_BIVREQ false,
    by unfold Admits; decide +kernel⟩

theorem witness_BivouacIsEnteredAndLeft_4 : ∃ s : State, s.mayStandstill = true :=
  ⟨(((active.setRegN Reg.ANG_BIVTMO 10).setRegN Reg.ANG_BIVSPD 100).setFld .ANG_CFG_MODE 1).setFld .ANG_CFG_SRC 1,
    by decide +kernel⟩

theorem witness_BivouacIsEnteredAndLeft_5 : ∃ s : State, s.mayStandstill = false :=
  ⟨active.setRegN Reg.ANG_BIVTMO 0, by decide +kernel⟩

theorem witness_BivouacIsEnteredAndLeft_6 : ∃ (p : Path) (s : State), isPath p = true ∧ Admits p Reg.SYS_MODE s
    ∧ s.flag .SYS_MODE_BIVREQ = true ∧ s.mode = modeBivouac ∧ s.sys.bivExit = false ∧ s.fld .SYS_STAT_BIVC ≠
    bivBudget ∧ s.flag .SYS_MODE_REDREQ = s.flag .SYS_STAT_REDHOST :=
  ⟨.host, biv, by unfold Admits; decide +kernel⟩

theorem witness_BivouacIsEnteredAndLeft_7 : ∃ (p : Path) (s : State), isPath p = true ∧ Admits p Reg.SYS_MODE s
    ∧ s.flag .SYS_MODE_BIVREQ = true ∧ s.fld .SYS_STAT_BIVC = bivBudget ∧ s.mode = modeBivouac ∧ s.flag
    .SYS_MODE_REDREQ = s.flag .SYS_STAT_REDHOST :=
  ⟨.host, biv.setFld .SYS_STAT_BIVC 3, by unfold Admits; decide +kernel⟩

theorem witness_BivouacIsEnteredAndLeft_8 : ∃ (c : ExitCause) (s : State), s.mode = modeBivouac ∧ s.sys.bivExit
    = false ∧ ((c = .profile ∧ s.fld .SYS_STAT_BIVC = bivBudget ∧ s.profile ≠ 0) ∨ (s.fld .SYS_STAT_BIVC ≠
    bivBudget ∧ (c = .wake ∨ (c = .speed ∧ s.regN Reg.ANG_BIVSPD * 65536 < s.speed * 600) ∨ (c = .host ∧ s.flag
    .SYS_MODE_BIVREQ = true)))) :=
  ⟨.profile, biv.setFld .SYS_STAT_BIVC 3, by decide +kernel⟩

theorem witness_BivouacIsEnteredAndLeft_9 : ∃ (c : ExitCause) (s : State), (s.fld .SYS_STAT_BIVC = bivBudget ∧
    (c ≠ .profile ∨ s.profile = 0)) ∨ (s.fld .SYS_STAT_BIVC ≠ bivBudget ∧ c = .profile) ∨ (c = .speed ∧ s.speed
    * 600 ≤ s.regN Reg.ANG_BIVSPD * 65536) ∨ (c = .host ∧ s.flag .SYS_MODE_BIVREQ = false) ∨ s.mode ≠
    modeBivouac ∨ s.sys.bivExit = true :=
  ⟨.speed, biv.setFld .SYS_STAT_BIVC 3, by decide +kernel⟩

theorem witness_BivouacIsEnteredAndLeft_10 : ∃ s : State, s.mode = modeBivouac ∧ s.sys.bivExit = true ∧ (s.flag
    .REF_STAT_READY = true ∨ s.sys.bivRef = false) :=
  ⟨{ biv with sys := { biv.sys with bivExit := true, slicesOn := true } }, by decide +kernel⟩

theorem witness_BivouacIsEnteredAndLeft_11 : ∃ s : State, s.mode ≠ modeBivouac ∨ s.sys.bivExit = false ∨ (s.flag
    .REF_STAT_READY = false ∧ s.sys.bivRef = true) :=
  ⟨biv, by decide +kernel⟩

theorem witness_SupplyDipIsRecorded_1 : ∃ (mv : Nat) (s : State), mv < 65536 ∧ s.sys.dip = none :=
  ⟨65535, active, by decide +kernel⟩

theorem witness_SupplyDipIsRecorded_2 : ∃ (mv : Nat) (d : Dip) (s : State), mv < 65536 ∧ s.sys.dip = some d :=
  ⟨65535, { start := 5, rise := none, minMv := 2850 },
    {active with sys := {active.sys with dip := some ⟨5, none, 2850⟩}}, by decide +kernel⟩

theorem witness_SupplyDipIsRecorded_3 : ∃ (mv : Nat) (d : Dip) (s : State), mv < 65536 ∧ s.sys.dip = some d :=
  ⟨65535, { start := 5, rise := none, minMv := 2850 },
    {active with sys := {active.sys with dip := some ⟨5, none, 2850⟩}}, by decide +kernel⟩

theorem witness_SupplyDipIsRecorded_4 : ∃ (start rise low : Nat) (s : State), s.sys.dip = some ⟨start, some
    rise, low⟩ :=
  ⟨10, 30000, 2800, {active with sys := {active.sys with dip := some ⟨10, some 30000, 2800⟩}}, by decide +kernel⟩

theorem witness_SupplyDipIsRecorded_5 : ∃ (mv : Nat) (s : State), mv < 65536 ∧ s.sys.dip = none :=
  ⟨65535, active, by decide +kernel⟩

theorem witness_SupplyDipIsRecorded_6 : ∃ (start low : Nat) (s : State), s.sys.dip = none ∨ s.sys.dip = some
    ⟨start, none, low⟩ :=
  ⟨5, 2850, {active with sys := {active.sys with dip := some ⟨5, none, 2850⟩}}, by decide +kernel⟩

theorem witness_SupplyResetsHold_1 : ∃ s : State, s.sys.held = false ∧ s.sys.waiting = [] ∧ s.sys.asserted = []
    :=
  ⟨active, by decide +kernel⟩

theorem witness_ResetPinHoldsTheLoops_1 : ∃ (w : Nat) (s : State), 1000 ≤ w ∧ s.nvm.op = none ∧ s.sys.held =
    false :=
  ⟨65535, active, by decide +kernel⟩

theorem witness_ResetPinHoldsTheLoops_2 : ∃ (w : Nat) (s : State), 1000 ≤ w ∧ s.sys.held = true ∧
    s.sys.boot.cause = .por :=
  ⟨1000, State.reset, by decide +kernel⟩

theorem witness_ResetPinHoldsTheLoops_3 : ∃ (w : Nat) (s : State), 1000 ≤ w ∧ s.nvm.op ≠ none ∧ s.sys.held =
    false :=
  ⟨1000, { active with nvm := { active.nvm with op := some (.erase 3) } }, by decide +kernel⟩

theorem witness_ResetPinHoldsTheLoops_4 : ∃ (w : Nat) (s : State), 200 ≤ w ∧ w < 1000 :=
  ⟨999, active, by decide +kernel⟩

theorem witness_ResetPinHoldsTheLoops_5 : ∃ (w : Nat) (s : State), w < 200 :=
  ⟨199, active, by decide +kernel⟩

theorem witness_ResetsThatReleaseThemselves_1 : ∃ s : State, s.sys.held = false ∧ s.sys.asserted = [] ∧ s.nvm.op
    = none :=
  ⟨active, by decide +kernel⟩

theorem witness_ResetsThatReleaseThemselves_2 : ∃ s : State, s.sys.held = true :=
  ⟨State.reset, by decide +kernel⟩

theorem witness_ResetsThatReleaseThemselves_3 : ∃ s : State, s.sys.held = false ∧ s.nvm.op ≠ none :=
  ⟨{ active with nvm := { active.nvm with op := some (.erase 3) } }, by decide +kernel⟩

theorem witness_ResetsThatReleaseThemselves_4 : ∃ (p : Path) (s : State), isPath p = true ∧ Admits p Reg.SYS_RST
    s ∧ s.sys.held = false ∧ s.sys.asserted = [] ∧ s.nvm.op = none :=
  ⟨.host, active, by unfold Admits; decide +kernel⟩

theorem witness_ResetsThatReleaseThemselves_5 : ∃ (p : Path) (s : State), isPath p = true ∧ Admits p Reg.SYS_RST
    s ∧ s.sys.held = false ∧ s.nvm.op ≠ none :=
  ⟨.rope 3, { active with nvm := { active.nvm with op := some (.erase 3) } }, by unfold Admits; decide +kernel⟩

theorem witness_ResetsThatReleaseThemselves_6 : ∃ (p : Path) (key : Nat) (s : State), isPath p = true ∧ fits 16
    key = true ∧ key ≠ 0xC35A ∧ Admits p Reg.SYS_RST s :=
  ⟨.host, 65535, active, by unfold Admits; decide +kernel⟩

theorem witness_ReducedByRequest_1 : ∃ (p : Path) (s : State), isPath p = true ∧ Admits p Reg.SYS_MODE s ∧
    s.flag .SYS_MODE_BIVREQ = false ∧ (s.mode = modeActive ∨ s.mode = modeReduced) :=
  ⟨.host, active, by unfold Admits; decide +kernel⟩

theorem witness_ReducedByRequest_2 : ∃ (p : Path) (s : State), isPath p = true ∧ Admits p Reg.SYS_MODE s ∧
    s.flag .SYS_MODE_BIVREQ = false ∧ (s.mode = modeActive ∨ s.mode = modeReduced) :=
  ⟨.host, active, by unfold Admits; decide +kernel⟩

theorem witness_ReducedByRequest_3 : ∃ (p : Path) (s : State), isPath p = true ∧ Admits p Reg.SYS_MODE s ∧
    s.flag .SYS_MODE_BIVREQ = false ∧ (s.isActive = false ∨ s.inBivouac = true) :=
  ⟨.host, biv.setFlag .SYS_MODE_BIVREQ false, by unfold Admits; decide +kernel⟩

theorem witness_ReducedByRequest_4 : ∃ (p : Path) (s : State), isPath p = true ∧ Admits p Reg.SYS_MODE s ∧
    s.flag .SYS_MODE_BIVREQ = false ∧ (s.isActive = false ∨ s.inBivouac = true) :=
  ⟨.host, biv.setFlag .SYS_MODE_BIVREQ false, by unfold Admits; decide +kernel⟩

theorem witness_ClearPinActs_1 : ∃ (w : Nat) (s : State), 200 ≤ w ∧ 6 ≤ s.phase :=
  ⟨65535, active, by decide +kernel⟩

theorem witness_ClearPinActs_2 : ∃ (w : Nat) (s : State), 200 ≤ w ∧ s.phase < 6 :=
  ⟨200, State.reset, by decide +kernel⟩

theorem witness_ClearPinActs_3 : ∃ (w : Nat) (s : State), 100 ≤ w ∧ w < 200 :=
  ⟨199, active, by decide +kernel⟩

theorem witness_ClearPinActs_4 : ∃ (w : Nat) (s : State), w < 100 :=
  ⟨99, active, by decide +kernel⟩

end Modes

/-! ### The boot (03) -/

namespace Boot

def ph (n : Nat) (c : ResetSrc) : State := let s : State := { State.reset with sys := { State.reset.sys with held := false, asserted := [], boot := { cause := c } } }
  s.setFld .SYS_BOOTST_PHASE n
/-- The smallest valid image, with a strap record and no records of its own. -/
def hdr : List Byte := [0x4E, 0x52, 0x4D, 0x49, 1, 0, 5, 0, 36, 0, 0, 0, 2, 0, 0, 0,
  BitVec.ofNat 8 (State.reset.fld .SYS_ID_PART), 0, 0, 0, 0, 0, 0, 0, 1, 2, 6, 20, 24, 0, 0, 0xAC]
def img : List Byte := hdr ++ leNat 4 (crc32 hdr).toNat
def inSlot (k : Nat) (bs : List Byte) (s : State) : State :=
  { s with xfer := { s.xfer with mem := writeRun erasedByte s.xfer.mem (65536 * k) bs } }
def mb (f : Boot → Boot) (s : State) : State := { s with sys := { s.sys with boot := f s.sys.boot }}

theorem witness_BootEndsInActive_1 : ∃ s : State, s.inPhase 5 = true ∧ s.fld .SYS_BOOTST_RESULT ≠ resOk :=
  ⟨(ph 5 .por).setFld .SYS_BOOTST_RESULT 4, by decide +kernel⟩

theorem witness_BootEndsInActive_2 : ∃ s : State, s.inPhase 5 = true :=
  ⟨inSlot 0 img ((ph 5 .bor).setFld .SYS_BOOTST_RESULT 1), by decide +kernel⟩

theorem witness_BootEndsInActive_3 : ∃ s : State, s.inPhase 6 = true ∧ s.sys.boot.lockDone = false ∧
    s.sys.boot.mapRec = none :=
  ⟨ph 6 .por, by decide +kernel⟩

theorem witness_BootEndsInActive_4 : ∃ (m : List Word) (s : State), s.inPhase 6 = true ∧ s.sys.boot.lockDone =
    false ∧ s.sys.boot.mapRec = some m ∧ mapOk m = true :=
  ⟨[0x0100#16, 0x5555#16, 0x0555#16, 0x0000#16, 0x5555#16, 0x0555#16, 0x0000#16, 0x5555#16, 0x0555#16, 0x0000#16,
    0x5555#16, 0x0555#16, 0x0000#16, 0x49b1#16], mb (fun b =>
    {b with mapRec := some (closedMap ++ [protCheck closedMap])}) (ph 6 .por), by decide +kernel⟩

theorem witness_BootEndsInActive_5 : ∃ (m : List Word) (s : State), s.inPhase 6 = true ∧ s.sys.boot.lockDone =
    false ∧ s.sys.boot.mapRec = some m ∧ mapOk m = false ∧ s.isFatal = false ∧ Watches 2 s :=
  ⟨[0x0100#16, 1, 2], mb (fun b => {b with mapRec := some [0x0100#16, 1, 2]}) (ph 6 .por),
    by unfold Watches; decide +kernel⟩

theorem witness_BootEndsInActive_6 : ∃ s : State, s.inPhase 7 = true ∧ s.sys.boot.refWait = false :=
  ⟨ph 7 .por, by decide +kernel⟩

theorem witness_BootEndsInActive_7 : ∃ (stable : Bool) (s : State), s.bootEnded = true :=
  ⟨false, mb (fun b => {b with lockDone := true}) (ph 6 .por), by decide +kernel⟩

theorem witness_BootEndsInActive_8 : ∃ (c : Instr) (stable : Bool) (s : State), (c = .bootApply ∧ s.inPhase 5 =
    false) ∨ (c = .protectionLock ∧ (s.inPhase 6 = false ∨ s.sys.boot.lockDone = true)) ∨ (c =
    .bootReferenceWait ∧ (s.inPhase 7 = false ∨ s.sys.boot.refWait = true)) ∨ (c = .enterActive stable ∧
    s.bootEnded = false) :=
  ⟨.bootApply, true, active, by decide +kernel⟩

theorem witness_BootFindsTheImage_1 : ∃ (almsel test : Bool) (bands : Nat) (s : State), isBands bands = true ∧
    s.inPhase 1 = true ∧ s.pwr.shed = [] :=
  ⟨true, true, 100, ph 1 .por, by decide +kernel⟩

theorem witness_BootFindsTheImage_2 : ∃ (sfdp : Option Sfdp) (s : State), sfdp.all isSfdp = true ∧ s.inPhase 2 =
    true :=
  ⟨none, ph 2 .por, by decide +kernel⟩

theorem witness_BootFindsTheImage_3 : ∃ (d : Sfdp) (s : State), isSfdp d = true ∧ d.erase4k = true ∧ s.inPhase 2
    = true :=
  ⟨⟨true, 0x20, 4194304, 256, 50, 2, 6, true, 100, 200, 300, 400⟩, ph 2 .por, by decide +kernel⟩

theorem witness_BootFindsTheImage_4 : ∃ (d : Sfdp) (s : State), isSfdp d = true ∧ d.erase4k = false ∧ s.inPhase
    2 = true :=
  ⟨⟨false, 0x20, 4194304, 256, 50, 2, 6, true, 100, 200, 300, 400⟩, ph 2 .por, by decide +kernel⟩

theorem witness_BootFindsTheImage_5 : ∃ (r : List Byte) (s : State), s.inPhase 2 = true ∧ [s.header 0, s.header
    1].findSome? strapOf = some r :=
  ⟨[1, 2, 6, 20, 24, 0, 0, 0xAC], inSlot 0 hdr (ph 2 .por), by decide +kernel⟩

theorem witness_BootFindsTheImage_6 : ∃ s : State, s.inPhase 2 = true ∧ [s.header 0, s.header 1].findSome?
    strapOf = none :=
  ⟨ph 2 .por, by decide +kernel⟩

theorem witness_BootFindsTheImage_7 : ∃ (sfdp : Option Sfdp) (s : State), sfdp.all isSfdp = true ∧ s.inPhase 2 =
    true :=
  ⟨none, inSlot 1 hdr (inSlot 0 hdr (ph 2 .por)), by decide +kernel⟩

theorem witness_BootFindsTheImage_8 : ∃ s : State, s.inPhase 3 = true :=
  ⟨mb (fun b => { b with memory := true, candidate := some 1, magicA := true, magicB := true }) (inSlot 1 img (ph
    3 .por)), by decide +kernel⟩

theorem witness_BootFindsTheImage_9 : ∃ s : State, s.sys.held = false ∧ s.isActive = false ∧ 2 ≤ s.phase ∧
    s.phase ≤ 4 ∧ s.sys.boot.scanDone = false :=
  ⟨ph 2 .por, by decide +kernel⟩

theorem witness_BootFindsTheImage_10 : ∃ (almsel test : Bool) (bands : Nat) (c : Instr) (n : Nat) (s : State),
    isBands bands = true ∧ ((c = .bootOscillator almsel test bands ∧ n = 1) ∨ (c = .bootHeaders test none ∧ n =
    2) ∨ (c = .bootImageCheck ∧ n = 3)) ∧ s.inPhase n = false :=
  ⟨false, true, 100, .bootImageCheck, 3, ph 2 .por, by decide +kernel⟩

theorem witness_BootFindsTheImage_11 : ∃ s : State, s.sys.held = true ∨ s.isActive = true ∨ s.sys.boot.scanDone
    = true ∨ s.phase < 2 ∨ 4 < s.phase :=
  ⟨active, by decide +kernel⟩

end Boot

/-! ### The host port, the register map, the windows and staging (04) -/

namespace Port

def win (n : Nat) (p : Path) (sp ofs cur : Nat) : State :=
  let s := active.modWindow n (fun _ => { owner := some p })
  ((s.setFld (.WIN_SPACE_ID n) sp).setFld (.WIN_OFS_OFS n) ofs).setFld (.WIN_CUR_CUR n) cur
def st (f : Staging → Staging) : State := { active with stg := f active.stg }

theorem witness_HostFramesAreAnswered_1 : ∃ (f : HostFrame) (s : State), isFrame f = true ∧ f.gapOk = true ∧
    frameCrcOk false f = true ∧ f.data = 0 ∧ f.inc = false ∧ s.ownTarget f.unit = true ∧ s.host.burst = none ∧
    s.remotePending = false ∧ AdmitsRead .host f.addr s ∧ plainlyRead f.addr = true :=
  ⟨(crcR ⟨0, 0x028, false, 0, 0, true⟩), active, by unfold AdmitsRead; decide +kernel⟩

theorem witness_HostFramesAreAnswered_2 : ∃ (f : HostFrame) (s : State), isFrame f = true ∧ f.gapOk = true ∧
    frameCrcOk true f = true ∧ f.inc = false ∧ s.ownTarget f.unit = true ∧ s.host.burst = none ∧ s.remotePending
    = false ∧ Admits .host f.addr s ∧ plainlyWritten f.addr = true :=
  ⟨(crcW ⟨0, 0x012, false, 0xFFFF, 0, true⟩), active, by unfold Admits; decide +kernel⟩

theorem witness_HostFramesAreAnswered_3 : ∃ (crc : Nat) (s : State), frameCrcOk false (nopFrame crc true) = true
    ∧ crc < 256 ∧ s.served = true :=
  ⟨245, active, by decide +kernel⟩

theorem witness_HostFramesAreAnswered_4 : ∃ (c : Instr) (f : HostFrame) (s : State), isFrame f = true ∧ f.gapOk
    = true ∧ s.sys.held = false ∧ ((c = .hostReadFrame f ∧ frameCrcOk false f = false) ∨ (c = .hostWriteFrame f
    ∧ frameCrcOk true f = false)) :=
  ⟨.hostReadFrame (crcW ⟨0, 0x023, false, 0x1234, 0, true⟩), (crcW ⟨0, 0x023, false, 0x1234, 0, true⟩), active,
    by decide +kernel⟩

theorem witness_HostFramesAreAnswered_5 : ∃ (c : Instr) (f : HostFrame) (s : State), isFrame f = true ∧ f.gapOk
    = false ∧ s.sys.held = false ∧ (c = .hostReadFrame f ∨ c = .hostWriteFrame f ∨ c = .hostNopFrame f.crc
    false) :=
  ⟨.hostNopFrame 3 false, ⟨0, 0x028, false, 0, 3, false⟩, active, by decide +kernel⟩

theorem witness_HostFramesAreAnswered_6 : ∃ (f : HostFrame) (last : Nat) (s : State), isFrame f = true ∧ f.gapOk
    = true ∧ frameCrcOk false f = true ∧ f.data = 0 ∧ f.inc = true ∧ s.ownTarget f.unit = true ∧ s.host.burst =
    some (false, f.unit, last) ∧ last < 511 ∧ s.remotePending = false ∧ AdmitsRead .host (last + 1) s ∧
    plainlyRead (last + 1) = true :=
  ⟨(crcR ⟨0, 0x028, true, 0, 0, true⟩), 0x13,
    { active with host := { active.host with burst := some (false, 0, 0x13) } },
    by unfold AdmitsRead; decide +kernel⟩

theorem witness_HostFramesAreAnswered_7 : ∃ (f : HostFrame) (s : State), isFrame f = true ∧ f.gapOk = true ∧
    frameCrcOk true f = true ∧ s.sys.held = false ∧ s.served = false :=
  ⟨(crcW ⟨0, 0x023, false, 0x1234, 0, true⟩), { State.reset with sys := { State.reset.sys with held := false } },
    by decide +kernel⟩

theorem witness_HostFramesAreAnswered_8 : ∃ (f : HostFrame) (s : State), isFrame f = true ∧ f.gapOk = true ∧
    frameCrcOk true f = true ∧ s.served = true ∧ s.remotePending = true :=
  ⟨(crcW ⟨0, 0x023, false, 0x1234, 0, true⟩),
    { active with host := { active.host with remote := some ⟨7, true, none⟩ } }, by decide +kernel⟩

theorem witness_HostFramesAreAnswered_9 : ∃ (f : HostFrame) (s : State), isFrame f = true ∧ f.gapOk = true ∧
    frameCrcOk true f = true ∧ s.served = true ∧ s.remotePending = false ∧ s.hasAddr = false ∧ f.unit ≠ 0 :=
  ⟨(crcW ⟨9, 0x023, false, 0x1234, 0, true⟩), active.setReg Reg.ROPE_ADDR 0, by decide +kernel⟩

theorem witness_HostFramesAreAnswered_10 : ∃ (w : Bool) (f : HostFrame), isFrame f = true :=
  ⟨false, ⟨31, 511, true, 65535, 255, false⟩, by decide +kernel⟩

theorem witness_HostPortEnds_1 : ∃ (e : Nat) (s : State), e % 40 ≠ 0 ∧ s.sys.held = false :=
  ⟨65535, active, by decide +kernel⟩

theorem witness_HostPortEnds_2 : ∃ (r : Remote) (s : State), s.host.remote = some r ∧ r.answer = none :=
  ⟨{ tag := 7, write := true, answer := none },
    { active with host := { active.host with remote := some ⟨7, true, none⟩ } }, by decide +kernel⟩

theorem witness_HostPortEnds_3 : ∃ (e : Nat) (s : State), e % 40 ≠ 0 ∧ s.sys.held = true :=
  ⟨7, State.reset, by decide +kernel⟩

theorem witness_HostPortEnds_4 : ∃ s : State, s.remotePending = false :=
  ⟨active, by decide +kernel⟩

theorem witness_RegistersObeyTheirAccessCodes_1 : ∃ (p : Path) (a v : Nat) (s : State), isPath p = true ∧ a <
    512 ∧ fits 16 v = true ∧ Admits p a s ∧ plainlyWritten a = true :=
  ⟨.host, 255, 65535, active, by unfold Admits; decide +kernel⟩

theorem witness_RegistersObeyTheirAccessCodes_2 : ∃ (p : Path) (a : Nat) (s : State), isPath p = true ∧ a < 512
    ∧ AdmitsRead p a s ∧ plainlyRead a = true :=
  ⟨.host, 255, active, by unfold AdmitsRead; decide +kernel⟩

theorem witness_RegistersObeyTheirAccessCodes_3 : ∃ (p : Path) (a v : Nat) (s : State), isPath p = true ∧ a <
    512 ∧ fits 16 v = true ∧ s.served = true ∧ s.mayWrite p (blockOf a) = false :=
  ⟨(.loop 2), 500, 65535, active, by decide +kernel⟩

theorem witness_RegistersObeyTheirAccessCodes_4 : ∃ (p : Path) (a : Nat) (s : State), isPath p = true ∧ a < 512
    ∧ s.served = true ∧ a ≠ Reg.SYS_ID ∧ a ≠ Reg.SYS_BOOTST ∧ s.mayRead p (blockOf a) = false :=
  ⟨.host, 511, { active with sys := { active.sys with prot := List.replicate 14 0 } }, by decide +kernel⟩

theorem witness_RegistersObeyTheirAccessCodes_5 : ∃ (p : Path) (a : Nat) (s : State), isPath p = true ∧ s.served
    = true ∧ (a = Reg.SYS_ID ∨ a = Reg.SYS_BOOTST) :=
  ⟨(.rope 5), Reg.SYS_BOOTST, { active with sys := { active.sys with prot := List.replicate 14 0 } },
    by decide +kernel⟩

theorem witness_RegistersObeyTheirAccessCodes_6 : ∃ (p : Path) (a v : Nat) (s : State), isPath p = true ∧ a <
    512 ∧ fits 16 v = true ∧ s.served = false :=
  ⟨.host, 255, 65535, State.reset, by decide +kernel⟩

theorem witness_RegistersObeyTheirAccessCodes_7 : ∃ (p : Path) (a : Nat) (s : State), isPath p = true ∧ a < 512
    ∧ s.served = false :=
  ⟨.host, 0, State.reset, by decide +kernel⟩

theorem witness_RegistersObeyTheirAccessCodes_8 : ∃ (p : Path) (a v : Nat) (s : State), isPath p = true ∧ a <
    512 ∧ fits 16 v = true ∧ s.served = true ∧ s.mayWrite p (blockOf a) = true ∧ s.isFatal = false ∧ (regInfo
    a).lk = 0 ∧ stMask a ≠ 0 ∧ s.stagedBusy = true ∧ s.flt.injPath ≠ some p :=
  ⟨.host, Reg.EXC_CODE 2, 65535, st (fun g => { g with armed := true }), by decide +kernel⟩

theorem witness_RegistersObeyTheirAccessCodes_9 : ∃ (p : Path) (a v : Nat) (s : State), isPath p = true ∧ a <
    512 ∧ fits 16 v = true ∧ Admits p a s ∧ stMask a ≠ 0 ∧ actingRegs.contains a = false ∧ regQWord a = none ∧
    windowReg a = none ∧ forceSlice a = none ∧ fixedLoop a = none :=
  ⟨.host, Reg.EXC_CODE 2, 65535, active, by unfold Admits; decide +kernel⟩

theorem witness_WindowsReachTheTables_1 : ∃ (p : Path) (n v : Nat) (s : State), isPath p = true ∧ n < 4 ∧ n <
    s.wins.length ∧ fits 16 v = true ∧ v % 256 ≤ 13 ∧ Admits p (Reg.WIN_SPACE n) s :=
  ⟨.host, 3, 780, active, by unfold Admits; decide +kernel⟩

theorem witness_WindowsReachTheTables_2 : ∃ (p : Path) (n : Nat) (s : State), isPath p = true ∧ n < 4 ∧
    AdmitsRead p (Reg.WIN_DATA n) s ∧ s.ownsWindow p n = true ∧ s.fld (.WIN_SPACE_ID n) = spTopo ∧ s.flag
    (.WIN_SPACE_ALT n) = false ∧ s.mayRead p (spaceBlock spTopo) = true ∧ s.fld (.WIN_CUR_CUR n) < 256 ∧ s.fld
    (.WIN_OFS_OFS n) < 7 ∧ (s.win n).past = false :=
  ⟨.host, 0, win 0 .host 1 3 5, by unfold AdmitsRead; decide +kernel⟩

theorem witness_WindowsReachTheTables_3 : ∃ (p : Path) (n v : Nat) (s : State), isPath p = true ∧ n < 4 ∧ fits
    16 v = true ∧ Admits p (Reg.WIN_DATA n) s ∧ s.ownsWindow p n = true ∧ s.fld (.WIN_SPACE_ID n) = spTopo ∧
    s.mayWrite p (spaceBlock spTopo) = true ∧ s.stagedBusy = false ∧ s.fld (.WIN_CUR_CUR n) < 256 ∧ s.fld
    (.WIN_OFS_OFS n) = 7 ∧ (s.win n).past = false :=
  ⟨.host, 2, 65535, win 2 .host 1 7 5, by unfold Admits; decide +kernel⟩

theorem witness_WindowsReachTheTables_4 : ∃ (n : Nat) (s : State), n < 4 ∧ n < s.wins.length ∧ ((∃ r, (s.win
    n).owner = some (.rope r)) ∨ (∃ c, (s.win n).owner = some (.loop c))) :=
  ⟨1, win 1 (.rope 5) 1 6 255, by decide +kernel, by decide +kernel, .inl ⟨5, by decide +kernel⟩⟩

theorem witness_WindowsReachTheTables_5 : ∃ (n : Nat) (s : State), n < 4 ∧ ((s.win n).owner = none ∨ (s.win
    n).owner = some .host ∨ (s.win n).owner = some .engine) :=
  ⟨2, active, by decide +kernel⟩

theorem witness_WindowsReachTheTables_6 : ∃ (p : Path) (n v : Nat) (s : State), isPath p = true ∧ n < 4 ∧ fits
    16 v = true ∧ 13 < v % 256 ∧ Admits p (Reg.WIN_SPACE n) s :=
  ⟨.host, 1, 14, active, by unfold Admits; decide +kernel⟩

theorem witness_WindowsReachTheTables_7 : ∃ (p : Path) (n : Nat) (w : Option Nat) (s : State), isPath p = true ∧
    n < 4 ∧ w.all (fits 16) = true ∧ Admits p (Reg.WIN_DATA n) s ∧ s.mayRead p (blockOf (Reg.WIN_DATA n)) = true
    ∧ s.ownsWindow p n = false :=
  ⟨.host, 1, some 5, active, by unfold Admits; decide +kernel⟩

theorem witness_WindowsReachTheTables_8 : ∃ (p : Path) (n : Nat) (w : Option Nat) (s : State), isPath p = true ∧
    n < 4 ∧ w.all (fits 16) = true ∧ Admits p (Reg.WIN_DATA n) s ∧ s.mayRead p (blockOf (Reg.WIN_DATA n)) = true
    ∧ s.ownsWindow p n = true ∧ s.mayRead p (spaceBlock (s.fld (.WIN_SPACE_ID n))) = true ∧ s.mayWrite p
    (spaceBlock (s.fld (.WIN_SPACE_ID n))) = true ∧ ((s.win n).past = true ∨ (spaceSize (s.fld (.WIN_SPACE_ID
    n))).1 ≤ s.fld (.WIN_CUR_CUR n) ∨ (spaceSize (s.fld (.WIN_SPACE_ID n))).2 ≤ s.fld (.WIN_OFS_OFS n)) :=
  ⟨.host, 2, some 5, win 2 .host 1 7 256, by unfold Admits; decide +kernel⟩

theorem witness_StagedSettingsAreCommitted_1 : ∃ (p : Path) (k : Nat) (s : State), isPath p = true ∧ k ≤ 2 ∧
    Admits p Reg.STG_CTRL s ∧ s.stg.checking = none :=
  ⟨.host, 2, active, by unfold Admits; decide +kernel⟩

theorem witness_StagedSettingsAreCommitted_2 : ∃ (p : Path) (k : Nat) (s : State), isPath p = true ∧ k ≤ 2 ∧
    Admits p Reg.STG_CTRL s ∧ s.stg.checking = none :=
  ⟨.host, 2, active, by unfold Admits; decide +kernel⟩

theorem witness_StagedSettingsAreCommitted_3 : ∃ (p : Path) (s : State), isPath p = true ∧ Admits p Reg.STG_CTRL
    s ∧ s.stg.checking = none ∧ s.stg.teamHeld = false :=
  ⟨.host, active, by unfold Admits; decide +kernel⟩

theorem witness_StagedSettingsAreCommitted_4 : ∃ (p : Path) (s : State), s.stg.checking = some (1, 0, p) ∧
    checkList 0 p { s with stg := { s.stg with checking := none } } = none ∧ s.rope.prepWait = [] :=
  ⟨Path.host, st (fun g => { g with checking := some (1, 0, .host) }), by decide +kernel⟩

theorem witness_StagedSettingsAreCommitted_5 : ∃ (p : Path) (k at_ r item : Nat) (s : State), s.stg.checking =
    some (k, at_, p) ∧ k ≤ 1 ∧ r < 16 ∧ item < 65536 ∧ checkList at_ p
    { s with stg := { s.stg with checking := none } } = some (r, item) ∧ s.rope.prepWait = [] :=
  ⟨Path.host, 1, 0, 1, 0, st (fun g => { g with checking := some (1, 0, .host), armed := true }),
    by decide +kernel⟩

theorem witness_StagedSettingsAreCommitted_6 : ∃ s : State, s.stg.armed = true ∧ s.stg.reached = true :=
  ⟨st (fun g => { g with armed := true, reached := true, topo := [(0, 5), (9, 0x1234)], coefHost := [3] }),
    by decide +kernel⟩

theorem witness_StagedSettingsAreCommitted_7 : ∃ s : State, s.stg.coefCopy = true :=
  ⟨st (fun g => { g with coefCopy := true, charCopy := true }), by decide +kernel⟩

theorem witness_StagedSettingsAreCommitted_8 : ∃ s : State, s.stg.charCopy = true :=
  ⟨st (fun g => { g with coefCopy := true, charCopy := true }), by decide +kernel⟩

theorem witness_StagedSettingsAreCommitted_9 : ∃ (p : Path) (s : State), s.stg.checking = some (0, 0, p) ∧
    checkList 0 p { s with stg := { s.stg with checking := none } } = none ∧ s.rope.prepWait = [] :=
  ⟨Path.host, st (fun g => { g with checking := some (0, 0, .host) }), by decide +kernel⟩

theorem witness_StagedSettingsAreCommitted_10 : ∃ (c : Instr) (p : Path) (k : Nat) (s : State), isPath p = true
    ∧ k < 8 ∧ (((c = .commit p k ∨ c = .check p k) ∧ 2 < k) ∨ (c = .discard p ∧ s.stg.checking = none ∧
    s.stg.teamHeld = true)) ∧ Admits p Reg.STG_CTRL s :=
  ⟨.commit .host 7, .host, 7, active, by unfold Admits; decide +kernel⟩

theorem witness_StagedSettingsAreCommitted_11 : ∃ (c : Instr) (p : Path) (k : Nat) (s : State), isPath p = true
    ∧ k ≤ 2 ∧ (c = .commit p k ∨ c = .check p k ∨ c = .discard p) ∧ s.stg.checking ≠ none ∧ Admits p
    Reg.STG_CTRL s :=
  ⟨.discard .host, .host, 1, st (fun g => { g with checking := some (0, 0, .host) }),
    by unfold Admits; decide +kernel⟩

theorem witness_StagedSettingsAreCommitted_12 : ∃ (c : Instr) (s : State), (c = .checkListEnd ∧ s.stg.checking =
    none) ∨ (c = .commitInstant ∧ (s.stg.armed = false ∨ s.stg.reached = false)) ∨ (c = .bankCopyDone .coef ∧
    s.stg.coefCopy = false) ∨ (c = .bankCopyDone .char ∧ s.stg.charCopy = false) :=
  ⟨.commitInstant, active, by decide +kernel⟩

end Port

/-! ### The angle base (05) -/

namespace Angle

def am (m : Nat) (src : Nat) (sync : Bool) (f : Ang → Ang) : State :=
  { (((active.setFld .ANG_CFG_MODE m).setFld .ANG_CFG_SRC src).setFlag .ANG_STAT_SYNC sync).setRegN Reg.ANG_LINES 25 with ang := f active.ang, now := 400000 } |>.setFld .ANG_TEETH_N 60
def head : State := ((active.setFlag .ROPE_STAT_HEAD true).setFld .ROPE_DN_STATE linkUp).setFld .ROPE_UP_STATE linkUp

theorem witness_AngleFollowsItsReference_1 : ∃ (n : Nat) (s : State), s.sys.held = false :=
  ⟨127072, active, by decide +kernel⟩

theorem witness_AngleFollowsItsReference_2 : ∃ s : State, s.sys.held = false ∧ s.stg.armed = false ∧
    s.ang.deadBand = false ∧ s.ang.expected = none ∧ s.angDir = false ∧ s.ang.num ≠ 0 ∧ (s.ang.rem + s.ang.num)
    / s.ang.den ≤ 4294967296 :=
  ⟨am 0 0 true (fun a => {a with num := 77777, den := 3, rem := 1}), by decide +kernel⟩

theorem witness_AngleFollowsItsReference_3 : ∃ s : State, s.speedDecays = true ∧ s.flag .ANG_STAT_STOP = false
    :=
  ⟨(am 0 0 true id).setFlag .ANG_STAT_STOP false, by decide +kernel⟩

theorem witness_AngleFollowsItsReference_4 : ∃ (e : AngleEdge) (s : State), s.takesEdge amIndex e = true ∧
    s.flag .ANG_STAT_SYNC = true ∧ s.ang.lastEvent = none ∧ s.ang.deadBand = false ∧ seenBackward s e.angb =
    s.angDir :=
  ⟨⟨true, false, 5000⟩, am 0 0 true id, by decide +kernel⟩

theorem witness_AngleFollowsItsReference_5 : ∃ (e : AngleEdge) (j : Nat) (s : State), s.takesEdge amTooth e =
    true ∧ seenBackward s e.angb = false ∧ s.flag .ANG_STAT_SYNC = true ∧ s.ang.lastEvent = none ∧
    s.ang.deadBand = false ∧ s.angDir = false ∧ s.ang.tooth = some j ∧ s.filterClocks = 0 :=
  ⟨⟨true, false, 0⟩, 5, (am 1 0 true (fun a => {a with tooth := some 5})).setFld .ANG_CFG_FILT 0,
    by decide +kernel⟩

theorem witness_AngleFollowsItsReference_6 : ∃ (c : Instr) (e : AngleEdge) (s : State), (s.passesFilter e.stable
    = false ∨ marksEvent s e = false) ∧ (c = .indexEdge e ∨ c = .toothEdge e) :=
  ⟨(.toothEdge ⟨false, true, 5⟩), ⟨false, true, 5⟩, am 1 0 true id, by decide +kernel⟩

theorem witness_AngleFollowsItsReference_7 : ∃ (a b i : AngleLevel) (s : State), s.passesFilter a.stable = false
    ∧ s.passesFilter b.stable = false ∧ s.passesFilter i.stable = false :=
  ⟨⟨true, 1⟩, ⟨true, 1⟩, ⟨true, 1⟩, (am 2 0 true id).setFld .ANG_CFG_FILT 1, by decide +kernel⟩

theorem witness_AngleFollowsItsReference_8 : ∃ (a b i : AngleLevel) (s : State), s.localAngle = true ∧ s.angMode
    = amQuad ∧ s.isActive = true ∧ s.flag .ANG_STAT_SYNC = true ∧ s.flag .ANG_CFG_QIDX = false ∧ s.ang.quadTimes
    = [] ∧ s.ang.lastEvent = none ∧ s.ang.deadBand = false ∧ s.angDir = false ∧ s.filterClocks = 0 ∧ (grayPlace
    s.ang.quadA s.ang.quadB + 1) % 4 = grayPlace (s.filtered a s.ang.quadA) (s.filtered b s.ang.quadB) :=
  ⟨⟨true, 0⟩, ⟨false, 0⟩, ⟨true, 3⟩, (am 2 0 true id).setFld .ANG_CFG_FILT 0, by decide +kernel⟩

theorem witness_AngleFollowsItsReference_9 : ∃ s : State, s.localAngle = true ∧ s.angMode = amMains ∧ s.isActive
    = true ∧ s.flag .ANG_STAT_SYNC = false ∧ s.ang.mainsCand = none :=
  ⟨am 3 0 false id, by decide +kernel⟩

theorem witness_AngleFollowsItsReference_10 : ∃ (u : Nat) (s : State), s.localAngle = true ∧ s.angMode = amMains
    ∧ s.isActive = true ∧ s.flag .ANG_STAT_SYNC = true ∧ s.ang.lastEvent = some u ∧ s.ang.interval = none ∧
    mainsGood (s.now - u) = true ∧ s.ang.deadBand = false ∧ s.angDir = false :=
  ⟨127072, am 3 0 true (fun a => { a with lastEvent := some 127072 }), by decide +kernel⟩

theorem witness_AngleFollowsItsReference_11 : ∃ s : State, s.speedDecays = false ∨ s.flag .ANG_STAT_STOP = true
    :=
  ⟨active, by decide +kernel⟩

theorem witness_AngleFollowsItsReference_12 : ∃ (c : Instr) (e : AngleEdge) (s : State), (s.localAngle = false ∨
    s.isActive = false) ∧ (c = .indexEdge e ∨ c = .toothEdge e ∨ c = .mainsCrossing) :=
  ⟨.mainsCrossing, ⟨true, true, 0⟩, am 3 1 true id, by decide +kernel⟩

theorem witness_AngleIsLostAndBeaconed_1 : ∃ s : State, s.localAngle = true ∧ (s.angMode = amIndex ∨ s.angMode =
    amTooth ∨ s.angMode = amMains) ∧ s.flag .ANG_STAT_SYNC = true ∧ s.isActive = true :=
  ⟨am 0 0 true id, by decide +kernel⟩

theorem witness_AngleIsLostAndBeaconed_2 : ∃ s : State, s.angSrc ≠ 0 ∧ s.flag .ANG_STAT_BCNLOSS = false ∧
    s.isActive = true :=
  ⟨am 0 1 true id, by decide +kernel⟩

theorem witness_AngleIsLostAndBeaconed_3 : ∃ s : State, s.isHead = true ∧ s.isUp .dn = true ∧ s.isActive = true
    :=
  ⟨head, by decide +kernel⟩

theorem witness_AngleIsLostAndBeaconed_4 : ∃ s : State, s.isHead = false ∨ s.isUp .dn = false ∨ s.isActive =
    false :=
  ⟨active, by decide +kernel⟩

theorem witness_AngleIsLostAndBeaconed_5 : ∃ (b : Beacon) (s : State), fits 8 b.seq = true ∧ fits 16 b.pos =
    true ∧ fits 32 b.speed = true ∧ fits 32 b.pass = true ∧ s.isUp .up = true :=
  ⟨⟨3, 500, 655360, 77, false, true, false, false, false⟩, head, by decide +kernel⟩

theorem witness_AngleIsLostAndBeaconed_6 : ∃ (b : Beacon) (crcOk : Bool) (s : State), fits 8 b.seq = true ∧ fits
    16 b.pos = true ∧ fits 32 b.speed = true ∧ fits 32 b.pass = true ∧ (crcOk = false ∨ s.isUp .up = false) :=
  ⟨⟨3, 500, 655360, 77, false, true, false, false, false⟩, false, head, by decide +kernel⟩

theorem witness_AngleIsLostAndBeaconed_7 : ∃ (b : Beacon) (rest : List Beacon) (s : State), s.ang.beaconWait = b
    :: rest ∧ b.pass < 4294967296 ∧ b.speed < 4294967296 ∧ s.angSrc ≠ 0 ∧ s.isActive = true :=
  ⟨{ seq := 3, pos := 500, speed := 655360, pass := 77, dir := false, sync := true, loss := false, subst := false, hold := false },
    [{ seq := 9, pos := 40000, speed := 50, pass := 12, dir := true, sync := false, loss := true, subst := true, hold := true }],
    am 0 1 true (fun a => { a with beaconWait := bcns }), by decide +kernel⟩

theorem witness_AngleIsLostAndBeaconed_8 : ∃ (b : Beacon) (rest : List Beacon) (s : State), s.ang.beaconWait = b
    :: rest ∧ s.angSrc = 0 ∧ s.isHead = false ∧ s.isUp .dn = true ∧ s.rope.dn.sending = none ∧ hasCredit
    s.rope.dn { vc := 1, typ := tyBcn, src := s.fld .ROPE_ADDR_HEADA, dst := 31, payload := beaconBytes b } =
    true :=
  ⟨⟨3, 500, 655360, 77, false, true, false, false, false⟩, [⟨9, 40000, 50, 12, true, false, true, true, true⟩],
    { head.setFlag .ROPE_STAT_HEAD false with ang := { head.ang with beaconWait := bcns } }, by decide +kernel⟩

theorem witness_AngleIsLostAndBeaconed_9 : ∃ s : State, s.ang.beaconWait = [] :=
  ⟨active, by decide +kernel⟩

theorem witness_AngleIsLostAndBeaconed_10 : ∃ s : State, s.localAngle = false ∨ s.flag .ANG_STAT_SYNC = false ∨
    s.isActive = false :=
  ⟨active, by decide +kernel⟩

theorem witness_AngleIsLostAndBeaconed_11 : ∃ s : State, s.angSrc = 0 ∨ s.flag .ANG_STAT_BCNLOSS = true ∨
    s.isActive = false :=
  ⟨active, by decide +kernel⟩

end Angle

/-! ### Excitation and reference (07, 08) -/

namespace Exc

def route0 : List (Nat × Word) := [(0, 0x0001), (1, 0x0203), (2, 0), (3, 0x0C30)]
def withRoute (s : State) : State := { s with tab := { s.tab with route := route0, topo := [(0, 0), (1, 0x8000), (2, 0), (3, 0x0100)] } }
def win0 (s : State) : Window := { windowOf s ⟨0, 0, 0, s.now, 0, false⟩ with phase := 3 }
def running : State :=
  let s := withRoute active
  let s := { s with slices := (List.replicate 13 { off := false : SliceSt }) }
  let s := s.modSlice 2 (fun x => { x with win := some (win0 s) })
  let s := s.setReg (Reg.EXC_CODE 0) 0x4000
  addConns s (driveConns s (win0 s) 2)
def pend (a : List Word) : State := running.modExc 0 (fun x => { x with pending := true, applied := a })
def pendSt : State := ({ running with slices := List.replicate 13 { off := false : SliceSt }, conns := [] }).modExc 0 (fun x => { x with pending := true, applied := [0,0,0,0,0,0] })
def refSt (buf en rdy : Bool) (bad : Nat) (io : Nat) : State := 
 let s := ((((active.setFlag .REF_STAT_BUFON buf).setFlag .REF_CTRL_BUFEN en).setFlag .REF_STAT_READY rdy).setFld .REF_CTRL_IOMODE io)
 { s with seq := { s.seq with refBad := bad } }
def connected : State := ({ active with conns := [⟨5, roleExc 0, 2⟩] }.setFld .EXC_STAT_CLRST 0).setReg (Reg.EXC_CODE 0) 0x4000

theorem witness_ExcitationOutputsFollowTheirEvents_1 : ∃ (k : Nat) (s : State), k < 4 ∧ s.excConnected k = true
    ∧ s.driveIsZero k = false ∧ (s.excOut k).breakOn = false :=
  ⟨0, connected.modExc 0 (fun x => { x with atCode := true }), by decide +kernel⟩

theorem witness_ExcitationOutputsFollowTheirEvents_2 : ∃ (k : Nat) (s : State), k < 4 ∧ (s.excConnected k =
    false ∨ s.driveIsZero k = true ∨ (s.excOut k).breakOn = true) :=
  ⟨3, active, by decide +kernel⟩

theorem witness_ExcitationOutputsFollowTheirEvents_3 : ∃ (k : Nat) (s : State), k < 4 ∧ k < s.exc.length ∧
    Watches 12 s :=
  ⟨3, active, by unfold Watches; decide +kernel⟩

theorem witness_ExcitationOutputsFollowTheirEvents_4 : ∃ (k : Nat) (s : State), k < 4 ∧ ((s.excOut k).pending =
    false ∨ s.atPoint k = false) :=
  ⟨3, active, by decide +kernel⟩

theorem witness_ExcitationOutputsFollowTheirEvents_5 : ∃ (k : Nat) (s : State), k < 4 ∧ (s.excOut k).pending =
    true ∧ s.atPoint k = true :=
  ⟨0, pendSt, by decide +kernel⟩

theorem witness_ExcitationOutputsFollowTheirEvents_6 : ∃ (k : Nat) (s : State), k < 4 ∧ (s.excOut k).breakOn =
    true :=
  ⟨0, running.modExc 0 (fun x => { x with breakOn := true, atCode := true }), by decide +kernel⟩

theorem witness_ExcitationOutputsFollowTheirEvents_7 : ∃ (k : Nat) (s : State), k < 4 ∧ (s.excOut k).breakOn =
    false :=
  ⟨3, active, by decide +kernel⟩

theorem witness_ReferenceIsMonitored_1 : ∃ s : State, s.flag .REF_STAT_BUFON = true ∧ s.flag .REF_CTRL_BUFEN =
    true :=
  ⟨refSt true true false 0 0, by decide +kernel⟩

theorem witness_ReferenceIsMonitored_2 : ∃ s : State, s.flag .REF_STAT_BUFON = false ∨ s.flag .REF_CTRL_BUFEN =
    false :=
  ⟨active, by decide +kernel⟩

theorem witness_ReferenceIsMonitored_3 : ∃ (d : Nat) (s : State), s.flag .REF_STAT_READY = true ∧ d ≤ 2000 :=
  ⟨1000, refSt true true true 1 0, by decide +kernel⟩

theorem witness_ReferenceIsMonitored_4 : ∃ (d : Nat) (s : State), s.flag .REF_STAT_READY = true ∧ 2000 < d ∧
    (s.seq.refBad < 2 ∨ s.flag .REF_STAT_MONERR = true) :=
  ⟨65535, refSt true true true 1 0, by decide +kernel⟩

theorem witness_ReferenceIsMonitored_5 : ∃ (d : Nat) (s : State), s.flag .REF_STAT_READY = true ∧ 2000 < d ∧ 2 ≤
    s.seq.refBad ∧ s.flag .REF_STAT_MONERR = false ∧ Watches 9 s :=
  ⟨65535, refSt true true true 2 2, by unfold Watches; decide +kernel⟩

theorem witness_ReferenceIsMonitored_6 : ∃ (d : Nat) (s : State), s.flag .REF_STAT_READY = false :=
  ⟨65535, active, by decide +kernel⟩

theorem witness_ReferenceIsMonitored_7 : ∃ s : State, s.fld .REF_CTRL_IOMODE = 2 ∧ Watches 9 s :=
  ⟨refSt true true true 2 2, by unfold Watches; decide +kernel⟩

theorem witness_ReferenceIsMonitored_8 : ∃ s : State, s.fld .REF_CTRL_IOMODE ≠ 2 :=
  ⟨active, by decide +kernel⟩

end Exc

/-! ### The sequencer and the slices (08, 09) -/

namespace Seq

def entryW (w1 w2 w3 w4 w5 : Nat) : List Word := let e : List Word := [word 0, word w1, word w2, word w3, word w4, word w5, 0]; e ++ [crc16 (bytesOfWords e)]
def topoT : List (Nat × Word) :=
  let e0 := entryW (0x8000 + 1*8192 + 2*512) 0x0010 0x1100 0x0003 0x0003
  let e1 := entryW (0x8000 + 2*8192 + 15*512) 0x0410 0x0100 0x0004 0x0000
  let e2 := (entryW (0x8000 + 1*8192 + 3*512) 0 0x0100 0x0005 0).set 7 0x1234
  let e3 := entryW (0x8000 + 1*8192 + 13*512*0 + 4*512 + 8 + 1) 0x0010 0x0100 0x0006 0
  writeRun zeroWord [] 0 (e0 ++ e1 ++ e2 ++ e3)
def routeT : List (Nat × Word) := writeRun routeDefault [] 0 [0x4001, 0x3030, 0, 0x0C30, 0x4203, 0x3030, 0, 0x0C30]
def seqS : State :=
  let s := active
  let s := { s with tab := { s.tab with topo := topoT, route := routeT }, slices := List.replicate 13 { off := false : SliceSt } }
  let s := s.setFlag .SEQ_CTRL_RUN true |>.setFlag .SEQ_STAT_RUNNING true
  { s with seq := { s.seq with timeRun := [0,2,3], afterRun := [(1, 5)] } }
def offS (s : State) : State := { s with slices := s.slices.map (fun x => { x with off := true }) }
def pendS (o : Occ) : State := seqS.modSlice 2 (fun x => { x with pending := [o] })
def pendS3 (o : Occ) : State := seqS.modSlice 3 (fun x => { x with pending := [o] })
def winW (f : Window → Window) : Window := f { windowOf seqS ⟨0, 0, 0, 0, 1, false⟩ with phase := 3, chop := { elapsed := 512, done := 512, plus := 256 } }
def winS (f : Window → Window) : State := seqS.modSlice 2 (fun x => { x with win := some (winW f) })
def pairW : Window := winW (fun w => { w with partner := some 12 })
def pairS : State := (seqS.modSlice 2 (fun x => { x with win := some pairW })).modSlice 12 (fun x => { x with win := some { pairW with occ := { pairW.occ with kind := 9 }, partner := none } })
def endS (f : Window → Window) : State := seqS.modSlice 2 (fun x => { x with ended := [winW f] })
def reading (fault : Bool) : Reading := ⟨512000000, 2000, 0, 0, 0, 0, 0, false, false, [], fault⟩
def direct (s : State) : State := { s.setFldBit .SLC_DIRECT_DIR 2 true with cal := { s.cal with hostDirect := [2] } }
def urg (k : Nat) : State := { seqS.setFld .SEQ_URGSLICE_SLICE 2 with seq := { seqS.seq with urgent := List.replicate k ⟨1,0,0x0013,0,1,false⟩ } }

theorem witness_SequencerFiresEntries_1 : ∃ (e n : Nat) (s : State), e < 256 ∧ s.seq.timeRun.contains e = true ∧
    tKind (s.topoEntry e) = kindTime ∧ s.seqRuns = true ∧ s.entryOn e = true ∧ (s.inReduced = false ∨ tEss
    (s.topoEntry e) = true) ∧ s.occCount e % (tDiv (s.topoEntry e) + 1) = tDph (s.topoEntry e) ∧ targetSlice s
    (s.topoEntry e) = some n ∧ n < s.slices.length ∧ (s.slice n).off = false ∧ s.pendingOf e = none ∧ (s.slice
    n).pending.length < 8 :=
  ⟨2, 3, seqS, by decide +kernel⟩

theorem witness_SequencerFiresEntries_2 : ∃ (e : Nat) (s : State), e < 256 ∧ s.seq.timeRun.contains e = true ∧
    tKind (s.topoEntry e) = kindTime ∧ s.seqRuns = true ∧ s.entryOn e = true ∧ (s.inReduced = false ∨ tEss
    (s.topoEntry e) = true) ∧ s.occCount e % (tDiv (s.topoEntry e) + 1) = tDph (s.topoEntry e) ∧ targetSlice s
    (s.topoEntry e) = none :=
  ⟨0, seqS.setFldBit .SLC_RETIRED_RET 2 true, by decide +kernel⟩

theorem witness_SequencerFiresEntries_3 : ∃ (e : Nat) (s : State), e < 256 ∧ s.seq.timeRun.contains e = true ∧
    tKind (s.topoEntry e) = kindTime ∧ s.seqRuns = true ∧ s.entryOn e = true ∧ s.occCount e % (tDiv (s.topoEntry
    e) + 1) ≠ tDph (s.topoEntry e) :=
  ⟨3, seqS, by decide +kernel⟩

theorem witness_SequencerFiresEntries_4 : ∃ (e : Nat) (s : State), e < 256 ∧ s.seqRuns = false :=
  ⟨255, active, by decide +kernel⟩

theorem witness_SequencerFiresEntries_5 : ∃ (e n : Nat) (s : State), e < 256 ∧ s.seq.afterRun.any (fun x => x.1
    == e) = true ∧ tKind (s.topoEntry e) = kindAfter ∧ s.seqRuns = true ∧ s.entryOn e = true ∧ (s.inReduced =
    false ∨ tEss (s.topoEntry e) = true) ∧ s.occCount e % (tDiv (s.topoEntry e) + 1) = tDph (s.topoEntry e) ∧
    targetSlice s (s.topoEntry e) = some n ∧ n < s.slices.length ∧ (s.slice n).off = false ∧ s.pendingOf e =
    none ∧ (s.slice n).pending.length < 8 :=
  ⟨1, 0, seqS.setFld .ANG_CFG_SRC 0, by decide +kernel⟩

theorem witness_SequencerFiresEntries_6 : ∃ (p : Path) (s : State), isPath p = true ∧ Admits p Reg.SEQ_CTRL s ∧
    s.cal.hostDirect.any (· < 12) = false :=
  ⟨.host, seqS, by unfold Admits; decide +kernel⟩

theorem witness_SequencerFiresEntries_7 : ∃ (p : Path) (s : State), isPath p = true ∧ Admits p Reg.SEQ_CTRL s ∧
    s.cal.hostDirect.any (· < 12) = true :=
  ⟨.host, direct seqS, by unfold Admits; decide +kernel⟩

theorem witness_SequencerFiresEntries_8 : ∃ (p : Path) (s : State), isPath p = true ∧ Admits p Reg.SEQ_CTRL s ∧
    s.flag .SEQ_CTRL_RUN = true :=
  ⟨.host, seqS, by unfold Admits; decide +kernel⟩

theorem witness_SequencerFiresEntries_9 : ∃ (p : Path) (s : State), isPath p = true ∧ Admits p Reg.SEQ_CTRL s ∧
    s.flag .SEQ_CTRL_RUN = false :=
  ⟨.host, (seqS.setFlag .SEQ_CTRL_RUN false).setFlag .SEQ_STAT_RUNNING false, by unfold Admits; decide +kernel⟩

theorem witness_SequencerFiresEntries_10 : ∃ (p : Path) (s : State), isPath p = true ∧ Admits p Reg.SEQ_CTRL s ∧
    s.cal.hostDirect.any (· < 12) = false :=
  ⟨.host, seqS, by unfold Admits; decide +kernel⟩

theorem witness_SequencerFiresEntries_11 : ∃ (e : Nat) (s : State), e < 256 ∧ s.entryOn e = true ∧ tCrcOk
    (s.topoEntry e) = false ∧ Watches 6 s ∧ s.seq.crcDead.contains e = false ∧ [phTake, phBack,
    phProbe].contains s.calPhase = false :=
  ⟨2, seqS, by unfold Watches; decide +kernel⟩

theorem witness_SequencerFiresEntries_12 : ∃ (e : Nat) (s : State), e < 256 ∧ (s.entryOn e = false ∨ tCrcOk
    (s.topoEntry e) = true) :=
  ⟨3, seqS, by decide +kernel⟩

theorem witness_SequencerFiresEntries_13 : ∃ (e n : Nat) (q : Occ) (s : State), e < 256 ∧ s.seq.timeRun.contains
    e = true ∧ tKind (s.topoEntry e) = kindTime ∧ s.seqRuns = true ∧ s.entryOn e = true ∧ (s.inReduced = false ∨
    tEss (s.topoEntry e) = true) ∧ s.occCount e % (tDiv (s.topoEntry e) + 1) = tDph (s.topoEntry e) ∧
    targetSlice s (s.topoEntry e) = some n ∧ (s.slice n).off = false ∧ s.slices.length = 13 ∧ s.pendingOf e =
    some q :=
  ⟨0, 2, ⟨0,0,0,0,1,false⟩, pendS ⟨0,0,0,0,1,false⟩, by decide +kernel⟩

theorem witness_SequencerFiresEntries_14 : ∃ (e : Nat) (s : State), e < 256 ∧ s.seq.afterRun.any (fun x => x.1
    == e) = false :=
  ⟨3, active, by decide +kernel⟩

theorem witness_WindowsRunTheirPhases_1 : ∃ (n : Nat) (o : Occ) (rest : List Occ) (s : State), n < 13 ∧ n <
    s.slices.length ∧ (s.slice n).win = none ∧ (s.slice n).pending = o :: rest ∧ (o.kind ≠ 0 ∨ (s.entryOn
    o.entry = true ∧ tCrcOk (s.topoEntry o.entry) = true)) ∧ StartsFree n (windowOf s o) s :=
  ⟨2, { kind := 0, entry := 0, word := 0, clock := 0, pass := 1, atime := false }, [], pendS ⟨0,0,0,0,1,false⟩,
    by unfold StartsFree; decide +kernel⟩

theorem witness_WindowsRunTheirPhases_2 : ∃ (n : Nat) (o : Occ) (rest : List Occ) (s : State), n < 13 ∧ n <
    s.slices.length ∧ (s.slice n).win = none ∧ (s.slice n).pending = o :: rest ∧ o.kind = 0 ∧ s.entryOn o.entry
    = true ∧ tCrcOk (s.topoEntry o.entry) = true ∧ (s.slice n).off = true :=
  ⟨2, { kind := 0, entry := 0, word := 0, clock := 0, pass := 1, atime := false }, [], offS (pendS
    ⟨0,0,0,0,1,false⟩), by decide +kernel⟩

theorem witness_WindowsRunTheirPhases_3 : ∃ (n : Nat) (o : Occ) (rest : List Occ) (s : State), n < 13 ∧ n <
    s.slices.length ∧ (s.slice n).win = none ∧ (s.slice n).pending = o :: rest ∧ o.kind = 0 ∧ s.entryOn o.entry
    = true ∧ tCrcOk (s.topoEntry o.entry) = false ∧ Watches 6 s ∧ s.seq.crcDead.contains o.entry = false ∧
    [phTake, phBack, phProbe].contains s.calPhase = false :=
  ⟨3, { kind := 0, entry := 2, word := 0, clock := 0, pass := 0, atime := false }, [], pendS3 ⟨0,2,0,0,0,false⟩,
    by unfold Watches; decide +kernel⟩

theorem witness_WindowsRunTheirPhases_4 : ∃ (n : Nat) (s : State), n < 13 ∧ ((s.slice n).win.isSome = true ∨
    (s.slice n).pending = []) :=
  ⟨12, seqS, by decide +kernel⟩

theorem witness_WindowsRunTheirPhases_5 : ∃ (n : Nat) (w : Window) (s : State), n < 13 ∧ n < s.slices.length ∧
    (s.slice n).win = some w ∧ w.phase = 2 ∧ w.partner ≠ some n :=
  ⟨2, winW (fun w => { w with phase := 2 }), winS (fun w => { w with phase := 2 }), by decide +kernel⟩

theorem witness_WindowsRunTheirPhases_6 : ∃ (n : Nat) (w : Window) (s : State), n < 13 ∧ n < s.slices.length ∧
    (s.slice n).win = some w ∧ w.phase ≠ 2 ∧ w.angleWin = false ∧ w.occ.kind ≠ 9 ∧ w.occ.kind ≠ 3 ∧ w.partner =
    none ∧ w.burst = false ∧ s.hasBurst .exc 0 = false :=
  ⟨2, winW id, winS id, by decide +kernel⟩

theorem witness_WindowsRunTheirPhases_7 : ∃ (n : Nat) (w : Window) (s : State), n < 13 ∧ n < s.slices.length ∧
    (s.slice n).win = some w ∧ w.phase ≠ 2 ∧ w.angleWin = true ∧ w.occ.kind ≠ 9 ∧ w.occ.kind ≠ 3 ∧ w.partner =
    none ∧ w.burst = false ∧ s.hasBurst .exc 0 = false :=
  ⟨2, winW (fun w =>
    { w with angleWin := true, chop := { elapsed := 4194304, done := 4194304, plus := 2097152 } }), winS (fun w
    => { w with angleWin := true, chop := { elapsed := 4194304, done := 4194304, plus := 2097152 } }),
    by decide +kernel⟩

theorem witness_WindowsRunTheirPhases_8 : ∃ (n : Nat) (w : Window) (s : State), n < 13 ∧ n < s.slices.length ∧
    (s.slice n).win = some w ∧ w.short = true ∧ w.occ.kind ≠ 9 ∧ w.occ.kind ≠ 3 ∧ w.partner = none ∧ w.burst =
    false ∧ s.hasBurst .exc 0 = false :=
  ⟨2, winW (fun w => { w with short := true }), winS (fun w => { w with short := true }), by decide +kernel⟩

theorem witness_WindowsRunTheirPhases_9 : ∃ (n q : Nat) (w v : Window) (s : State), n < 13 ∧ n < s.slices.length
    ∧ q < s.slices.length ∧ q ≠ n ∧ (s.slice n).win = some w ∧ w.partner = some q ∧ (s.slice q).win = some v ∧
    w.phase ≠ 2 ∧ w.angleWin = false ∧ w.occ.kind = 0 ∧ v.occ.kind = 9 ∧ w.burst = false ∧ s.hasBurst .exc 0 =
    false :=
  ⟨2, 12, pairW, { pairW with occ := { pairW.occ with kind := 9 }, partner := none }, pairS, by decide +kernel⟩

theorem witness_WindowsRunTheirPhases_10 : ∃ (n : Nat) (w : Window) (s : State), n < 13 ∧ n < s.slices.length ∧
    (s.slice n).win = some w ∧ splits w = true ∧ w.half = false ∧ w.phase ≠ 2 ∧ w.occ.kind ≠ 9 ∧ w.partner ≠
    some n :=
  ⟨2, winW (fun w => { w with topo := w.topo.set 6 0x8000 }), winS (fun w =>
    { w with topo := w.topo.set 6 0x8000 }), by decide +kernel⟩

theorem witness_WindowsRunTheirPhases_11 : ∃ (n : Nat) (c : Instr) (s : State), n < 13 ∧ (s.slice n).win = none
    ∧ c ∈ [.settleEnd n, .timeWindowEnd n, .windowLimit n, .minimumWindowEnd n, .halfWindowExchange n] :=
  ⟨12, (.settleEnd 12), seqS, by decide +kernel⟩

theorem witness_WindowsRunTheirPhases_12 : ∃ (n : Nat) (w : Window) (c : Instr) (s : State), n < 13 ∧ (s.slice
    n).win = some w ∧ ((c = .settleEnd n ∧ w.phase ≠ 2) ∨ (c = .timeWindowEnd n ∧ (w.angleWin = true ∨ w.phase =
    2)) ∨ (c = .windowLimit n ∧ (w.angleWin = false ∨ w.phase = 2)) ∨ (c = .minimumWindowEnd n ∧ w.short =
    false) ∨ (c = .halfWindowExchange n ∧ (splits w = false ∨ w.half = true ∨ w.phase = 2))) :=
  ⟨2, winW id, (.windowLimit 2), winS id, by decide +kernel⟩

theorem witness_ResultsAreWritten_1 : ∃ (n : Nat) (w : Window) (rest : List Window) (m : Reading) (s : State), n
    < 13 ∧ n < s.slices.length ∧ isReading m = true ∧ m.fault = false ∧ (s.slice n).ended = w :: rest ∧
    w.occ.kind = 0 ∧ w.partner = none ∧ leadCheckOn w = false ∧ tAuto w.topo = false :=
  ⟨2, winW id, [], reading false, endS id, by decide +kernel⟩

theorem witness_ResultsAreWritten_2 : ∃ (n : Nat) (w : Window) (rest : List Window) (m : Reading) (s : State), n
    < 13 ∧ n < s.slices.length ∧ isReading m = true ∧ m.fault = true ∧ (s.slice n).ended = w :: rest ∧
    w.occ.kind = 0 ∧ w.partner = none ∧ Watches 7 s :=
  ⟨2, winW id, [], reading true, endS id, by unfold Watches; decide +kernel⟩

theorem witness_ResultsAreWritten_3 : ∃ (n : Nat) (w : Window) (rest : List Window) (m : Reading) (s : State), n
    < 13 ∧ n < s.slices.length ∧ isReading m = true ∧ m.fault = false ∧ (s.slice n).ended = w :: rest ∧
    w.occ.kind = 2 ∧ w.partner = none ∧ s.cal.sys = none ∧ s.cal.hostFree = [] :=
  ⟨2, winW (fun w => { w with occ := { w.occ with kind := 2, word := 0x35 } }), [], reading false, endS (fun w =>
    { w with occ := { w.occ with kind := 2, word := 0x35 } }), by decide +kernel⟩

theorem witness_ResultsAreWritten_4 : ∃ (n : Nat) (m : Reading) (s : State), n < 13 ∧ isReading m = true ∧
    (s.slice n).ended = [] :=
  ⟨12, reading false, seqS, by decide +kernel⟩

theorem witness_ResultsAreWritten_5 : ∃ (n : Nat) (w : Window) (rest : List Window) (m : Reading) (s : State), n
    < 13 ∧ isReading m = true ∧ (s.slice n).ended = w :: rest ∧ w.occ.kind = 9 :=
  ⟨2, winW (fun w => { w with occ := { w.occ with kind := 9 } }), [], reading false, endS (fun w =>
    { w with occ := { w.occ with kind := 9 } }), by decide +kernel⟩

theorem witness_DirectAndUrgentConversions_1 : ∃ (p : Path) (n v : Nat) (s : State), isPath p = true ∧ n < 13 ∧
    n < s.slices.length ∧ fits 16 v = true ∧ Admits p (Reg.SLC_FORCE n) s ∧ s.fldBit .SLC_DIRECT_DIR n = true ∧
    s.fldBit .SLC_BUSY_BUSY n = false ∧ rEmpty (s.routeEntry (v / 1024)) = false ∧ calHolds s n = false ∧
    directRuns s n = false ∧ driveConflict s n (s.routeEntry (v / 1024)) = false ∧ StartsFree n (windowOf s ⟨2,
    0, v, s.now, s.regN Reg.ANG_PASS, false⟩) s :=
  ⟨.host, 2, 0x0435, direct seqS, by unfold Admits StartsFree; decide +kernel⟩

theorem witness_DirectAndUrgentConversions_2 : ∃ (p : Path) (n v : Nat) (s : State), isPath p = true ∧ n < 13 ∧
    fits 16 v = true ∧ Admits p (Reg.SLC_FORCE n) s ∧ s.fldBit .SLC_DIRECT_DIR n = true ∧ rEmpty (s.routeEntry
    (v / 1024)) = false ∧ (s.fldBit .SLC_BUSY_BUSY n = true ∨ directRuns s n = true ∨ calHolds s n = true ∨
    driveConflict s n (s.routeEntry (v / 1024)) = true) :=
  ⟨.host, 2, 0x0435, direct (seqS.setFldBit .SLC_BUSY_BUSY 2 true), by unfold Admits; decide +kernel⟩

theorem witness_DirectAndUrgentConversions_3 : ∃ (p : Path) (n v : Nat) (s : State), isPath p = true ∧ n < 13 ∧
    fits 16 v = true ∧ Admits p (Reg.SLC_FORCE n) s ∧ (s.fldBit .SLC_DIRECT_DIR n = false ∨ rEmpty (s.routeEntry
    (v / 1024)) = true) :=
  ⟨.host, 12, 65535, seqS, by unfold Admits; decide +kernel⟩

theorem witness_DirectAndUrgentConversions_4 : ∃ (p : Path) (v : Nat) (s : State), isPath p = true ∧ fits 16 v =
    true ∧ Admits p Reg.SLC_DIRECT s ∧ (List.range 13).all (fun n => !v.testBit n || s.cal.hostDirect.contains n
    || calHolds s n || mayHold s n) = true ∧ s.cal.hostDirect.all (fun n => v.testBit n || !directRuns s n) =
    true ∧ (List.range 13).all (fun n => !s.cal.hostDirect.contains n || s.fldBit .SLC_DIRECT_DIR n) = true :=
  ⟨.host, 0x2000, seqS, by unfold Admits; decide +kernel⟩

theorem witness_DirectAndUrgentConversions_5 : ∃ (p : Path) (n v : Nat) (s : State), isPath p = true ∧ fits 16 v
    = true ∧ Admits p Reg.SLC_DIRECT s ∧ n < 13 ∧ v.testBit n = true ∧ s.cal.hostDirect.contains n = false ∧
    calHolds s n = false ∧ mayHold s n = false :=
  ⟨.host, 12, 65535, seqS, by unfold Admits; decide +kernel⟩

theorem witness_DirectAndUrgentConversions_6 : ∃ (p : Path) (v : Nat) (s : State), isPath p = true ∧ fits 16 v =
    true ∧ Admits p Reg.SEQ_URG s ∧ rEmpty (s.routeEntry (v / 1024)) = false ∧ (s.flag .CAL_STAT_SWRET = false ∨
    s.fld .SEQ_URGSLICE_SLICE ≠ 12) ∧ s.seq.urgent.length < 4 :=
  ⟨.host, 0x0435, seqS, by unfold Admits; decide +kernel⟩

theorem witness_DirectAndUrgentConversions_7 : ∃ (p : Path) (v : Nat) (s : State), isPath p = true ∧ fits 16 v =
    true ∧ Admits p Reg.SEQ_URG s ∧ rEmpty (s.routeEntry (v / 1024)) = false ∧ (s.flag .CAL_STAT_SWRET = false ∨
    s.fld .SEQ_URGSLICE_SLICE ≠ 12) ∧ 4 ≤ s.seq.urgent.length :=
  ⟨.host, 0x0435, urg 4, by unfold Admits; decide +kernel⟩

theorem witness_DirectAndUrgentConversions_8 : ∃ (p : Path) (v : Nat) (s : State), isPath p = true ∧ fits 16 v =
    true ∧ Admits p Reg.SEQ_URG s ∧ rEmpty (s.routeEntry (v / 1024)) = true :=
  ⟨.host, 65535, seqS, by unfold Admits; decide +kernel⟩

theorem witness_DirectAndUrgentConversions_9 : ∃ (n : Nat) (o : Occ) (rest : List Occ) (s : State), s.seq.urgent
    = o :: rest ∧ urgentSlice s = some n ∧ n < s.slices.length ∧ StartsFree n (windowOf s
    { o with pass := s.regN Reg.ANG_PASS }) s :=
  ⟨2, { kind := 1, entry := 0, word := 19, clock := 0, pass := 1, atime := false }, [], urg 1,
    by unfold StartsFree; decide +kernel⟩

theorem witness_DirectAndUrgentConversions_10 : ∃ s : State, s.seq.urgent = [] ∨ urgentSlice s = none :=
  ⟨seqS, by decide +kernel⟩

theorem witness_DirectAndUrgentConversions_11 : ∃ (p : Path) (v : Nat) (s : State), isPath p = true ∧ fits 16 v
    = true ∧ Admits p Reg.SEQ_URG s ∧ rEmpty (s.routeEntry (v / 1024)) = false ∧ s.flag .CAL_STAT_SWRET = true ∧
    s.fld .SEQ_URGSLICE_SLICE = 12 :=
  ⟨.host, 0x0435, (seqS.setFlag .CAL_STAT_SWRET true).setFld .SEQ_URGSLICE_SLICE 12,
    by unfold Admits; decide +kernel⟩

theorem witness_DirectAndUrgentConversions_12 : ∃ (p : Path) (n v : Nat) (s : State), isPath p = true ∧ fits 16
    v = true ∧ Admits p Reg.SLC_DIRECT s ∧ n < 13 ∧ v.testBit n = false ∧ s.cal.hostDirect.contains n = true ∧
    s.fldBit .SLC_DIRECT_DIR n = true ∧ directRuns s n = true ∧ (List.range 13).all (fun k => !v.testBit k ||
    s.cal.hostDirect.contains k) = true :=
  ⟨.host, 2, 0, direct ((winS id).modWin 2 (fun w => { w with occ := { w.occ with kind := 2 } })),
    by unfold Admits; decide +kernel⟩

end Seq

/-! ### Calibration (10) -/

namespace Cal

def entryW (w1 w2 w3 w4 w5 : Nat) : List Word := let e : List Word := [word 0, word w1, word w2, word w3, word w4, word w5, 0]; e ++ [crc16 (bytesOfWords e)]
def topoT : List (Nat × Word) := writeRun zeroWord [] 0 (entryW (0x8000 + 1*8192 + 2*512) 0x0010 0x1100 0x0003 0x0003)
def routeT : List (Nat × Word) := writeRun routeDefault [] 0 [0x4001, 0x3030, 0, 0x0C30]
def base : State :=
  let s := active
  let s := { s with tab := { s.tab with topo := topoT, route := routeT }, slices := List.replicate 13 { off := false : SliceSt } }
  ((s.setFlag .SEQ_CTRL_RUN true).setFlag .SEQ_STAT_RUNNING true).setFlag .CAL_CTRL_BGEN true
def ph (p n : Nat) (s : State) : State := (s.setFld .CAL_STAT_PHASE p).setFld .CAL_STAT_SLICE n
def due (l : List Nat) (s : State) : State := { s with cal := { s.cal with due := l } }
def retr (k : Nat) (s : State) : State := { s with cal := { s.cal with retries := [(2,k),(12, k)] } }
def badE (i : Nat) (s : State) : State := { s with tab := { s.tab with coef := writeAt coefDefault s.tab.coef (6*i) 0x77 } }
def sysP (f : Bool) (r n k : Nat) (s : State) : State := { s with cal := { s.cal with sys := some (f, r, n), sysTry := k } }
def hd (l : List Nat) (s : State) : State := l.foldl (fun s n => s.setFldBit .SLC_DIRECT_DIR n true) { s with cal := { s.cal with hostDirect := l } }
def nogrant (s : State) : State := { s with sys := { s.sys with prot := let m := defaultMap.set 3 0; m ++ [protCheck m] } }
def tgt (s : State) : State :=
  let e := ((coefEntry s.tab.coefAlt 0).take 5).set 3 (word 1000000)
  { s with tab := { s.tab with coefAlt := putCoef s.tab.coefAlt 0 (e.set 4 0x0F00) } }
def meas (s : State) : State := { s with cal := { s.cal with measuring := true } }

theorem witness_SlicesBecomeDue_1 : ∃ (n : Nat) (s : State), n < 13 ∧ s.fld .CAL_PERIOD_SEC ≠ 0 ∧ s.flag
    .CAL_CTRL_BGEN = true ∧ s.cal.due.contains n = false ∧ s.fldBit .SLC_RETIRED_RET n = false ∧ (s.slice n).off
    = false :=
  ⟨12, base, by decide +kernel⟩

theorem witness_SlicesBecomeDue_2 : ∃ (n : Nat) (s : State), n < 13 ∧ s.fld .CAL_PERIOD_SEC = 0 :=
  ⟨12, base.setRegN Reg.CAL_PERIOD 0, by decide +kernel⟩

theorem witness_SlicesBecomeDue_3 : ∃ (p : Path) (n : Nat) (s : State), isPath p = true ∧ n < 13 ∧ Admits p
    Reg.CAL_CTRL s ∧ s.flag .CAL_CTRL_BGEN = true ∧ s.cal.due.contains n = false ∧ s.fldBit .SLC_RETIRED_RET n =
    false ∧ (s.slice n).off = false ∧ (n = 12 → s.flag .CAL_STAT_SWRET = false) :=
  ⟨.host, 12, base, by unfold Admits; decide +kernel⟩

theorem witness_SlicesBecomeDue_4 : ∃ (p : Path) (n : Nat) (s : State), isPath p = true ∧ n < 16 ∧ Admits p
    Reg.CAL_CTRL s ∧ (13 ≤ n ∨ s.fldBit .SLC_RETIRED_RET n = true ∨ (n = 12 ∧ s.flag .CAL_STAT_SWRET = true)) :=
  ⟨.host, 15, base, by unfold Admits; decide +kernel⟩

theorem witness_SlicesBecomeDue_5 : ∃ (n : Nat) (s : State), leadCandidate s = some n :=
  ⟨2, due [2] base, by decide +kernel⟩

theorem witness_SlicesBecomeDue_6 : ∃ s : State, leadCandidate s = none :=
  ⟨base, by decide +kernel⟩

theorem witness_SlicesBecomeDue_7 : ∃ s : State, s.calPhase = phProbe ∧ s.cal.compared = 0 ∧ s.cal.sys = none :=
  ⟨ph 5 2 (due [2] base), by decide +kernel⟩

theorem witness_SlicesBecomeDue_8 : ∃ s : State, s.calPhase ≠ phProbe ∨ s.cal.compared ≠ 0 :=
  ⟨base, by decide +kernel⟩

theorem witness_CalibrationInstallsCodes_1 : ∃ (ma mb : List (Int × Int)) (s : State),
    (Instr.calibrationComplete ma mb).wellFormed = true ∧ s.calPhase = phSwcal ∧ s.cal.measuring = true ∧
    s.hasBurst .exc 0 = false ∧ (List.range 8).all (fun c => coefOk (coefEntry s.tab.coef (sliceEntry 12 c))) =
    true ∧ worstDiff (passCodes 12 ma s).1 (passCodes 12 mb s).1 ≤ s.fld .CAL_TOL_RTOL * 1000 ∧ s.flag
    .SEQ_CTRL_RUN = true ∧ s.entries.any (fun e => tSlice (s.topoEntry e) == s.calSlice || tSlice (s.topoEntry
    e) == sliceAny) = true :=
  ⟨(List.replicate 8 (0, 7549747)), (List.replicate 8 (0, 7549747)), meas (ph 1 2 base), by decide +kernel⟩

theorem witness_CalibrationInstallsCodes_2 : ∃ (ma mb : List (Int × Int)) (s : State),
    (Instr.calibrationComplete ma mb).wellFormed = true ∧ s.calPhase = phCover ∧ s.cal.measuring = true ∧
    s.hasBurst .exc 0 = false ∧ s.calSlice < 12 ∧ (List.range 8).all (fun c => coefOk (coefEntry s.tab.coef
    (sliceEntry s.calSlice c))) = true ∧ worstDiff (passCodes s.calSlice ma s).1 (passCodes s.calSlice mb s).1 ≤
    s.fld .CAL_TOL_RTOL * 1000 ∧ s.flag .SEQ_CTRL_RUN = true ∧ s.entries.any (fun e => tSlice (s.topoEntry e) ==
    s.calSlice || tSlice (s.topoEntry e) == sliceAny) = true :=
  ⟨(List.replicate 8 (0, 7549747)), (List.replicate 8 (0, 7549747)), meas (ph 3 2 base), by decide +kernel⟩

theorem witness_CalibrationInstallsCodes_3 : ∃ (ma mb : List (Int × Int)) (s : State),
    (Instr.calibrationComplete ma mb).wellFormed = true ∧ s.calPhase = phSwcal ∧ s.cal.measuring = true ∧
    (List.range 8).all (fun c => coefOk (coefEntry s.tab.coef (sliceEntry 12 c))) = true ∧ s.fld .CAL_TOL_RTOL *
    1000 < worstDiff (passCodes 12 ma s).1 (passCodes 12 mb s).1 ∧ s.retries 12 < 3 :=
  ⟨(List.replicate 8 (0, 7549747)), (List.replicate 8 (90000, 7549747)), meas (ph 1 2 base), by decide +kernel⟩

theorem witness_CalibrationInstallsCodes_4 : ∃ (ma mb : List (Int × Int)) (s : State),
    (Instr.calibrationComplete ma mb).wellFormed = true ∧ s.calPhase = phSwcal ∧ s.cal.measuring = true ∧
    (List.range 8).all (fun c => coefOk (coefEntry s.tab.coef (sliceEntry 12 c))) = true ∧ s.fld .CAL_TOL_RTOL *
    1000 < worstDiff (passCodes 12 ma s).1 (passCodes 12 mb s).1 ∧ 3 ≤ s.retries 12 ∧ s.cal.sys = none ∧ 12 <
    s.slices.length :=
  ⟨(List.replicate 8 (0, 7549747)), (List.replicate 8 (90000, 7549747)), meas (ph 1 2 (retr 3 base)),
    by decide +kernel⟩

theorem witness_CalibrationInstallsCodes_5 : ∃ (ma mb : List (Int × Int)) (s : State),
    (Instr.calibrationComplete ma mb).wellFormed = true ∧ s.calPhase = phCover ∧ s.cal.measuring = true ∧
    s.calSlice < 12 ∧ s.calSlice < s.slices.length ∧ (List.range 8).all (fun c => coefOk (coefEntry s.tab.coef
    (sliceEntry s.calSlice c))) = true ∧ s.fld .CAL_TOL_RTOL * 1000 < worstDiff (passCodes s.calSlice ma s).1
    (passCodes s.calSlice mb s).1 ∧ 3 ≤ s.retries s.calSlice ∧ s.cal.sys = none :=
  ⟨(List.replicate 8 (0, 7549747)), (List.replicate 8 (90000, 7549747)), meas (ph 3 2 (retr 3 base)),
    by decide +kernel⟩

theorem witness_CalibrationInstallsCodes_6 : ∃ (ma mb : List (Int × Int)) (s : State),
    (Instr.calibrationComplete ma mb).wellFormed = true ∧ s.calRuns = false :=
  ⟨(List.replicate 8 (0, 7549747)), (List.replicate 8 (0, 7549747)), base, by decide +kernel⟩

theorem witness_CalibrationInstallsCodes_7 : ∃ (i : Nat) (s : State), i < 168 ∧ coefOk (coefEntry s.tab.coef i)
    = true :=
  ⟨100, base, by decide +kernel⟩

theorem witness_CalibrationInstallsCodes_8 : ∃ (i : Nat) (s : State), i < 64 ∧ coefOk (coefEntry s.tab.coef i) =
    false ∧ Watches 7 s :=
  ⟨5, badE 5 base, by unfold Watches; decide +kernel⟩

theorem witness_CalibrationInstallsCodes_9 : ∃ (n c : Nat) (s : State), n < 13 ∧ c < 8 ∧ coefOk (coefEntry
    s.tab.coef (64 + 8 * n + c)) = false ∧ Watches 7 s ∧ s.flag .CAL_CTRL_BGEN = true ∧ s.fldBit
    .SLC_RETIRED_RET n = false ∧ (s.slice n).off = false :=
  ⟨2, 0, badE (64+8*2+0) base, by unfold Watches; decide +kernel⟩

theorem witness_TrimsAreSavedAndReloaded_1 : ∃ (p : Path) (s : State), isPath p = true ∧ Admits p Reg.CAL_CTRL s
    ∧ s.granted p grantNvWr = true ∧ s.flag .NVM_STAT_PEND = false :=
  ⟨.host, base, by unfold Admits; decide +kernel⟩

theorem witness_TrimsAreSavedAndReloaded_2 : ∃ (p : Path) (s : State), isPath p = true ∧ Admits p Reg.CAL_CTRL s
    ∧ s.granted p grantNvWr = false :=
  ⟨.host, nogrant base, by unfold Admits; decide +kernel⟩

theorem witness_TrimsAreSavedAndReloaded_3 : ∃ (p : Path) (s : State), isPath p = true ∧ Admits p Reg.CAL_CTRL s
    ∧ s.stagedBusy = false ∧ s.stg.coefCopy = false :=
  ⟨.host, base, by unfold Admits; decide +kernel⟩

theorem witness_TrimsAreSavedAndReloaded_4 : ∃ (p : Path) (s : State), isPath p = true ∧ Admits p Reg.CAL_CTRL s
    ∧ s.stagedBusy = false ∧ s.stg.coefCopy = false :=
  ⟨.host, base, by unfold Admits; decide +kernel⟩

theorem witness_TrimsAreSavedAndReloaded_5 : ∃ (p : Path) (c : Bool) (s : State), isPath p = true ∧ Admits p
    Reg.CAL_CTRL s ∧ (s.stagedBusy = true ∨ s.stg.coefCopy = true) :=
  ⟨.host, false, { base with stg := { base.stg with armed := true }}, by unfold Admits; decide +kernel⟩

theorem witness_TrimsAreSavedAndReloaded_6 : ∃ (p : Path) (n : Nat) (s : State), isPath p = true ∧ n < 12 ∧ n <
    s.slices.length ∧ Admits p Reg.CAL_CTRL s ∧ s.fldBit .SLC_RETIRED_RET n = true ∧ s.flag .CAL_STAT_SWRET =
    false ∧ s.calPhase = phIdle ∧ s.cal.hostDirect.contains 12 = false ∧ s.cal.hostDirect.contains n = false ∧
    s.cal.cover = none ∧ (s.slice n).win = none :=
  ⟨.host, 2, base.setFldBit .SLC_RETIRED_RET 2 true, by unfold Admits; decide +kernel⟩

theorem witness_TrimsAreSavedAndReloaded_7 : ∃ (p : Path) (n : Nat) (s : State), isPath p = true ∧ n < 13 ∧
    Admits p Reg.CAL_CTRL s ∧ (n = 12 ∨ s.fldBit .SLC_RETIRED_RET n = false ∨ s.flag .CAL_STAT_SWRET = true ∨
    s.calPhase ≠ phIdle ∨ s.cal.hostDirect.contains 12 = true ∨ s.cal.hostDirect.contains n = true) :=
  ⟨.host, 11, base, by unfold Admits; decide +kernel⟩

theorem witness_TrimsAreSavedAndReloaded_8 : ∃ (p : Path) (s : State), isPath p = true ∧ Admits p Reg.CAL_CTRL s
    ∧ s.granted p grantNvWr = true ∧ s.flag .NVM_STAT_PEND = true :=
  ⟨.host, base.setFlag .NVM_STAT_PEND true, by unfold Admits; decide +kernel⟩

theorem witness_TrimsAreSavedAndReloaded_9 : ∃ (p : Path) (n : Nat) (s : State), isPath p = true ∧ 13 ≤ n ∧ n <
    16 ∧ Admits p Reg.CAL_CTRL s :=
  ⟨.host, 13, base, by unfold Admits; decide +kernel⟩

theorem witness_SystemCalibrationWritesItsPoint_1 : ∃ (p : Path) (full : Bool) (r n : Nat) (s : State), isPath p
    = true ∧ r < 64 ∧ n < 12 ∧ Admits p Reg.CAL_CTRL s ∧ s.fld .CAL_STAT_SYSST ≠ 1 ∧ s.cal.hostDirect.contains n
    = true ∧ rEmpty (s.routeEntry r) = false :=
  ⟨.host, false, 0, 2, hd [2] base, by unfold Admits; decide +kernel⟩

theorem witness_SystemCalibrationWritesItsPoint_2 : ∃ (p : Path) (full : Bool) (r : Nat) (s : State), isPath p =
    true ∧ r < 64 ∧ Admits p Reg.CAL_CTRL s ∧ s.fld .CAL_STAT_SYSST ≠ 1 ∧ s.flag .CAL_STAT_SWRET = false ∧
    s.swingCommitted = false ∧ s.cal.hostDirect.contains 12 = false ∧ rEmpty (s.routeEntry r) = false ∧
    s.calPhase = phIdle :=
  ⟨.host, false, 0, base, by unfold Admits; decide +kernel⟩

theorem witness_SystemCalibrationWritesItsPoint_3 : ∃ (p : Path) (full : Bool) (r n : Nat) (s : State), isPath p
    = true ∧ r < 64 ∧ n < 13 ∧ Admits p Reg.CAL_CTRL s ∧ s.fld .CAL_STAT_SYSST = 1 :=
  ⟨.host, false, 63, 12, hd [2] (base.setFld .CAL_STAT_SYSST 1), by unfold Admits; decide +kernel⟩

theorem witness_SystemCalibrationWritesItsPoint_4 : ∃ (g1 g2 : List Int) (ok : Bool) (r n : Nat) (s : State),
    (Instr.syscalPointDone g1 g2 ok).wellFormed = true ∧ r < 64 ∧ n < 13 ∧ s.cal.sys = some (false, r, n) ∧ (n =
    12 → s.calPhase = phSyscal) ∧ s.cal.sysSkip = false ∧ ok = true ∧ (groupSum g1 - groupSum g2).natAbs ≤ 16 *
    s.otolLsb ∧ coefOk (coefEntry s.tab.coef (sliceEntry n (getField (ew (coefEntry s.tab.coefAlt r) 2) 5 3))) =
    true ∧ isCode (sysOffset (groupSum g1 + groupSum g2) (sliceCodes n (getField (ew (coefEntry s.tab.coefAlt r)
    2) 5 3) s).1.2) = true :=
  ⟨(List.replicate 16 0), (List.replicate 16 0), true, 0, 2, sysP false 0 2 0 base, by decide +kernel⟩

theorem witness_SystemCalibrationWritesItsPoint_5 : ∃ (g1 g2 : List Int) (ok f : Bool) (r n : Nat) (s : State),
    (Instr.syscalPointDone g1 g2 ok).wellFormed = true ∧ n < 13 ∧ s.cal.sys = some (f, r, n) ∧ (n = 12 →
    s.calPhase = phSyscal) ∧ (ok = false ∨ s.cal.sysSkip = true ∨ 16 * s.otolLsb < (groupSum g1 - groupSum
    g2).natAbs) ∧ s.cal.sysTry < 3 :=
  ⟨(List.replicate 16 0), (List.replicate 16 0), false, false, 0, 2, sysP false 0 2 0 base, by decide +kernel⟩

theorem witness_SystemCalibrationWritesItsPoint_6 : ∃ (g1 g2 : List Int) (ok f : Bool) (r n : Nat) (s : State),
    (Instr.syscalPointDone g1 g2 ok).wellFormed = true ∧ n < 13 ∧ s.cal.sys = some (f, r, n) ∧ (n = 12 →
    s.calPhase = phSyscal) ∧ (ok = false ∨ s.cal.sysSkip = true ∨ 16 * s.otolLsb < (groupSum g1 - groupSum
    g2).natAbs) ∧ 3 ≤ s.cal.sysTry :=
  ⟨(List.replicate 16 0), (List.replicate 16 9000), true, true, 0, 2, sysP true 0 2 3 base, by decide +kernel⟩

theorem witness_SystemCalibrationWritesItsPoint_7 : ∃ (g1 g2 : List Int) (ok : Bool) (s : State),
    (Instr.syscalPointDone g1 g2 ok).wellFormed = true ∧ s.cal.sys = none :=
  ⟨(List.replicate 16 0), (List.replicate 16 0), true, base, by decide +kernel⟩

theorem witness_SystemCalibrationWritesItsPoint_8 : ∃ (p : Path) (full : Bool) (r : Nat) (s : State), isPath p =
    true ∧ r < 64 ∧ Admits p Reg.CAL_CTRL s ∧ s.fld .CAL_STAT_SYSST ≠ 1 ∧ s.flag .CAL_STAT_SWRET = false ∧
    s.swingCommitted = false ∧ s.cal.hostDirect.contains 12 = false ∧ rEmpty (s.routeEntry r) = false ∧
    s.calPhase ≠ phIdle :=
  ⟨.host, true, 0, ph 1 2 base, by unfold Admits; decide +kernel⟩

theorem witness_SystemCalibrationWritesItsPoint_9 : ∃ (p : Path) (full : Bool) (r n : Nat) (s : State), isPath p
    = true ∧ r < 64 ∧ n < 13 ∧ Admits p Reg.CAL_CTRL s ∧ s.fld .CAL_STAT_SYSST ≠ 1 ∧ ((n ≠ 12 ∧
    s.cal.hostDirect.contains n = false) ∨ rEmpty (s.routeEntry r) = true ∨ (n = 12 ∧ (s.flag .CAL_STAT_SWRET =
    true ∨ s.swingCommitted = true ∨ s.cal.hostDirect.contains 12 = true))) :=
  ⟨.host, true, 0, 11, base, by unfold Admits; decide +kernel⟩

theorem witness_SystemCalibrationWritesItsPoint_10 : ∃ (g1 g2 : List Int) (ok : Bool) (r n : Nat) (v : Int) (s :
    State), (Instr.syscalPointDone g1 g2 ok).wellFormed = true ∧ r < 64 ∧ n < 13 ∧ s.cal.sys = some (true, r, n)
    ∧ (n = 12 → s.calPhase = phSyscal) ∧ s.cal.sysSkip = false ∧ ok = true ∧ (groupSum g1 - groupSum g2).natAbs
    ≤ 16 * s.otolLsb ∧ coefOk (coefEntry s.tab.coef (sliceEntry n (getField (ew (coefEntry s.tab.coefAlt r) 2) 5
    3))) = true ∧ sysGain (groupSum g1 + groupSum g2) (target (coefEntry s.tab.coefAlt r)) (sliceCodes n
    (getField (ew (coefEntry s.tab.coefAlt r) 2) 5 3) s).1.2 = some v ∧ isCode v = true :=
  ⟨(List.replicate 16 1000000), (List.replicate 16 1000000), true, 0, 2, 0, tgt (sysP true 0 2 0 base),
    by decide +kernel⟩

theorem witness_SystemCalibrationWritesItsPoint_11 : ∃ (g1 g2 : List Int) (ok : Bool) (r n : Nat) (s : State),
    (Instr.syscalPointDone g1 g2 ok).wellFormed = true ∧ r < 64 ∧ n < 13 ∧ s.cal.sys = some (true, r, n) ∧ (n =
    12 → s.calPhase = phSyscal) ∧ s.cal.sysSkip = false ∧ ok = true ∧ (groupSum g1 - groupSum g2).natAbs ≤ 16 *
    s.otolLsb ∧ coefOk (coefEntry s.tab.coef (sliceEntry n (getField (ew (coefEntry s.tab.coefAlt r) 2) 5 3))) =
    true ∧ (sysGain (groupSum g1 + groupSum g2) (target (coefEntry s.tab.coefAlt r)) (sliceCodes n (getField (ew
    (coefEntry s.tab.coefAlt r) 2) 5 3) s).1.2).all (fun v => !isCode v) = true :=
  ⟨(List.replicate 16 0), (List.replicate 16 0), true, 0, 2, sysP true 0 2 0 base, by decide +kernel⟩

theorem witness_SystemCalibrationWritesItsPoint_12 : ∃ (g1 g2 : List Int) (ok f : Bool) (r : Nat) (s : State),
    (Instr.syscalPointDone g1 g2 ok).wellFormed = true ∧ s.cal.sys = some (f, r, 12) ∧ s.calPhase ≠ phSyscal :=
  ⟨(List.replicate 16 0), (List.replicate 16 0), true, true, 0, sysP true 0 12 0 (ph 1 2 base), by decide +kernel⟩

end Cal

/-! ### Engines, loops and FSK (11, 12) -/

namespace Eng

def engS : State :=
  let s := (active.setFlag (.VAL_CTRL_RUN 2) true)
  let s := { s with tab := { s.tab with valprog := writeRun zeroWord [] (256*2) [word (12*4096), 0, 0, 0x4140] } }
  let s := s.modEng 2 (fun e => { e with notices := [0,1], runs := true })
  forEach 6 (fun n t => syncState n (syncProgram n t)) s
def cyc (f : CycleOut → CycleOut) (s : State) : State :=
  s.modEng 2 (fun e => { e with cycle := some (f (runProgram s 2).1), cycleB := some (f (runProgramB s 2).1) })
def cycLo (s : State) : State :=
  s.modEng 2 (fun e => { e with
    cycle := some { (runProgram s 2).1 with lo := true }, cycleB := some { (runProgramB s 2).1 with lo := true } })
def mode1 (s : State) : State := s.modLoop 2 (fun l => { l with mode := 1 })
def badT (s : State) : State := { s with tab := { s.tab with char := writeAt charDefault s.tab.char (136*2) 7 } }
def lp (n : Nat) (f : LoopSt → LoopSt) (s : State) : State := s.modLoop n f
def fskS : State := ((active.setFlag (.FSK_CTRL_EN 2) true).setFlag (.FSK_CTRL_QEN 2) true)
def slotIn (k st : Nat) (s : State) : State := setFskW (slotKey 2 k 1) 0x0303 (setFskW (slotKey 2 k 0) (word (8192*st + 4096)) s)
def full (s : State) : State := (List.range 4).foldl (fun s k => slotIn k 1 s) s
def burst (s : State) : State := setFskW (burstKey 2 1 2) 5 (setFskW (burstKey 2 1 0) 0x8009 (s.setFlag (.FSK_CTRL_BURST 2) true))
def tx (s : State) : State := (s.modFsk 2 (fun c => { c with tx := [⟨[1,2], some 1⟩, ⟨[3], none⟩], arrived := [(1, 5)] })).setFlag (.FSK_STAT_TXON 2) true
def mnt : State := fskS.setFlag (.FSK_CTRL_MNTEN 2) true
def mapW : State := { mnt with sys := { mnt.sys with prot := let m := (List.range 15).map (fun i => if i = 0 then ew defaultMap 0 else 0xFFFF); m ++ [protCheck m] } }
def closedM : State := { mnt with sys := { mnt.sys with prot := List.replicate 14 0 } }

theorem witness_EnginesDeliverValues_1 : ∃ (n : Nat) (s : State), n < 6 ∧ n < s.eng.length ∧ s.engineRuns n =
    true ∧ (s.engine n).cycle = none ∧ (runProgram s n).2.1 = [] ∧ (runProgramB s n).2.1 = [] :=
  ⟨2, engS, by decide +kernel⟩

theorem witness_EnginesDeliverValues_2 : ∃ (n : Nat) (s : State), n < 6 ∧ (s.engineRuns n = false ∨ (s.engine
    n).cycle.isSome = true) :=
  ⟨5, engS, by decide +kernel⟩

theorem witness_EnginesDeliverValues_3 : ∃ (n : Nat) (u : Option Nat) (d : Bool) (o oB : CycleOut) (s : State),
    (Instr.engineCycleEnd n u d).wellFormed = true ∧ n < s.eng.length ∧ n < s.loops.length ∧ (s.engine n).cycle
    = some o ∧ (s.engine n).cycleB = some oB ∧ CycleAgrees n u d o oB s ∧ (s.loop n).trimPend = none ∧ (s.loop
    n).modePend = false ∧ (s.engine n).cfgPend = false ∧ (s.loop n).mode = 1 ∧ o.x.2 = true ∧ o.lo = false ∧
    o.hi = false ∧ o.latch = false ∧ s.flag (.VAL_STAT_ALMLAT n) = false :=
  ⟨2, none, false, (runProgram engS 2).1, (runProgramB engS 2).1, mode1 (cyc id engS),
    by unfold CycleAgrees; decide +kernel⟩

theorem witness_EnginesDeliverValues_4 : ∃ (n : Nat) (u : Option Nat) (d : Bool) (o oB : CycleOut) (s : State),
    (Instr.engineCycleEnd n u d).wellFormed = true ∧ n < s.eng.length ∧ n < s.loops.length ∧ (s.engine n).cycle
    = some o ∧ (s.engine n).cycleB = some oB ∧ CycleAgrees n u d o oB s ∧ (s.loop n).trimPend = none ∧ (s.loop
    n).modePend = false ∧ (s.engine n).cfgPend = false ∧ (o.lo = true ∨ o.hi = true) :=
  ⟨2, none, false, { (runProgram engS 2).1 with lo := true }, { (runProgramB engS 2).1 with lo := true }, mode1
    (cycLo engS), by unfold CycleAgrees; decide +kernel⟩

theorem witness_EnginesDeliverValues_5 : ∃ (n : Nat) (u : Option Nat) (d : Bool) (o oB : CycleOut) (s : State),
    (Instr.engineCycleEnd n u d).wellFormed = true ∧ n < s.eng.length ∧ (s.engine n).cycle = some o ∧ (s.engine
    n).cycleB = some oB ∧ ¬ CycleAgrees n u d o oB s ∧ Watches 10 s :=
  ⟨2, some 7, false, (runProgram engS 2).1, (runProgramB engS 2).1, cyc id engS,
    by unfold CycleAgrees Watches; decide +kernel⟩

theorem witness_EnginesDeliverValues_6 : ∃ (n : Nat) (u : Option Nat) (d : Bool) (s : State),
    (Instr.engineCycleEnd n u d).wellFormed = true ∧ (s.engine n).cycle = none :=
  ⟨5, none, false, engS, by decide +kernel⟩

theorem witness_EnginesDeliverValues_7 : ∃ (n : Nat) (s : State), n < 6 ∧ progAgrees s n = true ∧ (s.engine
    n).stateAgrees = true :=
  ⟨5, engS, by decide +kernel⟩

theorem witness_EnginesDeliverValues_8 : ∃ (n : Nat) (s : State), n < 6 ∧ n < s.eng.length ∧ (progAgrees s n =
    false ∨ (s.engine n).stateAgrees = false) ∧ (s.engine n).haltS = false ∧ Watches 10 s :=
  ⟨2, engS.modEng 2 (fun e => { e with progTwin := [] }), by unfold Watches; decide +kernel⟩

theorem witness_EnginesDeliverValues_9 : ∃ (k : Nat) (s : State), k < 12 ∧ (charOk s.tab.char k = true ∨
    s.tab.charBad.contains k = true) :=
  ⟨11, engS, by decide +kernel⟩

theorem witness_EnginesDeliverValues_10 : ∃ (k : Nat) (s : State), k < 12 ∧ charOk s.tab.char k = false ∧
    s.tab.charBad.contains k = false :=
  ⟨2, badT engS, by decide +kernel⟩

theorem witness_LoopsDriveTheirRow_1 : ∃ (n : Nat) (s : State), n < 6 ∧ n < s.loops.length ∧ (s.loop n).fvRun =
    true ∧ s.isActive = true ∧ s.seq.frozenAt = none ∧ (s.loop n).mode = 1 :=
  ⟨2, lp 2 (fun l => { l with fvRun := true, mode := 1 }) active, by decide +kernel⟩

theorem witness_LoopsDriveTheirRow_2 : ∃ (n : Nat) (s : State), n < 6 ∧ ((s.loop n).fvRun = false ∨ s.isActive =
    false ∨ s.seq.frozenAt.isSome = true) :=
  ⟨5, active, by decide +kernel⟩

theorem witness_LoopsDriveTheirRow_3 : ∃ (p : Path) (n v : Nat) (s : State), isPath p = true ∧ n < 6 ∧ Admits p
    (Reg.LOOP_FIXED n) s ∧ s.granted p grantForce = true ∧ codeLow ≤ v ∧ v ≤ codeHigh :=
  ⟨.host, 5, 61440, active, by unfold Admits; decide +kernel⟩

theorem witness_LoopsDriveTheirRow_4 : ∃ (p : Path) (n v : Nat) (s : State), isPath p = true ∧ n < 6 ∧ fits 16 v
    = true ∧ Admits p (Reg.LOOP_FIXED n) s ∧ (s.granted p grantForce = false ∨ v < codeLow ∨ codeHigh < v) :=
  ⟨.host, 5, 65535, active, by unfold Admits; decide +kernel⟩

theorem witness_LoopsDriveTheirRow_5 : ∃ (n r m : Nat) (s : State), n < 6 ∧ n < s.loops.length ∧ r < 65536 ∧ m <
    65536 ∧ s.fitted n = true ∧ s.isActive = true ∧ (max r m - min r m ≤ s.regN (Reg.LOOP_RBTOL n) ∨ ((s.loop
    n).lowvSeen = true ∧ r < m) ∨ (s.loop n).startSeen = true) :=
  ⟨5, 65535, 65535, active, by decide +kernel⟩

theorem witness_LoopsDriveTheirRow_6 : ∃ (n r m : Nat) (s : State), n < 6 ∧ n < s.loops.length ∧ r < 65536 ∧ m <
    65536 ∧ s.fitted n = true ∧ s.isActive = true ∧ s.regN (Reg.LOOP_RBTOL n) < max r m - min r m ∧ ((s.loop
    n).lowvSeen = false ∨ m ≤ r) ∧ (s.loop n).startSeen = false ∧ (s.loop n).devCount + 1 < s.regN
    (Reg.LOOP_RBTMO n) :=
  ⟨2, 65535, 61440, lp 2 (fun l => { l with fvRun := true, mode := 1, startSeen := false }) (active.setRegN
    (Reg.LOOP_RBTOL 2) 100), by decide +kernel⟩

theorem witness_LoopsDriveTheirRow_7 : ∃ (n r m : Nat) (s : State), n < 6 ∧ n < s.loops.length ∧ r < 65536 ∧ m <
    65536 ∧ s.fitted n = true ∧ s.isActive = true ∧ s.regN (Reg.LOOP_RBTOL n) < max r m - min r m ∧ ((s.loop
    n).lowvSeen = false ∨ m ≤ r) ∧ (s.loop n).startSeen = false ∧ s.regN (Reg.LOOP_RBTMO n) ≤ (s.loop
    n).devCount + 1 ∧ s.flag (.LOOP_STAT_RBF n) = false ∧ Watches 11 s :=
  ⟨2, 65535, 61440, (lp 2 (fun l => { l with startSeen := false }) (active.setRegN (Reg.LOOP_RBTMO 2) 1)),
    by unfold Watches; decide +kernel⟩

theorem witness_LoopsDriveTheirRow_8 : ∃ (n r m : Nat) (s : State), n < 6 ∧ r < 65536 ∧ m < 65536 ∧ (s.fitted n
    = false ∨ s.isActive = false) :=
  ⟨5, 65535, 65535, State.reset, by decide +kernel⟩

theorem witness_LoopsDriveTheirRow_9 : ∃ (n : Nat) (s : State), n < 6 ∧ (s.loop n).fvRun = true ∧ s.isActive =
    true ∧ s.seq.frozenAt = none ∧ (s.loop n).mode ≠ 1 :=
  ⟨2, lp 2 (fun l => { l with fvRun := true, mode := 0 }) engS, by decide +kernel⟩

theorem witness_LowLoopVoltageIsHandled_1 : ∃ (n : Nat) (s : State), n < 6 ∧ n < s.loops.length ∧ s.fitted n =
    true ∧ s.flag (.LOOP_STAT_LOWV n) = false :=
  ⟨5, active, by decide +kernel⟩

theorem witness_LowLoopVoltageIsHandled_2 : ∃ (n : Nat) (s : State), n < 6 ∧ (s.fitted n = false ∨ s.flag
    (.LOOP_STAT_LOWV n) = true) :=
  ⟨2, active.setFlag (.LOOP_STAT_LOWV 2) true, by decide +kernel⟩

theorem witness_LowLoopVoltageIsHandled_3 : ∃ (n : Nat) (s : State), n < 6 ∧ n < s.loops.length ∧ s.flag
    (.LOOP_STAT_LOWV n) = true :=
  ⟨2, active.setFlag (.LOOP_STAT_LOWV 2) true, by decide +kernel⟩

theorem witness_LowLoopVoltageIsHandled_4 : ∃ (n : Nat) (s : State), n < 6 ∧ s.flag (.LOOP_STAT_LOWV n) = false
    :=
  ⟨5, active, by decide +kernel⟩

theorem witness_LowLoopVoltageIsHandled_5 : ∃ (n : Nat) (s : State), n < 6 ∧ n < s.loops.length ∧ (s.loop
    n).lvTimer = true ∧ s.flag (.LOOP_STAT_LOWV n) = true ∧ s.flag (.LOOP_STAT_LVALM n) = false :=
  ⟨2, lp 2 (fun l => { l with lvTimer := true }) (active.setFlag (.LOOP_STAT_LOWV 2) true), by decide +kernel⟩

theorem witness_LowLoopVoltageIsHandled_6 : ∃ (n : Nat) (s : State), n < 6 ∧ n < s.loops.length ∧ (s.loop
    n).lvRetry = true ∧ s.flag (.LOOP_STAT_LOWV n) = false ∧ s.flag (.LOOP_STAT_LVALM n) = true :=
  ⟨2, lp 2 (fun l => { l with lvRetry := true }) (active.setFlag (.LOOP_STAT_LVALM 2) true), by decide +kernel⟩

theorem witness_LowLoopVoltageIsHandled_7 : ∃ (n : Nat) (s : State), n < 6 ∧ (s.loop n).lvTimer = false ∧
    (s.loop n).lvRetry = false :=
  ⟨5, active, by decide +kernel⟩

theorem witness_LowLoopVoltageIsHandled_8 : ∃ (n : Nat) (s : State), n < 6 ∧ n < s.loops.length ∧ s.flag
    (.LOOP_STAT_LVALM n) = true ∧ s.almDir n = 0 ∧ s.flag (.LOOP_STAT_LOWV n) = false :=
  ⟨2, lp 2 (fun l => { l with lvRetry := true }) (active.setFlag (.LOOP_STAT_LVALM 2) true), by decide +kernel⟩

theorem witness_LowLoopVoltageIsHandled_9 : ∃ (n : Nat) (s : State), n < 6 ∧ (s.flag (.LOOP_STAT_LVALM n) =
    false ∨ s.almDir n ≠ 0 ∨ s.flag (.LOOP_STAT_LOWV n) = true) :=
  ⟨5, active, by decide +kernel⟩

theorem witness_LowLoopVoltageIsHandled_10 : ∃ (n : Nat) (s : State), n < 6 ∧ (s.loop n).lvTimer = true ∧ s.flag
    (.LOOP_STAT_LOWV n) = true ∧ s.flag (.LOOP_STAT_LVALM n) = true :=
  ⟨2, (lp 2 (fun l => { l with lvTimer := true }) engS).setFlag (.LOOP_STAT_LOWV 2) true |>.setFlag
    (.LOOP_STAT_LVALM 2) true, by decide +kernel⟩

theorem witness_FskFramesAreReceived_1 : ∃ (n k : Nat) (f : FskFrame) (s : State), (Instr.fskFrameReceive n
    f).wellFormed = true ∧ s.modemOn n = true ∧ s.flag (.FSK_STAT_TXON n) = false ∧ 2 ≤ f.preambles ∧ (f.delim =
    0x02 ∨ f.delim = 0x82) ∧ f.addrErr = false ∧ s.fskMine n f = true ∧ fskErrors f = 0 ∧ (s.flag
    (.FSK_CTRL_MNTEN n) = false ∨ (f.cmd ≠ 248 ∧ f.cmd ≠ 249)) ∧ s.flag (.FSK_CTRL_QEN n) = true ∧ (List.range
    4).find? (fun k => s.slotState n k == slotFree) = some k :=
  ⟨5, 0, frameF, fskS, by decide +kernel⟩

theorem witness_FskFramesAreReceived_2 : ∃ (n : Nat) (f : FskFrame) (s : State), (Instr.fskFrameReceive n
    f).wellFormed = true ∧ n < s.fsk.length ∧ s.modemOn n = true ∧ s.flag (.FSK_STAT_TXON n) = false ∧ 2 ≤
    f.preambles ∧ (f.delim = 0x02 ∨ f.delim = 0x82) ∧ f.addrErr = false ∧ s.fskMine n f = true ∧ fskErrors f = 0
    ∧ (s.flag (.FSK_CTRL_MNTEN n) = false ∨ (f.cmd ≠ 248 ∧ f.cmd ≠ 249)) ∧ (s.flag (.FSK_CTRL_QEN n) = false ∨
    (List.range 4).all (fun k => s.slotState n k != slotFree) = true) :=
  ⟨2, frameF, full fskS, by decide +kernel⟩

theorem witness_FskFramesAreReceived_3 : ∃ (n : Nat) (f : FskFrame) (s : State), (Instr.fskFrameReceive n
    f).wellFormed = true ∧ n < s.fsk.length ∧ s.modemOn n = true ∧ s.flag (.FSK_STAT_TXON n) = false ∧ 2 ≤
    f.preambles ∧ (f.delim = 0x02 ∨ f.delim = 0x82) ∧ f.addrErr = false ∧ s.fskMine n f = true ∧ fskErrors f ≠ 0
    :=
  ⟨5, { frameF with checkErr := true }, fskS, by decide +kernel⟩

theorem witness_FskFramesAreReceived_4 : ∃ (n : Nat) (f : FskFrame) (s : State), (Instr.fskFrameReceive n
    f).wellFormed = true ∧ s.modemOn n = true ∧ s.flag (.FSK_STAT_TXON n) = false ∧ 2 ≤ f.preambles ∧ (f.delim =
    0x02 ∨ f.delim = 0x82) ∧ f.addrErr = true :=
  ⟨5, { frameF with addrErr := true }, fskS, by decide +kernel⟩

theorem witness_FskFramesAreReceived_5 : ∃ (n : Nat) (f : FskFrame) (s : State), (Instr.fskFrameReceive n
    f).wellFormed = true ∧ (s.modemOn n = false ∨ s.flag (.FSK_STAT_TXON n) = true ∨ f.preambles < 2 ∨ (f.delim
    ≠ 0x02 ∧ f.delim ≠ 0x82) ∨ (f.addrErr = false ∧ s.fskMine n f = false)) :=
  ⟨5, { frameF with preambles := 1 }, fskS, by decide +kernel⟩

theorem witness_FskFramesAreReceived_6 : ∃ (n : Nat) (s : State), n < 6 :=
  ⟨5, fskS, by decide +kernel⟩

theorem witness_FskFramesAreReceived_7 : ∃ (n : Nat) (on : Bool) (s : State), n < 6 :=
  ⟨5, false, fskS, by decide +kernel⟩

theorem witness_FskMessagesAreAnswered_1 : ∃ (p : Path) (n k : Nat) (s : State), isPath p = true ∧ n < 6 ∧ n <
    s.fsk.length ∧ k < 4 ∧ AdmitsTable p spFskq s ∧ s.slotState n k = slotReceived :=
  ⟨.host, 2, 3, full fskS, by unfold AdmitsTable; decide +kernel⟩

theorem witness_FskMessagesAreAnswered_2 : ∃ (p : Path) (n k : Nat) (s : State), isPath p = true ∧ n < 6 ∧ k < 4
    ∧ AdmitsTable p spFskq s ∧ s.slotState n k = slotReceived :=
  ⟨.host, 2, 3, full fskS, by unfold AdmitsTable; decide +kernel⟩

theorem witness_FskMessagesAreAnswered_3 : ∃ (p : Path) (n k : Nat) (post : Bool) (s : State), isPath p = true ∧
    n < 6 ∧ k < 4 ∧ AdmitsTable p spFskq s ∧ s.slotState n k ≠ slotReceived :=
  ⟨.host, 5, 3, false, fskS, by unfold AdmitsTable; decide +kernel⟩

theorem witness_FskMessagesAreAnswered_4 : ∃ (n k : Nat) (f : FskTx) (rest : List FskTx) (s : State), n < 6 ∧ n
    < s.fsk.length ∧ k < 4 ∧ (s.fskCh n).tx = f :: rest ∧ f.slot = some k :=
  ⟨2, 1, { bytes := [0x01#8, 0x02#8], slot := some 1 }, [{ bytes := [0x03#8], slot := none }], tx (full fskS),
    by decide +kernel⟩

theorem witness_FskMessagesAreAnswered_5 : ∃ (n : Nat) (s : State), n < 6 ∧ (s.fskCh n).tx = [] :=
  ⟨5, fskS, by decide +kernel⟩

theorem witness_FskMessagesAreAnswered_6 : ∃ (n k : Nat) (s : State), n < 6 ∧ n < s.fsk.length ∧ k < 4 ∧
    s.slotState n k = slotReceived :=
  ⟨2, 3, full fskS, by decide +kernel⟩

theorem witness_FskMessagesAreAnswered_7 : ∃ (n k : Nat) (s : State), n < 6 ∧ k < 4 ∧ s.slotState n k ≠
    slotReceived :=
  ⟨5, 3, fskS, by decide +kernel⟩

theorem witness_FskMessagesAreAnswered_8 : ∃ (n b : Nat) (s : State), n < 6 ∧ n < s.fsk.length ∧ b < 3 ∧
    s.modemOn n = true ∧ s.flag (.FSK_CTRL_BURST n) = true ∧ (s.fskW (burstKey n b 0)).getLsbD 15 = true ∧
    s.isFatal = false :=
  ⟨2, 1, burst fskS, by decide +kernel⟩

theorem witness_FskMessagesAreAnswered_9 : ∃ (n b : Nat) (s : State), n < 6 ∧ b < 3 ∧ (s.modemOn n = false ∨
    s.flag (.FSK_CTRL_BURST n) = false ∨ (s.fskW (burstKey n b 0)).getLsbD 15 = false ∨ s.isFatal = true) :=
  ⟨5, 2, fskS, by decide +kernel⟩

theorem witness_MaintenanceReachesRegisters_1 : ∃ (n a : Nat) (long master : Bool) (s : State), n < 6 ∧ n <
    s.fsk.length ∧ a < 512 ∧ s.modemOn n = true ∧ s.flag (.FSK_STAT_TXON n) = false ∧ s.flag (.FSK_CTRL_MNTEN n)
    = true ∧ AdmitsRead (.loop n) a s ∧ plainlyRead a = true ∧ (regInfo a).rc = 0 :=
  ⟨2, 255, false, false, mnt, by unfold AdmitsRead; decide +kernel⟩

theorem witness_MaintenanceReachesRegisters_2 : ∃ (n a : Nat) (long master : Bool) (s : State), n < 6 ∧ n <
    s.fsk.length ∧ a < 512 ∧ s.modemOn n = true ∧ s.flag (.FSK_STAT_TXON n) = false ∧ s.flag (.FSK_CTRL_MNTEN n)
    = true ∧ s.served = true ∧ alwaysReadable a = false ∧ s.mayRead (.loop n) (blockOf a) = false :=
  ⟨2, 500, false, false, closedM, by decide +kernel⟩

theorem witness_MaintenanceReachesRegisters_3 : ∃ (n a v : Nat) (long master : Bool) (s : State), n < 6 ∧ n <
    s.fsk.length ∧ a < 512 ∧ fits 16 v = true ∧ s.modemOn n = true ∧ s.flag (.FSK_STAT_TXON n) = false ∧ s.flag
    (.FSK_CTRL_MNTEN n) = true ∧ Admits (.loop n) a s ∧ plainlyWritten a = true ∧ a ≠ Reg.FSK_STAT n :=
  ⟨2, 255, 65535, false, false, mapW, by unfold Admits; decide +kernel⟩

theorem witness_MaintenanceReachesRegisters_4 : ∃ (n a : Nat) (long master wr : Bool) (s : State), n < 6 ∧ n <
    s.fsk.length ∧ a < 512 ∧ s.modemOn n = true ∧ s.flag (.FSK_STAT_TXON n) = false ∧ s.flag (.FSK_CTRL_MNTEN n)
    = true :=
  ⟨2, 500, false, false, false, mnt, by decide +kernel⟩

theorem witness_MaintenanceReachesRegisters_5 : ∃ (n : Nat) (long master wr : Bool) (req : List Byte) (s :
    State), n < 6 ∧ req.length < 256 ∧ (s.modemOn n = false ∨ s.flag (.FSK_STAT_TXON n) = true) :=
  ⟨2, false, false, false, [], tx mapW, by decide +kernel⟩

theorem witness_MaintenanceReachesRegisters_6 : ∃ (n : Nat) (long master wr : Bool) (req : List Byte) (s :
    State), n < 6 ∧ n < s.fsk.length ∧ req.length ≤ 56 ∧ s.modemOn n = true ∧ s.flag (.FSK_STAT_TXON n) = false
    ∧ s.flag (.FSK_CTRL_MNTEN n) = false ∧ s.flag (.FSK_CTRL_QEN n) = false :=
  ⟨2, true, false, false, [0,19,1], fskS.setFlag (.FSK_CTRL_QEN 2) false, by decide +kernel⟩

end Eng

/-! ### Rope links, frames and accesses (13) -/

namespace Link

def lnk (p : Port) (v : Nat) (s : State) : State := s.setFld (stateFld p) v
def upP (f : PortSt → PortSt) (s : State) : State := s.modPort .up f
def dnP (f : PortSt → PortSt) (s : State) : State := s.modPort .dn f
def addr5 : State := (active.setFlag .ROPE_ADDR_VALID true).setFld .ROPE_ADDR_ADDR 5
def head : State := (addr5.setFlag .ROPE_STAT_HEAD true)
def both (s : State) : State := lnk .up 2 (lnk .dn 2 s)
def rf (vc typ : Nat) : RopeFrame := ⟨vc, typ, 5, 9, [1,2,3], false⟩
def q (s : State) : State := upP (fun p => { p with queue := [rf 0 1, rf 1 4, rf 2 12], creditPend := [2,1], freedOut := [1,2,3,4] }) (dnP (fun p => { p with queue := [rf 0 2, rf 2 12] }) s)
def snd (s : State) : State := upP (fun p => { p with sending := some (rf 0 1, 0, 0) }) (dnP (fun p => { p with sending := some ({ rf 0 2 with fwd := true }, 0, 0) }) s)
def tw (w : TeamWrite) (s : State) : State := s.modRope (fun r => { r with teamWrites := [w] })
def rem (s : State) : State := { s with host := { s.host with remote := some ⟨7, true, none⟩ } }
def biv (s : State) : State := s.setFld .SYS_STAT_STATE 3
def pay : List Byte := ropeBytes { rf 0 1 with dst := 5 } 1 3
def noRights : State := { both addr5 with sys := { active.sys with prot := List.replicate 14 0 } }

theorem witness_LinksComeUpAndGoDown_1 : ∃ s : State, (s.link .dn = linkSignal ∨ s.link .dn = linkUp ∨ (s.link
    .dn = linkDown ∧ s.rope.dn.unheard = true)) ∧ Watches 14 s :=
  ⟨both addr5, by unfold Watches; decide +kernel⟩

theorem witness_LinksComeUpAndGoDown_2 : ∃ s : State, (s.link .up = linkSignal ∨ s.link .up = linkUp ∨ (s.link
    .up = linkDown ∧ s.rope.up.unheard = true)) ∧ s.isHead = false ∧ s.hasAddr = true ∧ Watches 14 s :=
  ⟨both addr5, by unfold Watches; decide +kernel⟩

theorem witness_LinksComeUpAndGoDown_3 : ∃ (p : Port) (s : State), s.link p = linkOff ∨ (s.link p = linkDown ∧
    (s.port p).unheard = false) :=
  ⟨.up, active, by decide +kernel⟩

theorem witness_LinksComeUpAndGoDown_4 : ∃ (p : Port) (s : State), s.link p = linkDown ∧ (s.port p).holdDown =
    false :=
  ⟨.up, lnk .up 0 active, by decide +kernel⟩

theorem witness_LinksComeUpAndGoDown_5 : ∃ (p : Port) (s : State), s.link p ≠ linkDown ∨ (s.port p).holdDown =
    true :=
  ⟨.up, active, by decide +kernel⟩

theorem witness_LinksComeUpAndGoDown_6 : ∃ (p : Port) (s : State), (s.link p = linkDown ∨ s.link p = linkSignal)
    ∧ (s.port p).holdDown = false :=
  ⟨.up, lnk .up 1 (lnk .dn 1 addr5), by decide +kernel⟩

theorem witness_LinksComeUpAndGoDown_7 : ∃ (p : Port) (s : State), s.isUp p = true ∨ s.link p = linkOff ∨
    (s.port p).holdDown = true :=
  ⟨.up, active, by decide +kernel⟩

theorem witness_LinksComeUpAndGoDown_8 : ∃ (p : Port) (h : Hello) (s : State), (Instr.helloReceive p
    h).wellFormed = true ∧ h.seen = false ∧ (s.link p = linkDown ∨ s.link p = linkSignal) ∧ (s.port p).holdDown
    = false :=
  ⟨.up, ⟨78, 3, 5, false, false, false⟩, lnk .up 1 (lnk .dn 1 addr5), by decide +kernel⟩

theorem witness_LinksComeUpAndGoDown_9 : ∃ (p : Port) (h : Hello) (s : State), (Instr.helloReceive p
    h).wellFormed = true ∧ h.seen = true ∧ (s.link p = linkDown ∨ s.link p = linkSignal) ∧ (s.port p).holdDown =
    false ∧ (p = .up ∨ (s.isHead = false ∧ (s.hasAddr = false ∨ s.flag .ROPE_STAT_ENUMD = false))) :=
  ⟨.up, ⟨77, 3, 0, true, false, false⟩, lnk .up 1 (lnk .dn 1 addr5), by decide +kernel⟩

theorem witness_LinksComeUpAndGoDown_10 : ∃ (p : Port) (h : Hello) (s : State), (Instr.helloReceive p
    h).wellFormed = true ∧ (s.link p = linkOff ∨ (s.port p).holdDown = true) :=
  ⟨.up, ⟨77, 3, 0, true, false, false⟩, active, by decide +kernel⟩

theorem witness_LinksComeUpAndGoDown_11 : ∃ s : State, (s.link .up = linkSignal ∨ s.link .up = linkUp ∨ (s.link
    .up = linkDown ∧ s.rope.up.unheard = true)) ∧ (s.isHead = true ∨ s.hasAddr = false) :=
  ⟨both active, by decide +kernel⟩

theorem witness_LinksComeUpAndGoDown_12 : ∃ (p : Port) (h : Hello) (s : State), (Instr.helloReceive p
    h).wellFormed = true ∧ s.isUp p = true ∧ (s.port p).holdDown = false :=
  ⟨.up, ⟨77, 3, 0, true, false, false⟩, both addr5, by decide +kernel⟩

theorem witness_LinksComeUpAndGoDown_13 : ∃ (h : Hello) (s : State), (Instr.helloReceive .dn h).wellFormed =
    true ∧ h.seen = true ∧ (s.link .dn = linkDown ∨ s.link .dn = linkSignal) ∧ s.rope.dn.holdDown = false ∧
    s.isHead = true :=
  ⟨⟨77, 3, 0, true, false, false⟩, lnk .dn 1 head, by decide +kernel⟩

theorem witness_LinksComeUpAndGoDown_14 : ∃ (h : Hello) (s : State), (Instr.helloReceive .dn h).wellFormed =
    true ∧ h.seen = true ∧ (s.link .dn = linkDown ∨ s.link .dn = linkSignal) ∧ s.rope.dn.holdDown = false ∧
    s.isHead = false ∧ s.hasAddr = true ∧ s.flag .ROPE_STAT_ENUMD = true :=
  ⟨⟨77, 3, 0, true, false, false⟩, ((lnk .up 2 (lnk .dn 1 addr5)).setFlag .ROPE_STAT_ENUMD true).setFld
    .ROPE_ADDR_HEADA 1, by decide +kernel⟩

theorem witness_FramesMoveUnderCredit_1 : ∃ (p : Port) (bs : List Byte) (v : Bool) (s : State), s.link p ≠
    linkOff ∧ (s.port p).holdDown = false ∧ s.rope.inbox = [] ∧ (v = true ∨ parseFrame bs = none) ∧ (s.port
    p).errorsAt.length < 15 :=
  ⟨.up, [], false, both addr5, by decide +kernel⟩

theorem witness_FramesMoveUnderCredit_2 : ∃ (p : Port) (bs : List Byte) (f : RopeFrame) (cvc ccnt : Nat) (s :
    State), s.isUp p = true ∧ (s.port p).holdDown = false ∧ parseFrame bs = some (f, cvc, ccnt) ∧ linkLocal
    f.typ = false ∧ f.typ ≠ tyBcn ∧ f.typ ≠ tyTeam ∧ badBroadcast f = false ∧ s.arrivalRoute p f.dst = ⟨true,
    false, false, false⟩ ∧ s.rope.inbox = [] :=
  ⟨.up, pay, { vc := 0, typ := 1, src := 5, dst := 5, payload := [0x01#8, 0x02#8, 0x03#8], fwd := false }, 1, 3,
    both addr5, by decide +kernel⟩

theorem witness_FramesMoveUnderCredit_3 : ∃ (bs : List Byte) (f : RopeFrame) (cvc ccnt : Nat) (s : State),
    s.isUp .dn = true ∧ s.isUp .up = true ∧ s.rope.dn.holdDown = false ∧ parseFrame bs = some (f, cvc, ccnt) ∧
    linkLocal f.typ = false ∧ f.typ ≠ tyBcn ∧ f.typ ≠ tyTeam ∧ badBroadcast f = false ∧ s.arrivalRoute .dn f.dst
    = ⟨false, true, false, false⟩ ∧ s.rope.inbox = [] :=
  ⟨(ropeBytes (rf 0 1) 1 3),
    { vc := 0, typ := 1, src := 5, dst := 9, payload := [0x01#8, 0x02#8, 0x03#8], fwd := false }, 1, 3, both
    addr5, by decide +kernel⟩

theorem witness_FramesMoveUnderCredit_4 : ∃ (p : Port) (bs : List Byte) (v : Bool) (s : State), (s.link p =
    linkOff ∨ (s.port p).holdDown = true) ∧ s.rope.inbox = [] :=
  ⟨.up, [], false, active, by decide +kernel⟩

theorem witness_FramesMoveUnderCredit_5 : ∃ (p : Port) (f : RopeFrame) (s : State), s.link p ≠ linkOff ∧ (s.port
    p).sending = none ∧ (s.port p).holdDown = false ∧ s.beaconGuard p = false ∧ (readyOf (s.port p) 1 (s.isUp p)
    = some f ∨ (readyOf (s.port p) 1 (s.isUp p) = none ∧ readyOf (s.port p) 0 (s.isUp p) = some f)) :=
  ⟨.up, rf 0 1,
    { (both addr5) with rope := { (both addr5).rope with up := { (both addr5).rope.up with queue := [rf 0 1] } } },
    by decide +kernel⟩

theorem witness_FramesMoveUnderCredit_6 : ∃ (p : Port) (s : State), s.link p = linkOff ∨ (s.port
    p).sending.isSome = true ∨ (s.port p).holdDown = true :=
  ⟨.up, active, by decide +kernel⟩

theorem witness_FramesMoveUnderCredit_7 : ∃ (p : Port) (f : RopeFrame) (c k : Nat) (s : State), (s.port
    p).sending = some (f, c, k) ∧ s.rope.resetAfter = none :=
  ⟨.up, { vc := 0, typ := 1, src := 5, dst := 9, payload := [0x01#8, 0x02#8, 0x03#8], fwd := false }, 0, 0, snd
    (both addr5), by decide +kernel⟩

theorem witness_FramesMoveUnderCredit_8 : ∃ (p : Port) (s : State), (s.port p).sending = none :=
  ⟨.up, active, by decide +kernel⟩

theorem witness_FramesMoveUnderCredit_9 : ∃ (p : Port) (cvc ccnt : Nat) (s : State), cvc < 4 ∧ ccnt < 64 ∧
    s.isUp p = true :=
  ⟨.up, 3, 63, both addr5, by decide +kernel⟩

theorem witness_FramesMoveUnderCredit_10 : ∃ (p : Port) (cvc ccnt : Nat) (sync : List Nat) (s : State), cvc < 4
    ∧ ccnt < 64 ∧ sync.length = 4 ∧ sync.all (· < 256) = true ∧ s.isUp p = true ∧ (s.port p).received.length = 4
    ∧ (s.port p).received.all (· < 64) = true :=
  ⟨.up, 3, 63, [1,2,3,4], both addr5, by decide +kernel⟩

theorem witness_FramesMoveUnderCredit_11 : ∃ (p : Port) (cvc ccnt : Nat) (s : State), cvc < 4 ∧ ccnt < 64 ∧
    s.isUp p = false :=
  ⟨.up, 3, 63, active, by decide +kernel⟩

theorem witness_FramesMoveUnderCredit_12 : ∃ (p : Port) (s : State), s.isUp p = true ∧ (s.port p).creditPend ≠
    [] :=
  ⟨.up, q (both head), by decide +kernel⟩

theorem witness_FramesMoveUnderCredit_13 : ∃ (p : Port) (s : State), s.isUp p = false ∨ (s.port p).creditPend =
    [] :=
  ⟨.up, active, by decide +kernel⟩

theorem witness_FramesMoveUnderCredit_14 : ∃ (p : Port) (s : State), s.isUp p = true :=
  ⟨.up, both addr5, by decide +kernel⟩

theorem witness_FramesMoveUnderCredit_15 : ∃ (p : Port) (s : State), s.isUp p = false :=
  ⟨.up, active, by decide +kernel⟩

theorem witness_FramesMoveUnderCredit_16 : ∃ (p : Port) (bs : List Byte) (v : Bool) (s : State), s.link p ≠
    linkOff ∧ (s.port p).holdDown = false ∧ s.rope.inbox = [] ∧ (v = true ∨ parseFrame bs = none) ∧ ((s.port
    p).errorsAt.filter (fun c => decide (s.now < c + clocksPerMs 1))).length = 15 ∧ Watches 14 s :=
  ⟨.up, [], false, upP (fun q => { q with errorsAt := List.replicate 15 0 }) (both addr5),
    by unfold Watches; decide +kernel⟩

theorem witness_RopeAccessIsAnswered_1 : ∃ (src dst tag a : Nat) (s : State), (Instr.rd src dst tag
    a).wellFormed = true ∧ s.sys.held = false ∧ s.ledSlot dst = none ∧ AdmitsRead (.rope src) a s ∧ plainlyRead
    a = true ∧ (regInfo a).rc = 0 :=
  ⟨5, 5, 5, 5, active, by unfold AdmitsRead; decide +kernel⟩

theorem witness_RopeAccessIsAnswered_2 : ∃ (src dst tag a : Nat) (s : State), (Instr.rd src dst tag
    a).wellFormed = true ∧ s.served = true ∧ s.ledSlot dst = none ∧ alwaysReadable a = false ∧ s.mayRead (.rope
    src) (blockOf a) = false :=
  ⟨7, 5, 7, 0x023, noRights, by decide +kernel⟩

theorem witness_RopeAccessIsAnswered_3 : ∃ (src dst tag a v : Nat) (s : State), (Instr.wr src dst tag a
    v).wellFormed = true ∧ s.ledSlot dst = none ∧ Admits (.rope src) a s ∧ plainlyWritten a = true ∧ dst ≠ 31 :=
  ⟨5, 5, 5, 5, 5, active, by unfold Admits; decide +kernel⟩

theorem witness_RopeAccessIsAnswered_4 : ∃ (src tag a v : Nat) (s : State), (Instr.wr src 31 tag a v).wellFormed
    = true ∧ s.ledSlot 31 = none ∧ Admits (.rope src) a s ∧ plainlyWritten a = true :=
  ⟨7, 31, 0x034, 0xC35A, active, by unfold Admits; decide +kernel⟩

theorem witness_RopeAccessIsAnswered_5 : ∃ (src tag st d : Nat) (r : Remote) (s : State), (Instr.rsp src tag st
    d).wellFormed = true ∧ s.rope.teamWrites = [] ∧ s.host.remote = some r ∧ r.tag = tag ∧ r.answer = none :=
  ⟨5, 7, 5, 5, { tag := 7, write := true, answer := none }, rem addr5, by decide +kernel⟩

theorem witness_RopeAccessIsAnswered_6 : ∃ (src tag st d : Nat) (s : State), (Instr.rsp src tag st d).wellFormed
    = true ∧ s.rope.teamWrites = [] ∧ s.host.remote = none :=
  ⟨5, 5, 5, 5, active, by decide +kernel⟩

theorem witness_RopeAccessIsAnswered_7 : ∃ (src dst tag : Nat) (s : State), (Instr.rst src dst 0xC35A
    tag).wellFormed = true ∧ s.served = true ∧ s.ledSlot dst = none ∧ s.mayWrite (.rope src) 0 = true :=
  ⟨13, 13, 255, active, by decide +kernel⟩

theorem witness_RopeAccessIsAnswered_8 : ∃ (src dst key tag : Nat) (s : State), (Instr.rst src dst key
    tag).wellFormed = true ∧ s.served = true ∧ s.ledSlot dst = none ∧ (key ≠ 0xC35A ∨ s.mayWrite (.rope src) 0 =
    false) :=
  ⟨5, 5, 5, 5, active, by decide +kernel⟩

theorem witness_RopeAccessIsAnswered_9 : ∃ (src dst tag : Nat) (s : State), (Instr.wake src dst tag).wellFormed
    = true ∧ s.served = true ∧ s.ledSlot dst = none ∧ s.mayWrite (.rope src) 0 = true ∧ s.inBivouac = true ∧
    s.sys.bivExit = false ∧ s.fld .SYS_STAT_BIVC ≠ bivBudget :=
  ⟨13, 13, 255, biv (both addr5), by decide +kernel⟩

theorem witness_RopeAccessIsAnswered_10 : ∃ (src dst tag : Nat) (s : State), (Instr.wake src dst tag).wellFormed
    = true ∧ s.served = true ∧ s.ledSlot dst = none ∧ (s.mayWrite (.rope src) 0 = false ∨ s.inBivouac = false)
    :=
  ⟨13, 13, 255, active, by decide +kernel⟩

theorem witness_RopeAccessIsAnswered_11 : ∃ (w : TeamWrite) (rest : List TeamWrite) (r : Remote) (s : State),
    s.rope.teamWrites = w :: rest ∧ w.src = 0 ∧ w.last = false ∧ s.host.remote = some r ∧ r.tag = w.tag ∧
    r.answer = none :=
  ⟨{ slot := 0, src := 0, tag := 7, waiting := [(1, 2)], bits := 4, data := 9, last := false }, [],
    { tag := 7, write := true, answer := none }, tw ⟨0, 0, 7, [(1,2)], 4, 9, false⟩ (rem (both addr5)),
    by decide +kernel⟩

theorem witness_RopeAccessIsAnswered_12 : ∃ (w : TeamWrite) (rest : List TeamWrite) (s : State),
    s.rope.teamWrites = w :: rest ∧ w.src ≠ 0 ∧ w.last = false :=
  ⟨{ slot := 0, src := 3, tag := 7, waiting := [(1, 2)], bits := 32, data := 9, last := false }, [], tw ⟨0, 3, 7,
    [(1,2)], 32, 9, false⟩ (rem (both addr5)), by decide +kernel⟩

theorem witness_RopeAccessIsAnswered_13 : ∃ s : State, s.rope.teamWrites = [] :=
  ⟨active, by decide +kernel⟩

end Link

/-! ### Enumeration and streams (13) -/

namespace Enum

def lnk (p : Port) (v : Nat) (s : State) : State := s.setFld (stateFld p) v
def dnP (f : PortSt → PortSt) (s : State) : State := s.modPort .dn f
def addr5 : State := (active.setFlag .ROPE_ADDR_VALID true).setFld .ROPE_ADDR_ADDR 5
def head : State := (addr5.setFlag .ROPE_STAT_HEAD true)
def both (s : State) : State := lnk .up 2 (lnk .dn 2 s)
def peer (s : State) : State := dnP (fun p => { p with peer := some ⟨77, 3, 0, true, false, false⟩ }) s
def en (f : Rope → Rope) (s : State) : State := s.modRope (fun r => f { r with enumOn := true, proxy := 5 })
def prob (n : Nat) (s : State) : State := s.modRope (fun r => { r with probes := List.replicate n 260, probesLeft := 8 - n, base := 30 })
def goodF : List Byte :=
  let l : List Byte := [0, 0, 0, 0, 0, 0, 24, 0, 0, 0, 0, 0, 0, 0, 1, 0, 0, 0, 0, 0]
  l ++ leBytes (crc16 l) ++ [0, 0]
def noRing (s : State) : State :=
  { s with xfer := { s.xfer with descrs := List.replicate 128 { frames := [(0, 32)], record := [1], number := 0, dests := 1 } } }
def reas (s : State) : State := { s with xfer := { s.xfer with reasm := [(1, 1, [1,2,3])] } }

theorem witness_UnitsAreEnumerated_1 : ∃ (a : Nat) (moved : Bool) (s : State), s.isActive = true ∧
    s.rope.headDue = true ∧ s.isUp .dn = false ∧ chooseAddr s.rope s.uid (if s.hasAddr then s.unitNo else 0)
    (s.fld .ROPE_CFG_PIN) = some (a, moved) ∧ a < 32 :=
  ⟨1, false, active.modRope (fun r => { r with headDue := true }), by decide +kernel⟩

theorem witness_UnitsAreEnumerated_2 : ∃ s : State, s.isActive = false ∨ s.rope.headDue = false :=
  ⟨both head, by decide +kernel⟩

theorem witness_UnitsAreEnumerated_3 : ∃ (src : Nat) (h : Hello) (s : State), (Instr.query src).wellFormed =
    true ∧ s.rope.dn.peer = some h :=
  ⟨31, { uid := 77, addr := 3, pinned := 0, seen := true, head := false, enumd := false }, peer (both addr5),
    by decide +kernel⟩

theorem witness_UnitsAreEnumerated_4 : ∃ (src : Nat) (s : State), (Instr.query src).wellFormed = true ∧
    s.rope.dn.peer = none :=
  ⟨31, active, by decide +kernel⟩

theorem witness_UnitsAreEnumerated_5 : ∃ (uid present pinned a : Nat) (s : State), (Instr.report uid present
    pinned).wellFormed = true ∧ s.isHead = true ∧ s.rope.enumOn = true ∧ chooseAddr s.rope uid present pinned =
    some (a, false) :=
  ⟨1, 1, 1, 1, en id (both head), by decide +kernel⟩

theorem witness_UnitsAreEnumerated_6 : ∃ (uid present pinned : Nat) (s : State), (Instr.report uid present
    pinned).wellFormed = true ∧ (s.isHead = false ∨ s.rope.enumOn = false) :=
  ⟨65535, 31, 31, active, by decide +kernel⟩

theorem witness_UnitsAreEnumerated_7 : ∃ (src addr hop delay : Nat) (s : State), (Instr.assign src addr hop
    delay s.uid).wellFormed = true ∧ (s.hasAddr = false ∨ s.unitNo = addr) ∧ (s.fld .ROPE_CFG_PIN = 0 ∨ s.fld
    .ROPE_CFG_PIN = addr) :=
  ⟨1, 1, 1, 1, active, by decide +kernel⟩

theorem witness_UnitsAreEnumerated_8 : ∃ (src addr hop delay uid : Nat) (s : State), (Instr.assign src addr hop
    delay uid).wellFormed = true ∧ uid ≠ s.uid ∧ s.isUp .dn = true ∧ s.rope.inbox = [] :=
  ⟨1, 1, 1, 1, 2, both head, by decide +kernel⟩

theorem witness_UnitsAreEnumerated_9 : ∃ (src d : Nat) (s : State), (Instr.done src d).wellFormed = true ∧
    s.isHead = true ∧ s.rope.enumOn = true ∧ d ≠ linkUp :=
  ⟨31, 3, en id (both head), by decide +kernel⟩

theorem witness_UnitsAreEnumerated_10 : ∃ (src : Nat) (s : State), (Instr.done src linkUp).wellFormed = true ∧
    s.isHead = true ∧ s.rope.enumOn = true ∧ src ≠ s.unitNo :=
  ⟨31, en id (both head), by decide +kernel⟩

theorem witness_UnitsAreEnumerated_11 : ∃ (src d : Nat) (s : State), (Instr.done src d).wellFormed = true ∧
    (s.isHead = false ∨ s.rope.enumOn = false) :=
  ⟨31, 3, active, by decide +kernel⟩

theorem witness_UnitsAreEnumerated_12 : ∃ s : State, (List.range 4).all (fun k => s.teamState k != tsActive &&
    s.teamState k != tsCycle) = true ∧ s.rope.imageTeams = [] :=
  ⟨active, by decide +kernel⟩

theorem witness_UnitsAreEnumerated_13 : ∃ (src : Nat) (s : State), (Instr.reattach src).wellFormed = true ∧
    s.isHead = true ∧ src ≠ s.unitNo :=
  ⟨31, both head, by decide +kernel⟩

theorem witness_UnitsAreEnumerated_14 : ∃ (src : Nat) (s : State), (Instr.reattach src).wellFormed = true ∧
    s.isHead = false :=
  ⟨31, active, by decide +kernel⟩

theorem witness_UnitsAreEnumerated_15 : ∃ (src addr hop delay : Nat) (s : State), (Instr.assign src addr hop
    delay s.uid).wellFormed = true ∧ s.hasAddr = true ∧ s.unitNo ≠ addr ∧ (s.fld .ROPE_CFG_PIN = 0 ∨ s.fld
    .ROPE_CFG_PIN = addr) :=
  ⟨1, 7, 1, 1, addr5, by decide +kernel⟩

theorem witness_DelaysEventsAndStreams_1 : ∃ s : State, 0 < s.rope.probesLeft ∧ s.isUp .up = true :=
  ⟨prob 3 (both addr5), by decide +kernel⟩

theorem witness_DelaysEventsAndStreams_2 : ∃ s : State, s.rope.probesLeft = 0 ∨ s.isUp .up = false :=
  ⟨both addr5, by decide +kernel⟩

theorem witness_DelaysEventsAndStreams_3 : ∃ s : State, s.isUp .dn = true :=
  ⟨both addr5, by decide +kernel⟩

theorem witness_DelaysEventsAndStreams_4 : ∃ s : State, s.isUp .dn = false :=
  ⟨addr5, by decide +kernel⟩

theorem witness_DelaysEventsAndStreams_5 : ∃ (rt : Nat) (s : State), s.isUp .up = true ∧ s.rope.probes.length <
    7 :=
  ⟨65535, both addr5, by decide +kernel⟩

theorem witness_DelaysEventsAndStreams_6 : ∃ (rt l : Nat) (s : State), s.isUp .up = true ∧ s.rope.probes.length
    = 7 ∧ l = (roundDiv (((s.rope.probes.foldl (· + ·) 0 + rt : Nat) : Int) - 3200) 16).toNat ∧ l ≤ 64 :=
  ⟨1000, 0, prob 7 (both addr5), by decide +kernel⟩

theorem witness_DelaysEventsAndStreams_7 : ∃ (rt : Nat) (s : State), s.isUp .up = false :=
  ⟨65535, addr5, by decide +kernel⟩

theorem witness_DelaysEventsAndStreams_8 : ∃ (src : Nat) (bs : List Byte) (s : State), (Instr.evt src
    bs).wellFormed = true ∧ s.isHead = true ∧ s.isFatal = false ∧ (s.nvm.jobs.filter isLogJob).length < 16 ∧
    ofLe (bs.take 2) % 4096 ≠ 0x10E :=
  ⟨31, (List.replicate 28 3), reas (both head), by decide +kernel⟩

theorem witness_DelaysEventsAndStreams_9 : ∃ (src : Nat) (bs : List Byte) (s : State), (Instr.evt src
    bs).wellFormed = true ∧ s.isHead = false :=
  ⟨31, (List.replicate 28 3), both addr5, by decide +kernel⟩

theorem witness_DelaysEventsAndStreams_10 : ∃ (src : Nat) (bs seg : List Byte) (b : Byte) (l : List Byte) (s :
    State), (Instr.data src bs).wellFormed = true ∧ s.isHead = true ∧ bs = b :: seg ∧ joinSegment src b seg s =
    (false, some l) ∧ b.getLsbD 6 = false ∧ segmentWaits src bs s = false :=
  ⟨1, [1], [], 0x01#8, [0x01#8, 0x02#8, 0x03#8], reas (both head), by decide +kernel⟩

theorem witness_DelaysEventsAndStreams_11 : ∃ (src : Nat) (bs seg : List Byte) (b : Byte) (l : List Byte) (s :
    State), (Instr.data src bs).wellFormed = true ∧ s.isHead = true ∧ bs = b :: seg ∧ joinSegment src b seg s =
    (false, some l) ∧ b.getLsbD 6 = true ∧ frameCheck l = false :=
  ⟨31, [0xC0, 1, 2, 3], [0x01#8, 0x02#8, 0x03#8], 0xc0#8, [0x01#8, 0x02#8, 0x03#8], reas (both head),
    by decide +kernel⟩

theorem witness_DelaysEventsAndStreams_12 : ∃ (src : Nat) (bs : List Byte) (s : State), (Instr.data src
    bs).wellFormed = true ∧ s.isHead = false :=
  ⟨31, [], both addr5, by decide +kernel⟩

theorem witness_DelaysEventsAndStreams_13 : ∃ (src : Nat) (bs : List Byte) (s : State), (Instr.data src
    bs).wellFormed = true ∧ s.isHead = true ∧ segmentWaits src bs s = true :=
  ⟨1, [1], noRing (reas (both head)), by decide +kernel⟩

theorem witness_DelaysEventsAndStreams_14 : ∃ (src : Nat) (bs seg : List Byte) (b : Byte) (l : List Byte) (s :
    State), (Instr.data src bs).wellFormed = true ∧ s.isHead = true ∧ bs = b :: seg ∧ joinSegment src b seg s =
    (false, some l) ∧ b.getLsbD 6 = true ∧ frameCheck l = true ∧ ringRoom s l.length = true :=
  ⟨31, 0xC0 :: goodF, goodF, 0xc0#8, goodF, reas (both head), by decide +kernel⟩

end Enum

/-! ### Teams (13) -/

namespace Team

def lnk (p : Port) (v : Nat) (s : State) : State := s.setFld (stateFld p) v
def addr5 : State := (active.setFlag .ROPE_ADDR_VALID true).setFld .ROPE_ADDR_ADDR 5
def head : State := (addr5.setFlag .ROPE_STAT_HEAD true)
def both (s : State) : State := (lnk .up 2 (lnk .dn 2 s)).setFlag .ROPE_STAT_ENUMD true
def hdr (slot id : Nat) (ms : List (Nat × Nat)) (s : State) : State :=
  (List.range ms.length).foldl (fun s i => setTeamW slot (i+1) 0 (word (32768 * (nth (0,0) ms i).1 + (nth (0,0) ms i).2)) s)
    (setTeamW slot 0 0 (word (256 * ms.length + id)) s)
def defn (slot : Nat) (s : State) : State := setTeamState slot tsDefining 0 s
def act (slot id : Nat) (ms : List (Nat × Nat)) (ans : List (Option (Nat × Nat))) (s : State) : State :=
  defineTeam slot true ans (defn slot (hdr slot id ms s))
def m3 : List (Nat × Nat) := [(0, 9), (0, 5), (1, 12)]

theorem witness_TeamsAreManaged_1 : ∃ (p : Path) (slot r : Nat) (granted : Bool) (answers : List (Option (Nat ×
    Nat))) (s : State), (Instr.define p slot granted answers).wellFormed = true ∧ (s.teamState slot = tsDefining
    ∨ (AdmitsTable p spTeam s ∧ (s.lead slot).phase = 0)) ∧ defineFails s slot = some r :=
  ⟨.host, 3, 1, false, [], active, by unfold AdmitsTable; decide +kernel⟩

theorem witness_TeamsAreManaged_2 : ∃ (p : Path) (slot id : Nat) (granted : Bool) (answers : List (Option (Nat ×
    Nat))) (s : State), (Instr.define p slot granted answers).wellFormed = true ∧ (s.teamState slot = tsDefining
    ∨ (AdmitsTable p spTeam s ∧ (s.lead slot).phase = 0)) ∧ defineFails s slot = none ∧ id = getField (s.teamW
    slot 0 0) 0 5 ∧ (if s.isHead = true then claimFree s.rope id s.uid = true else granted = true) ∧
    ((List.range (s.writtenMembers slot).length).all (fun i => (nth (0, 0) (s.writtenMembers slot) i).1 == 0 ||
    (nth none answers i).all (fun m => !m.2.testBit id))) = true ∧ slot < s.rope.teams.length :=
  ⟨.host, 0, 8, false, [], hdr 0 8 m3 (both head), by unfold AdmitsTable; decide +kernel⟩

theorem witness_TeamsAreManaged_3 : ∃ (p : Path) (slot : Nat) (granted : Bool) (answers : List (Option (Nat ×
    Nat))) (s : State), (Instr.define p slot granted answers).wellFormed = true ∧ (s.teamState slot = tsDefining
    ∨ (AdmitsTable p spTeam s ∧ (s.lead slot).phase = 0)) ∧ defineFails s slot = none ∧ (if s.isHead = true then
    claimFree s.rope (getField (s.teamW slot 0 0) 0 5) s.uid = false else granted = false) :=
  ⟨.host, 0, false, [], defn 0 (hdr 0 8 m3 (both addr5)), by unfold AdmitsTable; decide +kernel⟩

theorem witness_TeamsAreManaged_4 : ∃ (p : Path) (slot id i : Nat) (granted : Bool) (answers : List (Option (Nat
    × Nat))) (m : Nat × Nat) (s : State), (Instr.define p slot granted answers).wellFormed = true ∧ (s.teamState
    slot = tsDefining ∨ (AdmitsTable p spTeam s ∧ (s.lead slot).phase = 0)) ∧ defineFails s slot = none ∧ id =
    getField (s.teamW slot 0 0) 0 5 ∧ (if s.isHead = true then claimFree s.rope id s.uid = true else granted =
    true) ∧ i < (s.writtenMembers slot).length ∧ (nth (0, 0) (s.writtenMembers slot) i).1 = 1 ∧ nth none answers
    i = some m ∧ m.2.testBit id = true :=
  ⟨.host, 0, 8, 2, false, [some (77,0), some (78,0), some (6, 0x100)], (6, 256), hdr 0 8 m3 (both head),
    by unfold AdmitsTable; decide +kernel⟩

theorem witness_TeamsAreManaged_5 : ∃ (p : Path) (slot : Nat) (granted : Bool) (answers : List (Option (Nat ×
    Nat))) (s : State), (Instr.define p slot granted answers).wellFormed = true ∧ s.teamState slot ≠ tsDefining
    ∧ AdmitsTable p spTeam s ∧ (s.lead slot).phase ≠ 0 :=
  ⟨.host, 0, false, [], (hdr 0 8 m3 (both head)).modLead 0 (fun l => { l with phase := 1 }),
    by unfold AdmitsTable; decide +kernel⟩

theorem witness_TeamsAreManaged_6 : ∃ (p : Path) (slot : Nat) (s : State), (Instr.delete p slot).wellFormed =
    true ∧ AdmitsTable p spTeam s ∧ s.teamState slot ≠ tsDefining :=
  ⟨.host, 3, active, by unfold AdmitsTable; decide +kernel⟩

theorem witness_TeamsAreManaged_7 : ∃ (p : Path) (slot : Nat) (s : State), (Instr.delete p slot).wellFormed =
    true ∧ AdmitsTable p spTeam s ∧ s.teamState slot = tsDefining :=
  ⟨.host, 0, defn 0 (hdr 0 8 m3 (both addr5)), by unfold AdmitsTable; decide +kernel⟩

theorem witness_TeamsAreManaged_8 : ∃ (id leader uid : Nat) (s : State), (Instr.teamRegister id leader
    uid).wellFormed = true ∧ s.isHead = true ∧ claimFree s.rope id uid = true :=
  ⟨13, 13, 65535, both head, by decide +kernel⟩

theorem witness_TeamsAreManaged_9 : ∃ (id leader uid : Nat) (s : State), (Instr.teamRegister id leader
    uid).wellFormed = true ∧ s.isHead = true ∧ claimFree s.rope id uid = false :=
  ⟨8, 13, 65535, act 0 8 m3 [some (77,0), none, some (6,0)] (both head), by decide +kernel⟩

theorem witness_TeamsAreManaged_10 : ∃ (id leader uid : Nat) (s : State), (Instr.teamRegister id leader
    uid).wellFormed = true ∧ s.isHead = false :=
  ⟨13, 13, 65535, active, by decide +kernel⟩

theorem witness_TeamsAreManaged_11 : ∃ (id leader : Nat) (s : State), (Instr.deregister id leader).wellFormed =
    true ∧ (s.isHead = true → s.rope.teamIds.any (fun x => x.1 == id && x.2.1 == leader) = true) :=
  ⟨13, 13, active, by decide +kernel⟩

theorem witness_TeamsAreManaged_12 : ∃ (id leader : Nat) (s : State), (Instr.deregister id leader).wellFormed =
    true ∧ s.isHead = true ∧ s.rope.teamIds.any (fun x => x.1 == id && x.2.1 == leader) = false :=
  ⟨13, 13, both head, by decide +kernel⟩

theorem witness_TeamsAreManaged_13 : ∃ (src team k : Nat) (s : State), (Instr.expand src team).wellFormed = true
    ∧ s.ledSlot team = some k :=
  ⟨13, 8, 0, act 0 8 m3 [some (77,0), none, some (6,0)] (both head), by decide +kernel⟩

theorem witness_TeamsAreManaged_14 : ∃ (src team : Nat) (s : State), (Instr.expand src team).wellFormed = true ∧
    s.ledSlot team = none :=
  ⟨13, 13, active, by decide +kernel⟩

theorem witness_TeamsAreManaged_15 : ∃ (src team : Nat) (s : State), (Instr.join src team).wellFormed = true :=
  ⟨13, 13, active, by decide +kernel⟩

theorem witness_TeamsAreManaged_16 : ∃ (src team : Nat) (s : State), (Instr.leave src team).wellFormed = true :=
  ⟨13, 13, active, by decide +kernel⟩

theorem witness_TeamsAreManaged_17 : ∃ (slot : Nat) (s : State), slot < 4 ∧ s.polled slot = true ∧ (s.members
    slot).all (fun m => m.2.1 == 1 || m.2.2 != s.unitNo) = true :=
  ⟨0, act 0 8 [(0,9)] [some (77,0)] (both addr5), by decide +kernel⟩

theorem witness_TeamsAreManaged_18 : ∃ (slot : Nat) (s : State), slot < 4 ∧ s.polled slot = false :=
  ⟨3, active, by decide +kernel⟩

theorem witness_TeamsAreManaged_19 : ∃ (slot entry addr : Nat) (m : Summary) (s : State), (Instr.summary slot
    entry m).wellFormed = true ∧ s.polled slot = true ∧ (s.members slot).find? (fun x => x.1 == entry) = some
    (entry, 0, addr) ∧ s.memberState slot entry = mbJoined ∧ s.memberUid slot entry = m.uid ∧ ((showMasks slot
    s).teamClosure slot).testBit (s.teamId slot) = false ∧ s.rope.sums.all (fun x => decide (x.2.wclass < 4) &&
    decide (x.2.avloss < 65536)) = true :=
  ⟨0, 1, 9, ⟨77, true, 2, 90, 100, 0, 0⟩, act 0 8 m3 [some (77,0), none, some (6,0)] (both head),
    by decide +kernel⟩

theorem witness_TeamsAreManaged_20 : ∃ (slot entry addr : Nat) (m : Summary) (s : State), (Instr.summary slot
    entry m).wellFormed = true ∧ s.polled slot = true ∧ (s.members slot).find? (fun x => x.1 == entry) = some
    (entry, 0, addr) ∧ s.memberState slot entry ≠ mbMismatch ∧ s.memberUid slot entry ≠ 0 ∧ s.memberUid slot
    entry ≠ m.uid :=
  ⟨0, 2, 5, ⟨77, true, 2, 90, 100, 0, 0⟩, act 0 8 m3 [some (77,0), none, some (6,0)] (both head),
    by decide +kernel⟩

theorem witness_TeamsAreManaged_21 : ∃ (slot entry : Nat) (m : Summary) (s : State), (Instr.summary slot entry
    m).wellFormed = true ∧ (s.members slot).find? (fun x => x.1 == entry) = none :=
  ⟨3, 13, ⟨77, true, 2, 90, 100, 0, 0⟩, active, by decide +kernel⟩

theorem witness_TeamsAreManaged_22 : ∃ (slot entry : Nat) (s : State), (Instr.teamMemberTimeout slot
    entry).wellFormed = true ∧ s.polled slot = true ∧ (s.members slot).any (fun x => x.1 == entry) = true :=
  ⟨0, 3, act 0 8 m3 [some (77,0), none, some (6,0)] (both head), by decide +kernel⟩

theorem witness_TeamsAreManaged_23 : ∃ (slot entry : Nat) (s : State), (Instr.teamMemberTimeout slot
    entry).wellFormed = true ∧ (s.polled slot = false ∨ (s.members slot).any (fun x => x.1 == entry) = false) :=
  ⟨3, 13, active, by decide +kernel⟩

theorem witness_TeamsAreManaged_24 : ∃ (slot entry addr : Nat) (m : Summary) (s : State), (Instr.summary slot
    entry m).wellFormed = true ∧ s.polled slot = true ∧ (s.members slot).find? (fun x => x.1 == entry) = some
    (entry, 0, addr) ∧ addr ≠ s.unitNo ∧ s.memberState slot entry = mbLost ∧ (s.memberUid slot entry = 0 ∨
    s.memberUid slot entry = m.uid) ∧ ((showMasks slot s).teamClosure slot).testBit (s.teamId slot) = false :=
  ⟨0, 1, 9, ⟨77, true, 2, 90, 100, 0, 0⟩, act 0 8 m3 [none, none, some (6,0)] (both head), by decide +kernel⟩

end Team

/-! ### Leading a team commit (13) -/

namespace Lead

def lnk (p : Port) (v : Nat) (s : State) : State := s.setFld (stateFld p) v
def addr5 : State := (active.setFlag .ROPE_ADDR_VALID true).setFld .ROPE_ADDR_ADDR 5
def both (s : State) : State := (lnk .up 2 (lnk .dn 2 s)).setFlag .ROPE_STAT_ENUMD true
def hdr (slot id : Nat) (ms : List (Nat × Nat)) (s : State) : State :=
  (List.range ms.length).foldl (fun s i => setTeamW slot (i+1) 0 (word (32768 * (nth (0,0) ms i).1 + (nth (0,0) ms i).2)) s)
    (setTeamW slot 0 0 (word (256 * ms.length + id)) s)
def defn (slot : Nat) (s : State) : State := setTeamState slot tsDefining 0 s
def act (slot id : Nat) (ms : List (Nat × Nat)) (ans : List (Option (Nat × Nat))) (s : State) : State :=
  defineTeam slot true ans (defn slot (hdr slot id ms s))
def sync (s : State) : State := ((s.setFlag .ANG_STAT_SYNC true).setFlag .ANG_STAT_BCN true).setReg32 Reg.ANG_SPEED (50*65536)
def team8 (s : State) : State := act 0 8 [(0,9),(0,3)] [some (77,0), some (78,0)] s
def begun (s : State) : State := after (.teamCommit .host 8 0x2000) (team8 s)
def voted (s : State) : State := s.modLead 0 (fun l => { l with votes := [(9, true)] })
def late (s : State) : State := s.modLead 0 (fun l => { l with votes := [(9, true)], pass := 0x9000 })
def ph2 (s : State) : State := showCstat 0 (s.modLead 0 (fun l => { l with phase := 2, acks := [3] }))
def ph2b (s : State) : State := s.modLead 0 (fun l => { l with phase := 2, acks := [3,9] })
def A := sync (both addr5)

theorem witness_TeamCommitIsLed_1 : ∃ (p : Path) (team ang4 k : Nat) (s : State), (Instr.teamCommit p team
    ang4).wellFormed = true ∧ Admits p Reg.ROPE_CMT s ∧ s.ledSlot team = some k ∧ (s.lead k).phase = 0 ∧
    s.teamState k = tsActive ∧ leaderUnfit s = false ∧ s.teamUnits k ≠ 0 ∧ (s.teamUnits k).testBit s.unitNo =
    false ∧ k < s.rope.leads.length :=
  ⟨.host, 8, 16000, 0, team8 A, by unfold Admits; decide +kernel⟩

theorem witness_TeamCommitIsLed_2 : ∃ (p : Path) (team ang4 k : Nat) (s : State), (Instr.teamCommit p team
    ang4).wellFormed = true ∧ Admits p Reg.ROPE_CMT s ∧ s.ledSlot team = some k ∧ (s.lead k).phase = 0 ∧
    s.teamState k = tsActive ∧ leaderUnfit s = true ∧ k < s.rope.leads.length :=
  ⟨.host, 8, 16000, 0, team8 (both addr5), by unfold Admits; decide +kernel⟩

theorem witness_TeamCommitIsLed_3 : ∃ (p : Path) (team ang4 k : Nat) (s : State), (Instr.teamCommit p team
    ang4).wellFormed = true ∧ Admits p Reg.ROPE_CMT s ∧ s.ledSlot team = some k ∧ ((s.lead k).phase ≠ 0 ∨
    s.teamState k ≠ tsActive) :=
  ⟨.host, 8, 16000, 0, begun A, by unfold Admits; decide +kernel⟩

theorem witness_TeamCommitIsLed_4 : ∃ (p : Path) (team ang4 : Nat) (s : State), (Instr.teamCommit p team
    ang4).wellFormed = true ∧ s.ledSlot team = none :=
  ⟨.host, 13, 16000, active, by decide +kernel⟩

theorem witness_TeamCommitIsLed_5 : ∃ (p : Path) (team k : Nat) (s : State), (Instr.cancel p team).wellFormed =
    true ∧ Admits p Reg.ROPE_CMT s ∧ s.ledSlot team = some k ∧ (s.lead k).phase = 1 ∧ (s.lead k).units.contains
    s.unitNo = false ∧ s.rope.prepWait = [] :=
  ⟨.host, 8, 0, begun A, by unfold Admits; decide +kernel⟩

theorem witness_TeamCommitIsLed_6 : ∃ (p : Path) (team k : Nat) (s : State), (Instr.cancel p team).wellFormed =
    true ∧ Admits p Reg.ROPE_CMT s ∧ s.ledSlot team = some k ∧ (s.lead k).phase ≠ 1 :=
  ⟨.host, 8, 0, team8 A, by unfold Admits; decide +kernel⟩

theorem witness_TeamCommitIsLed_7 : ∃ (src team seq reason k : Nat) (s : State), (Instr.vote src team seq true
    reason).wellFormed = true ∧ s.leadSlot team seq = some k ∧ (s.lead k).phase = 1 ∧ (s.lead k).units.contains
    src = true ∧ (s.lead k).votes.any (fun v => v.1 == src) = false ∧ s.rope.prepWait = [] ∧
    ({ s.lead k with votes := (s.lead k).votes ++ [(src, true)] } : LeadCommit).unvoted ≠ [] :=
  ⟨3, 8, 1, 0, 0, begun A, by decide +kernel⟩

theorem witness_TeamCommitIsLed_8 : ∃ (src team seq reason k : Nat) (s : State), (Instr.vote src team seq true
    reason).wellFormed = true ∧ s.leadSlot team seq = some k ∧ (s.lead k).phase = 1 ∧ (s.lead k).units.contains
    src = true ∧ (s.lead k).votes.any (fun v => v.1 == src) = false ∧ s.rope.prepWait = [] ∧
    ({ s.lead k with votes := (s.lead k).votes ++ [(src, true)] } : LeadCommit).unvoted = [] ∧ (s.lead
    k).units.contains s.unitNo = false :=
  ⟨3, 8, 1, 0, 0, voted (begun A), by decide +kernel⟩

theorem witness_TeamCommitIsLed_9 : ∃ (src team seq reason k : Nat) (s : State), (Instr.vote src team seq false
    reason).wellFormed = true ∧ s.leadSlot team seq = some k ∧ (s.lead k).phase = 1 ∧ (s.lead k).units.contains
    src = true ∧ (s.lead k).votes.any (fun v => v.1 == src) = false ∧ s.rope.prepWait = [] ∧ (s.lead
    k).units.contains s.unitNo = false :=
  ⟨3, 8, 1, 0, 0, begun A, by decide +kernel⟩

theorem witness_TeamCommitIsLed_10 : ∃ (src team seq reason k : Nat) (yes : Bool) (s : State), (Instr.vote src
    team seq yes reason).wellFormed = true ∧ s.rope.prepWait = [] ∧ s.leadSlot team seq = some k ∧ ((s.lead
    k).phase ≠ 1 ∨ (s.lead k).units.contains src = false ∨ (s.lead k).votes.any (fun v => v.1 == src) = true) :=
  ⟨0, 8, 1, 0, 0, false, begun A, by decide +kernel⟩

theorem witness_TeamCommitIsLed_11 : ∃ (src team seq reason : Nat) (yes : Bool) (s : State), (Instr.vote src
    team seq yes reason).wellFormed = true ∧ s.leadSlot team seq = none :=
  ⟨0, 1, 0, 0, false, active, by decide +kernel⟩

theorem witness_TeamCommitIsLed_12 : ∃ (k : Nat) (s : State), k < 4 ∧ (s.lead k).phase = 1 ∧ (s.lead
    k).units.contains s.unitNo = false ∧ s.rope.prepWait = [] :=
  ⟨0, begun A, by decide +kernel⟩

theorem witness_TeamCommitIsLed_13 : ∃ (k : Nat) (s : State), k < 4 ∧ (s.lead k).phase ≠ 1 :=
  ⟨3, active, by decide +kernel⟩

theorem witness_TeamCommitIsLed_14 : ∃ (k : Nat) (s : State), k < 4 ∧ (s.lead k).phase = 2 ∧ (s.lead
    k).units.contains s.unitNo = false :=
  ⟨0, ph2 (begun A), by decide +kernel⟩

theorem witness_TeamCommitIsLed_15 : ∃ (k : Nat) (s : State), k < 4 ∧ (s.lead k).phase ≠ 2 :=
  ⟨3, active, by decide +kernel⟩

theorem witness_TeamCommitIsLed_16 : ∃ (src team seq k : Nat) (late : Bool) (s : State), (Instr.cack src team
    seq late).wellFormed = true ∧ s.leadSlot team seq = some k ∧ (s.lead k).phase = 2 :=
  ⟨0, 8, 1, 0, false, ph2 (begun A), by decide +kernel⟩

theorem witness_TeamCommitIsLed_17 : ∃ (src team seq : Nat) (late : Bool) (s : State), (Instr.cack src team seq
    late).wellFormed = true ∧ (∀ k, s.leadSlot team seq = some k → (s.lead k).phase ≠ 2) :=
  ⟨13, 13, 255, false, active, by decide +kernel⟩

theorem witness_TeamCommitIsLed_18 : ∃ (k : Nat) (s : State), k < 4 ∧ (s.lead k).phase = 2 ∧ (s.lead
    k).units.all (fun u => (s.lead k).acks.contains u) = true :=
  ⟨0, ph2b (begun A), by decide +kernel⟩

theorem witness_TeamCommitIsLed_19 : ∃ (k : Nat) (s : State), k < 4 ∧ (s.lead k).phase = 2 ∧ (s.lead
    k).units.all (fun u => (s.lead k).acks.contains u) = false :=
  ⟨0, ph2 (begun A), by decide +kernel⟩

theorem witness_TeamCommitIsLed_20 : ∃ (k : Nat) (s : State), k < 4 ∧ (s.lead k).phase ≠ 2 :=
  ⟨3, active, by decide +kernel⟩

end Lead

/-! ### Following a team commit (13) -/

namespace Member

def lnk (p : Port) (v : Nat) (s : State) : State := s.setFld (stateFld p) v
def addr5 : State := ((active.setFlag .ROPE_ADDR_VALID true).setFld .ROPE_ADDR_ADDR 5).setFlag .ANG_STAT_BCN true
def both (s : State) : State := (lnk .up 2 (lnk .dn 2 s)).setFlag .ROPE_STAT_ENUMD true
def A := both addr5
def mem (stage : Nat) (missed : Bool) (out : Nat) (s : State) : State := s.modRope (fun r => { r with member := some ⟨9, 8, 3, 0, 0, 9, stage, missed, out, 0⟩ })
def prep (missed : Bool) (s : State) : State := { (mem 2 missed 1 s) with stg := { s.stg with teamHeld := true } }
def chking (s : State) : State := { (mem 1 false 0 s) with stg := { s.stg with checking := some (2, 0, .host) } }
def dirty (s : State) : State := { s with stg := { s.stg with regs := [(Reg.ANG_BIVSPD, 77)] } }
def badm (s : State) : State := { (dirty s) with stg := { (dirty s).stg with checking := some (2, 0, .rope 5) }, sys := { s.sys with prot := closedMap ++ [protCheck closedMap] } }

theorem witness_TeamCommitIsFollowed_1 : ∃ (src team seq a pass vtmo : Nat) (m : MemberCommit) (s : State),
    (Instr.prepare src team seq a pass vtmo).wellFormed = true ∧ m = ⟨src, team, seq, a, pass, vtmo, 1, false,
    0, 0⟩ ∧ src ≠ s.unitNo ∧ s.stg.checking = none ∧ (s.isFatal = true ∨ angleUnfit m s = true ∨ (preparedFor m
    s = false ∧ (s.stg.armed = true ∨ s.stg.teamHeld = true))) :=
  ⟨9, 9, 9, 9, 9, 9,
    { leader := 9, team := 9, seq := 9, angle := 9, pass := 9, vtmo := 9, stage := 1, missed := false, outcome := 0 },
    active, by decide +kernel⟩

theorem witness_TeamCommitIsFollowed_2 : ∃ (src team seq a pass vtmo : Nat) (m : MemberCommit) (s : State),
    (Instr.prepare src team seq a pass vtmo).wellFormed = true ∧ m = ⟨src, team, seq, a, pass, vtmo, 1, false,
    0, 0⟩ ∧ src ≠ s.unitNo ∧ s.stg.checking = none ∧ s.isFatal = false ∧ angleUnfit m s = false ∧ preparedFor m
    s = true :=
  ⟨9, 8, 3, 9, 9, 9,
    { leader := 9, team := 8, seq := 3, angle := 9, pass := 9, vtmo := 9, stage := 1, missed := false, outcome := 0 },
    prep false A, by decide +kernel⟩

theorem witness_TeamCommitIsFollowed_3 : ∃ (src team seq a pass vtmo : Nat) (m : MemberCommit) (s : State),
    (Instr.prepare src team seq a pass vtmo).wellFormed = true ∧ m = ⟨src, team, seq, a, pass, vtmo, 1, false,
    0, 0⟩ ∧ s.stg.checking = none ∧ s.isFatal = false ∧ angleUnfit m s = false ∧ preparedFor m s = false ∧
    s.stg.armed = false ∧ s.stg.teamHeld = false :=
  ⟨9, 9, 9, 9, 9, 9,
    { leader := 9, team := 9, seq := 9, angle := 9, pass := 9, vtmo := 9, stage := 1, missed := false, outcome := 0 },
    A, by decide +kernel⟩

theorem witness_TeamCommitIsFollowed_4 : ∃ (src team seq a pass vtmo : Nat) (s : State), (Instr.prepare src team
    seq a pass vtmo).wellFormed = true ∧ s.stg.checking.isSome = true :=
  ⟨9, 9, 9, 9, 9, 9, chking A, by decide +kernel⟩

theorem witness_TeamCommitIsFollowed_5 : ∃ (k : Nat) (p : Path) (m : MemberCommit) (s : State), s.stg.checking =
    some (2, k, p) ∧ s.rope.member = some m ∧ s.rope.prepWait = [] ∧ m.leader ≠ s.unitNo ∧ m.team < 31 ∧
    contentFails p { s with stg := { s.stg with checking := none } } = none :=
  ⟨0, Path.host,
    { leader := 9, team := 8, seq := 3, angle := 0, pass := 0, vtmo := 9, stage := 1, missed := false, outcome := 0 },
    chking A, by decide +kernel⟩

theorem witness_TeamCommitIsFollowed_6 : ∃ (k r item : Nat) (p : Path) (m : MemberCommit) (s : State),
    s.stg.checking = some (2, k, p) ∧ s.rope.member = some m ∧ s.rope.prepWait = [] ∧ m.leader ≠ s.unitNo ∧
    m.team < 31 ∧ contentFails p { s with stg := { s.stg with checking := none } } = some (r, item) :=
  ⟨0, 2, 61443, Path.rope 5,
    { leader := 9, team := 8, seq := 3, angle := 0, pass := 0, vtmo := 9, stage := 1, missed := false, outcome := 0 },
    badm (chking A), by decide +kernel⟩

theorem witness_TeamCommitIsFollowed_7 : ∃ (src team seq : Nat) (m : MemberCommit) (s : State),
    (Instr.teamCommitReceive src team seq).wellFormed = true ∧ s.rope.member = some m ∧ m.leader = src ∧ m.team
    = team ∧ m.seq = seq ∧ m.stage = 2 ∧ m.missed = false ∧ src ≠ s.unitNo :=
  ⟨9, 8, 3,
    { leader := 9, team := 8, seq := 3, angle := 0, pass := 0, vtmo := 9, stage := 2, missed := false, outcome := 1 },
    prep false A, by decide +kernel⟩

theorem witness_TeamCommitIsFollowed_8 : ∃ (src team seq : Nat) (m : MemberCommit) (s : State),
    (Instr.teamCommitReceive src team seq).wellFormed = true ∧ s.rope.member = some m ∧ m.leader = src ∧ m.team
    = team ∧ m.seq = seq ∧ m.stage = 2 ∧ m.missed = true ∧ src ≠ s.unitNo :=
  ⟨9, 8, 3,
    { leader := 9, team := 8, seq := 3, angle := 0, pass := 0, vtmo := 9, stage := 2, missed := true, outcome := 1 },
    prep true (dirty A), by decide +kernel⟩

theorem witness_TeamCommitIsFollowed_9 : ∃ (src team seq : Nat) (m : MemberCommit) (s : State),
    (Instr.teamCommitReceive src team seq).wellFormed = true ∧ s.rope.member = some m ∧ m.leader = src ∧ m.team
    = team ∧ m.seq = seq ∧ m.stage ≠ 2 ∧ src ≠ s.unitNo ∧ (m.stage = 3 ∨ m.outcome = outApplied ∨ m.outcome =
    outLate) :=
  ⟨9, 8, 3,
    { leader := 9, team := 8, seq := 3, angle := 0, pass := 0, vtmo := 9, stage := 3, missed := false, outcome := 2 },
    mem 3 false 2 A, by decide +kernel⟩

theorem witness_TeamCommitIsFollowed_10 : ∃ (src team seq : Nat) (s : State), (Instr.teamCommitReceive src team
    seq).wellFormed = true ∧ (∀ m, s.rope.member = some m → m.leader ≠ src ∨ m.team ≠ team ∨ m.seq ≠ seq ∨
    (m.stage ≠ 2 ∧ m.stage ≠ 3 ∧ m.outcome ≠ outApplied ∧ m.outcome ≠ outLate)) :=
  ⟨13, 13, 255, active, by decide +kernel⟩

theorem witness_TeamCommitIsFollowed_11 : ∃ (src team seq : Nat) (m : MemberCommit) (s : State), (Instr.abort
    src team seq).wellFormed = true ∧ s.rope.member = some m ∧ s.rope.prepWait = [] ∧ m.leader = src ∧ m.team =
    team ∧ m.seq = seq ∧ (m.stage = 1 ∨ m.stage = 2) :=
  ⟨9, 8, 3,
    { leader := 9, team := 8, seq := 3, angle := 0, pass := 0, vtmo := 9, stage := 1, missed := false, outcome := 0 },
    chking A, by decide +kernel⟩

theorem witness_TeamCommitIsFollowed_12 : ∃ (src team seq : Nat) (m : MemberCommit) (s : State), (Instr.abort
    src team seq).wellFormed = true ∧ s.rope.member = some m ∧ s.rope.prepWait = [] ∧ m.leader = src ∧ m.team =
    team ∧ m.seq = seq ∧ m.stage = 4 ∧ m.outcome = outRefused :=
  ⟨9, 8, 3,
    { leader := 9, team := 8, seq := 3, angle := 0, pass := 0, vtmo := 9, stage := 4, missed := false, outcome := 7 },
    mem 4 false 7 A, by decide +kernel⟩

theorem witness_TeamCommitIsFollowed_13 : ∃ (src team seq : Nat) (s : State), (Instr.abort src team
    seq).wellFormed = true ∧ s.rope.prepWait = [] ∧ (∀ m, s.rope.member = some m → m.leader ≠ src ∨ m.team ≠
    team ∨ m.seq ≠ seq ∨ m.stage = 3) :=
  ⟨13, 13, 255, active, by decide +kernel⟩

theorem witness_TeamCommitIsFollowed_14 : ∃ (m : MemberCommit) (s : State), s.rope.member = some m ∧ m.stage = 2
    ∧ m.team < 31 :=
  ⟨{ leader := 9, team := 8, seq := 3, angle := 0, pass := 0, vtmo := 9, stage := 2, missed := false, outcome := 1 },
    prep false A, by decide +kernel⟩

theorem witness_TeamCommitIsFollowed_15 : ∃ s : State, (∀ m, s.rope.member = some m → m.stage ≠ 2) :=
  ⟨active, by decide +kernel⟩

end Member

/-! ### Frames and captures (14) -/

namespace Frame

def xf (f : Xfer → Xfer) (s : State) : State := { s with xfer := f s.xfer }
def fq (l : List (Nat × Nat × Nat × Nat)) (s : State) : State := { s with seq := { s.seq with frameQ := l } }
def opn (n pass : Nat) (s : State) : State := xf (fun x => { x with openFrame := some (List.replicate n (3, 7, 9)), openPass := pass, opened := [1,2,3] }) s
def cap (n : Nat) (s : State) : State := s.setFld .XFER_CAPST_STATE n
def ctl (s : State) : State := (s.setRegN Reg.XFER_CTRL 0xC000)
def des (d : Descr) (s : State) : State := xf (fun x => { x with descrs := [d], ram := (List.range 40).foldl (fun m k => writeAt ramByte m k (byte (k+1))) [] }) s
def d7 : Descr := { frames := [(0, 36)], record := [], number := 3, dests := 7 }
def d7c : Descr := { frames := [(0, 36)], record := List.replicate 28 5, number := 3, dests := 7 }
def Q := [(1,2,3,6)]
def Q2 := [(1,2,3,6),(9,8,7,6)]

theorem witness_FramesAreBuilt_1 : ∃ (e w0 w1 pass : Nat) (rest : List (Nat × Nat × Nat × Nat)) (l : List (Nat ×
    Nat × Nat)) (s : State), s.seq.frameQ = (e, w0, w1, pass) :: rest ∧ s.xfer.openFrame = some l ∧
    s.xfer.openPass = pass ∧ l.length < 239 :=
  ⟨1, 2, 3, 6, [(9, 8, 7, 6)], [(3, 7, 9), (3, 7, 9), (3, 7, 9)], fq Q2 (opn 3 6 active), by decide +kernel⟩

theorem witness_FramesAreBuilt_2 : ∃ (e w0 w1 pass : Nat) (rest : List (Nat × Nat × Nat × Nat)) (s : State),
    s.seq.frameQ = (e, w0, w1, pass) :: rest ∧ s.xfer.openFrame = none :=
  ⟨1, 2, 3, 6, [], fq Q active, by decide +kernel⟩

theorem witness_FramesAreBuilt_3 : ∃ (e w0 w1 pass : Nat) (rest : List (Nat × Nat × Nat × Nat)) (l : List (Nat ×
    Nat × Nat)) (s : State), s.seq.frameQ = (e, w0, w1, pass) :: rest ∧ s.xfer.openFrame = some l ∧
    s.xfer.openPass ≠ pass :=
  ⟨1, 2, 3, 6, [], [(3, 7, 9), (3, 7, 9), (3, 7, 9)], fq Q (opn 3 5 active), by decide +kernel⟩

theorem witness_FramesAreBuilt_4 : ∃ (e w0 w1 pass : Nat) (rest : List (Nat × Nat × Nat × Nat)) (l : List (Nat ×
    Nat × Nat)) (s : State), s.seq.frameQ = (e, w0, w1, pass) :: rest ∧ s.xfer.openFrame = some l ∧
    s.xfer.openPass = pass ∧ 239 ≤ l.length :=
  ⟨1, 2, 3, 6, [], List.replicate 239 (3, 7, 9), fq Q (opn 239 6 active), by decide +kernel⟩

theorem witness_FramesAreBuilt_5 : ∃ s : State, s.seq.frameQ = [] :=
  ⟨active, by decide +kernel⟩

theorem witness_FramesAreBuilt_6 : ∃ (l : List (Nat × Nat × Nat)) (n : Nat) (s : State), s.xfer.openFrame = some
    l ∧ n = (frameBytes s l).length ∧ s.fld .XFER_CAPST_STATE = 0 ∧ ringRoom s n = true ∧ streamMask s = dXmem ∧
    s.xmemOut = false ∧ s.xfer.descrs.all (fun d => d.dests != 0) = true :=
  ⟨[(3, 7, 9)], 28, fq Q (opn 1 6 (ctl active)), by decide +kernel⟩

theorem witness_FramesAreBuilt_7 : ∃ (l : List (Nat × Nat × Nat)) (s : State), s.xfer.openFrame = some l ∧ s.fld
    .XFER_CAPST_STATE = 0 ∧ ringRoom s (frameBytes s l).length = false :=
  ⟨[(3, 7, 9), (3, 7, 9), (3, 7, 9)], des d7 (opn 3 6 (ctl active)), by decide +kernel⟩

theorem witness_FramesAreBuilt_8 : ∃ s : State, s.xfer.openFrame = none :=
  ⟨active, by decide +kernel⟩

theorem witness_FramesAreBuilt_9 : ∃ (p : Path) (s : State), okPath p = true ∧ Admits p Reg.XFER_CAP s ∧ s.fld
    .XFER_CAP_SRC ≠ 3 ∧ s.fld .XFER_CAPST_STATE = 0 :=
  ⟨.host, active, by unfold Admits; decide +kernel⟩

theorem witness_FramesAreBuilt_10 : ∃ (p : Path) (s : State), okPath p = true ∧ Admits p Reg.XFER_CAP s ∧ s.fld
    .XFER_CAP_SRC ≠ 3 ∧ s.fld .XFER_CAPST_STATE ≠ 0 :=
  ⟨.host, cap 2 (fq Q (opn 3 5 active)), by unfold Admits; decide +kernel⟩

theorem witness_FramesAreBuilt_11 : ∃ (p : Path) (s : State), okPath p = true ∧ Admits p Reg.XFER_CAP s ∧ s.fld
    .XFER_CAP_SRC ≠ 3 ∧ s.fld .XFER_CAPST_STATE = 1 :=
  ⟨.host, cap 1 active, by unfold Admits; decide +kernel⟩

theorem witness_FramesAreBuilt_12 : ∃ (p : Path) (s : State), okPath p = true ∧ Admits p Reg.XFER_CAP s ∧ s.fld
    .XFER_CAP_SRC ≠ 3 ∧ s.fld .XFER_CAPST_STATE ≠ 1 :=
  ⟨.host, active, by unfold Admits; decide +kernel⟩

theorem witness_FramesAreBuilt_13 : ∃ (p : Path) (s : State), okPath p = true ∧ Admits p Reg.XFER_CAP s ∧ s.fld
    .XFER_CAP_SRC ≠ 3 ∧ s.fld .XFER_CAPST_STATE ≠ 3 :=
  ⟨.host, active, by unfold Admits; decide +kernel⟩

theorem witness_FramesAreBuilt_14 : ∃ (p : Path) (s : State), okPath p = true ∧ Admits p Reg.XFER_CAP s ∧ s.fld
    .XFER_CAP_SRC ≠ 3 ∧ s.fld .XFER_CAPST_STATE = 3 :=
  ⟨.host, cap 3 (des d7c active), by unfold Admits; decide +kernel⟩

theorem witness_FramesAreBuilt_15 : ∃ (p : Path) (v : Nat) (s : State), (Instr.xferCtrlWrite p v).wellFormed =
    true ∧ Admits p Reg.XFER_CTRL s ∧ ctrlAllowed (s.granted .engine grantXmCap) (word v) s = true :=
  ⟨.host, 0x8000, active, by unfold Admits; decide +kernel⟩

theorem witness_FramesAreBuilt_16 : ∃ (p : Path) (v : Nat) (s : State), (Instr.xferCtrlWrite p v).wellFormed =
    true ∧ Admits p Reg.XFER_CTRL s ∧ ctrlAllowed (s.granted .engine grantXmCap) (word v) s = false :=
  ⟨.host, 65535, active, by unfold Admits; decide +kernel⟩

theorem witness_FramesAreBuilt_17 : ∃ (p : Path) (c : Instr) (s : State), okPath p = true ∧ Admits p
    Reg.XFER_CAP s ∧ s.fld .XFER_CAP_SRC = 3 ∧ (c = .arm p ∨ c = .trigger p ∨ c = .stop p) :=
  ⟨.host, .arm .host, active.setFld .XFER_CAP_SRC 3, by unfold Admits; decide +kernel⟩

end Frame

/-! ### External memory (14) -/

namespace Xmem

def xf (f : Xfer → Xfer) (s : State) : State := { s with xfer := f s.xfer }
def mem (kind : Nat) (s : State) : State := ((s.setFld .XMEM_STAT_KIND kind).setReg32 Reg.XMEM_SIZE 0x400000).setRegN Reg.XMEM_CFG 0x0204
def des (d : Descr) (s : State) : State := xf (fun x => { x with descrs := [d], ram := (List.range 40).foldl (fun m k => writeAt ramByte m k (byte (k+1))) [] }) s
def d7 : Descr := { frames := [(0, 36)], record := [], number := 3, dests := 7 }
def g (s : State) : State := { s with pwr := { s.pwr with granted := [⟨.xmem, 60, 0⟩], waiting := [] } }
def wop (o : XOp) (s : State) : State := xf (fun x => { x with op := some o, mem := [(9, 0x55), (4100, 3), (8192, 4)] }) s
def mq (o : XOp) (s : State) : State := xf (fun x => { x with mboxQ := [o] }) s
def F := mem 1 active
def run (s : State) : State := (s.setRegN Reg.XFER_CTRL 0xD100).setFlag .XFER_STAT_RUN true |>.setReg32 Reg.XFER_WPTR 0x40000

theorem witness_ExternalMemoryIsWorked_1 : ∃ (o : XOp) (rest : List XOp) (s : State), s.xfer.op = none ∧
    s.isActive = true ∧ s.isFatal = false ∧ s.hasXmem = true ∧ oldestFor s dXmem = none ∧ s.xfer.mboxQ = o ::
    rest ∧ o.mailbox = true ∧ (o.kind = 2 ∨ s.flag .XFER_STAT_XERR = false) ∧ s.hasCredits .xmem 0 (xopCredits s
    o) = true :=
  ⟨{ kind := 2, addr := 4, bytes := [], mailbox := true, len := 6 }, [], g (mq ⟨2, 4, [], true, 6⟩ F),
    by decide +kernel⟩

theorem witness_ExternalMemoryIsWorked_2 : ∃ (o : XOp) (s : State), s.xfer.op = none ∧ s.isActive = true ∧
    s.isFatal = false ∧ s.hasXmem = true ∧ fitPiece s = s ∧ s.xfer.mboxQ = [] ∧ streamOp s = some o ∧
    s.hasCredits .xmem 0 (xopCredits s o) = true :=
  ⟨{ kind := 1, addr := 262144, bytes := [], mailbox := false, len := 0 }, g (run (des d7 F)), by decide +kernel⟩

theorem witness_ExternalMemoryIsWorked_3 : ∃ s : State, (s.xfer.op.isSome = true ∨ s.isActive = false ∨
    s.isFatal = true ∨ s.hasXmem = false) :=
  ⟨active, by decide +kernel⟩

theorem witness_ExternalMemoryIsWorked_4 : ∃ (o : XOp) (s : State), s.xfer.op = some o ∧ o.mailbox = true ∧
    o.kind = 2 :=
  ⟨{ kind := 2, addr := 4, bytes := [], mailbox := true, len := 6 }, g (wop ⟨2, 4, [], true, 6⟩ F),
    by decide +kernel⟩

theorem witness_ExternalMemoryIsWorked_5 : ∃ (o : XOp) (s : State), s.xfer.op = some o ∧ o.kind = 0 :=
  ⟨{ kind := 0, addr := 8, bytes := [0x01#8, 0x02#8, 0x03#8, 0x04#8], mailbox := true, len := 4 }, g (wop ⟨0, 8,
    [1,2,3,4], true, 4⟩ F), by decide +kernel⟩

theorem witness_ExternalMemoryIsWorked_6 : ∃ (o : XOp) (s : State), s.xfer.op = some o ∧ o.kind = 1 :=
  ⟨{ kind := 1, addr := 4096, bytes := [], mailbox := true, len := 4096 }, g (wop ⟨1, 4096, [], true, 4096⟩ F),
    by decide +kernel⟩

theorem witness_ExternalMemoryIsWorked_7 : ∃ s : State, s.xfer.op = none :=
  ⟨active, by decide +kernel⟩

theorem witness_ExternalMemoryIsWorked_8 : ∃ (o : XOp) (s : State), s.xfer.op = some o ∧ o.kind ≤ 1 ∧ s.isFlash
    = true ∧ 210 ≤ s.storeMax :=
  ⟨{ kind := 0, addr := 8, bytes := [0x01#8, 0x02#8, 0x03#8, 0x04#8], mailbox := true, len := 4 }, g (wop ⟨0, 8,
    [1,2,3,4], true, 4⟩ F), by decide +kernel⟩

theorem witness_ExternalMemoryIsWorked_9 : ∃ (o : XOp) (s : State), s.xfer.op = some o ∧ o.kind ≤ 1 ∧ s.isFlash
    = true ∧ s.storeMax < 210 :=
  ⟨{ kind := 0, addr := 8, bytes := [0x01#8, 0x02#8, 0x03#8, 0x04#8], mailbox := true, len := 4 }, (wop ⟨0, 8,
    [1,2,3,4], true, 4⟩ F).setRegN Reg.PWR_CAP 10, by decide +kernel⟩

theorem witness_ExternalMemoryIsWorked_10 : ∃ s : State, (∀ o, s.xfer.op = some o → 1 < o.kind ∨ s.isFlash =
    false) :=
  ⟨active, by decide +kernel⟩

theorem witness_ExternalMemoryIsWorked_11 : ∃ (o : XOp) (s : State), s.xfer.op = some o ∧ o.kind ≤ 1 ∧ Watches
    15 s :=
  ⟨{ kind := 0, addr := 8, bytes := [0x01#8, 0x02#8, 0x03#8, 0x04#8], mailbox := true, len := 4 }, g (wop ⟨0, 8,
    [1,2,3,4], true, 4⟩ F), by unfold Watches; decide +kernel⟩

theorem witness_ExternalMemoryIsWorked_12 : ∃ (p2 p3 : Nat) (s : State), (Instr.belayReport 15 3 p2
    p3).wellFormed = true ∧ Watches 15 s :=
  ⟨4660, 0, g (wop ⟨0, 8, [1,2,3,4], true, 4⟩ F), by unfold Watches; decide +kernel⟩

theorem witness_ExternalMemoryIsWorked_13 : ∃ s : State, s.xfer.op = none ∨ (∀ o, s.xfer.op = some o → o.kind =
    2) :=
  ⟨active, by decide +kernel⟩

theorem witness_ExternalMemoryIsWorked_14 : ∃ (p : Path) (w : Word) (rest : List Word) (s : State), okPath p =
    true ∧ AdmitsRead p Reg.XFER_PULL s ∧ s.flag .XFER_STAT_MBOX = true ∧ s.xfer.mboxData = w :: rest :=
  ⟨.host, 0x0005#16, [], xf (fun x => {x with mboxData := [5]}) (F.setFlag .XFER_STAT_MBOX true),
    by unfold AdmitsRead; decide +kernel⟩

theorem witness_ExternalMemoryIsWorked_15 : ∃ (p : Path) (s : State), okPath p = true ∧ AdmitsRead p
    Reg.XFER_PULL s ∧ s.flag .XFER_STAT_MBOX = false ∧ oldestFor s dHost = none :=
  ⟨.host, active, by unfold AdmitsRead; decide +kernel⟩

theorem witness_ExternalMemoryIsWorked_16 : ∃ (p : Path) (d : Descr) (s : State), okPath p = true ∧ AdmitsRead p
    Reg.XFER_PULL s ∧ s.flag .XFER_STAT_MBOX = false ∧ oldestFor s dHost = some d :=
  ⟨.host,
    { frames := [(0, 36)], record := [], number := 3, dests := 7, atXmem := (0, 0), atRope := (0, 0), atHost := (0, 0) },
    g (run (des d7 F)), by unfold AdmitsRead; decide +kernel⟩

theorem witness_ExternalMemoryIsWorked_17 : ∃ (p : Path) (addr n : Nat) (s : State), (Instr.read p addr
    n).wellFormed = true ∧ Admits p Reg.XFER_PULL s ∧ s.xfer.mbox = [] ∧ mailboxReason 1 n addr (s.mayRead p 9)
    (s.granted p) s = none :=
  ⟨.host, 0x30000, 100, F, by unfold Admits; decide +kernel⟩

theorem witness_ExternalMemoryIsWorked_18 : ∃ (p : Path) (addr r n : Nat) (s : State), (Instr.read p addr
    n).wellFormed = true ∧ Admits p Reg.XFER_PULL s ∧ s.xfer.mbox = [] ∧ mailboxReason 1 n addr (s.mayRead p 9)
    (s.granted p) s = some r :=
  ⟨.host, 4294967295, 4, 255, active, by unfold Admits; decide +kernel⟩

theorem witness_ExternalMemoryIsWorked_19 : ∃ (p : Path) (addr : Nat) (ws : List Nat) (s : State), (Instr.write
    p addr ws).wellFormed = true ∧ Admits p Reg.XFER_PULL s ∧ s.xfer.mbox = [] ∧ mailboxReason 2 ws.length addr
    (s.mayRead p 9) (s.granted p) s = none :=
  ⟨.host, 0x30000, [1,2,3,4], F, by unfold Admits; decide +kernel⟩

theorem witness_ExternalMemoryIsWorked_20 : ∃ (p : Path) (addr r : Nat) (ws : List Nat) (s : State),
    (Instr.write p addr ws).wellFormed = true ∧ Admits p Reg.XFER_PULL s ∧ s.xfer.mbox = [] ∧ mailboxReason 2
    ws.length addr (s.mayRead p 9) (s.granted p) s = some r :=
  ⟨.host, 4294967295, 4, [], active, by unfold Admits; decide +kernel⟩

theorem witness_ExternalMemoryIsWorked_21 : ∃ (p : Path) (addr : Nat) (s : State), (Instr.eraseSector p
    addr).wellFormed = true ∧ Admits p Reg.XFER_PULL s ∧ s.xfer.mbox = [] ∧ mailboxReason 3 0 addr (s.mayRead p
    9) (s.granted p) s = none :=
  ⟨.host, 0x30000, F, by unfold Admits; decide +kernel⟩

theorem witness_ExternalMemoryIsWorked_22 : ∃ (p : Path) (addr r : Nat) (s : State), (Instr.eraseSector p
    addr).wellFormed = true ∧ Admits p Reg.XFER_PULL s ∧ s.xfer.mbox = [] ∧ mailboxReason 3 0 addr (s.mayRead p
    9) (s.granted p) s = some r :=
  ⟨.host, 4294967295, 2, active, by unfold Admits; decide +kernel⟩

theorem witness_ExternalMemoryIsWorked_23 : ∃ (o : XOp) (rest : List XOp) (s : State), s.xfer.op = none ∧
    oldestFor s dXmem = none ∧ s.xfer.mboxQ = o :: rest ∧ (o.kind = 2 ∨ s.flag .XFER_STAT_XERR = false) ∧
    s.hasCredits .xmem 0 (xopCredits s o) = false :=
  ⟨{ kind := 2, addr := 4, bytes := [], mailbox := true, len := 6 }, [], mq ⟨2, 4, [], true, 6⟩ F,
    by decide +kernel⟩

theorem witness_ExternalMemoryIsWorked_24 : ∃ (o : XOp) (s : State), s.xfer.op = none ∧ s.isActive = true ∧
    s.isFatal = false ∧ s.hasXmem = true ∧ oldestFor s dXmem = none ∧ s.xfer.mboxQ = [o] ∧ o.kind ≠ 2 ∧ s.flag
    .XFER_STAT_XERR = true :=
  ⟨{ kind := 0, addr := 4, bytes := [], mailbox := true, len := 6 }, (mq ⟨0, 4, [], true, 6⟩ F).setFlag
    .XFER_STAT_XERR true, by decide +kernel⟩

end Xmem

/-! ### The flash queue (15) -/

namespace Flash

def nv (f : Nvm → Nvm) (s : State) : State := { s with nvm := f s.nvm }
def g (s : State) : State := { s with pwr := { s.pwr with granted := [⟨.nvm, 60, 0⟩], waiting := [] } }
def jb (l : List Job) (s : State) : State := setJobs s l
def sto (s : State) : State := nv (fun n => { n with store := [(0x5005, 3), (0x7001, 0x55), (0x9000, 7)], ecc := [1,2,0xE00] }) s
def op (o : FlashOp) (s : State) : State := nv (fun n => { n with op := some o }) (sto s)
def full (s : State) : State := nv (fun n => { n with store := (List.range 512).map (fun i => (fieldAddr 4 (active.counterBase 4).2 + i, (0 : Byte))) }) s

theorem witness_FlashQueueRuns_1 : ∃ s : State, (s.mayStart = false ∨ s.nvm.jobs.find? s.canRun = none) :=
  ⟨active, by decide +kernel⟩

theorem witness_FlashQueueRuns_2 : ∃ (j k : Job) (o : FlashOp) (s : State), s.mayStart = true ∧ s.nvm.jobs.find?
    s.canRun = some j ∧ nextOp j (setJobs s (j :: s.nvm.jobs.erase j)) = some (o, k) ∧ (jobReserved k = true ∨
    s.hasCredits .nvm 0 (opCredits o) = true) :=
  ⟨{ kind := Machine.JobKind.rawErase 20, host := false, step := 0, doing := Machine.Doing.record, voiding := false, repeated := false, place := 0, seq := none },
    { kind := Machine.JobKind.rawErase 20, host := false, step := 0, doing := Machine.Doing.erase, voiding := false, repeated := false, place := 0, seq := none },
    Machine.FlashOp.erase 20, g (jb [{ kind := .rawErase 20 }] active), by decide +kernel⟩

theorem witness_FlashQueueRuns_3 : ∃ (j k : Job) (o : FlashOp) (s : State), s.mayStart = true ∧ s.nvm.jobs.find?
    s.canRun = some j ∧ nextOp j (setJobs s (j :: s.nvm.jobs.erase j)) = some (o, k) ∧ jobReserved k = false ∧
    s.hasCredits .nvm 0 (opCredits o) = false :=
  ⟨{ kind := Machine.JobKind.rawErase 20, host := false, step := 0, doing := Machine.Doing.record, voiding := false, repeated := false, place := 0, seq := none },
    { kind := Machine.JobKind.rawErase 20, host := false, step := 0, doing := Machine.Doing.erase, voiding := false, repeated := false, place := 0, seq := none },
    Machine.FlashOp.erase 20, jb [{ kind := .rawErase 20 }] active, by decide +kernel⟩

theorem witness_FlashQueueRuns_4 : ∃ (n : Nat) (j : Job) (rest : List Job) (s : State), s.mayStart = true ∧
    s.nvm.jobs = j :: rest ∧ j.kind = .counter n ∧ n < 8 ∧ s.countOp n = none :=
  ⟨4,
    { kind := Machine.JobKind.counter 4, host := false, step := 0, doing := Machine.Doing.record, voiding := false, repeated := false, place := 0, seq := none },
    [], jb [{kind := .counter 4}] (full active), by decide +kernel⟩

theorem witness_FlashQueueRuns_5 : ∃ (a : Nat) (bs : List Byte) (s : State), s.nvm.op = some (.program a bs) :=
  ⟨28672, [0x01#8, 0x02#8, 0x03#8, 0x04#8], op (.program 0x7000 [1,2,3,4]) active, by decide +kernel⟩

theorem witness_FlashQueueRuns_6 : ∃ (a : Nat) (bs : List Byte) (s : State), s.nvm.op = some (.program a bs) :=
  ⟨28672, [0x01#8, 0x02#8, 0x03#8, 0x04#8], op (.program 0x7000 [1,2,3,4]) active, by decide +kernel⟩

theorem witness_FlashQueueRuns_7 : ∃ (a : Nat) (b : Byte) (s : State), s.nvm.op = some (.byteProgram a b) :=
  ⟨28673, 0x54#8, op (.byteProgram 0x7001 0x54) active, by decide +kernel⟩

theorem witness_FlashQueueRuns_8 : ∃ (k : Nat) (ok : Bool) (s : State), s.nvm.op = some (.erase k) :=
  ⟨14, false, op (.erase 14) active, by decide +kernel⟩

theorem witness_FlashQueueRuns_9 : ∃ (o : FlashOp) (j : Job) (rest : List Job) (ok : Bool) (s : State), s.nvm.op
    = some o ∧ s.nvm.jobs = j :: rest ∧
    (match j.kind with | .rawErase _ => true | .rawProg _ _ => true | _ => false) = true ∧ j.host = true ∧
    rest.any (·.host) = false ∧ s.sys.waiting = [] ∧ s.flag .NVM_STAT_ERR = false ∧ s.nvm.jobFail = 0 :=
  ⟨Machine.FlashOp.erase 14,
    { kind := Machine.JobKind.rawErase 14, host := true, step := 0, doing := Machine.Doing.record, voiding := false, repeated := false, place := 0, seq := none },
    [], false, op (.erase 14) (jb [{ kind := .rawErase 14, host := true }] active), by decide +kernel⟩

theorem witness_FlashQueueRuns_10 : ∃ (ok : Bool) (s : State), s.nvm.op = none :=
  ⟨false, active, by decide +kernel⟩

theorem witness_FlashQueueRuns_11 : ∃ s : State, s.sys.held = false ∧ s.isFatal = false :=
  ⟨active, by decide +kernel⟩

theorem witness_FlashQueueRuns_12 : ∃ s : State, s.sys.held = false ∧ s.isFatal = true :=
  ⟨active.setFlag .FLT_STAT_FATAL true, by decide +kernel⟩

theorem witness_FlashQueueRuns_13 : ∃ s : State, s.sys.held = true :=
  ⟨State.reset, by decide +kernel⟩

theorem witness_FlashQueueRuns_14 : ∃ (j : Job) (s : State), s.mayStart = true ∧ s.nvm.jobs.find? s.canRun =
    some j ∧ nextOp j (setJobs s (j :: s.nvm.jobs.erase j)) = none ∧
    (match j.kind with | .counter _ => false | _ => true) = true ∧ j.host = false :=
  ⟨{ kind := .sectorErase 20 }, jb [{ kind := .sectorErase 20 }] active, by decide +kernel⟩

end Flash

/-! ### The store commands (15) -/

namespace Store

def nv (f : Nvm → Nvm) (s : State) : State := { s with nvm := f s.nvm }
def key (s : State) : State := (s.modPath .host (fun p => { p with nvmKey := true })).modPath (.rope 5) (fun p => { p with nvmKey := true })
def tm (s : State) : State := s.setFlag .SYS_STAT_TESTMODE true
def adr (v : Nat) (s : State) : State := s.setRegN Reg.NVM_ADDR v
def buf (i : Nat) (s : State) : State := nv (fun n => { n with buf := (List.range 64).map byte, bufIdx := i }) s
def rd (s : State) : State := s.setFlag .NVM_STAT_BUFRD true
def jrec : List Byte := recordBytes 0x310 7 [1,2,3] ++ [0x5A]
def sto (s : State) : State := nv (fun n => { n with store := writeRun erasedByte (writeRun erasedByte [] 0x1000 (headerBytes 0 1)) 0x1020 jrec }) s

theorem witness_StoreIsReachedByCommands_1 : ∃ (p : Path) (v : Nat) (s : State), (Instr.nvmAddrWrite p
    v).wellFormed = true ∧ Admits p Reg.NVM_ADDR s :=
  ⟨.host, 65535, active, by unfold Admits; decide +kernel⟩

theorem witness_StoreIsReachedByCommands_2 : ∃ (p : Path) (v : Nat) (s : State), (Instr.nvmDataAccess p (some
    v)).wellFormed = true ∧ Admits p Reg.NVM_DATA s ∧ s.nvm.bufIdx < 32 :=
  ⟨.host, 65535, active, by unfold Admits; decide +kernel⟩

theorem witness_StoreIsReachedByCommands_3 : ∃ (p : Path) (v : Nat) (s : State), (Instr.nvmDataAccess p (some
    v)).wellFormed = true ∧ Admits p Reg.NVM_DATA s ∧ 32 ≤ s.nvm.bufIdx :=
  ⟨.host, 65535, tm (key (adr 0x7FF2 (buf 32 active))), by unfold Admits; decide +kernel⟩

theorem witness_StoreIsReachedByCommands_4 : ∃ (p : Path) (s : State), okPath p = true ∧ AdmitsRead p
    Reg.NVM_DATA s ∧ s.flag .NVM_STAT_BUFRD = true ∧ s.nvm.bufIdx < 32 :=
  ⟨.host, rd (buf 3 active), by unfold AdmitsRead; decide +kernel⟩

theorem witness_StoreIsReachedByCommands_5 : ∃ (p : Path) (s : State), okPath p = true ∧ AdmitsRead p
    Reg.NVM_DATA s ∧ s.flag .NVM_STAT_BUFRD = false ∧ s.regN Reg.NVM_ADDR % 2 = 0 ∧ s.storeHeld (s.regN
    Reg.NVM_ADDR) = false ∧ s.wordErr (s.regN Reg.NVM_ADDR / 8) = none ∧ s.looseBits (s.regN Reg.NVM_ADDR) = 0 ∧
    s.looseBits (s.regN Reg.NVM_ADDR + 1) = 0 :=
  ⟨.host, active, by unfold AdmitsRead; decide +kernel⟩

theorem witness_StoreIsReachedByCommands_6 : ∃ (p : Path) (s : State), okPath p = true ∧ AdmitsRead p
    Reg.NVM_DATA s ∧ s.flag .NVM_STAT_BUFRD = false ∧ (s.regN Reg.NVM_ADDR % 2 = 1 ∨ s.storeHeld (s.regN
    Reg.NVM_ADDR) = true) :=
  ⟨.host, nv (fun n => { n with op := some (.program 0x7000 [1]) }) (adr 0x7000 active),
    by unfold AdmitsRead; decide +kernel⟩

theorem witness_StoreIsReachedByCommands_7 : ∃ (p : Path) (v : Nat) (s : State), (Instr.nvmKeyWrite p
    v).wellFormed = true ∧ Admits p Reg.NVM_KEY s :=
  ⟨.host, 65535, active, by unfold Admits; decide +kernel⟩

theorem witness_StoreIsReachedByCommands_8 : ∃ (p : Path) (a n : Nat) (s : State), okPath p = true ∧ Admits p
    Reg.NVM_CTRL s ∧ a = s.regN Reg.NVM_ADDR ∧ commandFails true (s.path p).nvmKey (s.granted p grantNvWr) s =
    none ∧ s.testMode = true ∧ 0x1000 ≤ a ∧ n = min (2 * s.nvm.bufIdx) (64 - a % 64) ∧ 0 < n ∧ s.nvm.bufIdx ≤ 32
    :=
  ⟨.host, 28672, 8, tm (key (adr 0x7000 (buf 4 active))), by unfold Admits; decide +kernel⟩

theorem witness_StoreIsReachedByCommands_9 : ∃ (p : Path) (s : State), okPath p = true ∧ Admits p Reg.NVM_CTRL s
    ∧ commandFails true (s.path p).nvmKey (s.granted p grantNvWr) s = none ∧ s.testMode = true ∧ 0x1000 ≤ s.regN
    Reg.NVM_ADDR :=
  ⟨.host, tm (key (adr 0x7000 (buf 4 active))), by unfold Admits; decide +kernel⟩

theorem witness_StoreIsReachedByCommands_10 : ∃ (p : Path) (r : Nat) (c : Instr) (s : State), okPath p = true ∧
    Admits p Reg.NVM_CTRL s ∧ (c = .prog p ∨ c = .erase p) ∧ (commandFails true (s.path p).nvmKey (s.granted p
    grantNvWr) s = some r ∨ (commandFails true (s.path p).nvmKey (s.granted p grantNvWr) s = none ∧ r = rsnProt
    ∧ (s.testMode = false ∨ s.regN Reg.NVM_ADDR < 0x1000))) :=
  ⟨.host, 2, (.prog .host), active, by unfold Admits; decide +kernel⟩

theorem witness_StoreIsReachedByCommands_11 : ∃ (p : Path) (x y : Nat) (bs : List Byte) (s : State), okPath p =
    true ∧ Admits p Reg.NVM_CTRL s ∧ commandFails false false (s.mayRead p 10) s = none ∧ s.winner (s.regN
    Reg.NVM_ADDR) = some (x, y, bs) :=
  ⟨.host, 2, 1, [0x10#8, 0x03#8, 0x07#8, 0x00#8, 0x03#8, 0x01#8, 0x02#8, 0x03#8, 0x00#8, 0x00#8, 0x00#8, 0x00#8,
    0x00#8, 0x00#8, 0x00#8, 0x00#8, 0x00#8, 0x00#8, 0x00#8, 0x00#8, 0x00#8, 0x00#8, 0x00#8, 0x00#8, 0x00#8,
    0x00#8, 0x00#8, 0x00#8, 0x00#8, 0xc6#8, 0x96#8, 0x5a#8], adr 0x310 (sto active),
    by unfold Admits; decide +kernel⟩

theorem witness_StoreIsReachedByCommands_12 : ∃ (p : Path) (r : Nat) (s : State), okPath p = true ∧ Admits p
    Reg.NVM_CTRL s ∧ (commandFails false false (s.mayRead p 10) s = some r ∨ (commandFails false false
    (s.mayRead p 10) s = none ∧ s.winner (s.regN Reg.NVM_ADDR) = none ∧ r = rsnNoItem)) :=
  ⟨.host, 4, active, by unfold Admits; decide +kernel⟩

theorem witness_StoreIsReachedByCommands_13 : ∃ (p : Path) (len : Nat) (s : State), (Instr.jwrite p
    len).wellFormed = true ∧ Admits p Reg.NVM_CTRL s ∧ commandFails true (s.path p).nvmKey (s.granted p
    grantNvWr) s = none ∧ len ≤ 24 ∧ jwriteAllowed (s.regN Reg.NVM_ADDR) = true ∧ trimBad (s.regN Reg.NVM_ADDR)
    ((padTo 64 s.nvm.buf).take len) = false :=
  ⟨.host, 24, adr 0x310 (key (buf 3 active)), by unfold Admits; decide +kernel⟩

theorem witness_StoreIsReachedByCommands_14 : ∃ (p : Path) (len r : Nat) (s : State), (Instr.jwrite p
    len).wellFormed = true ∧ Admits p Reg.NVM_CTRL s ∧ (commandFails true (s.path p).nvmKey (s.granted p
    grantNvWr) s = some r ∨ (commandFails true (s.path p).nvmKey (s.granted p grantNvWr) s = none ∧ r = rsnRange
    ∧ (24 < len ∨ jwriteAllowed (s.regN Reg.NVM_ADDR) = false ∨ trimBad (s.regN Reg.NVM_ADDR) ((padTo 64
    s.nvm.buf).take len) = true))) :=
  ⟨.host, 31, 2, active, by unfold Admits; decide +kernel⟩

theorem witness_StoreIsReachedByCommands_15 : ∃ (p : Path) (n : Nat) (s : State), (Instr.lsave p n).wellFormed =
    true ∧ Admits p Reg.NVM_CTRL s ∧ commandFails true (s.path p).nvmKey (s.granted p grantNvWr) s = none ∧ n <
    6 :=
  ⟨.host, 5, key active, by unfold Admits; decide +kernel⟩

theorem witness_StoreIsReachedByCommands_16 : ∃ (p : Path) (n : Nat) (s : State), (Instr.cinc p n).wellFormed =
    true ∧ Admits p Reg.NVM_CTRL s ∧ commandFails false false (s.granted p grantNvWr) s = none ∧ n < 4 :=
  ⟨.host, 3, active, by unfold Admits; decide +kernel⟩

theorem witness_StoreIsReachedByCommands_17 : ∃ (p : Path) (n r : Nat) (c : Instr) (s : State), okPath p = true
    ∧ n < 16 ∧ Admits p Reg.NVM_CTRL s ∧ ((c = .lsave p n ∧ (commandFails true (s.path p).nvmKey (s.granted p
    grantNvWr) s = some r ∨ (commandFails true (s.path p).nvmKey (s.granted p grantNvWr) s = none ∧ 6 ≤ n ∧ r =
    rsnRange))) ∨ (c = .cinc p n ∧ (commandFails false false (s.granted p grantNvWr) s = some r ∨ (commandFails
    false false (s.granted p grantNvWr) s = none ∧ 4 ≤ n ∧ r = rsnRange)))) :=
  ⟨.host, 7, 2, (.lsave .host 7), active, by unfold Admits; decide +kernel⟩

theorem witness_StoreIsReachedByCommands_18 : ∃ (p : Path) (a : Nat) (bad : Bool) (s : State), okPath p = true ∧
    AdmitsRead p Reg.NVM_DATA s ∧ s.flag .NVM_STAT_BUFRD = false ∧ a = s.regN Reg.NVM_ADDR ∧ a % 2 = 0 ∧
    s.storeHeld a = false ∧ s.wordErr (a / 8) = some bad ∧ Watches 4 s ∧ (bad = true → 0x1000 ≤ a) :=
  ⟨.host, 0x7000, true, adr 0x7000 (nv (fun n => { n with ecc := [0xE00], errs := [(0xE00, true)] }) active),
    by unfold AdmitsRead Watches; decide +kernel⟩

theorem witness_StoreIsReachedByCommands_19 : ∃ (p : Path) (s : State), okPath p = true ∧ AdmitsRead p
    Reg.NVM_DATA s ∧ s.flag .NVM_STAT_BUFRD = true ∧ 32 ≤ s.nvm.bufIdx :=
  ⟨.host, rd (buf 32 active), by unfold AdmitsRead; decide +kernel⟩

theorem witness_StoreIsReachedByCommands_20 : ∃ (p : Path) (s : State), okPath p = true ∧ Admits p Reg.NVM_CTRL
    s ∧ commandFails true (s.path p).nvmKey (s.granted p grantNvWr) s = none ∧ s.testMode = true ∧ 0x1000 ≤
    s.regN Reg.NVM_ADDR ∧ s.nvm.bufIdx = 0 :=
  ⟨.host, tm (key (adr 0x7000 (buf 0 active))), by unfold Admits; decide +kernel⟩

end Store

/-! ### The cairn log (16) -/

namespace Log

def nv (f : Nvm → Nvm) (s : State) : State := { s with nvm := f s.nvm }
def lg (f : Log → Log) (s : State) : State := { s with log := f s.log }
def pth (f : PathState → PathState) (s : State) : State := (s.modPath .host f).modPath (.rope 5) f
def recb (seq : Nat) : List Byte := logRecBytes (List.replicate 28 1) seq 0x5A
def sto (s : State) : State := (nv (fun n => { n with store := writeRun erasedByte (writeRun erasedByte [] 0x5000 (recb 7)) 0x5020 (recb 8) }) s).setRegN Reg.LOG_SEQ 8
def ky (s : State) : State := (nv (fun n => { n with logKey := some (List.replicate 32 7) }) s).setFlag .LOG_STAT_NOKEY false
def chal (s : State) : State := lg (fun l => { l with chal := some (.host, 5) }) (ky s)
def bk (b : Bucket) (s : State) : State := lg (fun l => { l with buckets := l.buckets.set 3 b }) s

theorem witness_LogIsReadAndCleared_1 : ∃ (g : Nat) (s : State), g < 32 ∧ (nth {} s.log.buckets g).depth ≠ 255 ∧
    (nth {} s.log.buckets g).tokens < (nth {} s.log.buckets g).depth ∧ g < s.log.buckets.length :=
  ⟨3, bk ⟨2,4,0,0,0⟩ active, by decide +kernel⟩

theorem witness_LogIsReadAndCleared_2 : ∃ (g : Nat) (s : State), g < 32 ∧ ((nth {} s.log.buckets g).depth = 255
    ∨ (nth {} s.log.buckets g).depth ≤ (nth {} s.log.buckets g).tokens) :=
  ⟨31, active, by decide +kernel⟩

theorem witness_LogIsReadAndCleared_3 : ∃ (p : Path) (s : State), okPath p = true ∧ AdmitsRead p Reg.LOG_SEQ s
    :=
  ⟨.host, active, by unfold AdmitsRead; decide +kernel⟩

theorem witness_LogIsReadAndCleared_4 : ∃ (p : Path) (i : Nat) (s : State), okPath p = true ∧ AdmitsRead p
    Reg.LOG_WIN s ∧ (s.path p).cursor.getLsbD 15 = false ∧ i = getField (s.path p).cursor 0 10 :=
  ⟨.host, 0, active, by unfold AdmitsRead; decide +kernel⟩

theorem witness_LogIsReadAndCleared_5 : ∃ (p : Path) (b i q : Nat) (s : State), okPath p = true ∧ AdmitsRead p
    Reg.LOG_WIN s ∧ (s.path p).cursor.getLsbD 15 = true ∧
    b = (match (s.path p).base with | some w => w.toNat | none => s.regN Reg.LOG_SEQ) ∧ b ≠ 0 ∧
    s.validSlots.find? (fun e => e.2 == (b + 65536 - getField (s.path p).cursor 0 10) % 65536 && !s.slotBusy
    e.1) = some (i, q) :=
  ⟨.host, 8, 0, 7, pth (fun p => { p with cursor := 0x8001 }) (sto active), by unfold AdmitsRead; decide +kernel⟩

theorem witness_LogIsReadAndCleared_6 : ∃ (p : Path) (b : Nat) (s : State), okPath p = true ∧ AdmitsRead p
    Reg.LOG_WIN s ∧ (s.path p).cursor.getLsbD 15 = true ∧
    b = (match (s.path p).base with | some w => w.toNat | none => s.regN Reg.LOG_SEQ) ∧ (b = 0 ∨
    s.validSlots.find? (fun e => e.2 == (b + 65536 - getField (s.path p).cursor 0 10) % 65536 && !s.slotBusy
    e.1) = none) :=
  ⟨.host, 0, pth (fun p => { p with cursor := 0xC001, base := some 0 }) (sto active),
    by unfold AdmitsRead; decide +kernel⟩

theorem witness_LogIsReadAndCleared_7 : ∃ (p : Path) (c : Nat) (s : State), okPath p = true ∧ AdmitsRead p
    Reg.LOG_CHAL s ∧ clearClosed p s = false ∧ c = (Config.freeBits s.free).toNat :=
  ⟨.host, (Config.freeBits (ky active).free).toNat, ky active,
    ⟨rfl, by unfold AdmitsRead; decide +kernel, by decide +kernel, rfl⟩⟩

theorem witness_LogIsReadAndCleared_8 : ∃ (p : Path) (s : State), okPath p = true ∧ AdmitsRead p Reg.LOG_CHAL s
    ∧ clearClosed p s = true :=
  ⟨.host, active, by unfold AdmitsRead; decide +kernel⟩

theorem witness_LogIsReadAndCleared_9 : ∃ (q : Path) (c : Nat) (s : State), s.log.chal = some (q, c) :=
  ⟨Path.host, 5, chal active, by decide +kernel⟩

theorem witness_LogIsReadAndCleared_10 : ∃ s : State, s.log.chal = none :=
  ⟨active, by decide +kernel⟩

theorem witness_LogIsReadAndCleared_11 : ∃ (p : Path) (token c : Nat) (k : List Byte) (s : State),
    (Instr.logClrSubmit p token).wellFormed = true ∧ Admits p Reg.LOG_CLR s ∧ clearClosed p s = false ∧
    s.log.chal = some (p, c) ∧ s.nvm.logKey = some k ∧ token = clearToken k c s.uid :=
  ⟨Path.host, 10542100777058822818, 5, [0x07#8, 0x07#8, 0x07#8, 0x07#8, 0x07#8, 0x07#8, 0x07#8, 0x07#8, 0x07#8,
    0x07#8, 0x07#8, 0x07#8, 0x07#8, 0x07#8, 0x07#8, 0x07#8, 0x07#8, 0x07#8, 0x07#8, 0x07#8, 0x07#8, 0x07#8,
    0x07#8, 0x07#8, 0x07#8, 0x07#8, 0x07#8, 0x07#8, 0x07#8, 0x07#8, 0x07#8, 0x07#8], chal active,
    by unfold Admits; decide +kernel⟩

theorem witness_LogIsReadAndCleared_12 : ∃ (p : Path) (token : Nat) (s : State), (Instr.logClrSubmit p
    token).wellFormed = true ∧ Admits p Reg.LOG_CLR s ∧ clearClosed p s = false ∧
    (match s.log.chal, s.nvm.logKey with | some (q, c), some k => q != p || token != clearToken k c s.uid | _, _ => true) = true
    :=
  ⟨.host, 65535, ky active, by unfold Admits; decide +kernel⟩

theorem witness_LogIsReadAndCleared_13 : ∃ (p : Path) (token : Nat) (s : State), (Instr.logClrSubmit p
    token).wellFormed = true ∧ Admits p Reg.LOG_CLR s ∧ clearClosed p s = true :=
  ⟨.host, 65535, active, by unfold Admits; decide +kernel⟩

theorem witness_LogIsReadAndCleared_14 : ∃ s : State, s.flag .LOG_STAT_LOCK = true :=
  ⟨((chal active).setFlag .LOG_STAT_LOCK true).setFld .LOG_CLRST_STATE 5, by decide +kernel⟩

theorem witness_LogIsReadAndCleared_15 : ∃ s : State, s.flag .LOG_STAT_LOCK = false :=
  ⟨active, by decide +kernel⟩

end Log

/-! ### The belay collector (17) -/

namespace Belay

def fl (f : Flt → Flt) (s : State) : State := { s with flt := f s.flt }
def tm (s : State) : State := s.setFlag .SYS_STAT_TESTMODE true
def fat (s : State) : State := { (s.setFlag .FLT_STAT_FATAL true) with sys := { s.sys with fatal := some (17, 2) } }
def badProt (s : State) : State := { s with sys := { s.sys with prot := defaultMap ++ [5] } }

theorem witness_ReportsAreCollected_1 : ∃ (src param p2 p3 : Nat) (s : State), (Instr.belayReport src param p2
    p3).wellFormed = true ∧ Watches src s ∧ belayClass src param ≠ clsF :=
  ⟨1, 0, 0, 0, active, by unfold Watches; decide +kernel⟩

theorem witness_ReportsAreCollected_2 : ∃ (src param p2 p3 : Nat) (s : State), (Instr.belayReport src param p2
    p3).wellFormed = true ∧ Watches src s ∧ belayClass src param = clsF ∧ s.isFatal = false :=
  ⟨2, 0, 0, 0, active, by unfold Watches; decide +kernel⟩

theorem witness_ReportsAreCollected_3 : ∃ (src param p2 p3 : Nat) (s : State), (Instr.belayReport src param p2
    p3).wellFormed = true ∧ (s.flt.busy = true ∨ s.phase ≤ 1 ∨ s.flt.ignored.contains src = true) :=
  ⟨5, 0, 0, 0, fl (fun f => { f with ignored := [5] }) active, by decide +kernel⟩

theorem witness_ReportsAreCollected_4 : ∃ (src : Nat) (high : Bool) (s : State), (Instr.wireFault src
    high).wellFormed = true ∧ Watches 21 s ∧ s.flt.ignored.contains src = false :=
  ⟨20, false, active, by unfold Watches; decide +kernel⟩

theorem witness_ReportsAreCollected_5 : ∃ (src : Nat) (high : Bool) (s : State), (Instr.wireFault src
    high).wellFormed = true ∧ s.flt.ignored.contains src = true :=
  ⟨5, false, fl (fun f => { f with ignored := [5] }) active, by decide +kernel⟩

theorem witness_ReportsAreCollected_6 : ∃ (src p p2 p3 : Nat) (rest : List (Nat × Nat × Nat)) (s : State),
    (Instr.levelRepeat src).wellFormed = true ∧ Watches src s ∧ (s.reg (Reg.FLT_ACT + src / 16)).getLsbD (src %
    16) = false ∧ levelReports s src = (p, p2, p3) :: rest :=
  ⟨2, 0, 56159, 5, [], badProt active, by unfold Watches; decide +kernel⟩

theorem witness_ReportsAreCollected_7 : ∃ (src : Nat) (s : State), (Instr.levelRepeat src).wellFormed = true ∧
    ((s.reg (Reg.FLT_ACT + src / 16)).getLsbD (src % 16) = true ∨ levelReports s src = []) :=
  ⟨21, active, by decide +kernel⟩

theorem witness_ReportsAreCollected_8 : ∃ s : State, s.sys.crystal = true ∧ Watches 18 s :=
  ⟨active, by unfold Watches; decide +kernel⟩

theorem witness_ReportsAreCollected_9 : ∃ s : State, s.sys.crystal = false :=
  ⟨{ active with sys := { active.sys with crystal := false } }, by decide +kernel⟩

theorem witness_ReportsAreCollected_10 : ∃ s : State, s.flag .SYS_STAT_LOCKED = true ∧ protCheck s.sys.prot ≠ ew
    s.sys.prot 13 ∧ Watches 2 s :=
  ⟨badProt active, by unfold Watches; decide +kernel⟩

theorem witness_ReportsAreCollected_11 : ∃ s : State, s.flag .SYS_STAT_LOCKED = false ∨ protCheck s.sys.prot =
    ew s.sys.prot 13 :=
  ⟨active, by decide +kernel⟩

theorem witness_ReportsAreCollected_12 : ∃ (p : Path) (c : Instr) (s : State), okPath p = true ∧ Admits p
    Reg.FLT_CLR s ∧ (c = .clear p ∨ c = .clearall p) :=
  ⟨.host, (.clear .host), active, by unfold Admits; decide +kernel⟩

theorem witness_ReportsAreCollected_13 : ∃ (p : Path) (src param : Nat) (c : Instr) (s : State), okPath p = true
    ∧ s.served = true ∧ s.mayWrite p 2 = true ∧ s.isFatal = true ∧ s.sys.fatal = some (src, param) ∧ src < 64 ∧
    (c = .clear p ∨ c = .clearall p) :=
  ⟨.host, 17, 2, .clearall .host, fat active, by decide +kernel⟩

theorem witness_ReportsAreCollected_14 : ∃ (p : Path) (s : State), okPath p = true ∧ s.served = true ∧
    s.mayWrite p 2 = true ∧ s.flt.injPath ≠ some p :=
  ⟨.host, active, by decide +kernel⟩

theorem witness_ReportsAreCollected_15 : ∃ s : State, s.flt.hkaRun = true ∧ Watches 20 s :=
  ⟨fl (fun f => { f with cond := [(5, 5)], ignored := [5], hkaRun := true }) active,
    by unfold Watches; decide +kernel⟩

theorem witness_ReportsAreCollected_16 : ∃ s : State, s.flt.hkaRun = false :=
  ⟨active, by decide +kernel⟩

theorem witness_ReportsAreCollected_17 : ∃ (p : Path) (s : State), okPath p = true ∧ Admits p Reg.FLT_INJ s ∧
    s.testMode = true :=
  ⟨.host, tm active, by unfold Admits; decide +kernel⟩

theorem witness_ReportsAreCollected_18 : ∃ (p : Path) (v : Nat) (s : State), (Instr.faultInject p v).wellFormed
    = true ∧ Admits p Reg.FLT_INJ s ∧ (s.testMode = false ∨ v ≠ 0x6E19) :=
  ⟨.host, 65535, active, by unfold Admits; decide +kernel⟩

theorem witness_ReportsAreCollected_19 : ∃ (p : Path) (src param : Nat) (s : State), okPath p = true ∧ s.served
    = true ∧ s.mayWrite p 2 = true ∧ s.isFatal = false ∧ s.testMode = true ∧ s.flt.injPath = some p ∧ 1 ≤ src ∧
    src ≤ 20 ∧ param < 256 ∧ Watches src s :=
  ⟨Path.host, 20, 255, fl (fun f => { f with injPath := some .host }) (tm active),
    by unfold Watches; decide +kernel⟩

theorem witness_ReportsAreCollected_20 : ∃ (p : Path) (v : Nat) (s : State), (Instr.faultInject p v).wellFormed
    = true ∧ s.served = true ∧ s.mayWrite p 2 = true ∧ s.isFatal = false ∧ s.testMode = true ∧ s.flt.injPath =
    some p ∧ (v % 64 < 1 ∨ 20 < v % 64 ∨ v / 64 % 4 = 3) :=
  ⟨Path.host, 65535, fl (fun f => { f with injPath := some .host }) (tm active), by decide +kernel⟩

theorem witness_ReportsAreCollected_21 : ∃ (p : Path) (v : Nat) (s : State), okPath p = true ∧ fits 16 v = true
    ∧ s.served = true ∧ s.mayWrite p 2 = true ∧ s.flt.injPath ≠ some p ∧ (v / 256 ≠ 0xB7 ∨ (v % 16 ≠ 1 ∧ v % 16
    ≠ 2 ∧ v % 16 ≠ 3)) :=
  ⟨.host, 0xB704, active, by decide +kernel⟩

theorem witness_ReportsAreCollected_22 : ∃ (param p2 p3 w : Nat) (s : State), (Instr.belayReport 4 param p2
    p3).wellFormed = true ∧ param % 128 < 32 ∧ p2 < 2048 ∧ belayClass 4 param ≠ clsF ∧ w = 256 * (param % 128) +
    p2 / 8 :=
  ⟨0x8E, 0, 0, 3584, active, by decide +kernel⟩

theorem witness_ReportsAreCollected_23 : ∃ (p2 p3 : Nat) (s : State), (Instr.belayReport 5 0x80 p2
    p3).wellFormed = true :=
  ⟨65535, 0, active, by decide +kernel⟩

theorem witness_ReportsAreCollected_24 : ∃ (p2 p3 : Nat) (s : State), (Instr.belayReport 5 0x81 p2
    p3).wellFormed = true :=
  ⟨65535, 0, active, by decide +kernel⟩

theorem witness_ReportsAreCollected_25 : ∃ (p : Path) (src m param : Nat) (s : State), okPath p = true ∧
    s.served = true ∧ s.mayWrite p 2 = true ∧ s.isFatal = false ∧ s.testMode = true ∧ s.flt.injPath = some p ∧ 1
    ≤ src ∧ src ≤ 20 ∧ param < 256 ∧ (m = 1 ∨ m = 2) ∧ Watches 21 s ∧ s.flt.ignored.contains src = false :=
  ⟨Path.host, 20, 2, 255, fl (fun f => { f with injPath := some .host }) (tm active),
    by unfold Watches; decide +kernel⟩

theorem witness_ReportsAreCollected_26 : ∃ (p : Path) (v : Nat) (s : State), okPath p = true ∧ fits 16 v = true
    ∧ s.served = true ∧ s.mayWrite p 2 = false ∧ s.flt.injPath ≠ some p :=
  ⟨.rope 5, 0xB701, { active with sys := { active.sys with prot := List.replicate 14 0 } }, by decide +kernel⟩

end Belay

/-! ### Temperature (17) -/

namespace Therm

def th (f : Thm → Thm) (s : State) : State := { s with thm := f s.thm }
def biv (s : State) : State := (s.setFld .SYS_STAT_STATE 3).setFld .SYS_STAT_BIVC 1
def th0 (s : State) : State := th (fun t => { t with hotRuns := [0,1,0,1], badRuns := [9,0,9,2] }) s

theorem witness_TemperatureIsHeld_1 : ∃ (a b c d hot : Int) (s : State), (Instr.thermalSample a b c
    d).wellFormed = true ∧ 1 < s.phase ∧ s.fld .THM_STAT_BRK = 0 ∧ (List.range 4).all (fun n => !sensorBad [a,
    b, c, d] [0, 1, 2, 3] n) = true ∧ hot = max (max a b) (max c d) ∧ hot < 2320 :=
  ⟨2319, 2300, 2300, 2300, 2319, active, by decide +kernel⟩

theorem witness_TemperatureIsHeld_2 : ∃ (a b c d : Int) (n : Nat) (s : State), (Instr.thermalSample a b c
    d).wellFormed = true ∧ Watches 17 s ∧ s.fld .THM_STAT_BRK = 0 ∧ (List.range 4).all (fun m => !sensorBad [a,
    b, c, d] [0, 1, 2, 3] m) = true ∧ n < 4 ∧ (∀ m, m < 4 → (2320 ≤ nth 0 [a, b, c, d] m ↔ m = n)) ∧ nth 0
    s.thm.hotRuns n = 1 ∧ s.isFatal = false ∧ s.thm.hotRuns.length = 4 :=
  ⟨2330, 2300, 2300, 2300, 0, th (fun t => { t with hotRuns := [1,0,0,0] }) active,
    by unfold Watches; decide +kernel⟩

theorem witness_TemperatureIsHeld_3 : ∃ (a b c d : Int) (n : Nat) (s : State), (Instr.thermalSample a b c
    d).wellFormed = true ∧ Watches 16 s ∧ s.fld .THM_STAT_BRK = 0 ∧ n < 4 ∧ max (max a b) (max c d) < 2320 ∧ (∀
    m, m < 4 → (sensorBad [a, b, c, d] [0, 1, 2, 3] m = true ↔ m = n)) ∧ nth 0 s.thm.badRuns n = 9 ∧
    s.thm.badRuns.length = 4 :=
  ⟨2300, 2300, 300, 2300, 2, th0 active, by unfold Watches; decide +kernel⟩

theorem witness_TemperatureIsHeld_4 : ∃ (a b c d : Int) (s : State), (Instr.thermalSample a b c d).wellFormed =
    true ∧ s.phase ≤ 1 :=
  ⟨0, 0, 0, 0, State.reset, by decide +kernel⟩

theorem witness_TemperatureIsHeld_5 : ∃ s : State, s.thm.graceRun = true ∧ s.flag .THM_STAT_REQ = true ∧ (s.mode
    = modeActive ∨ s.mode = modeReduced) :=
  ⟨th (fun t => { t with graceRun := true, coolRun := true }) ((active.setFlag .THM_STAT_REQ true).setFlag
    .THM_STAT_ENF true), by decide +kernel⟩

theorem witness_TemperatureIsHeld_6 : ∃ s : State, s.thm.graceRun = true ∧ s.flag .THM_STAT_REQ = true ∧ s.mode
    = modeBivouac ∧ s.sys.bivExit = false ∧ s.fld .SYS_STAT_BIVC ≠ bivBudget :=
  ⟨biv (th (fun t => { t with graceRun := true, coolRun := true }) ((active.setFlag .THM_STAT_REQ true))),
    by decide +kernel⟩

theorem witness_TemperatureIsHeld_7 : ∃ s : State, s.thm.graceRun = false ∨ s.flag .THM_STAT_REQ = false :=
  ⟨active, by decide +kernel⟩

theorem witness_TemperatureIsHeld_8 : ∃ s : State, s.thm.coolRun = true ∧ s.flag .THM_STAT_ENF = true ∧ (s.mode
    = modeActive ∨ s.mode = modeReduced) :=
  ⟨th (fun t => { t with graceRun := true, coolRun := true }) ((active.setFlag .THM_STAT_REQ true).setFlag
    .THM_STAT_ENF true), by decide +kernel⟩

theorem witness_TemperatureIsHeld_9 : ∃ s : State, s.thm.coolRun = false ∨ s.flag .THM_STAT_ENF = false :=
  ⟨active, by decide +kernel⟩

end Therm

end Sys2Proof.Tests
end

section
/-! Register access: REGISTER_WRITE and READ_CLEAR as one access of a path, its gates said once, and what a write or a read
of a register without a behaviour of its own leaves. -/

namespace Sys2Proof.Machine

/-! ### The answer of an access -/

/-- The state after an access of the path: its answer is kept where the path is the host port (R122). -/
def answerTo (p : Path) (st : Nat) (d : Word) (t : State) : State := if p = .host then hostAnswer st d t else t

theorem pathWrite_of_access {p : Path} {a st : Nat} {v : Word} {s t : State} (h : accessWrite p a v s = (st, t)) :
    pathWrite p a v s = answerTo p st v t := by
  rw [pathWrite, h]
  rfl

theorem pathRead_of_access {p : Path} {a : Nat} {r : Answer} {s t : State} (h : accessRead p a s = (r, t)) :
    pathRead p a s = answerTo p r.status r.data t := by
  rw [pathRead, h]
  rfl

/-- Only the host port's state may differ. -/
theorem answerTo_rest (p : Path) (st : Nat) (d : Word) (t : State) :
    answerTo p st d t = { t with host := (answerTo p st d t).host } := by
  unfold answerTo
  split <;> rfl

theorem answerTo_host_of_host {p : Path} {st : Nat} {d : Word} {t : State} (h : p = .host) :
    (answerTo p st d t).host = { t.host with answer := ⟨st, d⟩ } := by
  rw [answerTo, if_pos h, hostAnswer_host]

theorem answerTo_host_of_ne {p : Path} {st : Nat} {d : Word} {t : State} (h : p ≠ .host) :
    (answerTo p st d t).host = t.host := by
  rw [answerTo, if_neg h]

@[simp] theorem answerTo_regs (p : Path) (st : Nat) (d : Word) (t : State) : (answerTo p st d t).regs = t.regs := by
  rw [answerTo_rest]

@[simp] theorem answerTo_paths (p : Path) (st : Nat) (d : Word) (t : State) : (answerTo p st d t).paths = t.paths := by
  rw [answerTo_rest]

@[simp] theorem answerTo_stg (p : Path) (st : Nat) (d : Word) (t : State) : (answerTo p st d t).stg = t.stg := by
  rw [answerTo_rest]

@[simp] theorem answerTo_tab (p : Path) (st : Nat) (d : Word) (t : State) : (answerTo p st d t).tab = t.tab := by
  rw [answerTo_rest]

@[simp] theorem answerTo_flt (p : Path) (st : Nat) (d : Word) (t : State) : (answerTo p st d t).flt = t.flt := by
  rw [answerTo_rest]

@[simp] theorem reg_answerTo (p : Path) (st : Nat) (d : Word) (t : State) (a : Nat) :
    (answerTo p st d t).reg a = t.reg a := by
  simp [State.reg]

@[simp] theorem flag_answerTo (p : Path) (st : Nat) (d : Word) (t : State) (f : Fld) :
    (answerTo p st d t).flag f = t.flag f := by
  simp [State.flag, State.fld]

@[simp] theorem shadowReg_answerTo (p : Path) (st : Nat) (d : Word) (t : State) (a : Nat) :
    (answerTo p st d t).shadowReg a = t.shadowReg a := by
  simp [State.shadowReg]

@[simp] theorem reg_modPath (s : State) (p : Path) (f : PathState → PathState) (a : Nat) :
    (s.modPath p f).reg a = s.reg a := rfl

@[simp] theorem reg_dropKey (p : Path) (s : State) (a : Nat) : (dropKey p s).reg a = s.reg a := rfl

theorem FieldsKept.modPath {fs : List Fld} {s t : State} {p : Path} {f : PathState → PathState}
    (h : FieldsKept fs s t) : FieldsKept fs s (t.modPath p f) := h.trans (.of_regs rfl)

theorem FieldsKept.dropKey {fs : List Fld} {s t : State} {p : Path} (h : FieldsKept fs s t) :
    FieldsKept fs s (Machine.dropKey p t) := h.modPath

theorem FieldsKept.answerTo {fs : List Fld} {s t : State} {p : Path} {st : Nat} {d : Word} (h : FieldsKept fs s t) :
    FieldsKept fs s (Machine.answerTo p st d t) := h.trans (.of_regs (answerTo_regs p st d t))

/-! ### The commands as accesses -/

theorem okPath_eq_isPath (p : Path) : okPath p = isPath p := by cases p <;> rfl

theorem runs_registerWrite {p : Path} {a v : Nat} {s : State} {P : State → Prop} (hp : isPath p = true) (ha : a < 512)
    (hv : fits 16 v = true) {st : Nat} {t : State} (haccess : accessWrite p a (word v) s = (st, t))
    (h : P (answerTo p st (word v) t)) : Runs (.registerWrite p a v) s P := by
  refine ⟨_, answerIf_next.mpr ⟨?_, pathWrite_of_access haccess⟩, h⟩
  simpa [okPath_eq_isPath, hp, ha, isWord, fits] using hv

theorem runs_readClear {p : Path} {a : Nat} {s : State} {P : State → Prop} (hp : isPath p = true) (ha : a < 512)
    {r : Answer} {t : State} (haccess : accessRead p a s = (r, t)) (h : P (answerTo p r.status r.data t)) :
    Runs (.readClear p a) s P :=
  ⟨_, answerIf_next.mpr ⟨by simp [okPath_eq_isPath, hp, ha], pathRead_of_access haccess⟩, h⟩

/-! ### The gates (R84, R91, R125, R126) -/

/-- An injection that ends changes its own flag, and none that a gate looks at. -/
theorem served_disarm (s : State) : (disarm s).served = s.served := by
  unfold State.served State.isActive State.isFatal State.mode disarm
  rw [fld_setFlag_other _ _ _ _ (by decide) (by decide), flag_setFlag_other _ _ _ _ (by decide) (by decide)]
  rfl

theorem disarmBy_of_ne {p : Path} {s : State} (h : s.flt.injPath ≠ some p) (a : Nat) : disarmBy p a s = s := by
  simp [disarmBy, h]

theorem disarmBy_cases (p : Path) (a : Nat) (s : State) : disarmBy p a s = s ∨ disarmBy p a s = disarm s := by
  unfold disarmBy
  split
  · exact .inr rfl
  · exact .inl rfl

theorem served_disarmBy (p : Path) (a : Nat) (s : State) : (disarmBy p a s).served = s.served := by
  obtain h | h := disarmBy_cases p a s <;> rw [h]
  exact served_disarm s

theorem disarmBy_rest (p : Path) (a : Nat) (s : State) : disarmBy p a s =
    { s with regs := (disarmBy p a s).regs, flt := { s.flt with injPath := (disarmBy p a s).flt.injPath } } := by
  obtain h | h := disarmBy_cases p a s <;> rw [h]
  rfl

theorem fieldsKept_disarmBy (p : Path) (a : Nat) (s : State) : FieldsKept [.FLT_STAT_INJARM] s (disarmBy p a s) := by
  obtain h | h := disarmBy_cases p a s <;> rw [h]
  · exact .refl _ _
  · exact (FieldsKept.of_regs rfl).setFlag (by simp) (by decide)

/-- A write before ACTIVE, or in reset, is BUSY and has no effect (R125). -/
theorem accessWrite_unserved {p : Path} {a : Nat} {v : Word} {s : State} (h : s.served = false) :
    accessWrite p a v s = (stBusy, s) := by
  simp [accessWrite, writeGate, h]

/-- A write that the map does not grant is DENY (R84); it ends the path's injection (R653). -/
theorem accessWrite_refused {p : Path} {a : Nat} {v : Word} {s : State} (hs : s.served = true)
    (hm : s.mayWrite p (blockOf a) = false) :
    accessWrite p a v s = (stDeny, disarmBy p a (dropKey p s)) := by
  have hserved : (disarmBy p a (dropKey p s)).served = true := (served_disarmBy p a _).trans hs
  have hmay : (disarmBy p a (dropKey p s)).mayWrite p (blockOf a) = false := by rw [disarmBy_rest]; exact hm
  simp [accessWrite, writeGate, hs, hserved, hmay]

/-- A write of a staged register while a check or a commit holds the staged fields is BUSY (R125, log entry 56). -/
theorem accessWrite_staged_busy {p : Path} {a : Nat} {v : Word} {s : State} (hs : s.served = true)
    (hm : s.mayWrite p (blockOf a) = true) (hf : s.isFatal = false) (hlk : lockedReg a = false) (hst : stMask a ≠ 0)
    (hb : s.stagedBusy = true) (hi : s.flt.injPath ≠ some p) :
    accessWrite p a v s = (stBusy, dropKey p s) := by
  have hgate : writeGate p a (dropKey p s) = some stBusy := by
    change writeGate p a s = some stBusy
    simp only [writeGate, hs, hm, hf, hlk, hb, bne_iff_ne.mpr hst, Bool.not_true, Bool.false_and, Bool.and_self,
      Bool.false_eq_true, if_false, if_true]
  simp [accessWrite, hs, disarmBy_of_ne (s := dropKey p s) hi, hgate]

theorem writeGate_of_admits {p : Path} {a : Nat} {s : State} (h : Admits p a s) : writeGate p a s = none := by
  obtain ⟨hserved, hmay, hfatal, hlock, hstaged, -⟩ := h
  have hfree : (stMask a != 0 && s.stagedBusy) = false := by
    obtain h | h := hstaged <;> simp [h]
  simp only [writeGate, hserved, hmay, hfatal, hlock, hfree, Bool.not_true, Bool.false_and,
    Bool.false_eq_true, if_false]

/-- A write that no gate stops is executed. -/
theorem accessWrite_of_admits {p : Path} {a : Nat} {v : Word} {s : State} (h : Admits p a s) :
    accessWrite p a v s = executed p (writeReg p (s.path p).nvmKey a v (dropKey p s)) := by
  have hgate : writeGate p a (dropKey p s) = none := writeGate_of_admits (s := s) h
  obtain ⟨hserved, -, -, -, -, hinj⟩ := h
  simp [accessWrite, hserved, disarmBy_of_ne (s := dropKey p s) hinj, hgate]

/-- A read before ACTIVE, or in reset, is BUSY and has no effect (R125). -/
theorem accessRead_unserved {p : Path} {a : Nat} {s : State} (h : s.served = false) :
    accessRead p a s = (⟨stBusy, if alwaysReadable a then s.reg a else 0⟩, s) := by
  simp [accessRead, h]

/-- A read that the map does not grant returns 0 with DENY (R84). -/
theorem accessRead_refused {p : Path} {a : Nat} {s : State} (hs : s.served = true) (ha : alwaysReadable a = false)
    (hm : s.mayRead p (blockOf a) = false) : accessRead p a s = (⟨stDeny, 0⟩, dropKey p s) := by
  have hmay : (dropKey p s).mayRead p (blockOf a) = false := hm
  simp [accessRead, hs, ha, hmay]

/-- A read that no gate stops reads the register. -/
theorem accessRead_of_admits {p : Path} {a : Nat} {s : State} (h : AdmitsRead p a s) :
    accessRead p a s = readReg p a (dropKey p s) := by
  obtain ⟨hserved, hread⟩ := h
  have hmay : alwaysReadable a = true ∨ (dropKey p s).mayRead p (blockOf a) = true := hread
  obtain hmay | hmay := hmay <;> simp [accessRead, hserved, hmay]

/-! ### Registers whose write does what R9 says -/

/-- A write of a register without a behaviour of its own does what its access codes say. -/
theorem writeReg_eq_plainWrite {a : Nat} (hact : actingRegs.contains a = false) (hq : regQWord a = none)
    (hw : windowReg a = none) (hforce : forceSlice a = none) (hfix : fixedLoop a = none) (p : Path) (key : Bool)
    (v : Word) (s : State) : writeReg p key a v s = (0, plainWrite a v s) := by
  have hne : a ∉ actingRegs := by simpa using hact
  simp only [actingRegs, List.mem_cons, List.not_mem_nil, or_false, not_or] at hne
  have hcore : writeCore p a v s = none := by simp [writeCore, hne, hforce, hfix]
  have hrest : writeRest p key a v s = none := by simp [writeRest, hne]
  simp only [writeReg, hw, hq, hcore, hrest]

/-- The map's ST bits are bits of a 16-bit word. -/
theorem regInfo_st_lt {a : Nat} (ha : a < 512) : (regInfo a).st < 65536 := by
  revert a
  decide +kernel

theorem regInfo_st_eq_zero_iff {a : Nat} (ha : a < 512) : (regInfo a).st = 0 ↔ stMask a = 0 := by
  have hlt := regInfo_st_lt ha
  simp only [stMask, ← BitVec.toNat_inj, BitVec.toNat_ofNat, BitVec.ofNat_eq_ofNat,
    Nat.mod_eq_of_lt hlt, Nat.zero_mod]

theorem plainWrite_live {a : Nat} (ha : a < 512) (h : stMask a = 0) (v : Word) (s : State) :
    plainWrite a v s = s.setReg a (writtenWord a (s.reg a) v) :=
  if_pos ((regInfo_st_eq_zero_iff ha).mpr h)

theorem plainWrite_staged {a : Nat} (ha : a < 512) (h : stMask a ≠ 0) (v : Word) (s : State) :
    plainWrite a v s = stageReg a v (s.setReg a (writtenWord a (s.reg a) v)) :=
  if_neg (fun h0 => h ((regInfo_st_eq_zero_iff ha).mp h0))

/-- The state that an executed write of a plain register leaves, before its answer. -/
theorem accessWrite_plain {p : Path} {a : Nat} {v : Word} {s : State} (h : Admits p a s)
    (hact : actingRegs.contains a = false) (hq : regQWord a = none) (hw : windowReg a = none)
    (hforce : forceSlice a = none) (hfix : fixedLoop a = none) : accessWrite p a v s =
      (0, (plainWrite a v (dropKey p s)).modPath p (fun x => { x with readShadow := [] })) := by
  rw [accessWrite_of_admits h, writeReg_eq_plainWrite hact hq hw hforce hfix]
  rfl

/-! ### The staged part of a write (R147) -/

theorem regs_stageReg (a : Nat) (v : Word) (s : State) :
    (stageReg a v s).regs = (s.setFlag .STG_STAT_DIRTY true).regs := rfl

theorem reg_stageReg_of_ne {b : Nat} (h : Reg.STG_STAT ≠ b) (a : Nat) (v : Word) (s : State) :
    (stageReg a v s).reg b = s.reg b := reg_setFld_other _ _ _ _ h

theorem flag_dirty_stageReg (a : Nat) (v : Word) (s : State) : (stageReg a v s).flag .STG_STAT_DIRTY = true :=
  flag_setFlag_same _ _ _ (by decide) rfl

/-- The shadow shows the ST bits staged and the other bits as they stand. -/
theorem shadowReg_stageReg (a : Nat) (v : Word) (s : State) : (stageReg a v s).shadowReg a =
    ((stageReg a v s).reg a &&& ~~~(stMask a)) ||| (v &&& stMask a) := by
  have hstaged : lookupAt (stageReg a v s).stg.regs a = some (v &&& stMask a) := by
    change lookupAt (insertAt s.stg.regs a (v &&& stMask a)) a = _
    rw [lookupAt_insertAt, if_pos rfl]
  simp only [State.shadowReg, hstaged, BitVec.and_assoc, BitVec.and_self]

theorem FieldsKept.stageReg {fs : List Fld} {s t : State} {a : Nat} {v : Word} (h : FieldsKept fs s t)
    (hf : .STG_STAT_DIRTY ∈ fs) : FieldsKept fs s (Machine.stageReg a v t) :=
  (h.setFlag hf (by decide)).trans (.of_regs (regs_stageReg a v t))

/-- A staged register is none that shows the state of the staging. -/
theorem ne_STG_STAT_of_staged {a : Nat} (h : stMask a ≠ 0) : Reg.STG_STAT ≠ a := by
  rintro rfl
  exact h (by decide)

/-! ### Registers whose read does what R9 says -/

theorem plainlyRead_iff {a : Nat} : plainlyRead a = true ↔
    a ∉ showingRegs ∧ regQWord a = none ∧ windowReg a = none ∧ ¬ (Reg.LOG_WIN ≤ a ∧ a < Reg.LOG_WIN + 16) ∧
      stMask a = 0 := by
  simp [plainlyRead, and_assoc, imp_iff_not_or]

/-- A word of no wider quantity is none of the challenge's (R168). -/
theorem not_challenge_of_regQWord {a : Nat} (h : regQWord a = none) :
    ¬ (Reg.LOG_CHAL ≤ a ∧ a < Reg.LOG_CHAL + 4) := by
  simp only [regQWord, Option.map_eq_none_iff, List.find?_eq_none] at h
  simpa using h (Reg.LOG_CHAL, 4) (by decide)

theorem regView_plain {a : Nat} (h : plainlyRead a = true) (p : Path) (s : State) : s.regView p a = s.reg a := by
  obtain ⟨hshow, hq, -, hlog, hst⟩ := plainlyRead_iff.mp h
  simp only [showingRegs, List.mem_cons, List.not_mem_nil, or_false, not_or] at hshow
  have hchal := not_challenge_of_regQWord hq
  simp only [State.regView, hshow, hlog, hchal, hst, or_self, bne_self_eq_false, Bool.and_false, if_false,
    Bool.false_eq_true]

/-- A read of a plain register returns its word and clears its RC fields. -/
theorem readReg_plain {a : Nat} (h : plainlyRead a = true) (p : Path) (s : State) :
    readReg p a s = (⟨0, s.reg a⟩, readClears a s) := by
  obtain ⟨hshow, hq, hw, hlog, -⟩ := plainlyRead_iff.mp h
  simp only [showingRegs, List.mem_cons, List.not_mem_nil, or_false, not_or] at hshow
  have hchal : a ≠ Reg.LOG_CHAL := fun he => not_challenge_of_regQWord hq (by subst he; decide)
  have hwin : a ≠ Reg.LOG_WIN := fun he => hlog (by subst he; decide)
  simp only [readReg, hw, hshow, hchal, hwin, hq, if_false, regView_plain h]

theorem readClears_of_no_rc {a : Nat} (h : word (regInfo a).rc = 0) (s : State) : readClears a s = s := by
  simp only [readClears, h, if_true]

/-- What a read clears, apart from THM.MAX: nothing where there is no RC field, else the RC fields. -/
theorem readClears_cases {a : Nat} (ha : a ≠ Reg.THM_MAX) (s : State) :
    (word (regInfo a).rc = 0 ∧ readClears a s = s) ∨
      readClears a s = s.setReg a (s.reg a &&& ~~~(word (regInfo a).rc)) := by
  by_cases hrc : word (regInfo a).rc = 0
  · exact .inl ⟨hrc, readClears_of_no_rc hrc s⟩
  · exact .inr (by simp only [readClears, hrc, ha, if_false])

theorem reg_readClears {a : Nat} (ha : a ≠ Reg.THM_MAX) (s : State) :
    (readClears a s).reg a = s.reg a &&& ~~~(word (regInfo a).rc) := by
  obtain ⟨hrc, h⟩ | h := readClears_cases ha s <;> rw [h]
  · exact hrc ▸ BitVec.and_allOnes.symm
  · rw [reg_setReg_same]

theorem readClears_rest {a : Nat} (ha : a ≠ Reg.THM_MAX) (s : State) :
    readClears a s = { s with regs := (readClears a s).regs } := by
  obtain ⟨-, h⟩ | h := readClears_cases ha s <;> rw [h]
  rfl

theorem fieldsKept_readClears {a : Nat} (ha : a ≠ Reg.THM_MAX) (s : State) :
    FieldsKept [wholeReg a] s (readClears a s) := by
  obtain ⟨-, h⟩ | h := readClears_cases ha s <;> rw [h]
  · exact .refl _ _
  · exact (FieldsKept.refl _ s).setReg (by simp)

theorem accessRead_plain {p : Path} {a : Nat} {s : State} (h : AdmitsRead p a s) (hp : plainlyRead a = true) :
    accessRead p a s = (⟨0, s.reg a⟩, readClears a (dropKey p s)) := by
  rw [accessRead_of_admits h, readReg_plain hp]
  rfl

theorem ne_THM_MAX_of_plainlyRead {a : Nat} (h : plainlyRead a = true) : a ≠ Reg.THM_MAX := by
  rintro rfl
  exact absurd h (by decide)

theorem alwaysReadable_iff {a : Nat} : alwaysReadable a = true ↔ a = Reg.SYS_ID ∨ a = Reg.SYS_BOOTST := by
  simp [alwaysReadable]

/-! ### The access commands -/

/-- Settles O21: in each clause the gates say what the access answers and leaves, and the clause's values and frame follow
from the lemmas on the write, the read or the refusal. -/
theorem registersObeyTheirAccessCodes : Obligations.RegistersObeyTheirAccessCodes := by
  refine ⟨?written, ?read, ?writeDenied, ?readDenied, ?identity, ?writeBusy, ?readBusy, ?stagedBusy, ?staged⟩
  case written =>
    intro p a v s hp ha hv hadm hplain
    simp only [plainlyWritten, Bool.and_eq_true, Bool.not_eq_true', beq_iff_eq] at hplain
    obtain ⟨⟨⟨⟨⟨hact, hq⟩, hw⟩, hforce⟩, hfix⟩, hst⟩ := hplain
    refine runs_registerWrite hp ha hv (accessWrite_plain hadm hact hq hw hforce hfix) ?_
    rw [plainWrite_live ha hst]
    refine ⟨?_, ?_, answerTo_host_of_host, answerTo_host_of_ne, ?_⟩
    · rw [reg_answerTo, reg_modPath, reg_setReg_same, reg_dropKey]
    · exact ((FieldsKept.refl _ s).dropKey.setReg (by simp)).modPath.answerTo
    · rw [answerTo_regs, answerTo_paths]
      exact answerTo_rest ..
  case read =>
    intro p a s hp ha hadm hplain
    have hmax := ne_THM_MAX_of_plainlyRead hplain
    refine runs_readClear hp ha (accessRead_plain hadm hplain) ?_
    have hrest := readClears_rest hmax (dropKey p s)
    refine ⟨?_, ?_, fun h => ?_, fun h => ?_, ?_⟩
    · rw [reg_answerTo, reg_readClears hmax, reg_dropKey]
    · exact ((FieldsKept.refl _ s).dropKey.trans (fieldsKept_readClears hmax (dropKey p s))).answerTo
    · rw [answerTo_host_of_host h, hrest]
      rfl
    · rw [answerTo_host_of_ne h, hrest]
      rfl
    · rw [answerTo_regs, answerTo_paths, answerTo_rest, hrest]
      rfl
  case writeDenied =>
    intro p a v s hp ha hv hserved hmay
    have haccess := accessWrite_refused (v := word v) hserved hmay
    refine runs_registerWrite hp ha hv haccess ?_
    have hrest := disarmBy_rest p a (dropKey p s)
    refine ⟨congrArg Prod.fst haccess, fun h => ?_, fun h => ?_, fun hinj => ?_, ?_, ?_⟩
    · rw [answerTo_host_of_host h, hrest]
      rfl
    · rw [answerTo_host_of_ne h, hrest]
      rfl
    · rw [disarmBy_of_ne (s := dropKey p s) hinj, answerTo_paths]
      exact answerTo_rest ..
    · exact ((FieldsKept.refl _ s).dropKey.trans (fieldsKept_disarmBy p a (dropKey p s))).answerTo
    · rw [answerTo_regs, answerTo_paths, answerTo_flt, answerTo_rest, hrest]
      rfl
  case readDenied =>
    intro p a s hp ha hserved hid hboot hmay
    have halways : alwaysReadable a = false := by simp [alwaysReadable, hid, hboot]
    have haccess := accessRead_refused hserved halways hmay
    refine runs_readClear hp ha haccess ?_
    refine ⟨congrArg Prod.fst haccess, answerTo_host_of_host, answerTo_host_of_ne, ?_⟩
    rw [answerTo_paths]
    exact answerTo_rest ..
  case identity =>
    intro p a s hp hserved ha
    obtain ⟨ha512, hplain, hrc⟩ : a < 512 ∧ plainlyRead a = true ∧ word (regInfo a).rc = 0 := by
      obtain rfl | rfl := ha <;> decide
    have haccess := accessRead_plain (p := p) ⟨hserved, .inl (alwaysReadable_iff.mpr ha)⟩ hplain
    refine runs_readClear hp ha512 haccess ?_
    rw [readClears_of_no_rc hrc]
    refine ⟨congrArg Prod.fst haccess, answerTo_host_of_host, ?_⟩
    rw [answerTo_paths]
    exact answerTo_rest ..
  case writeBusy =>
    intro p a v s hp ha hv hserved
    exact runs_registerWrite hp ha hv (accessWrite_unserved hserved)
      ⟨answerTo_host_of_host, answerTo_host_of_ne, answerTo_rest ..⟩
  case readBusy =>
    intro p a s hp ha hserved
    refine runs_readClear hp ha (accessRead_unserved hserved) ?_
    simp only [← alwaysReadable_iff]
    exact ⟨answerTo_host_of_host, answerTo_host_of_ne, answerTo_rest ..⟩
  case stagedBusy =>
    intro p a v s hp ha hv hserved hmay hfatal hlk hst hbusy hinj
    have hlock : lockedReg a = false := by simp [lockedReg, hlk]
    refine runs_registerWrite hp ha hv (accessWrite_staged_busy hserved hmay hfatal hlock hst hbusy hinj) ?_
    refine ⟨answerTo_host_of_host, answerTo_host_of_ne, ?_⟩
    rw [answerTo_paths]
    exact answerTo_rest ..
  case staged =>
    intro p a v s hp ha hv hadm hst hact hq hw hforce hfix
    refine runs_registerWrite hp ha hv (accessWrite_plain hadm hact hq hw hforce hfix) ?_
    rw [plainWrite_staged ha hst]
    refine ⟨?_, ?_, ?_, ?_, ?_, answerTo_host_of_host, answerTo_host_of_ne, ?_⟩
    · rw [shadowReg_answerTo, reg_answerTo]
      exact shadowReg_stageReg ..
    · rw [reg_answerTo, reg_modPath, reg_stageReg_of_ne (ne_STG_STAT_of_staged hst), reg_setReg_same, reg_dropKey]
    · rw [flag_answerTo]
      exact flag_dirty_stageReg ..
    · exact (((FieldsKept.refl _ s).dropKey.setReg (by simp)).stageReg (by simp)).modPath.answerTo
    · exact answerTo_tab ..
    · rw [answerTo_regs, answerTo_paths, answerTo_stg]
      exact answerTo_rest ..

end Sys2Proof.Machine
end

section
/-! The frame of a report: which register words, and which of the collector, the supply state and the memories, an operation
may change. -/

namespace Sys2Proof.Machine

/-! ### The frame -/

/-- Outside the blocks listed, every bit of a register word that lies in none of the fields listed reads as before. -/
def RegsKept (bs : List Nat) (fs : List Fld) (s t : State) : Prop :=
  ∀ a i, blockOf a ∉ bs → (∀ f ∈ fs, f.addr = a → i < f.lo ∨ f.lo + f.width ≤ i) →
    (t.reg a).getLsbD i = (s.reg a).getLsbD i

variable {bs cs : List Nat} {fs gs : List Fld} {s t u : State}

theorem RegsKept.of_regs (h : t.regs = s.regs) : RegsKept bs fs s t := by
  intro a i _ _
  simp [State.reg, h]

theorem RegsKept.refl (s : State) : RegsKept bs fs s s := .of_regs rfl

theorem RegsKept.trans (h : RegsKept bs fs s t) (k : RegsKept bs fs t u) : RegsKept bs fs s u :=
  fun a i ha hi => (k a i ha hi).trans (h a i ha hi)

theorem RegsKept.mono (h : RegsKept bs fs s t) (hb : bs ⊆ cs) (hf : fs ⊆ gs) : RegsKept cs gs s t :=
  fun a i ha hi => h a i (fun hm => ha (hb hm)) (fun f hm => hi f (hf hm))

theorem FieldsKept.regsKept (h : FieldsKept fs s t) : RegsKept bs fs s t := fun a i _ hi => h a i hi

theorem RegsKept.blocksKept (h : RegsKept bs fs s t) (hb : bs ⊆ cs) (hf : ∀ f ∈ fs, blockOf f.addr ∈ cs) :
    BlocksKept cs s t := by
  intro a ha
  apply BitVec.eq_of_getLsbD_eq
  intro i _
  exact h a i (fun hm => ha (hb hm)) (fun f hm he => absurd (he ▸ hf f hm) ha)

/-- A write inside a block of the frame. -/
theorem RegsKept.setReg {a : Nat} {w : Word} (h : RegsKept bs fs s t) (hb : blockOf a ∈ bs) :
    RegsKept bs fs s (t.setReg a w) := by
  intro b i hbs hi
  rw [reg_setReg_other _ _ _ _ (fun he : a = b => hbs (he ▸ hb))]
  exact h b i hbs hi

/-- A field outside the frame reads as before. -/
theorem RegsKept.fld (h : RegsKept bs fs s t) {g : Fld} (hb : blockOf g.addr ∉ bs)
    (hg : fs.all (fun f => f.apart g) = true) : t.fld g = s.fld g := by
  apply Nat.eq_of_testBit_eq
  intro i
  simp only [State.fld, testBit_getField]
  by_cases hi : i < g.width
  · simp only [hi, decide_true, Bool.true_and]
    refine h _ _ hb (fun f hf he => ?_)
    have := List.all_eq_true.mp hg f hf
    simp only [Fld.apart, he, bne_self_eq_false, Bool.false_or, Bool.or_eq_true, decide_eq_true_eq] at this
    omega
  · simp [hi]

theorem RegsKept.flag (h : RegsKept bs fs s t) {g : Fld} (hb : blockOf g.addr ∉ bs)
    (hg : fs.all (fun f => f.apart g) = true) : t.flag g = s.flag g := by
  simp only [State.flag, h.fld hb hg]

theorem RegsKept.fldBit (h : RegsKept bs fs s t) {g : Fld} {n : Nat} (hb : blockOf g.addr ∉ bs)
    (hg : fs.all (fun f => f.apart g) = true) : t.fldBit g n = s.fldBit g n := by
  simp only [State.fldBit, h.fld hb hg]

/-- A register word is its whole field. -/
theorem fld_wholeReg (s : State) (a : Nat) : s.fld (wholeReg a) = s.regN a := by
  apply Nat.eq_of_testBit_eq
  intro i
  rw [State.fld, testBit_getField, Nat.zero_add]
  by_cases hi : i < 16
  · simp [hi, State.regN, BitVec.getLsbD]
  · have hlt : (s.reg a).toNat < 2 ^ i := lt_of_lt_of_le (s.reg a).isLt (Nat.pow_le_pow_right (by omega) (by omega))
    simp [hi, State.regN, Nat.testBit_lt_two_pow hlt]

theorem RegsKept.regN (h : RegsKept bs fs s t) {a : Nat} (hb : blockOf a ∉ bs)
    (hg : fs.all (fun f => f.apart (wholeReg a)) = true) : t.regN a = s.regN a := by
  simpa only [fld_wholeReg] using h.fld (g := wholeReg a) hb hg

theorem RegsKept.reg32 (h : RegsKept bs fs s t) {a : Nat} (hb : blockOf a ∉ bs ∧ blockOf (a + 1) ∉ bs)
    (hg : fs.all (fun f => f.apart (wholeReg a) && f.apart (wholeReg (a + 1))) = true) : t.reg32 a = s.reg32 a := by
  simp only [List.all_eq_true, Bool.and_eq_true] at hg
  have hlow := h.regN hb.1 (List.all_eq_true.mpr fun f hf => (hg f hf).1)
  have hhigh := h.regN hb.2 (List.all_eq_true.mpr fun f hf => (hg f hf).2)
  simp only [State.reg32, hlow, hhigh]

/-- What no block changes on its own: the supply state, the collector apart from the run of the keep-alive timer, the memories,
the tables and the descriptors held. -/
def State.kernel (s : State) :=
  (s.sys, { s.flt with hkaRun := false }, s.tab, s.nvm.store, s.nvm.ecc, s.nvm.errs, s.xfer.mem, s.xfer.ram, s.xfer.descrs)

/-- Only the register blocks and fields listed, and what is outside the kernel, may differ. -/
structure Kept (bs : List Nat) (fs : List Fld) (s t : State) : Prop where
  regs : RegsKept bs fs s t
  kernel : t.kernel = s.kernel

theorem Kept.refl (s : State) : Kept bs fs s s := ⟨.refl s, rfl⟩

theorem Kept.trans (h : Kept bs fs s t) (k : Kept bs fs t u) : Kept bs fs s u :=
  ⟨h.regs.trans k.regs, k.kernel.trans h.kernel⟩

theorem Kept.mono (h : Kept bs fs s t) (hb : bs ⊆ cs) (hf : fs ⊆ gs) : Kept cs gs s t := ⟨h.regs.mono hb hf, h.kernel⟩

theorem Kept.congr (h : Kept bs fs s t) (hr : u.regs = t.regs) (hk : u.kernel = t.kernel) : Kept bs fs s u :=
  ⟨h.regs.trans (.of_regs hr), hk.trans h.kernel⟩

theorem Kept.setReg {a : Nat} {w : Word} (h : Kept bs fs s t) (hb : blockOf a ∈ bs) : Kept bs fs s (t.setReg a w) :=
  ⟨h.regs.setReg hb, h.kernel⟩

theorem Kept.setFld {f : Fld} {v : Nat} (h : Kept bs fs s t) (hb : blockOf f.addr ∈ bs) : Kept bs fs s (t.setFld f v) :=
  h.setReg hb

theorem Kept.setFlag {f : Fld} {b : Bool} (h : Kept bs fs s t) (hb : blockOf f.addr ∈ bs) :
    Kept bs fs s (t.setFlag f b) := h.setReg hb

theorem Kept.setRegN {a v : Nat} (h : Kept bs fs s t) (hb : blockOf a ∈ bs) : Kept bs fs s (t.setRegN a v) :=
  h.setReg hb

theorem Kept.setReg32 {a v : Nat} (h : Kept bs fs s t) (hb : blockOf a ∈ bs ∧ blockOf (a + 1) ∈ bs) :
    Kept bs fs s (t.setReg32 a v) := (h.setRegN hb.1).setRegN hb.2

/-- A write of a field of the frame. -/
theorem Kept.setFlagIn {f : Fld} {b : Bool} (h : Kept bs fs s t) (hf : f ∈ fs) (hw : f.width ≤ 16) :
    Kept bs fs s (t.setFlag f b) :=
  ⟨h.regs.trans ((FieldsKept.refl fs t).setFlag hf hw).regsKept, h.kernel⟩

theorem Kept.when {c : Bool} {f : State → State} (h : Kept bs fs s t) (hf : Kept bs fs s (f t)) :
    Kept bs fs s (t.when c f) := by
  unfold State.when
  split
  · exact hf
  · exact h

theorem Kept.forEach {n : Nat} {f : Nat → State → State} (h : Kept bs fs s t)
    (hf : ∀ i u, i < n → Kept bs fs s u → Kept bs fs s (f i u)) : Kept bs fs s (Machine.forEach n f t) :=
  forEach_keeps _ f n t h hf

theorem Kept.sys (h : Kept bs fs s t) : t.sys = s.sys := congrArg (·.1) h.kernel

theorem Kept.flt (h : Kept bs fs s t) : t.flt = { s.flt with hkaRun := t.flt.hkaRun } :=
  congrArg (fun k => { k.2.1 with hkaRun := t.flt.hkaRun }) h.kernel

theorem Kept.tab (h : Kept bs fs s t) : t.tab = s.tab := congrArg (·.2.2.1) h.kernel

theorem Kept.descrs (h : Kept bs fs s t) : t.xfer.descrs = s.xfer.descrs := congrArg (·.2.2.2.2.2.2.2.2) h.kernel

theorem Kept.store (h : Kept bs fs s t) : t.nvm.store = s.nvm.store := congrArg (·.2.2.2.1) h.kernel

theorem Kept.wordErr (h : Kept bs fs s t) (w : Nat) : t.wordErr w = s.wordErr w := by
  have hecc : t.nvm.ecc = s.nvm.ecc := congrArg (·.2.2.2.2.1) h.kernel
  have herrs : t.nvm.errs = s.nvm.errs := congrArg (·.2.2.2.2.2.1) h.kernel
  rw [State.wordErr, State.wordErr, hecc, herrs]

theorem Kept.mem (h : Kept bs fs s t) : MemKept s t :=
  .of_eq h.store (congrArg (·.2.2.2.2.2.2.1) h.kernel) (congrArg (·.2.2.2.2.2.2.2.1) h.kernel)

end Sys2Proof.Machine
end

section
/-! What making a record changes (R611): the transfer engine's registers, the counters and the queues that the log and the store
show. -/

namespace Sys2Proof.Machine

/-- The blocks that show the flash queue: the store's and the log's (R607, R628). -/
def queueBlocks : List Nat := [10, 11]

/-- The blocks that making a record may change: a capture that it triggers, the counters bound to it, and the log. -/
def recordBlocks : List Nat := 9 :: queueBlocks

variable {bs : List Nat} {fs : List Fld} {s t : State}

theorem Kept.setJobs (h : Kept bs fs s t) (hb : queueBlocks ⊆ bs) (js : List Job) :
    Kept bs fs s (Machine.setJobs t js) :=
  .setFld (f := .NVM_JSTAT_QCNT) (.setFld (f := .LOG_STAT_QLOG) (.congr h rfl rfl) (hb (by decide))) (hb (by decide))

theorem Kept.addJob (h : Kept bs fs s t) (hb : queueBlocks ⊆ bs) (j : Job) : Kept bs fs s (Machine.addJob t j) := by
  unfold Machine.addJob
  split
  · exact h
  · exact h.setJobs hb _

theorem Kept.addJobHead (h : Kept bs fs s t) (hb : queueBlocks ⊆ bs) (j : Job) :
    Kept bs fs s (Machine.addJobHead t j) := by
  unfold Machine.addJobHead
  split
  · split <;> exact h.setJobs hb _
  · exact h.setJobs hb _

/-- The counters lie in block 10. -/
theorem blockOf_CNT {n : Nat} (hn : n < 8) : blockOf (Reg.CNT n) = 10 ∧ blockOf (Reg.CNT n + 1) = 10 := by
  revert n
  decide

theorem Kept.countUp (h : Kept bs fs s t) (hb : recordBlocks ⊆ bs) {n : Nat} (hn : n < 8) :
    Kept bs fs s (Machine.countUp n t) := by
  obtain ⟨hlow, hhigh⟩ := blockOf_CNT hn
  have hten : 10 ∈ bs := hb (by decide)
  exact (h.setReg32 ⟨hlow ▸ hten, hhigh ▸ hten⟩).addJob (List.subset_of_cons_subset hb) _

theorem Kept.bindCounters (h : Kept bs fs s t) (hb : recordBlocks ⊆ bs) (code : Nat) :
    Kept bs fs s (Machine.bindCounters code t) := by
  refine h.forEach fun k u hk hu => ?_
  dsimp only
  split
  · exact hu.countUp hb (by omega)
  · exact hu

theorem Kept.capTrigger (h : Kept bs fs s t) (hb : recordBlocks ⊆ bs) (cause : Nat) :
    Kept bs fs s (Machine.capTrigger cause t) := by
  unfold Machine.capTrigger
  dsimp only
  split
  · exact .setFld (f := .XFER_CAPST_STATE) (.congr h rfl rfl) (hb (by decide))
  · split
    · exact h
    · exact h.setFlag (f := .XFER_CAPST_MISSED) (hb (by decide))

theorem Kept.queueRecord (h : Kept bs fs s t) (hb : recordBlocks ⊆ bs) (r : Rec) :
    Kept bs fs s (Machine.queueRecord r t) := by
  unfold Machine.queueRecord
  dsimp only
  split
  · exact h
  split
  · exact h.addJobHead (List.subset_of_cons_subset hb) _
  split
  · exact h.setJobs (List.subset_of_cons_subset hb) _
  · exact h.setFlag (f := .LOG_STAT_LOST) (hb (by decide))

theorem Kept.takeToken (h : Kept bs fs s t) (hb : recordBlocks ⊆ bs) (code : Nat) :
    Kept bs fs s (Machine.takeToken code t).2 := by
  unfold Machine.takeToken
  dsimp only
  split
  · exact h
  split
  · exact h.congr rfl rfl
  · exact .setFlag (f := .LOG_STAT_SUPP) (.congr h rfl rfl) (hb (by decide))

theorem Kept.mkRecord (h : Kept bs fs s t) (hb : recordBlocks ⊆ bs) (code cls : Nat) (ps : List Nat) :
    Kept bs fs s (Machine.mkRecord code cls ps t) := by
  have hbound := h.bindCounters hb code
  unfold Machine.mkRecord
  dsimp only
  generalize Machine.bindCounters code t = u at hbound
  generalize hv : (if u.fld .XFER_CAP_SRC = 1 && u.fld .XFER_CAP_PARAM = code then Machine.capTrigger 1 u else u) = v
  have htriggered : Kept bs fs s v := by
    rw [← hv]
    split
    · exact hbound.capTrigger hb 1
    · exact hbound
  split
  · exact htriggered.queueRecord hb _
  split
  · exact (htriggered.takeToken hb code).queueRecord hb _
  · exact htriggered.takeToken hb code

end Sys2Proof.Machine
end

section
/-! What each loop shows (R444), and the clear state of the excitation outputs (R259). -/

namespace Sys2Proof.Machine

variable {bs : List Nat} {fs : List Fld} {s t : State}

/-! ### What a loop shows (R444) -/

/-- The registers of the loops and of their engines lie in block 7. -/
theorem blockOf_loop {n : Nat} (hn : n < 6) : blockOf (Reg.LOOP_STAT n) = 7 ∧ blockOf (Reg.LOOP_DAC n) = 7 ∧
    blockOf (Reg.VAL_STAT n) = 7 := by
  revert n
  decide

/-- The row of loop n written into its registers. -/
def shownLoop (n : Nat) (s : State) : State :=
  (((s.setFld (.LOOP_STAT_SRC n) (loopRow s n).1).setFld (.LOOP_STAT_ALMC n) (loopRow s n).2.1).setFld
    (.LOOP_STAT_ALMDIR n) (s.almDir n)).setRegN (Reg.LOOP_DAC n) (loopRow s n).2.2

/-- A re-evaluation of R444 writes the row, and EVT where it changed. -/
theorem updateLoop_cases (n : Nat) (s : State) :
    updateLoop n s = shownLoop n s ∨ updateLoop n s = (shownLoop n s).setFlag (.LOOP_STAT_EVT n) true := by
  unfold updateLoop State.when
  dsimp only
  split
  · exact .inr rfl
  · exact .inl rfl

theorem Kept.updateLoop (h : Kept bs fs s t) (hb : 7 ∈ bs) {n : Nat} (hn : n < 6) :
    Kept bs fs s (Machine.updateLoop n t) := by
  obtain ⟨hstat, hdac, -⟩ := blockOf_loop hn
  have hstat : blockOf (Reg.LOOP_STAT n) ∈ bs := hstat ▸ hb
  have hshown : Kept bs fs s (shownLoop n t) :=
    (((h.setFld (f := .LOOP_STAT_SRC n) hstat).setFld (f := .LOOP_STAT_ALMC n) hstat).setFld
      (f := .LOOP_STAT_ALMDIR n) hstat).setRegN (hdac ▸ hb)
  obtain hu | hu := updateLoop_cases n t <;> rw [hu]
  · exact hshown
  · exact hshown.setFlag (f := .LOOP_STAT_EVT n) hstat

theorem Kept.updateLoops (h : Kept bs fs s t) (hb : 7 ∈ bs) : Kept bs fs s (Machine.updateLoops t) :=
  h.forEach fun _ _ hn hu => hu.updateLoop hb hn

/-- The fields that decide which row of R444 holds on loop n. -/
def loopInputs (n : Nat) : List Fld :=
  [.LOOP_CFG_FIT n, .LOOP_CFG_ALMSRC n, .SYS_STAT_STATE, .SYS_STAT_LOCKED, .SYS_STAT_ALMPIN, .SYS_BOOTST_PHASE,
   .FLT_STAT_FATAL, .LOOP_STAT_RBF n, .LOOP_STAT_LVALM n, .LOOP_STAT_FVEXP n, .FSK_CTRL_MDROP n, .VAL_STAT_ALMREQ n,
   .SYS_BIVCFG_PARK, wholeReg (Reg.LOOP_FIXED n), wholeReg (Reg.LOOP_CLRC n), wholeReg (Reg.LOOP_PARK n)]

theorem almDir_congr {n : Nat} (h : ∀ f ∈ loopInputs n, t.fld f = s.fld f) : t.almDir n = s.almDir n := by
  simp only [loopInputs, List.forall_mem_cons] at h
  unfold State.almDir State.phase State.flag
  simp only [h]

/-- Two states that agree in the fields that R444 looks at, the loops and XCLR show the same row. -/
theorem loopRow_congr {n : Nat} (h : ∀ f ∈ loopInputs n, t.fld f = s.fld f) (hloops : t.loops = s.loops)
    (hsys : t.sys = s.sys) : loopRow t n = loopRow s n := by
  have halm := almDir_congr h
  simp only [loopInputs, List.forall_mem_cons, fld_wholeReg] at h
  unfold loopRow State.loop State.isActive State.isFatal State.inBivouac State.mode State.phase State.flag State.fldBit
  simp only [h, halm, hloops, hsys]

/-- What a re-evaluation of R444 writes, it does not look at. -/
theorem loopFields_apart {m n : Nat} (hm : m < 6) (hn : n < 6) :
    (loopInputs n).all (fun g => (loopFields m).all (fun f => f.apart g)) = true := by
  have hall : ∀ m < 6, ∀ n < 6, (loopInputs n).all (fun g => (loopFields m).all (fun f => f.apart g)) = true := by
    decide +kernel
  exact hall m hm n hn

theorem fieldsKept_updateLoop (n : Nat) (s : State) : FieldsKept (loopFields n) s (updateLoop n s) := by
  have hwidth : ∀ f ∈ loopFields n, f.width ≤ 16 := by simp [loopFields]
  have hmem : ∀ f ∈ loopFields n, ∀ t v, FieldsKept (loopFields n) s t → FieldsKept (loopFields n) s (t.setFld f v) :=
    fun f hf t v h => h.setFld hf (hwidth f hf)
  have hshown : FieldsKept (loopFields n) s (shownLoop n s) := by
    refine .setRegN (hmem _ ?_ _ _ (hmem _ ?_ _ _ (hmem _ ?_ _ _ (.refl _ s)))) ?_ <;> simp [loopFields]
  obtain hu | hu := updateLoop_cases n s <;> rw [hu]
  · exact hshown
  · exact hmem _ (by simp [loopFields]) _ _ hshown

theorem updateLoop_rest (n : Nat) (s : State) : updateLoop n s = { s with regs := (updateLoop n s).regs } := by
  obtain hu | hu := updateLoop_cases n s <;> rw [hu] <;> rfl

theorem updateLoops_rest (s : State) : updateLoops s = { s with regs := (updateLoops s).regs } := by
  refine forEach_keeps (fun t => t = { s with regs := t.regs }) updateLoop 6 s rfl fun n t _ ht => ?_
  rw [updateLoop_rest, ht]

theorem inputs_updateLoop {m n : Nat} (hm : m < 6) (hn : n < 6) (s : State) :
    ∀ g ∈ loopInputs n, (updateLoop m s).fld g = s.fld g :=
  fun g hg => (fieldsKept_updateLoop m s).fld (List.all_eq_true.mp (loopFields_apart hm hn) g hg)

theorem loopRow_updateLoop {m n : Nat} (hm : m < 6) (hn : n < 6) (s : State) :
    loopRow (updateLoop m s) n = loopRow s n ∧ (updateLoop m s).almDir n = s.almDir n := by
  have hrest := updateLoop_rest m s
  exact ⟨loopRow_congr (inputs_updateLoop hm hn s) (by rw [hrest]) (by rw [hrest]),
    almDir_congr (inputs_updateLoop hm hn s)⟩

/-- The codes of a row fit their fields SRC and ALMC (R474). -/
def RowFits (r : Nat × Nat × Nat) : Prop := r.1 < 16 ∧ r.2.1 < 8

theorem loopRow_fits (s : State) (n : Nat) : RowFits (loopRow s n) := by
  have hfits : ∀ {a b : Nat} (c : Nat), a < 16 → b < 8 → RowFits (a, b, c) := fun _ ha hb => ⟨ha, hb⟩
  unfold loopRow
  dsimp only
  cases (s.loop n).held
  all_goals
    repeat' refine iteInduction (fun _ => ?_) (fun _ => ?_)
    all_goals exact hfits _ (by decide) (by decide)

theorem almDir_lt (s : State) (n : Nat) : s.almDir n < 2 := by
  have hpin : s.fld .SYS_STAT_ALMPIN < 2 := fld_lt s .SYS_STAT_ALMPIN
  unfold State.almDir
  repeat' split
  all_goals omega

/-- Fields of one word that overlap in no bit are apart. -/
theorem apart_of_bits {f g : Fld} (h : g.lo + g.width ≤ f.lo ∨ f.lo + f.width ≤ g.lo) : f.apart g = true := by
  simp only [Fld.apart, Bool.or_eq_true, decide_eq_true_eq]
  omega

theorem fld_shownLoop (n : Nat) (s : State) :
    (shownLoop n s).fld (.LOOP_STAT_SRC n) = (loopRow s n).1 ∧
      (shownLoop n s).fld (.LOOP_STAT_ALMC n) = (loopRow s n).2.1 ∧
      (shownLoop n s).fld (.LOOP_STAT_ALMDIR n) = s.almDir n ∧
      (shownLoop n s).regN (Reg.LOOP_DAC n) = (loopRow s n).2.2 % 65536 := by
  obtain ⟨hsrc, halmc⟩ := loopRow_fits s n
  have hdac : Reg.LOOP_DAC n ≠ Reg.LOOP_STAT n := by simp
  unfold shownLoop State.setRegN
  refine ⟨?_, ?_, ?_, regN_setRegN_same _ _ _⟩
  · rw [fld_setReg_other _ _ _ _ hdac, fld_setFld_other _ _ _ _ (by simp) (apart_of_bits (by simp)),
      fld_setFld_other _ _ _ _ (by simp) (apart_of_bits (by simp)), fld_setFld_same _ _ _ (by simp)]
    exact Nat.mod_eq_of_lt hsrc
  · rw [fld_setReg_other _ _ _ _ hdac, fld_setFld_other _ _ _ _ (by simp) (apart_of_bits (by simp)),
      fld_setFld_same _ _ _ (by simp)]
    exact Nat.mod_eq_of_lt halmc
  · rw [fld_setReg_other _ _ _ _ hdac, fld_setFld_same _ _ _ (by simp)]
    exact Nat.mod_eq_of_lt (almDir_lt s n)

/-- A re-evaluation of R444 shows the row. -/
theorem loopShows_updateLoop {n : Nat} (hn : n < 6) (s : State) : LoopShows n (updateLoop n s) := by
  obtain ⟨hrow, halm⟩ := loopRow_updateLoop hn hn s
  unfold LoopShows
  rw [hrow, halm]
  obtain ⟨hsrc, halmc, hdir, hdac⟩ := fld_shownLoop n s
  obtain hu | hu := updateLoop_cases n s <;> rw [hu]
  · exact ⟨hsrc, halmc, hdir, hdac⟩
  · have hother : ∀ g : Fld, g.lo ≠ 2 → (8 ≤ g.lo) → ((shownLoop n s).setFlag (.LOOP_STAT_EVT n) true).fld g =
        (shownLoop n s).fld g := fun g _ hg => fld_setFlag_other _ _ _ _ (by simp) (apart_of_bits (.inr (by simp; omega)))
    refine ⟨(hother _ (by simp) (by simp)).trans hsrc, (hother _ (by simp) (by simp)).trans halmc,
      (hother _ (by simp) (by simp)).trans hdir, ?_⟩
    rw [← hdac, State.regN, reg_setFlag, if_neg (by simp)]
    rfl

/-- What shows a loop's row depends on nothing but the fields that R444 looks at and those that show it. -/
theorem LoopShows.congr {n : Nat} (h : LoopShows n s) (hrow : loopRow t n = loopRow s n) (hdir : t.almDir n = s.almDir n)
    (hf : ∀ f ∈ loopFields n, t.fld f = s.fld f) : LoopShows n t := by
  obtain ⟨hsrc, halmc, halmdir, hdac⟩ := h
  simp only [loopFields, List.forall_mem_cons, fld_wholeReg] at hf
  obtain ⟨fsrc, falmc, fdir, -, fdac, -⟩ := hf
  exact ⟨by rw [fsrc, hsrc, hrow], by rw [falmc, halmc, hrow], by rw [fdir, halmdir, hdir], by rw [fdac, hdac, hrow]⟩

/-- A pass over the numbers below n establishes for each of them what its own turn does and the other turns keep. -/
theorem forEach_establishes (P : Nat → State → Prop) (f : Nat → State → State) (n : Nat) (s : State)
    (hset : ∀ i t, i < n → P i (f i t)) (hkeep : ∀ i j t, i < n → j < n → i ≠ j → P j t → P j (f i t)) :
    ∀ j < n, P j (forEach n f s) := by
  induction n with
  | zero => exact fun j hj => absurd hj (Nat.not_lt_zero j)
  | succ n ih =>
    have hstep : forEach (n + 1) f s = f n (forEach n f s) := by
      simp [forEach, List.range_succ, List.foldl_append]
    intro j hj
    rw [hstep]
    by_cases hjn : j = n
    · subst hjn
      exact hset j _ hj
    · exact hkeep n j _ (by omega) hj (Ne.symm hjn) (ih (fun i t hi => hset i t (by omega))
        (fun i k t hi hk => hkeep i k t (by omega) (by omega)) j (by omega))

theorem loopFields_disjoint {m n : Nat} (hm : m < 6) (hn : n < 6) (hne : m ≠ n) :
    (loopFields n).all (fun g => (loopFields m).all (fun f => f.apart g)) = true := by
  have hall : ∀ m < 6, ∀ n < 6, m ≠ n →
      (loopFields n).all (fun g => (loopFields m).all (fun f => f.apart g)) = true := by decide +kernel
  exact hall m hm n hn hne

theorem loopShows_updateLoops (s : State) : ∀ n < 6, LoopShows n (updateLoops s) := by
  refine forEach_establishes LoopShows updateLoop 6 s (fun n t hn => loopShows_updateLoop hn t) ?_
  intro m n t hm hn hne h
  obtain ⟨hrow, halm⟩ := loopRow_updateLoop hm hn t
  exact h.congr hrow halm fun g hg =>
    (fieldsKept_updateLoop m t).fld (List.all_eq_true.mp (loopFields_disjoint hm hn hne) g hg)

/-- What changes none of the registers of SYS, of the loops and of FSK, nor the fatal state, keeps what the loops show. -/
theorem LoopShows.of_kept {n : Nat} (h : LoopShows n s) (hk : RegsKept bs fs s t) (hloops : t.loops = s.loops)
    (hsys : t.sys = s.sys) (hb : (loopInputs n ++ loopFields n).all
      (fun g => !bs.contains (blockOf g.addr) && fs.all (fun f => f.apart g)) = true) : LoopShows n t := by
  have hfld : ∀ g ∈ loopInputs n ++ loopFields n, t.fld g = s.fld g := by
    intro g hg
    have := List.all_eq_true.mp hb g hg
    simp only [Bool.and_eq_true, Bool.not_eq_true', List.contains_eq_mem, decide_eq_false_iff_not] at this
    exact hk.fld this.1 this.2
  have hin : ∀ g ∈ loopInputs n, t.fld g = s.fld g := fun g hg => hfld g (List.mem_append_left _ hg)
  exact h.congr (loopRow_congr hin hloops hsys) (almDir_congr hin) fun g hg => hfld g (List.mem_append_right _ hg)

end Sys2Proof.Machine
end

section
/-! The fatal state begins (R650, R652): what it changes beside its mark, and what it establishes. -/

namespace Sys2Proof.Machine

variable {bs : List Nat} {fs : List Fld} {s t : State}

/-! ### Parts of the state outside the frame's care -/

theorem Kept.withSeq (h : Kept bs fs s t) (q : Seq) : Kept bs fs s { t with seq := q } := h.congr rfl rfl

theorem Kept.withPwr (h : Kept bs fs s t) (p : Power) : Kept bs fs s { t with pwr := p } := h.congr rfl rfl

theorem Kept.withConns (h : Kept bs fs s t) (cs : List Conn) : Kept bs fs s { t with conns := cs } := h.congr rfl rfl

theorem Kept.modSlice (h : Kept bs fs s t) (n : Nat) (f : SliceSt → SliceSt) : Kept bs fs s (t.modSlice n f) :=
  h.congr rfl rfl

theorem Kept.modExc (h : Kept bs fs s t) (k : Nat) (f : ExcSt → ExcSt) : Kept bs fs s (t.modExc k f) := h.congr rfl rfl

theorem Kept.modEng (h : Kept bs fs s t) (n : Nat) (f : EngSt → EngSt) : Kept bs fs s (t.modEng n f) := h.congr rfl rfl

theorem Kept.modLoop (h : Kept bs fs s t) (n : Nat) (f : LoopSt → LoopSt) : Kept bs fs s (t.modLoop n f) :=
  h.congr rfl rfl

theorem Kept.setFldBit {f : Fld} {n : Nat} {b : Bool} (h : Kept bs fs s t) (hb : blockOf f.addr ∈ bs) :
    Kept bs fs s (t.setFldBit f n b) := h.setReg hb

/-! ### The engines halt -/

/-- The blocks that the beginning of the fatal state changes: the sequencer and the slices, the excitation, the loops and
engines, the transfer engine, and the queues that the log and the store show. -/
def fatalBlocks : List Nat := [4, 5, 7, 9, 10, 11]

theorem Kept.abandonSlice (h : Kept bs fs s t) (hb : 4 ∈ bs) (n : Nat) : Kept bs fs s (Machine.abandonSlice n t) :=
  (h.modSlice n _).setFldBit (f := .SLC_BUSY_BUSY) hb

theorem Kept.setUrgent (h : Kept bs fs s t) (hb : 4 ∈ bs) (q : List Occ) : Kept bs fs s (Machine.setUrgent t q) :=
  ((h.withSeq _).setFld (f := .SEQ_STAT_UQ) hb).setFlag (f := .SEQ_STAT_UWAIT) hb

theorem Kept.setFrameQ (h : Kept bs fs s t) (hb : 4 ∈ bs) (q : List (Nat × Nat × Nat × Nat)) :
    Kept bs fs s (Machine.setFrameQ t q) :=
  (h.withSeq _).setFld (f := .SEQ_QSTAT_FQFILL) hb

theorem Kept.showEngines (h : Kept bs fs s t) (hb : 7 ∈ bs) : Kept bs fs s (Machine.showEngines t) :=
  h.forEach fun _ _ hn hu => hu.setFlag (by rw [(blockOf_loop hn).2.2]; exact hb)

theorem Kept.haltEngines (h : Kept bs fs s t) (hb : fatalBlocks ⊆ bs) : Kept bs fs s (Machine.haltEngines t) := by
  have hseq : 4 ∈ bs := hb (by decide)
  have hslices := h.forEach (n := 13) (f := Machine.abandonSlice) fun n _ _ hu => hu.abandonSlice hseq n
  have hqueues := ((hslices.withSeq { (Machine.forEach 13 Machine.abandonSlice t).seq with
    timeRun := [], afterRun := [], urgentOn := none }).setUrgent hseq []).setFrameQ hseq []
  have hcycles := hqueues.forEach (n := 6) fun n _ _ hu => hu.modEng n
    (fun e => { e with cycle := none, cycleB := none, notices := [] })
  exact ((hcycles.showEngines (hb (by decide))).setFlag (f := .SEQ_STAT_RUNNING) hseq).setFlag
    (f := .XFER_STAT_RUN) (hb (by decide))

/-! ### The outputs go to their clear state -/

theorem Kept.markSupd (h : Kept bs fs s t) (k : Nat) : Kept bs fs s (Machine.markSupd k t) := by
  refine h.forEach fun n u _ hu => ?_
  split
  · exact hu.modSlice n _
  · exact hu

theorem Kept.dropConns (h : Kept bs fs s t) (p : Conn → Bool) : Kept bs fs s (Machine.dropConns t p) := h.withConns _

theorem Kept.addConns (h : Kept bs fs s t) (cs : List Conn) : Kept bs fs s (Machine.addConns t cs) := h.withConns _

theorem Kept.excClear (h : Kept bs fs s t) (hb : 5 ∈ bs) (ev k : Nat) : Kept bs fs s (Machine.excClear ev k t) :=
  ((((h.modExc k _).dropConns _).addConns _).setFldBit (f := .EXC_STAT_CLRST) hb).markSupd k

theorem Kept.excClearAll (h : Kept bs fs s t) (hb : 5 ∈ bs) (ev : Nat) : Kept bs fs s (Machine.excClearAll ev t) :=
  h.forEach fun k _ _ hu => hu.excClear hb ev k

theorem Kept.keepClearOnly (h : Kept bs fs s t) : Kept bs fs s (Machine.keepClearOnly t) := (h.dropConns _).withSeq _

/-! ### The fatal state begins -/

/-- The fatal mark and the latch of its first report (R652). -/
def markFatal (src param : Nat) (s : State) : State :=
  { s.setFlag .FLT_STAT_FATAL true with sys := { s.sys with fatal := some (s.sys.fatal.getD (src, param)) } }

/-- What the fatal state's beginning leaves before the queue and the loops follow it. -/
def fatalCleared (src param : Nat) (s : State) : State :=
  keepClearOnly (excClearAll evFatal (haltEngines (markFatal src param s)))

theorem enterFatal_eq (src param : Nat) (s : State) : enterFatal src param s =
    updateLoops (setJobs (fatalCleared src param s) (fatalJobs (fatalCleared src param s))) := rfl

/-- The queue and the loops follow. -/
theorem Kept.enterFatal_of_cleared {src param : Nat} (h : Kept bs fs s (fatalCleared src param t))
    (hb : 7 :: queueBlocks ⊆ bs) : Kept bs fs s (Machine.enterFatal src param t) := by
  rw [enterFatal_eq]
  exact (h.setJobs (List.subset_of_cons_subset hb) _).updateLoops (hb List.mem_cons_self)

/-- The beginning of the fatal state, beside its mark. -/
theorem Kept.enterFatal {src param : Nat} (h : Kept bs fs s (markFatal src param t)) (hb : fatalBlocks ⊆ bs) :
    Kept bs fs s (Machine.enterFatal src param t) := by
  have hcleared := ((h.haltEngines hb).excClearAll (hb (by decide)) evFatal).keepClearOnly
  exact Kept.enterFatal_of_cleared hcleared (fun _ ha => hb ((by decide : 7 :: queueBlocks ⊆ fatalBlocks) ha))

/-! ### What it establishes -/

theorem fldBit_setFldBit (s : State) (f : Fld) (n m : Nat) (b : Bool) (hn : n < f.width) (hm : m < f.width)
    (hf : f.lo + f.width ≤ 16) : (s.setFldBit f n b).fldBit f m = if m = n then b else s.fldBit f m := by
  have hbit : (if b = true then 1 else 0 : Nat).testBit 0 = b := by cases b <;> rfl
  simp only [State.fldBit, State.setFldBit, State.fld, reg_setFlag, if_true, testBit_getField, hm, decide_true,
    Bool.true_and, getLsbD_putField _ _ _ _ _ (Nat.le_of_ble_eq_true rfl : 1 ≤ 16)]
  by_cases hmn : m = n
  · subst hmn
    rw [if_pos (by omega), if_pos rfl, Nat.sub_self, hbit]
  · rw [if_neg (by omega), if_neg hmn]

theorem fldBit_excClear_same (ev : Nat) {k : Nat} (hk : k < 4) (s : State) :
    (excClear ev k s).fldBit .EXC_STAT_CLRST k = true := by
  unfold excClear
  dsimp only
  rw [((Kept.refl (bs := []) (fs := []) _).markSupd k).regs.fldBit (by simp) (by simp),
    fldBit_setFldBit _ _ _ _ _ hk hk (by simp), if_pos rfl]

theorem fldBit_excClear_other (ev : Nat) {j k : Nat} (hj : j < 4) (hk : k < 4) (hne : k ≠ j) (s : State) :
    (excClear ev k s).fldBit .EXC_STAT_CLRST j = s.fldBit .EXC_STAT_CLRST j := by
  unfold excClear
  dsimp only
  rw [((Kept.refl (bs := []) (fs := []) _).markSupd k).regs.fldBit (by simp) (by simp),
    fldBit_setFldBit _ _ _ _ _ hk hj (by simp), if_neg hne.symm]
  rfl

/-- Every output is in its clear state after it is sent there. -/
theorem fldBit_excClearAll (ev : Nat) (s : State) : ∀ k < 4, (excClearAll ev s).fldBit .EXC_STAT_CLRST k = true :=
  forEach_establishes (fun k t => t.fldBit .EXC_STAT_CLRST k = true) (excClear ev) 4 s
    (fun _ t hk => fldBit_excClear_same ev hk t)
    (fun _ _ t hk hj hne h => (fldBit_excClear_other ev hj hk hne t).trans h)

theorem flags_haltEngines (s : State) : (haltEngines s).flag .SEQ_STAT_RUNNING = false ∧
    (haltEngines s).flag .XFER_STAT_RUN = false := by
  unfold haltEngines
  dsimp only
  constructor
  · rw [flag_setFlag_other _ _ _ _ (by decide) (by decide), flag_setFlag_same _ _ _ (by decide) rfl]
  · rw [flag_setFlag_same _ _ _ (by decide) rfl]

theorem setJobs_conns (s : State) (js : List Job) : (setJobs s js).conns = s.conns := rfl

theorem updateLoops_conns (s : State) : (updateLoops s).conns = s.conns := by rw [updateLoops_rest]

/-- Only the clear connections stay closed. -/
theorem owner_of_mem_keepClearOnly {s : State} {c : Conn} (h : c ∈ (keepClearOnly s).conns) :
    100 ≤ c.owner ∧ c.owner < 104 := by
  have hkeeps := (List.mem_filter.mp h).2
  simpa using hkeeps

/-- What holds once the fatal state has begun (R650). -/
theorem enterFatal_establishes (src param : Nat) (s : State) :
    (enterFatal src param s).flag .SEQ_STAT_RUNNING = false ∧ (enterFatal src param s).flag .XFER_STAT_RUN = false ∧
      (∀ k, k < 4 → (enterFatal src param s).fldBit .EXC_STAT_CLRST k = true) ∧
      (∀ n, n < 6 → LoopShows n (enterFatal src param s)) ∧
      (∀ c, c ∈ (enterFatal src param s).conns → 100 ≤ c.owner ∧ c.owner < 104) := by
  have hhalted := (((Kept.refl (bs := [5, 7, 10, 11]) (fs := []) (haltEngines (markFatal src param s))).excClearAll
    (by decide) evFatal).keepClearOnly.enterFatal_of_cleared (by decide)).regs
  have hclear := (((Kept.refl (bs := [7, 10, 11]) (fs := []) (excClearAll evFatal (haltEngines (markFatal src param s)))
    ).keepClearOnly).enterFatal_of_cleared (by decide)).regs
  obtain ⟨hseq, hxfer⟩ := flags_haltEngines (markFatal src param s)
  refine ⟨(hhalted.flag (by decide) rfl).trans hseq, (hhalted.flag (by decide) rfl).trans hxfer,
    fun k hk => (hclear.fldBit (by decide) rfl).trans (fldBit_excClearAll evFatal _ k hk),
    fun n hn => enterFatal_eq src param s ▸ loopShows_updateLoops _ n hn, fun c hc => ?_⟩
  rw [enterFatal_eq, updateLoops_conns, setJobs_conns] at hc
  exact owner_of_mem_keepClearOnly hc

end Sys2Proof.Machine
end

section
/-! A report that the collector accepts (R641, R643, R644): what it latches and counts, and what of it a later change keeps. -/

namespace Sys2Proof.Machine

variable {bs : List Nat} {fs : List Fld} {s t u : State}

/-! ### What an accepted report shows -/

/-- A report of a source was latched and counted between two states: its source is active, the first of all is kept, the worst
class, NEW and the counts follow its class. -/
structure Latched (src param cls : Nat) (inj : Bool) (s t : State) : Prop where
  busy : t.flt.busy = true
  act : t.fldBit ⟨Reg.FLT_ACT + src / 16, 0, 16⟩ (src % 16) = true
  first : s.reg32 Reg.FLT_FIRST = 0 → t.reg32 Reg.FLT_FIRST =
    src + 256 * (param % 256) + 65536 * cls + (if inj then 524288 else 0)
  later : s.reg32 Reg.FLT_FIRST ≠ 0 → t.reg32 Reg.FLT_FIRST = s.reg32 Reg.FLT_FIRST ∧ t.flag .FLT_STAT_OVF = true
  worst : t.fld .FLT_STAT_WCLASS = max (s.fld .FLT_STAT_WCLASS) (wclassOf cls)
  new : clsU ≤ cls → t.flag .FLT_STAT_NEW = true
  ccnt : t.fld .FLT_CCNT_COUNT =
    (if cls = clsC then min (s.fld .FLT_CCNT_COUNT + 1) 65535 else s.fld .FLT_CCNT_COUNT)
  ucnt : t.fld .FLT_UCNT_COUNT =
    (if cls = clsU then min (s.fld .FLT_UCNT_COUNT + 1) 65535 else s.fld .FLT_UCNT_COUNT)

/-- The words of FLT.ACT. -/
def actWords : List Fld :=
  [wholeReg Reg.FLT_ACT, wholeReg (Reg.FLT_ACT + 1), wholeReg (Reg.FLT_ACT + 2), wholeReg (Reg.FLT_ACT + 3)]

/-- The word of FLT.ACT that holds a source's bit is one of the four. -/
theorem actWords_mem {src : Nat} (h : src < 64) : wholeReg (Reg.FLT_ACT + src / 16) ∈ actWords := by
  have hword : src / 16 < 4 := by omega
  generalize src / 16 = k at hword
  have hall : ∀ k < 4, wholeReg (Reg.FLT_ACT + k) ∈ actWords := by decide
  exact hall k hword

/-- The fields in which a report is latched and counted. -/
def latchFields : List Fld :=
  [wholeReg Reg.FLT_FIRST, wholeReg (Reg.FLT_FIRST + 1), .FLT_STAT_OVF, .FLT_STAT_WCLASS, .FLT_STAT_NEW, .FLT_CCNT_COUNT,
   .FLT_UCNT_COUNT] ++ actWords

theorem actWord_mem {src : Nat} (h : src < 64) : wholeReg (Reg.FLT_ACT + src / 16) ∈ latchFields :=
  List.mem_append_right _ (actWords_mem h)

/-- Outside the frame, every field in which a report is latched reads as before. -/
theorem RegsKept.latchFields (h : RegsKept bs fs s t) (hb : 2 ∉ bs)
    (hf : Machine.latchFields.all (fun g => fs.all (fun f => f.apart g)) = true) : ∀ g ∈ Machine.latchFields, t.fld g = s.fld g := by
  have htwo : ∀ g ∈ Machine.latchFields, blockOf g.addr = 2 := by decide
  exact fun g hg => h.fld (by rw [htwo g hg]; exact hb) (List.all_eq_true.mp hf g hg)

theorem reg32_FLT_FIRST_congr (h : ∀ g ∈ latchFields, t.fld g = s.fld g) : t.reg32 Reg.FLT_FIRST = s.reg32 Reg.FLT_FIRST := by
  have hlow := h (wholeReg Reg.FLT_FIRST) (by decide)
  have hhigh := h (wholeReg (Reg.FLT_FIRST + 1)) (by decide)
  rw [fld_wholeReg, fld_wholeReg] at hlow hhigh
  rw [State.reg32, State.reg32, hlow, hhigh]

/-- What a change leaves of the latched report's fields, it leaves of the report. -/
theorem Latched.congr {src param cls : Nat} {inj : Bool} (hsrc : src < 64) (h : Latched src param cls inj s t)
    (hf : ∀ g ∈ latchFields, u.fld g = t.fld g) (hbusy : u.flt.busy = true) : Latched src param cls inj s u where
  busy := hbusy
  act := by
    have hact := h.act
    rwa [State.fldBit, ← hf _ (actWord_mem hsrc)] at hact
  first := fun h0 => (reg32_FLT_FIRST_congr hf).trans (h.first h0)
  later := fun h0 => ⟨(reg32_FLT_FIRST_congr hf).trans (h.later h0).1, by
    rw [State.flag, hf .FLT_STAT_OVF (by decide)]; exact (h.later h0).2⟩
  worst := (hf _ (by decide)).trans h.worst
  new := fun hcls => by rw [State.flag, hf .FLT_STAT_NEW (by decide)]; exact h.new hcls
  ccnt := (hf _ (by decide)).trans h.ccnt
  ucnt := (hf _ (by decide)).trans h.ucnt

/-- What a change before the report leaves of the fields, it leaves of the report. -/
theorem Latched.congr_left {src param cls : Nat} {inj : Bool} (h : Latched src param cls inj t u)
    (hf : ∀ g ∈ latchFields, t.fld g = s.fld g) : Latched src param cls inj s u where
  busy := h.busy
  act := h.act
  first := fun h0 => h.first ((reg32_FLT_FIRST_congr hf).trans h0)
  later := fun h0 => reg32_FLT_FIRST_congr hf ▸ h.later (fun h1 => h0 ((reg32_FLT_FIRST_congr hf) ▸ h1))
  worst := by rw [h.worst, hf .FLT_STAT_WCLASS (by decide)]
  new := h.new
  ccnt := by rw [h.ccnt, hf .FLT_CCNT_COUNT (by decide)]
  ucnt := by rw [h.ucnt, hf .FLT_UCNT_COUNT (by decide)]

theorem Latched.reported {src param cls : Nat} (h : Latched src param cls false s t)
    (hpins : clsU ≤ cls → t.flag .FLT_STAT_FLTHS = true) : Reported src param cls s t :=
  ⟨h.busy, h.act, h.first, h.later, h.worst, fun hcls => ⟨h.new hcls, hpins hcls⟩⟩

/-! ### The steps of latching -/

/-- The collector is busy, and the source's bit is set. -/
def markSource (src : Nat) (s : State) : State :=
  { s with flt := { s.flt with busy := true } }.setFldBit ⟨Reg.FLT_ACT + src / 16, 0, 16⟩ (src % 16) true

/-- The first report is kept, a later one overflows. -/
def keepFirst (first : Prop) [Decidable first] (cls src param : Nat) (inj : Bool) (s : State) : State :=
  if first then s.setReg32 Reg.FLT_FIRST (src + 256 * (param % 256) + 65536 * cls + (if inj then 524288 else 0))
  else s.setFlag .FLT_STAT_OVF true

/-- A report of class C or U is counted. -/
def countReport (cls : Nat) (s : State) : State :=
  if cls = clsC then s.incFld .FLT_CCNT_COUNT else if cls = clsU then s.incFld .FLT_UCNT_COUNT else s

/-- The worst class, and NEW from class U on. -/
def showClass (cls : Nat) (s : State) : State :=
  (s.setFld .FLT_STAT_WCLASS (max (s.fld .FLT_STAT_WCLASS) (wclassOf cls))).when (clsU ≤ cls)
    (fun t => t.setFlag .FLT_STAT_NEW true)

/-- The state in which an accepted report is latched and counted, before its record. -/
def latched (cls src param : Nat) (inj : Bool) (s : State) : State :=
  showClass cls (countReport cls (keepFirst (s.reg32 Reg.FLT_FIRST = 0) cls src param inj (markSource src s)))

/-- The record of a report (R644); none in the fatal state. -/
def noted (cls src param p2 p3 : Nat) (inj : Bool) (s : State) : State :=
  if s.isFatal then latched cls src param inj s
  else mkRecord (0x100 + src) cls
    [param, (if inj then 1 else 0) + (if s.reg32 Reg.FLT_FIRST = 0 then 2 else 0), p2, p3] (latched cls src param inj s)

/-- The fatal state begins, and CNT[2] counts it at once (R643, R650). -/
def beginFatal (src param : Nat) (s : State) : State :=
  (enterFatal src param s).setReg32 (Reg.CNT 2) ((s.reg32 (Reg.CNT 2) + 1) % 4294967296)

/-- The collector takes a report while it is idle and watches the source. -/
theorem acceptReport_of_watches {cls src param p2 p3 : Nat} {inj : Bool} (h : Watches src s) :
    acceptReport cls src param p2 p3 inj s = driveFaultPins
      (if cls = clsF && !s.isFatal then beginFatal src param (noted cls src param p2 p3 inj s)
       else noted cls src param p2 p3 inj s) := by
  obtain ⟨hbusy, hphase, hign⟩ := h
  have hidle : (s.flt.busy || decide (s.phase ≤ 1) || s.flt.ignored.contains src) = false := by
    simp only [hbusy, hign, Bool.false_or, Bool.or_false, decide_eq_false_iff_not]
    omega
  unfold acceptReport
  rw [hidle]
  rfl

/-- Else the report is lost (R642). -/
theorem acceptReport_lost {cls src param p2 p3 : Nat} {inj : Bool}
    (h : s.flt.busy = true ∨ s.phase ≤ 1 ∨ s.flt.ignored.contains src = true) :
    acceptReport cls src param p2 p3 inj s = s := by
  have hlost : (s.flt.busy || decide (s.phase ≤ 1) || s.flt.ignored.contains src) = true := by
    simpa only [Bool.or_eq_true, decide_eq_true_eq, or_assoc] using h
  unfold acceptReport
  rw [hlost]
  rfl

theorem acceptReport_of_not_watches {cls src param p2 p3 : Nat} {inj : Bool} (h : ¬ Watches src s) :
    acceptReport cls src param p2 p3 inj s = s := by
  apply acceptReport_lost
  by_contra hno
  simp only [not_or, Bool.not_eq_true] at hno
  exact h ⟨hno.1, by omega, hno.2.2⟩

end Sys2Proof.Machine
end

section
/-! What latching leaves, step by step, and the collector's whole reaction. -/

namespace Sys2Proof.Machine

variable {bs : List Nat} {fs : List Fld} {s t u : State}

/-! ### Quantities of two words -/

theorem regN_lt (s : State) (a : Nat) : s.regN a < 65536 := (s.reg a).isLt

theorem reg32_lt (s : State) (a : Nat) : s.reg32 a < 4294967296 := by
  have hlow := regN_lt s a
  have hhigh := regN_lt s (a + 1)
  unfold State.reg32
  omega

/-- A two-word quantity reads what was written, as far as its 32 bits go. -/
theorem reg32_setReg32 (s : State) (a v : Nat) : (s.setReg32 a v).reg32 a = v % 4294967296 := by
  have hlow : (s.setReg32 a v).regN a = v % 65536 := by
    rw [State.setReg32, State.regN, reg_setRegN, if_neg (by omega)]
    exact (regN_setRegN_same s a (v % 65536)).trans (Nat.mod_mod _ _)
  have hhigh : (s.setReg32 a v).regN (a + 1) = v / 65536 % 65536 := regN_setRegN_same _ _ _
  rw [State.reg32, hlow, hhigh]
  omega

/-! ### The steps of latching -/

theorem fieldsKept_markSource (src : Nat) (s : State) :
    FieldsKept [wholeReg (Reg.FLT_ACT + src / 16)] s (markSource src s) := by
  have hset := reg_setReg_other { s with flt := { s.flt with busy := true } } (Reg.FLT_ACT + src / 16)
  intro a i hi
  have hne : Reg.FLT_ACT + src / 16 ≠ a ∨ 16 ≤ i := by
    by_cases ha : Reg.FLT_ACT + src / 16 = a
    · have := hi _ List.mem_cons_self ha
      simp only [Nat.not_lt_zero, false_or, Nat.zero_add] at this
      exact .inr this
    · exact .inl ha
  obtain hne | hge := hne
  · exact congrArg (·.getLsbD i) (hset a _ hne)
  · rw [BitVec.getLsbD_of_ge _ _ hge, BitVec.getLsbD_of_ge _ _ hge]

theorem fldBit_markSource (src : Nat) (s : State) :
    (markSource src s).fldBit ⟨Reg.FLT_ACT + src / 16, 0, 16⟩ (src % 16) = true := by
  have hbit : src % 16 < 16 := Nat.mod_lt _ (by decide)
  unfold markSource
  rw [fldBit_setFldBit _ _ _ _ _ hbit hbit (by simp), if_pos rfl]

theorem fieldsKept_keepFirst (first : Prop) [Decidable first] (cls src param : Nat) (inj : Bool) (s : State) :
    FieldsKept [wholeReg Reg.FLT_FIRST, wholeReg (Reg.FLT_FIRST + 1), .FLT_STAT_OVF] s
      (keepFirst first cls src param inj s) := by
  unfold keepFirst
  split
  · exact (FieldsKept.refl _ s).setReg32 (by simp) (by simp)
  · exact (FieldsKept.refl _ s).setFlag (by simp) (by decide)

theorem fieldsKept_countReport (cls : Nat) (s : State) :
    FieldsKept [.FLT_CCNT_COUNT, .FLT_UCNT_COUNT] s (countReport cls s) := by
  unfold countReport State.incFld
  split
  · exact (FieldsKept.refl _ s).setFld (by simp) (by decide)
  split
  · exact (FieldsKept.refl _ s).setFld (by simp) (by decide)
  · exact .refl _ s

theorem fieldsKept_showClass (cls : Nat) (s : State) :
    FieldsKept [.FLT_STAT_WCLASS, .FLT_STAT_NEW] s (showClass cls s) := by
  have hworst := (FieldsKept.refl [.FLT_STAT_WCLASS, .FLT_STAT_NEW] s).setFld (f := .FLT_STAT_WCLASS)
    (v := max (s.fld .FLT_STAT_WCLASS) (wclassOf cls)) (by simp) (by decide)
  unfold showClass State.when
  split
  · exact hworst.setFlag (by simp) (by decide)
  · exact hworst

/-- Latching changes the source's word of ACT and the fields after it in the collector's block. -/
theorem fieldsKept_latched {cls src param : Nat} {inj : Bool} (hsrc : src < 64) (s : State) :
    FieldsKept latchFields s (latched cls src param inj s) := by
  have hmark := (fieldsKept_markSource src s).mono (gs := latchFields) (by simpa using actWord_mem hsrc)
  have hfirst := hmark.trans ((fieldsKept_keepFirst (s.reg32 Reg.FLT_FIRST = 0) cls src param inj _).mono (by decide))
  have hcount := hfirst.trans ((fieldsKept_countReport cls _).mono (by decide))
  exact hcount.trans ((fieldsKept_showClass cls _).mono (by decide))

theorem keepFirst_rest (first : Prop) [Decidable first] (cls src param : Nat) (inj : Bool) (s : State) :
    keepFirst first cls src param inj s = { s with regs := (keepFirst first cls src param inj s).regs } := by
  unfold keepFirst
  split <;> rfl

theorem countReport_rest (cls : Nat) (s : State) : countReport cls s = { s with regs := (countReport cls s).regs } := by
  unfold countReport
  repeat' split
  all_goals rfl

theorem showClass_rest (cls : Nat) (s : State) : showClass cls s = { s with regs := (showClass cls s).regs } := by
  unfold showClass State.when
  split <;> rfl

theorem latched_rest (cls src param : Nat) (inj : Bool) (s : State) : latched cls src param inj s =
    { s with regs := (latched cls src param inj s).regs, flt := { s.flt with busy := true } } := by
  rw [latched, showClass_rest, countReport_rest, keepFirst_rest]
  rfl

theorem fld_countReport (cls : Nat) (s : State) :
    (countReport cls s).fld .FLT_CCNT_COUNT =
        (if cls = clsC then min (s.fld .FLT_CCNT_COUNT + 1) 65535 else s.fld .FLT_CCNT_COUNT) ∧
      (countReport cls s).fld .FLT_UCNT_COUNT =
        (if cls = clsU then min (s.fld .FLT_UCNT_COUNT + 1) 65535 else s.fld .FLT_UCNT_COUNT) := by
  have hsame : ∀ f : Fld, f.lo = 0 → f.width = 16 → (s.incFld f).fld f = min (s.fld f + 1) 65535 := by
    intro f hlo hw
    rw [State.incFld, fld_setFld_same _ _ _ (by omega), hw]
    omega
  have hother : ∀ f g : Fld, f.width = 16 → f.apart g = true → (s.incFld f).fld g = s.fld g :=
    fun f g hw hg => fld_setFld_other _ _ _ _ (by omega) hg
  unfold countReport
  split
  · rename_i hc
    subst hc
    exact ⟨by rw [hsame _ rfl rfl], by rw [hother _ _ rfl (by decide), if_neg (by decide)]⟩
  split
  · exact ⟨hother _ _ rfl (by decide), hsame _ rfl rfl⟩
  · exact ⟨rfl, rfl⟩

theorem fld_showClass {cls : Nat} (hcls : cls ≤ clsF) (s : State) :
    (showClass cls s).fld .FLT_STAT_WCLASS = max (s.fld .FLT_STAT_WCLASS) (wclassOf cls) ∧
      (clsU ≤ cls → (showClass cls s).flag .FLT_STAT_NEW = true) := by
  have hlt : s.fld .FLT_STAT_WCLASS < 4 := fld_lt s .FLT_STAT_WCLASS
  have hle : wclassOf cls ≤ 3 := by
    have : cls ≤ 4 := hcls
    unfold wclassOf
    omega
  have hworst : (s.setFld .FLT_STAT_WCLASS (max (s.fld .FLT_STAT_WCLASS) (wclassOf cls))).fld .FLT_STAT_WCLASS =
      max (s.fld .FLT_STAT_WCLASS) (wclassOf cls) := by
    rw [fld_setFld_same _ _ _ (by decide)]
    exact Nat.mod_eq_of_lt (by change _ < 4; omega)
  unfold showClass State.when
  split
  · exact ⟨(fld_setFlag_other _ _ _ _ (by decide) (by decide)).trans hworst,
      fun _ => flag_setFlag_same _ _ _ (by decide) rfl⟩
  · rename_i hno
    exact ⟨hworst, fun h => absurd (decide_eq_true h) hno⟩

theorem keepFirst_first (cls src param : Nat) (inj : Bool) (hsrc : src < 64) (hcls : cls ≤ clsF) (first : Prop)
    [Decidable first] (hfirst : first) (s : State) : (keepFirst first cls src param inj s).reg32 Reg.FLT_FIRST =
      src + 256 * (param % 256) + 65536 * cls + (if inj then 524288 else 0) := by
  have hparam : param % 256 < 256 := Nat.mod_lt _ (by decide)
  have hcls : cls ≤ 4 := hcls
  rw [keepFirst, if_pos hfirst, reg32_setReg32]
  apply Nat.mod_eq_of_lt
  split <;> omega

theorem keepFirst_later (cls src param : Nat) (inj : Bool) (first : Prop) [Decidable first] (hlater : ¬ first)
    (s : State) : (keepFirst first cls src param inj s).reg32 Reg.FLT_FIRST = s.reg32 Reg.FLT_FIRST ∧
      (keepFirst first cls src param inj s).flag .FLT_STAT_OVF = true := by
  rw [keepFirst, if_neg hlater]
  exact ⟨((FieldsKept.refl [.FLT_STAT_OVF] s).setFlag (by simp) (by decide)).regsKept (bs := []) |>.reg32 (by decide)
    (by decide), flag_setFlag_same _ _ _ (by decide) rfl⟩

/-- Setting the source's bit changes no other field in which a report is latched. -/
theorem fld_markSource {src : Nat} (hsrc : src < 64) (s : State) {g : Fld} (hg : g ∈ latchFields.take 7) :
    (markSource src s).fld g = s.fld g := by
  have hall : ∀ k < 4, ∀ g ∈ latchFields.take 7, (wholeReg (Reg.FLT_ACT + k)).apart g = true := by decide
  refine (fieldsKept_markSource src s).fld ?_
  simpa using hall (src / 16) (by omega) g hg

theorem reg32_FIRST_markSource {src : Nat} (hsrc : src < 64) (s : State) :
    (markSource src s).reg32 Reg.FLT_FIRST = s.reg32 Reg.FLT_FIRST := by
  have hlow := fld_markSource hsrc s (g := wholeReg Reg.FLT_FIRST) (by decide)
  have hhigh := fld_markSource hsrc s (g := wholeReg (Reg.FLT_FIRST + 1)) (by decide)
  rw [fld_wholeReg, fld_wholeReg] at hlow hhigh
  rw [State.reg32, State.reg32, hlow, hhigh]

/-- Latching latches and counts the report. -/
theorem latched_latched {cls src param : Nat} {inj : Bool} (hsrc : src < 64) (hcls : cls ≤ clsF) (s : State) :
    Latched src param cls inj s (latched cls src param inj s) := by
  have hbit := fldBit_markSource src s
  have hmark := fun g hg => fld_markSource hsrc s (g := g) hg
  have hmark32 := reg32_FIRST_markSource hsrc s
  have hkeep := fieldsKept_keepFirst (s.reg32 Reg.FLT_FIRST = 0) cls src param inj (markSource src s)
  have hfirst := fun h => keepFirst_first cls src param inj hsrc hcls (s.reg32 Reg.FLT_FIRST = 0) h (markSource src s)
  have hlater := fun h => keepFirst_later cls src param inj (s.reg32 Reg.FLT_FIRST = 0) h (markSource src s)
  have hrest := latched_rest cls src param inj s
  unfold latched at *
  generalize markSource src s = a at *
  generalize keepFirst (s.reg32 Reg.FLT_FIRST = 0) cls src param inj a = b at *
  have hcount := fieldsKept_countReport cls b
  obtain ⟨hccnt, hucnt⟩ := fld_countReport cls b
  generalize countReport cls b = c at *
  have hclass := fieldsKept_showClass cls c
  obtain ⟨hworst, hnew⟩ := fld_showClass hcls c
  generalize showClass cls c = d at *
  have hafter : FieldsKept [.FLT_STAT_WCLASS, .FLT_STAT_NEW, .FLT_CCNT_COUNT, .FLT_UCNT_COUNT] b d :=
    (hcount.mono (by decide)).trans (hclass.mono (by decide))
  have hact : ∀ k < 4, d.fld ⟨Reg.FLT_ACT + k, 0, 16⟩ = a.fld ⟨Reg.FLT_ACT + k, 0, 16⟩ := by
    have hall : ∀ k < 4, (latchFields.take 7).all (fun f => f.apart ⟨Reg.FLT_ACT + k, 0, 16⟩) = true := by decide
    have hchain : FieldsKept (latchFields.take 7) a d := (hkeep.mono (by decide)).trans (hafter.mono (by decide))
    exact fun k hk => hchain.fld (hall k hk)
  have h32 : d.reg32 Reg.FLT_FIRST = b.reg32 Reg.FLT_FIRST := hafter.regsKept (bs := []) |>.reg32 (by decide) (by decide)
  constructor
  case busy => rw [hrest]
  case act => rwa [State.fldBit, hact _ (by omega)]
  case first => exact fun h0 => h32.trans (hfirst h0)
  case later =>
    intro h0
    obtain ⟨hsame, hovf⟩ := hlater h0
    exact ⟨h32.trans (hsame.trans hmark32), (hafter.flag (by decide)).trans hovf⟩
  case worst => rw [hworst, hcount.fld (by decide), hkeep.fld (by decide), hmark _ (by decide)]
  case new => exact hnew
  case ccnt => rw [hclass.fld (by decide), hccnt, hkeep.fld (by decide), hmark _ (by decide)]
  case ucnt => rw [hclass.fld (by decide), hucnt, hkeep.fld (by decide), hmark _ (by decide)]

end Sys2Proof.Machine
end

section
/-! The collector's whole reaction to a report that it takes (R641 to R645, R650). -/

namespace Sys2Proof.Machine

variable {bs : List Nat} {fs : List Fld} {s t u : State} {cls src param p2 p3 : Nat} {inj : Bool}

/-- The record leaves what was latched. -/
theorem kept_noted (s : State) : Kept recordBlocks [] (latched cls src param inj s) (noted cls src param p2 p3 inj s) := by
  unfold noted
  split
  · exact .refl _
  · exact (Kept.refl _).mkRecord (fun _ h => h) _ _ _

theorem Kept.driveFaultPins (h : Kept bs fs s t) (hf : .FLT_STAT_FLTHS ∈ fs) : Kept bs fs s (Machine.driveFaultPins t) :=
  h.setFlagIn hf (by decide)

/-- A report that does not begin the fatal state changes, after its latching, no more than its record and the pins do. -/
theorem kept_acceptReport (hw : Watches src s) (h : cls ≠ clsF ∨ s.isFatal = true) :
    Kept recordBlocks [.FLT_STAT_FLTHS] (latched cls src param inj s) (acceptReport cls src param p2 p3 inj s) := by
  have hcont : (decide (cls = clsF) && !s.isFatal) = false := by
    obtain h | h := h <;> simp [h]
  rw [acceptReport_of_watches hw, hcont]
  exact ((kept_noted s).mono (fun _ h => h) (List.nil_subset _)).driveFaultPins List.mem_cons_self

/-- A report of class F begins the fatal state. -/
theorem acceptReport_begins (hw : Watches src s) (hf : s.isFatal = false) :
    acceptReport clsF src param p2 p3 inj s =
      driveFaultPins (beginFatal src param (noted clsF src param p2 p3 inj s)) := by
  rw [acceptReport_of_watches hw, hf]
  rfl

theorem Kept.beginFatal (h : Kept bs fs s (markFatal src param t)) (hb : fatalBlocks ⊆ bs) :
    Kept bs fs s (Machine.beginFatal src param t) :=
  (h.enterFatal hb).setReg32 ⟨hb (by decide), hb (by decide)⟩

/-- A report that begins the fatal state changes, after its record and the fatal mark, no more than the halt and the pins do. -/
theorem kept_acceptReport_begins (hw : Watches src s) (hf : s.isFatal = false) :
    Kept fatalBlocks [.FLT_STAT_FLTHS] (markFatal src param (noted clsF src param p2 p3 inj s))
      (acceptReport clsF src param p2 p3 inj s) := by
  rw [acceptReport_begins hw hf]
  exact ((Kept.refl _).beginFatal (fun _ h => h)).driveFaultPins List.mem_cons_self

theorem markFatal_rest (src param : Nat) (s : State) : markFatal src param s =
    { s with regs := (s.setFlag .FLT_STAT_FATAL true).regs,
             sys := { s.sys with fatal := some (s.sys.fatal.getD (src, param)) } } := rfl

theorem regsKept_markFatal (src param : Nat) (s : State) :
    RegsKept [] [.FLT_STAT_FATAL] s (markFatal src param s) :=
  ((FieldsKept.refl [.FLT_STAT_FATAL] s).setFlag (by simp) (by decide)).regsKept

/-- The whole reaction, after latching, leaves every register outside its blocks, the fatal mark and the pins. -/
theorem regsKept_acceptReport (hw : Watches src s) :
    RegsKept fatalBlocks [.FLT_STAT_FLTHS, .FLT_STAT_FATAL] (latched cls src param inj s)
      (acceptReport cls src param p2 p3 inj s) := by
  by_cases h : cls ≠ clsF ∨ s.isFatal = true
  · exact (kept_acceptReport hw h).regs.mono (by decide) (by decide)
  · simp only [ne_eq, not_or, not_not, Bool.not_eq_true] at h
    obtain ⟨rfl, hf⟩ := h
    have hnoted := (kept_noted (cls := clsF) (src := src) (param := param) (p2 := p2) (p3 := p3) (inj := inj) s).regs
    exact ((hnoted.mono (by decide) (by decide)).trans ((regsKept_markFatal src param _).mono (by decide) (by decide))).trans
      ((kept_acceptReport_begins hw hf).regs.mono (by decide) (by decide))

/-- An accepted report makes the collector busy and changes nothing else of it. -/
theorem flt_acceptReport (hw : Watches src s) : (acceptReport cls src param p2 p3 inj s).flt =
    { s.flt with busy := true, hkaRun := (acceptReport cls src param p2 p3 inj s).flt.hkaRun } := by
  have hlatched : (latched cls src param inj s).flt = { s.flt with busy := true } := by rw [latched_rest]
  by_cases h : cls ≠ clsF ∨ s.isFatal = true
  · have hflt := (kept_acceptReport (param := param) (p2 := p2) (p3 := p3) (inj := inj) hw h).flt
    rwa [hlatched] at hflt
  · simp only [ne_eq, not_or, not_not, Bool.not_eq_true] at h
    obtain ⟨rfl, hf⟩ := h
    have hnoted : (noted clsF src param p2 p3 inj s).flt = _ := (kept_noted s).flt
    have hflt := (kept_acceptReport_begins (param := param) (p2 := p2) (p3 := p3) (inj := inj) hw hf).flt
    rwa [markFatal_rest, hnoted, hlatched] at hflt

/-- The memories keep every byte, whether or not the report is taken. -/
theorem memKept_acceptReport (cls src param p2 p3 : Nat) (inj : Bool) (s : State) :
    MemKept s (acceptReport cls src param p2 p3 inj s) := by
  have hlatched : MemKept s (latched cls src param inj s) := by
    rw [latched_rest]
    exact .of_eq rfl rfl rfl
  by_cases hw : Watches src s
  · by_cases h : cls ≠ clsF ∨ s.isFatal = true
    · exact hlatched.trans (kept_acceptReport hw h).mem
    · simp only [ne_eq, not_or, not_not, Bool.not_eq_true] at h
      obtain ⟨rfl, hf⟩ := h
      have hmark : MemKept (noted clsF src param p2 p3 inj s) (markFatal src param (noted clsF src param p2 p3 inj s)) :=
        .of_eq rfl rfl rfl
      exact ((hlatched.trans (kept_noted s).mem).trans hmark).trans (kept_acceptReport_begins hw hf).mem
  · rw [acceptReport_of_not_watches hw]
    exact .refl s

/-- An accepted report is latched and counted. -/
theorem latched_acceptReport (hw : Watches src s) (hsrc : src < 64) (hcls : cls ≤ clsF) :
    Latched src param cls inj s (acceptReport cls src param p2 p3 inj s) := by
  refine (latched_latched hsrc hcls s).congr hsrc ((regsKept_acceptReport hw).latchFields (by decide) (by decide)) ?_
  rw [flt_acceptReport hw]

/-- The pins show a fault once a class of U or worse is latched (R645). -/
theorem flag_FLTHS_driveFaultPins (h : 2 ≤ s.fld .FLT_STAT_WCLASS) :
    (driveFaultPins s).flag .FLT_STAT_FLTHS = true := by
  rw [driveFaultPins, flag_setFlag_same _ _ _ (by decide) rfl]
  simp [State.faultLevel, h]

theorem fld_WCLASS_driveFaultPins (s : State) : (driveFaultPins s).fld .FLT_STAT_WCLASS = s.fld .FLT_STAT_WCLASS :=
  fld_setFlag_other _ _ _ _ (by decide) (by decide)

/-- A report of class U or F shows on the pins. -/
theorem flag_FLTHS_acceptReport (hw : Watches src s) (hsrc : src < 64) (hcls : cls ≤ clsF) (hU : clsU ≤ cls) :
    (acceptReport cls src param p2 p3 inj s).flag .FLT_STAT_FLTHS = true := by
  have hworst := (latched_acceptReport (param := param) (p2 := p2) (p3 := p3) (inj := inj) hw hsrc hcls).worst
  have hthree : 3 ≤ cls := hU
  rw [acceptReport_of_watches hw] at hworst ⊢
  rw [fld_WCLASS_driveFaultPins] at hworst
  apply flag_FLTHS_driveFaultPins
  rw [hworst, wclassOf]
  omega

theorem reported_acceptReport (hw : Watches src s) (hsrc : src < 64) (hcls : cls ≤ clsF) :
    Reported src param cls s (acceptReport cls src param p2 p3 false s) :=
  (latched_acceptReport hw hsrc hcls).reported (flag_FLTHS_acceptReport hw hsrc hcls)

theorem belayClass_le (src param : Nat) : belayClass src param ≤ clsF := by
  unfold belayClass
  repeat' split
  all_goals decide

/-! ### The fatal state after a report of class F -/

theorem isFatal_latched (hsrc : src < 64) (s : State) : (latched cls src param inj s).isFatal = s.isFatal :=
  (fieldsKept_latched hsrc s).flag (by decide)

theorem isFatal_acceptReport (hw : Watches src s) (hsrc : src < 64) :
    (acceptReport clsF src param p2 p3 inj s).isFatal = true := by
  cases hf : s.isFatal with
  | true =>
    have hkept := (kept_acceptReport (param := param) (p2 := p2) (p3 := p3) (inj := inj) (cls := clsF) hw (.inr hf)).regs
    exact (hkept.flag (by decide) (by decide)).trans ((isFatal_latched hsrc s).trans hf)
  | false =>
    have hkept := (kept_acceptReport_begins (param := param) (p2 := p2) (p3 := p3) (inj := inj) hw hf).regs
    exact (hkept.flag (by decide) (by decide)).trans (flag_setFlag_same _ _ _ (by decide) rfl)

/-- What a report that begins the fatal state establishes (R650, R652). -/
theorem acceptReport_begins_establishes (hw : Watches src s) (hf : s.isFatal = false) :
    ∀ t, t = acceptReport clsF src param p2 p3 inj s →
      t.sys.fatal = some (s.sys.fatal.getD (src, param)) ∧ t.flag .SEQ_STAT_RUNNING = false ∧
      t.flag .XFER_STAT_RUN = false ∧ (∀ k, k < 4 → t.fldBit .EXC_STAT_CLRST k = true) ∧ (∀ n, n < 6 → LoopShows n t) ∧
      (∀ c, c ∈ t.conns → 100 ≤ c.owner ∧ c.owner < 104) := by
  intro t ht
  have hkept := kept_acceptReport_begins (param := param) (p2 := p2) (p3 := p3) (inj := inj) hw hf
  have hnoted : (noted clsF src param p2 p3 inj s).sys = (latched clsF src param inj s).sys := (kept_noted s).sys
  rw [latched_rest] at hnoted
  rw [← ht] at hkept
  have hsys : t.sys = { s.sys with fatal := some (s.sys.fatal.getD (src, param)) } := by
    rw [hkept.sys, markFatal_rest, hnoted]
  rw [acceptReport_begins hw hf] at ht
  generalize noted clsF src param p2 p3 inj s = u at *
  obtain ⟨hrun, hxfer, hclear, hloops, hconns⟩ := enterFatal_establishes src param u
  have htail : Kept [10] [.FLT_STAT_FLTHS] (enterFatal src param u) t := by
    rw [ht]
    exact ((Kept.refl _).setReg32 ⟨by decide, by decide⟩).driveFaultPins List.mem_cons_self
  have hrest : t = { enterFatal src param u with regs := t.regs } := by
    rw [ht]
    rfl
  refine ⟨by rw [hsys], (htail.regs.flag (by decide) rfl).trans hrun, (htail.regs.flag (by decide) rfl).trans hxfer,
    fun k hk => (htail.regs.fldBit (by decide) rfl).trans (hclear k hk), fun n hn => ?_, ?_⟩
  · have hfields : ∀ n < 6, (loopInputs n ++ loopFields n).all (fun g => !([10] : List Nat).contains (blockOf g.addr) &&
        [Fld.FLT_STAT_FLTHS].all (fun f => f.apart g)) = true := by decide +kernel
    exact (hloops n hn).of_kept htail.regs (by rw [hrest]) htail.sys (hfields n hn)
  · rw [hrest]
    exact hconns

end Sys2Proof.Machine
end

section
/-! What the arbiter changes (R44 to R50), the cut of the host's supply (R50), and what a block does at detection (R639). -/

namespace Sys2Proof.Machine

variable {bs : List Nat} {fs : List Fld} {s t u : State}

/-! ### Serving the waiting list -/

/-- What every grant keeps, serving the waiting list keeps. -/
theorem serve_keeps (P : State → Prop) (l : List Burst) (s : State) (h : P s)
    (hgrant : ∀ b ∈ l, ∀ t u, P t → (if b.tag = leaseTag then tryLease b.who t else tryBurst b t) = some u → P u) :
    P (serve l s).2 := by
  induction l generalizing s with
  | nil => exact h
  | cons b rest ih =>
    unfold serve
    split
    · rename_i t ht
      exact ih t (hgrant b List.mem_cons_self s t h ht) fun c hc => hgrant c (List.mem_cons_of_mem _ hc)
    · exact h

theorem mem_of_mem_byPriority {b : Burst} {l : List Burst} (h : b ∈ byPriority l) : b ∈ l := by
  unfold byPriority at h
  obtain ⟨p, -, hp⟩ := List.mem_flatMap.mp h
  exact (List.mem_filter.mp hp).1

/-- A grant of a lease sets the lease and does what R47 says of it. -/
theorem tryLease_eq {r : Requester} (h : tryLease r s = some u) : ∃ l, u = onLease r l (setLease r l s) := by
  unfold tryLease at h
  dsimp only at h
  split at h
  · simp at h
  split at h
  · exact ⟨_, (Option.some.inj h).symm⟩
  split at h
  · exact ⟨_, (Option.some.inj h).symm⟩
  · simp at h

theorem tryBurst_eq {b : Burst} (h : tryBurst b s = some u) :
    u = showBurst b.who gGrant { s with pwr := { s.pwr with granted := s.pwr.granted ++ [b] } } := by
  unfold tryBurst at h
  split at h
  · exact (Option.some.inj h).symm
  · simp at h

/-! ### What a grant changes -/

/-- The registers that the arbiter writes: the states of the leases and bursts, what is free, and the load. -/
def grantFields : List Fld := [wholeReg Reg.PWR_GRANT, wholeReg Reg.PWR_FREE, wholeReg Reg.PWR_LOAD]

/-- A write inside a whole register of the frame. -/
theorem Kept.setFldOf {f : Fld} {v : Nat} (h : Kept bs fs s t) (hf : wholeReg f.addr ∈ fs) :
    Kept bs fs s (t.setFld f v) :=
  ⟨h.regs.trans ((FieldsKept.refl fs t).setReg hf).regsKept, h.kernel⟩

theorem Kept.setRegNOf {a v : Nat} (h : Kept bs fs s t) (hf : wholeReg a ∈ fs) : Kept bs fs s (t.setRegN a v) :=
  ⟨h.regs.trans ((FieldsKept.refl fs t).setRegN hf).regsKept, h.kernel⟩

theorem grantFld_addr (r : Requester) : (grantFld r).addr = Reg.PWR_GRANT := by cases r <;> rfl

theorem Kept.setLease (h : Kept bs fs s t) (hf : grantFields ⊆ fs) (r : Requester) (l : Lease) :
    Kept bs fs s (Machine.setLease r l t) := by
  cases r with
  | exc => exact (h.withPwr _).setFldOf (f := .PWR_GRANT_EXC) (hf (by decide))
  | host => exact (h.withPwr _).setFldOf (f := .PWR_GRANT_HOST) (hf (by decide))
  | rope => exact (h.withPwr _).setFldOf (f := .PWR_GRANT_ROPE) (hf (by decide))
  | nvm => exact h
  | xmem => exact h

theorem Kept.showBurst (h : Kept bs fs s t) (hf : grantFields ⊆ fs) (r : Requester) (code : Nat) :
    Kept bs fs s (Machine.showBurst r code t) := by
  unfold Machine.showBurst
  split
  · exact h.setFldOf (by rw [grantFld_addr]; exact hf (by decide))
  · exact h

theorem Kept.showGrant (h : Kept bs fs s t) (hf : grantFields ⊆ fs) (r : Requester) :
    Kept bs fs s (Machine.showGrant r t) := h.setFldOf (by rw [grantFld_addr]; exact hf (by decide))

theorem Kept.excUnclear (h : Kept bs fs s t) (ev k : Nat) : Kept bs fs s (Machine.excUnclear ev k t) :=
  (h.modExc k _).addConns _

theorem Kept.showBudget (h : Kept bs fs s t) (hf : grantFields ⊆ fs) : Kept bs fs s (Machine.showBudget t) :=
  (h.setRegNOf (hf (by decide))).setRegNOf (hf (by decide))

/-- A lease in force of any requester but the host touches no register of its own. -/
theorem Kept.onLease_of_ne_host (h : Kept bs fs s t) {r : Requester} (hr : r ≠ .host) (l : Lease) :
    Kept bs fs s (Machine.onLease r l t) := by
  cases r with
  | exc => exact h.forEach fun k _ _ hu => hu.excUnclear evLease k
  | host => exact absurd rfl hr
  | rope => exact h
  | nvm => exact h
  | xmem => exact h

/-- The fields that the grant of a host lease writes beside (R50). -/
def hostFields : List Fld := [wholeReg Reg.PWR_HOSTG, .PWR_STAT_HWDR]

theorem Kept.withHkaRun (h : Kept bs fs s t) (b : Bool) : Kept bs fs s { t with flt := { t.flt with hkaRun := b } } :=
  h.congr rfl rfl

theorem Kept.onLease_host (h : Kept bs fs s t) (hf : hostFields ⊆ fs) (l : Lease) :
    Kept bs fs s (Machine.onLease .host l t) := by
  have hgranted := (h.setFldOf (f := .PWR_HOSTG_VHSTON) (v := 1) (hf (by decide))).setFldOf (f := .PWR_HOSTG_HOSTG)
    (v := l.guar + l.opp) (hf (by decide))
  have hlower : ∀ c, Kept bs fs s (((t.setFlag .PWR_HOSTG_VHSTON true).setFld .PWR_HOSTG_HOSTG (l.guar + l.opp)).when c
      (fun t => t.setFlag .PWR_STAT_HWDR true)) :=
    fun c => .when hgranted (.setFlagIn hgranted (hf (by decide)) (by decide))
  unfold Machine.onLease
  dsimp only
  split
  · exact .congr (hlower _) rfl rfl
  · exact .congr (hlower _) rfl rfl

/-! ### The arbiter -/

/-- What the arbiter may write: its own registers, and the host's where the host's lease is granted. -/
def arbiterFields : List Fld := hostFields ++ grantFields

theorem Kept.onLease (h : Kept bs fs s t) (hf : arbiterFields ⊆ fs) (r : Requester) (l : Lease) :
    Kept bs fs s (Machine.onLease r l t) := by
  by_cases hr : r = .host
  · subst hr
    exact h.onLease_host (fun _ hm => hf (List.mem_append_left _ hm)) l
  · exact h.onLease_of_ne_host hr l

theorem Kept.tryBurst {b : Burst} (h : Kept bs fs s t) (hf : grantFields ⊆ fs) (hu : Machine.tryBurst b t = some u) :
    Kept bs fs s u := by
  rw [tryBurst_eq hu]
  exact (h.withPwr _).showBurst hf _ _

theorem Kept.arbitrate (h : Kept bs fs s t) (hf : arbiterFields ⊆ fs) : Kept bs fs s (Machine.arbitrate t) := by
  have hgrant : grantFields ⊆ fs := fun _ hm => hf (List.mem_append_right _ hm)
  have hserved : Kept bs fs s (serve (byPriority t.pwr.waiting) t).2 := by
    refine serve_keeps (Kept bs fs s) _ t h fun b _ v w hv hw => ?_
    split at hw
    · obtain ⟨l, rfl⟩ := tryLease_eq hw
      exact (hv.setLease hgrant _ _).onLease hf _ _
    · exact hv.tryBurst hgrant hw
  exact (hserved.withPwr _).showBudget hgrant

theorem flt_setLease (r : Requester) (l : Lease) (s : State) : (setLease r l s).flt = s.flt := by cases r <;> rfl

theorem flt_showBurst (r : Requester) (code : Nat) (s : State) : (showBurst r code s).flt = s.flt := by
  unfold showBurst
  split <;> rfl

theorem flt_showBudget (s : State) : (showBudget s).flt = s.flt := by simp [showBudget]

theorem flt_onLease_of_ne_host {r : Requester} (hr : r ≠ .host) (l : Lease) (s : State) :
    (onLease r l s).flt = s.flt := by
  cases r with
  | exc => exact forEach_keeps (fun t => t.flt = s.flt) (excUnclear evLease) 4 s rfl (fun _ _ _ h => h)
  | host => exact absurd rfl hr
  | rope => rfl
  | nvm => rfl
  | xmem => rfl

/-- While no host lease waits, the arbiter leaves the host's supply and the keep-alive timer alone. -/
theorem Kept.arbitrate_without_host (h : Kept bs fs s t) (hf : grantFields ⊆ fs)
    (hno : ∀ b ∈ t.pwr.waiting, b.tag = leaseTag → b.who ≠ .host) :
    Kept bs fs s (Machine.arbitrate t) ∧ (Machine.arbitrate t).flt = t.flt := by
  have hserved : Kept bs fs s (serve (byPriority t.pwr.waiting) t).2 ∧
      (serve (byPriority t.pwr.waiting) t).2.flt = t.flt := by
    refine serve_keeps (fun v => Kept bs fs s v ∧ v.flt = t.flt) _ t ⟨h, rfl⟩ fun b hb v w hv hw => ?_
    obtain ⟨hkept, hflt⟩ := hv
    split at hw
    · rename_i htag
      have hr := hno b (mem_of_mem_byPriority hb) htag
      obtain ⟨l, rfl⟩ := tryLease_eq hw
      exact ⟨(hkept.setLease hf _ _).onLease_of_ne_host hr _, by rw [flt_onLease_of_ne_host hr, flt_setLease, hflt]⟩
    · refine ⟨hkept.tryBurst hf hw, ?_⟩
      rw [tryBurst_eq hw, flt_showBurst]
      exact hflt
  exact ⟨(hserved.1.withPwr _).showBudget hf, (flt_showBudget _).trans hserved.2⟩

/-! ### The cut of the host's supply (R50) -/

/-- What the cut writes: the host's supply and its registers of the arbiter. -/
def hostCutFields : List Fld := wholeReg Reg.PWR_HOSTG :: grantFields

theorem hostCutOff_cuts (s : State) : Kept [] hostCutFields s (hostCutOff s) ∧
    (hostCutOff s).flt.hkaRun = false ∧ (hostCutOff s).pwr.hostCut = true := by
  have hgrant : grantFields ⊆ hostCutFields := List.subset_cons_self _ _
  have hoff : Kept [] hostCutFields s (vhstOff s) := by
    have hset := ((Kept.refl (bs := []) (fs := hostCutFields) s).setFldOf (f := .PWR_HOSTG_VHSTON) (v := 0)
      (by decide)).setFldOf (f := .PWR_HOSTG_HOSTG) (v := 0) (by decide)
    exact (hset.withHkaRun false).withPwr _
  have hrun : (vhstOff s).flt.hkaRun = false := rfl
  have hended : Kept [] hostCutFields s (endLease .host (vhstOff s)) ∧
      (endLease .host (vhstOff s)).flt.hkaRun = false := by
    generalize vhstOff s = t at *
    have hset := hoff.setLease hgrant .host {}
    have hflt := flt_setLease .host {} t
    unfold endLease
    generalize setLease .host {} t = u at *
    have harb := (hset.withPwr { u.pwr with
      waiting := u.pwr.waiting.filter (fun b => !(b.who == .host && b.tag == leaseTag)) }).arbitrate_without_host hgrant
      (fun b hb htag hwho => by simp [htag, hwho] at hb)
    exact ⟨harb.1, (congrArg Flt.hkaRun (harb.2.trans hflt)).trans hrun⟩
  unfold hostCutOff
  dsimp only
  generalize endLease .host (vhstOff s) = t at *
  obtain ⟨hkept, hoff⟩ := hended
  split
  · exact ⟨(hkept.setLease hgrant _ _).withPwr _, hoff, rfl⟩
  · exact ⟨hkept.withPwr _, hoff, rfl⟩

end Sys2Proof.Machine
end

section
/-! What a block does at detection (R639), whether or not its report is taken. -/

namespace Sys2Proof.Machine

variable {bs : List Nat} {fs : List Fld} {s t u : State}

/-! ### The frame of a reaction -/

/-- A block's own reaction: only the register blocks listed may differ, and neither the supply state nor a byte of the memories
nor the collector does, apart from the run of the keep-alive timer. -/
structure Reacted (bs : List Nat) (s t : State) : Prop where
  regs : RegsKept bs [] s t
  mem : MemKept s t
  sys : t.sys = s.sys
  flt : t.flt = { s.flt with hkaRun := t.flt.hkaRun }

theorem Kept.reacted (h : Kept bs [] s t) : Reacted bs s t := ⟨h.regs, h.mem, h.sys, h.flt⟩

theorem Reacted.refl (s : State) : Reacted bs s s := (Kept.refl s).reacted

theorem Reacted.trans (h : Reacted bs s t) (k : Reacted bs t u) : Reacted bs s u :=
  ⟨h.regs.trans k.regs, h.mem.trans k.mem, k.sys.trans h.sys, by rw [k.flt, h.flt]⟩

theorem Reacted.mono {cs : List Nat} (h : Reacted bs s t) (hb : bs ⊆ cs) : Reacted cs s t :=
  ⟨h.regs.mono hb (List.Subset.refl _), h.mem, h.sys, h.flt⟩

/-! ### The descriptors -/

/-- The descriptors that stay once every destination has taken its own (R544, R547). -/
def keptDescrs (s : State) : List Descr :=
  (if s.xmemOut then s.xfer.descrs.map (fun d => d.done dXmem) else s.xfer.descrs).filter (fun d => d.dests != 0)

/-- The state of a capture after its descriptors have gone. -/
def endedCapture (s : State) : State :=
  (s.setFld .XFER_CAPST_STATE (if s.xfer.capStop then 0 else 1)).modXfer (fun x => { x with capFrames := [], capStop := false })

theorem Kept.endedCapture (h : Kept bs fs s t) (hb : 9 ∈ bs) : Kept bs fs s (Machine.endedCapture t) :=
  .congr (h.setFld (f := .XFER_CAPST_STATE) (v := if t.xfer.capStop then 0 else 1) hb) rfl rfl

/-- The state with its descriptors settled, before TAIL and HRDY show them. -/
def settledDescrs (s : State) : State := s.modXfer (fun x => { x with descrs := keptDescrs s })

/-- It with its capture ended, where that has gone. -/
def settledCapture (s : State) : State :=
  if s.xfer.descrs.any (fun d => !d.record.isEmpty) && !(keptDescrs s).any (fun d => !d.record.isEmpty) then
    endedCapture (settledDescrs s)
  else settledDescrs s

theorem settleDescrs_eq (s : State) : ∃ v b, settleDescrs s =
    ((settledCapture s).setFld .XFER_TAIL_BLK v).setFlag .XFER_STAT_HRDY b := ⟨_, _, rfl⟩

/-- Settling the descriptors changes, beside them, the transfer engine's registers alone. -/
theorem kept_settleDescrs (s : State) : Kept [9] [] (settledDescrs s) (settleDescrs s) := by
  have hcapture : Kept [9] [] (settledDescrs s) (settledCapture s) := by
    unfold settledCapture
    split
    · exact (Kept.refl _).endedCapture (by decide)
    · exact .refl _
  obtain ⟨v, b, h⟩ := settleDescrs_eq s
  rw [h]
  exact (hcapture.setFld (by decide)).setFlag (by decide)

theorem reacted_settleDescrs (s : State) : Reacted [9] s (settleDescrs s) := by
  have hkept := (kept_settleDescrs s).reacted
  exact ⟨(RegsKept.of_regs rfl).trans hkept.regs, (MemKept.of_eq rfl rfl rfl).trans hkept.mem, hkept.sys, hkept.flt⟩

theorem descrs_settleDescrs (s : State) : (settleDescrs s).xfer.descrs = keptDescrs s := (kept_settleDescrs s).descrs

/-- A descriptor that stays holds the record and the frames of one that was there with a destination outstanding. -/
theorem mem_keptDescrs {d : Descr} (h : d ∈ keptDescrs s) :
    ∃ e ∈ s.xfer.descrs, e.dests ≠ 0 ∧ d.record = e.record ∧ d.frames = e.frames := by
  obtain ⟨hmem, hdests⟩ := List.mem_filter.mp h
  have hdests : d.dests ≠ 0 := by simpa using hdests
  split at hmem
  · obtain ⟨e, he, rfl⟩ := List.mem_map.mp hmem
    refine ⟨e, he, fun h0 => hdests ?_, rfl, rfl⟩
    simp [Descr.done, h0]
  · exact ⟨d, hmem, hdests, rfl, rfl⟩

/-! ### The reactions -/

theorem flashEcc_rest (param p2 : Nat) (s : State) : flashEcc param p2 s =
    { s with nvm := { s.nvm with ecc := (flashEcc param p2 s).nvm.ecc, errs := (flashEcc param p2 s).nvm.errs } } := by
  unfold flashEcc
  dsimp only
  split <;> rfl

theorem spoilTable_rest (w : Nat) (s : State) :
    spoilTable w s = { s with tab := (spoilTable w s).tab, free := (spoilTable w s).free } := by
  unfold spoilTable
  dsimp only
  repeat' split
  all_goals rfl

theorem reacted_dropRamWord (w : Nat) (s : State) : Reacted [9] s (dropRamWord w s) := by
  have hdrop : ∀ ds, Reacted [9] s (s.modXfer (fun x => { x with descrs := ds })) := fun ds =>
    ⟨.of_regs rfl, .of_eq rfl rfl rfl, rfl, rfl⟩
  exact (hdrop _).trans (reacted_settleDescrs _)

theorem Kept.dropWaiting (h : Kept bs fs s t) (who : Requester) (tag : Nat) :
    Kept bs fs s (Machine.dropWaiting who tag t) := h.withPwr _

/-- The end of an external-memory operation releases its bursts. -/
theorem Kept.releaseBurst (h : Kept bs fs s t) (hf : arbiterFields ⊆ fs) (who : Requester) (tag : Nat) :
    Kept bs fs s (Machine.releaseBurst who tag t) :=
  ((h.withPwr _).showGrant (fun _ hm => hf (List.mem_append_right _ hm)) who).arbitrate hf

theorem Kept.endXop (h : Kept bs fs s t) (hb : 9 ∈ bs) (hf : arbiterFields ⊆ fs) : Kept bs fs s (Machine.endXop t) := by
  have hidle : Kept bs fs s ((t.setFlag .XMEM_STAT_BUSY false).modXfer (fun x => { x with op := none })) :=
    .congr (h.setFlag (f := .XMEM_STAT_BUSY) (b := false) hb) rfl rfl
  exact ((hidle.dropWaiting .xmem 1).releaseBurst hf .xmem 1).releaseBurst hf .xmem 0

theorem Kept.mailboxFail (h : Kept bs fs s t) (hb : 9 ∈ bs) (rsn : Nat) : Kept bs fs s (Machine.mailboxFail rsn t) :=
  (h.setFlag (f := .XFER_STAT_MERR) hb).setFld (f := .XFER_STAT_MRSN) hb

/-- The arbiter's registers lie in block 1. -/
theorem Kept.of_arbiter (h : Kept [9] arbiterFields s t) : Kept [1, 9] [] s t := by
  have hall : ∀ f ∈ arbiterFields, blockOf f.addr = 1 := by decide
  refine ⟨fun a i ha hi => h.regs a i (fun hm => ha (by simpa using Or.inr (List.mem_singleton.mp hm)))
    (fun f hf he => absurd ?_ ha), h.kernel⟩
  rw [← he, hall f hf]
  decide

theorem reacted_memoryGone (s : State) : Reacted [1, 9] s (memoryGone s) := by
  have htmo : Kept [9] arbiterFields s (s.setFlag .XMEM_STAT_TMO true) := (Kept.refl s).setFlag (by decide)
  have hends : ∀ u, Kept [9] arbiterFields s u → Reacted [1, 9] s (settleDescrs (u.setFlag .XFER_STAT_XERR true)) :=
    fun u hu => (Kept.of_arbiter (hu.setFlag (f := .XFER_STAT_XERR) (by decide))).reacted.trans
      ((reacted_settleDescrs _).mono (by decide))
  unfold memoryGone
  dsimp only
  apply hends
  split
  · exact htmo
  split
  · exact (htmo.endXop (by decide) (List.Subset.refl _)).mailboxFail (by decide) 5
  · exact htmo.endXop (by decide) (List.Subset.refl _)

/-- A reaction leaves every register but the arbiter's and the transfer engine's, and the latter's alone unless the memory has
gone. -/
theorem reacted_atDetection (src param p2 : Nat) (s : State) : Reacted [1, 9] s (atDetection src param p2 s) ∧
    (src ≠ 15 ∨ param ≠ 3 → Reacted [9] s (atDetection src param p2 s)) := by
  have hboth : ∀ u, Reacted [9] s u → Reacted [1, 9] s u ∧ (src ≠ 15 ∨ param ≠ 3 → Reacted [9] s u) :=
    fun u hu => ⟨hu.mono (by decide), fun _ => hu⟩
  have hquiet : ∀ u, u.regs = s.regs → u.xfer = s.xfer → u.nvm.store = s.nvm.store → u.sys = s.sys → u.flt = s.flt →
      Reacted [9] s u := fun u hr hx hn hs hf =>
    ⟨.of_regs hr, .of_eq hn (by rw [hx]) (by rw [hx]), hs, by rw [hf]⟩
  unfold atDetection
  split
  · apply hboth
    rw [flashEcc_rest]
    exact hquiet _ rfl rfl rfl rfl rfl
  split
  · exact hboth _ (reacted_dropRamWord _ _)
  split
  · apply hboth
    exact hquiet _ rfl rfl rfl rfl rfl
  split
  · apply hboth
    rw [spoilTable_rest]
    exact hquiet _ rfl rfl rfl rfl rfl
  split
  · rename_i hgone
    simp only [Bool.and_eq_true, decide_eq_true_eq] at hgone
    exact ⟨reacted_memoryGone s, fun h => absurd hgone (by tauto)⟩
  · exact hboth _ (.refl s)

end Sys2Proof.Machine
end

section
/-! The latches clear (R647, R648): what the clearing releases, and what the collector's registers then show. -/

namespace Sys2Proof.Machine

variable {bs : List Nat} {fs : List Fld} {s t u : State}

/-! ### What the clearing releases -/

theorem Kept.restartEngine (h : Kept bs fs s t) (hb : 7 ∈ bs) {n : Nat} (hn : n < 6) :
    Kept bs fs s (Machine.restartEngine n t) := by
  obtain ⟨hloop, -, hval⟩ := blockOf_loop hn
  have hval : blockOf (Reg.VAL_STAT n) ∈ bs := hval ▸ hb
  have hloop : blockOf (Reg.LOOP_STAT n) ∈ bs := hloop ▸ hb
  have hinit : ∀ u, Kept bs fs s u → Kept bs fs s (initEngine n u) := fun u hu =>
    (((((hu.modEng n _).setFlag (f := .VAL_STAT_FIRST n) hval).setFlag (f := .VAL_STAT_TWIN n) hval).setFlag
      (f := .VAL_STAT_ALMLAT n) hval).modEng n _).modEng n _
  exact ((((hinit _ (h.modEng n _)).setFlag (f := .LOOP_STAT_FVEXP n) hloop).modLoop n _).showEngines hb).updateLoop hb hn

theorem Kept.clearHalt (h : Kept bs fs s t) (hb : 7 ∈ bs) {n : Nat} (hn : n < 6) :
    Kept bs fs s (Machine.clearHalt n t) := by
  unfold Machine.clearHalt
  dsimp only
  split
  · exact h.restartEngine hb hn
  · exact h.modEng n _

/-- A loop with RBF is released (R450). -/
def releaseLoop (n : Nat) (s : State) : State :=
  if s.flag (.LOOP_STAT_RBF n) then
    ((s.setFlag (.LOOP_STAT_RBF n) false).setFlag (.LOOP_STAT_EVT n) true).modLoop n (fun l => { l with devCount := 0 })
  else s

/-- An output under overcurrent is released (R267). -/
def releaseOutput (k : Nat) (s : State) : State :=
  if (s.excOut k).overcurrent then excUnclear evOver k (s.modExc k (fun x => { x with overcurrent := false })) else s

/-- The outputs, the engines and the loops that wait for the clear are released. -/
def releaseWaiting (s : State) : State := forEach 6 releaseLoop (forEach 6 clearHalt (forEach 4 releaseOutput s))

theorem releaseContained_eq (s : State) : releaseContained s =
    updateLoops { releaseWaiting s with flt := { (releaseWaiting s).flt with ignored := [], cond := [] } } := rfl

theorem Kept.releaseLoop (h : Kept bs fs s t) (hb : 7 ∈ bs) {n : Nat} (hn : n < 6) :
    Kept bs fs s (Machine.releaseLoop n t) := by
  have hloop : blockOf (Reg.LOOP_STAT n) ∈ bs := (blockOf_loop hn).1 ▸ hb
  unfold Machine.releaseLoop
  split
  · exact ((h.setFlag (f := .LOOP_STAT_RBF n) hloop).setFlag (f := .LOOP_STAT_EVT n) hloop).modLoop n _
  · exact h

theorem Kept.releaseOutput (h : Kept bs fs s t) (k : Nat) : Kept bs fs s (Machine.releaseOutput k t) := by
  unfold Machine.releaseOutput
  split
  · exact (h.modExc k _).excUnclear evOver k
  · exact h

theorem kept_releaseWaiting (s : State) : Kept [7] [] s (releaseWaiting s) :=
  (((Kept.refl s).forEach fun k _ _ hu => hu.releaseOutput k).forEach fun _ _ hn hu => hu.clearHalt (by decide) hn).forEach
    fun _ _ hn hu => hu.releaseLoop (by decide) hn

theorem flag_modLoop (s : State) (n : Nat) (f : LoopSt → LoopSt) (g : Fld) : (s.modLoop n f).flag g = s.flag g := rfl

theorem flag_RBF_releaseLoop_same (n : Nat) (s : State) : (releaseLoop n s).flag (.LOOP_STAT_RBF n) = false := by
  unfold releaseLoop
  split
  · rw [flag_modLoop, flag_setFlag_other _ _ _ _ (by simp) (apart_of_bits (by simp)),
      flag_setFlag_same _ _ _ (by simp) rfl]
  · rename_i h
    simpa using h

theorem flag_RBF_releaseLoop_other {m n : Nat} (hne : m ≠ n) (s : State) :
    (releaseLoop m s).flag (.LOOP_STAT_RBF n) = s.flag (.LOOP_STAT_RBF n) := by
  have hword : ∀ lo : Nat, (⟨Reg.LOOP_STAT m, lo, 1⟩ : Fld).apart (.LOOP_STAT_RBF n) = true := by
    intro lo
    simp [Fld.apart, hne]
  unfold releaseLoop
  split
  · rw [flag_modLoop, flag_setFlag_other _ _ _ _ (by simp) (hword 2), flag_setFlag_other _ _ _ _ (by simp) (hword 5)]
  · rfl

/-- No loop holds RBF once all are released. -/
theorem flag_RBF_releaseWaiting (s : State) : ∀ n < 6, (releaseWaiting s).flag (.LOOP_STAT_RBF n) = false :=
  forEach_establishes (fun n t => t.flag (.LOOP_STAT_RBF n) = false) releaseLoop 6 _
    (fun n t _ => flag_RBF_releaseLoop_same n t)
    (fun _ _ t _ _ hne h => (flag_RBF_releaseLoop_other hne t).trans h)

theorem flag_RBF_updateLoops {n : Nat} (hn : n < 6) (s : State) :
    (updateLoops s).flag (.LOOP_STAT_RBF n) = s.flag (.LOOP_STAT_RBF n) := by
  refine forEach_keeps (fun t => t.flag (.LOOP_STAT_RBF n) = s.flag (.LOOP_STAT_RBF n)) updateLoop 6 s rfl
    fun m t hm ht => ?_
  rw [State.flag, inputs_updateLoop hm hn t _ (by simp [loopInputs])]
  exact ht

/-- What is released, beside the pairs ignored and the conditions held. -/
theorem releaseContained_releases (s : State) : RegsKept [7] [] s (releaseContained s) ∧ MemKept s (releaseContained s) ∧
    (releaseContained s).sys = s.sys ∧ (releaseContained s).flt.ignored = [] ∧ (releaseContained s).flt.cond = [] ∧
    (∀ n < 6, (releaseContained s).flag (.LOOP_STAT_RBF n) = false) ∧ (∀ n < 6, LoopShows n (releaseContained s)) := by
  have hkept := kept_releaseWaiting s
  have hrbf := flag_RBF_releaseWaiting s
  rw [releaseContained_eq]
  generalize releaseWaiting s = t at *
  have hshown := (Kept.refl (bs := [7]) (fs := [])
    { t with flt := { t.flt with ignored := [], cond := [] } }).updateLoops (by decide)
  refine ⟨hkept.regs.trans ((RegsKept.of_regs rfl).trans hshown.regs), ?_, hshown.sys.trans hkept.sys, ?_, ?_, ?_,
    loopShows_updateLoops _⟩
  · exact (hkept.mem.trans (.of_eq rfl rfl rfl)).trans hshown.mem
  · rw [hshown.flt]
  · rw [hshown.flt]
  · exact fun n hn => (flag_RBF_updateLoops hn _).trans (hrbf n hn)

theorem kept_clearBroken (s : State) : Kept [1] [] s (clearBroken s) := by
  unfold clearBroken
  dsimp only
  refine (Kept.refl s).forEach fun n u _ hu => ?_
  split
  · exact .congr (hu.setFldBit (f := .THM_STAT_BRK) (n := n) (b := false) (by decide)) rfl rfl
  · exact hu

theorem clearBroken_loops (s : State) : (clearBroken s).loops = s.loops := by
  unfold clearBroken
  dsimp only
  refine forEach_keeps (fun t => t.loops = s.loops) _ 4 s rfl fun n t _ ht => ?_
  split <;> exact ht

/-! ### The collector's registers -/

/-- FIRST goes to LAST unless it is 0. -/
def lastTaken (s : State) : State :=
  if s.reg32 Reg.FLT_FIRST = 0 then s else s.setReg32 Reg.FLT_LAST (s.reg32 Reg.FLT_FIRST)

/-- OVF and ACT clear. -/
def activeCleared (s : State) : State := (s.setFlag .FLT_STAT_OVF false).setReg64 Reg.FLT_ACT 0

/-- The fatal report stays: FIRST keeps it or takes it from its latch, ACT keeps its bit, and WCLASS is F. -/
def fatalKept (src param : Nat) (s : State) : State :=
  ((s.setReg32 Reg.FLT_FIRST
    (if s.reg32 Reg.FLT_FIRST / 65536 % 8 = clsF then s.reg32 Reg.FLT_FIRST else src + 256 * (param % 256) + 65536 * clsF)
    ).setFldBit ⟨Reg.FLT_ACT + src / 16, 0, 16⟩ (src % 16) true).setFld .FLT_STAT_WCLASS 3

/-- FIRST and WCLASS clear. -/
def firstCleared (s : State) : State := (s.setReg32 Reg.FLT_FIRST 0).setFld .FLT_STAT_WCLASS 0

theorem FieldsKept.regN (h : FieldsKept fs s t) {a : Nat} (hg : fs.all (fun f => f.apart (wholeReg a)) = true) :
    t.regN a = s.regN a := by
  simpa only [fld_wholeReg] using h.fld (g := wholeReg a) hg

theorem regN_setRegN_other (s : State) {a b : Nat} (v : Nat) (h : a ≠ b) : (s.setRegN a v).regN b = s.regN b := by
  rw [State.regN, reg_setRegN, if_neg h, State.regN]

/-- Every word of a quantity cleared reads 0. -/
theorem regN_setReg64_zero (s : State) (a : Nat) {k : Nat} (hk : k < 4) : (s.setReg64 a 0).regN (a + k) = 0 := by
  have hzero : ∀ (u : State) (b : Nat), (u.setRegN b 0).regN b = 0 := fun u b => regN_setRegN_same u b 0
  unfold State.setReg64 State.setReg32
  simp only [Nat.zero_mod, Nat.zero_div]
  interval_cases k
  · rw [regN_setRegN_other _ _ (by omega), regN_setRegN_other _ _ (by omega), regN_setRegN_other _ _ (by omega)]
    exact hzero _ _
  · rw [regN_setRegN_other _ _ (by omega), regN_setRegN_other _ _ (by omega)]
    exact hzero _ _
  · rw [regN_setRegN_other _ _ (by omega)]
    exact hzero _ _
  · exact hzero _ _

theorem reg64_eq (s : State) (a : Nat) : s.reg64 a = s.regN a + 65536 * s.regN (a + 1) + 4294967296 * s.regN (a + 2) +
    281474976710656 * s.regN (a + 3) := by
  rw [State.reg64, State.reg32, State.reg32, Nat.add_assoc a 2 1]
  omega

theorem FieldsKept.setReg64 {a v : Nat} (h : FieldsKept fs s t)
    (hf : wholeReg a ∈ fs ∧ wholeReg (a + 1) ∈ fs ∧ wholeReg (a + 2) ∈ fs ∧ wholeReg (a + 3) ∈ fs) :
    FieldsKept fs s (t.setReg64 a v) :=
  (h.setReg32 hf.1 hf.2.1).setReg32 hf.2.2.1 hf.2.2.2

theorem fieldsKept_lastTaken (s : State) : FieldsKept (wholeReg32 Reg.FLT_LAST) s (lastTaken s) := by
  unfold lastTaken
  split
  · exact .refl _ s
  · exact (FieldsKept.refl _ s).setReg32 (by simp) (by simp)

theorem lastTaken_rest (s : State) : lastTaken s = { s with regs := (lastTaken s).regs } := by
  unfold lastTaken
  split <;> rfl

theorem reg32_LAST_lastTaken (s : State) : (lastTaken s).reg32 Reg.FLT_LAST =
    (if s.reg32 Reg.FLT_FIRST = 0 then s.reg32 Reg.FLT_LAST else s.reg32 Reg.FLT_FIRST) := by
  unfold lastTaken
  split
  · rfl
  · rw [reg32_setReg32, Nat.mod_eq_of_lt (reg32_lt _ _)]

theorem fieldsKept_activeCleared (s : State) : FieldsKept (.FLT_STAT_OVF :: actWords) s (activeCleared s) :=
  ((FieldsKept.refl _ s).setFlag (by simp) (by decide)).setReg64 (by decide)

theorem flag_OVF_activeCleared (s : State) : (activeCleared s).flag .FLT_STAT_OVF = false :=
  (((FieldsKept.refl actWords _).setReg64 (by decide)).flag (by decide)).trans (flag_setFlag_same _ _ _ (by decide) rfl)

theorem regN_ACT_activeCleared (s : State) {k : Nat} (hk : k < 4) : (activeCleared s).regN (Reg.FLT_ACT + k) = 0 :=
  regN_setReg64_zero _ _ hk

theorem fieldsKept_firstCleared (s : State) :
    FieldsKept (.FLT_STAT_WCLASS :: wholeReg32 Reg.FLT_FIRST) s (firstCleared s) :=
  ((FieldsKept.refl _ s).setReg32 (by simp) (by simp)).setFld (by simp) (by decide)

theorem firstCleared_clears (s : State) :
    (firstCleared s).reg32 Reg.FLT_FIRST = 0 ∧ (firstCleared s).fld .FLT_STAT_WCLASS = 0 := by
  have hclass := ((FieldsKept.refl [.FLT_STAT_WCLASS] (s.setReg32 Reg.FLT_FIRST 0)).setFld (f := .FLT_STAT_WCLASS) (v := 0)
    (by simp) (by decide)).regsKept (bs := [])
  exact ⟨(hclass.reg32 (by decide) (by decide)).trans (reg32_setReg32 s _ 0), fld_setFld_same _ _ _ (by decide)⟩

/-- What FIRST shows in the fatal state: it keeps a report of class F, else it takes the latched one. -/
def fatalFirst (src param : Nat) (s : State) : Nat :=
  if s.reg32 Reg.FLT_FIRST / 65536 % 8 = clsF then s.reg32 Reg.FLT_FIRST else src + 256 * (param % 256) + 65536 * clsF

theorem fatalFirst_lt {src param : Nat} (hsrc : src < 64) (s : State) : fatalFirst src param s < 4294967296 := by
  have hfirst := reg32_lt s Reg.FLT_FIRST
  have hparam : param % 256 < 256 := Nat.mod_lt _ (by decide)
  have hF : clsF = 4 := rfl
  unfold fatalFirst
  split <;> omega

theorem fieldsKept_setFldBit {f : Fld} {n : Nat} {b : Bool} (h : FieldsKept fs s t) (hf : wholeReg f.addr ∈ fs) :
    FieldsKept fs s (t.setFldBit f n b) := h.setReg hf

/-- One bit of a word of zeros. -/
theorem regN_setFldBit_zero (s : State) (a : Nat) {n : Nat} (hn : n < 16) (h : s.regN a = 0) :
    (s.setFldBit ⟨a, 0, 16⟩ n true).regN a = 2 ^ n := by
  have hone : ∀ n < 16, (putField 0 (0 + n) 1 1).toNat = 2 ^ n := by decide
  have hzero : s.reg a = 0 := BitVec.eq_of_toNat_eq h
  rw [State.regN, State.setFldBit, reg_setFlag, if_pos rfl, hzero]
  exact hone n hn

theorem fieldsKept_fatalKept {src param : Nat} (hsrc : src < 64) (s : State) :
    FieldsKept (.FLT_STAT_WCLASS :: (wholeReg32 Reg.FLT_FIRST ++ actWords)) s (fatalKept src param s) := by
  have hmem : wholeReg (Reg.FLT_ACT + src / 16) ∈ .FLT_STAT_WCLASS :: (wholeReg32 Reg.FLT_FIRST ++ actWords) :=
    List.mem_cons_of_mem _ (List.mem_append_right _ (actWords_mem hsrc))
  exact (fieldsKept_setFldBit ((FieldsKept.refl _ s).setReg32 (by simp) (by simp)) hmem).setFld (by simp) (by decide)

theorem reg32_FIRST_fatalKept {src : Nat} (param : Nat) (hsrc : src < 64) (s : State) :
    (fatalKept src param s).reg32 Reg.FLT_FIRST = fatalFirst src param s ∧
      (fatalKept src param s).fld .FLT_STAT_WCLASS = 3 := by
  have hafter := ((fieldsKept_setFldBit (FieldsKept.refl (.FLT_STAT_WCLASS :: actWords)
    (s.setReg32 Reg.FLT_FIRST (fatalFirst src param s))) (f := ⟨Reg.FLT_ACT + src / 16, 0, 16⟩) (n := src % 16) (b := true)
    (List.mem_cons_of_mem _ (actWords_mem hsrc))).setFld (f := .FLT_STAT_WCLASS) (v := 3) (by simp)
    (by decide)).regsKept (bs := [])
  refine ⟨(hafter.reg32 (by decide) (by decide)).trans ?_, fld_setFld_same _ _ _ (by decide)⟩
  rw [reg32_setReg32, Nat.mod_eq_of_lt (fatalFirst_lt hsrc s)]

theorem regN_ACT_fatalKept {src k : Nat} (param : Nat) (hk : k < 4) (s : State)
    (hact : ∀ k < 4, s.regN (Reg.FLT_ACT + k) = 0) :
    (fatalKept src param s).regN (Reg.FLT_ACT + k) = if k = src / 16 then 2 ^ (src % 16) else 0 := by
  have hapart : ∀ k < 4, (Fld.FLT_STAT_WCLASS :: wholeReg32 Reg.FLT_FIRST).all
      (fun f => f.apart (wholeReg (Reg.FLT_ACT + k))) = true := by decide
  have hfirst : ∀ v, (s.setReg32 Reg.FLT_FIRST v).regN (Reg.FLT_ACT + k) = 0 := fun v =>
    (((FieldsKept.refl (.FLT_STAT_WCLASS :: wholeReg32 Reg.FLT_FIRST) s).setReg32 (by simp) (by simp)).regN
      (hapart k hk)).trans (hact k hk)
  unfold fatalKept
  rw [((FieldsKept.refl (.FLT_STAT_WCLASS :: wholeReg32 Reg.FLT_FIRST) _).setFld (by simp) (by decide)).regN (hapart k hk)]
  by_cases hks : k = src / 16
  · rw [if_pos hks, ← hks]
    exact regN_setFldBit_zero _ _ (Nat.mod_lt _ (by decide)) (hfirst _)
  · rw [if_neg hks, State.regN, State.setFldBit, reg_setFlag, if_neg (by simp; omega)]
    exact hfirst _

/-- The four words of ACT with one bit set. -/
theorem reg64_ACT_of_bit {src : Nat} (hsrc : src < 64)
    (h : ∀ k < 4, s.regN (Reg.FLT_ACT + k) = if k = src / 16 then 2 ^ (src % 16) else 0) :
    s.reg64 Reg.FLT_ACT = 2 ^ src := by
  have h0 := h 0 (by omega)
  have hsplit : 2 ^ src = 65536 ^ (src / 16) * 2 ^ (src % 16) := by
    rw [show (65536 : Nat) = 2 ^ 16 from rfl, ← pow_mul, ← pow_add, Nat.div_add_mod]
  have hword : src / 16 < 4 := by omega
  rw [reg64_eq, hsplit, h 1 (by omega), h 2 (by omega), h 3 (by omega)]
  rw [Nat.add_zero] at h0
  rw [h0]
  interval_cases src / 16 <;> simp

end Sys2Proof.Machine
end

section
/-! CLEAR and CLEARALL (R647, R648) on the machine's state. -/

namespace Sys2Proof.Machine

variable {bs : List Nat} {fs : List Fld} {s t u : State}

/-! ### The release and the counts -/

/-- CLEAR, or CLEARALL. -/
def clearedBy (all : Bool) (s : State) : State := if all then clearAllLatches s else clearLatches s

/-- What follows the clearing of the latches: the release, the broken sensors, the pins, and for CLEARALL the counts. -/
def released (all : Bool) (s : State) : State :=
  let t := driveFaultPins (clearBroken (releaseContained s))
  if all then (t.setRegN Reg.FLT_CCNT 0).setRegN Reg.FLT_UCNT 0 else t

/-- The fields that follow the release in the collector's block. -/
def releasedFields : List Fld := [.FLT_STAT_FLTHS, wholeReg Reg.FLT_CCNT, wholeReg Reg.FLT_UCNT]

/-- After the release the broken sensors, the pins and the counts alone change. -/
theorem kept_released (all : Bool) (s : State) : Kept [1] releasedFields (releaseContained s) (released all s) := by
  have hpins : Kept [1] releasedFields (releaseContained s) (driveFaultPins (clearBroken (releaseContained s))) :=
    ((kept_clearBroken _).mono (List.Subset.refl _) (List.nil_subset _)).driveFaultPins (by decide)
  unfold released
  dsimp only
  split
  · exact (hpins.setRegNOf (by decide)).setRegNOf (by decide)
  · exact hpins

theorem released_loops (all : Bool) (s : State) : (released all s).loops = (releaseContained s).loops := by
  have hpins : (driveFaultPins (clearBroken (releaseContained s))).loops = (releaseContained s).loops := by
    simp [driveFaultPins, clearBroken_loops]
  unfold released
  dsimp only
  split
  · simpa using hpins
  · exact hpins

/-- What CLEAR and CLEARALL release (R648 step 4), and what they leave. -/
structure Releases (s t : State) : Prop where
  regs : RegsKept [1, 7] releasedFields s t
  mem : MemKept s t
  sys : t.sys = s.sys
  ignored : t.flt.ignored = []
  cond : t.flt.cond = []
  rbf : ∀ n < 6, t.flag (.LOOP_STAT_RBF n) = false
  loops : ∀ n < 6, LoopShows n t

theorem released_releases (all : Bool) (s : State) : Releases s (released all s) := by
  obtain ⟨hregs, hmem, hsys, hign, hcond, hrbf, hloops⟩ := releaseContained_releases s
  have hkept := kept_released all s
  have hrbfWord : ∀ n < 6, blockOf (Reg.LOOP_STAT n) ∉ [1] ∧ releasedFields.all (fun f => f.apart (.LOOP_STAT_RBF n)) = true := by
    decide
  have hfields : ∀ n < 6, (loopInputs n ++ loopFields n).all (fun g => !([1] : List Nat).contains (blockOf g.addr) &&
      releasedFields.all (fun f => f.apart g)) = true := by decide +kernel
  constructor
  case regs => exact (hregs.mono (by decide) (List.nil_subset _)).trans (hkept.regs.mono (by decide) (List.Subset.refl _))
  case mem => exact hmem.trans hkept.mem
  case sys => exact hkept.sys.trans hsys
  case ignored => rw [hkept.flt]; exact hign
  case cond => rw [hkept.flt]; exact hcond
  case rbf => exact fun n hn => (hkept.regs.flag (hrbfWord n hn).1 (hrbfWord n hn).2).trans (hrbf n hn)
  case loops => exact fun n hn => (hloops n hn).of_kept hkept.regs (released_loops all s) hkept.sys (hfields n hn)

/-- CLEAR leaves the counts, CLEARALL clears them (R647). -/
theorem counts_released (s : State) :
    ((released false s).fld .FLT_CCNT_COUNT = s.fld .FLT_CCNT_COUNT ∧
      (released false s).fld .FLT_UCNT_COUNT = s.fld .FLT_UCNT_COUNT) ∧
    (released true s).fld .FLT_CCNT_COUNT = 0 ∧ (released true s).fld .FLT_UCNT_COUNT = 0 := by
  obtain ⟨hregs, -⟩ := releaseContained_releases s
  have hpins : RegsKept [1, 7] [.FLT_STAT_FLTHS] s (released false s) :=
    (hregs.mono (by decide) (List.nil_subset _)).trans ((((kept_clearBroken (releaseContained s)).mono
      (by decide : [1] ⊆ [1, 7]) (List.nil_subset _)).driveFaultPins List.mem_cons_self).regs)
  have hzero : ∀ (u : State) (a : Nat), (u.setRegN a 0).fld (wholeReg a) = 0 := fun u a => by
    rw [fld_wholeReg, regN_setRegN_same]
  refine ⟨⟨hpins.fld (by decide) (by decide), hpins.fld (by decide) (by decide)⟩, ?_, hzero _ _⟩
  exact (fld_setReg_other _ _ _ _ (by decide)).trans (hzero _ _)

/-! ### The two clearings -/

/-- The latches are copied and cleared, but for FIRST and WCLASS. -/
def latchesCopied (s : State) : State := activeCleared (lastTaken s)

theorem fieldsKept_latchesCopied (s : State) :
    FieldsKept (wholeReg32 Reg.FLT_LAST ++ .FLT_STAT_OVF :: actWords) s (latchesCopied s) :=
  ((fieldsKept_lastTaken s).mono (by decide)).trans ((fieldsKept_activeCleared _).mono (by decide))

theorem latchesCopied_rest (s : State) : latchesCopied s = { s with regs := (latchesCopied s).regs } := by
  have hactive : ∀ t, activeCleared t = { t with regs := (activeCleared t).regs } := fun t => rfl
  unfold latchesCopied
  rw [hactive, lastTaken_rest]

theorem clearedBy_of_live (all : Bool) (hf : s.isFatal = false) :
    clearedBy all s = released all (firstCleared (latchesCopied s)) := by
  have hlive : (latchesCopied s).isFatal = false := ((fieldsKept_latchesCopied s).flag (by decide)).trans hf
  have hclear : clearLatches s = driveFaultPins (clearBroken (releaseContained (firstCleared (latchesCopied s)))) := by
    unfold latchesCopied activeCleared lastTaken at hlive ⊢
    unfold clearLatches
    dsimp only
    rw [hlive]
    rfl
  unfold clearedBy clearAllLatches released
  rw [hclear]

theorem clearedBy_of_fatal (all : Bool) {src param : Nat} (hf : s.isFatal = true) (hl : s.sys.fatal = some (src, param)) :
    clearedBy all s = released all (fatalKept src param (latchesCopied s)) := by
  have hfatal : (latchesCopied s).isFatal = true := ((fieldsKept_latchesCopied s).flag (by decide)).trans hf
  have hlatch : (latchesCopied s).sys.fatal = some (src, param) := by rw [latchesCopied_rest]; exact hl
  have hclear : clearLatches s =
      driveFaultPins (clearBroken (releaseContained (fatalKept src param (latchesCopied s)))) := by
    unfold latchesCopied activeCleared lastTaken at hfatal hlatch ⊢
    unfold clearLatches
    dsimp only
    rw [hfatal, hlatch]
    rfl
  unfold clearedBy clearAllLatches released
  rw [hclear]

end Sys2Proof.Machine
end

section
/-! The commands of FLT.CLR and FLT.INJ as accesses of a path (R647, R653, R659, R663). -/

namespace Sys2Proof.Machine

variable {bs : List Nat} {fs : List Fld} {s t u : State}

/-! ### What CLEAR and CLEARALL show -/

/-- The state after the latches' own clearing, in a unit that is not fatal. -/
theorem firstCleared_latchesCopied (s : State) :
    FieldsKept (.FLT_STAT_WCLASS :: .FLT_STAT_OVF :: (wholeReg32 Reg.FLT_FIRST ++ wholeReg32 Reg.FLT_LAST ++ actWords)) s
      (firstCleared (latchesCopied s)) :=
  ((fieldsKept_latchesCopied s).mono (by decide)).trans ((fieldsKept_firstCleared _).mono (by decide))

theorem memKept_of_regs_only (h : t = { s with regs := t.regs }) : MemKept s t := by
  rw [h]
  exact .of_eq rfl rfl rfl

theorem counts_clearedBy (all : Bool) (s L : State) (h : clearedBy all s = released all L)
    (hk : L.fld .FLT_CCNT_COUNT = s.fld .FLT_CCNT_COUNT ∧ L.fld .FLT_UCNT_COUNT = s.fld .FLT_UCNT_COUNT) :
    (all = false → (clearedBy all s).fld .FLT_CCNT_COUNT = s.fld .FLT_CCNT_COUNT ∧
      (clearedBy all s).fld .FLT_UCNT_COUNT = s.fld .FLT_UCNT_COUNT) ∧
    (all = true → (clearedBy all s).fld .FLT_CCNT_COUNT = 0 ∧ (clearedBy all s).fld .FLT_UCNT_COUNT = 0) := by
  obtain ⟨hclear, hall⟩ := counts_released L
  rw [h]
  constructor <;> rintro rfl
  · exact ⟨hclear.1.trans hk.1, hclear.2.trans hk.2⟩
  · exact hall

/-- What a clearing shows in a unit that is not fatal (R648). -/
theorem clearedBy_live (all : Bool) (hf : s.isFatal = false) : ∀ t, t = clearedBy all s →
    t.reg32 Reg.FLT_FIRST = 0 ∧
    t.reg32 Reg.FLT_LAST = (if s.reg32 Reg.FLT_FIRST = 0 then s.reg32 Reg.FLT_LAST else s.reg32 Reg.FLT_FIRST) ∧
    t.reg64 Reg.FLT_ACT = 0 ∧ t.fld .FLT_STAT_WCLASS = 0 ∧ t.flag .FLT_STAT_OVF = false ∧
    t.flag .FLT_STAT_NEW = s.flag .FLT_STAT_NEW ∧
    (all = false → t.fld .FLT_CCNT_COUNT = s.fld .FLT_CCNT_COUNT ∧ t.fld .FLT_UCNT_COUNT = s.fld .FLT_UCNT_COUNT) ∧
    (all = true → t.fld .FLT_CCNT_COUNT = 0 ∧ t.fld .FLT_UCNT_COUNT = 0) ∧
    Releases (firstCleared (latchesCopied s)) t ∧ BlocksKept [1, 2, 5, 7] s t ∧ MemKept s t := by
  rintro t rfl
  have hclear := clearedBy_of_live all hf
  have hlatch := firstCleared_latchesCopied s
  have hrel := released_releases all (firstCleared (latchesCopied s))
  rw [← hclear] at hrel
  have hregs := hrel.regs
  have hfirst := fieldsKept_firstCleared (latchesCopied s)
  have hactive := fieldsKept_activeCleared (lastTaken s)
  obtain ⟨hzero, hworst⟩ := firstCleared_clears (latchesCopied s)
  have hcounts := counts_clearedBy all s _ hclear ⟨hlatch.fld (by decide), hlatch.fld (by decide)⟩
  have hact : ∀ k < 4, (clearedBy all s).regN (Reg.FLT_ACT + k) = 0 := by
    have hword : ∀ k < 4, blockOf (Reg.FLT_ACT + k) ∉ [1, 7] ∧
        releasedFields.all (fun f => f.apart (wholeReg (Reg.FLT_ACT + k))) = true ∧
        (Fld.FLT_STAT_WCLASS :: wholeReg32 Reg.FLT_FIRST).all (fun f => f.apart (wholeReg (Reg.FLT_ACT + k))) = true := by
      decide
    intro k hk
    obtain ⟨hb, hr, hw⟩ := hword k hk
    rw [hregs.regN hb hr, hfirst.regN hw]
    exact regN_ACT_activeCleared _ hk
  refine ⟨(hregs.reg32 (by decide) (by decide)).trans hzero, ?_, ?_, (hregs.fld (by decide) (by decide)).trans hworst, ?_,
    (hregs.flag (by decide) (by decide)).trans (hlatch.flag (by decide)), hcounts.1, hcounts.2, hrel, ?_, ?_⟩
  · rw [hregs.reg32 (by decide) (by decide), (hfirst.regsKept (bs := [])).reg32 (by decide) (by decide)]
    exact ((hactive.regsKept (bs := [])).reg32 (by decide) (by decide)).trans (reg32_LAST_lastTaken s)
  · rw [reg64_eq, hact 1 (by omega), hact 2 (by omega), hact 3 (by omega), show (clearedBy all s).regN Reg.FLT_ACT = 0 from
      hact 0 (by omega)]
  · rw [hregs.flag (by decide) (by decide), hfirst.flag (by decide)]
    exact flag_OVF_activeCleared _
  · exact ((hlatch.regsKept (bs := [])).blocksKept (by decide) (by decide)).trans (hregs.blocksKept (by decide) (by decide))
  · refine (MemKept.trans ?_ hrel.mem)
    have hcopy := memKept_of_regs_only (latchesCopied_rest s)
    exact hcopy.trans (.of_eq rfl rfl rfl)

/-- What a clearing shows in the fatal state (R648). -/
theorem clearedBy_fatal (all : Bool) {src param : Nat} (hf : s.isFatal = true) (hl : s.sys.fatal = some (src, param))
    (hsrc : src < 64) : ∀ t, t = clearedBy all s →
    (all = false → t.fld .FLT_CCNT_COUNT = s.fld .FLT_CCNT_COUNT ∧ t.fld .FLT_UCNT_COUNT = s.fld .FLT_UCNT_COUNT) ∧
    (all = true → t.fld .FLT_CCNT_COUNT = 0 ∧ t.fld .FLT_UCNT_COUNT = 0) ∧
    t.reg32 Reg.FLT_FIRST = fatalFirst src param s ∧ t.fld .FLT_STAT_WCLASS = 3 ∧ t.reg64 Reg.FLT_ACT = 2 ^ src ∧
    t.isFatal = true ∧ MemKept s t := by
  rintro t rfl
  have hclear := clearedBy_of_fatal all hf hl
  have hcopy := fieldsKept_latchesCopied s
  have hkeep := fieldsKept_fatalKept (param := param) hsrc (latchesCopied s)
  have hrel := released_releases all (fatalKept src param (latchesCopied s))
  rw [← hclear] at hrel
  have hregs := hrel.regs
  obtain ⟨hfirst, hworst⟩ := reg32_FIRST_fatalKept param hsrc (latchesCopied s)
  have hcounts := counts_clearedBy all s _ hclear
    ⟨(hkeep.fld (by decide)).trans (hcopy.fld (by decide)), (hkeep.fld (by decide)).trans (hcopy.fld (by decide))⟩
  have hsame : fatalFirst src param (latchesCopied s) = fatalFirst src param s := by
    rw [fatalFirst, (hcopy.regsKept (bs := [])).reg32 (by decide) (by decide), fatalFirst]
  refine ⟨hcounts.1, hcounts.2, ?_, (hregs.fld (by decide) (by decide)).trans hworst, ?_, ?_, ?_⟩
  · rw [hregs.reg32 (by decide) (by decide), hfirst, hsame]
  · refine reg64_ACT_of_bit hsrc fun k hk => ?_
    have hword : ∀ k < 4, blockOf (Reg.FLT_ACT + k) ∉ [1, 7] ∧
        releasedFields.all (fun f => f.apart (wholeReg (Reg.FLT_ACT + k))) = true := by decide
    rw [hregs.regN (hword k hk).1 (hword k hk).2]
    exact regN_ACT_fatalKept param hk _ fun j hj => regN_ACT_activeCleared _ hj
  · exact (hregs.flag (by decide) (by decide)).trans ((hkeep.flag (by decide)).trans ((hcopy.flag (by decide)).trans hf))
  · have hmem := memKept_of_regs_only (latchesCopied_rest s)
    exact (hmem.trans (.of_eq rfl rfl rfl)).trans hrel.mem

/-! ### The accesses -/

/-- A write of FLT.CLR is served in the fatal state as well (R651). -/
theorem accessWrite_FLT_CLR {p : Path} {v : Word} (hs : s.served = true) (hm : s.mayWrite p 2 = true) :
    accessWrite p Reg.FLT_CLR v s = executed p (fltClrWrite p v (disarmBy p Reg.FLT_CLR (dropKey p s))) := by
  have hserved : (disarmBy p Reg.FLT_CLR (dropKey p s)).served = true := (served_disarmBy p _ _).trans hs
  have hmay : (disarmBy p Reg.FLT_CLR (dropKey p s)).mayWrite p (blockOf Reg.FLT_CLR) = true := by
    rw [disarmBy_rest]
    exact hm
  have hlock : lockedReg Reg.FLT_CLR = false := by decide
  have hst : (stMask Reg.FLT_CLR != 0) = false := by decide
  have hfat : fatalWritable Reg.FLT_CLR = true := by decide
  have hgate : writeGate p Reg.FLT_CLR (disarmBy p Reg.FLT_CLR (dropKey p s)) = none := by
    simp only [writeGate, hserved, hmay, hlock, hst, hfat, Bool.not_true, Bool.and_false, Bool.false_and,
      Bool.false_eq_true, if_false]
  unfold accessWrite
  simp only [hs, if_true, hgate]
  rfl

/-- A write of FLT.INJ goes on with the injection that the path has armed (R653). -/
theorem accessWrite_FLT_INJ {p : Path} {v : Word} (hs : s.served = true) (hm : s.mayWrite p 2 = true)
    (hf : s.isFatal = false) : accessWrite p Reg.FLT_INJ v s = executed p (fltInjWrite p v (dropKey p s)) := by
  have hdisarm : disarmBy p Reg.FLT_INJ (dropKey p s) = dropKey p s := by simp [disarmBy]
  have hgate : writeGate p Reg.FLT_INJ (dropKey p s) = none := by
    have hlock : lockedReg Reg.FLT_INJ = false := by decide
    have hst : (stMask Reg.FLT_INJ != 0) = false := by decide
    have hserved : (dropKey p s).served = true := hs
    have hmay : (dropKey p s).mayWrite p (blockOf Reg.FLT_INJ) = true := hm
    have hlive : (dropKey p s).isFatal = false := hf
    simp only [writeGate, hserved, hmay, hlive, hlock, hst, Bool.not_true, Bool.false_and, Bool.false_eq_true, if_false]
  unfold accessWrite
  simp only [hs, if_true, hdisarm, hgate]
  rfl

/-- A command that is an executed write of its path: the path's shadows and the host's answer alone change beside what the
write does. -/
theorem runs_executed {c : Instr} {p : Path} {a : Nat} {v : Word} {P : State → Prop}
    (hexec : exec c s = .next (pathWrite p a v s)) (haccess : accessWrite p a v s = executed p (0, u))
    (h : ∀ ps host, (p = .host → host.answer.status = 0) → P { u with paths := ps, host := host }) : Runs c s P := by
  refine ⟨_, hexec, ?_⟩
  have haccess : accessWrite p a v s = (0, u.modPath p (fun x => { x with readShadow := [] })) := haccess
  rw [pathWrite_of_access haccess, answerTo_rest]
  exact h _ _ fun hp => by rw [answerTo_host_of_host hp]

/-- A command that is a refused write of its path. -/
theorem runs_refusedWrite {c : Instr} {p : Path} {a : Nat} {v : Word} {P : State → Prop}
    (hexec : exec c s = .next (pathWrite p a v s)) (haccess : accessWrite p a v s = (stDeny, u))
    (h : ∀ host, (p = .host → host.answer.status = stDeny) → P { u with host := host }) : Runs c s P := by
  refine ⟨_, hexec, ?_⟩
  rw [pathWrite_of_access haccess, answerTo_rest]
  exact h _ fun hp => by rw [answerTo_host_of_host hp]

theorem executed_deny (p : Path) (u : State) : executed p (stDeny, u) = (stDeny, u) := rfl

end Sys2Proof.Machine
end

section
/-! A report after the reaction of its block, and the wire faults (R638, R641). -/

namespace Sys2Proof.Machine

variable {bs : List Nat} {fs : List Fld} {s t u : State} {src param p2 p3 : Nat}

/-! ### A report after its block's reaction -/

theorem Reacted.watches (h : Reacted [1, 9] s t) (hw : Watches src s) : Watches src t := by
  obtain ⟨hbusy, hphase, hign⟩ := hw
  have hp : t.phase = s.phase := h.regs.fld (g := .SYS_BOOTST_PHASE) (by decide) rfl
  refine ⟨?_, hp ▸ hphase, ?_⟩
  · rw [h.flt]; exact hbusy
  · rw [h.flt]; exact hign

theorem Reacted.latchFields (h : Reacted [1, 9] s t) : ∀ g ∈ Machine.latchFields, t.fld g = s.fld g :=
  h.regs.latchFields (by decide) (by decide)

/-- A report that does not begin the fatal state changes no register outside the report's blocks. -/
theorem blocksKept_acceptReport {cls : Nat} {inj : Bool} (hw : Watches src s) (hsrc : src < 64)
    (h : cls ≠ clsF ∨ s.isFatal = true) : BlocksKept reportBlocks s (acceptReport cls src param p2 p3 inj s) :=
  (((fieldsKept_latched hsrc s).regsKept (bs := [])).blocksKept (by decide) (by decide)).trans
    ((kept_acceptReport hw h).regs.blocksKept (by decide) (by decide))

/-! ### The commands -/

theorem isSource_iff : isSource src = true ↔ 1 ≤ src ∧ src ≤ 20 := by simp [isSource]

theorem belayReport_wellFormed_iff : (Instr.belayReport src param p2 p3).wellFormed = true ↔
    1 ≤ src ∧ src ≤ 20 ∧ param < 256 ∧ p2 < 65536 := by
  change (isSource src && fits 8 param && fits 16 p2) = true ↔ _
  simp [isSource, fits, and_assoc]

theorem runs_belayReport {P : State → Prop} (hwf : (Instr.belayReport src param p2 p3).wellFormed = true)
    (h : P (report src param p2 p3 (atDetection src param p2 s))) : Runs (.belayReport src param p2 p3) s P := by
  obtain ⟨h1, h20, hparam, hp2⟩ := belayReport_wellFormed_iff.mp hwf
  exact ⟨_, answerIf_next.mpr ⟨by simp [h1, h20, hparam, hp2], rfl⟩, h⟩

theorem runs_wireFault {high : Bool} {P : State → Prop} (hwf : (Instr.wireFault src high).wellFormed = true)
    (h : P (wireFault src high false s)) : Runs (.wireFault src high) s P := by
  obtain ⟨h1, h20⟩ := isSource_iff.mp hwf
  exact ⟨_, answerIf_next.mpr ⟨by simp [h1, h20], rfl⟩, h⟩

theorem runs_levelRepeat {P : State → Prop} (hwf : (Instr.levelRepeat src).wellFormed = true)
    (h : P (levelRepeat src s)) : Runs (.levelRepeat src) s P := ⟨_, answerIf_next.mpr ⟨hwf, rfl⟩, h⟩

/-- A level source is one of the collector's. -/
theorem levelRepeat_src_lt (hwf : (Instr.levelRepeat src).wellFormed = true) : src < 64 := by
  change [1, 2, 9, 16, 17, 19, 21].contains src = true at hwf
  simp only [List.contains_eq_mem, decide_eq_true_eq, List.mem_cons, List.not_mem_nil, or_false] at hwf
  omega

/-! ### Wire faults (R638) -/

/-- The condition that a wire fault holds, unless it is injected. -/
def faultHeld (src : Nat) (high inj : Bool) (s : State) : State :=
  if inj then s
  else { s with flt := { s.flt with cond := s.flt.cond.filter (fun c => c.1 != src) ++ [(src, wireParam src high)] } }

/-- The report of a wire fault. -/
def faultReported (src : Nat) (high inj : Bool) (s : State) : State :=
  acceptReport (belayClass 21 (wireParam src high)) 21 (wireParam src high) 0 0 inj (faultHeld src high inj s)

theorem wireFault_of_watched {high inj : Bool} (h : s.flt.ignored.contains src = false) : wireFault src high inj s =
    { faultReported src high inj s with
      flt := { (faultReported src high inj s).flt with
        ignored := (faultReported src high inj s).flt.ignored ++ [src] } } := by
  unfold wireFault
  rw [h]
  rfl

theorem wireFault_of_ignored {high inj : Bool} (h : s.flt.ignored.contains src = true) : wireFault src high inj s = s := by
  unfold wireFault
  rw [h]
  rfl

theorem faultHeld_rest (src : Nat) (high inj : Bool) (s : State) : faultHeld src high inj s =
    { s with flt := { s.flt with cond := (faultHeld src high inj s).flt.cond } } := by
  unfold faultHeld
  split <;> rfl

theorem wireParam_lt (high : Bool) (h : src ≤ 20) : wireParam src high < 256 := by
  unfold wireParam
  split <;> omega

/-- A wire fault that the collector watches is latched, its condition held unless injected, and its pair ignored from then. -/
theorem wireFault_faults {high inj : Bool} (hw : Watches 21 s) (h : s.flt.ignored.contains src = false) :
    ∀ t, t = wireFault src high inj s →
    Latched 21 (wireParam src high) (belayClass 21 (wireParam src high)) inj s t ∧
      (clsU ≤ belayClass 21 (wireParam src high) → t.flag .FLT_STAT_FLTHS = true) ∧
      t.flt = { s.flt with
        busy := true, cond := (faultHeld src high inj s).flt.cond, ignored := s.flt.ignored ++ [src],
        hkaRun := t.flt.hkaRun } ∧
      RegsKept fatalBlocks [.FLT_STAT_FLTHS, .FLT_STAT_FATAL]
        (latched (belayClass 21 (wireParam src high)) 21 (wireParam src high) inj (faultHeld src high inj s)) t ∧
      MemKept s t := by
  rintro t rfl
  have hheld : Watches 21 (faultHeld src high inj s) := by rw [faultHeld_rest]; exact hw
  have hfields : ∀ g ∈ latchFields, (faultHeld src high inj s).fld g = s.fld g := by
    rw [faultHeld_rest]
    exact fun _ _ => rfl
  have hlatched := latched_acceptReport (param := wireParam src high) (p2 := 0) (p3 := 0) (inj := inj) hheld (by decide)
    (belayClass_le 21 (wireParam src high))
  have hpins := flag_FLTHS_acceptReport (param := wireParam src high) (p2 := 0) (p3 := 0) (inj := inj) hheld (by decide)
    (belayClass_le 21 (wireParam src high))
  have hflt := flt_acceptReport (cls := belayClass 21 (wireParam src high)) (param := wireParam src high) (p2 := 0) (p3 := 0)
    (inj := inj) hheld
  have hregs := regsKept_acceptReport (cls := belayClass 21 (wireParam src high)) (param := wireParam src high) (p2 := 0)
    (p3 := 0) (inj := inj) hheld
  have hmem := memKept_acceptReport (belayClass 21 (wireParam src high)) 21 (wireParam src high) 0 0 inj
    (faultHeld src high inj s)
  rw [wireFault_of_watched h]
  unfold faultReported
  generalize acceptReport (belayClass 21 (wireParam src high)) 21 (wireParam src high) 0 0 inj
    (faultHeld src high inj s) = u at *
  refine ⟨(hlatched.congr_left hfields).congr (by decide) (fun _ _ => rfl) hlatched.busy, hpins, ?_,
    hregs.trans (.of_regs rfl), ?_⟩
  · rw [hflt, faultHeld_rest]
  · refine MemKept.trans ?_ (hmem.trans (.of_eq rfl rfl rfl))
    rw [faultHeld_rest]
    exact .of_eq rfl rfl rfl

end Sys2Proof.Machine
end

section
/-! Fault injection (R653). -/

namespace Sys2Proof.Machine

variable {s t u : State} {p : Path} {src param : Nat}

/-! ### The write of FLT.INJ -/

theorem fieldsKept_disarm (s : State) : FieldsKept [.FLT_STAT_INJARM] s (disarm s) :=
  FieldsKept.trans (t := { s with flt := { s.flt with injPath := none } }) (.of_regs rfl)
    ((FieldsKept.refl _ _).setFlag List.mem_cons_self (by decide))

theorem flag_INJARM_disarm (s : State) : (disarm s).flag .FLT_STAT_INJARM = false :=
  flag_setFlag_same _ _ _ (by decide) rfl

theorem fltInjWrite_arms {s : State} (ht : s.testMode = true) (hi : s.flt.injPath ≠ some p) :
    fltInjWrite p 0x6E19 s =
      (0, { s with flt := { s.flt with injPath := some p } }.setFlag .FLT_STAT_INJARM true) := by
  unfold fltInjWrite
  rw [ht, if_neg hi]
  rfl

theorem fltInjWrite_refused {s : State} {v : Word} (hi : s.flt.injPath ≠ some p) (h : s.testMode = false ∨ v ≠ 0x6E19) :
    fltInjWrite p v s = (stDeny, s) := by
  unfold fltInjWrite
  obtain h | h := h
  · rw [h]
    rfl
  · rw [if_neg hi, if_neg h, ite_self]

theorem fltInjWrite_injects {s : State} {v : Word} (ht : s.testMode = true) (hi : s.flt.injPath = some p)
    (h : inject v.toNat (disarm s) = some t) : fltInjWrite p v s = (0, t) := by
  unfold fltInjWrite
  rw [ht, if_pos hi, h]
  rfl

theorem fltInjWrite_rejects {s : State} {v : Word} (ht : s.testMode = true) (hi : s.flt.injPath = some p)
    (h : inject v.toNat (disarm s) = none) : fltInjWrite p v s = (stDeny, disarm s) := by
  unfold fltInjWrite
  rw [ht, if_pos hi, h]
  rfl

/-! ### What is injected -/

theorem inject_report (h1 : 1 ≤ src) (h20 : src ≤ 20) (s : State) :
    inject (src + 256 * param) s = some (injectReport src param s) := by
  have hsrc : (src + 256 * param) % 64 = src := by omega
  have hmode : (src + 256 * param) / 64 % 4 = 0 := by omega
  have hparam : (src + 256 * param) / 256 = param := by omega
  unfold inject
  simp only [hsrc, hmode, hparam]
  rw [if_neg (by simp; omega)]
  rfl

theorem inject_wire {m : Nat} (h1 : 1 ≤ src) (h20 : src ≤ 20) (hm : m = 1 ∨ m = 2) (s : State) :
    inject (src + 64 * m + 256 * param) s = some (wireFault src (m == 2) true s) := by
  have hsrc : (src + 64 * m + 256 * param) % 64 = src := by omega
  have hmode : (src + 64 * m + 256 * param) / 64 % 4 = m := by omega
  unfold inject
  simp only [hsrc, hmode]
  rw [if_neg (by simp; omega), if_neg (by omega)]

theorem inject_none {v : Nat} (h : v % 64 < 1 ∨ 20 < v % 64 ∨ v / 64 % 4 = 3) (s : State) : inject v s = none := by
  unfold inject
  dsimp only
  rw [if_pos (by simpa [or_assoc] using h)]

theorem toNat_word {v : Nat} (h : v < 65536) : (word v).toNat = v := by
  rw [BitVec.toNat_ofNat]
  exact Nat.mod_eq_of_lt h

/-- The state that an injection acts on: its path's key is dropped, and it is no longer armed. -/
def injecting (p : Path) (s : State) : State := disarm (dropKey p s)

theorem fieldsKept_injecting (p : Path) (s : State) : FieldsKept [.FLT_STAT_INJARM] s (injecting p s) :=
  (FieldsKept.refl _ s).dropKey.trans (fieldsKept_disarm _)

theorem Watches.injecting (h : Watches src s) (p : Path) : Watches src (Machine.injecting p s) := by
  have hphase : (Machine.injecting p s).phase = s.phase := (fieldsKept_injecting p s).fld (g := .SYS_BOOTST_PHASE) rfl
  exact ⟨h.1, hphase ▸ h.2.1, h.2.2⟩

theorem latchFields_injecting (p : Path) (s : State) : ∀ g ∈ latchFields, (injecting p s).fld g = s.fld g :=
  (fieldsKept_injecting p s).regsKept.latchFields (bs := []) (by decide) (by decide)

/-- An injected report, or an injected wire fault's, leaves the injection disarmed. -/
theorem flag_INJARM_of_latched {cls src : Nat} {inj : Bool} (hsrc : src < 64)
    (h : RegsKept fatalBlocks [.FLT_STAT_FLTHS, .FLT_STAT_FATAL] (latched cls src param inj s) t) :
    t.flag .FLT_STAT_INJARM = s.flag .FLT_STAT_INJARM :=
  (h.flag (by decide) (by decide)).trans ((fieldsKept_latched hsrc s).flag (by decide))

end Sys2Proof.Machine
end

section
/-! Words with an uncorrectable error (R639 sources 4 and 5): what their reports leave of them. -/

namespace Sys2Proof.Machine

variable {s t u : State} {p : Path} {src param p2 p3 : Nat}

/-! ### Descriptors, words and registers with an uncorrectable error (R639 sources 4 and 5) -/

/-- A report of a class below F changes neither the tables nor what the ECC has found nor the descriptors. -/
theorem keeps_acceptReport {cls : Nat} {inj : Bool} (h : cls ≠ clsF) (s : State) :
    (acceptReport cls src param p2 p3 inj s).tab = s.tab ∧
      (acceptReport cls src param p2 p3 inj s).nvm.store = s.nvm.store ∧
      (∀ w, (acceptReport cls src param p2 p3 inj s).wordErr w = s.wordErr w) ∧
      (acceptReport cls src param p2 p3 inj s).xfer.descrs = s.xfer.descrs := by
  by_cases hw : Watches src s
  · have hkept := kept_acceptReport (param := param) (p2 := p2) (p3 := p3) (inj := inj) hw (.inl h)
    have hrest := latched_rest cls src param inj s
    refine ⟨hkept.tab.trans ?_, hkept.store.trans ?_, fun w => (hkept.wordErr w).trans ?_, hkept.descrs.trans ?_⟩ <;>
      rw [hrest]
    rfl
  · rw [acceptReport_of_not_watches hw]
    exact ⟨rfl, rfl, fun _ => rfl, rfl⟩

theorem wordErr_flashEcc (hs : param % 128 < 32) (hp : p2 < 2048) (s : State) :
    (flashEcc param p2 s).wordErr (256 * (param % 128) + p2 / 8) = some (decide (128 ≤ param)) := by
  unfold flashEcc
  rw [if_pos (by simp [hs, hp])]
  dsimp only
  generalize 256 * (param % 128) + p2 / 8 = w
  have hfound : ((s.nvm.errs.filter (fun e => e.1 != w) ++ [(w, decide (128 ≤ param))]).find? (fun e => e.1 == w)) =
      some (w, decide (128 ≤ param)) := by
    rw [List.find?_append, List.find?_eq_none.mpr (by simp)]
    simp
  have hecc : (if s.nvm.ecc.contains w then s.nvm.ecc else s.nvm.ecc ++ [w]).contains w = true := by
    split <;> simp_all
  simp only [State.wordErr, hecc, if_true, hfound, Option.map_some]

/-- No stream frame that holds the word is left (R639 source 5, 0x80). -/
theorem descrs_dropRamWord (w : Nat) (s : State) : (dropRamWord w s).xfer.descrs.all
    (fun d => !(d.record.isEmpty && d.frames.any (fun f => frameHolds 0 s.ringBlocks f w))) = true := by
  unfold dropRamWord
  dsimp only
  rw [descrs_settleDescrs, List.all_eq_true]
  intro d hd
  obtain ⟨e, he, hdests, hrec, hframes⟩ := mem_keptDescrs hd
  obtain ⟨f, -, hf⟩ := List.mem_map.mp he
  rw [hrec, hframes]
  subst hf
  by_cases hholds : (if f.record.isEmpty = true then f.frames.any (fun g => frameHolds 0 s.ringBlocks g w)
      else f.frames.any (fun g => frameHolds s.ringBlocks s.capBlocks g w)) = true
  · rw [if_pos hholds] at hdests
    exact absurd rfl hdests
  · rw [if_neg hholds]
    by_cases hempty : f.record.isEmpty = true
    · rw [if_pos hempty] at hholds
      simpa [hempty] using hholds
    · simp [hempty]

theorem result_dropResult (w : Nat) (s : State) :
    (readAt zeroWord (dropResult w s).tab.result (w / 2 * 2)).getLsbD 7 = false ∧
      (∀ k, k ≠ w / 2 * 2 → readAt zeroWord (dropResult w s).tab.result k = readAt zeroWord s.tab.result k) := by
  unfold dropResult
  dsimp only
  simp only [readAt_writeAt]
  refine ⟨?_, fun k hk => if_neg (Ne.symm hk)⟩
  rw [if_true, getLsbD_putField _ _ _ _ _ (by decide), if_pos (by decide)]
  rfl

end Sys2Proof.Machine
end

section
/-! The reports that the commands bring about (R85, R169, R637 to R641, R649). -/

namespace Sys2Proof.Machine

variable {s t u : State} {src param p2 p3 : Nat}

/-! ### BELAY_REPORT -/

theorem memKept_belayReport (src param p2 p3 : Nat) (s : State) :
    MemKept s (report src param p2 p3 (atDetection src param p2 s)) :=
  (reacted_atDetection src param p2 s).1.mem.trans (memKept_acceptReport _ _ _ _ _ _ _)

/-- A report that the collector takes is latched and counted, after its block's own reaction. -/
theorem latched_belayReport (hw : Watches src s) (hsrc : src < 64) : Latched src param (belayClass src param) false s
    (report src param p2 p3 (atDetection src param p2 s)) := by
  have hreact := (reacted_atDetection src param p2 s).1
  exact (latched_acceptReport (hreact.watches hw) hsrc (belayClass_le src param)).congr_left hreact.latchFields

theorem reported_belayReport (hw : Watches src s) (hsrc : src < 64) : Reported src param (belayClass src param) s
    (report src param p2 p3 (atDetection src param p2 s)) :=
  (latched_belayReport hw hsrc).reported (flag_FLTHS_acceptReport ((reacted_atDetection src param p2 s).1.watches hw) hsrc
    (belayClass_le src param))

theorem blocksKept_belayReport (hw : Watches src s) (hsrc : src < 64) (hcls : belayClass src param ≠ clsF)
    (h : src ≠ 15 ∨ param ≠ 3) :
    BlocksKept reportBlocks s (report src param p2 p3 (atDetection src param p2 s)) := by
  obtain ⟨hreact, hquiet⟩ := reacted_atDetection src param p2 s
  exact ((hquiet h).regs.blocksKept (by decide) (by simp)).trans
    (blocksKept_acceptReport (hreact.watches hw) hsrc (.inl hcls))

/-- The sources whose blocks do nothing of their own at detection (R639). -/
theorem atDetection_of_quiet (h4 : src ≠ 4) (h5 : src ≠ 5) (h15 : src ≠ 15 ∨ param ≠ 3) (s : State) :
    atDetection src param p2 s = s := by
  have hgone : ¬ (src = 15 ∧ param = 3) := by tauto
  simp [atDetection, h4, h5, hgone]

/-- A report that the collector does not take leaves the block's reaction alone (R642). -/
theorem belayReport_lost (h : s.flt.busy = true ∨ s.phase ≤ 1 ∨ s.flt.ignored.contains src = true) :
    report src param p2 p3 (atDetection src param p2 s) = atDetection src param p2 s := by
  have hreact := (reacted_atDetection src param p2 s).1
  have hphase : (atDetection src param p2 s).phase = s.phase := hreact.regs.fld (g := .SYS_BOOTST_PHASE) (by decide) rfl
  apply acceptReport_lost
  rw [hreact.flt, hphase]
  exact h

theorem belayReport_src_lt (h : (Instr.belayReport src param p2 p3).wellFormed = true) : src < 64 := by
  obtain ⟨-, h20, -⟩ := belayReport_wellFormed_iff.mp h
  omega

/-- A report of class F begins the fatal state (R650). -/
theorem belayReport_begins (hw : Watches src s) (hsrc : src < 64) (hcls : belayClass src param = clsF)
    (hlive : s.isFatal = false) : ∀ t, t = report src param p2 p3 (atDetection src param p2 s) →
    t.isFatal = true ∧ t.sys.fatal = some (s.sys.fatal.getD (src, param)) ∧ t.flag .SEQ_STAT_RUNNING = false ∧
      t.flag .XFER_STAT_RUN = false ∧ (∀ k, k < 4 → t.fldBit .EXC_STAT_CLRST k = true) ∧
      (∀ n, n < 6 → LoopShows n t) ∧ (∀ c, c ∈ t.conns → 100 ≤ c.owner ∧ c.owner < 104) := by
  have hreact := (reacted_atDetection src param p2 s).1
  have hwatch := hreact.watches hw
  rw [report, hcls, ← hreact.sys]
  rintro t rfl
  exact ⟨isFatal_acceptReport hwatch hsrc,
    acceptReport_begins_establishes hwatch ((hreact.regs.flag (by decide) rfl).trans hlive) _ rfl⟩

/-- The ECC's word is noted whether or not the report of source 4 is taken (R580). -/
theorem wordErr_belayReport (hcls : belayClass 4 param ≠ clsF) (hsector : param % 128 < 32) (hp2 : p2 < 2048) (s : State) :
    (report 4 param p2 p3 (atDetection 4 param p2 s)).wordErr (256 * (param % 128) + p2 / 8) = some (decide (128 ≤ param)) ∧
      (report 4 param p2 p3 (atDetection 4 param p2 s)).nvm.store = s.nvm.store := by
  have hnoted : atDetection 4 param p2 s = flashEcc param p2 s := rfl
  have hstore : (flashEcc param p2 s).nvm.store = s.nvm.store := by rw [flashEcc_rest]
  obtain ⟨-, hkept, herr, -⟩ := keeps_acceptReport (src := 4) (param := param) (p2 := p2) (p3 := p3) (inj := false) hcls
    (flashEcc param p2 s)
  rw [hnoted]
  exact ⟨(herr _).trans (wordErr_flashEcc hsector hp2 s), hkept.trans hstore⟩

/-- The frame that holds the word is gone whether or not the report of source 5 is taken (R639). -/
theorem descrs_belayReport (s : State) : (report 5 0x80 p2 p3 (atDetection 5 0x80 p2 s)).xfer.descrs.all
    (fun d => !(d.record.isEmpty && d.frames.any (fun f => frameHolds 0 s.ringBlocks f p2))) = true := by
  have hdropped : atDetection 5 0x80 p2 s = dropRamWord p2 s := rfl
  obtain ⟨-, -, -, hkept⟩ := keeps_acceptReport (cls := belayClass 5 0x80) (src := 5) (param := 0x80) (p2 := p2) (p3 := p3)
    (inj := false) (by decide) (dropRamWord p2 s)
  rw [hdropped, report, hkept]
  exact descrs_dropRamWord p2 s

/-- The result register that holds the word reads invalid whether or not the report of source 5 is taken (R639). -/
theorem result_belayReport (s : State) :
    (readAt zeroWord (report 5 0x81 p2 p3 (atDetection 5 0x81 p2 s)).tab.result (p2 / 2 * 2)).getLsbD 7 = false ∧
      (∀ k, k ≠ p2 / 2 * 2 → readAt zeroWord (report 5 0x81 p2 p3 (atDetection 5 0x81 p2 s)).tab.result k =
        readAt zeroWord s.tab.result k) := by
  have hdropped : atDetection 5 0x81 p2 s = dropResult p2 s := rfl
  obtain ⟨hkept, -⟩ := keeps_acceptReport (cls := belayClass 5 0x81) (src := 5) (param := 0x81) (p2 := p2) (p3 := p3)
    (inj := false) (by decide) (dropResult p2 s)
  rw [hdropped, report, hkept]
  exact result_dropResult p2 s

/-! ### LEVEL_REPEAT -/

theorem levelRepeat_reports {rest : List (Nat × Nat × Nat)}
    (h : (s.reg (Reg.FLT_ACT + src / 16)).getLsbD (src % 16) = false) (hl : levelReports s src = (param, p2, p3) :: rest) :
    levelRepeat src s = acceptReport (belayClass src param) src param p2 p3 false s := by
  rw [levelRepeat, h, hl]
  rfl

theorem levelRepeat_quiet (h : (s.reg (Reg.FLT_ACT + src / 16)).getLsbD (src % 16) = true ∨ levelReports s src = []) :
    levelRepeat src s = s := by
  unfold levelRepeat
  obtain h | h := h
  · rw [if_pos h]
  · rw [h, ite_self]

/-! ### CRYSTAL_STOP, PROT_MAP_CHECK and HOST_KEEPALIVE_EXPIRE -/

/-- The crystal has stopped. -/
def crystalLost (s : State) : State := { s with sys := { s.sys with crystal := false } }

theorem crystalStop_of_crystal (h : s.sys.crystal = true) :
    crystalStop s = acceptReport clsC 18 1 0 0 false (crystalLost s) := by
  rw [crystalStop, if_pos h]
  rfl

theorem reacted_crystalLost (s : State) : RegsKept [] [] s (crystalLost s) ∧ MemKept s (crystalLost s) ∧
    (Watches 18 s → Watches 18 (crystalLost s)) := ⟨.of_regs rfl, .of_eq rfl rfl rfl, fun h => h⟩

/-- Losing the crystal reports source 18 (R169, R639). -/
theorem crystalStop_reports (hc : s.sys.crystal = true) (hw : Watches 18 s) :
    (crystalStop s).sys = { s.sys with crystal := false } ∧ Reported 18 1 clsC s (crystalStop s) ∧
      BlocksKept reportBlocks s (crystalStop s) ∧ MemKept s (crystalStop s) := by
  have hsys : (crystalLost s).sys = { s.sys with crystal := false } := rfl
  obtain ⟨hregs, hmem, hwatch⟩ := reacted_crystalLost s
  rw [crystalStop_of_crystal hc]
  generalize crystalLost s = u at *
  have hw := hwatch hw
  have hlatched := latched_acceptReport (cls := clsC) (param := 1) (p2 := 0) (p3 := 0) (inj := false) hw (by decide)
    (by decide)
  refine ⟨?_, (hlatched.congr_left (hregs.latchFields (by decide) (by decide))).reported fun h => absurd h (by decide),
    (hregs.blocksKept (by decide) (by simp)).trans (blocksKept_acceptReport hw (by decide) (.inl (by decide))),
    hmem.trans (memKept_acceptReport _ _ _ _ _ _ _)⟩
  rw [(kept_acceptReport hw (.inl (by decide))).sys, latched_rest]
  exact hsys

theorem protMapCheck_of_mismatch (hl : s.flag .SYS_STAT_LOCKED = true) (hp : protCheck s.sys.prot ≠ ew s.sys.prot 13) :
    protMapCheck s =
      acceptReport clsF 2 0 (protCheck s.sys.prot).toNat (ew s.sys.prot 13).toNat false s := by
  rw [protMapCheck, if_pos (by simp [hl, hp])]
  rfl

theorem protMapCheck_of_match (h : s.flag .SYS_STAT_LOCKED = false ∨ protCheck s.sys.prot = ew s.sys.prot 13) :
    protMapCheck s = s := by
  rw [protMapCheck, if_neg]
  obtain h | h := h <;> simp [h]

/-- The fields that the end of the keep-alive writes beside its report. -/
def keepAliveFields : List Fld := .FLT_STAT_HKAEXP :: .PWR_STAT_HWDR :: hostCutFields

/-- The end of the keep-alive, once its report is made: the flags, and the host's supply cut. -/
def keepAliveCut (s : State) : State :=
  let t := (s.setFlag .FLT_STAT_HKAEXP true).setFlag .PWR_STAT_HWDR true
  hostCutOff { t with flt := { t.flt with hkaRun := false } }

theorem keepAliveExpire_of_run (h : s.flt.hkaRun = true) :
    keepAliveExpire s = keepAliveCut (acceptReport clsU 20 0 (s.fld .FLT_STAT_HKA) 0 false s) := by
  rw [keepAliveExpire, if_pos h]
  rfl

theorem keepAliveCut_cuts (s : State) : Kept [] keepAliveFields s (keepAliveCut s) ∧
    (keepAliveCut s).flag .FLT_STAT_HKAEXP = true ∧ (keepAliveCut s).flag .PWR_STAT_HWDR = true ∧
    (keepAliveCut s).flt.hkaRun = false ∧ (keepAliveCut s).pwr.hostCut = true := by
  have hflags : Kept [] keepAliveFields s ((s.setFlag .FLT_STAT_HKAEXP true).setFlag .PWR_STAT_HWDR true) :=
    ((Kept.refl s).setFlagIn (by decide) (by decide)).setFlagIn (by decide) (by decide)
  have hexp : ((s.setFlag .FLT_STAT_HKAEXP true).setFlag .PWR_STAT_HWDR true).flag .FLT_STAT_HKAEXP = true :=
    (flag_setFlag_other _ _ _ _ (by decide) (by decide)).trans (flag_setFlag_same _ _ _ (by decide) rfl)
  have hwdr : ((s.setFlag .FLT_STAT_HKAEXP true).setFlag .PWR_STAT_HWDR true).flag .PWR_STAT_HWDR = true :=
    flag_setFlag_same _ _ _ (by decide) rfl
  unfold keepAliveCut
  generalize (s.setFlag .FLT_STAT_HKAEXP true).setFlag .PWR_STAT_HWDR true = t at *
  obtain ⟨hcut, hrun, hoff⟩ := hostCutOff_cuts { t with flt := { t.flt with hkaRun := false } }
  exact ⟨(hflags.withHkaRun false).trans (hcut.mono (List.Subset.refl _) (by decide)),
    (hcut.regs.flag (by decide) (by decide)).trans hexp, (hcut.regs.flag (by decide) (by decide)).trans hwdr, hrun, hoff⟩

/-- The end of the keep-alive reports source 20 and cuts the host's supply (R649). -/
theorem keepAliveExpire_reports (hr : s.flt.hkaRun = true) (hw : Watches 20 s) :
    Reported 20 0 clsU s (keepAliveExpire s) ∧ (keepAliveExpire s).flag .FLT_STAT_HKAEXP = true ∧
      (keepAliveExpire s).flag .PWR_STAT_HWDR = true ∧ (keepAliveExpire s).flt.hkaRun = false ∧
      (keepAliveExpire s).pwr.hostCut = true ∧ MemKept s (keepAliveExpire s) := by
  have hlatched := latched_acceptReport (cls := clsU) (param := 0) (p2 := s.fld .FLT_STAT_HKA) (p3 := 0) (inj := false)
    hw (by decide) (by decide)
  have hpins := flag_FLTHS_acceptReport (cls := clsU) (param := 0) (p2 := s.fld .FLT_STAT_HKA) (p3 := 0) (inj := false)
    hw (by decide) (by decide)
  have hmem := memKept_acceptReport clsU 20 0 (s.fld .FLT_STAT_HKA) 0 false s
  rw [keepAliveExpire_of_run hr]
  generalize acceptReport clsU 20 0 (s.fld .FLT_STAT_HKA) 0 false s = t at *
  obtain ⟨hcut, hexp, hwdr, hrun, hoff⟩ := keepAliveCut_cuts t
  have hbusy : (keepAliveCut t).flt.busy = true := by
    rw [hcut.flt]
    exact hlatched.busy
  exact ⟨(hlatched.congr (by decide) (hcut.regs.latchFields (by decide) (by decide)) hbusy).reported
    fun h => (hcut.regs.flag (by decide) (by decide)).trans (hpins h), hexp, hwdr, hrun, hoff, hmem.trans hcut.mem⟩

end Sys2Proof.Machine
end

section
/-! The commands that write FLT.CLR and FLT.INJ (R647, R653, R659), each as one access of its path. -/

namespace Sys2Proof.Machine

variable {s t u : State} {p : Path} {src param : Nat} {P : State → Prop}

/-! ### CLEAR, CLEARALL and KICK -/

/-- CLEAR, or CLEARALL, on a path. -/
def clearing (p : Path) (all : Bool) : Instr := if all then .clearall p else .clear p

theorem eq_clearing {c : Instr} (h : c = .clear p ∨ c = .clearall p) : ∃ all, c = clearing p all := by
  obtain rfl | rfl := h
  · exact ⟨false, rfl⟩
  · exact ⟨true, rfl⟩

theorem clearing_eq_clear {all : Bool} (h : clearing p all = .clear p) : all = false := by
  cases all with
  | false => rfl
  | true => exact Instr.noConfusion h

theorem clearing_eq_clearall {all : Bool} (h : clearing p all = .clearall p) : all = true := by
  cases all with
  | false => exact Instr.noConfusion h
  | true => rfl

/-- The state in which a write of FLT.CLR takes effect: its path's key is dropped and its path's injection ends (R653). -/
def clearBase (p : Path) (s : State) : State := disarmBy p Reg.FLT_CLR (dropKey p s)

theorem clearBase_of_ne (h : s.flt.injPath ≠ some p) : clearBase p s = dropKey p s :=
  disarmBy_of_ne (s := dropKey p s) h _

theorem fieldsKept_clearBase (p : Path) (s : State) : FieldsKept [.FLT_STAT_INJARM] s (clearBase p s) :=
  (FieldsKept.refl _ s).dropKey.trans (fieldsKept_disarmBy p Reg.FLT_CLR (dropKey p s))

theorem clearBase_rest (p : Path) (s : State) : clearBase p s =
    { s with regs := (clearBase p s).regs, paths := (clearBase p s).paths, flt := { s.flt with
      injPath := (clearBase p s).flt.injPath } } := by
  unfold clearBase
  rw [disarmBy_rest]
  rfl

theorem runs_clearing (all : Bool) (hp : okPath p = true) (hs : s.served = true) (hm : s.mayWrite p 2 = true)
    (h : ∀ ps host, (p = .host → host.answer.status = 0) →
      P { clearedBy all (clearBase p s) with paths := ps, host := host }) : Runs (clearing p all) s P := by
  cases all with
  | false => exact runs_executed (answerIf_next.mpr ⟨hp, rfl⟩) (accessWrite_FLT_CLR hs hm) h
  | true => exact runs_executed (answerIf_next.mpr ⟨hp, rfl⟩) (accessWrite_FLT_CLR hs hm) h

/-- An access's shadows and answer change nothing that a loop shows. -/
theorem LoopShows.of_access {n : Nat} (h : LoopShows n s) (ps : List (Nat × PathState)) (host : HostPort) (hn : n < 6) :
    LoopShows n { s with paths := ps, host := host } := by
  have hall : ∀ n < 6, (loopInputs n ++ loopFields n).all (fun g => !([] : List Nat).contains (blockOf g.addr) &&
      ([] : List Fld).all (fun f => f.apart g)) = true := by decide +kernel
  exact h.of_kept (.of_regs rfl) rfl rfl (hall n hn)

theorem kickTimer_rest (p : Path) (s : State) : kickTimer p s =
    { s with flt := { s.flt with hkaRun := if p = .host then s.hkaEnabled else s.flt.hkaRun } } := by
  unfold kickTimer
  simp only [beq_iff_eq]
  split <;> rfl

theorem runs_kick (hp : okPath p = true) (hs : s.served = true) (hm : s.mayWrite p 2 = true)
    (hi : s.flt.injPath ≠ some p)
    (h : ∀ ps host, (p = .host → host.answer.status = 0) →
      P { kickTimer p (dropKey p s) with paths := ps, host := host }) : Runs (.kick p) s P := by
  refine runs_executed (answerIf_next.mpr ⟨hp, rfl⟩) (accessWrite_FLT_CLR hs hm) ?_
  rw [disarmBy_of_ne (s := dropKey p s) hi]
  exact h

/-- A write of FLT.CLR with any other key or command is refused (R647). -/
theorem fltClrWrite_refused {v : Nat} (hv : v < 65536) (h : v / 256 ≠ 0xB7 ∨ (v % 16 ≠ 1 ∧ v % 16 ≠ 2 ∧ v % 16 ≠ 3))
    (s : State) : fltClrWrite p (word v) s = (stDeny, s) := by
  have hkey : getField (word v) 8 8 = v / 256 := by
    simp [getField, word, Nat.shiftRight_eq_div_pow, Nat.mod_eq_of_lt hv]
    omega
  have hcmd : getField (word v) 0 4 = v % 16 := by
    simp [getField, word, Nat.mod_eq_of_lt hv]
  unfold fltClrWrite
  rw [hkey, hcmd]
  obtain h | ⟨h1, h2, h3⟩ := h
  · rw [if_pos (by simpa using h)]
  · split
    · rfl
    split
    · exact absurd ‹_› h1
    · exact absurd ‹_› h2
    · exact absurd ‹_› h3
    · rfl

theorem exec_registerWrite_FLT_CLR {v : Nat} (hp : okPath p = true) (hv : fits 16 v = true) (s : State) :
    exec (.registerWrite p Reg.FLT_CLR v) s = .next (pathWrite p Reg.FLT_CLR (word v) s) := by
  have haddr : decide (Reg.FLT_CLR < 512) = true := by decide
  have hword : isWord v = true := hv
  exact answerIf_next.mpr ⟨by rw [hp, haddr, hword]; rfl, rfl⟩

theorem runs_clrRefused {v : Nat} (hp : okPath p = true) (hv : fits 16 v = true) (hs : s.served = true)
    (hm : s.mayWrite p 2 = true) (hi : s.flt.injPath ≠ some p)
    (h : v / 256 ≠ 0xB7 ∨ (v % 16 ≠ 1 ∧ v % 16 ≠ 2 ∧ v % 16 ≠ 3))
    (hP : ∀ host, (p = .host → host.answer.status = stDeny) → P { dropKey p s with host := host }) :
    Runs (.registerWrite p Reg.FLT_CLR v) s P := by
  refine runs_refusedWrite (exec_registerWrite_FLT_CLR hp hv s) ((accessWrite_FLT_CLR hs hm).trans ?_) hP
  rw [disarmBy_of_ne (s := dropKey p s) hi, fltClrWrite_refused (by simpa [fits] using hv) h, executed_deny]

/-! ### INJECTION_ARM and FAULT_INJECT -/

theorem exec_faultInject {v : Nat} (hp : okPath p = true) (hv : v < 65536) (s : State) :
    exec (.faultInject p v) s = .next (pathWrite p Reg.FLT_INJ (word v) s) :=
  answerIf_next.mpr ⟨by simp [hp, isWord, hv], rfl⟩

theorem faultInject_wellFormed_iff {v : Nat} : (Instr.faultInject p v).wellFormed = true ↔
    okPath p = true ∧ v < 65536 := by
  change (isPath p && fits 16 v) = true ↔ _
  simp [okPath_eq_isPath, fits]

/-- The second write of an injection that takes place. -/
theorem runs_injects {v : Nat} (hp : okPath p = true) (hv : v < 65536) (hs : s.served = true)
    (hm : s.mayWrite p 2 = true) (hf : s.isFatal = false) (ht : s.testMode = true) (hi : s.flt.injPath = some p)
    (hinj : inject v (injecting p s) = some t)
    (h : ∀ ps host, (p = .host → host.answer.status = 0) → P { t with paths := ps, host := host }) :
    Runs (.faultInject p v) s P := by
  refine runs_executed (exec_faultInject hp hv s) ((accessWrite_FLT_INJ hs hm hf).trans ?_) h
  rw [fltInjWrite_injects (s := dropKey p s) ht hi (by rw [toNat_word hv]; exact hinj)]

/-- The second write of an injection that is refused: it ends the injection all the same. -/
theorem runs_rejects {v : Nat} (hp : okPath p = true) (hv : v < 65536) (hs : s.served = true)
    (hm : s.mayWrite p 2 = true) (hf : s.isFatal = false) (ht : s.testMode = true) (hi : s.flt.injPath = some p)
    (hinj : v % 64 < 1 ∨ 20 < v % 64 ∨ v / 64 % 4 = 3)
    (h : ∀ host, (p = .host → host.answer.status = stDeny) → P { injecting p s with host := host }) :
    Runs (.faultInject p v) s P := by
  refine runs_refusedWrite (exec_faultInject hp hv s) ((accessWrite_FLT_INJ hs hm hf).trans ?_) h
  rw [fltInjWrite_rejects (s := dropKey p s) ht hi (by rw [toNat_word hv]; exact inject_none hinj _)]
  rfl

/-- What an injected report of a source leaves (R653). -/
theorem injectReport_reports (p : Path) (hsrc : src < 64) (hw : Watches src s) :
    ∀ t, t = injectReport src param (injecting p s) →
    t.flt.injPath = none ∧ t.flag .FLT_STAT_INJARM = false ∧
      Latched src param (belayClass src param) true s t ∧ MemKept s t := by
  have hbase : (injecting p s).flt.injPath = none := rfl
  have harm : (injecting p s).flag .FLT_STAT_INJARM = false := flag_INJARM_disarm _
  have hmem : MemKept s (injecting p s) := .of_eq rfl rfl rfl
  have hfields := latchFields_injecting p s
  have hw := hw.injecting p
  unfold injectReport
  generalize injecting p s = u at *
  rintro t rfl
  refine ⟨?_, ?_, (latched_acceptReport hw hsrc (belayClass_le src param)).congr_left hfields,
    hmem.trans (memKept_acceptReport _ _ _ _ _ _ _)⟩
  · rw [flt_acceptReport hw]
    exact hbase
  · exact (flag_INJARM_of_latched hsrc (regsKept_acceptReport hw)).trans harm

/-- What an injected wire fault leaves (R653): no condition is held. -/
theorem injectWire_reports (p : Path) {high : Bool} (hw : Watches 21 s) (h : s.flt.ignored.contains src = false) :
    ∀ t, t = wireFault src high true (injecting p s) →
    t.flt.injPath = none ∧ t.flag .FLT_STAT_INJARM = false ∧ t.flt.cond = s.flt.cond ∧
      t.flt.ignored = s.flt.ignored ++ [src] ∧
      Latched 21 (wireParam src high) (belayClass 21 (wireParam src high)) true s t ∧ MemKept s t := by
  have hbase : (injecting p s).flt = { s.flt with injPath := none } := rfl
  have harm : (injecting p s).flag .FLT_STAT_INJARM = false := flag_INJARM_disarm _
  have hmem : MemKept s (injecting p s) := .of_eq rfl rfl rfl
  have hfields := latchFields_injecting p s
  have hw := hw.injecting p
  generalize injecting p s = u at *
  intro t ht
  obtain ⟨hlatched, -, hflt, hregs, hkept⟩ := wireFault_faults hw (by rw [hbase]; exact h) t ht
  rw [hbase] at hflt
  have hcond : (faultHeld src high true u).flt.cond = s.flt.cond := by
    rw [show faultHeld src high true u = u from rfl, hbase]
  refine ⟨by rw [hflt], (flag_INJARM_of_latched (by decide) hregs).trans harm, ?_, by rw [hflt],
    hlatched.congr_left hfields, hmem.trans hkept⟩
  rw [hflt]
  exact hcond

end Sys2Proof.Machine
end

section
/-! The belay collector (17): the obligation, clause by clause. -/

namespace Sys2Proof.Machine

/-- Settles O55: each command's reports, clears, keep-alive or injection from the lemma on what it does, and its frame from the
frames of the reaction, the latching and the record. -/
theorem reportsAreCollected : Obligations.ReportsAreCollected := by
  refine ⟨?report, ?fatal, ?lost, ?idle, ?wire, ?wireIgnored, ?level, ?levelQuiet, ?crystal, ?crystalGone, ?map, ?mapQuiet,
    ?clear, ?clearFatal, ?kick, ?keepAlive, ?keepAliveQuiet, ?arm, ?armRefused, ?inject, ?injectRefused, ?clrRefused,
    ?eccWord, ?ramWord, ?resultWord, ?injectWire, ?clrDenied⟩
  case report =>
    intro src param p2 p3 s hwf hw hcls
    have hsrc := belayReport_src_lt hwf
    have hlatched := latched_belayReport (param := param) (p2 := p2) (p3 := p3) hw hsrc
    exact runs_belayReport hwf ⟨reported_belayReport hw hsrc, hlatched.ccnt, hlatched.ucnt,
      blocksKept_belayReport hw hsrc hcls, memKept_belayReport src param p2 p3 s⟩
  case fatal =>
    intro src param p2 p3 s hwf hw hcls hlive
    have hsrc := belayReport_src_lt hwf
    have hreported := reported_belayReport (param := param) (p2 := p2) (p3 := p3) hw hsrc
    obtain ⟨hfatal, hlatch, hseq, hxfer, hclear, hloops, hconns⟩ :=
      belayReport_begins (p2 := p2) (p3 := p3) hw hsrc hcls hlive _ rfl
    rw [hcls] at hreported
    exact runs_belayReport hwf
      ⟨hreported, hfatal, hlatch, hseq, hxfer, hclear, hloops, hconns, memKept_belayReport src param p2 p3 s⟩
  case lost =>
    intro src param p2 p3 s hwf hlost
    refine runs_belayReport hwf ?_
    rw [belayReport_lost hlost]
    exact ⟨rfl, fun h4 h5 h15 => atDetection_of_quiet h4 h5 h15 s⟩
  case idle => exact fun s => ⟨_, rfl, rfl⟩
  case wire =>
    intro src high s hwf hw hign
    obtain ⟨hlatched, hpins, hflt, -, hmem⟩ := wireFault_faults (high := high) (inj := false) hw hign _ rfl
    refine runs_wireFault hwf ⟨hlatched.reported hpins, by rw [hflt], ?_, hmem⟩
    rw [hflt]
    simp [faultHeld]
  case wireIgnored =>
    intro src high s hwf hign
    exact runs_wireFault hwf (wireFault_of_ignored hign)
  case level =>
    intro src param p2 p3 rest s hwf hw hquiet hreports
    refine runs_levelRepeat hwf ?_
    rw [levelRepeat_reports hquiet hreports]
    exact ⟨reported_acceptReport hw (levelRepeat_src_lt hwf) (belayClass_le src param), memKept_acceptReport _ _ _ _ _ _ _⟩
  case levelQuiet =>
    intro src s hwf hquiet
    exact runs_levelRepeat hwf (levelRepeat_quiet hquiet)
  case crystal => exact fun s hc hw => ⟨_, rfl, crystalStop_reports hc hw⟩
  case crystalGone => exact fun s hc => ⟨_, rfl, if_neg (by simp [hc])⟩
  case map =>
    intro s hl hp hw
    refine ⟨_, rfl, ?_⟩
    rw [protMapCheck_of_mismatch hl hp]
    exact ⟨reported_acceptReport hw (by decide) (Nat.le_refl _), isFatal_acceptReport hw (by decide),
      memKept_acceptReport _ _ _ _ _ _ _⟩
  case mapQuiet => exact fun s h => ⟨_, rfl, protMapCheck_of_match h⟩
  case clear =>
    intro p c s hp hadm hc
    obtain ⟨all, rfl⟩ := eq_clearing hc
    obtain ⟨hserved, hmay, hlive, -, -, hinj⟩ := hadm
    refine runs_clearing all hp hserved hmay fun ps host hans => ?_
    rw [clearBase_of_ne hinj]
    obtain ⟨hfirst, hlast, hact, hworst, hovf, hnew, hcounts, hzero, hrel, hblocks, hmem⟩ :=
      clearedBy_live (s := dropKey p s) all hlive _ rfl
    generalize clearedBy all (dropKey p s) = t at *
    exact ⟨hfirst, hlast, hact, hworst, hovf, hnew, hrel.ignored, hrel.cond, fun h => hcounts (clearing_eq_clear h),
      fun h => hzero (clearing_eq_clearall h), hrel.rbf, fun n hn => (hrel.loops n hn).of_access ps host hn, hans,
      hblocks, hmem⟩
  case clearFatal =>
    intro p src param c s hp hserved hmay hfatal hlatch hsrc hc
    obtain ⟨all, rfl⟩ := eq_clearing hc
    refine runs_clearing all hp hserved hmay fun ps host hans => ?_
    have hbase := fieldsKept_clearBase p s
    have hrest := clearBase_rest p s
    have hmemBase : MemKept s (clearBase p s) := by rw [hrest]; exact .of_eq rfl rfl rfl
    have hsys : (clearBase p s).sys = s.sys := by rw [hrest]
    generalize clearBase p s = b at *
    obtain ⟨hcounts, hzero, hfirst, hworst, hact, hstays, hmem⟩ :=
      clearedBy_fatal all ((hbase.flag (by decide)).trans hfatal) (hsys ▸ hlatch) hsrc _ rfl
    rw [hbase.fld (by decide), hbase.fld (by decide)] at hcounts
    rw [fatalFirst, (hbase.regsKept (bs := [])).reg32 (by decide) (by decide)] at hfirst
    generalize clearedBy all b = t at *
    exact ⟨fun h => hcounts (clearing_eq_clear h), fun h => hzero (clearing_eq_clearall h), hfirst, hworst, hact, hstays, hans,
      hmemBase.trans hmem⟩
  case kick =>
    intro p s hp hserved hmay hinj
    refine runs_kick hp hserved hmay hinj fun ps host hans => ?_
    rw [kickTimer_rest]
    exact ⟨rfl, hans, rfl⟩
  case keepAlive => exact fun s hr hw => ⟨_, rfl, keepAliveExpire_reports hr hw⟩
  case keepAliveQuiet => exact fun s hr => ⟨_, rfl, if_neg (by simp [hr])⟩
  case arm =>
    intro p s hp hadm htest
    obtain ⟨hserved, hmay, hlive, -, -, hinj⟩ := hadm
    refine runs_executed (answerIf_next.mpr ⟨hp, rfl⟩) ((accessWrite_FLT_INJ hserved hmay hlive).trans
      (congrArg _ (fltInjWrite_arms (s := dropKey p s) htest hinj))) fun ps host hans => ?_
    exact ⟨rfl, flag_setFlag_same _ _ _ (by decide) rfl, hans,
      (FieldsKept.of_regs (t := { s with flt := { s.flt with injPath := some p } }) rfl).trans
        ((FieldsKept.refl _ _).setFlag (by simp) (by decide)), rfl⟩
  case armRefused =>
    intro p v s hwf hadm h
    obtain ⟨hp, hv⟩ := faultInject_wellFormed_iff.mp hwf
    obtain ⟨hserved, hmay, hlive, -, -, hinj⟩ := hadm
    have hno : s.testMode = false ∨ word v ≠ 0x6E19 := h.imp_right fun hne he => hne (by
      rw [← toNat_word hv, he]; rfl)
    refine runs_refusedWrite (exec_faultInject hp hv s) ((accessWrite_FLT_INJ hserved hmay hlive).trans
      (congrArg _ (fltInjWrite_refused (s := dropKey p s) hinj hno))) fun host hans => ?_
    exact ⟨hans, rfl⟩
  case inject =>
    intro p src param s hp hserved hmay hlive htest hinj h1 h20 hparam hw
    refine runs_injects hp (by omega) hserved hmay hlive htest hinj (inject_report h1 h20 _) fun ps host hans => ?_
    obtain ⟨hpath, harm, hlatched, hmem⟩ := injectReport_reports (param := param) p (by omega) hw _ rfl
    generalize injectReport src param (injecting p s) = t at *
    refine ⟨hpath, harm, hlatched.busy, hlatched.act, fun h0 => ?_, hans, hmem⟩
    have hfirst := hlatched.first h0
    rwa [if_pos rfl, Nat.mod_eq_of_lt hparam] at hfirst
  case injectRefused =>
    intro p v s hwf hserved hmay hlive htest hinj h
    obtain ⟨hp, hv⟩ := faultInject_wellFormed_iff.mp hwf
    refine runs_rejects hp hv hserved hmay hlive htest hinj h fun host hans => ?_
    exact ⟨rfl, flag_INJARM_disarm _, hans, fieldsKept_injecting p s, rfl⟩
  case clrRefused =>
    intro p v s hp hv hserved hmay hinj h
    exact runs_clrRefused hp hv hserved hmay hinj h fun host hans => ⟨hans, rfl⟩
  case eccWord =>
    intro param p2 p3 w s hwf hsector hp2 hcls hword
    subst hword
    obtain ⟨herr, hstore⟩ := wordErr_belayReport (p3 := p3) hcls hsector hp2 s
    exact runs_belayReport hwf ⟨herr, hstore, memKept_belayReport 4 param p2 p3 s⟩
  case ramWord =>
    exact fun p2 p3 s hwf => runs_belayReport hwf ⟨descrs_belayReport s, memKept_belayReport 5 0x80 p2 p3 s⟩
  case resultWord =>
    intro p2 p3 s hwf
    obtain ⟨hinvalid, hothers⟩ := result_belayReport (p2 := p2) (p3 := p3) s
    exact runs_belayReport hwf ⟨hinvalid, hothers, memKept_belayReport 5 0x81 p2 p3 s⟩
  case injectWire =>
    intro p src m param s hp hserved hmay hlive htest hinj h1 h20 hparam hm hw hign
    refine runs_injects hp (by omega) hserved hmay hlive htest hinj (inject_wire h1 h20 hm _) fun ps host hans => ?_
    obtain ⟨hpath, harm, hcond, hignored, hlatched, hmem⟩ := injectWire_reports p (high := m == 2) hw hign _ rfl
    generalize wireFault src (m == 2) true (injecting p s) = t at *
    refine ⟨hpath, harm, hlatched.busy, hcond, hignored, hlatched.act, fun h0 => ?_, hans, hmem⟩
    have hfirst := hlatched.first h0
    rwa [if_pos rfl, Nat.mod_eq_of_lt (wireParam_lt _ h20)] at hfirst
  case clrDenied =>
    intro p v s hp hv hserved hmay hinj
    refine runs_refusedWrite (exec_registerWrite_FLT_CLR hp hv s) (accessWrite_refused hserved hmay) fun host hans => ?_
    rw [disarmBy_of_ne (s := dropKey p s) hinj]
    exact ⟨hans, rfl⟩

end Sys2Proof.Machine
end

section
/-! The whole machine: a command's outcome by its operands, one step, and what State.reset holds. -/

namespace Sys2Proof.Machine

/-! ### Operand checks, as the meanings and as WellFormed.lean write them -/

theorem isLease_eq_takesLease (r : Requester) : (r == .exc || r == .host || r == .rope) = takesLease r := by
  cases r <;> rfl

theorem isBurst_eq_takesCredits (r : Requester) : (r == .nvm || r == .exc || r == .xmem) = takesCredits r := by
  cases r <;> rfl

theorem isValue_eq_isResult : isValue = isResult := by
  funext v
  rw [isValue, isResult, Bool.eq_iff_iff]
  simp [clampValue, clampInt]
  omega

/-- Every command's meaning is guarded by the operand check of WellFormed.lean. -/
theorem exec_eq_answerIf_wellFormed (c : Instr) (s : State) : ∃ t, exec c s = answerIf c.wellFormed t := by
  cases c
  case windowDataAccess p n w =>
    cases w with
    | none => exact ⟨_, by rw [Instr.wellFormed, isDatum, Bool.and_true, ← okPath_eq_isPath]; rfl⟩
    | some v => exact ⟨_, by rw [Instr.wellFormed, isDatum, ← okPath_eq_isPath]; rfl⟩
  case nvmDataAccess p w =>
    cases w with
    | none => exact ⟨_, by rw [Instr.wellFormed, isDatum, Bool.and_true, ← okPath_eq_isPath]; rfl⟩
    | some v => exact ⟨_, by rw [Instr.wellFormed, isDatum, ← okPath_eq_isPath]; rfl⟩
  case assign | summary | teamMemberTimeout | teamCommit | cancel =>
    simp only [Instr.wellFormed, isAddress, isSummary, ← Bool.and_assoc, ← okPath_eq_isPath]
    exact ⟨_, rfl⟩
  all_goals
    simp only [Instr.wellFormed, ← isValue_eq_isResult, ← okPath_eq_isPath, ← isLease_eq_takesLease,
      ← isBurst_eq_takesCredits]
    exact ⟨_, rfl⟩

/-- Settles O58: the operand check decides between the next state and the fault. -/
theorem everyWellFormedCommandRuns : Obligations.EveryWellFormedCommandRuns := by
  refine ⟨fun c s hwf => ?_, fun c s hwf => ?_⟩
  · obtain ⟨t, h⟩ := exec_eq_answerIf_wellFormed c s
    exact ⟨t, h.trans (answerIf_next.mpr ⟨hwf, rfl⟩)⟩
  · obtain ⟨t, h⟩ := exec_eq_answerIf_wellFormed c s
    exact h.trans (answerIf_fault.mpr hwf)

/-- Settles O57: each case is one equation of step. -/
theorem stepRunsTheFrontCommand : Obligations.StepRunsTheFrontCommand :=
  ⟨fun _ _ => rfl, fun _ _ _ h => by rw [step, h], fun _ h => by rw [step, h]⟩

/-- Settles O60: the registers' reset values are evaluated, every other part stands in State.reset. -/
theorem resetIsAsDescribed : Obligations.ResetIsAsDescribed := by
  refine ⟨?canonical, rfl, ?notActive, ?notFatal, rfl, rfl, rfl, rfl, ?noFirst, ?noActive, ?staging, rfl, ?loops, ?links, ?store,
    ?teams, ?leases⟩
  case canonical => decide +kernel
  case notActive => decide +kernel
  case notFatal => decide +kernel
  case noFirst => decide +kernel
  case noActive => decide +kernel
  case staging => decide +kernel
  case loops => decide +kernel
  case links => exact fun p => by cases p <;> decide +kernel
  case store => exact fun _ => rfl
  case teams => decide +kernel
  case leases => exact fun r => by cases r <;> rfl
end Sys2Proof.Machine
end

section
/-! The canonical form of the memories (the invariant of O59): what each write to them keeps, and what no other part of the state
touches. -/

namespace Sys2Proof.Machine

/-- The sparse memories are in their canonical form. -/
def State.Canon (s : State) : Prop := s.memoriesWf = true

theorem canon_iff (s : State) : s.Canon ↔ canonical regReset s.regs = true ∧ canonical erasedByte s.nvm.store = true ∧
    canonical erasedByte s.xfer.mem = true ∧ canonical ramByte s.xfer.ram = true := by
  simp [State.Canon, State.memoriesWf, Memory.wf, and_assoc]

/-- Only the registers and the three byte memories matter. -/
@[simp] theorem canon_mk (regs paths host wins sys pwr stg tab ang exc conns slices seq cal eng loops fsk rope xfer nvm log flt thm now
    free pending) :
    State.Canon ⟨regs, paths, host, wins, sys, pwr, stg, tab, ang, exc, conns, slices, seq, cal, eng, loops, fsk, rope, xfer, nvm,
      log, flt, thm, now, free, pending⟩ ↔
    canonical regReset regs = true ∧ canonical erasedByte nvm.store = true ∧ canonical erasedByte xfer.mem = true ∧
      canonical ramByte xfer.ram = true := canon_iff _

@[simp] theorem State.Canon.regs {s : State} (h : s.Canon) : canonical regReset s.regs = true := ((canon_iff s).mp h).1
@[simp] theorem State.Canon.store {s : State} (h : s.Canon) : canonical erasedByte s.nvm.store = true := ((canon_iff s).mp h).2.1
@[simp] theorem State.Canon.mem {s : State} (h : s.Canon) : canonical erasedByte s.xfer.mem = true := ((canon_iff s).mp h).2.2.1
@[simp] theorem State.Canon.ram {s : State} (h : s.Canon) : canonical ramByte s.xfer.ram = true := ((canon_iff s).mp h).2.2.2

@[simp] theorem canon_ite {c : Prop} [Decidable c] {s t : State} (hs : s.Canon) (ht : t.Canon) : (if c then s else t).Canon := by
  split
  · exact hs
  · exact ht

@[simp] theorem canon_setReg {s : State} (h : s.Canon) {a : Nat} {w : Word} : (s.setReg a w).Canon := by
  simp [State.setReg, canonical_writeAt, h]

@[simp] theorem canon_setFld {s : State} (h : s.Canon) {f : Fld} {v : Nat} : (s.setFld f v).Canon := by
  simp [State.setFld, h]

theorem canon_foldl {α : Type} {l : List α} {f : State → α → State} {s : State} (h : s.Canon)
    (hf : ∀ t x, t.Canon → (f t x).Canon) : (l.foldl f s).Canon := by
  induction l generalizing s with
  | nil => exact h
  | cons x l ih => exact ih (hf s x h)

@[simp] theorem canon_forEach {n : Nat} {f : Nat → State → State} {s : State} (h : s.Canon)
    (hf : ∀ i t, t.Canon → (f i t).Canon) : (forEach n f s).Canon := canon_foldl h fun t i => hf i t

@[simp] theorem canon_forList {α : Type} {l : List α} {f : α → State → State} {s : State} (h : s.Canon)
    (hf : ∀ x t, t.Canon → (f x t).Canon) : (forList l f s).Canon := canon_foldl h fun t x => hf x t

@[simp] theorem canon_when {c : Bool} {f : State → State} {s : State} (h : s.Canon)
    (hf : ∀ t, t.Canon → (f t).Canon) : (s.when c f).Canon := canon_ite (hf s h) h

/-- Any part of the state but the registers and the byte memories may change. -/
theorem State.Canon.update {s : State} (h : s.Canon) {paths host wins sys pwr stg tab ang exc conns slices seq cal eng loops fsk rope xfer
    nvm log flt thm now free pending} (hstore : nvm.store = s.nvm.store := by rfl) (hmem : xfer.mem = s.xfer.mem := by rfl)
    (hram : xfer.ram = s.xfer.ram := by rfl) :
    State.Canon ⟨s.regs, paths, host, wins, sys, pwr, stg, tab, ang, exc, conns, slices, seq, cal, eng, loops, fsk, rope, xfer, nvm,
      log, flt, thm, now, free, pending⟩ := by
  rw [canon_mk, hstore, hmem, hram]
  exact (canon_iff s).mp h

@[simp] theorem canon_modXfer {s : State} (h : s.Canon) {f : Xfer → Xfer} (hmem : (f s.xfer).mem = s.xfer.mem := by rfl)
    (hram : (f s.xfer).ram = s.xfer.ram := by rfl) : (s.modXfer f).Canon :=
  (canon_iff _).mpr ⟨h.regs, h.store, (congrArg _ hmem).trans h.mem, (congrArg _ hram).trans h.ram⟩

theorem canonical_memAfter {flash : Bool} {o : XOp} {m : List Host.Cell} (h : canonical erasedByte m = true) :
    canonical erasedByte (memAfter flash o m) = true := by
  unfold memAfter
  split
  · exact canonical_eraseRange _ _ _ _ h
  · split
    · exact canonical_writeRun _ _ _ _ h
    · exact h

@[simp] theorem canon_setStore {s : State} (h : s.Canon) {m : List Host.Cell} (hm : canonical erasedByte m = true) :
    (s.setStore m).Canon := (canon_iff _).mpr ⟨h.regs, hm, h.mem, h.ram⟩

/-- The store after bytes are written from an address on. -/
@[simp] theorem canon_setStore_writeRun {s t : State} (h : s.Canon) (ht : t.Canon) {a : Nat} {bs : List Byte} :
    (s.setStore (writeRun erasedByte t.nvm.store a bs)).Canon := canon_setStore h (canonical_writeRun _ _ _ _ ht.store)

/-- A choice between the effect of one register and what the rest of a dispatch gives. -/
theorem canon_ite_some {α : Type} {c : Prop} [Decidable c] {r : α × State} {o : Option (α × State)} (hr : r.2.Canon)
    (ho : ∀ x, o = some x → x.2.Canon) : ∀ x, (if c then some r else o) = some x → x.2.Canon := by
  intro x hx
  split at hx
  · exact Option.some.inj hx ▸ hr
  · exact ho x hx

theorem canon_ite_snd_snd {α β : Type} {c : Prop} [Decidable c] {x y : α × β × State} (hx : x.2.2.Canon) (hy : y.2.2.Canon) :
    (if c then x else y).2.2.Canon := by
  split
  · exact hx
  · exact hy

theorem canon_snd {α : Type} {x : α × State} {a : α} {t : State} (e : x = (a, t)) (h : x.2.Canon) : t.Canon := by
  rw [e] at h
  exact h

theorem canon_snd_snd {α β : Type} {x : α × β × State} {a : α} {b : β} {t : State} (e : x = (a, b, t)) (h : x.2.2.Canon) :
    t.Canon := by
  rw [e] at h
  exact h

/-- The next state of an outcome, where there is one, is canonical. -/
def CanonOut (o : Host.Outcome State Fault Refusal) : Prop := ∀ t, o = .next t → t.Canon

@[simp] theorem canonOut_next (s : State) : CanonOut (.next s) ↔ s.Canon := by simp [CanonOut]
theorem canonOut_of_canon {s : State} (h : s.Canon) : CanonOut (.next s) := (canonOut_next s).mpr h

@[simp] theorem canonOut_fault (r : Fault) : CanonOut (.fault r) := by simp [CanonOut]

@[simp] theorem canonOut_answerIf {s : State} (h : s.Canon) {b : Bool} : CanonOut (answerIf b s) := by
  simp only [CanonOut, answerIf_next]
  rintro t ⟨-, rfl⟩
  exact h

end Sys2Proof.Machine
end

section
/-! The shared operations: what they keep of the canonical form of the memories. -/

namespace Sys2Proof.Machine

@[simp] theorem canon_setFlag {s : State} (h : s.Canon) {f : Fld} {b : Bool} : (State.setFlag s f b).Canon := by
  simp [State.setFlag, h]

@[simp] theorem canon_setRegN {s : State} (h : s.Canon) {a v : Nat} : (State.setRegN s a v).Canon := by simp [State.setRegN, h]

@[simp] theorem canon_setReg32 {s : State} (h : s.Canon) {a v : Nat} : (State.setReg32 s a v).Canon := by
  simp [State.setReg32, h]

@[simp] theorem canon_setReg64 {s : State} (h : s.Canon) {a v : Nat} : (State.setReg64 s a v).Canon := by
  simp [State.setReg64, h]

@[simp] theorem canon_incFld {s : State} (h : s.Canon) {f : Fld} : (State.incFld s f).Canon := by simp [State.incFld, h]

@[simp] theorem canon_setFldBit {s : State} (h : s.Canon) {f : Fld} {n : Nat} {b : Bool} : (State.setFldBit s f n b).Canon := by
  simp [State.setFldBit, h]

@[simp] theorem canon_modLoop {s : State} (h : s.Canon) {n : Nat} {f : LoopSt → LoopSt} : (State.modLoop s n f).Canon := by
  simp [State.modLoop, h]

@[simp] theorem canon_modFsk {s : State} (h : s.Canon) {n : Nat} {f : FskSt → FskSt} : (State.modFsk s n f).Canon := by
  simp [State.modFsk, h]

@[simp] theorem canon_modExc {s : State} (h : s.Canon) {n : Nat} {f : ExcSt → ExcSt} : (State.modExc s n f).Canon := by
  simp [State.modExc, h]

@[simp] theorem canon_modSlice {s : State} (h : s.Canon) {n : Nat} {f : SliceSt → SliceSt} : (State.modSlice s n f).Canon := by
  simp [State.modSlice, h]

@[simp] theorem canon_modEng {s : State} (h : s.Canon) {n : Nat} {f : EngSt → EngSt} : (State.modEng s n f).Canon := by
  simp [State.modEng, h]

@[simp] theorem canon_modPath {s : State} (h : s.Canon) {p : Path} {f : PathState → PathState} : (State.modPath s p f).Canon := by
  simp [State.modPath, h]

@[simp] theorem canon_freeChoice {s : State} (h : s.Canon) : (State.freeChoice s).2.Canon := by simp [State.freeChoice, h]

@[simp] theorem canon_freeDraw {s : State} (h : s.Canon) : (State.freeDraw s).2.Canon := by simp [State.freeDraw, h]

@[simp] theorem canon_settleMode {s : State} (h : s.Canon) : (settleMode s).Canon := by simp [settleMode, h]

@[simp] theorem canon_driveFaultPins {s : State} (h : s.Canon) : (driveFaultPins s).Canon := by simp [driveFaultPins, h]

end Sys2Proof.Machine
end

section
/-! Events and the excitation: what they keep of the canonical form of the memories. -/

namespace Sys2Proof.Machine

@[simp] theorem canon_syncQueue {s : State} (h : s.Canon) : (syncQueue s).Canon := by simp [syncQueue, h]

@[simp] theorem canon_setJobs {s : State} (h : s.Canon) {js : List Job} : (setJobs s js).Canon := by simp [setJobs, h]

@[simp] theorem canon_addJob {s : State} (h : s.Canon) {j : Job} : (addJob s j).Canon := by simp [addJob, h]

@[simp] theorem canon_addJobHead {s : State} (h : s.Canon) {j : Job} : (addJobHead s j).Canon := by
  unfold addJobHead
  split <;> simp [h]

@[simp] theorem canon_countUp {s : State} (h : s.Canon) {n : Nat} : (countUp n s).Canon := by simp [countUp, h]

@[simp] theorem canon_capTrigger {s : State} (h : s.Canon) {cause : Nat} : (capTrigger cause s).Canon := by
  unfold capTrigger
  refine canon_ite ?_ ?_
  · simp [h]
  · simp [h]

@[simp] theorem canon_bindCounters {s : State} (h : s.Canon) {code : Nat} : (bindCounters code s).Canon := by
  unfold bindCounters
  apply canon_forEach
  · assumption
  · simp +contextual

@[simp] theorem canon_queueRecord {s : State} (h : s.Canon) {r : Rec} : (queueRecord r s).Canon := by
  unfold queueRecord
  refine canon_ite ?_ ?_
  · assumption
  · refine canon_ite ?_ ?_
    · simp [h]
    · simp [h]

@[simp] theorem canon_takeToken {s : State} (h : s.Canon) {code : Nat} : (takeToken code s).2.Canon := by
  unfold takeToken
  dsimp only
  split
  · assumption
  · split
    · assumption
    · simp [h]

@[simp] theorem canon_mkRecord {s : State} (h : s.Canon) {code cls : Nat} {ps : List Nat} : (mkRecord code cls ps s).Canon := by
  have hbound := canon_bindCounters h (code := code)
  have hcap : ∀ c : Prop, [Decidable c] → (if c then capTrigger 1 (bindCounters code s) else bindCounters code s).Canon :=
    fun _ _ => canon_ite (canon_capTrigger hbound) hbound
  unfold mkRecord
  refine canon_ite (canon_queueRecord (hcap _)) ?_
  split
  have htoken := canon_snd ‹_› (canon_takeToken (hcap _))
  exact canon_ite (canon_queueRecord htoken) htoken

@[simp] theorem canon_updateLoop {s : State} (h : s.Canon) {n : Nat} : (updateLoop n s).Canon := by
  unfold updateLoop
  apply canon_when
  · apply canon_setRegN
    apply canon_setFld
    simp [h]
  · simp +contextual

@[simp] theorem canon_updateLoops {s : State} (h : s.Canon) : (updateLoops s).Canon := by
  simp +contextual [updateLoops, h]

@[simp] theorem canon_dropConns {s : State} (h : s.Canon) {p : Conn → Bool} : (dropConns s p).Canon := by simp [dropConns, h]

@[simp] theorem canon_addConns {s : State} (h : s.Canon) {cs : List Conn} : (addConns s cs).Canon := by simp [addConns, h]

@[simp] theorem canon_modWin {s : State} (h : s.Canon) {n : Nat} {f : Window → Window} : (State.modWin s n f).Canon := by
  simp [State.modWin, h]

@[simp] theorem canon_markSupd {s : State} (h : s.Canon) {k : Nat} : (markSupd k s).Canon := by
  unfold markSupd
  apply canon_forEach
  · assumption
  · simp +contextual

@[simp] theorem canon_excClear {s : State} (h : s.Canon) {ev k : Nat} : (excClear ev k s).Canon := by
  unfold excClear
  apply canon_markSupd
  apply canon_setFldBit
  assumption

@[simp] theorem canon_excUnclear {s : State} (h : s.Canon) {ev k : Nat} : (excUnclear ev k s).Canon := by simp [excUnclear, h]

@[simp] theorem canon_excClearAll {s : State} (h : s.Canon) {ev : Nat} : (excClearAll ev s).Canon := by
  simp +contextual [excClearAll, h]

@[simp] theorem canon_keepClearOnly {s : State} (h : s.Canon) : (keepClearOnly s).Canon := by simp [keepClearOnly, h]

@[simp] theorem canon_showBusy {s : State} (h : s.Canon) {n : Nat} : (showBusy n s).Canon := by simp [showBusy, h]

@[simp] theorem canon_abandonSlice {s : State} (h : s.Canon) {n : Nat} : (abandonSlice n s).Canon := by simp [abandonSlice, h]

@[simp] theorem canon_setUrgent {s : State} (h : s.Canon) {q : List Occ} : (setUrgent s q).Canon := by
  unfold setUrgent
  apply canon_setFlag
  simp [h]

@[simp] theorem canon_setFrameQ {s : State} (h : s.Canon) {q : List (Nat × Nat × Nat × Nat)} : (setFrameQ s q).Canon := by
  simp [setFrameQ, h]

@[simp] theorem canon_showEngines {s : State} (h : s.Canon) : (showEngines s).Canon := by
  simp +contextual [showEngines, h]

@[simp] theorem canon_haltEngines {s : State} (h : s.Canon) : (haltEngines s).Canon := by
  unfold haltEngines
  apply canon_setFlag
  apply canon_setFlag
  apply canon_showEngines
  apply canon_forEach
  · apply canon_setFrameQ
    apply canon_setUrgent
    refine State.Canon.update ?_
    simp +contextual [h]
  · simp +contextual

@[simp] theorem canon_enterFatal {s : State} (h : s.Canon) {src param : Nat} : (enterFatal src param s).Canon := by
  unfold enterFatal
  apply canon_updateLoops
  apply canon_setJobs
  apply canon_keepClearOnly
  apply canon_excClearAll
  apply canon_haltEngines
  simp [h]

@[simp] theorem canon_acceptReport {s : State} (h : s.Canon) {cls src param p2 p3 : Nat} {inj : Bool} :
    (acceptReport cls src param p2 p3 inj s).Canon := by
  unfold acceptReport
  refine canon_ite ?_ ?_
  · assumption
  · apply canon_driveFaultPins
    refine canon_ite ?_ ?_
    · apply canon_setReg32
      apply canon_enterFatal
      refine canon_ite ?_ ?_
      · apply canon_when
        · apply canon_setFld
          refine canon_ite ?_ ?_
          · apply canon_incFld
            refine canon_ite ?_ ?_
            · apply canon_setReg32
              simp [h]
            · apply canon_setFlag
              simp [h]
          · refine canon_ite ?_ ?_
            · apply canon_incFld
              refine canon_ite ?_ ?_
              · apply canon_setReg32
                simp [h]
              · apply canon_setFlag
                simp [h]
            · refine canon_ite ?_ ?_
              · apply canon_setReg32
                simp [h]
              · apply canon_setFlag
                simp [h]
        · simp +contextual
      · apply canon_mkRecord
        apply canon_when
        · apply canon_setFld
          refine canon_ite ?_ ?_
          · apply canon_incFld
            refine canon_ite ?_ ?_
            · apply canon_setReg32
              simp [h]
            · apply canon_setFlag
              simp [h]
          · refine canon_ite ?_ ?_
            · apply canon_incFld
              refine canon_ite ?_ ?_
              · apply canon_setReg32
                simp [h]
              · apply canon_setFlag
                simp [h]
            · refine canon_ite ?_ ?_
              · apply canon_setReg32
                simp [h]
              · apply canon_setFlag
                simp [h]
        · simp +contextual
    · refine canon_ite ?_ ?_
      · apply canon_when
        · apply canon_setFld
          refine canon_ite ?_ ?_
          · apply canon_incFld
            refine canon_ite ?_ ?_
            · apply canon_setReg32
              simp [h]
            · apply canon_setFlag
              simp [h]
          · refine canon_ite ?_ ?_
            · apply canon_incFld
              refine canon_ite ?_ ?_
              · apply canon_setReg32
                simp [h]
              · apply canon_setFlag
                simp [h]
            · refine canon_ite ?_ ?_
              · apply canon_setReg32
                simp [h]
              · apply canon_setFlag
                simp [h]
        · simp +contextual
      · apply canon_mkRecord
        apply canon_when
        · apply canon_setFld
          refine canon_ite ?_ ?_
          · apply canon_incFld
            refine canon_ite ?_ ?_
            · apply canon_setReg32
              simp [h]
            · apply canon_setFlag
              simp [h]
          · refine canon_ite ?_ ?_
            · apply canon_incFld
              refine canon_ite ?_ ?_
              · apply canon_setReg32
                simp [h]
              · apply canon_setFlag
                simp [h]
            · refine canon_ite ?_ ?_
              · apply canon_setReg32
                simp [h]
              · apply canon_setFlag
                simp [h]
        · simp +contextual

@[simp] theorem canon_report {s : State} (h : s.Canon) {src param p2 p3 : Nat} : (report src param p2 p3 s).Canon := by
  simp [report, h]

@[simp] theorem canon_stepPhases {s : State} (h : s.Canon) : (stepPhases s).Canon := by
  unfold stepPhases
  apply canon_forEach
  · assumption
  · intro i t ht
    refine canon_ite ?_ ?_
    · assumption
    · refine canon_ite ?_ ?_
      · simp [ht]
      · assumption

end Sys2Proof.Machine
end

section
/-! Power, results and slices: what they keep of the canonical form of the memories. -/

namespace Sys2Proof.Machine

-- One proof after another: in parallel these many proofs wait for one another on more threads than the check's memory holds.
set_option Elab.async false

@[simp] theorem canon_showVt {s : State} (h : s.Canon) : (showVt s).Canon := by simp [showVt, h]

@[simp] theorem canon_setVt {s : State} (h : s.Canon) {n v : Nat} : (setVt n v s).Canon := by simp [setVt, h]

@[simp] theorem canon_leaveShed {s : State} (h : s.Canon) {n : Nat} : (leaveShed n s).Canon := by simp [leaveShed, h]

@[simp] theorem canon_setBand {s : State} (h : s.Canon) {n b : Nat} : (setBand n b s).Canon := by
  unfold setBand
  refine canon_ite ?_ ?_
  · refine State.Canon.update ?_
    apply canon_setVt
    apply canon_setFld
    simp [h]
  · apply canon_setVt
    apply canon_setFld
    simp [h]

@[simp] theorem canon_setLease {s : State} (h : s.Canon) {r : Requester} {l : Lease} : (setLease r l s).Canon := by
  unfold setLease
  split <;> simp [h]

@[simp] theorem canon_onLease {s : State} (h : s.Canon) {r : Requester} {l : Lease} : (onLease r l s).Canon := by
  cases r with
  | host =>
    refine canon_ite ?_ (State.Canon.update ?_)
    all_goals exact State.Canon.update (canon_when (canon_setFld (canon_setFlag h)) fun t ht => canon_setFlag ht)
  | exc => exact canon_forEach h fun _ _ ht => canon_excUnclear ht
  | nvm | rope | xmem => exact h

theorem canon_tryLease {s : State} (h : s.Canon) {r : Requester} : ∀ t, tryLease r s = some t → t.Canon := by
  intro t ht
  unfold tryLease at ht
  dsimp only at ht
  split at ht
  · exact absurd ht (by simp)
  · split at ht
    · exact Option.some.inj ht ▸ canon_onLease (canon_setLease h)
    · split at ht
      · exact Option.some.inj ht ▸ canon_onLease (canon_setLease h)
      · exact absurd ht (by simp)

@[simp] theorem canon_showBurst {s : State} (h : s.Canon) {r : Requester} {code : Nat} : (showBurst r code s).Canon := by
  simp [showBurst, h]

@[simp] theorem canon_showGrant {s : State} (h : s.Canon) {r : Requester} : (showGrant r s).Canon := by simp [showGrant, h]

theorem canon_tryBurst {s : State} (h : s.Canon) {b : Burst} : ∀ t, tryBurst b s = some t → t.Canon := by
  unfold tryBurst
  (repeat' split) <;> simp [h]

@[simp] theorem canon_serve {s : State} (h : s.Canon) {x0 : List Burst} : (serve x0 s).2.Canon := by
  induction x0 generalizing s with
  | nil => exact h
  | cons b rest ih =>
    unfold serve
    split
    next t ht =>
      refine ih ?_
      split at ht
      · exact canon_tryLease h _ ht
      · exact canon_tryBurst h _ ht
    next => exact h

@[simp] theorem canon_showBudget {s : State} (h : s.Canon) : (showBudget s).Canon := by simp [showBudget, h]

@[simp] theorem canon_arbitrate {s : State} (h : s.Canon) : (arbitrate s).Canon := by
  unfold arbitrate
  apply canon_showBudget
  simp [h]

@[simp] theorem canon_requestBurst {s : State} (h : s.Canon) {b : Burst} : (requestBurst b s).Canon := by
  unfold requestBurst
  refine canon_ite ?_ ?_
  · simp [h]
  · apply canon_arbitrate
    simp [h]

@[simp] theorem canon_releaseBurst {s : State} (h : s.Canon) {who : Requester} {tag : Nat} : (releaseBurst who tag s).Canon := by
  unfold releaseBurst
  apply canon_arbitrate
  simp [h]

@[simp] theorem canon_dropWaiting {s : State} (h : s.Canon) {who : Requester} {tag : Nat} : (dropWaiting who tag s).Canon := by
  simp [dropWaiting, h]

@[simp] theorem canon_dropBurst {s : State} (h : s.Canon) {who : Requester} {tag : Nat} : (dropBurst who tag s).Canon := by
  simp [dropBurst, h]

@[simp] theorem canon_requestLease {s : State} (h : s.Canon) {r : Requester} {want : Nat} : (requestLease r want s).Canon := by
  unfold requestLease
  apply canon_arbitrate
  refine State.Canon.update ?_
  simp [h]

@[simp] theorem canon_endLease {s : State} (h : s.Canon) {r : Requester} : (endLease r s).Canon := by
  unfold endLease
  apply canon_arbitrate
  simp [h]

@[simp] theorem canon_withdraw {s : State} (h : s.Canon) {r : Requester} : (withdraw r s).Canon := by
  unfold withdraw
  split
  · refine State.Canon.update ?_
    apply canon_setFld
    apply canon_setFlag
    simp [h]
  · simp [h]

@[simp] theorem canon_redistribute {s : State} (h : s.Canon) {r : Requester} : (redistribute r s).Canon := by
  simp [redistribute, h]

@[simp] theorem canon_withdrawAll {s : State} (h : s.Canon) : (withdrawAll s).Canon := by
  exact canon_forList h fun _ _ ht => canon_ite (canon_withdraw ht) ht

@[simp] theorem canon_levelReached {s : State} (h : s.Canon) {r : Requester} : (levelReached r s).Canon := by
  unfold levelReached
  refine canon_ite ?_ ?_
  · apply canon_arbitrate
    refine State.Canon.update ?_
    apply canon_dropWaiting
    apply canon_setLease
    split
    · simp +contextual [h]
    · assumption
  · assumption

@[simp] theorem canon_shareSurplus {s : State} (h : s.Canon) : (shareSurplus s).Canon := by
  unfold shareSurplus
  apply canon_setFlag
  simp [h]

@[simp] theorem canon_unshed {s : State} (h : s.Canon) : (unshed s).Canon := by
  unfold unshed
  split
  · assumption
  · apply canon_setFlag
    simp [h]

@[simp] theorem canon_shedOne {s : State} (h : s.Canon) : (shedOne s).Canon := by
  unfold shedOne
  dsimp only
  split
  · assumption
  · refine canon_ite ?_ ?_
    · apply canon_mkRecord
      apply canon_setFlag
      simp [h]
    · apply canon_setFlag
      simp [h]

@[simp] theorem canon_recompute {s : State} (h : s.Canon) : (recompute s).Canon := by
  unfold recompute
  refine canon_ite ?_ ?_
  · assumption
  · refine canon_ite ?_ ?_
    · apply canon_unshed
      apply canon_shareSurplus
      apply canon_arbitrate
      apply canon_withdrawAll
      apply canon_forList
      · apply canon_setFld
        simp [h]
      · simp +contextual
    · apply canon_shareSurplus
      apply canon_arbitrate
      apply canon_withdrawAll
      apply canon_forList
      · apply canon_setFld
        simp [h]
      · simp +contextual

@[simp] theorem canon_leaveHarvest {s : State} (h : s.Canon) {n : Nat} : (leaveHarvest n s).Canon := by simp [leaveHarvest, h]

@[simp] theorem canon_execLeaveHarvest {s : State} (h : s.Canon) {n : Nat} : CanonOut (execLeaveHarvest n s) := by
  simp [execLeaveHarvest, h]

@[simp] theorem canon_liftProbe {s : State} (h : s.Canon) {n level : Nat} : (liftProbe n level s).Canon := by
  unfold liftProbe
  split <;> simp [h]

@[simp] theorem canon_execLiftProbe {s : State} (h : s.Canon) {n level : Nat} : CanonOut (execLiftProbe n level s) := by
  simp [execLiftProbe, h]

@[simp] theorem canon_reportLevel {s : State} (h : s.Canon) {r : Requester} : (reportLevel r s).Canon := by
  simp [reportLevel, h]

@[simp] theorem canon_leaseDeadline {s : State} (h : s.Canon) {r : Requester} : (leaseDeadline r s).Canon := by
  simp [leaseDeadline, h]

@[simp] theorem canon_execLeaseWithdrawDeadline {s : State} (h : s.Canon) {r : Requester} : CanonOut
    (execLeaseWithdrawDeadline r s) := by
  simp [execLeaseWithdrawDeadline, h]

@[simp] theorem canon_execLeaseLevelReached {s : State} (h : s.Canon) {r : Requester} : CanonOut (execLeaseLevelReached r s) := by
  simp [execLeaseLevelReached, h]

@[simp] theorem canon_execLeaseRequest {s : State} (h : s.Canon) {r : Requester} {power : Nat} : CanonOut
    (execLeaseRequest r power s) := by
  simp [execLeaseRequest, h]

@[simp] theorem canon_execDischargeConverterOn {s : State} (h : s.Canon) : CanonOut (execDischargeConverterOn s) := by
  simp [execDischargeConverterOn, h]

@[simp] theorem canon_shedStep {s : State} (h : s.Canon) {surplusUa : Nat} : (shedStep surplusUa s).Canon := by
  unfold shedStep
  dsimp only
  split
  · refine canon_ite ?_ ?_
    · simp [h]
    · assumption
  · assumption

@[simp] theorem canon_execShedStep {s : State} (h : s.Canon) {surplusUa : Nat} : CanonOut (execShedStep surplusUa s) := by
  simp [execShedStep, h]

@[simp] theorem canon_execShuntFailDetect {s : State} (h : s.Canon) : CanonOut (execShuntFailDetect s) := by
  simp [execShuntFailDetect, h]

@[simp] theorem canon_execShedReturn {s : State} (h : s.Canon) : CanonOut (execShedReturn s) := by simp [execShedReturn, h]

@[simp] theorem canon_storeMeasurement {s : State} (h : s.Canon) {mv : Nat} : (storeMeasurement mv s).Canon := by
  unfold storeMeasurement
  apply canon_arbitrate
  apply canon_withdrawAll
  refine canon_ite ?_ ?_
  · apply canon_report
    apply canon_setFlag
    apply canon_setFlag
    simp [h]
  · apply canon_setFlag
    apply canon_setFlag
    simp [h]

@[simp] theorem canon_execStoreMeasurement {s : State} (h : s.Canon) {mv : Nat} : CanonOut (execStoreMeasurement mv s) := by
  simp [execStoreMeasurement, h]

@[simp] theorem canon_vhstOff {s : State} (h : s.Canon) : (vhstOff s).Canon := by
  unfold vhstOff
  refine State.Canon.update ?_
  simp [h]

@[simp] theorem canon_hostCutOff {s : State} (h : s.Canon) : (hostCutOff s).Canon := by
  unfold hostCutOff
  refine State.Canon.update ?_
  refine canon_ite ?_ ?_
  · apply canon_setLease
    simp [h]
  · simp [h]

@[simp] theorem canon_burstRequest {s : State} (h : s.Canon) {r : Requester} {credits : Nat} : (burstRequest r credits s).Canon
    := by
  unfold burstRequest
  refine canon_ite ?_ ?_
  · simp [h]
  · simp [h]

@[simp] theorem canon_execBurstRequest {s : State} (h : s.Canon) {r : Requester} {credits : Nat} : CanonOut
    (execBurstRequest r credits s) := by
  simp [execBurstRequest, h]

@[simp] theorem canon_xmemCreditTimeout {s : State} (h : s.Canon) : (xmemCreditTimeout s).Canon := by
  unfold xmemCreditTimeout
  refine canon_ite ?_ ?_
  · apply canon_arbitrate
    apply canon_setFlag
    simp [h]
  · assumption

@[simp] theorem canon_execXmemCreditTimeout {s : State} (h : s.Canon) : CanonOut (execXmemCreditTimeout s) := by
  simp [execXmemCreditTimeout, h]

@[simp] theorem canon_hostpEffect {s : State} (h : s.Canon) {v : Nat} : (hostpEffect v s).Canon := by
  unfold hostpEffect
  refine canon_ite ?_ ?_
  · apply canon_vhstOff
    apply canon_endLease
    simp [h]
  · refine canon_ite ?_ ?_
    · simp [h]
    · apply canon_requestLease
      simp [h]

@[simp] theorem canon_hostOverdraw {s : State} (h : s.Canon) {hosti : Nat} : (hostOverdraw hosti s).Canon := by
  unfold hostOverdraw
  refine canon_ite ?_ ?_
  · refine State.Canon.update ?_
    simp [h]
  · simp [h]

@[simp] theorem canon_execHostOverdraw {s : State} (h : s.Canon) {hosti : Nat} : CanonOut (execHostOverdraw hosti s) := by
  simp [execHostOverdraw, h]

@[simp] theorem canon_hostSupplyCut {s : State} (h : s.Canon) {hosti : Nat} : (hostSupplyCut hosti s).Canon := by
  unfold hostSupplyCut
  refine canon_ite ?_ ?_
  · apply canon_hostCutOff
    simp [h]
  · simp [h]

@[simp] theorem canon_execHostSupplyCut {s : State} (h : s.Canon) {hosti : Nat} : CanonOut (execHostSupplyCut hosti s) := by
  simp [execHostSupplyCut, h]

@[simp] theorem canon_hostSupplyRestore {s : State} (h : s.Canon) : (hostSupplyRestore s).Canon := by
  unfold hostSupplyRestore
  refine canon_ite ?_ ?_
  · refine canon_ite ?_ ?_
    · assumption
    · simp [h]
  · assumption

@[simp] theorem canon_execHostSupplyRestore {s : State} (h : s.Canon) : CanonOut (execHostSupplyRestore s) := by
  simp [execHostSupplyRestore, h]

@[simp] theorem canon_putResult {s : State} (h : s.Canon) {reg : Nat} {value : Int} {status : Nat} :
    (putResult reg value status s).Canon := by
  simp [putResult, h]

@[simp] theorem canon_postNotice {s : State} (h : s.Canon) {entry n : Nat} : (postNotice entry n s).Canon := by
  simp [postNotice, h]

@[simp] theorem canon_postNotices {s : State} (h : s.Canon) {e : List Word} {entry : Nat} : (postNotices e entry s).Canon := by
  unfold postNotices
  apply canon_forEach
  · assumption
  · simp +contextual

@[simp] theorem canon_queueFrameItem {s : State} (h : s.Canon) {e : List Word} {entry pass : Nat} {w : Word × Word} :
    (queueFrameItem e entry pass w s).Canon := by
  unfold queueFrameItem
  refine canon_ite ?_ ?_
  · assumption
  · refine canon_ite ?_ ?_
    · simp [h]
    · simp [h]

@[simp] theorem canon_armAfters {s : State} (h : s.Canon) {entry : Nat} : (armAfters entry s).Canon := by simp [armAfters, h]

@[simp] theorem canon_countSlot {s : State} (h : s.Canon) {cls : Nat} : (countSlot cls s).Canon := by
  unfold countSlot
  refine canon_ite ?_ ?_
  · simp [h]
  · refine canon_ite ?_ ?_
    · simp [h]
    · assumption

@[simp] theorem canon_finishSlot {s : State} (h : s.Canon) {e : List Word} {entry pass : Nat} {value : Int} {status cls : Nat} :
    (finishSlot e entry pass value status cls s).Canon := by
  unfold finishSlot
  apply canon_armAfters
  apply canon_countSlot
  apply canon_queueFrameItem
  simp [h]

@[simp] theorem canon_takeSetl {s : State} (h : s.Canon) {entry : Nat} : (takeSetl entry s).2.Canon := by simp [takeSetl, h]

@[simp] theorem canon_oweSetl {s : State} (h : s.Canon) {es : List Nat} : (oweSetl es s).Canon := by simp [oweSetl, h]

@[simp] theorem canon_missSlot {s : State} (h : s.Canon) {entry pass : Nat} : (missSlot entry pass s).Canon := by
  simp [missSlot, h]

@[simp] theorem canon_supplySlot {s : State} (h : s.Canon) {entry pass : Nat} {sub : Bool} : (supplySlot entry pass sub s).Canon
    := by
  simp [supplySlot, h]

@[simp] theorem canon_setWorkGain {s : State} (h : s.Canon) {entry g : Nat} {e : List Word} : (setWorkGain entry g e s).Canon :=
    by
  unfold setWorkGain
  split <;> simp [h]

@[simp] theorem canon_showHeld {s : State} (h : s.Canon) : (showHeld s).Canon := by simp [showHeld, h]

@[simp] theorem canon_makeDue {s : State} (h : s.Canon) {n : Nat} : (makeDue n s).Canon := by
  unfold makeDue
  split <;> simp [h]

@[simp] theorem canon_sliceCodes {s : State} (h : s.Canon) {n c : Nat} : (sliceCodes n c s).2.Canon := by
  have hreport : (makeDue n (report 7 (0x40 + n) (s.regN Reg.CAL_STAT) 0 (s.setFlag .CAL_STAT_COEFFB true))).Canon :=
    canon_makeDue (canon_report (canon_setFlag h))
  unfold sliceCodes
  dsimp only
  split
  · exact h
  · exact hreport

@[simp] theorem canon_routeCodes {s : State} (h : s.Canon) {r diag : Nat} : (routeCodes r diag s).2.Canon := by
  unfold routeCodes
  split
  · assumption
  · dsimp only
    split
    · simp [h]
    · split
      · assumption
      · assumption

@[simp] theorem canon_effectiveCodes {s : State} (h : s.Canon) {c : Nat} {sl : Int × Int} {ro : Int × Int × Nat} :
    (effectiveCodes c sl ro s).2.Canon := by
  simp [effectiveCodes, h]

@[simp] theorem canon_loadTrims {s : State} (h : s.Canon) {n c r diag : Nat} : (loadTrims n c r diag s).2.Canon := by
  unfold loadTrims
  split
  split
  exact canon_effectiveCodes (canon_snd ‹_› (canon_routeCodes (canon_snd ‹_› (canon_sliceCodes h))))

@[simp] theorem canon_loadSysTrims {s : State} (h : s.Canon) {n c r : Nat} : (loadSysTrims n c r s).2.Canon := by
  simp [loadSysTrims, h]

@[simp] theorem canon_connectOutput {s : State} (h : s.Canon) {k : Nat} : (connectOutput k s).Canon := by
  unfold connectOutput
  refine canon_ite ?_ ?_
  · simp [h]
  · simp [h]

@[simp] theorem canon_excBoundary {s : State} (h : s.Canon) {uses : Bool} {k : Nat} : (excBoundary uses k s).Canon := by
  unfold excBoundary
  refine canon_ite ?_ ?_
  · assumption
  · refine canon_ite ?_ ?_
    · assumption
    · apply canon_connectOutput
      assumption

@[simp] theorem canon_dutyClock {s : State} (h : s.Canon) : (dutyClock s).Canon := by
  unfold dutyClock
  refine canon_ite ?_ ?_
  · assumption
  · apply canon_forEach
    · assumption
    · simp +contextual

@[simp] theorem canon_dutyBegins {s : State} (h : s.Canon) : (dutyBegins s).Canon := by
  simp +contextual [dutyBegins, h]

@[simp] theorem canon_skipOcc {s : State} (h : s.Canon) {n : Nat} {o : Occ} : (skipOcc n o s).Canon := by
  unfold skipOcc
  split <;> simp [h]

@[simp] theorem canon_openDrives {s : State} (h : s.Canon) {n : Nat} : (openDrives n s).Canon := by simp [openDrives, h]

@[simp] theorem canon_skipWindow {s : State} (h : s.Canon) {n : Nat} {o : Occ} : (skipWindow n o s).Canon := by
  simp [skipWindow, h]

@[simp] theorem canon_switchSlice {s : State} (h : s.Canon) {n : Nat} {w : Window} : (switchSlice n w s).Canon := by
  unfold switchSlice
  refine canon_ite ?_ ?_
  · assumption
  · split
    · assumption
    · assumption

@[simp] theorem canon_placeWindow {s : State} (h : s.Canon) {n : Nat} {w : Window} : (placeWindow n w s).Canon := by
  unfold placeWindow
  split
  next heq =>
    refine canon_showBusy (canon_modSlice (canon_snd heq ?_))
    split
    · exact canon_loadSysTrims h
    · exact canon_loadTrims h

@[simp] theorem canon_countEntry {s : State} (h : s.Canon) {entry clock : Nat} : (countEntry entry clock s).Canon := by
  simp [countEntry, h]

@[simp] theorem canon_beginPair {s : State} (h : s.Canon) {o : Occ} : (beginPair o s).Canon := by simp [beginPair, h]

@[simp] theorem canon_pairConns {s : State} (h : s.Canon) {p : Nat} {w : Window} : (pairConns p w s).Canon := by
  unfold pairConns
  refine canon_ite ?_ ?_
  · assumption
  · assumption

@[simp] theorem canon_startWindow {s : State} (h : s.Canon) {n : Nat} {o : Occ} : (startWindow n o s).Canon := by
  unfold startWindow
  refine canon_ite ?_ ?_
  · simp [h]
  · refine canon_ite ?_ ?_
    · simp [h]
    · refine canon_ite ?_ ?_
      · apply canon_skipWindow
        apply canon_dropBurst
        simp [h]
      · split
        · split
          · split
            · apply canon_pairConns
              apply canon_placeWindow
              apply canon_beginPair
              apply canon_switchSlice
              apply canon_placeWindow
              refine State.Canon.update ?_
              simp +contextual [h]
            · apply canon_switchSlice
              apply canon_placeWindow
              refine State.Canon.update ?_
              simp +contextual [h]
          · apply canon_switchSlice
            apply canon_placeWindow
            simp +contextual [h]
        · split
          · split
            · apply canon_pairConns
              apply canon_placeWindow
              apply canon_beginPair
              apply canon_switchSlice
              apply canon_placeWindow
              refine State.Canon.update ?_
              simp +contextual [h]
            · apply canon_switchSlice
              apply canon_placeWindow
              refine State.Canon.update ?_
              simp +contextual [h]
          · apply canon_switchSlice
            apply canon_placeWindow
            simp +contextual [h]

@[simp] theorem canon_markIntegrated {s : State} (h : s.Canon) {n : Nat} {total : Window → Nat} :
    (markIntegrated n total s).Canon := by
  unfold markIntegrated
  (repeat' split) <;> simp [h]

@[simp] theorem canon_releaseWindow {s : State} (h : s.Canon) {n : Nat} {w : Window} : (releaseWindow n w s).Canon := by
  unfold releaseWindow
  refine canon_ite ?_ ?_
  · apply canon_releaseBurst
    simp [h]
  · simp [h]

@[simp] theorem canon_endOne {s : State} (h : s.Canon) {n : Nat} {early : Bool} : (endOne n early s).Canon := by
  unfold endOne
  split
  · assumption
  · apply canon_showBusy
    apply canon_modSlice
    simp [h]

@[simp] theorem canon_settleBuffer {s : State} (h : s.Canon) : (settleBuffer s).Canon := by simp [settleBuffer, h]

@[simp] theorem canon_endWindow {s : State} (h : s.Canon) {n : Nat} {early : Bool} : (endWindow n early s).Canon := by
  unfold endWindow
  split
  · exact h
  · refine canon_settleBuffer ?_
    split
    · exact canon_endOne (canon_endOne h)
    · exact canon_endOne h

@[simp] theorem canon_leadResult {s : State} (h : s.Canon) {w : Window} {m : Reading} : (leadResult w m s).Canon := by
  unfold leadResult
  refine canon_ite ?_ ?_
  · assumption
  · dsimp only
    split
    · apply canon_report
      apply canon_setFldBit
      apply canon_forList
      · assumption
      · simp +contextual
    · apply canon_forList
      · assumption
      · simp +contextual

end Sys2Proof.Machine
end

section
/-! Calibration and transfer: what they keep of the canonical form of the memories. -/

namespace Sys2Proof.Machine

-- One proof after another: in parallel these many proofs wait for one another on more threads than the check's memory holds.
set_option Elab.async false

@[simp] theorem canon_setPhase {s : State} (h : s.Canon) {ph n : Nat} : (setPhase ph n s).Canon := by
  unfold setPhase
  apply canon_setUrgent
  simp [h]

@[simp] theorem canon_setRetries {s : State} (h : s.Canon) {n k : Nat} : (setRetries n k s).Canon := by simp [setRetries, h]

@[simp] theorem canon_clearDue {s : State} (h : s.Canon) {n : Nat} : (clearDue n s).Canon := by simp [clearDue, h]

@[simp] theorem canon_endMeasuring {s : State} (h : s.Canon) {n : Nat} : (endMeasuring n s).Canon := by
  unfold endMeasuring
  apply canon_modSlice
  simp [h]

@[simp] theorem canon_calDirect {s : State} (h : s.Canon) {n : Nat} {on : Bool} : (calDirect n on s).Canon := by
  unfold calDirect
  split <;> simp [h]

@[simp] theorem canon_measureFrom {s : State} (h : s.Canon) {n route x2 : Nat} : (measureFrom n route x2 s).Canon := by
  unfold measureFrom
  split
  · assumption
  · refine canon_ite ?_ ?_
    · simp [h]
    · apply canon_measureFrom
      simp [h]

@[simp] theorem canon_measure0 {s : State} (h : s.Canon) {n route : Nat} : (measure0 n route s).Canon := by simp [measure0, h]

@[simp] theorem canon_measureNext {s : State} (h : s.Canon) {n : Nat} {o : Occ} : (measureNext n o s).Canon := by
  simp [measureNext, h]

@[simp] theorem canon_beginCal {s : State} (h : s.Canon) {n : Nat} : (beginCal n s).Canon := by
  unfold beginCal
  refine canon_ite ?_ ?_
  · simp [h]
  · apply canon_measure0
    simp [h]

@[simp] theorem canon_beginPoint {s : State} (h : s.Canon) : (beginPoint s).Canon := by
  unfold beginPoint
  split <;> simp [h]

@[simp] theorem canon_toIdle {s : State} (h : s.Canon) : (toIdle s).Canon := by
  unfold toIdle
  refine canon_ite ?_ ?_
  · apply canon_beginPoint
    simp [h]
  · simp [h]

@[simp] theorem canon_writeSlice {s : State} (h : s.Canon) {n : Nat} {f : Nat → List Word → List Word} : (writeSlice n f s).Canon
    := by
  unfold writeSlice
  apply canon_forEach
  · assumption
  · simp +contextual

@[simp] theorem canon_setResidual {s : State} (h : s.Canon) {n : Nat} : (setResidual n s).Canon := by simp [setResidual, h]

@[simp] theorem canon_unknownFigures {s : State} (h : s.Canon) {n : Nat} : (unknownFigures n s).Canon := by
  simp [unknownFigures, h]

@[simp] theorem canon_retireLive {s : State} (h : s.Canon) {n : Nat} : (retireLive n s).Canon := by
  unfold retireLive
  refine canon_ite ?_ ?_
  · apply canon_toIdle
    apply canon_dropConns
    apply canon_modSlice
    apply canon_unknownFigures
    apply canon_setFlag
    apply canon_clearDue
    simp [h]
  · apply canon_acceptReport
    apply canon_toIdle
    apply canon_dropConns
    apply canon_modSlice
    apply canon_unknownFigures
    apply canon_setFlag
    apply canon_clearDue
    simp [h]

@[simp] theorem canon_flushUrgent {s : State} (h : s.Canon) : (flushUrgent s).Canon := by
  unfold flushUrgent
  refine canon_ite ?_ ?_
  · apply canon_setUrgent
    simp +contextual [h]
  · assumption

@[simp] theorem canon_retireSwing {s : State} (h : s.Canon) : (retireSwing s).Canon := by
  unfold retireSwing
  apply canon_flushUrgent
  apply canon_acceptReport
  apply canon_toIdle
  apply canon_modSlice
  apply canon_unknownFigures
  apply canon_setFlag
  apply canon_clearDue
  simp [h]

@[simp] theorem canon_movePending {s : State} (h : s.Canon) {a b : Nat} : (movePending a b s).Canon := by simp [movePending, h]

@[simp] theorem canon_takeOver {s : State} (h : s.Canon) {n : Nat} : (takeOver n s).Canon := by
  unfold takeOver
  apply canon_beginCal
  apply canon_setPhase
  apply canon_calDirect
  apply canon_setRetries
  refine canon_ite ?_ ?_
  · assumption
  · assumption

@[simp] theorem canon_handBack {s : State} (h : s.Canon) {n : Nat} : (handBack n s).Canon := by
  unfold handBack
  apply canon_toIdle
  apply canon_setFlag
  apply canon_setFldBit
  apply canon_movePending
  refine canon_ite ?_ ?_
  · simp [h]
  · assumption

@[simp] theorem canon_passOverlap {s : State} (h : s.Canon) : (passOverlap s).Canon := by
  unfold passOverlap
  refine canon_ite ?_ ?_
  · simp [h]
  · refine canon_ite ?_ ?_
    · simp [h]
    · refine canon_ite ?_ ?_
      · simp [h]
      · assumption

@[simp] theorem canon_settleOverlap {s : State} (h : s.Canon) : (settleOverlap s).Canon := by simp [settleOverlap, h]

@[simp] theorem canon_beginOverlap {s : State} (h : s.Canon) {ph n : Nat} : (beginOverlap ph n s).Canon := by
  unfold beginOverlap
  apply canon_settleOverlap
  simp [h]

@[simp] theorem canon_noVerdict {s : State} (h : s.Canon) : (noVerdict s).Canon := by simp [noVerdict, h]

@[simp] theorem canon_enterProbe {s : State} (h : s.Canon) : (enterProbe s).Canon := by
  unfold enterProbe
  split <;> simp [h]

@[simp] theorem canon_failOverlap {s : State} (h : s.Canon) {d : Nat} : (failOverlap d s).Canon := by
  unfold failOverlap
  refine canon_ite ?_ ?_
  · refine canon_ite ?_ ?_
    · apply canon_enterProbe
      simp [h]
    · apply canon_beginCal
      apply canon_setPhase
      apply canon_calDirect
      apply canon_setRetries
      simp [h]
  · refine canon_ite ?_ ?_
    · refine canon_ite ?_ ?_
      · simp [h]
      · apply canon_beginCal
        apply canon_setPhase
        apply canon_calDirect
        simp [h]
    · refine canon_ite ?_ ?_
      · simp [h]
      · simp [h]

@[simp] theorem canon_pairEnded {s : State} (h : s.Canon) {entry : Nat} {v1 v2 : Int} {both : Bool} :
    (pairEnded entry v1 v2 both s).Canon := by
  unfold pairEnded
  refine canon_ite ?_ ?_
  · assumption
  · refine canon_ite ?_ ?_
    · simp [h]
    · refine canon_ite ?_ ?_
      · apply canon_passOverlap
        simp [h]
      · refine canon_ite ?_ ?_
        · refine canon_ite ?_ ?_
          · apply canon_noVerdict
            simp [h]
          · apply canon_passOverlap
            simp [h]
        · simp [h]

@[simp] theorem canon_calPeriodExpire {s : State} (h : s.Canon) {n : Nat} : (calPeriodExpire n s).Canon := by
  unfold calPeriodExpire
  split <;> simp [h]

@[simp] theorem canon_execCalPeriodExpire {s : State} (h : s.Canon) {n : Nat} : CanonOut (execCalPeriodExpire n s) := by
  simp [execCalPeriodExpire, h]

@[simp] theorem canon_tempDue {s : State} (h : s.Canon) : (tempDue s).Canon := by
  unfold tempDue
  split
  · assumption
  · apply canon_showHeld
    apply canon_forEach
    · assumption
    · simp +contextual

@[simp] theorem canon_allDue {s : State} (h : s.Canon) : (allDue s).Canon := by
  unfold allDue
  apply canon_showHeld
  simp +contextual [h]

@[simp] theorem canon_swingLeadBegin {s : State} (h : s.Canon) : (swingLeadBegin s).Canon := by
  unfold swingLeadBegin
  split
  · assumption
  · apply canon_beginCal
    apply canon_setPhase
    apply canon_calDirect
    assumption

@[simp] theorem canon_resumeCal {s : State} (h : s.Canon) : (resumeCal s).Canon := by
  unfold resumeCal
  refine canon_ite ?_ ?_
  · simp [h]
  · refine canon_ite ?_ ?_
    · simp [h]
    · refine canon_ite ?_ ?_
      · simp [h]
      · simp [h]

@[simp] theorem canon_execSwingLeadBegin {s : State} (h : s.Canon) : CanonOut (execSwingLeadBegin s) := by
  simp [execSwingLeadBegin, h]

@[simp] theorem canon_codesFound {s : State} (h : s.Canon) {n c : Nat} {m : Int × Int} : (codesFound n c m s).2.Canon := by
  simp [codesFound, h]

@[simp] theorem canon_passCodes {s : State} (h : s.Canon) {n : Nat} {ms : List (Int × Int)} : (passCodes n ms s).2.Canon := by
  have hfold : ∀ (l : List Nat) (acc : List (Int × Int) × State), acc.2.Canon →
      (l.foldl (fun acc c => let (x, t) := codesFound n c (nth (0, 0) ms c) acc.2; (acc.1 ++ [x], t)) acc).2.Canon := by
    intro l
    induction l with
    | nil => exact fun _ hacc => hacc
    | cons c l ih =>
      intro acc hacc
      refine ih _ ?_
      exact canon_codesFound (m := nth (0, 0) ms c) hacc
  exact hfold _ _ h

@[simp] theorem canon_installCodes {s : State} (h : s.Canon) {n : Nat} {pa pb : List (Int × Int)} {spread : Nat} :
    (installCodes n pa pb spread s).Canon := by
  unfold installCodes
  apply canon_clearDue
  refine canon_ite ?_ ?_
  · simp [h]
  · simp [h]

@[simp] theorem canon_calibrationComplete {s : State} (h : s.Canon) {ma mb : List (Int × Int)} :
    (calibrationComplete ma mb s).Canon := by
  have hpasses : ∀ {n : Nat} {t u v : State} {pa pb : List (Int × Int)}, passCodes n ma t = (pa, u) → passCodes n mb u = (pb, v) →
      t.Canon → v.Canon := fun ha hb ht => canon_snd hb (canon_passCodes (canon_snd ha (canon_passCodes ht)))
  have hended : ∀ n, (endMeasuring n { s with cal := { s.cal with measuring := false } }).Canon :=
    fun _ => canon_endMeasuring h.update
  fun_cases calibrationComplete ma mb s with
  | case1 => exact h
  | case2 _ _ _ _ _ ha _ _ hb | case3 _ _ _ _ _ ha _ _ hb =>
    exact canon_beginOverlap (canon_calDirect (canon_installCodes (hpasses ha hb (hended _))))
  | case4 _ _ _ _ _ ha _ _ hb => exact canon_beginCal (canon_setRetries (canon_mkRecord (hpasses ha hb (hended _))))
  | case5 _ _ _ _ _ ha _ _ hb => exact canon_retireSwing (canon_mkRecord (hpasses ha hb (hended _)))
  | case6 _ _ _ _ _ ha _ _ hb => exact canon_retireLive (canon_mkRecord (hpasses ha hb (hended _)))

@[simp] theorem canon_execCalibrationComplete {s : State} (h : s.Canon) {passA passB : List (Int × Int)} : CanonOut
    (execCalibrationComplete passA passB s) := by
  simp [execCalibrationComplete, h]

@[simp] theorem canon_probeTmaxExpire {s : State} (h : s.Canon) : (probeTmaxExpire s).Canon := by simp [probeTmaxExpire, h]

@[simp] theorem canon_execProbeTmaxExpire {s : State} (h : s.Canon) : CanonOut (execProbeTmaxExpire s) := by
  simp [execProbeTmaxExpire, h]

@[simp] theorem canon_coefScrub {s : State} (h : s.Canon) {i : Nat} : (coefScrub i s).Canon := by
  unfold coefScrub
  refine canon_ite ?_ ?_
  · assumption
  · refine canon_ite ?_ ?_
    · simp [h]
    · apply canon_showHeld
      apply canon_makeDue
      simp [h]

@[simp] theorem canon_execCoefScrub {s : State} (h : s.Canon) {i : Nat} : CanonOut (execCoefScrub i s) := by
  simp [execCoefScrub, h]

@[simp] theorem canon_sysCommand {s : State} (h : s.Canon) {full : Bool} {route n : Nat} : (sysCommand full route n s).2.Canon :=
    by
  unfold sysCommand
  split
  · assumption
  · split
    · assumption
    · refine canon_ite ?_ ?_
      · apply canon_beginPoint
        refine State.Canon.update ?_
        simp [h]
      · refine canon_ite ?_ ?_
        · apply canon_beginPoint
          apply canon_setPhase
          refine State.Canon.update ?_
          simp [h]
        · refine State.Canon.update ?_
          simp [h]

@[simp] theorem canon_nowCommand {s : State} (h : s.Canon) {n : Nat} : (nowCommand n s).2.Canon := by
  unfold nowCommand
  split <;> simp [h]

@[simp] theorem canon_retestCommand {s : State} (h : s.Canon) {n : Nat} : (retestCommand n s).2.Canon := by
  unfold retestCommand
  dsimp only
  split
  · assumption
  · apply canon_beginCal
    apply canon_setPhase
    apply canon_calDirect
    assumption

@[simp] theorem canon_stageCoef {s : State} (h : s.Canon) {is : List Nat} : (stageCoef is s).Canon := by
  unfold stageCoef
  apply canon_showHeld
  simp [h]

@[simp] theorem canon_factoryCommand {s : State} (h : s.Canon) : (factoryCommand s).2.Canon := by
  unfold factoryCommand
  apply canon_stageCoef
  apply canon_forEach
  · assumption
  · simp +contextual

@[simp] theorem canon_releaseDirect {s : State} (h : s.Canon) {n : Nat} : (releaseDirect n s).Canon := by
  unfold releaseDirect
  refine canon_ite ?_ ?_
  · apply canon_modSlice
    simp [h]
  · assumption

@[simp] theorem canon_endSys {s : State} (h : s.Canon) {st rsn : Nat} : (endSys st rsn s).Canon := by
  unfold endSys
  refine canon_ite ?_ ?_
  · apply canon_toIdle
    refine State.Canon.update ?_
    split
    · apply canon_releaseDirect
      apply canon_endMeasuring
      simp [h]
    · simp [h]
  · refine State.Canon.update ?_
    split
    · apply canon_releaseDirect
      apply canon_endMeasuring
      simp [h]
    · simp [h]

@[simp] theorem canon_writePoint {s : State} (h : s.Canon) {full : Bool} {r n : Nat} {m32 : Int} :
    (writePoint full r n m32 s).Canon := by
  unfold writePoint
  dsimp only
  split
  · simp [h]
  · refine canon_ite ?_ ?_
    · simp [h]
    · apply canon_endSys
      apply canon_stageCoef
      simp [h]

@[simp] theorem canon_syscalPointDone {s : State} (h : s.Canon) {g1 g2 : List Int} {ok : Bool} :
    (syscalPointDone g1 g2 ok s).Canon := by
  unfold syscalPointDone
  split
  · assumption
  · refine canon_ite ?_ ?_
    · assumption
    · refine canon_ite ?_ ?_
      · simp [h]
      · refine canon_ite ?_ ?_
        · apply canon_beginPoint
          simp [h]
        · simp [h]

@[simp] theorem canon_execSyscalPointDone {s : State} (h : s.Canon) {group1 group2 : List Int} {valid : Bool} : CanonOut
    (execSyscalPointDone group1 group2 valid s) := by
  simp [execSyscalPointDone, h]

@[simp] theorem canon_ramWrite {s : State} (h : s.Canon) {base size off : Nat} {bs : List Byte} :
    (ramWrite base size off bs s).Canon := by
  have hput : ∀ (l : List (Byte × Nat)) (m : List Host.Cell), canonical ramByte m = true →
      canonical ramByte (l.foldl (fun m b => writeAt ramByte m (ramAddr base size off b.2) b.1) m) = true := by
    intro l
    induction l with
    | nil => exact fun _ hm => hm
    | cons b l ih => exact fun m hm => ih _ (canonical_writeAt ramByte m (ramAddr base size off b.2) b.1 hm)
  exact (canon_iff _).mpr ⟨h.regs, h.store, h.mem, hput bs.zipIdx s.xfer.ram h.ram⟩

@[simp] theorem canon_modOldest {s : State} (h : s.Canon) {bit : Nat} {f : Descr → Descr} : (modOldest bit f s).Canon := by
  unfold modOldest
  split <;> simp [h]

@[simp] theorem canon_settleDescrs {s : State} (h : s.Canon) : (settleDescrs s).Canon := by
  unfold settleDescrs
  apply canon_setFlag
  apply canon_setFld
  refine canon_ite ?_ ?_
  · refine canon_modXfer ?_
    simp [h]
  · assumption

@[simp] theorem canon_holdFrame {s : State} (h : s.Canon) {bs : List Byte} {number mask : Nat} :
    (holdFrame bs number mask s).Canon := by
  unfold holdFrame
  refine canon_ite ?_ ?_
  · simp [h]
  · apply canon_settleDescrs
    refine canon_modXfer ?_
    apply canon_setFld
    apply canon_ramWrite
    simp +contextual [h]

@[simp] theorem canon_deliverCapture {s : State} (h : s.Canon) : (deliverCapture s).Canon := by
  unfold deliverCapture
  apply canon_settleDescrs
  refine canon_modXfer ?_
  apply canon_setFld
  simp [h]

@[simp] theorem canon_placeCapture {s : State} (h : s.Canon) {bs : List Byte} : (placeCapture bs s).Canon := by
  simp [placeCapture, h]

@[simp] theorem canon_captureFrame {s : State} (h : s.Canon) {bs : List Byte} : (captureFrame bs s).Canon := by
  unfold captureFrame
  refine canon_ite ?_ ?_
  · refine canon_ite ?_ ?_
    · assumption
    · refine canon_ite ?_ ?_
      · apply canon_placeCapture
        simp +contextual [h]
      · simp +contextual [h]
  · refine canon_ite ?_ ?_
    · refine canon_ite ?_ ?_
      · refine canon_ite ?_ ?_
        · apply canon_deliverCapture
          refine canon_modXfer ?_
          apply canon_placeCapture
          simp +contextual [h]
        · refine canon_modXfer ?_
          apply canon_placeCapture
          simp +contextual [h]
      · apply canon_deliverCapture
        apply canon_setFlag
        simp +contextual [h]
    · assumption

@[simp] theorem canon_closeFrame {s : State} (h : s.Canon) {cont : Bool} : (closeFrame cont s).Canon := by
  unfold closeFrame
  split
  · assumption
  · apply canon_captureFrame
    simp [h]

@[simp] theorem canon_openFrameFor {s : State} (h : s.Canon) {pass : Nat} : (openFrameFor pass s).Canon := by
  simp [openFrameFor, h]

@[simp] theorem canon_addItem {s : State} (h : s.Canon) {it : Nat × Nat × Nat} : (addItem it s).Canon := by simp [addItem, h]

@[simp] theorem canon_frameItemTake {s : State} (h : s.Canon) : (frameItemTake s).Canon := by
  unfold frameItemTake
  split
  · assumption
  · dsimp only
    split
    · refine canon_ite ?_ ?_
      · apply canon_closeFrame
        apply canon_addItem
        refine canon_ite ?_ ?_
        · apply canon_openFrameFor
          refine canon_ite ?_ ?_
          · simp [h]
          · simp [h]
        · refine canon_ite ?_ ?_
          · simp [h]
          · simp [h]
      · apply canon_addItem
        refine canon_ite ?_ ?_
        · apply canon_openFrameFor
          refine canon_ite ?_ ?_
          · simp [h]
          · simp [h]
        · refine canon_ite ?_ ?_
          · simp [h]
          · simp [h]
    · apply canon_addItem
      refine canon_ite ?_ ?_
      · apply canon_openFrameFor
        refine canon_ite ?_ ?_
        · simp [h]
        · simp [h]
      · refine canon_ite ?_ ?_
        · simp [h]
        · simp [h]

@[simp] theorem canon_execFrameItemTake {s : State} (h : s.Canon) : CanonOut (execFrameItemTake s) := by
  simp [execFrameItemTake, h]

@[simp] theorem canon_execFrameAgeClose {s : State} (h : s.Canon) : CanonOut (execFrameAgeClose s) := by
  simp [execFrameAgeClose, h]

@[simp] theorem canon_armCapture {s : State} (h : s.Canon) : (armCapture s).Canon := by
  unfold armCapture
  refine canon_ite ?_ ?_
  · refine canon_modXfer ?_
    simp [h]
  · assumption

@[simp] theorem canon_stopCapture {s : State} (h : s.Canon) : (stopCapture s).Canon := by
  unfold stopCapture
  refine canon_ite ?_ ?_
  · assumption
  · refine canon_modXfer ?_
    simp [h]

@[simp] theorem canon_releaseFor {s : State} (h : s.Canon) {bit : Nat} {capture : Bool} : (releaseFor bit capture s).Canon := by
  simp [releaseFor, h]

@[simp] theorem canon_ctrlEffect {s : State} (h : s.Canon) {v : Word} : (ctrlEffect v s).Canon := by
  unfold ctrlEffect
  apply canon_settleDescrs
  refine canon_ite ?_ ?_
  · refine canon_ite ?_ ?_
    · refine canon_ite ?_ ?_
      · refine canon_ite ?_ ?_
        · refine canon_ite ?_ ?_
          · refine canon_ite ?_ ?_
            · refine canon_ite ?_ ?_
              · refine canon_modXfer ?_
                apply canon_setReg32
                simp [h]
              · simp [h]
            · apply canon_releaseFor
              refine canon_ite ?_ ?_
              · refine canon_modXfer ?_
                apply canon_setReg32
                simp [h]
              · simp [h]
          · apply canon_releaseFor
            refine canon_ite ?_ ?_
            · refine canon_ite ?_ ?_
              · refine canon_modXfer ?_
                apply canon_setReg32
                simp [h]
              · simp [h]
            · apply canon_releaseFor
              refine canon_ite ?_ ?_
              · refine canon_modXfer ?_
                apply canon_setReg32
                simp [h]
              · simp [h]
        · apply canon_releaseFor
          refine canon_ite ?_ ?_
          · refine canon_ite ?_ ?_
            · refine canon_ite ?_ ?_
              · refine canon_modXfer ?_
                apply canon_setReg32
                simp [h]
              · simp [h]
            · apply canon_releaseFor
              refine canon_ite ?_ ?_
              · refine canon_modXfer ?_
                apply canon_setReg32
                simp [h]
              · simp [h]
          · apply canon_releaseFor
            refine canon_ite ?_ ?_
            · refine canon_ite ?_ ?_
              · refine canon_modXfer ?_
                apply canon_setReg32
                simp [h]
              · simp [h]
            · apply canon_releaseFor
              refine canon_ite ?_ ?_
              · refine canon_modXfer ?_
                apply canon_setReg32
                simp [h]
              · simp [h]
      · apply canon_releaseFor
        refine canon_ite ?_ ?_
        · refine canon_ite ?_ ?_
          · refine canon_ite ?_ ?_
            · refine canon_ite ?_ ?_
              · refine canon_modXfer ?_
                apply canon_setReg32
                simp [h]
              · simp [h]
            · apply canon_releaseFor
              refine canon_ite ?_ ?_
              · refine canon_modXfer ?_
                apply canon_setReg32
                simp [h]
              · simp [h]
          · apply canon_releaseFor
            refine canon_ite ?_ ?_
            · refine canon_ite ?_ ?_
              · refine canon_modXfer ?_
                apply canon_setReg32
                simp [h]
              · simp [h]
            · apply canon_releaseFor
              refine canon_ite ?_ ?_
              · refine canon_modXfer ?_
                apply canon_setReg32
                simp [h]
              · simp [h]
        · apply canon_releaseFor
          refine canon_ite ?_ ?_
          · refine canon_ite ?_ ?_
            · refine canon_ite ?_ ?_
              · refine canon_modXfer ?_
                apply canon_setReg32
                simp [h]
              · simp [h]
            · apply canon_releaseFor
              refine canon_ite ?_ ?_
              · refine canon_modXfer ?_
                apply canon_setReg32
                simp [h]
              · simp [h]
          · apply canon_releaseFor
            refine canon_ite ?_ ?_
            · refine canon_ite ?_ ?_
              · refine canon_modXfer ?_
                apply canon_setReg32
                simp [h]
              · simp [h]
            · apply canon_releaseFor
              refine canon_ite ?_ ?_
              · refine canon_modXfer ?_
                apply canon_setReg32
                simp [h]
              · simp [h]
    · apply canon_releaseFor
      refine canon_ite ?_ ?_
      · refine canon_ite ?_ ?_
        · refine canon_ite ?_ ?_
          · refine canon_ite ?_ ?_
            · refine canon_ite ?_ ?_
              · refine canon_modXfer ?_
                apply canon_setReg32
                simp [h]
              · simp [h]
            · apply canon_releaseFor
              refine canon_ite ?_ ?_
              · refine canon_modXfer ?_
                apply canon_setReg32
                simp [h]
              · simp [h]
          · apply canon_releaseFor
            refine canon_ite ?_ ?_
            · refine canon_ite ?_ ?_
              · refine canon_modXfer ?_
                apply canon_setReg32
                simp [h]
              · simp [h]
            · apply canon_releaseFor
              refine canon_ite ?_ ?_
              · refine canon_modXfer ?_
                apply canon_setReg32
                simp [h]
              · simp [h]
        · apply canon_releaseFor
          refine canon_ite ?_ ?_
          · refine canon_ite ?_ ?_
            · refine canon_ite ?_ ?_
              · refine canon_modXfer ?_
                apply canon_setReg32
                simp [h]
              · simp [h]
            · apply canon_releaseFor
              refine canon_ite ?_ ?_
              · refine canon_modXfer ?_
                apply canon_setReg32
                simp [h]
              · simp [h]
          · apply canon_releaseFor
            refine canon_ite ?_ ?_
            · refine canon_ite ?_ ?_
              · refine canon_modXfer ?_
                apply canon_setReg32
                simp [h]
              · simp [h]
            · apply canon_releaseFor
              refine canon_ite ?_ ?_
              · refine canon_modXfer ?_
                apply canon_setReg32
                simp [h]
              · simp [h]
      · apply canon_releaseFor
        refine canon_ite ?_ ?_
        · refine canon_ite ?_ ?_
          · refine canon_ite ?_ ?_
            · refine canon_ite ?_ ?_
              · refine canon_modXfer ?_
                apply canon_setReg32
                simp [h]
              · simp [h]
            · apply canon_releaseFor
              refine canon_ite ?_ ?_
              · refine canon_modXfer ?_
                apply canon_setReg32
                simp [h]
              · simp [h]
          · apply canon_releaseFor
            refine canon_ite ?_ ?_
            · refine canon_ite ?_ ?_
              · refine canon_modXfer ?_
                apply canon_setReg32
                simp [h]
              · simp [h]
            · apply canon_releaseFor
              refine canon_ite ?_ ?_
              · refine canon_modXfer ?_
                apply canon_setReg32
                simp [h]
              · simp [h]
        · apply canon_releaseFor
          refine canon_ite ?_ ?_
          · refine canon_ite ?_ ?_
            · refine canon_ite ?_ ?_
              · refine canon_modXfer ?_
                apply canon_setReg32
                simp [h]
              · simp [h]
            · apply canon_releaseFor
              refine canon_ite ?_ ?_
              · refine canon_modXfer ?_
                apply canon_setReg32
                simp [h]
              · simp [h]
          · apply canon_releaseFor
            refine canon_ite ?_ ?_
            · refine canon_ite ?_ ?_
              · refine canon_modXfer ?_
                apply canon_setReg32
                simp [h]
              · simp [h]
            · apply canon_releaseFor
              refine canon_ite ?_ ?_
              · refine canon_modXfer ?_
                apply canon_setReg32
                simp [h]
              · simp [h]
  · apply canon_releaseFor
    refine canon_ite ?_ ?_
    · refine canon_ite ?_ ?_
      · refine canon_ite ?_ ?_
        · refine canon_ite ?_ ?_
          · refine canon_ite ?_ ?_
            · refine canon_ite ?_ ?_
              · refine canon_modXfer ?_
                apply canon_setReg32
                simp [h]
              · simp [h]
            · apply canon_releaseFor
              refine canon_ite ?_ ?_
              · refine canon_modXfer ?_
                apply canon_setReg32
                simp [h]
              · simp [h]
          · apply canon_releaseFor
            refine canon_ite ?_ ?_
            · refine canon_ite ?_ ?_
              · refine canon_modXfer ?_
                apply canon_setReg32
                simp [h]
              · simp [h]
            · apply canon_releaseFor
              refine canon_ite ?_ ?_
              · refine canon_modXfer ?_
                apply canon_setReg32
                simp [h]
              · simp [h]
        · apply canon_releaseFor
          refine canon_ite ?_ ?_
          · refine canon_ite ?_ ?_
            · refine canon_ite ?_ ?_
              · refine canon_modXfer ?_
                apply canon_setReg32
                simp [h]
              · simp [h]
            · apply canon_releaseFor
              refine canon_ite ?_ ?_
              · refine canon_modXfer ?_
                apply canon_setReg32
                simp [h]
              · simp [h]
          · apply canon_releaseFor
            refine canon_ite ?_ ?_
            · refine canon_ite ?_ ?_
              · refine canon_modXfer ?_
                apply canon_setReg32
                simp [h]
              · simp [h]
            · apply canon_releaseFor
              refine canon_ite ?_ ?_
              · refine canon_modXfer ?_
                apply canon_setReg32
                simp [h]
              · simp [h]
      · apply canon_releaseFor
        refine canon_ite ?_ ?_
        · refine canon_ite ?_ ?_
          · refine canon_ite ?_ ?_
            · refine canon_ite ?_ ?_
              · refine canon_modXfer ?_
                apply canon_setReg32
                simp [h]
              · simp [h]
            · apply canon_releaseFor
              refine canon_ite ?_ ?_
              · refine canon_modXfer ?_
                apply canon_setReg32
                simp [h]
              · simp [h]
          · apply canon_releaseFor
            refine canon_ite ?_ ?_
            · refine canon_ite ?_ ?_
              · refine canon_modXfer ?_
                apply canon_setReg32
                simp [h]
              · simp [h]
            · apply canon_releaseFor
              refine canon_ite ?_ ?_
              · refine canon_modXfer ?_
                apply canon_setReg32
                simp [h]
              · simp [h]
        · apply canon_releaseFor
          refine canon_ite ?_ ?_
          · refine canon_ite ?_ ?_
            · refine canon_ite ?_ ?_
              · refine canon_modXfer ?_
                apply canon_setReg32
                simp [h]
              · simp [h]
            · apply canon_releaseFor
              refine canon_ite ?_ ?_
              · refine canon_modXfer ?_
                apply canon_setReg32
                simp [h]
              · simp [h]
          · apply canon_releaseFor
            refine canon_ite ?_ ?_
            · refine canon_ite ?_ ?_
              · refine canon_modXfer ?_
                apply canon_setReg32
                simp [h]
              · simp [h]
            · apply canon_releaseFor
              refine canon_ite ?_ ?_
              · refine canon_modXfer ?_
                apply canon_setReg32
                simp [h]
              · simp [h]
    · apply canon_releaseFor
      refine canon_ite ?_ ?_
      · refine canon_ite ?_ ?_
        · refine canon_ite ?_ ?_
          · refine canon_ite ?_ ?_
            · refine canon_ite ?_ ?_
              · refine canon_modXfer ?_
                apply canon_setReg32
                simp [h]
              · simp [h]
            · apply canon_releaseFor
              refine canon_ite ?_ ?_
              · refine canon_modXfer ?_
                apply canon_setReg32
                simp [h]
              · simp [h]
          · apply canon_releaseFor
            refine canon_ite ?_ ?_
            · refine canon_ite ?_ ?_
              · refine canon_modXfer ?_
                apply canon_setReg32
                simp [h]
              · simp [h]
            · apply canon_releaseFor
              refine canon_ite ?_ ?_
              · refine canon_modXfer ?_
                apply canon_setReg32
                simp [h]
              · simp [h]
        · apply canon_releaseFor
          refine canon_ite ?_ ?_
          · refine canon_ite ?_ ?_
            · refine canon_ite ?_ ?_
              · refine canon_modXfer ?_
                apply canon_setReg32
                simp [h]
              · simp [h]
            · apply canon_releaseFor
              refine canon_ite ?_ ?_
              · refine canon_modXfer ?_
                apply canon_setReg32
                simp [h]
              · simp [h]
          · apply canon_releaseFor
            refine canon_ite ?_ ?_
            · refine canon_ite ?_ ?_
              · refine canon_modXfer ?_
                apply canon_setReg32
                simp [h]
              · simp [h]
            · apply canon_releaseFor
              refine canon_ite ?_ ?_
              · refine canon_modXfer ?_
                apply canon_setReg32
                simp [h]
              · simp [h]
      · apply canon_releaseFor
        refine canon_ite ?_ ?_
        · refine canon_ite ?_ ?_
          · refine canon_ite ?_ ?_
            · refine canon_ite ?_ ?_
              · refine canon_modXfer ?_
                apply canon_setReg32
                simp [h]
              · simp [h]
            · apply canon_releaseFor
              refine canon_ite ?_ ?_
              · refine canon_modXfer ?_
                apply canon_setReg32
                simp [h]
              · simp [h]
          · apply canon_releaseFor
            refine canon_ite ?_ ?_
            · refine canon_ite ?_ ?_
              · refine canon_modXfer ?_
                apply canon_setReg32
                simp [h]
              · simp [h]
            · apply canon_releaseFor
              refine canon_ite ?_ ?_
              · refine canon_modXfer ?_
                apply canon_setReg32
                simp [h]
              · simp [h]
        · apply canon_releaseFor
          refine canon_ite ?_ ?_
          · refine canon_ite ?_ ?_
            · refine canon_ite ?_ ?_
              · refine canon_modXfer ?_
                apply canon_setReg32
                simp [h]
              · simp [h]
            · apply canon_releaseFor
              refine canon_ite ?_ ?_
              · refine canon_modXfer ?_
                apply canon_setReg32
                simp [h]
              · simp [h]
          · apply canon_releaseFor
            refine canon_ite ?_ ?_
            · refine canon_ite ?_ ?_
              · refine canon_modXfer ?_
                apply canon_setReg32
                simp [h]
              · simp [h]
            · apply canon_releaseFor
              refine canon_ite ?_ ?_
              · refine canon_modXfer ?_
                apply canon_setReg32
                simp [h]
              · simp [h]

@[simp] theorem canon_pullFrame {s : State} (h : s.Canon) : (pullFrame s).2.Canon := by
  unfold pullFrame
  split <;> simp [h]

@[simp] theorem canon_pullNext {s : State} (h : s.Canon) : (pullNext s).2.Canon := by
  unfold pullNext
  split
  · split
    · simp [h]
    · simp [h]
  · simp [h]

theorem canon_nextSegment {s : State} (h : s.Canon) : ∀ x, nextSegment s = some x → x.2.Canon := by
  unfold nextSegment
  (repeat' split) <;> simp [h]

@[simp] theorem canon_takeSegment {s : State} (h : s.Canon) {src : Nat} {bytes : List Byte} : (takeSegment src bytes s).Canon :=
    by
  have hput : ∀ {t : State}, t.Canon → ∀ o : Option (Nat × List Byte), (t.modXfer (fun x => { x with
      reasm := x.reasm.filter (fun r => r.1 != src) ++ (match o with | some r => [(src, r.1, r.2)] | none => []) })).Canon :=
    fun ht _ => canon_modXfer ht
  have hflag : ∀ {t : State}, t.Canon → (t.setFlag .XFER_STAT_RDROP true).Canon := fun ht => canon_setFlag ht
  cases bytes with
  | nil => exact h
  | cons b seg =>
    rw [takeSegment]
    generalize joinSegment src b seg s = joined
    obtain ⟨bad, sofar⟩ := joined
    refine canon_ite h ?_
    have hbad : (s.when bad (fun t => t.setFlag .XFER_STAT_RDROP true)).Canon := canon_when h fun _ => hflag
    split
    · exact hput hbad none
    next l =>
      exact canon_ite (hput hbad (some (b.toNat % 64 + 1, l))) (canon_ite (hput (hflag hbad) none) (canon_holdFrame (hput hbad none)))

@[simp] theorem canon_fitPiece {s : State} (h : s.Canon) : (fitPiece s).Canon := by
  unfold fitPiece
  split
  · assumption
  · refine canon_ite ?_ ?_
    · assumption
    · refine canon_ite ?_ ?_
      · apply canon_setReg32
        simp +contextual [h]
      · simp [h]

@[simp] theorem canon_mailboxFail {s : State} (h : s.Canon) {rsn : Nat} : (mailboxFail rsn s).Canon := by simp [mailboxFail, h]

@[simp] theorem canon_failWaiting {s : State} (h : s.Canon) : (failWaiting s).Canon := by
  unfold failWaiting
  split
  · refine canon_ite ?_ ?_
    · simp [h]
    · assumption
  · assumption

@[simp] theorem canon_xmemOpStart {s : State} (h : s.Canon) : (xmemOpStart s).Canon := by
  unfold xmemOpStart
  refine canon_ite ?_ ?_
  · assumption
  · dsimp only
    split
    · simp [h]
    · refine canon_ite ?_ ?_
      · refine canon_modXfer ?_
        apply canon_setFlag
        simp [h]
      · simp [h]

@[simp] theorem canon_execXmemOpStart {s : State} (h : s.Canon) : CanonOut (execXmemOpStart s) := by simp [execXmemOpStart, h]

@[simp] theorem canon_endXop {s : State} (h : s.Canon) : (endXop s).Canon := by
  unfold endXop
  apply canon_releaseBurst
  apply canon_releaseBurst
  apply canon_dropWaiting
  refine canon_modXfer ?_
  simp [h]

@[simp] theorem canon_streamDone {s : State} (h : s.Canon) {o : XOp} : (streamDone o s).Canon := by
  unfold streamDone
  refine canon_ite ?_ ?_
  · assumption
  · dsimp only
    split
    · refine canon_ite ?_ ?_
      · simp [h]
      · refine canon_modXfer ?_
        simp [h]
    · apply canon_settleDescrs
      apply canon_modOldest
      refine canon_ite ?_ ?_
      · simp [h]
      · refine canon_modXfer ?_
        simp [h]

@[simp] theorem canon_xmemOpComplete {s : State} (h : s.Canon) : (xmemOpComplete s).Canon := by
  unfold xmemOpComplete
  split
  · exact h
  · next o _ =>
    have hmem : (s.modXfer (fun x => { x with mem := memAfter s.isFlash o x.mem })).Canon :=
      (canon_iff _).mpr ⟨h.regs, h.store, canonical_memAfter h.mem, h.ram⟩
    exact canon_endXop (canon_ite (canon_streamDone hmem) (canon_ite (canon_setFlag (canon_modXfer hmem)) hmem))

@[simp] theorem canon_execXmemOpComplete {s : State} (h : s.Canon) : CanonOut (execXmemOpComplete s) := by
  simp [execXmemOpComplete, h]

@[simp] theorem canon_xmemContinuation {s : State} (h : s.Canon) : (xmemContinuation s).Canon := by
  unfold xmemContinuation
  split <;> simp [h]

@[simp] theorem canon_execXmemContinuation {s : State} (h : s.Canon) : CanonOut (execXmemContinuation s) := by
  simp [execXmemContinuation, h]

@[simp] theorem canon_cutShort {s : State} (h : s.Canon) {old new : List Byte} : (cutShort old new s).2.Canon := by
  simp [cutShort, h]

@[simp] theorem canon_memFailure {s : State} (h : s.Canon) {param addr : Nat} : (memFailure param addr s).Canon := by
  unfold memFailure
  apply canon_settleDescrs
  simp [h]

@[simp] theorem canon_failOp {s : State} (h : s.Canon) {param : Nat} {o : XOp} : (failOp param o s).Canon := by
  unfold failOp
  apply canon_memFailure
  refine canon_ite ?_ ?_
  · apply canon_mailboxFail
    simp [h]
  · simp [h]

@[simp] theorem canon_memoryGone {s : State} (h : s.Canon) : (memoryGone s).Canon := by
  unfold memoryGone
  apply canon_settleDescrs
  apply canon_setFlag
  split
  · simp [h]
  · refine canon_ite ?_ ?_
    · apply canon_mailboxFail
      simp [h]
    · simp [h]

@[simp] theorem canon_xmemTimeout {s : State} (h : s.Canon) : (xmemTimeout s).Canon := by
  have hcut : ∀ (a m : Nat) (left : List Byte), ({ s with free := m }.modXfer
      (fun x => { x with mem := writeRun erasedByte x.mem a left })).Canon := fun _ _ _ =>
    (canon_iff _).mpr ⟨h.regs, h.store, canonical_writeRun _ _ _ _ h.mem, h.ram⟩
  unfold xmemTimeout
  split
  · exact h
  · refine canon_ite h ?_
    simp only [cutShort]
    exact canon_failOp (hcut _ _ _)

@[simp] theorem canon_execXmemTimeout {s : State} (h : s.Canon) : CanonOut (execXmemTimeout s) := by simp [execXmemTimeout, h]

@[simp] theorem canon_mailboxRun {s : State} (h : s.Canon) {words : List Word} {read : Bool} {grant : Nat → Bool} :
    (mailboxRun words read grant s).Canon := by
  unfold mailboxRun
  dsimp only
  split
  · simp [h]
  · assumption

@[simp] theorem canon_pullWrite {s : State} (h : s.Canon) {p : Path} {v : Word} {read : Path → Bool} {grant : Path → Nat → Bool}
    : (pullWrite p v read grant s).Canon := by
  unfold pullWrite
  refine canon_ite ?_ ?_
  · apply canon_mailboxRun
    refine canon_ite ?_ ?_
    · simp [h]
    · assumption
  · refine canon_modXfer ?_
    refine canon_ite ?_ ?_
    · simp [h]
    · assumption

end Sys2Proof.Machine
end

section
/-! Sequencer, angle base and engines: what they keep of the canonical form of the memories. -/

namespace Sys2Proof.Machine

-- One proof after another: in parallel these many proofs wait for one another on more threads than the check's memory holds.
set_option Elab.async false

@[simp] theorem canon_powerSlices {s : State} (h : s.Canon) : (powerSlices s).Canon := by
  unfold powerSlices
  apply canon_forEach
  · assumption
  · intro i t ht
    refine canon_ite ?_ ?_
    · assumption
    · refine canon_ite ?_ ?_
      · assumption
      · simp +contextual [ht]

@[simp] theorem canon_enqueue {s : State} (h : s.Canon) {n : Nat} {o : Occ} : (enqueue n o s).Canon := by
  unfold enqueue
  split
  · apply canon_missSlot
    apply canon_setFlag
    simp +contextual [h]
  · refine canon_ite ?_ ?_
    · assumption
    · simp [h]

@[simp] theorem canon_dueSlot {s : State} (h : s.Canon) {entry : Nat} {resync : Bool} : (dueSlot entry resync s).Canon := by
  unfold dueSlot
  split
  · simp [h]
  · refine canon_ite ?_ ?_
    · simp [h]
    · apply canon_enqueue
      simp [h]

@[simp] theorem canon_setCount {s : State} (h : s.Canon) {e c : Nat} : (setCount e c s).Canon := by simp [setCount, h]

@[simp] theorem canon_fireEntry {s : State} (h : s.Canon) {resync : Bool} {e : Nat} : (fireEntry resync e s).Canon := by
  unfold fireEntry
  refine canon_ite ?_ ?_
  · assumption
  · refine canon_ite ?_ ?_
    · simp [h]
    · refine canon_ite ?_ ?_
      · simp [h]
      · apply canon_dueSlot
        simp [h]

@[simp] theorem canon_timeTrigger {s : State} (h : s.Canon) {e : Nat} : (timeTrigger e s).Canon := by simp [timeTrigger, h]

@[simp] theorem canon_execTimeTrigger {s : State} (h : s.Canon) {e : Nat} : CanonOut (execTimeTrigger e s) := by
  simp [execTimeTrigger, h]

@[simp] theorem canon_afterTrigger {s : State} (h : s.Canon) {e : Nat} : (afterTrigger e s).Canon := by
  unfold afterTrigger
  split <;> simp [h]

@[simp] theorem canon_execAfterTrigger {s : State} (h : s.Canon) {e : Nat} : CanonOut (execAfterTrigger e s) := by
  simp [execAfterTrigger, h]

@[simp] theorem canon_enableEntries {s : State} (h : s.Canon) {es : List Nat} : (enableEntries es s).Canon := by
  unfold enableEntries
  apply canon_forList
  · assumption
  · intro i t ht
    refine canon_ite ?_ ?_
    · assumption
    · refine canon_ite ?_ ?_
      · simp [ht]
      · assumption

@[simp] theorem canon_showRunning {s : State} (h : s.Canon) : (showRunning s).Canon := by simp [showRunning, h]

@[simp] theorem canon_dropPending {s : State} (h : s.Canon) : (dropPending s).Canon := by
  unfold dropPending
  refine State.Canon.update ?_
  simp +contextual [h]

@[simp] theorem canon_sequencerStop {s : State} (h : s.Canon) : (sequencerStop s).Canon := by
  unfold sequencerStop
  apply canon_closeFrame
  apply canon_settleOverlap
  apply canon_dropPending
  simp [h]

@[simp] theorem canon_sequencerStart {s : State} (h : s.Canon) : (sequencerStart s).2.Canon := by
  unfold sequencerStart
  split
  · assumption
  · refine canon_ite ?_ ?_
    · apply canon_enableEntries
      apply canon_oweSetl
      simp [h]
    · simp [h]

@[simp] theorem canon_clearCounts {s : State} (h : s.Canon) : (clearCounts s).Canon := by
  unfold clearCounts
  apply canon_setRegN
  simp [h]

@[simp] theorem canon_disableEntry {s : State} (h : s.Canon) {e : Nat} : (disableEntry e s).Canon := by
  unfold disableEntry
  refine canon_ite ?_ ?_
  · assumption
  · apply canon_settleOverlap
    apply canon_report
    apply canon_setFlag
    apply canon_setFld
    apply canon_setFld
    simp +contextual [h]

@[simp] theorem canon_topoScrub {s : State} (h : s.Canon) {e : Nat} : (topoScrub e s).Canon := by simp [topoScrub, h]

@[simp] theorem canon_execTopoScrub {s : State} (h : s.Canon) {e : Nat} : CanonOut (execTopoScrub e s) := by
  simp [execTopoScrub, h]

@[simp] theorem canon_windowSetup {s : State} (h : s.Canon) {n : Nat} : (windowSetup n s).Canon := by
  unfold windowSetup
  dsimp only
  split
  · refine canon_ite ?_ ?_
    · assumption
    · refine canon_ite ?_ ?_
      · apply canon_missSlot
        simp [h]
      · simp [h]
  · assumption

@[simp] theorem canon_execWindowSetup {s : State} (h : s.Canon) {n : Nat} : CanonOut (execWindowSetup n s) := by
  simp [execWindowSetup, h]

@[simp] theorem canon_beginIntegration {s : State} (h : s.Canon) {n : Nat} : (beginIntegration n s).Canon := by
  simp [beginIntegration, h]

@[simp] theorem canon_settleEnd {s : State} (h : s.Canon) {n : Nat} : (settleEnd n s).Canon := by
  unfold settleEnd
  (repeat' split) <;> simp [h]

@[simp] theorem canon_execSettleEnd {s : State} (h : s.Canon) {n : Nat} : CanonOut (execSettleEnd n s) := by
  simp [execSettleEnd, h]

@[simp] theorem canon_timeWindowEnd {s : State} (h : s.Canon) {n : Nat} : (timeWindowEnd n s).Canon := by
  unfold timeWindowEnd
  split
  · refine canon_ite ?_ ?_
    · refine canon_ite ?_ ?_
      · apply canon_measureNext
        simp [h]
      · simp [h]
    · assumption
  · assumption

@[simp] theorem canon_execTimeWindowEnd {s : State} (h : s.Canon) {n : Nat} : CanonOut (execTimeWindowEnd n s) := by
  simp [execTimeWindowEnd, h]

@[simp] theorem canon_windowLimit {s : State} (h : s.Canon) {n : Nat} : (windowLimit n s).Canon := by
  unfold windowLimit
  split
  · refine canon_ite ?_ ?_
    · simp [h]
    · assumption
  · assumption

@[simp] theorem canon_execWindowLimit {s : State} (h : s.Canon) {n : Nat} : CanonOut (execWindowLimit n s) := by
  simp [execWindowLimit, h]

@[simp] theorem canon_minimumWindowEnd {s : State} (h : s.Canon) {n : Nat} : (minimumWindowEnd n s).Canon := by
  unfold minimumWindowEnd
  split
  · refine canon_ite ?_ ?_
    · simp [h]
    · assumption
  · assumption

@[simp] theorem canon_execMinimumWindowEnd {s : State} (h : s.Canon) {n : Nat} : CanonOut (execMinimumWindowEnd n s) := by
  simp [execMinimumWindowEnd, h]

@[simp] theorem canon_halfExchange {s : State} (h : s.Canon) {n : Nat} : (halfExchange n s).Canon := by
  unfold halfExchange
  split
  · refine canon_ite ?_ h
    have hpartner : ∀ o : Option Nat, (match o with
        | some p => (s.modWin n (atExchange s.speed)).modWin p (atExchange (s.modWin n (atExchange s.speed)).speed)
        | none => s.modWin n (atExchange s.speed)).Canon := by
      rintro (_ | p)
      · exact canon_modWin h
      · exact canon_modWin (canon_modWin h)
    exact canon_ite (canon_dropConns (hpartner _)) (canon_addConns (canon_dropConns (hpartner _)))
  · exact h

@[simp] theorem canon_execHalfWindowExchange {s : State} (h : s.Canon) {n : Nat} : CanonOut (execHalfWindowExchange n s) := by
  simp [execHalfWindowExchange, h]

@[simp] theorem canon_closeCrossed {s : State} (h : s.Canon) {n : Nat} : (closeCrossed n s).Canon := by
  unfold closeCrossed
  split
  · refine canon_ite ?_ ?_
    · assumption
    · simp [h]
  · assumption

@[simp] theorem canon_modulatorClock {s : State} (h : s.Canon) : (modulatorClock s).Canon := by
  unfold modulatorClock
  apply canon_forEach
  · simp +contextual [h]
  · simp +contextual

@[simp] theorem canon_swapSense {s : State} (h : s.Canon) : (swapSense s).Canon := by
  refine canon_forEach h fun n t ht => ?_
  dsimp only
  split
  · exact canon_ite ht (canon_addConns (canon_dropConns ht))
  · exact ht

@[simp] theorem canon_exciteClock {s : State} (h : s.Canon) : (exciteClock s).Canon := by
  unfold exciteClock
  apply canon_dutyClock
  refine canon_ite ?_ ?_
  · simp [h]
  · assumption

@[simp] theorem canon_pairResult {s : State} (h : s.Canon) {w : Window} {v1 : Int} {ok1 : Bool} {v2 : Int} {ok2 : Bool} :
    (pairResult w v1 ok1 v2 ok2 s).Canon := by
  simp [pairResult, h]

@[simp] theorem canon_sliceFault {s : State} (h : s.Canon) {n : Nat} : (sliceFault n s).Canon := by simp [sliceFault, h]

@[simp] theorem canon_popEnded {s : State} (h : s.Canon) {n : Nat} : (popEnded n s).Canon := by simp [popEnded, h]

@[simp] theorem canon_carryOver {s : State} (h : s.Canon) {n : Nat} {w : Window} {m : Reading} : (carryOver n w m s).Canon := by
  simp [carryOver, h]

@[simp] theorem canon_putMeasured {s : State} (h : s.Canon) {o : Occ} {sub : Bool} {x : Measured} : (putMeasured o sub x s).Canon
    := by
  unfold putMeasured
  apply canon_finishSlot
  simp [h]

@[simp] theorem canon_scheduledResult {s : State} (h : s.Canon) {x : Measured} {p : Option Measured} :
    (scheduledResult x p s).Canon := by
  unfold scheduledResult
  split
  · split
    · split
      · split
        · split
          · split
            · split
              · apply canon_putMeasured
                simp [h]
              · apply canon_pairEnded
                apply canon_putMeasured
                simp [h]
              · apply canon_pairEnded
                apply canon_putMeasured
                simp [h]
            · split
              · apply canon_leadResult
                apply canon_putMeasured
                simp [h]
              · apply canon_pairEnded
                apply canon_leadResult
                apply canon_putMeasured
                simp [h]
              · apply canon_pairEnded
                apply canon_leadResult
                apply canon_putMeasured
                simp [h]
          · split
            · apply canon_putMeasured
              simp [h]
            · apply canon_pairEnded
              apply canon_putMeasured
              simp [h]
            · apply canon_pairEnded
              apply canon_putMeasured
              simp [h]
        · split
          · split
            · split
              · split
                · apply canon_putMeasured
                  simp [h]
                · apply canon_pairEnded
                  apply canon_putMeasured
                  simp [h]
                · apply canon_pairEnded
                  apply canon_putMeasured
                  simp [h]
              · split
                · apply canon_leadResult
                  apply canon_putMeasured
                  simp [h]
                · apply canon_pairEnded
                  apply canon_leadResult
                  apply canon_putMeasured
                  simp [h]
                · apply canon_pairEnded
                  apply canon_leadResult
                  apply canon_putMeasured
                  simp [h]
            · split
              · apply canon_putMeasured
                simp [h]
              · apply canon_pairEnded
                apply canon_putMeasured
                simp [h]
              · apply canon_pairEnded
                apply canon_putMeasured
                simp [h]
          · split
            · split
              · split
                · apply canon_finishSlot
                  simp [h]
                · apply canon_pairEnded
                  apply canon_finishSlot
                  simp [h]
                · apply canon_pairEnded
                  apply canon_finishSlot
                  simp [h]
              · split
                · apply canon_leadResult
                  apply canon_finishSlot
                  simp [h]
                · apply canon_pairEnded
                  apply canon_leadResult
                  apply canon_finishSlot
                  simp [h]
                · apply canon_pairEnded
                  apply canon_leadResult
                  apply canon_finishSlot
                  simp [h]
            · split
              · apply canon_finishSlot
                simp [h]
              · apply canon_pairEnded
                apply canon_finishSlot
                simp [h]
              · apply canon_pairEnded
                apply canon_finishSlot
                simp [h]
      · split
        · split
          · split
            · split
              · simp [h]
              · apply canon_pairEnded
                simp [h]
              · apply canon_pairEnded
                simp [h]
            · split
              · apply canon_leadResult
                simp [h]
              · apply canon_pairEnded
                apply canon_leadResult
                simp [h]
              · apply canon_pairEnded
                apply canon_leadResult
                simp [h]
          · split
            · simp [h]
            · apply canon_pairEnded
              simp [h]
            · apply canon_pairEnded
              simp [h]
        · split
          · split
            · split
              · split
                · simp [h]
                · apply canon_pairEnded
                  simp [h]
                · apply canon_pairEnded
                  simp [h]
              · split
                · apply canon_leadResult
                  simp [h]
                · apply canon_pairEnded
                  apply canon_leadResult
                  simp [h]
                · apply canon_pairEnded
                  apply canon_leadResult
                  simp [h]
            · split
              · simp [h]
              · apply canon_pairEnded
                simp [h]
              · apply canon_pairEnded
                simp [h]
          · split
            · split
              · split
                · simp [h]
                · apply canon_pairEnded
                  simp [h]
                · apply canon_pairEnded
                  simp [h]
              · split
                · apply canon_leadResult
                  simp [h]
                · apply canon_pairEnded
                  apply canon_leadResult
                  simp [h]
                · apply canon_pairEnded
                  apply canon_leadResult
                  simp [h]
            · split
              · simp [h]
              · apply canon_pairEnded
                simp [h]
              · apply canon_pairEnded
                simp [h]
    · split
      · split
        · split
          · split
            · simp [h]
            · apply canon_pairEnded
              simp [h]
            · apply canon_pairEnded
              simp [h]
          · split
            · apply canon_leadResult
              simp [h]
            · apply canon_pairEnded
              apply canon_leadResult
              simp [h]
            · apply canon_pairEnded
              apply canon_leadResult
              simp [h]
        · split
          · simp [h]
          · apply canon_pairEnded
            simp [h]
          · apply canon_pairEnded
            simp [h]
      · split
        · split
          · split
            · split
              · simp [h]
              · apply canon_pairEnded
                simp [h]
              · apply canon_pairEnded
                simp [h]
            · split
              · apply canon_leadResult
                simp [h]
              · apply canon_pairEnded
                apply canon_leadResult
                simp [h]
              · apply canon_pairEnded
                apply canon_leadResult
                simp [h]
          · split
            · simp [h]
            · apply canon_pairEnded
              simp [h]
            · apply canon_pairEnded
              simp [h]
        · split
          · split
            · split
              · simp [h]
              · apply canon_pairEnded
                simp [h]
              · apply canon_pairEnded
                simp [h]
            · split
              · apply canon_leadResult
                simp [h]
              · apply canon_pairEnded
                apply canon_leadResult
                simp [h]
              · apply canon_pairEnded
                apply canon_leadResult
                simp [h]
          · split
            · simp [h]
            · apply canon_pairEnded
              simp [h]
            · apply canon_pairEnded
              simp [h]
  · split
    · split
      · split
        · split
          · split
            · split
              · simp [h]
              · apply canon_pairEnded
                simp [h]
              · apply canon_pairEnded
                simp [h]
            · split
              · apply canon_leadResult
                simp [h]
              · apply canon_pairEnded
                apply canon_leadResult
                simp [h]
              · apply canon_pairEnded
                apply canon_leadResult
                simp [h]
          · split
            · simp [h]
            · apply canon_pairEnded
              simp [h]
            · apply canon_pairEnded
              simp [h]
        · split
          · split
            · split
              · split
                · simp [h]
                · apply canon_pairEnded
                  simp [h]
                · apply canon_pairEnded
                  simp [h]
              · split
                · apply canon_leadResult
                  simp [h]
                · apply canon_pairEnded
                  apply canon_leadResult
                  simp [h]
                · apply canon_pairEnded
                  apply canon_leadResult
                  simp [h]
            · split
              · simp [h]
              · apply canon_pairEnded
                simp [h]
              · apply canon_pairEnded
                simp [h]
          · split
            · split
              · split
                · simp [h]
                · apply canon_pairEnded
                  simp [h]
                · apply canon_pairEnded
                  simp [h]
              · split
                · apply canon_leadResult
                  simp [h]
                · apply canon_pairEnded
                  apply canon_leadResult
                  simp [h]
                · apply canon_pairEnded
                  apply canon_leadResult
                  simp [h]
            · split
              · simp [h]
              · apply canon_pairEnded
                simp [h]
              · apply canon_pairEnded
                simp [h]
      · split
        · split
          · split
            · split
              · simp [h]
              · simp [h]
              · simp [h]
            · split
              · simp [h]
              · apply canon_pairEnded
                simp [h]
              · apply canon_pairEnded
                simp [h]
          · split
            · simp [h]
            · simp [h]
            · simp [h]
        · split
          · split
            · split
              · split
                · simp [h]
                · simp [h]
                · simp [h]
              · split
                · simp [h]
                · apply canon_pairEnded
                  simp [h]
                · apply canon_pairEnded
                  simp [h]
            · split
              · simp [h]
              · simp [h]
              · simp [h]
          · split
            · split
              · split
                · simp [h]
                · simp [h]
                · simp [h]
              · split
                · simp [h]
                · apply canon_pairEnded
                  simp [h]
                · apply canon_pairEnded
                  simp [h]
            · split
              · simp [h]
              · simp [h]
              · simp [h]
    · split
      · split
        · split
          · split
            · simp [h]
            · simp [h]
            · simp [h]
          · split
            · simp [h]
            · apply canon_pairEnded
              simp [h]
            · apply canon_pairEnded
              simp [h]
        · split
          · simp [h]
          · simp [h]
          · simp [h]
      · split
        · split
          · split
            · split
              · simp [h]
              · simp [h]
              · simp [h]
            · split
              · simp [h]
              · apply canon_pairEnded
                simp [h]
              · apply canon_pairEnded
                simp [h]
          · split
            · simp [h]
            · simp [h]
            · simp [h]
        · split
          · split
            · split
              · simp [h]
              · simp [h]
              · simp [h]
            · split
              · simp [h]
              · apply canon_pairEnded
                simp [h]
              · apply canon_pairEnded
                simp [h]
          · split
            · simp [h]
            · simp [h]
            · simp [h]

@[simp] theorem canon_urgentDone {s : State} (h : s.Canon) : (urgentDone s).Canon := by simp [urgentDone, h]

@[simp] theorem canon_directDone {s : State} (h : s.Canon) {n : Nat} : (directDone n s).Canon := by
  unfold directDone
  refine canon_ite ?_ ?_
  · simp [h]
  · apply canon_releaseDirect
    simp [h]

@[simp] theorem canon_requestResult {s : State} (h : s.Canon) {x : Measured} : (requestResult x s).Canon := by
  unfold requestResult
  refine canon_ite ?_ ?_
  · apply canon_urgentDone
    refine canon_ite ?_ ?_
    · simp [h]
    · assumption
  · apply canon_directDone
    refine canon_ite ?_ ?_
    · simp [h]
    · assumption

@[simp] theorem canon_resultWrite {s : State} (h : s.Canon) {n : Nat} {m : Reading} {partner : Option Reading} :
    (resultWrite n m partner s).Canon := by
  have hpopped : ∀ (t : State) (o : Option Nat), t.Canon → (match o with | some p => popEnded p t | none => t).Canon := by
    rintro t (_ | p) ht
    · exact ht
    · exact canon_popEnded ht
  have hcarried : ∀ (t : State) (o : Option Measured), t.Canon →
      (match o with | some y => carryOver y.slice y.win y.reading t | none => t).Canon := by
    rintro t (_ | y) ht
    · exact ht
    · exact canon_carryOver ht
  unfold resultWrite
  split
  · exact h
  · refine canon_ite h (canon_ite (canon_scheduledResult ?_) (canon_requestResult ?_))
    all_goals exact hcarried _ _ (canon_carryOver (hpopped _ _ (canon_popEnded h)))

@[simp] theorem canon_execResultWrite {s : State} (h : s.Canon) {n : Nat} {m : Reading} {partner : Option Reading} : CanonOut
    (execResultWrite n m partner s) := by
  simp [execResultWrite, h]

@[simp] theorem canon_urgentRequest {s : State} (h : s.Canon) {v : Nat} : (urgentRequest v s).2.Canon := by
  unfold urgentRequest
  split
  · assumption
  · split
    · assumption
    · split
      · simp [h]
      · simp [h]

@[simp] theorem canon_urgentStart {s : State} (h : s.Canon) : (urgentStart s).Canon := by
  unfold urgentStart
  split
  · refine canon_ite ?_ ?_
    · apply canon_setUrgent
      apply canon_startWindow
      simp [h]
    · apply canon_urgentDone
      apply canon_startWindow
      simp [h]
  · assumption

@[simp] theorem canon_execUrgentStart {s : State} (h : s.Canon) : CanonOut (execUrgentStart s) := by simp [execUrgentStart, h]

@[simp] theorem canon_directWrite {s : State} (h : s.Canon) {v : Nat} : (directWrite v s).2.Canon := by
  unfold directWrite
  dsimp only
  split
  · assumption
  · apply canon_forList
    · simp +contextual [h]
    · simp +contextual

@[simp] theorem canon_sliceForce {s : State} (h : s.Canon) {n v : Nat} : (sliceForce n v s).2.Canon := by
  unfold sliceForce
  dsimp only
  split
  · assumption
  · split
    · simp [h]
    · simp [h]

@[simp] theorem canon_complianceLoss {s : State} (h : s.Canon) {k : Nat} : (complianceLoss k s).Canon := by
  unfold complianceLoss
  refine canon_ite ?_ ?_
  · apply canon_forEach
    · simp [h]
    · simp +contextual
  · assumption

@[simp] theorem canon_execComplianceLoss {s : State} (h : s.Canon) {n : Nat} : CanonOut (execComplianceLoss n s) := by
  simp [execComplianceLoss, h]

@[simp] theorem canon_excOvercurrent {s : State} (h : s.Canon) {k : Nat} : (excOvercurrent k s).Canon := by
  unfold excOvercurrent
  apply canon_report
  apply canon_setFldBit
  simp [h]

@[simp] theorem canon_execExcOvercurrent {s : State} (h : s.Canon) {n : Nat} : CanonOut (execExcOvercurrent n s) := by
  simp [execExcOvercurrent, h]

@[simp] theorem canon_restartPhases {s : State} (h : s.Canon) {k : Nat} : (restartPhases k s).Canon := by
  unfold restartPhases
  apply canon_forEach
  · assumption
  · simp +contextual

@[simp] theorem canon_judgeFor {s : State} (h : s.Canon) : (judgeFor s).Canon := by
  unfold judgeFor
  apply canon_forEach
  · assumption
  · intro i t ht
    refine canon_ite ?_ ?_
    · simp [ht]
    · simp [ht]

@[simp] theorem canon_moveClear {s : State} (h : s.Canon) {k : Nat} : (moveClear k s).Canon := by
  unfold moveClear
  refine canon_ite ?_ ?_
  · apply canon_addConns
    refine canon_ite ?_ ?_
    · assumption
    · assumption
  · refine canon_ite ?_ ?_
    · assumption
    · assumption

@[simp] theorem canon_excSettle {s : State} (h : s.Canon) {k : Nat} : (excSettle k s).Canon := by simp [excSettle, h]

@[simp] theorem canon_excApplyNow {s : State} (h : s.Canon) {k : Nat} : (excApplyNow k s).Canon := by
  unfold excApplyNow
  refine canon_ite ?_ ?_
  · apply canon_modExc
    apply canon_dropConns
    refine canon_ite ?_ ?_
    · apply canon_restartPhases
      apply canon_oweSetl
      apply canon_judgeFor
      apply canon_excSettle
      apply canon_forEach
      · assumption
      · simp +contextual
    · apply canon_oweSetl
      apply canon_judgeFor
      apply canon_excSettle
      apply canon_forEach
      · assumption
      · simp +contextual
  · refine canon_ite ?_ ?_
    · refine canon_ite ?_ ?_
      · apply canon_restartPhases
        apply canon_oweSetl
        apply canon_judgeFor
        apply canon_excSettle
        apply canon_forEach
        · assumption
        · simp +contextual
      · apply canon_oweSetl
        apply canon_judgeFor
        apply canon_excSettle
        apply canon_forEach
        · assumption
        · simp +contextual
    · apply canon_moveClear
      refine canon_ite ?_ ?_
      · apply canon_restartPhases
        apply canon_oweSetl
        apply canon_judgeFor
        apply canon_excSettle
        apply canon_forEach
        · assumption
        · simp +contextual
      · apply canon_oweSetl
        apply canon_judgeFor
        apply canon_excSettle
        apply canon_forEach
        · assumption
        · simp +contextual

@[simp] theorem canon_excApply {s : State} (h : s.Canon) {k : Nat} : (excApply k s).Canon := by simp [excApply, h]

@[simp] theorem canon_execExcApplicationPoint {s : State} (h : s.Canon) {n : Nat} : CanonOut (execExcApplicationPoint n s) := by
  simp [execExcApplicationPoint, h]

@[simp] theorem canon_excReconnect {s : State} (h : s.Canon) {k : Nat} : (excReconnect k s).Canon := by
  have hjoin : ∀ t : State, t.Canon → (forEach 13 (fun n t => match (t.slice n).win with
      | some w => if w.uses k && leads w then addConns t ((driveConns t w n).filter (fun c => c.role == roleExc k)) else t
      | none => t) t).Canon := by
    refine fun t ht => canon_forEach ht fun n t ht => ?_
    split
    · exact canon_ite (canon_addConns ht) ht
    · exact ht
  unfold excReconnect
  refine canon_ite h (canon_ite (canon_ite ?_ ?_) (canon_ite ?_ (canon_ite ?_ ?_)))
  · exact canon_addConns (canon_modExc h)
  · exact canon_modExc h
  · exact canon_modExc h
  · exact canon_connectOutput (canon_modExc (hjoin _ (canon_modExc h)))
  · exact canon_modExc (hjoin _ (canon_modExc h))

@[simp] theorem canon_execExcReconnect {s : State} (h : s.Canon) {n : Nat} : CanonOut (execExcReconnect n s) := by
  simp [execExcReconnect, h]

@[simp] theorem canon_refReady {s : State} (h : s.Canon) : (refReady s).Canon := by simp [refReady, h]

@[simp] theorem canon_execRefReady {s : State} (h : s.Canon) : CanonOut (execRefReady s) := by simp [execRefReady, h]

@[simp] theorem canon_refMonitor {s : State} (h : s.Canon) {diffPpm : Nat} : (refMonitor diffPpm s).Canon := by
  unfold refMonitor
  refine canon_ite ?_ ?_
  · assumption
  · refine canon_ite ?_ ?_
    · apply canon_report
      simp [h]
    · assumption

@[simp] theorem canon_execRefMonitor {s : State} (h : s.Canon) {diffPpm : Nat} : CanonOut (execRefMonitor diffPpm s) := by
  simp [execRefMonitor, h]

@[simp] theorem canon_refioRange {s : State} (h : s.Canon) : (refioRange s).Canon := by
  unfold refioRange
  split <;> simp [h]

@[simp] theorem canon_execRefioRangeError {s : State} (h : s.Canon) : CanonOut (execRefioRangeError s) := by
  simp [execRefioRangeError, h]

@[simp] theorem canon_modAng {s : State} (h : s.Canon) {f : Ang → Ang} : (State.modAng s f).Canon := by simp [State.modAng, h]

@[simp] theorem canon_setSpeed {s : State} (h : s.Canon) {q : Nat} : (setSpeed q s).Canon := by
  unfold setSpeed
  refine canon_ite ?_ ?_
  · apply canon_judgeFor
    refine canon_ite ?_ ?_
    · apply canon_mkRecord
      simp [h]
    · simp [h]
  · refine canon_ite ?_ ?_
    · apply canon_mkRecord
      simp [h]
    · simp [h]

@[simp] theorem canon_stopSpeed {s : State} (h : s.Canon) : (stopSpeed s).Canon := by
  unfold stopSpeed
  apply canon_setSpeed
  simp [h]

@[simp] theorem canon_refreshSpeed {s : State} (h : s.Canon) : (refreshSpeed s).Canon := by
  unfold refreshSpeed
  refine canon_ite ?_ ?_
  · assumption
  · refine canon_ite ?_ ?_
    · simp [h]
    · simp [h]

@[simp] theorem canon_countPass {s : State} (h : s.Canon) {a d : Nat} : (countPass a d s).Canon := by
  unfold countPass
  refine canon_ite ?_ ?_
  · simp [h]
  · assumption

@[simp] theorem canon_moveWindows {s : State} (h : s.Canon) {d : Nat} : (moveWindows d s).Canon := by
  simp +contextual [moveWindows, h]

@[simp] theorem canon_crossCommit {s : State} (h : s.Canon) {back : Bool} {a d : Nat} : (crossCommit back a d s).Canon := by
  unfold crossCommit
  dsimp only
  split
  · refine canon_ite ?_ ?_
    · refine State.Canon.update ?_
      simp [h]
    · simp [h]
  · simp [h]

@[simp] theorem canon_stepPos {s : State} (h : s.Canon) {b : Nat} {resync : Bool} : (stepPos b resync s).Canon := by
  unfold stepPos
  refine canon_ite ?_ ?_
  · assumption
  · apply canon_crossCommit
    apply canon_moveWindows
    apply canon_forList
    · simp [h]
    · simp +contextual

@[simp] theorem canon_angleClock {s : State} (h : s.Canon) : (angleClock s).Canon := by
  unfold angleClock
  refine canon_ite ?_ ?_
  · assumption
  · refine canon_ite ?_ ?_
    · refine canon_ite ?_ ?_
      · apply canon_stepPos
        simp [h]
      · assumption
    · simp [h]

@[simp] theorem canon_endSetups {s : State} (h : s.Canon) : (endSetups s).Canon := by
  refine canon_forEach h fun n t ht => ?_
  split
  · exact canon_ite (canon_beginIntegration ht) ht
  · exact ht

@[simp] theorem canon_countMissed {s : State} (h : s.Canon) : (countMissed s).Canon := by simp [countMissed, h]

@[simp] theorem canon_correctTo {s : State} (h : s.Canon) {t32 : Nat} {resync : Bool} : (correctTo t32 resync s).Canon := by
  unfold correctTo
  refine canon_ite ?_ ?_
  · simp [h]
  · refine canon_ite ?_ ?_
    · apply canon_stepPos
      simp [h]
    · simp [h]

@[simp] theorem canon_endAngleWindows {s : State} (h : s.Canon) : (endAngleWindows s).Canon := by
  refine canon_forEach h fun n t ht => ?_
  split
  · exact canon_ite (canon_endWindow ht) ht
  · exact ht

@[simp] theorem canon_markAtime {s : State} (h : s.Canon) : (markAtime s).Canon := by
  simp +contextual [markAtime, h]

@[simp] theorem canon_implausible {s : State} (h : s.Canon) {param : Nat} : (implausible param s).Canon := by
  unfold implausible
  split <;> simp [h]

@[simp] theorem canon_goOnFromPos {s : State} (h : s.Canon) : (goOnFromPos s).Canon := by
  unfold goOnFromPos
  split <;> simp [h]

@[simp] theorem canon_runRate {s : State} (h : s.Canon) {num den q : Nat} : (runRate num den q s).Canon := by
  unfold runRate
  refine canon_ite ?_ ?_
  · apply canon_stopSpeed
    simp [h]
  · apply canon_setSpeed
    apply canon_setFlag
    simp [h]

@[simp] theorem canon_runTime {s : State} (h : s.Canon) {period : Nat} : (runTime period s).Canon := by simp [runTime, h]

@[simp] theorem canon_showSubst {s : State} (h : s.Canon) : (showSubst s).Canon := by
  unfold showSubst
  apply canon_markAtime
  simp [h]

@[simp] theorem canon_substitute {s : State} (h : s.Canon) {period : Nat} : (substitute period s).Canon := by
  simp [substitute, h]

@[simp] theorem canon_holdAngle {s : State} (h : s.Canon) : (holdAngle s).Canon := by simp [holdAngle, h]

@[simp] theorem canon_showLoss {s : State} (h : s.Canon) : (showLoss s).Canon := by simp [showLoss, h]

@[simp] theorem canon_beginLoss {s : State} (h : s.Canon) {subst : Bool} {period : Nat} : (beginLoss subst period s).Canon := by
  unfold beginLoss
  split <;> simp [h]

@[simp] theorem canon_declareLoss {s : State} (h : s.Canon) : (declareLoss s).Canon := by
  unfold declareLoss
  apply canon_beginLoss
  apply canon_modAng
  simp [h]

@[simp] theorem canon_angleLoss {s : State} (h : s.Canon) : (angleLoss s).Canon := by simp [angleLoss, h]

@[simp] theorem canon_execAngleLoss {s : State} (h : s.Canon) : CanonOut (execAngleLoss s) := by simp [execAngleLoss, h]

@[simp] theorem canon_speedStop {s : State} (h : s.Canon) : (speedStop s).Canon := by simp [speedStop, h]

@[simp] theorem canon_execSpeedStop {s : State} (h : s.Canon) : CanonOut (execSpeedStop s) := by simp [execSpeedStop, h]

@[simp] theorem canon_startLocal {s : State} (h : s.Canon) : (startLocal s).Canon := by
  unfold startLocal
  refine canon_ite ?_ ?_
  · apply canon_runTime
    apply canon_setFlag
    apply canon_setFlag
    refine canon_ite ?_ ?_
    · apply canon_setFlag
      apply canon_setFld
      apply canon_setFlag
      simp [h]
    · apply canon_setFld
      apply canon_setFlag
      simp [h]
  · apply canon_beginLoss
    apply canon_stopSpeed
    refine canon_ite ?_ ?_
    · apply canon_setFlag
      apply canon_setFld
      apply canon_setFlag
      simp [h]
    · apply canon_setFld
      apply canon_setFlag
      simp [h]

@[simp] theorem canon_startSync {s : State} (h : s.Canon) : (startSync s).Canon := by
  unfold startSync
  refine canon_ite ?_ ?_
  · apply canon_startLocal
    apply canon_setFlag
    simp [h]
  · apply canon_beginLoss
    apply canon_stopSpeed
    apply canon_setFld
    apply canon_setFlag
    apply canon_setFlag
    apply canon_modAng
    simp [h]

@[simp] theorem canon_startAtZero {s : State} (h : s.Canon) : (startAtZero s).Canon := by
  unfold startAtZero
  split <;> simp [h]

@[simp] theorem canon_resumeRate {s : State} (h : s.Canon) : (resumeRate s).Canon := by
  unfold resumeRate
  split <;> simp [h]

@[simp] theorem canon_endLoss {s : State} (h : s.Canon) : (endLoss s).Canon := by
  unfold endLoss
  apply canon_modAng
  refine canon_ite ?_ ?_
  · apply canon_setFld
    apply canon_setFlag
    simp [h]
  · apply canon_resumeRate
    apply canon_setFld
    apply canon_setFlag
    simp [h]

@[simp] theorem canon_measureInterval {s : State} (h : s.Canon) {ival units per : Nat} : (measureInterval ival units per s).Canon
    := by
  unfold measureInterval
  refine canon_ite ?_ ?_
  · simp [h]
  · refine canon_ite ?_ ?_
    · assumption
    · refine canon_ite ?_ ?_
      · apply canon_stopSpeed
        assumption
      · refine canon_ite ?_ ?_
        · apply canon_setSpeed
          apply canon_setFlag
          assumption
        · apply canon_modAng
          apply canon_setSpeed
          apply canon_setFlag
          assumption

@[simp] theorem canon_timeEvent {s : State} (h : s.Canon) {units per : Nat} : (timeEvent units per s).Canon := by
  unfold timeEvent
  split <;> simp [h]

@[simp] theorem canon_reverse {s : State} (h : s.Canon) {t32 : Nat} : (reverse t32 s).Canon := by
  unfold reverse
  apply canon_stepPos
  apply canon_modAng
  apply canon_endAngleWindows
  apply canon_setFlag
  simp [h]

@[simp] theorem canon_eventAngle {s : State} (h : s.Canon) {t32 ahead pitch : Nat} {seenBack resync : Bool} :
    (eventAngle t32 ahead pitch seenBack resync s).Canon := by
  unfold eventAngle
  refine canon_ite ?_ ?_
  · refine canon_ite ?_ ?_
    · assumption
    · simp [h]
  · refine canon_ite ?_ ?_
    · simp [h]
    · assumption

@[simp] theorem canon_indexEdge {s : State} (h : s.Canon) {e : AngleEdge} : (indexEdge e s).Canon := by
  unfold indexEdge
  refine canon_ite ?_ ?_
  · assumption
  · refine canon_ite ?_ ?_
    · simp [h]
    · apply canon_eventAngle
      refine canon_ite ?_ ?_
      · apply canon_endLoss
        apply canon_timeEvent
        simp [h]
      · apply canon_timeEvent
        simp [h]

@[simp] theorem canon_execIndexEdge {s : State} (h : s.Canon) {e : AngleEdge} : CanonOut (execIndexEdge e s) := by
  simp [execIndexEdge, h]

@[simp] theorem canon_toothAngle {s : State} (h : s.Canon) {k : Nat} {back resync : Bool} : (toothAngle k back resync s).Canon :=
    by
  simp [toothAngle, h]

@[simp] theorem canon_toothEdge {s : State} (h : s.Canon) {e : AngleEdge} : (toothEdge e s).Canon := by
  unfold toothEdge
  refine canon_ite ?_ ?_
  · assumption
  · refine canon_ite ?_ ?_
    · refine canon_ite ?_ ?_
      · apply canon_toothAngle
        refine canon_ite ?_ ?_
        · apply canon_endLoss
          split
          · apply canon_modAng
            apply canon_timeEvent
            simp [h]
          · apply canon_timeEvent
            simp [h]
        · split
          · apply canon_modAng
            apply canon_timeEvent
            simp [h]
          · apply canon_timeEvent
            simp [h]
      · refine canon_ite ?_ ?_
        · apply canon_declareLoss
          apply canon_implausible
          apply canon_modAng
          split
          · apply canon_modAng
            apply canon_timeEvent
            simp [h]
          · apply canon_timeEvent
            simp [h]
        · apply canon_modAng
          split
          · apply canon_modAng
            apply canon_timeEvent
            simp [h]
          · apply canon_timeEvent
            simp [h]
    · split
      · split
        · apply canon_modAng
          apply canon_timeEvent
          simp [h]
        · apply canon_timeEvent
          simp [h]
      · refine canon_ite ?_ ?_
        · apply canon_toothAngle
          split
          · apply canon_modAng
            apply canon_timeEvent
            simp [h]
          · apply canon_timeEvent
            simp [h]
        · apply canon_modAng
          split
          · apply canon_modAng
            apply canon_timeEvent
            simp [h]
          · apply canon_timeEvent
            simp [h]

@[simp] theorem canon_execToothEdge {s : State} (h : s.Canon) {e : AngleEdge} : CanonOut (execToothEdge e s) := by
  simp [execToothEdge, h]

@[simp] theorem canon_quadTime {s : State} (h : s.Canon) : (quadTime s).Canon := by
  unfold quadTime
  refine canon_ite ?_ ?_
  · apply canon_implausible
    assumption
  · refine canon_ite ?_ ?_
    · assumption
    · apply canon_resumeRate
      split
      · refine canon_ite ?_ ?_
        · apply canon_setSpeed
          apply canon_modAng
          apply canon_setFlag
          apply canon_when
          · assumption
          · simp +contextual
        · apply canon_stopSpeed
          apply canon_when
          · assumption
          · simp +contextual
      · apply canon_when
        · assumption
        · simp +contextual

@[simp] theorem canon_countAngle {s : State} (h : s.Canon) {c : Nat} {back resync : Bool} : (countAngle c back resync s).Canon :=
    by
  simp [countAngle, h]

@[simp] theorem canon_quadCount {s : State} (h : s.Canon) {la lb li : AngleLevel} : (quadCount la lb li s).Canon := by
  unfold quadCount
  refine canon_ite ?_ ?_
  · assumption
  · refine canon_ite ?_ ?_
    · simp [h]
    · refine canon_ite ?_ ?_
      · assumption
      · refine canon_ite ?_ ?_
        · refine canon_ite ?_ ?_
          · refine canon_ite ?_ ?_
            · apply canon_modAng
              simp [h]
            · simp [h]
          · apply canon_countAngle
            apply canon_setFlag
            apply canon_endLoss
            refine canon_ite ?_ ?_
            · apply canon_modAng
              simp [h]
            · simp [h]
        · refine canon_ite ?_ ?_
          · apply canon_countAngle
            refine canon_ite ?_ ?_
            · apply canon_implausible
              refine canon_ite ?_ ?_
              · apply canon_modAng
                simp [h]
              · simp [h]
            · refine canon_ite ?_ ?_
              · apply canon_modAng
                simp [h]
              · simp [h]
          · apply canon_countAngle
            refine canon_ite ?_ ?_
            · apply canon_modAng
              simp [h]
            · simp [h]

@[simp] theorem canon_execQuadCount {s : State} (h : s.Canon) {a b i : AngleLevel} : CanonOut (execQuadCount a b i s) := by
  simp [execQuadCount, h]

@[simp] theorem canon_mainsCrossing {s : State} (h : s.Canon) : (mainsCrossing s).Canon := by
  unfold mainsCrossing
  refine canon_ite ?_ ?_
  · assumption
  · refine canon_ite ?_ ?_
    · refine canon_ite ?_ ?_
      · assumption
      · refine canon_ite ?_ ?_
        · simp [h]
        · simp [h]
    · split
      · assumption
      · refine canon_ite ?_ ?_
        · assumption
        · refine canon_ite ?_ ?_
          · assumption
          · apply canon_eventAngle
            apply canon_modAng
            apply canon_timeEvent
            simp [h]

@[simp] theorem canon_execMainsCrossing {s : State} (h : s.Canon) : CanonOut (execMainsCrossing s) := by
  simp [execMainsCrossing, h]

@[simp] theorem canon_beaconLoss {s : State} (h : s.Canon) : (beaconLoss s).Canon := by
  unfold beaconLoss
  refine canon_ite ?_ ?_
  · assumption
  · refine canon_ite ?_ ?_
    · dsimp only
      split
      · apply canon_runRate
        apply canon_showSubst
        apply canon_showLoss
        apply canon_setFld
        apply canon_setFlag
        apply canon_setFlag
        simp [h]
      · apply canon_runTime
        apply canon_showSubst
        apply canon_showLoss
        apply canon_setFld
        apply canon_setFlag
        apply canon_setFlag
        simp [h]
    · apply canon_startLocal
      apply canon_setFld
      apply canon_setFlag
      apply canon_setFlag
      simp [h]

@[simp] theorem canon_execBeaconLoss {s : State} (h : s.Canon) : CanonOut (execBeaconLoss s) := by simp [execBeaconLoss, h]

@[simp] theorem canon_applyBeacon {s : State} (h : s.Canon) {b : Beacon} {head : Nat} : (applyBeacon b head s).Canon := by
  unfold applyBeacon
  refine canon_ite ?_ ?_
  · assumption
  · refine canon_ite ?_ ?_
    · apply canon_holdAngle
      apply canon_setSpeed
      apply canon_setFlag
      apply canon_setReg32
      apply canon_correctTo
      refine canon_ite ?_ ?_
      · apply canon_endAngleWindows
        apply canon_setFlag
        apply canon_setFlag
        apply canon_setFlag
        apply canon_setFlag
        apply canon_setFlag
        apply canon_setFld
        apply canon_setFld
        apply canon_setFlag
        simp [h]
      · apply canon_setFlag
        apply canon_setFlag
        apply canon_setFlag
        apply canon_setFld
        apply canon_setFld
        apply canon_setFlag
        simp [h]
    · apply canon_setSpeed
      apply canon_setFlag
      apply canon_setReg32
      apply canon_correctTo
      refine canon_ite ?_ ?_
      · apply canon_endAngleWindows
        apply canon_setFlag
        apply canon_setFlag
        apply canon_setFlag
        apply canon_setFlag
        apply canon_setFlag
        apply canon_setFld
        apply canon_setFld
        apply canon_setFlag
        simp [h]
      · apply canon_setFlag
        apply canon_setFlag
        apply canon_setFlag
        apply canon_setFld
        apply canon_setFld
        apply canon_setFlag
        simp [h]

@[simp] theorem canon_lossChanged {s : State} (h : s.Canon) : (lossChanged s).Canon := by
  unfold lossChanged
  refine canon_ite ?_ ?_
  · assumption
  · refine canon_ite ?_ ?_
    · simp [h]
    · apply canon_holdAngle
      split
      · apply canon_modAng
        simp [h]
      · apply canon_stopSpeed
        simp [h]

@[simp] theorem canon_zeroStep {s : State} (h : s.Canon) {z : Nat} : (zeroStep z s).Canon := by
  unfold zeroStep
  split <;> simp [h]

@[simp] theorem canon_angleCommit {s : State} (h : s.Canon) {old : Nat → Word} : (angleCommit old s).Canon := by
  unfold angleCommit
  refine canon_ite ?_ ?_
  · apply canon_startSync
    simp [h]
  · refine canon_ite ?_ ?_
    · apply canon_runTime
      refine canon_ite ?_ ?_
      · simp [h]
      · simp [h]
    · refine canon_ite ?_ ?_
      · simp [h]
      · simp [h]

@[simp] theorem canon_showCharFb {s : State} (h : s.Canon) : (showCharFb s).Canon := by
  simp +contextual [showCharFb, h]

@[simp] theorem canon_failTable {s : State} (h : s.Canon) {t : Nat} : (failTable t s).Canon := by
  unfold failTable
  refine canon_ite ?_ ?_
  · assumption
  · apply canon_showCharFb
    simp [h]

@[simp] theorem canon_charScrub {s : State} (h : s.Canon) {t : Nat} : (charScrub t s).Canon := by simp [charScrub, h]

@[simp] theorem canon_execCharScrub {s : State} (h : s.Canon) {t : Nat} : CanonOut (execCharScrub t s) := by
  simp [execCharScrub, h]

@[simp] theorem canon_engineCycleStart {s : State} (h : s.Canon) {n : Nat} : (engineCycleStart n s).Canon := by
  unfold engineCycleStart
  refine canon_ite ?_ ?_
  · assumption
  · apply canon_forList
    · refine State.Canon.update ?_
      simp [h]
    · simp +contextual

@[simp] theorem canon_execEngineCycleStart {s : State} (h : s.Canon) {n : Nat} : CanonOut (execEngineCycleStart n s) := by
  simp [execEngineCycleStart, h]

@[simp] theorem canon_syncState {s : State} (h : s.Canon) {n : Nat} : (syncState n s).Canon := by simp [syncState, h]

@[simp] theorem canon_syncProgram {s : State} (h : s.Canon) {n : Nat} : (syncProgram n s).Canon := by simp [syncProgram, h]

@[simp] theorem canon_initEngine {s : State} (h : s.Canon) {n : Nat} : (initEngine n s).Canon := by
  unfold initEngine
  apply canon_syncState
  apply canon_syncProgram
  apply canon_setFlag
  apply canon_setFlag
  simp [h]

@[simp] theorem canon_restartEngine {s : State} (h : s.Canon) {n : Nat} : (restartEngine n s).Canon := by
  unfold restartEngine
  apply canon_updateLoop
  apply canon_showEngines
  apply canon_modLoop
  apply canon_setFlag
  simp [h]

@[simp] theorem canon_clearHalt {s : State} (h : s.Canon) {n : Nat} : (clearHalt n s).Canon := by simp [clearHalt, h]

@[simp] theorem canon_takeMode {s : State} (h : s.Canon) {n : Nat} : (takeMode n s).Canon := by
  unfold takeMode
  apply canon_updateLoop
  simp +contextual [h]

@[simp] theorem canon_modeChanged {s : State} (h : s.Canon) {n : Nat} : (modeChanged n s).Canon := by simp [modeChanged, h]

@[simp] theorem canon_takeProgram {s : State} (h : s.Canon) {n : Nat} : (takeProgram n s).Canon := by
  unfold takeProgram
  apply canon_syncState
  refine canon_ite ?_ ?_
  · apply canon_modEng
    apply canon_setFlag
    apply canon_setFlag
    apply canon_showCharFb
    apply canon_showEngines
    simp [h]
  · apply canon_setFlag
    apply canon_showCharFb
    apply canon_showEngines
    simp [h]

@[simp] theorem canon_engineChanged {s : State} (h : s.Canon) {written : Bool} {n : Nat} : (engineChanged written n s).Canon := by
  unfold engineChanged
  split <;> simp [h]

@[simp] theorem canon_takeTrim {s : State} (h : s.Canon) {n : Nat} : (takeTrim n s).Canon := by
  unfold takeTrim
  split <;> simp [h]

@[simp] theorem canon_boundary {s : State} (h : s.Canon) {n : Nat} : (boundary n s).Canon := by
  unfold boundary
  refine canon_ite ?_ ?_
  · apply canon_takeMode
    refine canon_ite ?_ ?_
    · simp [h]
    · simp [h]
  · refine canon_ite ?_ ?_
    · simp [h]
    · simp [h]

@[simp] theorem canon_haltEngine {s : State} (h : s.Canon) {storage : Bool} {n : Nat} : (haltEngine storage n s).Canon := by
  unfold haltEngine
  apply canon_boundary
  apply canon_updateLoop
  apply canon_showEngines
  apply canon_setFlag
  apply canon_setFlag
  simp [h]

@[simp] theorem canon_twinStorageCheck {s : State} (h : s.Canon) {n : Nat} : (twinStorageCheck n s).Canon := by
  unfold twinStorageCheck
  split <;> simp [h]

@[simp] theorem canon_execTwinStorageCheck {s : State} (h : s.Canon) {n : Nat} : CanonOut (execTwinStorageCheck n s) := by
  simp [execTwinStorageCheck, h]

@[simp] theorem canon_freezeEngines {s : State} (h : s.Canon) : (freezeEngines s).Canon := by
  unfold freezeEngines
  apply canon_showEngines
  apply canon_forEach
  · assumption
  · simp +contextual

@[simp] theorem canon_thawEngines {s : State} (h : s.Canon) : (thawEngines s).Canon := by
  unfold thawEngines
  apply canon_showEngines
  simp +contextual [h]

@[simp] theorem canon_deliver {s : State} (h : s.Canon) {n : Nat} {valid : Bool} : (deliver n valid s).Canon := by
  unfold deliver
  refine canon_ite ?_ ?_
  · assumption
  · refine canon_ite ?_ ?_
    · apply canon_setFlag
      apply canon_modLoop
      simp +contextual [h]
    · simp +contextual [h]

@[simp] theorem canon_showRange {s : State} (h : s.Canon) {n : Nat} {o : CycleOut} : (showRange n o s).Canon := by
  unfold showRange
  apply canon_when
  · simp +contextual [h]
  · simp +contextual

@[simp] theorem canon_showEntry {s : State} (h : s.Canon) {n : Nat} {o : CycleOut} : (showEntry n o s).Canon := by
  simp [showEntry, h]

@[simp] theorem canon_endAgreed {s : State} (h : s.Canon) {n : Nat} {o : CycleOut} {r : CycleEnd} : (endAgreed n o r s).Canon :=
    by
  unfold endAgreed
  apply canon_updateLoop
  apply canon_deliver
  apply canon_syncState
  refine canon_ite ?_ ?_
  · apply canon_capTrigger
    apply canon_showEntry
    apply canon_setFlag
    apply canon_setFlag
    apply canon_setFlag
    apply canon_setFlag
    apply canon_setFlag
    apply canon_setFlag
    apply canon_setFlag
    apply canon_modEng
    simp +contextual [h]
  · apply canon_showEntry
    apply canon_setFlag
    apply canon_setFlag
    apply canon_setFlag
    apply canon_setFlag
    apply canon_setFlag
    apply canon_setFlag
    apply canon_setFlag
    apply canon_modEng
    simp +contextual [h]

@[simp] theorem canon_endFailed {s : State} (h : s.Canon) {n a b : Nat} {o : CycleOut} : (endFailed n a b o s).Canon := by
  unfold endFailed
  apply canon_report
  apply canon_haltEngine
  apply canon_setFlag
  simp [h]

@[simp] theorem canon_engineCycleEnd {s : State} (h : s.Canon) {n : Nat} {upset : Option Nat} {differ : Bool} :
    (engineCycleEnd n upset differ s).Canon := by
  unfold engineCycleEnd
  split
  · refine canon_ite ?_ ?_
    · simp [h]
    · simp [h]
  · assumption

@[simp] theorem canon_execEngineCycleEnd {s : State} (h : s.Canon) {n : Nat} {upset : Option Nat} {differ : Bool} : CanonOut
    (execEngineCycleEnd n upset differ s) := by
  simp [execEngineCycleEnd, h]

end Sys2Proof.Machine
end

section
/-! Modes, belay, loops, resets and FSK: what they keep of the canonical form of the memories. -/

namespace Sys2Proof.Machine

-- One proof after another: in parallel these many proofs wait for one another on more threads than the check's memory holds.
set_option Elab.async false

@[simp] theorem canon_enterReduced {s : State} (h : s.Canon) : (enterReduced s).Canon := by
  unfold enterReduced
  refine canon_ite ?_ ?_
  · apply canon_dutyBegins
    simp [h]
  · simp [h]

@[simp] theorem canon_leaveReduced {s : State} (h : s.Canon) : (leaveReduced s).Canon := by
  unfold leaveReduced
  refine canon_ite ?_ ?_
  · apply canon_enableEntries
    apply canon_oweSetl
    simp [h]
  · simp [h]

@[simp] theorem canon_redreqEffect {s : State} (h : s.Canon) {on : Bool} : (redreqEffect on s).Canon := by
  unfold redreqEffect
  refine canon_ite ?_ ?_
  · apply canon_enterReduced
    simp [h]
  · apply canon_leaveReduced
    simp [h]

@[simp] theorem canon_abandonLead {s : State} (h : s.Canon) : (abandonLead s).Canon := by
  unfold abandonLead
  apply canon_setPhase
  refine State.Canon.update ?_
  apply canon_foldl
  · assumption
  · simp +contextual

@[simp] theorem canon_endRestLeases {s : State} (h : s.Canon) : (endRestLeases s).Canon := by simp [endRestLeases, h]

@[simp] theorem canon_restSteps {s : State} (h : s.Canon) : (restSteps s).Canon := by
  unfold restSteps
  refine State.Canon.update ?_
  apply canon_freezeEngines
  apply canon_endRestLeases
  apply canon_abandonLead
  apply canon_powerSlices
  apply canon_setFlag
  apply canon_setFlag
  refine State.Canon.update ?_
  refine State.Canon.update ?_
  apply canon_excClearAll
  apply canon_closeFrame
  apply canon_dropPending
  apply canon_forEach
  · simp +contextual [h]
  · simp +contextual

@[simp] theorem canon_abandonExit {s : State} (h : s.Canon) : (abandonExit s).Canon := by
  unfold abandonExit
  apply canon_powerSlices
  apply canon_setFlag
  simp [h]

@[simp] theorem canon_enterBivouac {s : State} (h : s.Canon) {cause : Nat} : (enterBivouac cause s).Canon := by
  unfold enterBivouac
  refine canon_ite ?_ ?_
  · refine canon_ite ?_ ?_
    · simp [h]
    · simp [h]
  · refine canon_ite ?_ ?_
    · assumption
    · apply canon_updateLoops
      apply canon_showRunning
      apply canon_restSteps
      simp [h]

@[simp] theorem canon_bivreqEffect {s : State} (h : s.Canon) : (bivreqEffect s).Canon := by simp [bivreqEffect, h]

@[simp] theorem canon_beginExit {s : State} (h : s.Canon) : (beginExit s).Canon := by
  unfold beginExit
  apply canon_powerSlices
  apply canon_setFlag
  simp [h]

@[simp] theorem canon_leaveBivouac {s : State} (h : s.Canon) {profile : Bool} : (leaveBivouac profile s).Canon := by
  simp [leaveBivouac, h]

@[simp] theorem canon_execBivouacExit {s : State} (h : s.Canon) {c : ExitCause} : CanonOut (execBivouacExit c s) := by
  simp [execBivouacExit, h]

@[simp] theorem canon_requestRestLeases {s : State} (h : s.Canon) : (requestRestLeases s).Canon := by
  unfold requestRestLeases
  refine canon_ite ?_ ?_
  · apply canon_requestLease
    refine canon_ite ?_ ?_
    · apply canon_requestLease
      simp [h]
    · refine canon_ite ?_ ?_
      · apply canon_requestLease
        simp [h]
      · simp [h]
  · refine canon_ite ?_ ?_
    · apply canon_requestLease
      simp [h]
    · refine canon_ite ?_ ?_
      · apply canon_requestLease
        simp [h]
      · simp [h]

@[simp] theorem canon_bivouacResume {s : State} (h : s.Canon) : (bivouacResume s).Canon := by
  unfold bivouacResume
  refine canon_ite ?_ ?_
  · apply canon_updateLoops
    split
    · apply canon_toIdle
      refine State.Canon.update ?_
      refine canon_ite ?_ ?_
      · apply canon_enableEntries
        apply canon_oweSetl
        refine canon_ite ?_ ?_
        · apply canon_dutyBegins
          apply canon_powerSlices
          apply canon_showRunning
          apply canon_requestRestLeases
          apply canon_forEach
          · apply canon_thawEngines
            apply canon_forEach
            · apply canon_setFld
              simp [h]
            · simp +contextual
          · simp +contextual
        · apply canon_powerSlices
          apply canon_showRunning
          apply canon_requestRestLeases
          apply canon_forEach
          · apply canon_thawEngines
            apply canon_forEach
            · apply canon_setFld
              simp [h]
            · simp +contextual
          · simp +contextual
      · refine canon_ite ?_ ?_
        · apply canon_dutyBegins
          apply canon_powerSlices
          apply canon_showRunning
          apply canon_requestRestLeases
          apply canon_forEach
          · apply canon_thawEngines
            apply canon_forEach
            · apply canon_setFld
              simp [h]
            · simp +contextual
          · simp +contextual
        · apply canon_powerSlices
          apply canon_showRunning
          apply canon_requestRestLeases
          apply canon_forEach
          · apply canon_thawEngines
            apply canon_forEach
            · apply canon_setFld
              simp [h]
            · simp +contextual
          · simp +contextual
    · apply canon_beginPoint
      refine State.Canon.update ?_
      refine canon_ite ?_ ?_
      · apply canon_enableEntries
        apply canon_oweSetl
        refine canon_ite ?_ ?_
        · apply canon_dutyBegins
          apply canon_powerSlices
          apply canon_showRunning
          apply canon_requestRestLeases
          apply canon_forEach
          · apply canon_thawEngines
            apply canon_forEach
            · apply canon_setFld
              simp [h]
            · simp +contextual
          · simp +contextual
        · apply canon_powerSlices
          apply canon_showRunning
          apply canon_requestRestLeases
          apply canon_forEach
          · apply canon_thawEngines
            apply canon_forEach
            · apply canon_setFld
              simp [h]
            · simp +contextual
          · simp +contextual
      · refine canon_ite ?_ ?_
        · apply canon_dutyBegins
          apply canon_powerSlices
          apply canon_showRunning
          apply canon_requestRestLeases
          apply canon_forEach
          · apply canon_thawEngines
            apply canon_forEach
            · apply canon_setFld
              simp [h]
            · simp +contextual
          · simp +contextual
        · apply canon_powerSlices
          apply canon_showRunning
          apply canon_requestRestLeases
          apply canon_forEach
          · apply canon_thawEngines
            apply canon_forEach
            · apply canon_setFld
              simp [h]
            · simp +contextual
          · simp +contextual
    · refine State.Canon.update ?_
      refine canon_ite ?_ ?_
      · apply canon_enableEntries
        apply canon_oweSetl
        refine canon_ite ?_ ?_
        · apply canon_dutyBegins
          apply canon_powerSlices
          apply canon_showRunning
          apply canon_requestRestLeases
          apply canon_forEach
          · apply canon_thawEngines
            apply canon_forEach
            · apply canon_setFld
              simp [h]
            · simp +contextual
          · simp +contextual
        · apply canon_powerSlices
          apply canon_showRunning
          apply canon_requestRestLeases
          apply canon_forEach
          · apply canon_thawEngines
            apply canon_forEach
            · apply canon_setFld
              simp [h]
            · simp +contextual
          · simp +contextual
      · refine canon_ite ?_ ?_
        · apply canon_dutyBegins
          apply canon_powerSlices
          apply canon_showRunning
          apply canon_requestRestLeases
          apply canon_forEach
          · apply canon_thawEngines
            apply canon_forEach
            · apply canon_setFld
              simp [h]
            · simp +contextual
          · simp +contextual
        · apply canon_powerSlices
          apply canon_showRunning
          apply canon_requestRestLeases
          apply canon_forEach
          · apply canon_thawEngines
            apply canon_forEach
            · apply canon_setFld
              simp [h]
            · simp +contextual
          · simp +contextual
  · assumption

@[simp] theorem canon_execBivouacResume {s : State} (h : s.Canon) : CanonOut (execBivouacResume s) := by
  simp [execBivouacResume, h]

@[simp] theorem canon_bivouacStandstill {s : State} (h : s.Canon) : (bivouacStandstill s).Canon := by
  simp [bivouacStandstill, h]

@[simp] theorem canon_execBivouacStandstill {s : State} (h : s.Canon) : CanonOut (execBivouacStandstill s) := by
  simp [execBivouacStandstill, h]

@[simp] theorem canon_xclrLow {s : State} (h : s.Canon) : (xclrLow s).Canon := by
  unfold xclrLow
  apply canon_updateLoops
  refine canon_ite ?_ ?_
  · apply canon_keepClearOnly
    simp [h]
  · assumption

@[simp] theorem canon_xclrAssert {s : State} (h : s.Canon) {widthNs : Nat} : (xclrAssert widthNs s).Canon := by
  unfold xclrAssert
  refine canon_ite ?_ ?_
  · simp [h]
  · refine canon_ite ?_ ?_
    · assumption
    · refine canon_ite ?_ ?_
      · simp [h]
      · assumption

@[simp] theorem canon_execXclrAssert {s : State} (h : s.Canon) {widthNs : Nat} : CanonOut (execXclrAssert widthNs s) := by
  simp [execXclrAssert, h]

@[simp] theorem canon_execXclrRelease {s : State} (h : s.Canon) : CanonOut (execXclrRelease s) := by
  unfold execXclrRelease
  apply canonOut_of_canon
  apply canon_updateLoops
  simp +contextual [h]

@[simp] theorem canon_vddaWarn {s : State} (h : s.Canon) {mv : Nat} : (vddaWarn mv s).Canon := by
  unfold vddaWarn
  split
  · assumption
  · apply canon_setFlag
    apply canon_excClearAll
    simp +contextual [h]

@[simp] theorem canon_execVddaWarn {s : State} (h : s.Canon) {mv : Nat} : CanonOut (execVddaWarn mv s) := by
  simp [execVddaWarn, h]

@[simp] theorem canon_vddaRise {s : State} (h : s.Canon) {minMv : Nat} : (vddaRise minMv s).Canon := by
  unfold vddaRise
  split <;> simp [h]

@[simp] theorem canon_execVddaRecoveryRise {s : State} (h : s.Canon) {minMv : Nat} : CanonOut (execVddaRecoveryRise minMv s) := by
  simp [execVddaRecoveryRise, h]

@[simp] theorem canon_dipConfirm {s : State} (h : s.Canon) : (dipConfirm s).Canon := by
  unfold dipConfirm
  split
  · apply canon_setFlag
    apply canon_setRegN
    apply canon_setRegN
    apply canon_mkRecord
    apply canon_forEach
    · simp [h]
    · simp +contextual
  · assumption

@[simp] theorem canon_execDipRecoveryConfirm {s : State} (h : s.Canon) : CanonOut (execDipRecoveryConfirm s) := by
  simp [execDipRecoveryConfirm, h]

@[simp] theorem canon_powerFail {s : State} (h : s.Canon) : (powerFail s).Canon := by
  unfold powerFail
  refine canon_ite ?_ ?_
  · apply canon_vhstOff
    apply canon_endLease
    apply canon_endLease
    apply canon_endLease
    apply canon_excClearAll
    apply canon_powerSlices
    refine State.Canon.update ?_
    apply canon_forEach
    · apply canon_forEach
      · simp [h]
      · simp +contextual
    · simp +contextual
  · assumption

@[simp] theorem canon_execPowerFail {s : State} (h : s.Canon) : CanonOut (execPowerFail s) := by simp [execPowerFail, h]

@[simp] theorem canon_powerReturn {s : State} (h : s.Canon) : (powerReturn s).Canon := by
  unfold powerReturn
  refine canon_ite ?_ ?_
  · refine canon_ite ?_ ?_
    · apply canon_requestRestLeases
      apply canon_powerSlices
      refine State.Canon.update ?_
      simp +contextual [h]
    · simp +contextual [h]
  · assumption

@[simp] theorem canon_rebuildBudget {s : State} (h : s.Canon) : (rebuildBudget s).Canon := by
  unfold rebuildBudget
  split <;> simp [h]

@[simp] theorem canon_execBudgetRecompute {s : State} (h : s.Canon) {loopUa : List Nat} : CanonOut (execBudgetRecompute loopUa s)
    := by
  unfold execBudgetRecompute
  apply canonOut_answerIf
  simp [h]

@[simp] theorem canon_vauxPresent {s : State} (h : s.Canon) : (vauxPresent s).Canon := by
  unfold vauxPresent
  refine canon_ite ?_ ?_
  · apply canon_rebuildBudget
    simp [h]
  · assumption

@[simp] theorem canon_execVauxPresent {s : State} (h : s.Canon) : CanonOut (execVauxPresent s) := by simp [execVauxPresent, h]

@[simp] theorem canon_execVauxAbsent {s : State} (h : s.Canon) : CanonOut (execVauxAbsent s) := by simp [execVauxAbsent, h]

@[simp] theorem canon_judgeProfile {s : State} (h : s.Canon) : (judgeProfile s).Canon := by
  unfold judgeProfile
  split <;> simp [h]

@[simp] theorem canon_fitLeases {s : State} (h : s.Canon) : (fitLeases s).Canon := by
  unfold fitLeases
  refine canon_ite ?_ ?_
  · refine canon_ite ?_ ?_
    · apply canon_requestLease
      refine canon_ite ?_ ?_
      · apply canon_requestLease
        apply canon_forList
        · assumption
        · simp +contextual
      · apply canon_forList
        · assumption
        · simp +contextual
    · refine canon_ite ?_ ?_
      · apply canon_requestLease
        apply canon_forList
        · assumption
        · simp +contextual
      · apply canon_forList
        · assumption
        · simp +contextual
  · apply canon_forList
    · assumption
    · simp +contextual

@[simp] theorem canon_profileChange {s : State} (h : s.Canon) : (profileChange s).Canon := by
  unfold profileChange
  refine canon_ite ?_ ?_
  · assumption
  · refine canon_ite ?_ ?_
    · apply canon_showBudget
      simp [h]
    · refine canon_ite ?_ ?_
      · apply canon_enterBivouac
        apply canon_arbitrate
        apply canon_withdrawAll
        apply canon_powerSlices
        apply canon_fitLeases
        apply canon_judgeProfile
        refine State.Canon.update ?_
        simp [h]
      · refine canon_ite ?_ ?_
        · apply canon_leaveBivouac
          apply canon_arbitrate
          apply canon_withdrawAll
          apply canon_powerSlices
          apply canon_fitLeases
          apply canon_judgeProfile
          refine State.Canon.update ?_
          simp [h]
        · apply canon_arbitrate
          apply canon_withdrawAll
          apply canon_powerSlices
          apply canon_fitLeases
          apply canon_judgeProfile
          refine State.Canon.update ?_
          simp [h]

@[simp] theorem canon_execProfileChange {s : State} (h : s.Canon) : CanonOut (execProfileChange s) := by
  simp [execProfileChange, h]

@[simp] theorem canon_flashEcc {s : State} (h : s.Canon) {param p2 : Nat} : (flashEcc param p2 s).Canon := by
  simp [flashEcc, h]

@[simp] theorem canon_dropRamWord {s : State} (h : s.Canon) {w : Nat} : (dropRamWord w s).Canon := by simp [dropRamWord, h]

@[simp] theorem canon_dropResult {s : State} (h : s.Canon) {w : Nat} : (dropResult w s).Canon := by simp [dropResult, h]

@[simp] theorem canon_spoil {s : State} (h : s.Canon) {w : Word} : (spoil w s).2.Canon := by simp [spoil, h]

@[simp] theorem canon_spoilTable {s : State} (h : s.Canon) {w : Nat} : (spoilTable w s).Canon := by
  unfold spoilTable
  refine canon_ite ?_ ?_
  · assumption
  · refine canon_ite ?_ ?_
    · assumption
    · refine canon_ite ?_ ?_
      · simp [h]
      · refine canon_ite ?_ ?_
        · assumption
        · assumption

@[simp] theorem canon_atDetection {s : State} (h : s.Canon) {src param p2 : Nat} : (atDetection src param p2 s).Canon := by
  unfold atDetection
  refine canon_ite ?_ ?_
  · simp [h]
  · refine canon_ite ?_ ?_
    · simp [h]
    · refine canon_ite ?_ ?_
      · assumption
      · refine canon_ite ?_ ?_
        · simp [h]
        · simp [h]

@[simp] theorem canon_execBelayReport {s : State} (h : s.Canon) {src param p2 p3 : Nat} : CanonOut
    (execBelayReport src param p2 p3 s) := by
  unfold execBelayReport
  apply canonOut_answerIf
  simp [h]

@[simp] theorem canon_execCollectorIdle {s : State} (h : s.Canon) : CanonOut (execCollectorIdle s) := by
  simp [execCollectorIdle, h]

@[simp] theorem canon_wireFault {s : State} (h : s.Canon) {src : Nat} {high inj : Bool} : (wireFault src high inj s).Canon := by
  unfold wireFault
  refine canon_ite ?_ ?_
  · assumption
  · refine State.Canon.update ?_
    apply canon_acceptReport
    simp [h]

@[simp] theorem canon_execWireFault {s : State} (h : s.Canon) {src : Nat} {high : Bool} : CanonOut (execWireFault src high s) :=
    by
  simp [execWireFault, h]

@[simp] theorem canon_levelRepeat {s : State} (h : s.Canon) {src : Nat} : (levelRepeat src s).Canon := by
  unfold levelRepeat
  refine canon_ite ?_ ?_
  · assumption
  · split
    · assumption
    · simp [h]

@[simp] theorem canon_execLevelRepeat {s : State} (h : s.Canon) {src : Nat} : CanonOut (execLevelRepeat src s) := by
  simp [execLevelRepeat, h]

@[simp] theorem canon_protMapCheck {s : State} (h : s.Canon) : (protMapCheck s).Canon := by simp [protMapCheck, h]

@[simp] theorem canon_execProtMapCheck {s : State} (h : s.Canon) : CanonOut (execProtMapCheck s) := by
  simp [execProtMapCheck, h]

@[simp] theorem canon_crystalStop {s : State} (h : s.Canon) : (crystalStop s).Canon := by
  unfold crystalStop
  split <;> simp [h]

@[simp] theorem canon_execCrystalStop {s : State} (h : s.Canon) : CanonOut (execCrystalStop s) := by simp [execCrystalStop, h]

@[simp] theorem canon_clearBroken {s : State} (h : s.Canon) : (clearBroken s).Canon := by
  unfold clearBroken
  apply canon_forEach
  · assumption
  · intro i t ht
    refine canon_ite ?_ ?_
    · simp [ht]
    · assumption

@[simp] theorem canon_releaseContained {s : State} (h : s.Canon) : (releaseContained s).Canon := by
  unfold releaseContained
  apply canon_updateLoops
  refine State.Canon.update ?_
  apply canon_forEach
  · apply canon_forEach
    · apply canon_forEach
      · assumption
      · intro i t ht
        refine canon_ite ?_ ?_
        · assumption
        · assumption
    · simp +contextual
  · intro i t ht
    refine canon_ite ?_ ?_
    · apply canon_modLoop
      simp [ht]
    · assumption

@[simp] theorem canon_clearLatches {s : State} (h : s.Canon) : (clearLatches s).Canon := by
  unfold clearLatches
  apply canon_driveFaultPins
  apply canon_clearBroken
  apply canon_releaseContained
  split
  · apply canon_setFld
    apply canon_setFldBit
    apply canon_setReg32
    apply canon_setReg64
    apply canon_setFlag
    simp [h]
  · apply canon_setFld
    apply canon_setReg32
    apply canon_setReg64
    apply canon_setFlag
    simp [h]

@[simp] theorem canon_clearAllLatches {s : State} (h : s.Canon) : (clearAllLatches s).Canon := by
  unfold clearAllLatches
  apply canon_setRegN
  simp [h]

@[simp] theorem canon_kickTimer {s : State} (h : s.Canon) {p : Path} : (kickTimer p s).Canon := by simp [kickTimer, h]

@[simp] theorem canon_keepAliveExpire {s : State} (h : s.Canon) : (keepAliveExpire s).Canon := by
  unfold keepAliveExpire
  refine canon_ite ?_ ?_
  · apply canon_hostCutOff
    refine State.Canon.update ?_
    apply canon_setFlag
    simp [h]
  · assumption

@[simp] theorem canon_execHostKeepaliveExpire {s : State} (h : s.Canon) : CanonOut (execHostKeepaliveExpire s) := by
  simp [execHostKeepaliveExpire, h]

@[simp] theorem canon_judgeSensor {s : State} (h : s.Canon) {ts : List Int} {good : List Nat} {n : Nat} :
    (judgeSensor ts good n s).Canon := by
  unfold judgeSensor
  refine canon_ite ?_ ?_
  · assumption
  · refine canon_ite ?_ ?_
    · simp [h]
    · assumption

@[simp] theorem canon_judgeShutdown {s : State} (h : s.Canon) {ts : List Int} {n : Nat} : (judgeShutdown ts n s).Canon := by
  simp [judgeShutdown, h]

@[simp] theorem canon_reportSensors {old : State} {s : State} (hold : old.Canon) (hs : s.Canon) {ts : List Int} {good : List Nat}
    : (reportSensors ts good old s).Canon := by
  unfold reportSensors
  apply canon_forEach
  · apply canon_forEach
    · assumption
    · simp +contextual
  · simp +contextual

@[simp] theorem canon_judgeWarn {s : State} (h : s.Canon) : (judgeWarn s).Canon := by
  unfold judgeWarn
  split <;> simp [h]

@[simp] theorem canon_judgeThrottle {s : State} (h : s.Canon) : (judgeThrottle s).Canon := by
  unfold judgeThrottle
  refine canon_ite ?_ ?_
  · refine State.Canon.update ?_
    apply canon_mkRecord
    simp [h]
  · refine canon_ite ?_ ?_
    · simp [h]
    · assumption

@[simp] theorem canon_judgeRelease {s : State} (h : s.Canon) : (judgeRelease s).Canon := by simp [judgeRelease, h]

@[simp] theorem canon_showHottest {s : State} (h : s.Canon) : (showHottest s).Canon := by
  unfold showHottest
  split
  · dsimp only
    split
    · refine canon_ite ?_ ?_
      · apply canon_setRegN
        simp [h]
      · simp [h]
    · simp [h]
  · dsimp only
    split
    · refine canon_ite ?_ ?_
      · simp [h]
      · assumption
    · assumption

@[simp] theorem canon_thermalSample {s : State} (h : s.Canon) {t0 t1 t2 t3 : Int} : (thermalSample t0 t1 t2 t3 s).Canon := by
  unfold thermalSample
  refine canon_ite ?_ ?_
  · assumption
  · apply canon_tempDue
    apply canon_judgeRelease
    refine canon_ite ?_ ?_
    · apply canon_countUp
      apply canon_judgeThrottle
      apply canon_judgeWarn
      apply canon_showHottest
      apply canon_reportSensors
      · simp +contextual [h]
      · apply canon_forEach
        · apply canon_forEach
          · simp +contextual [h]
          · simp +contextual
        · simp +contextual
    · apply canon_judgeThrottle
      apply canon_judgeWarn
      apply canon_showHottest
      apply canon_reportSensors
      · simp +contextual [h]
      · apply canon_forEach
        · apply canon_forEach
          · simp +contextual [h]
          · simp +contextual
        · simp +contextual

@[simp] theorem canon_execThermalSample {s : State} (h : s.Canon) {t0 t1 t2 t3 : Int} : CanonOut
    (execThermalSample t0 t1 t2 t3 s) := by
  simp [execThermalSample, h]

@[simp] theorem canon_graceExpire {s : State} (h : s.Canon) : (graceExpire s).Canon := by
  unfold graceExpire
  refine canon_ite ?_ ?_
  · apply canon_leaveBivouac
    apply canon_shareSurplus
    apply canon_enterReduced
    apply canon_setFlag
    simp [h]
  · assumption

@[simp] theorem canon_execGraceExpire {s : State} (h : s.Canon) : CanonOut (execGraceExpire s) := by simp [execGraceExpire, h]

@[simp] theorem canon_thermalRelease {s : State} (h : s.Canon) : (thermalRelease s).Canon := by
  unfold thermalRelease
  refine canon_ite ?_ ?_
  · apply canon_shareSurplus
    apply canon_leaveReduced
    apply canon_mkRecord
    apply canon_setFlag
    simp [h]
  · assumption

@[simp] theorem canon_execThermalRelease {s : State} (h : s.Canon) : CanonOut (execThermalRelease s) := by
  simp [execThermalRelease, h]

@[simp] theorem canon_injectReport {s : State} (h : s.Canon) {src param : Nat} : (injectReport src param s).Canon := by
  simp [injectReport, h]

theorem canon_inject {s : State} (h : s.Canon) {v : Nat} : ∀ t, inject v s = some t → t.Canon := by
  intro t ht
  unfold inject at ht
  dsimp only at ht
  split at ht
  · exact absurd ht (by simp)
  · split at ht
    · exact Option.some.inj ht ▸ canon_injectReport h
    · exact Option.some.inj ht ▸ canon_wireFault h

@[simp] theorem canon_fvtmoExpire {s : State} (h : s.Canon) {n : Nat} : (fvtmoExpire n s).Canon := by
  unfold fvtmoExpire
  refine canon_ite ?_ ?_
  · refine canon_ite ?_ ?_
    · apply canon_updateLoop
      apply canon_mkRecord
      simp [h]
    · assumption
  · assumption

@[simp] theorem canon_execFvtmoExpire {s : State} (h : s.Canon) {n : Nat} : CanonOut (execFvtmoExpire n s) := by
  simp [execFvtmoExpire, h]

@[simp] theorem canon_fixedEffect {s : State} (h : s.Canon) {p : Path} {n v : Nat} : (fixedEffect p n v s).2.Canon := by
  unfold fixedEffect
  split <;> simp [h]

@[simp] theorem canon_readbackEnd {s : State} (h : s.Canon) {n rback mean : Nat} : (readbackEnd n rback mean s).Canon := by
  unfold readbackEnd
  refine canon_ite ?_ ?_
  · assumption
  · refine canon_ite ?_ ?_
    · apply canon_updateLoop
      apply canon_report
      apply canon_setFlag
      apply canon_setFlag
      apply canon_modLoop
      simp [h]
    · apply canon_modLoop
      simp [h]

@[simp] theorem canon_execReadbackWindowEnd {s : State} (h : s.Canon) {n rback mean : Nat} : CanonOut
    (execReadbackWindowEnd n rback mean s) := by
  simp [execReadbackWindowEnd, h]

@[simp] theorem canon_lowvDetect {s : State} (h : s.Canon) {n : Nat} : (lowvDetect n s).Canon := by
  unfold lowvDetect
  refine canon_ite ?_ ?_
  · assumption
  · apply canon_updateLoop
    apply canon_modLoop
    apply canon_mkRecord
    apply canon_setBand
    simp [h]

@[simp] theorem canon_execLowvDetect {s : State} (h : s.Canon) {n : Nat} : CanonOut (execLowvDetect n s) := by
  simp [execLowvDetect, h]

@[simp] theorem canon_lowvClear {s : State} (h : s.Canon) {n : Nat} : (lowvClear n s).Canon := by
  unfold lowvClear
  refine canon_ite ?_ ?_
  · assumption
  · apply canon_updateLoop
    refine canon_ite ?_ ?_
    · apply canon_setFlag
      refine canon_ite ?_ ?_
      · apply canon_setBand
        apply canon_modLoop
        simp [h]
      · apply canon_modLoop
        simp [h]
    · refine canon_ite ?_ ?_
      · apply canon_setBand
        apply canon_modLoop
        simp [h]
      · apply canon_modLoop
        simp [h]

@[simp] theorem canon_execLowvClear {s : State} (h : s.Canon) {n : Nat} : CanonOut (execLowvClear n s) := by
  simp [execLowvClear, h]

@[simp] theorem canon_lvtmoExpire {s : State} (h : s.Canon) {n : Nat} : (lvtmoExpire n s).Canon := by
  unfold lvtmoExpire
  refine canon_ite ?_ ?_
  · refine canon_ite ?_ ?_
    · assumption
    · apply canon_updateLoop
      apply canon_mkRecord
      simp [h]
  · refine canon_ite ?_ ?_
    · apply canon_updateLoop
      apply canon_mkRecord
      simp [h]
    · assumption

@[simp] theorem canon_execLvtmoExpire {s : State} (h : s.Canon) {n : Nat} : CanonOut (execLvtmoExpire n s) := by
  simp [execLvtmoExpire, h]

@[simp] theorem canon_lvalmRetry {s : State} (h : s.Canon) {n : Nat} : (lvalmRetry n s).Canon := by
  unfold lvalmRetry
  split <;> simp [h]

@[simp] theorem canon_execLvalmRetry {s : State} (h : s.Canon) {n : Nat} : CanonOut (execLvalmRetry n s) := by
  simp [execLvalmRetry, h]

@[simp] theorem canon_cutWord {s : State} (h : s.Canon) {w : Nat} : (cutWord w s).Canon := by
  unfold cutWord
  assumption

@[simp] theorem canon_cutBytes {s : State} (h : s.Canon) {a : Nat} {new : List Byte} : (cutBytes a new s).Canon := by
  have hcut := canon_cutShort h (old := s.storeBytes a new.length)
    (new := List.zipWith (· &&& ·) (s.storeBytes a new.length) new)
  exact State.Canon.update (canon_setStore_writeRun hcut hcut)

@[simp] theorem canon_cutProgram {s : State} (h : s.Canon) {a g : Nat} {bs : List Byte} : (cutProgram a g bs s).Canon := by
  exact canon_cutWord (canon_cutWord (canon_cutBytes (State.Canon.update (canon_setStore_writeRun h h))))

@[simp] theorem canon_cutFlash {s : State} (h : s.Canon) : (cutFlash s).Canon := by
  refine State.Canon.update ?_
  split
  · exact h
  · exact canon_cutProgram (canon_freeDraw h)
  · exact canon_cutBytes h.update
  · exact canon_setStore_writeRun (canon_cutShort h (new := List.replicate 2048 0xFF))
      (canon_cutShort h (new := List.replicate 2048 0xFF))

@[simp] theorem canon_cutXmem {s : State} (h : s.Canon) : (cutXmem s).Canon := by
  have hcut : ∀ (a m : Nat) (left : List Byte), ({ s with free := m }.modXfer
      (fun x => { x with mem := writeRun erasedByte x.mem a left })).Canon := fun _ _ _ =>
    (canon_iff _).mpr ⟨h.regs, h.store, canonical_writeRun _ _ _ _ h.mem, h.ram⟩
  unfold cutXmem
  split
  · exact h
  · refine canon_ite h ?_
    simp only [cutShort]
    exact hcut _ _ _

@[simp] theorem canon_keepReg {old : State} {s : State} (hold : old.Canon) (hs : s.Canon) {a : Nat} : (keepReg old a s).Canon :=
    by
  simp [keepReg, hs]

@[simp] theorem canon_keepFld {old : State} {s : State} (hold : old.Canon) (hs : s.Canon) {f : Fld} : (keepFld old f s).Canon :=
    by
  simp [keepFld, hs]

@[simp] theorem canon_keptSupply {old : State} {s : State} (hold : old.Canon) (hs : s.Canon) {srcs : List ResetSrc} :
    (keptSupply srcs old s).Canon := by
  unfold keptSupply
  refine canon_ite ?_ ?_
  · assumption
  · apply canon_keepFld
    · assumption
    · simp [hold, hs]

@[simp] theorem canon_keptRegs {old : State} {s : State} (hold : old.Canon) (hs : s.Canon) {c : ResetSrc} {srcs : List ResetSrc}
    : (keptRegs c srcs old s).Canon := by
  unfold keptRegs
  refine canon_ite ?_ ?_
  · apply canon_setReg
    apply canon_keptSupply
    · assumption
    · simp +contextual [hold, hs]
  · refine canon_ite ?_ ?_
    · apply canon_forList
      · refine canon_ite ?_ ?_
        · apply canon_keepFld
          · assumption
          · apply canon_keepReg
            · assumption
            · refine canon_ite ?_ ?_
              · apply canon_keepFld
                · assumption
                · apply canon_setReg32
                  apply canon_keepFld
                  · assumption
                  · apply canon_setReg
                    apply canon_keptSupply
                    · assumption
                    · simp +contextual [hold, hs]
              · apply canon_keepFld
                · assumption
                · apply canon_keepFld
                  · assumption
                  · apply canon_setReg32
                    apply canon_keepFld
                    · assumption
                    · apply canon_setReg
                      apply canon_keptSupply
                      · assumption
                      · simp +contextual [hold, hs]
        · apply canon_setFld
          apply canon_keepFld
          · assumption
          · apply canon_keepReg
            · assumption
            · refine canon_ite ?_ ?_
              · apply canon_keepFld
                · assumption
                · apply canon_setReg32
                  apply canon_keepFld
                  · assumption
                  · apply canon_setReg
                    apply canon_keptSupply
                    · assumption
                    · simp +contextual [hold, hs]
              · apply canon_keepFld
                · assumption
                · apply canon_keepFld
                  · assumption
                  · apply canon_setReg32
                    apply canon_keepFld
                    · assumption
                    · apply canon_setReg
                      apply canon_keptSupply
                      · assumption
                      · simp +contextual [hold, hs]
      · simp +contextual [hold]
    · refine canon_ite ?_ ?_
      · apply canon_keepFld
        · assumption
        · apply canon_keepReg
          · assumption
          · refine canon_ite ?_ ?_
            · apply canon_keepFld
              · assumption
              · apply canon_setReg32
                apply canon_keepFld
                · assumption
                · apply canon_setReg
                  apply canon_keptSupply
                  · assumption
                  · simp +contextual [hold, hs]
            · apply canon_keepFld
              · assumption
              · apply canon_keepFld
                · assumption
                · apply canon_setReg32
                  apply canon_keepFld
                  · assumption
                  · apply canon_setReg
                    apply canon_keptSupply
                    · assumption
                    · simp +contextual [hold, hs]
      · apply canon_setFld
        apply canon_keepFld
        · assumption
        · apply canon_keepReg
          · assumption
          · refine canon_ite ?_ ?_
            · apply canon_keepFld
              · assumption
              · apply canon_setReg32
                apply canon_keepFld
                · assumption
                · apply canon_setReg
                  apply canon_keptSupply
                  · assumption
                  · simp +contextual [hold, hs]
            · apply canon_keepFld
              · assumption
              · apply canon_keepFld
                · assumption
                · apply canon_setReg32
                  apply canon_keepFld
                  · assumption
                  · apply canon_setReg
                    apply canon_keptSupply
                    · assumption
                    · simp +contextual [hold, hs]

@[simp] theorem canon_resetState {old : State} (h : old.Canon) {c : ResetSrc} {srcs : List ResetSrc} :
    (resetState c srcs old).Canon := by
  have hreset : State.reset.Canon := resetIsAsDescribed.1
  unfold resetState
  refine canon_driveFaultPins (canon_forEach (canon_updateLoops (canon_keptRegs h ?_)) fun _ _ ht => canon_setFlag ht)
  exact (canon_iff _).mpr ⟨hreset.regs, h.store, h.mem, rfl⟩

@[simp] theorem canon_release {s : State} (h : s.Canon) : (release s).Canon := by
  unfold release
  dsimp only
  split
  · apply canon_driveFaultPins
    apply canon_setFld
    apply canon_setFldBit
    apply canon_setReg32
    refine State.Canon.update ?_
    simp [h]
  · apply canon_driveFaultPins
    refine State.Canon.update ?_
    simp [h]

@[simp] theorem canon_takeReset {s : State} (h : s.Canon) {srcs : List ResetSrc} : (takeReset srcs s).Canon := by
  unfold takeReset
  refine canon_ite ?_ ?_
  · apply canon_release
    apply canon_resetState
    apply canon_cutXmem
    simp [h]
  · refine State.Canon.update ?_
    apply canon_resetState
    apply canon_cutXmem
    simp [h]

@[simp] theorem canon_gentleReset {s : State} (h : s.Canon) {c : ResetSrc} : (gentleReset c s).Canon := by
  simp [gentleReset, h]

@[simp] theorem canon_waitedReset {s : State} (h : s.Canon) : (waitedReset s).Canon := by simp [waitedReset, h]

@[simp] theorem canon_assertReset {s : State} (h : s.Canon) {c : ResetSrc} : (assertReset c s).Canon := by
  simp [assertReset, h]

@[simp] theorem canon_supplyReset {s : State} (h : s.Canon) {c : ResetSrc} : (supplyReset c s).Canon := by
  simp [supplyReset, h]

@[simp] theorem canon_dropReset {s : State} (h : s.Canon) {c : ResetSrc} : (dropReset c s).Canon := by
  unfold dropReset
  refine canon_ite ?_ ?_
  · simp [h]
  · assumption

@[simp] theorem canon_execPorAssert {s : State} (h : s.Canon) : CanonOut (execPorAssert s) := by simp [execPorAssert, h]

@[simp] theorem canon_execPorRelease {s : State} (h : s.Canon) : CanonOut (execPorRelease s) := by simp [execPorRelease, h]

@[simp] theorem canon_execBorAssert {s : State} (h : s.Canon) : CanonOut (execBorAssert s) := by simp [execBorAssert, h]

@[simp] theorem canon_execBorRelease {s : State} (h : s.Canon) : CanonOut (execBorRelease s) := by simp [execBorRelease, h]

@[simp] theorem canon_xrstAssert {s : State} (h : s.Canon) {widthNs : Nat} : (xrstAssert widthNs s).Canon := by
  unfold xrstAssert
  refine canon_ite ?_ ?_
  · simp [h]
  · refine canon_ite ?_ ?_
    · assumption
    · refine canon_ite ?_ ?_
      · apply canon_gentleReset
        assumption
      · assumption

@[simp] theorem canon_execXrstAssert {s : State} (h : s.Canon) {widthNs : Nat} : CanonOut (execXrstAssert widthNs s) := by
  simp [execXrstAssert, h]

@[simp] theorem canon_execXrstRelease {s : State} (h : s.Canon) : CanonOut (execXrstRelease s) := by simp [execXrstRelease, h]

@[simp] theorem canon_execWatchdogExpire {s : State} (h : s.Canon) : CanonOut (execWatchdogExpire s) := by
  simp [execWatchdogExpire, h]

@[simp] theorem canon_setFskW {s : State} (h : s.Canon) {k : Nat} {w : Word} : (setFskW k w s).Canon := by simp [setFskW, h]

@[simp] theorem canon_showQueue {s : State} (h : s.Canon) {n : Nat} : (showQueue n s).Canon := by simp [showQueue, h]

@[simp] theorem canon_setSlot {s : State} (h : s.Canon) {n k st : Nat} : (setSlot n k st s).Canon := by simp [setSlot, h]

@[simp] theorem canon_sendFsk {s : State} (h : s.Canon) {n : Nat} {bytes : List Byte} {slot : Option Nat} :
    (sendFsk n bytes slot s).Canon := by
  simp [sendFsk, h]

@[simp] theorem canon_answerSlot {s : State} (h : s.Canon) {n k code : Nat} {data : List Byte} {slot : Option Nat} :
    (answerSlot n k code data slot s).Canon := by
  simp [answerSlot, h]

@[simp] theorem canon_slotWrite {s : State} (h : s.Canon) {n k : Nat} {v : Word} : (slotWrite n k v s).2.Canon := by
  unfold slotWrite
  dsimp only
  split
  · assumption
  · split
    · simp [h]
    · simp [h]

@[simp] theorem canon_responseSent {s : State} (h : s.Canon) {n : Nat} : (responseSent n s).Canon := by
  fun_cases responseSent n s with
  | case1 => exact h
  | case2 => exact canon_setSlot (canon_modFsk (canon_setFlag (canon_modFsk h)))
  | case3 => exact canon_setFlag (canon_modFsk h)

@[simp] theorem canon_execResponseSent {s : State} (h : s.Canon) {n : Nat} : CanonOut (execResponseSent n s) := by
  simp [execResponseSent, h]

@[simp] theorem canon_messageExpire {s : State} (h : s.Canon) {n k : Nat} : (messageExpire n k s).Canon := by
  unfold messageExpire
  refine canon_ite ?_ ?_
  · apply canon_setFlag
    apply canon_setSlot
    simp [h]
  · assumption

@[simp] theorem canon_execMessageExpire {s : State} (h : s.Canon) {n slot : Nat} : CanonOut (execMessageExpire n slot s) := by
  simp [execMessageExpire, h]

@[simp] theorem canon_burstSend {s : State} (h : s.Canon) {n b : Nat} : (burstSend n b s).Canon := by
  unfold burstSend
  split <;> simp [h]

@[simp] theorem canon_execBurstFrameSend {s : State} (h : s.Canon) {n e : Nat} : CanonOut (execBurstFrameSend n e s) := by
  simp [execBurstFrameSend, h]

@[simp] theorem canon_carrierDetect {s : State} (h : s.Canon) {n : Nat} {on : Bool} : (carrierDetect n on s).Canon := by
  simp [carrierDetect, h]

@[simp] theorem canon_execCarrierDetect {s : State} (h : s.Canon) {n : Nat} {on : Bool} : CanonOut (execCarrierDetect n on s) :=
    by
  simp [execCarrierDetect, h]

@[simp] theorem canon_execFskFrameAbort {s : State} (h : s.Canon) {n : Nat} : CanonOut (execFskFrameAbort n s) := by
  simp [execFskFrameAbort, h]

end Sys2Proof.Machine
end

section
/-! Rope and the on-chip store: what they keep of the canonical form of the memories. -/

namespace Sys2Proof.Machine

-- One proof after another: in parallel these many proofs wait for one another on more threads than the check's memory holds.
set_option Elab.async false

@[simp] theorem canon_modRope {s : State} (h : s.Canon) {f : Rope → Rope} : (State.modRope s f).Canon := by
  simp [State.modRope, h]

@[simp] theorem canon_modPort {s : State} (h : s.Canon) {p : Port} {f : PortSt → PortSt} : (State.modPort s p f).Canon := by
  simp [State.modPort, h]

@[simp] theorem canon_setLink {s : State} (h : s.Canon) {p : Port} {v : Nat} : (setLink p v s).Canon := by
  unfold setLink
  split <;> simp [h]

@[simp] theorem canon_queueFrame {s : State} (h : s.Canon) {p : Port} {f : RopeFrame} : (queueFrame p f s).Canon := by
  simp [queueFrame, h]

@[simp] theorem canon_freeUnits {s : State} (h : s.Canon) {p : Port} {vc n : Nat} : (freeUnits p vc n s).Canon := by
  simp [freeUnits, h]

@[simp] theorem canon_putFrame {s : State} (h : s.Canon) {p : Port} {f : RopeFrame} : (putFrame p f s).2.Canon := by
  unfold putFrame
  split <;> simp [h]

@[simp] theorem canon_sendFrame {s : State} (h : s.Canon) {f : RopeFrame} : (sendFrame f s).2.Canon := by
  unfold sendFrame
  split
  · dsimp only
    split
    · assumption
    · apply canon_putFrame
      split
      · simp [h]
      · assumption
  · dsimp only
    split
    · assumption
    · split
      · assumption
      · split
        · simp [h]
        · simp [h]

@[simp] theorem canon_sendOff {s : State} (h : s.Canon) {f : RopeFrame} : (sendOff f s).Canon := by simp [sendOff, h]

@[simp] theorem canon_sendRsp {s : State} (h : s.Canon) {src dst tag status data : Nat} :
    (sendRsp src dst tag status data s).Canon := by
  simp [sendRsp, h]

@[simp] theorem canon_undeliverable {s : State} (h : s.Canon) {f : RopeFrame} : (undeliverable f s).Canon := by
  simp [undeliverable, h]

@[simp] theorem canon_sendEvt {s : State} (h : s.Canon) {bs : List Byte} : (sendEvt bs s).Canon := by simp [sendEvt, h]

@[simp] theorem canon_dropWaitingFrames {s : State} (h : s.Canon) {p : Port} : (dropWaitingFrames p s).Canon := by
  simp +contextual [dropWaitingFrames, h]

@[simp] theorem canon_goDown {s : State} (h : s.Canon) {p : Port} : (goDown p s).Canon := by
  unfold goDown
  apply canon_dropWaitingFrames
  apply canon_setFlag
  simp [h]

@[simp] theorem canon_detachFrom {s : State} (h : s.Canon) {k : Nat} : (detachFrom k s).Canon := by simp [detachFrom, h]

@[simp] theorem canon_failRemote {s : State} (h : s.Canon) : (failRemote s).Canon := by
  unfold failRemote
  refine canon_ite ?_ ?_
  · split
    · simp [h]
    · assumption
  · assumption

@[simp] theorem canon_portLost {s : State} (h : s.Canon) {p : Port} : (portLost p s).Canon := by
  unfold portLost
  split
  · apply canon_report
    apply canon_setFlag
    refine canon_ite ?_ ?_
    · apply canon_detachFrom
      simp [h]
    · simp [h]
  · refine canon_ite ?_ ?_
    · apply canon_report
      apply canon_setFlag
      simp [h]
    · simp [h]

@[simp] theorem canon_linkLoss {s : State} (h : s.Canon) {p : Port} : (linkLoss p s).Canon := by simp [linkLoss, h]

@[simp] theorem canon_execLinkLoss {s : State} (h : s.Canon) {port : Port} : CanonOut (execLinkLoss port s) := by
  simp [execLinkLoss, h]

@[simp] theorem canon_execLinkSignal {s : State} (h : s.Canon) {port : Port} : CanonOut (execLinkSignal port s) := by
  simp [execLinkSignal, h]

@[simp] theorem canon_helloSend {s : State} (h : s.Canon) {p : Port} : (helloSend p s).Canon := by simp [helloSend, h]

@[simp] theorem canon_execHelloSend {s : State} (h : s.Canon) {port : Port} : CanonOut (execHelloSend port s) := by
  simp [execHelloSend, h]

@[simp] theorem canon_sendEnum {s : State} (h : s.Canon) {dst op : Nat} {rest : List Byte} : (sendEnum dst op rest s).Canon := by
  simp [sendEnum, h]

@[simp] theorem canon_bindAddr {s : State} (h : s.Canon) {a uid : Nat} : (bindAddr a uid s).Canon := by simp [bindAddr, h]

@[simp] theorem canon_releaseDetached {s : State} (h : s.Canon) : (releaseDetached s).Canon := by
  unfold releaseDetached
  split <;> simp [h]

@[simp] theorem canon_setEnumd {s : State} (h : s.Canon) : (setEnumd s).Canon := by simp [setEnumd, h]

@[simp] theorem canon_endEnum {s : State} (h : s.Canon) : (endEnum s).Canon := by
  unfold endEnum
  apply canon_sendEnum
  simp [h]

@[simp] theorem canon_sendAssign {s : State} (h : s.Canon) {addr uid : Nat} : (sendAssign addr uid s).Canon := by
  unfold sendAssign
  refine canon_ite ?_ ?_
  · assumption
  · simp [h]

@[simp] theorem canon_headReport {s : State} (h : s.Canon) {uid present pinned : Nat} : (headReport uid present pinned s).Canon
    := by
  unfold headReport
  dsimp only
  split
  · apply canon_endEnum
    apply canon_mkRecord
    refine canon_ite ?_ ?_
    · simp [h]
    · assumption
  · apply canon_sendAssign
    apply canon_modRope
    apply canon_bindAddr
    refine canon_ite ?_ ?_
    · apply canon_mkRecord
      refine canon_ite ?_ ?_
      · simp [h]
      · assumption
    · refine canon_ite ?_ ?_
      · simp [h]
      · assumption

@[simp] theorem canon_queryProxy {s : State} (h : s.Canon) : (queryProxy s).Canon := by
  unfold queryProxy
  refine canon_ite ?_ ?_
  · split
    · simp [h]
    · simp [h]
  · simp [h]

@[simp] theorem canon_startEnum {s : State} (h : s.Canon) {proxy : Nat} : (startEnum proxy s).Canon := by simp [startEnum, h]

@[simp] theorem canon_becomeHead {s : State} (h : s.Canon) : (becomeHead s).Canon := by
  unfold becomeHead
  refine canon_ite ?_ ?_
  · apply canon_startEnum
    apply canon_modRope
    apply canon_setFld
    apply canon_setFld
    apply canon_setFld
    apply canon_setFlag
    apply canon_setFlag
    simp [h]
  · apply canon_modRope
    apply canon_setFld
    apply canon_setFld
    apply canon_setFld
    apply canon_setFlag
    apply canon_setFlag
    simp [h]

@[simp] theorem canon_headTakeover {s : State} (h : s.Canon) : (headTakeover s).Canon := by
  unfold headTakeover
  split <;> simp [h]

@[simp] theorem canon_execHeadTakeover {s : State} (h : s.Canon) : CanonOut (execHeadTakeover s) := by
  simp [execHeadTakeover, h]

@[simp] theorem canon_goUp {s : State} (h : s.Canon) {p : Port} : (goUp p s).Canon := by
  unfold goUp
  split
  · refine canon_ite ?_ ?_
    · apply canon_startEnum
      simp [h]
    · refine canon_ite ?_ ?_
      · apply canon_sendEnum
        simp [h]
      · simp [h]
  · refine canon_ite ?_ ?_
    · apply canon_modRope
      apply canon_setFlag
      apply canon_setFlag
      apply canon_modRope
      simp [h]
    · apply canon_modRope
      simp [h]

@[simp] theorem canon_helloReceive {s : State} (h : s.Canon) {p : Port} {h' : Hello} : (helloReceive p h' s).Canon := by
  unfold helloReceive
  refine canon_ite ?_ ?_
  · assumption
  · refine canon_ite ?_ ?_
    · assumption
    · refine canon_ite ?_ ?_
      · simp [h]
      · simp [h]

@[simp] theorem canon_execHelloReceive {s : State} (h : s.Canon) {port : Port} {h' : Hello} : CanonOut
    (execHelloReceive port h' s) := by
  simp [execHelloReceive, h]

@[simp] theorem canon_linkReset {s : State} (h : s.Canon) {p : Port} : (linkReset p s).Canon := by
  unfold linkReset
  apply canon_modPort
  simp [h]

@[simp] theorem canon_execLinkResetEnd {s : State} (h : s.Canon) {port : Port} : CanonOut (execLinkResetEnd port s) := by
  simp [execLinkResetEnd, h]

@[simp] theorem canon_discardFrame {s : State} (h : s.Canon) {p : Port} : (discardFrame p s).Canon := by
  unfold discardFrame
  refine canon_ite ?_ ?_
  · apply canon_linkReset
    simp [h]
  · simp [h]

@[simp] theorem canon_takeCredit {s : State} (h : s.Canon) {p : Port} {cvc ccnt : Nat} : (takeCredit p cvc ccnt s).Canon := by
  simp [takeCredit, h]

@[simp] theorem canon_noteAssign {s : State} (h : s.Canon) {p : Port} {f : RopeFrame} : (noteAssign p f s).Canon := by
  unfold noteAssign
  split <;> simp [h]

@[simp] theorem canon_forwardFrame {s : State} (h : s.Canon) {frm p : Port} {f : RopeFrame} : (forwardFrame frm p f s).Canon := by
  unfold forwardFrame
  split <;> simp [h]

@[simp] theorem canon_routeFrame {s : State} (h : s.Canon) {p : Port} {f : RopeFrame} : (routeFrame p f s).Canon := by
  unfold routeFrame
  refine canon_ite ?_ ?_
  · assumption
  · refine canon_ite ?_ ?_
    · refine canon_ite ?_ ?_
      · apply canon_undeliverable
        assumption
      · assumption
    · refine canon_ite ?_ ?_
      · apply canon_forwardFrame
        refine canon_ite ?_ ?_
        · assumption
        · assumption
      · refine canon_ite ?_ ?_
        · apply canon_forwardFrame
          refine canon_ite ?_ ?_
          · assumption
          · assumption
        · refine canon_ite ?_ ?_
          · assumption
          · assumption

@[simp] theorem canon_takeInbox {s : State} (h : s.Canon) {typ src : Nat} : (takeInbox typ src s).Canon := by
  unfold takeInbox
  split
  · assumption
  · refine canon_ite ?_ ?_
    · assumption
    · assumption

@[simp] theorem canon_receiveFrame {s : State} (h : s.Canon) {p : Port} {bytes : List Byte} {violation : Bool} :
    (receiveFrame p bytes violation s).Canon := by
  unfold receiveFrame
  refine canon_ite ?_ ?_
  · assumption
  · split
    · simp [h]
    · refine canon_ite ?_ ?_
      · simp [h]
      · apply canon_routeFrame
        simp [h]

theorem canon_ownStream {s : State} (h : s.Canon) : ∀ x, ownStream s = some x → x.2.Canon := by
  intro x hx
  unfold ownStream at hx
  split at hx
  · exact absurd hx (by simp)
  · next bs t hseg =>
    dsimp only at hx
    split at hx
    · exact Option.some.inj hx ▸ canon_modRope (canon_nextSegment h _ hseg)
    · exact absurd hx (by simp)

@[simp] theorem canon_startFrame {s : State} (h : s.Canon) {p : Port} {f : RopeFrame} : (startFrame p f s).Canon := by
  simp [startFrame, h]

@[simp] theorem canon_startQueued {s : State} (h : s.Canon) {p : Port} {f : RopeFrame} : (startQueued p f s).Canon := by
  simp [startQueued, h]

@[simp] theorem canon_startStream {s : State} (h : s.Canon) {p : Port} : (startStream p s).Canon := by
  have hown : ∀ f t, (if p == .up && s.isUp .up then ownStream s else none) = some (f, t) → t.Canon := by
    intro f t he
    split at he
    · exact canon_ownStream h _ he
    · exact absurd he (by simp)
  fun_cases startStream p s with
  | case1 => exact h
  | case2 => exact canon_startQueued (canon_modRope h)
  | case3 _ _ f t hf _ => exact canon_startFrame (canon_modRope (hown f t hf))
  | case4 => exact canon_startQueued (canon_modRope h)
  | case5 _ _ f o t hf _ => exact canon_startFrame (canon_modRope (hown o t hf))

@[simp] theorem canon_transmitStart {s : State} (h : s.Canon) {p : Port} : (transmitStart p s).Canon := by
  unfold transmitStart
  refine canon_ite ?_ ?_
  · assumption
  · split
    · simp [h]
    · refine canon_ite ?_ ?_
      · assumption
      · split
        · assumption
        · split
          · assumption
          · simp [h]

@[simp] theorem canon_execFrameTransmitStart {s : State} (h : s.Canon) {port : Port} : CanonOut (execFrameTransmitStart port s)
    := by
  simp [execFrameTransmitStart, h]

@[simp] theorem canon_transmitEnd {s : State} (h : s.Canon) {p : Port} : (transmitEnd p s).Canon := by
  unfold transmitEnd
  split
  · assumption
  · refine canon_ite ?_ ?_
    · assumption
    · assumption

@[simp] theorem canon_creditReceive {s : State} (h : s.Canon) {p : Port} {cvc ccnt : Nat} {sync : List Nat} :
    (creditReceive p cvc ccnt sync s).Canon := by
  unfold creditReceive
  refine canon_ite ?_ ?_
  · assumption
  · apply canon_foldl
    · assumption
    · intro t i ht
      refine canon_ite ?_ ?_
      · assumption
      · assumption

@[simp] theorem canon_execCredit {s : State} (h : s.Canon) {port : Port} {cvc ccnt : Nat} {sync : List Nat} : CanonOut
    (execCredit port cvc ccnt sync s) := by
  simp [execCredit, h]

@[simp] theorem canon_execCreditReturnTimeout {s : State} (h : s.Canon) {port : Port} : CanonOut (execCreditReturnTimeout port s)
    := by
  simp [execCreditReturnTimeout, h]

@[simp] theorem canon_execCreditSync {s : State} (h : s.Canon) {port : Port} : CanonOut (execCreditSync port s) := by
  simp [execCreditSync, h]

@[simp] theorem canon_enumQuery {s : State} (h : s.Canon) {src : Nat} : (enumQuery src s).Canon := by
  unfold enumQuery
  dsimp only
  split
  · simp [h]
  · simp [h]

@[simp] theorem canon_execQuery {s : State} (h : s.Canon) {src : Nat} : CanonOut (execQuery src s) := by simp [execQuery, h]

@[simp] theorem canon_execReport {s : State} (h : s.Canon) {uid present pinned : Nat} : CanonOut
    (execReport uid present pinned s) := by
  unfold execReport
  apply canonOut_answerIf
  refine canon_ite ?_ ?_
  · simp [h]
  · assumption

@[simp] theorem canon_showHopDelay {s : State} (h : s.Canon) : (showHopDelay s).Canon := by simp [showHopDelay, h]

@[simp] theorem canon_leaveTeams {s : State} (h : s.Canon) : (leaveTeams s).Canon := by simp [leaveTeams, h]

@[simp] theorem canon_takeAddr {s : State} (h : s.Canon) {head addr hop delay : Nat} : (takeAddr head addr hop delay s).Canon :=
    by
  unfold takeAddr
  apply canon_modRope
  refine canon_ite ?_ ?_
  · apply canon_report
    apply canon_setFlag
    refine canon_ite ?_ ?_
    · apply canon_leaveTeams
      apply canon_mkRecord
      apply canon_setFlag
      apply canon_setFld
      apply canon_setFld
      simp [h]
    · apply canon_setFlag
      apply canon_setFld
      apply canon_setFld
      simp [h]
  · refine canon_ite ?_ ?_
    · apply canon_leaveTeams
      apply canon_mkRecord
      apply canon_setFlag
      apply canon_setFld
      apply canon_setFld
      simp [h]
    · apply canon_setFlag
      apply canon_setFld
      apply canon_setFld
      simp [h]

@[simp] theorem canon_enumAssign {s : State} (h : s.Canon) {head addr hop delay uid : Nat} :
    (enumAssign head addr hop delay uid s).Canon := by
  unfold enumAssign
  refine canon_ite ?_ ?_
  · simp [h]
  · refine canon_ite ?_ ?_
    · apply canon_queueFrame
      simp [h]
    · simp [h]

@[simp] theorem canon_execAssign {s : State} (h : s.Canon) {src addr hop delay uid : Nat} : CanonOut
    (execAssign src addr hop delay uid s) := by
  simp [execAssign, h]

@[simp] theorem canon_enumDone {s : State} (h : s.Canon) {src dnState : Nat} : (enumDone src dnState s).Canon := by
  unfold enumDone
  refine canon_ite ?_ ?_
  · refine canon_ite ?_ ?_
    · simp [h]
    · simp [h]
  · assumption

@[simp] theorem canon_execDone {s : State} (h : s.Canon) {src dnState : Nat} : CanonOut (execDone src dnState s) := by
  simp [execDone, h]

@[simp] theorem canon_execReattach {s : State} (h : s.Canon) {src : Nat} : CanonOut (execReattach src s) := by
  unfold execReattach
  apply canonOut_answerIf
  refine canon_ite ?_ ?_
  · simp [h]
  · assumption

@[simp] theorem canon_execDlyProbe {s : State} (h : s.Canon) : CanonOut (execDlyProbe s) := by
  unfold execDlyProbe
  split <;> simp [h]

@[simp] theorem canon_execDlyEcho {s : State} (h : s.Canon) : CanonOut (execDlyEcho s) := by simp [execDlyEcho, h]

@[simp] theorem canon_hopDelayDone {s : State} (h : s.Canon) : (hopDelayDone s).Canon := by
  unfold hopDelayDone
  apply canon_sendEnum
  apply canon_showHopDelay
  refine canon_ite ?_ ?_
  · apply canon_mkRecord
    simp [h]
  · simp [h]

@[simp] theorem canon_echoReceive {s : State} (h : s.Canon) {rt : Nat} : (echoReceive rt s).Canon := by
  unfold echoReceive
  refine canon_ite ?_ ?_
  · simp [h]
  · assumption

@[simp] theorem canon_execDlyEchoReceive {s : State} (h : s.Canon) {rt : Nat} : CanonOut (execDlyEchoReceive rt s) := by
  simp [execDlyEchoReceive, h]

@[simp] theorem canon_beaconSend {s : State} (h : s.Canon) : (beaconSend s).Canon := by
  unfold beaconSend
  refine canon_ite ?_ ?_
  · apply canon_queueFrame
    simp [h]
  · simp [h]

@[simp] theorem canon_execBeaconSend {s : State} (h : s.Canon) : CanonOut (execBeaconSend s) := by simp [execBeaconSend, h]

@[simp] theorem canon_execBeaconReceive {s : State} (h : s.Canon) {b : Beacon} {crcOk : Bool} : CanonOut
    (execBeaconReceive b crcOk s) := by
  unfold execBeaconReceive
  split <;> simp [h]

@[simp] theorem canon_beaconApply {s : State} (h : s.Canon) : (beaconApply s).Canon := by
  unfold beaconApply
  split
  · assumption
  · apply canon_applyBeacon
    refine canon_ite ?_ ?_
    · assumption
    · assumption

@[simp] theorem canon_execBeaconApply {s : State} (h : s.Canon) : CanonOut (execBeaconApply s) := by simp [execBeaconApply, h]

@[simp] theorem canon_eraseAhead {s : State} (h : s.Canon) {i : Nat} : (eraseAhead i s).Canon := by simp [eraseAhead, h]

@[simp] theorem canon_showNvm {s : State} (h : s.Canon) : (showNvm s).Canon := by simp [showNvm, h]

@[simp] theorem canon_opBegins {s : State} (h : s.Canon) {j : Job} : (opBegins j s).Canon := by
  unfold opBegins
  split
  · apply canon_eraseAhead
    simp [h]
  · simp [h]
  · simp [h]
  · simp [h]
  · assumption

@[simp] theorem canon_hostEnd {s : State} (h : s.Canon) {reason : Nat} : (hostEnd reason s).Canon := by
  unfold hostEnd
  refine canon_ite ?_ ?_
  · simp [h]
  · apply canon_setFlag
    apply canon_setFlag
    apply canon_setFld
    refine canon_ite ?_ ?_
    · simp [h]
    · apply canon_setFlag
      simp [h]

@[simp] theorem canon_endJob {s : State} (h : s.Canon) {reason : Nat} : (endJob reason s).Canon := by
  unfold endJob
  split
  · exact h
  · refine canon_showNvm (canon_ite (canon_hostEnd ?_) ?_)
    all_goals
      split
      · exact canon_setFlag (canon_setJobs h)
      · exact canon_setJobs h

@[simp] theorem canon_setHead {s : State} (h : s.Canon) {j : Job} : (setHead j s).Canon := by simp [setHead, h]

theorem canon_pickJob {s : State} (h : s.Canon) : ∀ x, pickJob s = some x → x.2.Canon := by
  unfold pickJob
  (repeat' split) <;> simp [h]

@[simp] theorem canon_beginSwitch {s : State} (h : s.Canon) {j : Job} {n : Nat} : (beginSwitch j n s).Canon := by
  simp [beginSwitch, h]

@[simp] theorem canon_flashOpStart {s : State} (h : s.Canon) : (flashOpStart s).Canon := by
  fun_cases flashOpStart s with
  | case1 => exact h
  | case2 => exact h
  | case3 _ _ t hpick => exact canon_beginSwitch (canon_pickJob h _ hpick)
  | case4 _ _ t hpick => exact canon_endJob (canon_pickJob h _ hpick)
  | case5 _ _ t hpick => exact canon_showNvm (canon_opBegins (State.Canon.update (canon_setHead (canon_pickJob h _ hpick))))
  | case6 => exact h

@[simp] theorem canon_execFlashOpStart {s : State} (h : s.Canon) : CanonOut (execFlashOpStart s) := by
  simp [execFlashOpStart, h]

@[simp] theorem canon_firm {s : State} (h : s.Canon) {a : Nat} {b : Byte} : (firm a b s).Canon := by simp [firm, h]

@[simp] theorem canon_opEffect {s : State} (h : s.Canon) {o : FlashOp} {ok : Bool} : (opEffect o ok s).Canon := by
  have hput : ∀ a new, (if ok then (List.zipWith (· &&& ·) (s.storeBytes a new.length) new, s)
      else cutShort (s.storeBytes a new.length) (List.zipWith (· &&& ·) (s.storeBytes a new.length) new) s).2.Canon := by
    intro a new
    split
    · exact h
    · exact canon_cutShort h
  cases o with
  | program a bs => exact State.Canon.update (canon_setStore_writeRun (hput a bs) (hput a bs))
  | byteProgram a b => exact canon_firm (State.Canon.update (canon_setStore_writeRun (hput a [b]) (hput a [b])))
  | erase k => exact State.Canon.update (canon_setStore h (canonical_eraseRange _ _ _ _ h.store))

@[simp] theorem canon_trimSaved {s : State} (h : s.Canon) {item : Nat} {data : List Byte} : (trimSaved item data s).Canon := by
  simp [trimSaved, h]

@[simp] theorem canon_copyDone {s : State} (h : s.Canon) {j : Job} : (copyDone j s).Canon := by
  unfold copyDone
  split
  · refine canon_ite ?_ ?_
    · apply canon_endJob
      simp [h]
    · apply canon_setHead
      simp [h]
  · simp [h]
  · simp [h]

@[simp] theorem canon_journalDone {s : State} (h : s.Canon) {j : Job} {ok : Bool} : (journalDone j ok s).Canon := by
  unfold journalDone
  split
  · simp [h]
  · simp [h]
  · simp [h]
  · refine canon_ite ?_ ?_
    · simp [h]
    · refine canon_ite ?_ ?_
      · simp [h]
      · simp [h]

@[simp] theorem canon_recordDone {s : State} (h : s.Canon) {j : Job} : (recordDone j s).Canon := by
  unfold recordDone
  split <;> simp [h]

@[simp] theorem canon_logDone {s : State} (h : s.Canon) {j : Job} {r : Rec} {ok : Bool} : (logDone j r ok s).Canon := by
  unfold logDone
  split
  · refine canon_ite ?_ ?_
    · simp [h]
    · refine canon_ite ?_ ?_
      · refine canon_ite ?_ ?_
        · simp [h]
        · simp [h]
      · simp [h]
  · refine canon_ite ?_ ?_
    · simp [h]
    · simp [h]
  · simp [h]

@[simp] theorem canon_clearingDone {s : State} (h : s.Canon) {j : Job} : (clearingDone j s).Canon := by
  unfold clearingDone
  refine canon_ite ?_ ?_
  · apply canon_endJob
    apply canon_setFld
    apply canon_setFlag
    apply canon_setFlag
    refine State.Canon.update ?_
    simp [h]
  · apply canon_setHead
    simp [h]

@[simp] theorem canon_jobGoesOn {s : State} (h : s.Canon) {ok : Bool} : (jobGoesOn ok s).Canon := by
  unfold jobGoesOn
  (repeat' split) <;> simp [h]

@[simp] theorem canon_flashOpComplete {s : State} (h : s.Canon) {ok : Bool} : (flashOpComplete ok s).Canon := by
  unfold flashOpComplete
  split
  · assumption
  · apply canon_waitedReset
    apply canon_releaseBurst
    apply canon_showNvm
    apply canon_jobGoesOn
    simp [h]

@[simp] theorem canon_execFlashOpComplete {s : State} (h : s.Canon) {ok : Bool} : CanonOut (execFlashOpComplete ok s) := by
  simp [execFlashOpComplete, h]

@[simp] theorem canon_readStore {s : State} (h : s.Canon) {a : Nat} : (readStore a s).2.Canon := by
  unfold readStore
  dsimp only
  (repeat' split) <;> simp +contextual [h]

@[simp] theorem canon_nvmAddr {s : State} (h : s.Canon) {v : Nat} : (nvmAddr v s).Canon := by
  unfold nvmAddr
  refine State.Canon.update ?_
  simp [h]

@[simp] theorem canon_nvmDataWrite {s : State} (h : s.Canon) {v : Word} : (nvmDataWrite v s).2.Canon := by
  unfold nvmDataWrite
  split <;> simp [h]

@[simp] theorem canon_nvmDataRead {s : State} (h : s.Canon) : (nvmDataRead s).2.2.Canon := by
  unfold nvmDataRead
  split
  · split
    · assumption
    · assumption
  · dsimp only
    split
    · assumption
    · simp [h]

@[simp] theorem canon_nvmFail {s : State} (h : s.Canon) {reason : Nat} : (nvmFail reason s).Canon := by
  unfold nvmFail
  apply canon_setFld
  simp [h]

@[simp] theorem canon_nvmOk {s : State} (h : s.Canon) : (nvmOk s).Canon := by simp [nvmOk, h]

@[simp] theorem canon_hostJobs {s : State} (h : s.Canon) {ks : List JobKind} : (hostJobs ks s).Canon := by
  unfold hostJobs
  refine canon_ite ?_ ?_
  · simp [h]
  · apply canon_showNvm
    apply canon_setJobs
    simp [h]

@[simp] theorem canon_progCommand {s : State} (h : s.Canon) {key grant : Bool} : (progCommand key grant s).Canon := by
  unfold progCommand
  split
  · simp [h]
  · refine canon_ite ?_ ?_
    · simp [h]
    · simp [h]

@[simp] theorem canon_eraseCommand {s : State} (h : s.Canon) {key grant : Bool} : (eraseCommand key grant s).Canon := by
  unfold eraseCommand
  split <;> simp [h]

@[simp] theorem canon_jreadCommand {s : State} (h : s.Canon) {grant : Bool} : (jreadCommand grant s).Canon := by
  unfold jreadCommand
  split
  · simp [h]
  · split
    · simp [h]
    · apply canon_nvmOk
      apply canon_setRegN
      simp [h]

@[simp] theorem canon_jwriteCommand {s : State} (h : s.Canon) {key grant : Bool} {len : Nat} :
    (jwriteCommand key grant len s).Canon := by
  unfold jwriteCommand
  split <;> simp [h]

@[simp] theorem canon_lsaveCommand {s : State} (h : s.Canon) {key grant : Bool} {arg : Nat} :
    (lsaveCommand key grant arg s).Canon := by
  unfold lsaveCommand
  split <;> simp [h]

@[simp] theorem canon_cincCommand {s : State} (h : s.Canon) {grant : Bool} {arg : Nat} : (cincCommand grant arg s).Canon := by
  unfold cincCommand
  split
  · simp [h]
  · refine canon_ite ?_ ?_
    · simp [h]
    · simp [h]

@[simp] theorem canon_saveCommand {s : State} (h : s.Canon) : (saveCommand s).Canon := by simp [saveCommand, h]

@[simp] theorem canon_reloadCommand {s : State} (h : s.Canon) : (reloadCommand s).2.Canon := by simp [reloadCommand, h]

@[simp] theorem canon_execOperatingTimeTick {s : State} (h : s.Canon) : CanonOut (execOperatingTimeTick s) := by
  simp [execOperatingTimeTick, h]

end Sys2Proof.Machine
end

section
/-! Staging, log and tables: what they keep of the canonical form of the memories. -/

namespace Sys2Proof.Machine

-- One proof after another: in parallel these many proofs wait for one another on more threads than the check's memory holds.
set_option Elab.async false

@[simp] theorem canon_applyRegs {s : State} (h : s.Canon) : (applyRegs s).Canon := by
  simp +contextual [applyRegs, h]

@[simp] theorem canon_applyTables {s : State} (h : s.Canon) : (applyTables s).Canon := by simp [applyTables, h]

@[simp] theorem canon_clearShadow {s : State} (h : s.Canon) : (clearShadow s).Canon := by simp [clearShadow, h]

@[simp] theorem canon_commitSchedule {old : State} {s : State} (hold : old.Canon) (hs : s.Canon) : (commitSchedule old s).Canon
    := by
  unfold commitSchedule
  apply canon_settleOverlap
  apply canon_enableEntries
  apply canon_oweSetl
  apply canon_powerSlices
  refine State.Canon.update ?_
  apply canon_forEach
  · simp [hs]
  · simp +contextual

@[simp] theorem canon_commitReference {old : State} {s : State} (hold : old.Canon) (hs : s.Canon) : (commitReference old s).Canon
    := by
  unfold commitReference
  refine canon_ite ?_ ?_
  · refine State.Canon.update ?_
    simp [hs]
  · refine canon_ite ?_ ?_
    · apply canon_setFlag
      simp [hs]
    · apply canon_settleBuffer
      simp [hs]

@[simp] theorem canon_commitOutput {old : State} {s : State} (hold : old.Canon) (hs : s.Canon) {k : Nat} :
    (commitOutput old k s).Canon := by
  unfold commitOutput
  refine canon_ite ?_ ?_
  · assumption
  · simp [hs]

@[simp] theorem canon_commitLease {s : State} (h : s.Canon) : (commitLease s).Canon := by
  unfold commitLease
  refine canon_ite ?_ ?_
  · assumption
  · refine canon_ite ?_ ?_
    · assumption
    · simp [h]

@[simp] theorem canon_commitEngine {old : State} {s : State} (hold : old.Canon) (hs : s.Canon) {n : Nat} :
    (commitEngine old n s).Canon := by
  unfold commitEngine
  refine canon_ite ?_ ?_
  · apply canon_modeChanged
    refine canon_ite ?_ ?_
    · apply canon_engineChanged
      simp [hs]
    · simp [hs]
  · refine canon_ite ?_ ?_
    · apply canon_engineChanged
      simp [hs]
    · simp [hs]

@[simp] theorem canon_showModem {s : State} (h : s.Canon) {n : Nat} : (showModem n s).Canon := by
  have htx : ∀ (l : List FskTx) (t : State), t.Canon → (forList l (fun f t => match f.slot with
      | some k => setSlot n k slotFree t
      | none => t) t).Canon := by
    refine fun l t ht => canon_forList ht fun f u hu => ?_
    split
    · exact canon_setSlot hu
    · exact hu
  unfold showModem
  exact canon_ite (canon_setFlag h) (canon_setFlag (canon_setFlag (canon_modFsk (htx _ _ (canon_setFlag h)))))

@[simp] theorem canon_commitProfile {s : State} (h : s.Canon) : (commitProfile s).Canon := by
  unfold commitProfile
  split <;> simp [h]

@[simp] theorem canon_memberOutcome {s : State} (h : s.Canon) {o : Nat} : (memberOutcome o s).Canon := by
  unfold memberOutcome
  split <;> simp [h]

@[simp] theorem canon_meetCommit {old : State} {s : State} (hold : old.Canon) (hs : s.Canon) : (meetCommit old s).Canon := by
  unfold meetCommit
  apply canon_commitProfile
  apply canon_resumeCal
  apply canon_updateLoops
  apply canon_forEach
  · apply canon_showCharFb
    apply canon_showEngines
    apply canon_forEach
    · apply canon_commitSchedule
      · assumption
      · apply canon_setSpeed
        apply canon_forEach
        · apply canon_commitLease
          apply canon_showHopDelay
          simp [hold, hs]
        · simp +contextual [hold]
    · simp +contextual [hold]
  · simp +contextual

@[simp] theorem canon_applyCommit {s : State} (h : s.Canon) : (applyCommit s).Canon := by
  unfold applyCommit
  refine canon_ite ?_ ?_
  · apply canon_memberOutcome
    apply canon_setFlag
    apply canon_setRegN
    apply canon_setRegN
    apply canon_setFld
    refine State.Canon.update ?_
    apply canon_meetCommit
    · assumption
    · apply canon_clearShadow
      simp [h]
  · apply canon_setFlag
    apply canon_setRegN
    apply canon_setRegN
    apply canon_setFld
    refine State.Canon.update ?_
    apply canon_meetCommit
    · assumption
    · apply canon_clearShadow
      simp [h]

@[simp] theorem canon_settleCommit {s : State} (h : s.Canon) : (settleCommit s).Canon := by simp [settleCommit, h]

@[simp] theorem canon_execCommitInstant {s : State} (h : s.Canon) : CanonOut (execCommitInstant s) := by
  simp [execCommitInstant, h]

@[simp] theorem canon_bankCopyDone {s : State} (h : s.Canon) {b : Bank} : (bankCopyDone b s).Canon := by
  unfold bankCopyDone
  split <;> simp [h]

@[simp] theorem canon_execBankCopyDone {s : State} (h : s.Canon) {b : Bank} : CanonOut (execBankCopyDone b s) := by
  simp [execBankCopyDone, h]

@[simp] theorem canon_startCheck {s : State} (h : s.Canon) {kind at_ : Nat} {p : Path} : (startCheck kind at_ p s).Canon := by
  simp [startCheck, h]

@[simp] theorem canon_discardStaged {s : State} (h : s.Canon) : (discardStaged s).Canon := by
  unfold discardStaged
  refine canon_ite ?_ ?_
  · apply canon_setFlag
    apply canon_resumeCal
    apply canon_setFld
    simp [h]
  · apply canon_resumeCal
    apply canon_setFld
    simp [h]

@[simp] theorem canon_stgCtrl {s : State} (h : s.Canon) {p : Path} {v : Word} : (stgCtrl p v s).2.Canon := by
  unfold stgCtrl
  split
  · dsimp only
    split
    · assumption
    · assumption
  · split
    · dsimp only
      split
      · assumption
      · split
        · assumption
        · simp [h]
    · dsimp only
      split
      · assumption
      · split
        · simp [h]
        · simp [h]

@[simp] theorem canon_rejectCheck {s : State} (h : s.Canon) {r item : Nat} : (rejectCheck r item s).Canon := by
  unfold rejectCheck
  apply canon_setFlag
  apply canon_setRegN
  simp [h]

@[simp] theorem canon_passCheck {s : State} (h : s.Canon) {st : Nat} : (passCheck st s).Canon := by
  unfold passCheck
  apply canon_setRegN
  simp [h]

@[simp] theorem canon_endCheck {s : State} (h : s.Canon) {kind at_ : Nat} {p : Path} : (endCheck kind at_ p s).Canon := by
  unfold endCheck
  split
  · dsimp only
    split
    · simp [h]
    · apply canon_setFlag
      simp [h]
  · split
    · dsimp only
      split
      · simp [h]
      · refine State.Canon.update ?_
        simp [h]
    · dsimp only
      split
      · simp [h]
      · refine State.Canon.update ?_
        simp [h]

@[simp] theorem canon_availClock {s : State} (h : s.Canon) : (availClock s).Canon := by
  unfold availClock
  split <;> simp [h]

@[simp] theorem canon_coreClock {s : State} (h : s.Canon) : (coreClock s).Canon := by
  unfold coreClock
  apply canon_exciteClock
  apply canon_endSetups
  apply canon_modulatorClock
  apply canon_angleClock
  apply canon_countMissed
  refine State.Canon.update ?_
  simp [h]

@[simp] theorem canon_runClocks {s : State} (h : s.Canon) {x0 : Nat} : (runClocks x0 s).Canon := by
  unfold runClocks
  split
  · assumption
  · apply canon_runClocks
    simp [h]

@[simp] theorem canon_angleAdvance {s : State} (h : s.Canon) {n : Nat} : (angleAdvance n s).Canon := by
  unfold angleAdvance
  split <;> simp [h]

@[simp] theorem canon_execAngleAdvance {s : State} (h : s.Canon) {clocks : Nat} : CanonOut (execAngleAdvance clocks s) := by
  simp [execAngleAdvance, h]

@[simp] theorem canon_logSeqRead {s : State} (h : s.Canon) {p : Path} : (logSeqRead p s).2.Canon := by simp [logSeqRead, h]

@[simp] theorem canon_setSnap {s : State} (h : s.Canon) {p : Path} {bs : List Byte} {st slot : Nat} :
    (setSnap p bs st slot s).Canon := by
  simp [setSnap, h]

@[simp] theorem canon_latchSlot {s : State} (h : s.Canon) {p : Path} {i : Nat} : (latchSlot p i s).Canon := by
  simp [latchSlot, h]

@[simp] theorem canon_latchBack {s : State} (h : s.Canon) {p : Path} {idx : Nat} : (latchBack p idx s).Canon := by
  have hsnap : ∀ bs st e, (setSnap p bs st e s).Canon := fun _ _ _ => canon_setSnap h
  unfold latchBack
  simp only []
  (repeat' split) <;> exact hsnap _ _ _

@[simp] theorem canon_logWinLatch {s : State} (h : s.Canon) {p : Path} : (logWinLatch p s).2.Canon := by
  unfold logWinLatch
  apply canon_modPath
  simp [h]

@[simp] theorem canon_issueChallenge {s : State} (h : s.Canon) {p : Path} : (issueChallenge p s).2.Canon := by
  unfold issueChallenge
  split
  · assumption
  · apply canon_setFld
    assumption

@[simp] theorem canon_challengeExpire {s : State} (h : s.Canon) : (challengeExpire s).Canon := by
  unfold challengeExpire
  split <;> simp [h]

@[simp] theorem canon_execChallengeExpire {s : State} (h : s.Canon) : CanonOut (execChallengeExpire s) := by
  simp [execChallengeExpire, h]

@[simp] theorem canon_beginClear {s : State} (h : s.Canon) {p : Path} : (beginClear p s).Canon := by
  unfold beginClear
  apply canon_addJob
  refine canon_ite ?_ ?_
  · apply canon_capTrigger
    apply canon_bindCounters
    refine State.Canon.update ?_
    apply canon_setFlag
    simp [h]
  · apply canon_bindCounters
    refine State.Canon.update ?_
    apply canon_setFlag
    simp [h]

@[simp] theorem canon_clearFail {s : State} (h : s.Canon) {p : Path} : (clearFail p s).Canon := by
  unfold clearFail
  refine canon_ite ?_ ?_
  · apply canon_setFld
    simp [h]
  · apply canon_mkRecord
    refine State.Canon.update ?_
    apply canon_setFld
    apply canon_setFlag
    simp [h]

@[simp] theorem canon_logClrSubmit {s : State} (h : s.Canon) {p : Path} {token : Nat} : (logClrSubmit p token s).2.Canon := by
  unfold logClrSubmit
  split
  · assumption
  · split
    · split
      · simp [h]
      · simp [h]
    · simp [h]

@[simp] theorem canon_clearLockoutEnd {s : State} (h : s.Canon) : (clearLockoutEnd s).Canon := by
  unfold clearLockoutEnd
  refine canon_ite ?_ ?_
  · apply canon_setFld
    simp [h]
  · assumption

@[simp] theorem canon_execClearLockoutEnd {s : State} (h : s.Canon) : CanonOut (execClearLockoutEnd s) := by
  simp [execClearLockoutEnd, h]

@[simp] theorem canon_bucketRefill {s : State} (h : s.Canon) {g : Nat} : (bucketRefill g s).Canon := by
  unfold bucketRefill
  refine canon_ite ?_ ?_
  · assumption
  · refine canon_ite ?_ ?_
    · assumption
    · simp [h]

@[simp] theorem canon_execBucketRefill {s : State} (h : s.Canon) {g : Nat} : CanonOut (execBucketRefill g s) := by
  simp [execBucketRefill, h]

@[simp] theorem canon_evtReceive {s : State} (h : s.Canon) {src : Nat} {bytes : List Byte} : (evtReceive src bytes s).Canon := by
  unfold evtReceive
  refine canon_ite ?_ ?_
  · simp [h]
  · refine canon_ite ?_ ?_
    · apply canon_detachFrom
      apply canon_setFlag
      simp [h]
    · apply canon_setFlag
      simp [h]

@[simp] theorem canon_execEvt {s : State} (h : s.Canon) {src : Nat} {bytes : List Byte} : CanonOut (execEvt src bytes s) := by
  simp [execEvt, h]

@[simp] theorem canon_sendTeam {s : State} (h : s.Canon) {dst op team : Nat} {rest : List Byte} :
    (sendTeam dst op team rest s).Canon := by
  simp [sendTeam, h]

@[simp] theorem canon_setTeamW {s : State} (h : s.Canon) {t e w : Nat} {v : Word} : (setTeamW t e w v s).Canon := by
  simp [setTeamW, h]

@[simp] theorem canon_setTeamRun {s : State} (h : s.Canon) {t e w : Nat} {vs : List Word} : (setTeamRun t e w vs s).Canon := by
  simp [setTeamRun, h]

@[simp] theorem canon_setTeamMask {s : State} (h : s.Canon) {t e w m : Nat} : (setTeamMask t e w m s).Canon := by
  simp [setTeamMask, h]

@[simp] theorem canon_showTeams {s : State} (h : s.Canon) : (showTeams s).Canon := by simp [showTeams, h]

@[simp] theorem canon_setTeamState {s : State} (h : s.Canon) {t st reason : Nat} : (setTeamState t st reason s).Canon := by
  simp [setTeamState, h]

@[simp] theorem canon_setMemberState {s : State} (h : s.Canon) {t e st : Nat} : (setMemberState t e st s).Canon := by
  simp [setMemberState, h]

@[simp] theorem canon_setMemberUid {s : State} (h : s.Canon) {t e uid : Nat} : (setMemberUid t e uid s).Canon := by
  simp [setMemberUid, h]

@[simp] theorem canon_showMasks {s : State} (h : s.Canon) {t : Nat} : (showMasks t s).Canon := by simp [showMasks, h]

@[simp] theorem canon_answerPoll {s : State} (h : s.Canon) {f : RopeFrame} : (answerPoll f s).Canon := by simp [answerPoll, h]

@[simp] theorem canon_showAggregate {s : State} (h : s.Canon) {t : Nat} : (showAggregate t s).Canon := by
  unfold showAggregate
  dsimp only
  (repeat' split) <;> simp +contextual [h]

@[simp] theorem canon_setPartial {s : State} (h : s.Canon) {t : Nat} {b : Bool} : (setPartial t b s).Canon := by
  simp [setPartial, h]

@[simp] theorem canon_joinTeam {s : State} (h : s.Canon) {leader team : Nat} : (joinTeam leader team s).Canon := by
  simp [joinTeam, h]

@[simp] theorem canon_leaveTeam {s : State} (h : s.Canon) {leader team : Nat} : (leaveTeam leader team s).Canon := by
  simp [leaveTeam, h]

@[simp] theorem canon_bindTeam {s : State} (h : s.Canon) {id leader uid : Nat} : (bindTeam id leader uid s).Canon := by
  simp [bindTeam, h]

@[simp] theorem canon_unmask {s : State} (h : s.Canon) {id : Nat} : (unmask id s).Canon := by simp [unmask, h]

@[simp] theorem canon_releaseTeam {s : State} (h : s.Canon) {id : Nat} : (releaseTeam id s).Canon := by simp [releaseTeam, h]

@[simp] theorem canon_deregisterTeam {s : State} (h : s.Canon) {id : Nat} : (deregisterTeam id s).Canon := by
  simp [deregisterTeam, h]

@[simp] theorem canon_registerTeam {s : State} (h : s.Canon) {id : Nat} : (registerTeam id s).Canon := by
  unfold registerTeam
  split <;> simp [h]

@[simp] theorem canon_beginDefine {s : State} (h : s.Canon) {t : Nat} : (beginDefine t s).Canon := by simp [beginDefine, h]

@[simp] theorem canon_deleteTeam {s : State} (h : s.Canon) {t : Nat} : (deleteTeam t s).Canon := by
  unfold deleteTeam
  apply canon_setTeamState
  apply canon_setTeamW
  apply canon_modRope
  refine canon_ite ?_ ?_
  · apply canon_forList
    · simp [h]
    · intro x t ht
      refine canon_ite ?_ ?_
      · assumption
      · simp [ht]
  · assumption

@[simp] theorem canon_joinMember {s : State} (h : s.Canon) {t id e kind addr : Nat} {ans : Option (Nat × Nat)} :
    (joinMember t id e kind addr ans s).Canon := by
  unfold joinMember
  split
  · dsimp only
    split
    · apply canon_setMemberState
      refine canon_ite ?_ ?_
      · simp [h]
      · simp [h]
    · apply canon_setMemberState
      apply canon_setMemberUid
      refine canon_ite ?_ ?_
      · simp [h]
      · simp [h]
  · dsimp only
    split
    · assumption
    · assumption

@[simp] theorem canon_runDefine {s : State} (h : s.Canon) {t : Nat} {granted : Bool} {answers : List (Option (Nat × Nat))} :
    (runDefine t granted answers s).Canon := by
  unfold runDefine
  refine canon_ite ?_ ?_
  · simp [h]
  · refine canon_ite ?_ ?_
    · apply canon_setTeamState
      apply canon_deregisterTeam
      simp +contextual [h]
    · apply canon_setTeamState
      apply canon_setTeamW
      apply canon_setTeamW
      apply canon_setPartial
      apply canon_forList
      · apply canon_showMasks
        apply canon_modRope
        simp +contextual [h]
      · simp +contextual

@[simp] theorem canon_defineTeam {s : State} (h : s.Canon) {t : Nat} {granted : Bool} {answers : List (Option (Nat × Nat))} :
    (defineTeam t granted answers s).Canon := by
  unfold defineTeam
  refine canon_ite ?_ ?_
  · assumption
  · split
    · simp [h]
    · simp [h]

@[simp] theorem canon_teamHeader {s : State} (h : s.Canon) {t : Nat} {v : Word} : (teamHeader t v s).2.Canon := by
  unfold teamHeader
  split
  · dsimp only
    split
    · assumption
    · split
      · assumption
      · split
        · simp [h]
        · assumption
  · dsimp only
    split
    · assumption
    · split
      · simp [h]
      · split
        · simp [h]
        · assumption

@[simp] theorem canon_teamWrite {s : State} (h : s.Canon) {t e w : Nat} {v : Word} : (teamWrite t e w v s).2.Canon := by
  unfold teamWrite
  split
  · assumption
  · split
    · simp [h]
    · split
      · assumption
      · assumption

@[simp] theorem canon_quantityRead {s : State} (h : s.Canon) {p : Path} {q : QWord} {live : Nat → Word} :
    (quantityRead p q live s).2.Canon := by
  unfold quantityRead
  split
  · assumption
  · split
    · assumption
    · assumption

@[simp] theorem canon_quantityWrite {s : State} (h : s.Canon) {p : Path} {q : QWord} {v : Word} : (quantityWrite p q v s).2.Canon
    := by
  unfold quantityWrite
  split
  · assumption
  · split
    · dsimp only
      split
      · assumption
      · assumption
    · dsimp only
      split
      · assumption
      · assumption

@[simp] theorem canon_bankWord {s : State} (h : s.Canon) {d : Nat → Word} {active inactive : List (Nat × Word)}
    {copying alt : Bool} {k : Nat} : (bankWord d active inactive copying alt k s).2.Canon := by
  unfold bankWord
  split
  · assumption
  · split
    · assumption
    · assumption

@[simp] theorem canon_spaceRead {s : State} (h : s.Canon) {p : Path} {alt : Bool} {sp cur ofs : Nat} :
    (spaceRead p alt sp cur ofs s).2.Canon := by
  unfold spaceRead
  split
  · dsimp only
    split
    · apply canon_quantityRead
      simp [h]
    · simp [h]
  · split
    · simp [h]
    · split
      · simp [h]
      · split
        · simp [h]
        · split
          · assumption
          · split
            · simp [h]
            · assumption

@[simp] theorem canon_markDirty {s : State} (h : s.Canon) : (markDirty s).Canon := by simp [markDirty, h]

@[simp] theorem canon_modStg {s : State} (h : s.Canon) {f : Staging → Staging} : (State.modStg s f).Canon := by
  simp [State.modStg, h]

@[simp] theorem canon_stageReg {s : State} (h : s.Canon) {a : Nat} {v : Word} : (stageReg a v s).Canon := by simp [stageReg, h]

@[simp] theorem canon_coefWrite {s : State} (h : s.Canon) {i ofs : Nat} {v : Word} : (coefWrite i ofs v s).Canon := by
  unfold coefWrite
  split <;> simp [h]

@[simp] theorem canon_charWrite {s : State} (h : s.Canon) {cur ofs : Nat} {vs : List Word} : (charWrite cur ofs vs s).Canon := by
  simp [charWrite, h]

@[simp] theorem canon_fskqWrite {s : State} (h : s.Canon) {n w : Nat} {v : Word} : (fskqWrite n w v s).2.Canon := by
  unfold fskqWrite
  split
  · simp [h]
  · split
    · simp [h]
    · assumption

@[simp] theorem canon_spaceWrite {s : State} (h : s.Canon) {p : Path} {sp cur ofs : Nat} {v : Word} :
    (spaceWrite p sp cur ofs v s).2.Canon := by
  have hput : ∀ (vs : List Word) (i : Nat) (t : State), t.Canon → (if sp = spChar then charWrite cur i vs t
      else markDirty (t.modStg (fun g => { g with
        valprog := (List.range vs.length).foldl (fun m j => insertAt m (16 * cur + i + j) (ew vs j)) g.valprog }))).Canon :=
    fun _ _ _ ht => canon_ite (canon_charWrite ht) (canon_markDirty (canon_modStg ht))
  have hwrite : ∀ q, (quantityWrite p q v s).2.Canon := fun _ => canon_quantityWrite h
  fun_cases spaceWrite p sp cur ofs v s with
  | case1 | case2 | case3 | case15 => exact h
  | case4 _ _ _ _ _ _ _ hq | case5 _ _ _ _ _ _ _ hq => exact canon_snd hq (hwrite _)
  | case6 _ _ _ _ _ _ _ _ _ hq => exact hput _ _ _ (canon_snd hq (hwrite _))
  | case7 | case8 | case12 => exact canon_markDirty (canon_modStg h)
  | case9 => exact canon_coefWrite h
  | case10 => exact canon_ite h (hput _ _ _ h)
  | case11 => exact hput _ _ _ h
  | case13 => exact canon_fskqWrite h
  | case14 => exact canon_teamWrite h

@[simp] theorem canon_modWindow {s : State} (h : s.Canon) {n : Nat} {f : Win → Win} : (State.modWindow s n f).Canon := by
  simp [State.modWindow, h]

@[simp] theorem canon_windowSpace {s : State} (h : s.Canon) {p : Path} {n : Nat} {v : Word} : (windowSpace p n v s).2.Canon := by
  unfold windowSpace
  dsimp only
  split
  · assumption
  · apply canon_modWindow
    apply canon_setReg
    simp [h]

@[simp] theorem canon_windowClose {s : State} (h : s.Canon) {n : Nat} : (windowClose n s).Canon := by simp [windowClose, h]

@[simp] theorem canon_windowAdvance {s : State} (h : s.Canon) {n : Nat} : (windowAdvance n s).Canon := by
  unfold windowAdvance
  refine canon_ite ?_ ?_
  · simp [h]
  · apply canon_modWindow
    simp [h]

@[simp] theorem canon_windowRead {s : State} (h : s.Canon) {p : Path} {n : Nat} : (windowRead p n s).2.Canon := by
  unfold windowRead
  split
  · dsimp only
    split
    · assumption
    · simp [h]
  · dsimp only
    split
    · assumption
    · refine canon_ite ?_ ?_
      · simp [h]
      · simp [h]

@[simp] theorem canon_windowWrite {s : State} (h : s.Canon) {p : Path} {n : Nat} {v : Word} : (windowWrite p n v s).2.Canon := by
  unfold windowWrite
  split
  · dsimp only
    split
    · assumption
    · simp [h]
  · dsimp only
    split
    · assumption
    · refine canon_ite ?_ ?_
      · simp [h]
      · simp [h]

end Sys2Proof.Machine
end

section
/-! Accesses, commands and teams: what they keep of the canonical form of the memories. -/

namespace Sys2Proof.Machine

-- One proof after another: in parallel these many proofs wait for one another on more threads than the check's memory holds.
set_option Elab.async false

@[simp] theorem canon_readClears {s : State} (h : s.Canon) {a : Nat} : (readClears a s).Canon := by
  unfold readClears
  refine canon_ite ?_ ?_
  · assumption
  · refine canon_ite ?_ ?_
    · split
      · simp [h]
      · simp [h]
    · simp [h]

@[simp] theorem canon_readReg {s : State} (h : s.Canon) {p : Path} {a : Nat} : (readReg p a s).2.Canon := by
  unfold readReg
  split
  · simp [h]
  · split
    · assumption
    · assumption
  · split
    · simp [h]
    · split
      · simp [h]
      · split
        · assumption
        · split
          · simp [h]
          · split
            · simp [h]
            · split
              · simp [h]
              · simp [h]

@[simp] theorem canon_dropKey {s : State} (h : s.Canon) {p : Path} : (dropKey p s).Canon := by simp [dropKey, h]

@[simp] theorem canon_accessRead {s : State} (h : s.Canon) {p : Path} {a : Nat} : (accessRead p a s).2.Canon := by
  unfold accessRead
  split
  · assumption
  · dsimp only
    split
    · assumption
    · simp [h]

@[simp] theorem canon_plainWrite {s : State} (h : s.Canon) {a : Nat} {v : Word} : (plainWrite a v s).Canon := by
  unfold plainWrite
  refine canon_ite ?_ ?_
  · simp [h]
  · simp [h]

@[simp] theorem canon_modeWrite {s : State} (h : s.Canon) {v : Word} : (modeWrite v s).Canon := by
  unfold modeWrite
  refine canon_ite ?_ ?_
  · refine canon_ite ?_ ?_
    · simp [h]
    · simp [h]
  · refine canon_ite ?_ ?_
    · apply canon_leaveBivouac
      simp [h]
    · simp [h]

@[simp] theorem canon_resetWrite {s : State} (h : s.Canon) {v : Word} : (resetWrite v s).2.Canon := by
  unfold resetWrite
  split <;> simp [h]

@[simp] theorem canon_seqCtrlWrite {s : State} (h : s.Canon) {v : Word} : (seqCtrlWrite v s).2.Canon := by
  unfold seqCtrlWrite
  dsimp only
  (repeat' split) <;> simp +contextual [h]

@[simp] theorem canon_calCommand {s : State} (h : s.Canon) {nvWr : Bool} {v : Word} : (calCommand nvWr v s).2.Canon := by
  unfold calCommand
  split
  · split
    · simp [h]
    · assumption
  · simp [h]
  · simp [h]
  · simp [h]
  · simp [h]
  · split
    · assumption
    · simp [h]
  · split
    · assumption
    · simp [h]
  · assumption

@[simp] theorem canon_calCtrlWrite {s : State} (h : s.Canon) {nvWr : Bool} {v : Word} : (calCtrlWrite nvWr v s).2.Canon := by
  unfold calCtrlWrite
  split
  · assumption
  · refine canon_ite ?_ ?_
    · simp [h]
    · simp [h]

@[simp] theorem canon_clkWrite {s : State} (h : s.Canon) {v : Word} : (clkWrite v s).Canon := by simp [clkWrite, h]

@[simp] theorem canon_xferCtrl {s : State} (h : s.Canon) {v : Word} : (xferCtrl v s).2.Canon := by
  unfold xferCtrl
  split <;> simp [h]

@[simp] theorem canon_ringWrite {s : State} (h : s.Canon) {v : Word} : (ringWrite v s).2.Canon := by
  unfold ringWrite
  split <;> simp [h]

@[simp] theorem canon_wptrWrite {s : State} (h : s.Canon) {a : Nat} : (wptrWrite a s).2.Canon := by
  unfold wptrWrite
  split
  · assumption
  · refine canon_modXfer ?_
    simp [h]

@[simp] theorem canon_capCommand {s : State} (h : s.Canon) {cmd : Nat} : (capCommand cmd s).Canon := by
  unfold capCommand
  refine canon_ite ?_ ?_
  · simp [h]
  · refine canon_ite ?_ ?_
    · simp [h]
    · simp [h]

@[simp] theorem canon_capWrite {s : State} (h : s.Canon) {v : Word} : (capWrite v s).2.Canon := by
  unfold capWrite
  split <;> simp [h]

@[simp] theorem canon_pullWriteBy {s : State} (h : s.Canon) {p : Path} {v : Word} : (pullWriteBy p v s).Canon := by
  simp [pullWriteBy, h]

@[simp] theorem canon_nvmCtrlWrite {s : State} (h : s.Canon) {p : Path} {key : Bool} {v : Word} :
    (nvmCtrlWrite p key v s).2.Canon := by
  unfold nvmCtrlWrite
  split <;> simp [h]

@[simp] theorem canon_nvmKeyEffect {s : State} (h : s.Canon) {p : Path} {v : Word} : (nvmKeyEffect p v s).2.Canon := by
  unfold nvmKeyEffect
  split <;> simp [h]

@[simp] theorem canon_fltClrWrite {s : State} (h : s.Canon) {p : Path} {v : Word} : (fltClrWrite p v s).2.Canon := by
  unfold fltClrWrite
  split
  · assumption
  · split
    · simp [h]
    · simp [h]
    · simp [h]
    · assumption

@[simp] theorem canon_fltStatWrite {s : State} (h : s.Canon) {v : Word} : (fltStatWrite v s).Canon := by simp [fltStatWrite, h]

@[simp] theorem canon_disarm {s : State} (h : s.Canon) : (disarm s).Canon := by simp [disarm, h]

@[simp] theorem canon_fltInjWrite {s : State} (h : s.Canon) {p : Path} {v : Word} : (fltInjWrite p v s).2.Canon := by
  have hdisarm := canon_disarm h
  unfold fltInjWrite
  split
  · exact h
  · split
    · split
      next t ht => exact canon_inject hdisarm t ht
      next => exact hdisarm
    · split
      · exact canon_setFlag h.update
      · exact h

@[simp] theorem canon_quantityReg {s : State} (h : s.Canon) {p : Path} {q : QWord} {v : Word} : (quantityReg p q v s).2.Canon :=
    by
  have hwrite := canon_quantityWrite h (p := p) (q := q) (v := v)
  fun_cases quantityReg p q v s with
  | case1 => exact h
  | case2 _ _ hq | case3 _ _ hq => exact canon_snd hq hwrite
  | case4 _ _ _ hq => exact canon_stageReg (canon_stageReg (canon_snd hq hwrite))
  | case5 _ _ _ hq => exact canon_wptrWrite (canon_snd hq hwrite)
  | case6 _ _ _ hq => exact canon_logClrSubmit (canon_snd hq hwrite)
  | case7 _ _ _ hq => exact canon_snd hq hwrite

@[simp] theorem canon_windowRegWrite {s : State} (h : s.Canon) {p : Path} {n k : Nat} {v : Word} :
    (windowRegWrite p n k v s).2.Canon := by
  unfold windowRegWrite
  split
  · simp [h]
  · split
    · simp [h]
    · split
      · assumption
      · split
        · simp [h]
        · simp [h]

theorem canon_writeCore {s : State} (h : s.Canon) {p : Path} {a : Nat} {v : Word} : ∀ x, writeCore p a v s = some x → x.2.Canon
    := by
  unfold writeCore
  (repeat' split) <;> simp [h]

theorem canon_writeRest {s : State} (h : s.Canon) {p : Path} {key : Bool} {a : Nat} {v : Word} : ∀ x, writeRest p key a v s =
    some x → x.2.Canon := by
  unfold writeRest
  repeat' refine canon_ite_some ?_ ?_
  all_goals simp [h]

@[simp] theorem canon_writeReg {s : State} (h : s.Canon) {p : Path} {key : Bool} {a : Nat} {v : Word} :
    (writeReg p key a v s).2.Canon := by
  fun_cases writeReg p key a v s with
  | case1 => exact canon_windowRegWrite h
  | case2 => exact canon_quantityReg h
  | case3 _ _ _ hcore => exact canon_writeCore h _ hcore
  | case4 _ _ _ _ hrest => exact canon_writeRest h _ hrest
  | case5 => exact canon_plainWrite h

@[simp] theorem canon_disarmBy {s : State} (h : s.Canon) {p : Path} {a : Nat} : (disarmBy p a s).Canon := by simp [disarmBy, h]

@[simp] theorem canon_executed {p : Path} {r : Nat × State} (h : r.2.Canon) : (executed p r).2.Canon :=
  canon_ite (canon_modPath h) h

@[simp] theorem canon_accessWrite {s : State} (h : s.Canon) {p : Path} {a : Nat} {v : Word} : (accessWrite p a v s).2.Canon := by
  unfold accessWrite
  split
  · dsimp only
    split
    · simp [h]
    · apply canon_executed
      apply canon_writeReg
      simp [h]
  · dsimp only
    split
    · assumption
    · simp [h]

@[simp] theorem canon_hostAnswer {s : State} (h : s.Canon) {st : Nat} {d : Word} : (hostAnswer st d s).Canon := by
  simp [hostAnswer, h]

@[simp] theorem canon_pathWrite {s : State} (h : s.Canon) {p : Path} {a : Nat} {v : Word} : (pathWrite p a v s).Canon := by
  unfold pathWrite
  refine canon_ite ?_ ?_
  · apply canon_hostAnswer
    split
    · refine canon_ite ?_ ?_
      · simp [h]
      · assumption
    · apply canon_executed
      apply canon_writeReg
      refine canon_ite ?_ ?_
      · simp [h]
      · assumption
  · split
    · refine canon_ite ?_ ?_
      · simp [h]
      · assumption
    · apply canon_executed
      apply canon_writeReg
      refine canon_ite ?_ ?_
      · simp [h]
      · assumption

@[simp] theorem canon_pathRead {s : State} (h : s.Canon) {p : Path} {a : Nat} : (pathRead p a s).Canon := by
  unfold pathRead
  dsimp only
  (repeat' split) <;> simp +contextual [h]

@[simp] theorem canon_execSoftwareReset {s : State} (h : s.Canon) {p : Path} {key : Nat} : CanonOut (execSoftwareReset p key s)
    := by
  simp [execSoftwareReset, h]

@[simp] theorem canon_execHostpWrite {s : State} (h : s.Canon) {p : Path} {v : Nat} : CanonOut (execHostpWrite p v s) := by
  simp [execHostpWrite, h]

@[simp] theorem canon_execSetRedreq {s : State} (h : s.Canon) {p : Path} : CanonOut (execSetRedreq p s) := by
  simp [execSetRedreq, h]

@[simp] theorem canon_execClearRedreq {s : State} (h : s.Canon) {p : Path} : CanonOut (execClearRedreq p s) := by
  simp [execClearRedreq, h]

@[simp] theorem canon_execSetBivreq {s : State} (h : s.Canon) {p : Path} : CanonOut (execSetBivreq p s) := by
  simp [execSetBivreq, h]

@[simp] theorem canon_execClearBivreq {s : State} (h : s.Canon) {p : Path} : CanonOut (execClearBivreq p s) := by
  simp [execClearBivreq, h]

@[simp] theorem canon_execRegisterWrite {s : State} (h : s.Canon) {p : Path} {a v : Nat} : CanonOut (execRegisterWrite p a v s)
    := by
  simp [execRegisterWrite, h]

@[simp] theorem canon_execReadClear {s : State} (h : s.Canon) {p : Path} {a : Nat} : CanonOut (execReadClear p a s) := by
  simp [execReadClear, h]

@[simp] theorem canon_execWindowSpaceWrite {s : State} (h : s.Canon) {p : Path} {n v : Nat} : CanonOut
    (execWindowSpaceWrite p n v s) := by
  simp [execWindowSpaceWrite, h]

@[simp] theorem canon_execWindowDataAccess {s : State} (h : s.Canon) {p : Path} {n : Nat} {w : Option Nat} : CanonOut
    (execWindowDataAccess p n w s) := by
  unfold execWindowDataAccess
  split <;> simp [h]

@[simp] theorem canon_windowIdle {s : State} (h : s.Canon) {n : Nat} : (windowIdle n s).Canon := by
  unfold windowIdle
  split <;> simp [h]

@[simp] theorem canon_execWindowIdleClose {s : State} (h : s.Canon) {n : Nat} : CanonOut (execWindowIdleClose n s) := by
  simp [execWindowIdleClose, h]

@[simp] theorem canon_execCommit {s : State} (h : s.Canon) {p : Path} {at_ : Nat} : CanonOut (execCommit p at_ s) := by
  simp [execCommit, h]

@[simp] theorem canon_execCheck {s : State} (h : s.Canon) {p : Path} {at_ : Nat} : CanonOut (execCheck p at_ s) := by
  simp [execCheck, h]

@[simp] theorem canon_execDiscard {s : State} (h : s.Canon) {p : Path} : CanonOut (execDiscard p s) := by simp [execDiscard, h]

@[simp] theorem canon_execSliceForce {s : State} (h : s.Canon) {p : Path} {n v : Nat} : CanonOut (execSliceForce p n v s) := by
  simp [execSliceForce, h]

@[simp] theorem canon_execSliceDirectWrite {s : State} (h : s.Canon) {p : Path} {v : Nat} : CanonOut (execSliceDirectWrite p v s)
    := by
  simp [execSliceDirectWrite, h]

@[simp] theorem canon_execUrgentRequest {s : State} (h : s.Canon) {p : Path} {v : Nat} : CanonOut (execUrgentRequest p v s) := by
  simp [execUrgentRequest, h]

@[simp] theorem canon_execSequencerStart {s : State} (h : s.Canon) {p : Path} : CanonOut (execSequencerStart p s) := by
  simp [execSequencerStart, h]

@[simp] theorem canon_execSequencerStop {s : State} (h : s.Canon) {p : Path} : CanonOut (execSequencerStop p s) := by
  simp [execSequencerStop, h]

@[simp] theorem canon_execClrcnt {s : State} (h : s.Canon) {p : Path} : CanonOut (execClrcnt p s) := by simp [execClrcnt, h]

@[simp] theorem canon_execSave {s : State} (h : s.Canon) {p : Path} : CanonOut (execSave p s) := by simp [execSave, h]

@[simp] theorem canon_execSyszero {s : State} (h : s.Canon) {p : Path} {route slice : Nat} : CanonOut
    (execSyszero p route slice s) := by
  simp [execSyszero, h]

@[simp] theorem canon_execSysfull {s : State} (h : s.Canon) {p : Path} {route slice : Nat} : CanonOut
    (execSysfull p route slice s) := by
  simp [execSysfull, h]

@[simp] theorem canon_execNow {s : State} (h : s.Canon) {p : Path} {slice : Nat} : CanonOut (execNow p slice s) := by
  simp [execNow, h]

@[simp] theorem canon_execRetest {s : State} (h : s.Canon) {p : Path} {slice : Nat} : CanonOut (execRetest p slice s) := by
  simp [execRetest, h]

@[simp] theorem canon_execReload {s : State} (h : s.Canon) {p : Path} : CanonOut (execReload p s) := by simp [execReload, h]

@[simp] theorem canon_execFactory {s : State} (h : s.Canon) {p : Path} : CanonOut (execFactory p s) := by simp [execFactory, h]

@[simp] theorem canon_execLoopFixedWrite {s : State} (h : s.Canon) {p : Path} {n v : Nat} : CanonOut (execLoopFixedWrite p n v s)
    := by
  simp [execLoopFixedWrite, h]

@[simp] theorem canon_tableWrite {s : State} (h : s.Canon) {p : Path} {sp cur ofs : Nat} {v : Word} :
    (tableWrite p sp cur ofs v s).Canon := by
  have hdropped : (if s.served then disarmBy p (Reg.WIN_DATA 0) (dropKey p s) else s).Canon :=
    canon_ite (canon_disarmBy (canon_dropKey h)) h
  have hwritten : ∀ t : State, t.Canon → (if !t.served then (stBusy, t)
      else if !t.mayWrite p (spaceBlock sp) || t.isFatal then (stDeny, t) else spaceWrite p sp cur ofs v t).2.Canon := by
    intro t ht
    split
    · exact ht
    · split
      · exact ht
      · exact canon_spaceWrite ht
  fun_cases tableWrite p sp cur ofs v s with
  | case1 _ _ t ht =>
    exact canon_hostAnswer (canon_ite (canon_modPath (canon_snd ht (hwritten _ hdropped))) (canon_snd ht (hwritten _ hdropped)))
  | case2 _ _ t ht =>
    exact canon_ite (canon_modPath (canon_snd ht (hwritten _ hdropped))) (canon_snd ht (hwritten _ hdropped))

@[simp] theorem canon_execMessagePost {s : State} (h : s.Canon) {p : Path} {n slot : Nat} : CanonOut (execMessagePost p n slot s)
    := by
  simp [execMessagePost, h]

@[simp] theorem canon_execMessageDrop {s : State} (h : s.Canon) {p : Path} {n slot : Nat} : CanonOut (execMessageDrop p n slot s)
    := by
  simp [execMessageDrop, h]

@[simp] theorem canon_defineNow {s : State} (h : s.Canon) {p : Path} {slot : Nat} {granted : Bool}
    {answers : List (Option (Nat × Nat))} : (defineNow p slot granted answers s).Canon := by
  unfold defineNow
  split <;> simp [h]

@[simp] theorem canon_execDefine {s : State} (h : s.Canon) {p : Path} {slot : Nat} {granted : Bool}
    {answers : List (Option (Nat × Nat))} : CanonOut (execDefine p slot granted answers s) := by
  simp [execDefine, h]

@[simp] theorem canon_execDelete {s : State} (h : s.Canon) {p : Path} {slot : Nat} : CanonOut (execDelete p slot s) := by
  simp [execDelete, h]

@[simp] theorem canon_execArm {s : State} (h : s.Canon) {p : Path} : CanonOut (execArm p s) := by simp [execArm, h]

@[simp] theorem canon_execTrigger {s : State} (h : s.Canon) {p : Path} : CanonOut (execTrigger p s) := by simp [execTrigger, h]

@[simp] theorem canon_execStop {s : State} (h : s.Canon) {p : Path} : CanonOut (execStop p s) := by simp [execStop, h]

@[simp] theorem canon_execXferCtrlWrite {s : State} (h : s.Canon) {p : Path} {v : Nat} : CanonOut (execXferCtrlWrite p v s) := by
  simp [execXferCtrlWrite, h]

@[simp] theorem canon_execPullRead {s : State} (h : s.Canon) {p : Path} : CanonOut (execPullRead p s) := by
  simp [execPullRead, h]

@[simp] theorem canon_mailbox {s : State} (h : s.Canon) {p : Path} {op n addr : Nat} {words : List Nat} :
    (mailbox p op n addr words s).Canon := by
  simp +contextual [mailbox, h]

@[simp] theorem canon_execRead {s : State} (h : s.Canon) {p : Path} {addr n : Nat} : CanonOut (execRead p addr n s) := by
  simp [execRead, h]

@[simp] theorem canon_execWrite {s : State} (h : s.Canon) {p : Path} {addr : Nat} {words : List Nat} : CanonOut
    (execWrite p addr words s) := by
  simp [execWrite, h]

@[simp] theorem canon_execEraseSector {s : State} (h : s.Canon) {p : Path} {addr : Nat} : CanonOut (execEraseSector p addr s) :=
    by
  simp [execEraseSector, h]

@[simp] theorem canon_execNvmAddrWrite {s : State} (h : s.Canon) {p : Path} {v : Nat} : CanonOut (execNvmAddrWrite p v s) := by
  simp [execNvmAddrWrite, h]

@[simp] theorem canon_execNvmDataAccess {s : State} (h : s.Canon) {p : Path} {w : Option Nat} : CanonOut
    (execNvmDataAccess p w s) := by
  unfold execNvmDataAccess
  split <;> simp [h]

@[simp] theorem canon_execNvmKeyWrite {s : State} (h : s.Canon) {p : Path} {v : Nat} : CanonOut (execNvmKeyWrite p v s) := by
  simp [execNvmKeyWrite, h]

@[simp] theorem canon_execProg {s : State} (h : s.Canon) {p : Path} : CanonOut (execProg p s) := by simp [execProg, h]

@[simp] theorem canon_execErase {s : State} (h : s.Canon) {p : Path} : CanonOut (execErase p s) := by simp [execErase, h]

@[simp] theorem canon_execJread {s : State} (h : s.Canon) {p : Path} : CanonOut (execJread p s) := by simp [execJread, h]

@[simp] theorem canon_execJwrite {s : State} (h : s.Canon) {p : Path} {len : Nat} : CanonOut (execJwrite p len s) := by
  simp [execJwrite, h]

@[simp] theorem canon_execLsave {s : State} (h : s.Canon) {p : Path} {arg : Nat} : CanonOut (execLsave p arg s) := by
  simp [execLsave, h]

@[simp] theorem canon_execCinc {s : State} (h : s.Canon) {p : Path} {arg : Nat} : CanonOut (execCinc p arg s) := by
  simp [execCinc, h]

@[simp] theorem canon_execLogSeqRead {s : State} (h : s.Canon) {p : Path} : CanonOut (execLogSeqRead p s) := by
  simp [execLogSeqRead, h]

@[simp] theorem canon_execLogWinLatch {s : State} (h : s.Canon) {p : Path} : CanonOut (execLogWinLatch p s) := by
  simp [execLogWinLatch, h]

@[simp] theorem canon_execLogChalRead {s : State} (h : s.Canon) {p : Path} : CanonOut (execLogChalRead p s) := by
  simp [execLogChalRead, h]

@[simp] theorem canon_execLogClrSubmit {s : State} (h : s.Canon) {p : Path} {token : Nat} : CanonOut (execLogClrSubmit p token s)
    := by
  unfold execLogClrSubmit
  apply canonOut_answerIf
  simp +contextual [h]

@[simp] theorem canon_execClear {s : State} (h : s.Canon) {p : Path} : CanonOut (execClear p s) := by simp [execClear, h]

@[simp] theorem canon_execClearall {s : State} (h : s.Canon) {p : Path} : CanonOut (execClearall p s) := by
  simp [execClearall, h]

@[simp] theorem canon_execKick {s : State} (h : s.Canon) {p : Path} : CanonOut (execKick p s) := by simp [execKick, h]

@[simp] theorem canon_execInjectionArm {s : State} (h : s.Canon) {p : Path} : CanonOut (execInjectionArm p s) := by
  simp [execInjectionArm, h]

@[simp] theorem canon_execFaultInject {s : State} (h : s.Canon) {p : Path} {v : Nat} : CanonOut (execFaultInject p v s) := by
  simp [execFaultInject, h]

@[simp] theorem canon_sendCmt {s : State} (h : s.Canon) {dst op team seq : Nat} {rest : List Byte} :
    (sendCmt dst op team seq rest s).Canon := by
  simp [sendCmt, h]

@[simp] theorem canon_modLead {s : State} (h : s.Canon) {t : Nat} {f : LeadCommit → LeadCommit} : (State.modLead s t f).Canon :=
    by
  simp [State.modLead, h]

@[simp] theorem canon_showCstat {s : State} (h : s.Canon) {t : Nat} : (showCstat t s).Canon := by simp [showCstat, h]

@[simp] theorem canon_endLead {s : State} (h : s.Canon) {t outcome cause missing : Nat} :
    (endLead t outcome cause missing s).Canon := by
  unfold endLead
  refine canon_ite ?_ ?_
  · apply canon_setFlag
    apply canon_showCstat
    assumption
  · apply canon_mkRecord
    apply canon_setFlag
    apply canon_showCstat
    assumption

@[simp] theorem canon_memberAbort {s : State} (h : s.Canon) {leader team seq : Nat} : (memberAbort leader team seq s).Canon := by
  unfold memberAbort
  dsimp only
  split
  · refine canon_ite ?_ ?_
    · assumption
    · refine canon_ite ?_ ?_
      · apply canon_memberOutcome
        apply canon_setFlag
        simp [h]
      · refine canon_ite ?_ ?_
        · simp [h]
        · assumption
  · assumption

@[simp] theorem canon_abortCommit {s : State} (h : s.Canon) {t cause : Nat} : (abortCommit t cause s).Canon := by
  unfold abortCommit
  apply canon_endLead
  refine canon_ite ?_ ?_
  · apply canon_memberAbort
    simp +contextual [h]
  · simp +contextual [h]

@[simp] theorem canon_takeCack {s : State} (h : s.Canon) {t unit : Nat} {late : Bool} : (takeCack t unit late s).Canon := by
  unfold takeCack
  split <;> simp [h]

@[simp] theorem canon_sendCack {s : State} (h : s.Canon) {leader team seq : Nat} {late : Bool} :
    (sendCack leader team seq late s).Canon := by
  unfold sendCack
  refine canon_ite ?_ ?_
  · split
    · simp [h]
    · assumption
  · simp [h]

@[simp] theorem canon_memberCommit {s : State} (h : s.Canon) {leader team seq : Nat} : (memberCommit leader team seq s).Canon :=
    by
  unfold memberCommit
  split
  · assumption
  · refine canon_ite ?_ ?_
    · assumption
    · refine canon_ite ?_ ?_
      · apply canon_sendCack
        apply canon_memberOutcome
        simp [h]
      · refine canon_ite ?_ ?_
        · apply canon_sendCack
          apply canon_modRope
          apply canon_setRegN
          simp [h]
        · simp [h]

@[simp] theorem canon_sendCommit {s : State} (h : s.Canon) {t : Nat} {units : List Nat} : (sendCommit t units s).Canon := by
  unfold sendCommit
  refine canon_ite ?_ ?_
  · apply canon_memberCommit
    simp +contextual [h]
  · simp +contextual [h]

@[simp] theorem canon_decideCommit {s : State} (h : s.Canon) {t : Nat} : (decideCommit t s).Canon := by
  unfold decideCommit
  refine canon_ite ?_ ?_
  · apply canon_sendCommit
    simp [h]
  · simp [h]

@[simp] theorem canon_takeVote {s : State} (h : s.Canon) {t unit : Nat} {yes : Bool} : (takeVote t unit yes s).Canon := by
  unfold takeVote
  refine canon_ite ?_ ?_
  · assumption
  · refine canon_ite ?_ ?_
    · simp [h]
    · refine canon_ite ?_ ?_
      · simp [h]
      · assumption

@[simp] theorem canon_sendVote {s : State} (h : s.Canon) {leader team seq : Nat} {yes : Bool} {reason : Nat} :
    (sendVote leader team seq yes reason s).Canon := by
  unfold sendVote
  refine canon_ite ?_ ?_
  · split
    · simp [h]
    · assumption
  · simp [h]

@[simp] theorem canon_refusePrepare {s : State} (h : s.Canon) {m : MemberCommit} {reason : Nat} :
    (refusePrepare m reason s).Canon := by
  unfold refusePrepare
  apply canon_sendVote
  refine canon_ite ?_ ?_
  · simp [h]
  · simp [h]

@[simp] theorem canon_prepareNow {s : State} (h : s.Canon) {m : MemberCommit} : (prepareNow m s).Canon := by
  unfold prepareNow
  refine canon_ite ?_ ?_
  · simp [h]
  · refine canon_ite ?_ ?_
    · simp [h]
    · refine canon_ite ?_ ?_
      · simp [h]
      · refine canon_ite ?_ ?_
        · simp [h]
        · simp [h]

@[simp] theorem canon_takePrepare {s : State} (h : s.Canon) {m : MemberCommit} : (takePrepare m s).Canon := by
  simp [takePrepare, h]

@[simp] theorem canon_drainPrepares {s : State} (h : s.Canon) : (drainPrepares s).Canon := by
  simp +contextual [drainPrepares, h]

@[simp] theorem canon_endTeamCheck {s : State} (h : s.Canon) {p : Path} : (endTeamCheck p s).Canon := by
  unfold endTeamCheck
  dsimp only
  split
  · assumption
  · split
    · apply canon_refusePrepare
      apply canon_rejectCheck
      assumption
    · apply canon_sendVote
      apply canon_modRope
      apply canon_setRegN
      simp [h]

@[simp] theorem canon_checkListEnd {s : State} (h : s.Canon) : (checkListEnd s).Canon := by
  unfold checkListEnd
  split
  · assumption
  · apply canon_drainPrepares
    simp [h]

@[simp] theorem canon_execCheckListEnd {s : State} (h : s.Canon) : CanonOut (execCheckListEnd s) := by
  simp [execCheckListEnd, h]

@[simp] theorem canon_hopSpan {s : State} (h : s.Canon) {units : List Nat} : (hopSpan units s).2.Canon := by
  unfold hopSpan
  split <;> simp [h]

@[simp] theorem canon_beginCommit {s : State} (h : s.Canon) {t angle : Nat} : (beginCommit t angle s).Canon := by
  have hspan : (hopSpan (bitsOf (s.teamUnits t)) s).2.Canon := canon_hopSpan h
  have hshown : ∀ {u : State} {l : LeadCommit} {v : Nat}, u.Canon →
      (showCstat t ((u.modLead t (fun _ => l)).setFld .ROPE_CSTAT_TEAM v)).Canon :=
    fun hu => canon_showCstat (canon_setFld (canon_modLead hu))
  fun_cases beginCommit t angle s with
  | case1 _ _ _ _ _ hs => exact canon_endLead (canon_setFld (canon_modLead (canon_snd hs hspan)))
  | case2 _ _ _ _ _ hs =>
    exact canon_decideCommit (canon_forList (hshown (canon_snd hs hspan)) fun _ _ hu => canon_sendCmt hu)
  | case3 _ _ _ _ _ hs =>
    exact canon_takePrepare (canon_forList (hshown (canon_snd hs hspan)) fun _ _ hu => canon_sendCmt hu)
  | case4 _ _ _ _ _ hs => exact canon_forList (hshown (canon_snd hs hspan)) fun _ _ hu => canon_sendCmt hu

@[simp] theorem canon_cmtWrite {s : State} (h : s.Canon) {t : Nat} {v : Word} : (cmtWrite t v s).2.Canon := by
  unfold cmtWrite
  split
  · split
    · assumption
    · split
      · assumption
      · simp [h]
  · split
    · simp [h]
    · assumption
  · assumption

@[simp] theorem canon_cmtAccess {s : State} (h : s.Canon) {p : Path} {t : Nat} {v : Word} : (cmtAccess p t v s).2.Canon := by
  unfold cmtAccess
  split
  · dsimp only
    split
    · simp [h]
    · apply canon_executed
      apply canon_cmtWrite
      simp [h]
  · dsimp only
    split
    · assumption
    · simp [h]

@[simp] theorem canon_cmtCommand {s : State} (h : s.Canon) {p : Path} {team : Nat} {v : Word} : (cmtCommand p team v s).Canon :=
    by
  unfold cmtCommand
  split
  · simp [h]
  · refine canon_ite ?_ ?_
    · apply canon_hostAnswer
      split
      · refine canon_ite ?_ ?_
        · simp [h]
        · assumption
      · apply canon_executed
        apply canon_cmtWrite
        refine canon_ite ?_ ?_
        · simp [h]
        · assumption
    · split
      · refine canon_ite ?_ ?_
        · simp [h]
        · assumption
      · apply canon_executed
        apply canon_cmtWrite
        refine canon_ite ?_ ?_
        · simp [h]
        · assumption

@[simp] theorem canon_execTeamCommit {s : State} (h : s.Canon) {p : Path} {team ang4 : Nat} : CanonOut
    (execTeamCommit p team ang4 s) := by
  simp [execTeamCommit, h]

@[simp] theorem canon_execCancel {s : State} (h : s.Canon) {p : Path} {team : Nat} : CanonOut (execCancel p team s) := by
  simp [execCancel, h]

@[simp] theorem canon_execPrepare {s : State} (h : s.Canon) {src team seq a pass vtmo : Nat} : CanonOut
    (execPrepare src team seq a pass vtmo s) := by
  unfold execPrepare
  apply canonOut_answerIf
  simp [h]

@[simp] theorem canon_voteIn {s : State} (h : s.Canon) {src team seq : Nat} {yes : Bool} : (voteIn src team seq yes s).Canon := by
  unfold voteIn
  dsimp only
  split
  · apply canon_drainPrepares
    simp [h]
  · simp [h]

@[simp] theorem canon_execVote {s : State} (h : s.Canon) {src team seq : Nat} {yes : Bool} {reason : Nat} : CanonOut
    (execVote src team seq yes reason s) := by
  simp [execVote, h]

@[simp] theorem canon_execVoteTimeout {s : State} (h : s.Canon) {slot : Nat} : CanonOut (execVoteTimeout slot s) := by
  unfold execVoteTimeout
  apply canonOut_answerIf
  refine canon_ite ?_ ?_
  · simp [h]
  · assumption

@[simp] theorem canon_execCommitResend {s : State} (h : s.Canon) {slot : Nat} : CanonOut (execCommitResend slot s) := by
  unfold execCommitResend
  split <;> simp [h]

@[simp] theorem canon_teamOutcome {s : State} (h : s.Canon) {t : Nat} : (teamOutcome t s).Canon := by simp [teamOutcome, h]

@[simp] theorem canon_execTeamOutcome {s : State} (h : s.Canon) {slot : Nat} : CanonOut (execTeamOutcome slot s) := by
  simp [execTeamOutcome, h]

@[simp] theorem canon_execTeamCommitReceive {s : State} (h : s.Canon) {src team seq : Nat} : CanonOut
    (execTeamCommitReceive src team seq s) := by
  unfold execTeamCommitReceive
  apply canonOut_answerIf
  simp [h]

@[simp] theorem canon_execAbort {s : State} (h : s.Canon) {src team seq : Nat} : CanonOut (execAbort src team seq s) := by
  unfold execAbort
  apply canonOut_answerIf
  apply canon_drainPrepares
  simp [h]

@[simp] theorem canon_cackIn {s : State} (h : s.Canon) {src team seq : Nat} {late : Bool} : (cackIn src team seq late s).Canon :=
    by
  unfold cackIn
  dsimp only
  split
  · simp [h]
  · simp [h]

@[simp] theorem canon_execCack {s : State} (h : s.Canon) {src team seq : Nat} {late : Bool} : CanonOut
    (execCack src team seq late s) := by
  simp [execCack, h]

@[simp] theorem canon_prepareTimeout {s : State} (h : s.Canon) : (prepareTimeout s).Canon := by
  unfold prepareTimeout
  split
  · refine canon_ite ?_ ?_
    · apply canon_mkRecord
      apply canon_memberOutcome
      simp [h]
    · assumption
  · assumption

@[simp] theorem canon_execPrepareTimeout {s : State} (h : s.Canon) : CanonOut (execPrepareTimeout s) := by
  simp [execPrepareTimeout, h]

@[simp] theorem canon_nextTag {s : State} (h : s.Canon) : (nextTag s).2.Canon := by simp [nextTag, h]

@[simp] theorem canon_answerRemote {s : State} (h : s.Canon) {tag st : Nat} {d : Word} : (answerRemote tag st d s).Canon := by
  unfold answerRemote
  split <;> simp [h]

@[simp] theorem canon_wakeUnit {s : State} (h : s.Canon) : (wakeUnit s).Canon := by simp [wakeUnit, h]

@[simp] theorem canon_endTeamWrite {s : State} (h : s.Canon) {w : TeamWrite} : (endTeamWrite w s).Canon := by
  unfold endTeamWrite
  refine canon_ite ?_ ?_
  · apply canon_modRope
    simp [h]
  · simp [h]

@[simp] theorem canon_fanOut {typ : Nat} {body : Nat → List Byte} {u : Nat} {acc : List (Nat × Nat) × Nat × State} (h : acc.2.2.Canon) :
    (fanOut typ body u acc).2.2.Canon := by
  obtain ⟨wait, bits, s⟩ := acc
  have hsent := fun f => canon_sendFrame (canon_nextTag h) (f := f)
  exact canon_ite_snd_snd (hsent _) (hsent _)

@[simp] theorem canon_beginTeamWrite {s : State} (h : s.Canon) {t src tag data typ : Nat} {body : Nat → List Byte}
    {own : State → Nat × State} (hown : ∀ u, u.Canon → (own u).2.Canon) {last : Bool} :
    (beginTeamWrite t src tag data typ body own last s).Canon := by
  have hfan : ∀ (l : List Nat) (acc : List (Nat × Nat) × Nat × State), acc.2.2.Canon →
      (l.foldl (fun acc u => fanOut typ body u acc) acc).2.2.Canon := by
    intro l
    induction l with
    | nil => exact fun _ hacc => hacc
    | cons u l ih => exact fun _ hacc => ih _ (canon_fanOut hacc)
  have hmade : ∀ (c : Prop) [Decidable c] (u : State), u.Canon → (if c then own u else (0, u)).2.Canon := by
    intro c _ u hu
    split
    · exact hown u hu
    · exact hu
  fun_cases beginTeamWrite t src tag data typ body own last s with
  | case1 _ _ _ _ ha _ _ hb => exact canon_endTeamWrite (canon_snd hb (hmade _ _ (canon_snd_snd ha (hfan _ _ h))))
  | case2 _ _ _ _ ha _ _ hb => exact canon_modRope (canon_snd hb (hmade _ _ (canon_snd_snd ha (hfan _ _ h))))

@[simp] theorem canon_teamRegWrite {s : State} (h : s.Canon) {p : Path} {t src tag addr data : Nat} :
    (teamRegWrite p t src tag addr data s).Canon := by
  unfold teamRegWrite
  refine canon_ite ?_ ?_
  · simp [h]
  · refine canon_ite ?_ ?_
    · simp [h]
    · refine canon_ite ?_ ?_
      · simp [h]
      · simp +contextual [h]

theorem canon_takeTeamRsp {s : State} (h : s.Canon) {src tag status : Nat} : ∀ t, takeTeamRsp src tag status s = some t → t.Canon
    := by
  intro t ht
  unfold takeTeamRsp at ht
  split at ht
  · exact absurd ht (by simp)
  · dsimp only at ht
    split at ht
    · exact Option.some.inj ht ▸ canon_endTeamWrite (canon_modRope h)
    · exact Option.some.inj ht ▸ canon_modRope h

@[simp] theorem canon_teamWriteTimeout {s : State} (h : s.Canon) : (teamWriteTimeout s).Canon := by
  unfold teamWriteTimeout
  split <;> simp [h]

@[simp] theorem canon_execTeamWriteTimeout {s : State} (h : s.Canon) : CanonOut (execTeamWriteTimeout s) := by
  simp [execTeamWriteTimeout, h]

@[simp] theorem canon_ropeRead {s : State} (h : s.Canon) {src dst tag addr : Nat} : (ropeRead src dst tag addr s).Canon := by
  unfold ropeRead
  refine canon_ite ?_ ?_
  · simp [h]
  · apply canon_sendRsp
    split
    · simp [h]
    · simp [h]

@[simp] theorem canon_execRd {s : State} (h : s.Canon) {src dst tag addr : Nat} : CanonOut (execRd src dst tag addr s) := by
  simp [execRd, h]

@[simp] theorem canon_ropeWrite {s : State} (h : s.Canon) {src dst tag addr data : Nat} :
    (ropeWrite src dst tag addr data s).Canon := by
  unfold ropeWrite
  refine canon_ite ?_ ?_
  · simp [h]
  · split
    · simp [h]
    · refine canon_ite ?_ ?_
      · split
        · refine canon_ite ?_ ?_
          · apply canon_disarmBy
            simp [h]
          · simp [h]
        · apply canon_executed
          apply canon_writeReg
          refine canon_ite ?_ ?_
          · apply canon_disarmBy
            simp [h]
          · simp [h]
      · apply canon_sendRsp
        split
        · refine canon_ite ?_ ?_
          · apply canon_disarmBy
            simp [h]
          · simp [h]
        · apply canon_executed
          apply canon_writeReg
          refine canon_ite ?_ ?_
          · apply canon_disarmBy
            simp [h]
          · simp [h]

@[simp] theorem canon_execWr {s : State} (h : s.Canon) {src dst tag addr data : Nat} : CanonOut (execWr src dst tag addr data s)
    := by
  simp [execWr, h]

@[simp] theorem canon_ropeRsp {s : State} (h : s.Canon) {src tag status data : Nat} : (ropeRsp src tag status data s).Canon := by
  fun_cases ropeRsp src tag status data s with
  | case1 t _ ht => exact canon_takeTeamRsp (canon_takeInbox h) _ ht
  | case2 => exact canon_answerRemote (canon_takeInbox h)

@[simp] theorem canon_execRsp {s : State} (h : s.Canon) {src tag status data : Nat} : CanonOut (execRsp src tag status data s) :=
    by
  simp [execRsp, h]

@[simp] theorem canon_powerRsp {s : State} (h : s.Canon) {src tag st : Nat} : (powerRsp src tag st s).Canon := by
  simp [powerRsp, h]

@[simp] theorem canon_teamPower {s : State} (h : s.Canon) {t src tag typ : Nat} {body : Nat → List Byte} {own : State → Nat × State}
    (hown : ∀ u, u.Canon → (own u).2.Canon) {last : Bool} : (teamPower t src tag typ body own last s).Canon :=
  canon_ite (canon_endTeamWrite (canon_freeDraw h)) (canon_ite (canon_endTeamWrite (canon_freeDraw h))
    (canon_beginTeamWrite (canon_freeDraw h) hown))

@[simp] theorem canon_ropeReset {s : State} (h : s.Canon) {src dst key tag : Nat} : (ropeReset src dst key tag s).Canon := by
  unfold ropeReset
  refine canon_ite ?_ ?_
  · simp [h]
  · split
    · simp [h]
    · refine canon_ite ?_ ?_
      · apply canon_modRope
        simp [h]
      · simp [h]

@[simp] theorem canon_execRst {s : State} (h : s.Canon) {src dst key tag : Nat} : CanonOut (execRst src dst key tag s) := by
  simp [execRst, h]

@[simp] theorem canon_ropeWake {s : State} (h : s.Canon) {src dst tag : Nat} : (ropeWake src dst tag s).Canon := by
  unfold ropeWake
  refine canon_ite ?_ ?_
  · simp [h]
  · split
    · apply canon_teamPower
      · simp [h]
      · simp +contextual
    · refine canon_ite ?_ ?_
      · apply canon_wakeUnit
        simp [h]
      · simp [h]

@[simp] theorem canon_execWake {s : State} (h : s.Canon) {src dst tag : Nat} : CanonOut (execWake src dst tag s) := by
  simp [execWake, h]

@[simp] theorem canon_defineImageTeam {s : State} (h : s.Canon) {ws : List Word} : (defineImageTeam ws s).Canon := by
  unfold defineImageTeam
  apply canon_beginDefine
  apply canon_foldl
  · assumption
  · simp +contextual

@[simp] theorem canon_enumFinish {s : State} (h : s.Canon) : (enumFinish s).Canon := by
  unfold enumFinish
  apply canon_forList
  · apply canon_modRope
    apply canon_forEach
    · simp [h]
    · simp +contextual
  · simp +contextual

@[simp] theorem canon_execFinish {s : State} (h : s.Canon) : CanonOut (execFinish s) := by simp [execFinish, h]

@[simp] theorem canon_maskIn {s : State} (h : s.Canon) {id : Nat} : (maskIn id s).Canon := by simp [maskIn, h]

@[simp] theorem canon_teamRegister {s : State} (h : s.Canon) {id leader uid : Nat} : (teamRegister id leader uid s).Canon := by
  unfold teamRegister
  refine canon_ite ?_ ?_
  · simp [h]
  · refine canon_ite ?_ ?_
    · apply canon_sendTeam
      apply canon_maskIn
      simp [h]
    · simp [h]

@[simp] theorem canon_execTeamRegister {s : State} (h : s.Canon) {id leader uid : Nat} : CanonOut
    (execTeamRegister id leader uid s) := by
  simp [execTeamRegister, h]

@[simp] theorem canon_deregister {s : State} (h : s.Canon) {id leader : Nat} : (deregister id leader s).Canon := by
  unfold deregister
  refine canon_ite ?_ ?_
  · simp [h]
  · refine canon_ite ?_ ?_
    · simp [h]
    · simp [h]

@[simp] theorem canon_execDeregister {s : State} (h : s.Canon) {id leader : Nat} : CanonOut (execDeregister id leader s) := by
  simp [execDeregister, h]

@[simp] theorem canon_expand {s : State} (h : s.Canon) {src team : Nat} : (expand src team s).Canon := by
  unfold expand
  dsimp only
  split
  · simp [h]
  · simp [h]

@[simp] theorem canon_execExpand {s : State} (h : s.Canon) {src team : Nat} : CanonOut (execExpand src team s) := by
  simp [execExpand, h]

@[simp] theorem canon_execJoin {s : State} (h : s.Canon) {src team : Nat} : CanonOut (execJoin src team s) := by
  unfold execJoin
  apply canonOut_answerIf
  apply canon_sendTeam
  simp [h]

@[simp] theorem canon_execLeave {s : State} (h : s.Canon) {src team : Nat} : CanonOut (execLeave src team s) := by
  unfold execLeave
  apply canonOut_answerIf
  simp [h]

@[simp] theorem canon_judgeCycle {s : State} (h : s.Canon) {t : Nat} : (judgeCycle t s).Canon := by
  unfold judgeCycle
  refine canon_ite ?_ ?_
  · apply canon_mkRecord
    simp [h]
  · assumption

@[simp] theorem canon_unitSummary {s : State} (h : s.Canon) {t e addr : Nat} {m : Summary} : (unitSummary t e addr m s).Canon :=
    by
  unfold unitSummary
  refine canon_ite ?_ ?_
  · refine canon_ite ?_ ?_
    · assumption
    · simp [h]
  · apply canon_modRope
    apply canon_setTeamRun
    refine canon_ite ?_ ?_
    · apply canon_setMemberUid
      apply canon_setMemberState
      simp [h]
    · assumption

@[simp] theorem canon_nestedSummary {s : State} (h : s.Canon) {t e : Nat} {m : Summary} : (nestedSummary t e m s).Canon := by
  unfold nestedSummary
  assumption

@[simp] theorem canon_takeSummary {s : State} (h : s.Canon) {t e : Nat} {m : Summary} : (takeSummary t e m s).Canon := by
  unfold takeSummary
  split
  · assumption
  · refine canon_ite ?_ ?_
    · assumption
    · apply canon_showAggregate
      apply canon_judgeCycle
      simp [h]

@[simp] theorem canon_execSummary {s : State} (h : s.Canon) {slot entry : Nat} {m : Summary} : CanonOut
    (execSummary slot entry m s) := by
  unfold execSummary
  apply canonOut_answerIf
  simp [h]

@[simp] theorem canon_teamPoll {s : State} (h : s.Canon) {t : Nat} : (teamPoll t s).Canon := by
  unfold teamPoll
  refine canon_ite ?_ ?_
  · assumption
  · apply canon_forList
    · assumption
    · simp +contextual

@[simp] theorem canon_execTeamPoll {s : State} (h : s.Canon) {slot : Nat} : CanonOut (execTeamPoll slot s) := by
  simp [execTeamPoll, h]

@[simp] theorem canon_memberTimeout {s : State} (h : s.Canon) {t e : Nat} : (memberTimeout t e s).Canon := by
  unfold memberTimeout
  split <;> simp [h]

@[simp] theorem canon_execTeamMemberTimeout {s : State} (h : s.Canon) {slot entry : Nat} : CanonOut
    (execTeamMemberTimeout slot entry s) := by
  simp [execTeamMemberTimeout, h]

@[simp] theorem canon_servePoll {s : State} (h : s.Canon) : (servePoll s).Canon := by
  unfold servePoll
  split
  · refine canon_ite ?_ ?_
    · apply canon_answerPoll
      refine canon_ite ?_ ?_
      · assumption
      · assumption
    · assumption
  · assumption

@[simp] theorem canon_execFrameReceive {s : State} (h : s.Canon) {port : Port} {bytes : List Byte} {violation : Bool} : CanonOut
    (execFrameReceive port bytes violation s) := by
  simp [execFrameReceive, h]

@[simp] theorem canon_resetAfterRsp {s : State} {t : State} (hs : s.Canon) (ht : t.Canon) {p : Port} :
    (resetAfterRsp p s t).Canon := by
  unfold resetAfterRsp
  split
  · refine canon_ite ?_ ?_
    · simp [ht]
    · assumption
  · assumption

@[simp] theorem canon_execFrameTransmitEnd {s : State} (h : s.Canon) {port : Port} : CanonOut (execFrameTransmitEnd port s) := by
  simp [execFrameTransmitEnd, h]

@[simp] theorem canon_streamIn {s : State} (h : s.Canon) {src : Nat} {bytes : List Byte} : (streamIn src bytes s).Canon := by
  unfold streamIn
  split <;> simp [h]

@[simp] theorem canon_execData {s : State} (h : s.Canon) {src : Nat} {bytes : List Byte} : CanonOut (execData src bytes s) := by
  simp [execData, h]

end Sys2Proof.Machine
end

section
/-! Host port, boot and maintenance: what they keep of the canonical form of the memories. -/

namespace Sys2Proof.Machine

-- One proof after another: in parallel these many proofs wait for one another on more threads than the check's memory holds.
set_option Elab.async false

@[simp] theorem canon_modHost {s : State} (h : s.Canon) {f : HostPort → HostPort} : (modHost f s).Canon := by simp [modHost, h]

@[simp] theorem canon_shiftAnswer {s : State} (h : s.Canon) : (shiftAnswer s).Canon := by simp [shiftAnswer, h]

@[simp] theorem canon_shiftOnes {s : State} (h : s.Canon) : (shiftOnes s).Canon := by simp [shiftOnes, h]

@[simp] theorem canon_setBurst {s : State} (h : s.Canon) {b : Option (Bool × Nat × Nat)} : (setBurst b s).Canon := by
  simp [setBurst, h]

@[simp] theorem canon_remoteBegun {s : State} (h : s.Canon) {w : Bool} {v : Word} : (remoteBegun w v s).Canon := by
  unfold remoteBegun
  (repeat' split) <;> simp [h]

@[simp] theorem canon_sendRemote {s : State} (h : s.Canon) {w : Bool} {unit a tag : Nat} {v : Word} :
    (sendRemote w unit a tag v s).Canon := by
  unfold sendRemote
  dsimp only
  (repeat' split) <;> simp +contextual [h]

@[simp] theorem canon_remoteFrame {s : State} (h : s.Canon) {w : Bool} {unit a : Nat} {v : Word} :
    (remoteFrame w unit a v s).Canon := by
  unfold remoteFrame
  refine canon_ite ?_ ?_
  · assumption
  · apply canon_remoteBegun
    split
    · refine canon_ite ?_ ?_
      · apply canon_teamRegWrite
        assumption
      · apply canon_answerRemote
        assumption
    · apply canon_sendRemote
      assumption

@[simp] theorem canon_broadcastFrame {s : State} (h : s.Canon) {a : Nat} {v : Word} : (broadcastFrame a v s).Canon := by
  unfold broadcastFrame
  apply canon_hostAnswer
  split
  · refine canon_ite ?_ ?_
    · apply canon_disarmBy
      apply canon_dropKey
      simp [h]
    · simp [h]
  · apply canon_executed
    apply canon_writeReg
    refine canon_ite ?_ ?_
    · apply canon_disarmBy
      apply canon_dropKey
      simp [h]
    · simp [h]

@[simp] theorem canon_localAccess {s : State} (h : s.Canon) {w : Bool} {a : Nat} {v : Word} : (localAccess w a v s).2.Canon := by
  unfold localAccess
  split <;> simp [h]

@[simp] theorem canon_localFrame {s : State} (h : s.Canon) {w : Bool} {unit a : Nat} {inc : Bool} {v : Word} :
    (localFrame w unit a inc v s).Canon := by
  unfold localFrame
  dsimp only
  (repeat' split) <;> simp +contextual [h]

@[simp] theorem canon_farFrame {s : State} (h : s.Canon) {w : Bool} {unit a : Nat} {v : Word} : (farFrame w unit a v s).Canon :=
    by
  unfold farFrame
  refine canon_ite ?_ ?_
  · assumption
  · refine canon_ite ?_ ?_
    · refine canon_ite ?_ ?_
      · simp [h]
      · assumption
    · simp [h]

@[simp] theorem canon_busyFrame {s : State} (h : s.Canon) {w : Bool} {f : HostFrame} : (busyFrame w f s).Canon := by
  simp [busyFrame, h]

@[simp] theorem canon_runFrame {s : State} (h : s.Canon) {w : Bool} {f : HostFrame} : (runFrame w f s).Canon := by
  unfold runFrame
  refine canon_ite ?_ ?_
  · assumption
  · refine canon_ite ?_ ?_
    · assumption
    · refine canon_ite ?_ ?_
      · apply canon_hostAnswer
        simp [h]
      · simp [h]

@[simp] theorem canon_runNop {s : State} (h : s.Canon) : (runNop s).Canon := by
  fun_cases runNop s with
  | case1 | case4 | case3 => exact canon_hostAnswer (canon_setBurst h)
  | case2 => exact canon_hostAnswer (canon_modHost (canon_setBurst h))

@[simp] theorem canon_hostFrame {s : State} (h : s.Canon) {w : Bool} {f : HostFrame} : (hostFrame w f s).Canon := by
  unfold hostFrame
  refine canon_ite ?_ ?_
  · assumption
  · refine canon_ite ?_ ?_
    · assumption
    · refine canon_ite ?_ ?_
      · assumption
      · refine canon_ite ?_ ?_
        · simp [h]
        · simp [h]

@[simp] theorem canon_execHostReadFrame {s : State} (h : s.Canon) {f : HostFrame} : CanonOut (execHostReadFrame f s) := by
  simp [execHostReadFrame, h]

@[simp] theorem canon_execHostWriteFrame {s : State} (h : s.Canon) {f : HostFrame} : CanonOut (execHostWriteFrame f s) := by
  simp [execHostWriteFrame, h]

@[simp] theorem canon_execHostNopFrame {s : State} (h : s.Canon) {crc : Nat} {gapOk : Bool} : CanonOut
    (execHostNopFrame crc gapOk s) := by
  simp [execHostNopFrame, h]

@[simp] theorem canon_hcsUp {s : State} (h : s.Canon) : (hcsUp s).Canon := by simp [hcsUp, h]

@[simp] theorem canon_execHcsRise {s : State} (h : s.Canon) : CanonOut (execHcsRise s) := by simp [execHcsRise, h]

@[simp] theorem canon_frameAbort {s : State} (h : s.Canon) {edges : Nat} : (frameAbort edges s).Canon := by
  unfold frameAbort
  refine canon_ite ?_ ?_
  · assumption
  · assumption

@[simp] theorem canon_execHostFrameAbort {s : State} (h : s.Canon) {edges : Nat} : CanonOut (execHostFrameAbort edges s) := by
  simp [execHostFrameAbort, h]

@[simp] theorem canon_remoteTimeout {s : State} (h : s.Canon) : (remoteTimeout s).Canon := by
  unfold remoteTimeout
  split <;> simp [h]

@[simp] theorem canon_execRemoteAccessTimeout {s : State} (h : s.Canon) : CanonOut (execRemoteAccessTimeout s) := by
  simp [execRemoteAccessTimeout, h]

@[simp] theorem canon_afterLoad {s : State} (h : s.Canon) {a : Nat} : (afterLoad a s).Canon := by
  unfold afterLoad
  refine canon_ite ?_ ?_
  · simp [h]
  · refine canon_ite ?_ ?_
    · simp [h]
    · refine canon_ite ?_ ?_
      · simp [h]
      · simp [h]

@[simp] theorem canon_loadReg {s : State} (h : s.Canon) {a : Nat} {v : Word} : (loadReg a v s).2.Canon := by
  unfold loadReg
  dsimp only
  split
  · assumption
  · split
    · split
      · assumption
      · simp [h]
    · split
      · assumption
      · simp [h]

@[simp] theorem canon_loadFskq {s : State} (h : s.Canon) {n w : Nat} {v : Word} : (loadFskq n w v s).2.Canon := by
  unfold loadFskq
  split
  · split
    · assumption
    · assumption
  · dsimp only
    split
    · assumption
    · assumption

@[simp] theorem canon_loadTeam {s : State} (h : s.Canon) {cur ofs : Nat} {v : Word} : (loadTeam cur ofs v s).2.Canon := by
  unfold loadTeam
  dsimp only
  split
  · assumption
  · assumption

@[simp] theorem canon_modTab {s : State} (h : s.Canon) {f : Tables → Tables} : (modTab f s).Canon := by simp [modTab, h]

@[simp] theorem canon_loadCoef {s : State} (h : s.Canon) {i ofs : Nat} {v : Word} : (loadCoef i ofs v s).Canon := by
  simp [loadCoef, h]

@[simp] theorem canon_loadChar {s : State} (h : s.Canon) {cur ofs : Nat} {v : Word} : (loadChar cur ofs v s).Canon := by
  simp [loadChar, h]

@[simp] theorem canon_loadWord {s : State} (h : s.Canon) {sp cur ofs : Nat} {v : Word} : (loadWord sp cur ofs v s).2.Canon := by
  unfold loadWord
  split
  · assumption
  · split
    · split
      · assumption
      · assumption
    · split
      · assumption
      · assumption
    · split
      · assumption
      · simp [h]
    · split
      · assumption
      · simp [h]
    · split
      · assumption
      · assumption
    · assumption
    · simp [h]
    · simp [h]
    · assumption

@[simp] theorem canon_noteSkip {s : State} (h : s.Canon) {t : Nat} {skipped : Bool} : (noteSkip t skipped s).Canon := by
  simp [noteSkip, h]

@[simp] theorem canon_loadRegs {s : State} (h : s.Canon) {x0 : List Word} : (loadRegs x0 s).Canon := by
  fun_induction loadRegs x0 s with
  | case1 s a v rest k t hk ih => exact ih (canon_noteSkip (canon_snd hk (canon_loadReg h)))
  | case2 => exact h

@[simp] theorem canon_loadTable {s : State} (h : s.Canon) {sp : Nat} {x1 : List Word} {x2 x3 : Nat} :
    (loadTable sp x1 x2 x3 s).Canon := by
  unfold loadTable
  dsimp only
  split
  · assumption
  · apply canon_loadTable
    simp [h]

@[simp] theorem canon_modBoot {s : State} (h : s.Canon) {f : Boot → Boot} : (modBoot f s).Canon := by simp [modBoot, h]

@[simp] theorem canon_loadIdent {s : State} (h : s.Canon) {v : List Byte} : (loadIdent v s).Canon := by
  unfold loadIdent
  apply canon_forEach
  · assumption
  · intro i t ht
    refine canon_ite ?_ ?_
    · simp +contextual [ht]
    · assumption

@[simp] theorem canon_loadKey {s : State} (h : s.Canon) {v : List Byte} : (loadKey v s).Canon := by
  unfold loadKey
  split
  · simp [h]
  · refine canon_ite ?_ ?_
    · assumption
    · simp [h]
  · assumption

@[simp] theorem canon_loadRole {s : State} (h : s.Canon) {v : List Byte} : (loadRole v s).Canon := by
  unfold loadRole
  refine canon_ite ?_ ?_
  · split
    · split
      · dsimp only
        split
        · split
          · assumption
          · apply canon_afterLoad
            simp [h]
        · split
          · assumption
          · apply canon_afterLoad
            simp [h]
      · dsimp only
        split
        · split
          · assumption
          · apply canon_afterLoad
            simp [h]
        · split
          · assumption
          · apply canon_afterLoad
            simp [h]
    · split
      · dsimp only
        split
        · split
          · assumption
          · apply canon_afterLoad
            simp [h]
        · split
          · assumption
          · apply canon_afterLoad
            simp [h]
      · dsimp only
        split
        · split
          · assumption
          · apply canon_afterLoad
            simp [h]
        · split
          · assumption
          · apply canon_afterLoad
            simp [h]
  · apply canon_modRope
    split
    · split
      · dsimp only
        split
        · split
          · assumption
          · apply canon_afterLoad
            simp [h]
        · split
          · assumption
          · apply canon_afterLoad
            simp [h]
      · dsimp only
        split
        · split
          · assumption
          · apply canon_afterLoad
            simp [h]
        · split
          · assumption
          · apply canon_afterLoad
            simp [h]
    · split
      · dsimp only
        split
        · split
          · assumption
          · apply canon_afterLoad
            simp [h]
        · split
          · assumption
          · apply canon_afterLoad
            simp [h]
      · dsimp only
        split
        · split
          · assumption
          · apply canon_afterLoad
            simp [h]
        · split
          · assumption
          · apply canon_afterLoad
            simp [h]

@[simp] theorem canon_loadLimits {s : State} (h : s.Canon) {v : List Byte} : (loadLimits v s).Canon := by simp [loadLimits, h]

@[simp] theorem canon_applyRecord {s : State} (h : s.Canon) {r : ImgRec} : (applyRecord r s).Canon := by
  unfold applyRecord
  split <;> simp [h]

@[simp] theorem canon_setPhaseNo {s : State} (h : s.Canon) {n : Nat} : (setPhaseNo n s).Canon := by simp [setPhaseNo, h]

@[simp] theorem canon_firstBudget {s : State} (h : s.Canon) {bands : Nat} : (firstBudget bands s).Canon := by
  unfold firstBudget
  apply canon_recompute
  apply canon_setFld
  apply canon_recompute
  simp +contextual [h]

@[simp] theorem canon_sampleStraps {s : State} (h : s.Canon) {almsel test : Bool} : (sampleStraps almsel test s).Canon := by
  unfold sampleStraps
  refine State.Canon.update ?_
  refine canon_ite ?_ ?_
  · apply canon_setFlag
    simp [h]
  · simp [h]

@[simp] theorem canon_bootOscillator {s : State} (h : s.Canon) {almsel test : Bool} {bands : Nat} :
    (bootOscillator almsel test bands s).Canon := by
  unfold bootOscillator
  refine canon_ite ?_ ?_
  · assumption
  · apply canon_driveFaultPins
    apply canon_updateLoops
    apply canon_setPhaseNo
    apply canon_firstBudget
    apply canon_setFlag
    apply canon_setFlag
    simp [h]

@[simp] theorem canon_execBootOscillator {s : State} (h : s.Canon) {almsel test : Bool} {bands : Nat} : CanonOut
    (execBootOscillator almsel test bands s) := by
  simp [execBootOscillator, h]

@[simp] theorem canon_setMemory {s : State} (h : s.Canon) {kind size clock page mode dummy : Nat} {addr4 safe : Bool} :
    (setMemory kind size clock page mode dummy addr4 safe s).Canon := by
  unfold setMemory
  apply canon_clkWrite
  refine canon_modXfer ?_
  apply canon_setReg32
  apply canon_setFlag
  apply canon_setFlag
  simp [h]

@[simp] theorem canon_safeMemory {s : State} (h : s.Canon) {kind : Nat} : (safeMemory kind s).Canon := by simp [safeMemory, h]

@[simp] theorem canon_discover {s : State} (h : s.Canon) {sfdp : Option Sfdp} : (discover sfdp s).Canon := by
  unfold discover
  split
  · refine canon_ite ?_ ?_
    · simp [h]
    · simp [h]
  · split
    · simp [h]
    · simp [h]

@[simp] theorem canon_chooseSlot {s : State} (h : s.Canon) : (chooseSlot s).Canon := by simp [chooseSlot, h]

@[simp] theorem canon_bootHeaders {s : State} (h : s.Canon) {answers : Bool} {sfdp : Option Sfdp} :
    (bootHeaders answers sfdp s).Canon := by
  unfold bootHeaders
  refine canon_ite ?_ ?_
  · assumption
  · refine canon_ite ?_ ?_
    · apply canon_chooseSlot
      apply canon_discover
      simp [h]
    · simp [h]

@[simp] theorem canon_execBootHeaders {s : State} (h : s.Canon) {answers : Bool} {sfdp : Option Sfdp} : CanonOut
    (execBootHeaders answers sfdp s) := by
  simp [execBootHeaders, h]

@[simp] theorem canon_joinPhases {s : State} (h : s.Canon) : (joinPhases s).Canon := by simp [joinPhases, h]

@[simp] theorem canon_noteFail {s : State} (h : s.Canon) {k : Nat} {ok : Bool} : (noteFail k ok s).Canon := by
  simp [noteFail, h]

@[simp] theorem canon_setResult {s : State} (h : s.Canon) {r : Nat} : (setResult r s).Canon := by simp [setResult, h]

@[simp] theorem canon_useSlot {s : State} (h : s.Canon) {k : Nat} : (useSlot k s).Canon := by
  unfold useSlot
  apply canon_setReg32
  apply canon_setRegN
  simp [h]

@[simp] theorem canon_tryCandidate {s : State} (h : s.Canon) {c : Nat} : (tryCandidate c s).Canon := by
  unfold tryCandidate
  refine canon_ite ?_ ?_
  · simp [h]
  · refine canon_ite ?_ ?_
    · refine canon_ite ?_ ?_
      · apply canon_mkRecord
        apply canon_useSlot
        apply canon_setFlag
        simp [h]
      · apply canon_setResult
        simp [h]
    · simp [h]

@[simp] theorem canon_tryTie {s : State} (h : s.Canon) : (tryTie s).Canon := by
  unfold tryTie
  refine canon_ite ?_ ?_
  · apply canon_useSlot
    refine canon_ite ?_ ?_
    · apply canon_mkRecord
      apply canon_setFlag
      simp [h]
    · simp [h]
  · refine canon_ite ?_ ?_
    · apply canon_useSlot
      refine canon_ite ?_ ?_
      · apply canon_mkRecord
        apply canon_setFlag
        simp [h]
      · simp [h]
    · apply canon_setResult
      refine canon_ite ?_ ?_
      · apply canon_mkRecord
        apply canon_setFlag
        simp [h]
      · simp [h]

@[simp] theorem canon_bootImageCheck {s : State} (h : s.Canon) : (bootImageCheck s).Canon := by
  unfold bootImageCheck
  refine canon_ite ?_ ?_
  · assumption
  · apply canon_joinPhases
    refine canon_ite ?_ ?_
    · simp [h]
    · refine canon_ite ?_ ?_
      · simp [h]
      · split
        · simp [h]
        · simp [h]

@[simp] theorem canon_execBootImageCheck {s : State} (h : s.Canon) : CanonOut (execBootImageCheck s) := by
  simp [execBootImageCheck, h]

@[simp] theorem canon_noteTie {s : State} (h : s.Canon) {item : Nat} : (noteTie item s).Canon := by
  unfold noteTie
  split
  · refine canon_ite ?_ ?_
    · simp [h]
    · assumption
  · assumption

@[simp] theorem canon_queueRepairs {s : State} (h : s.Canon) {item : Nat} : (queueRepairs item s).Canon := by
  unfold queueRepairs
  split
  · assumption
  · apply canon_forEach
    · assumption
    · simp +contextual

@[simp] theorem canon_queueChain {s : State} (h : s.Canon) {c : Nat} : (queueChain c s).Canon := by
  unfold queueChain
  refine canon_ite ?_ ?_
  · apply canon_addJob
    simp +contextual [h]
  · simp +contextual [h]

@[simp] theorem canon_scanJournal {s : State} (h : s.Canon) : (scanJournal s).Canon := by
  unfold scanJournal
  apply canon_forEach
  · apply canon_forList
    · simp +contextual [h]
    · simp +contextual
  · simp +contextual

@[simp] theorem canon_settleLoose {s : State} (h : s.Canon) : (settleLoose s).Canon := by
  refine canon_forList h fun e t ht => ?_
  have hdrawn := canon_freeDraw ht
  exact canon_setStore hdrawn (canonical_writeAt _ _ _ _ hdrawn.store)

@[simp] theorem canon_scanErrors {s : State} (h : s.Canon) : (scanErrors s).Canon := by
  refine canon_forList h fun e t ht => ?_
  split
  · exact canon_report ht
  · exact ht

@[simp] theorem canon_settleCounter {s : State} (h : s.Canon) {n : Nat} : (settleCounter n s).Canon := by
  fun_cases settleCounter n s with
  | case1 => exact h
  | case2 _ e _ _ _ _ hfree =>
    have hdrawn := canon_snd hfree (canon_freeChoice h)
    exact canon_countUp (canon_setReg32 (canon_setStore hdrawn (canonical_writeAt _ _ _ _ hdrawn.store)))
  | case3 _ _ _ _ _ hfree => exact canon_snd hfree (canon_freeChoice h)

@[simp] theorem canon_scanCounters {s : State} (h : s.Canon) : (scanCounters s).Canon := by
  unfold scanCounters
  apply canon_forList
  · apply canon_forEach
    · assumption
    · simp +contextual
  · simp +contextual

@[simp] theorem canon_resumeClear {s : State} (h : s.Canon) {slot : Nat} : (resumeClear slot s).Canon := by
  unfold resumeClear
  apply canon_addJob
  apply canon_setFld
  simp [h]

@[simp] theorem canon_placeWrite {s : State} (h : s.Canon) {from_ : Nat} : (placeWrite from_ s).Canon := by
  unfold placeWrite
  refine canon_ite ?_ ?_
  · refine canon_ite ?_ ?_
    · simp [h]
    · refine canon_ite ?_ ?_
      · simp [h]
      · simp [h]
  · apply canon_addJob
    refine canon_ite ?_ ?_
    · simp [h]
    · refine canon_ite ?_ ?_
      · simp [h]
      · simp [h]

@[simp] theorem canon_scanLog {s : State} (h : s.Canon) : (scanLog s).Canon := by
  have hplaced : ∀ n q : Nat, ({ placeWrite n s with log := { (placeWrite n s).log with nextSeq := q } }).Canon :=
    fun _ _ => State.Canon.update (canon_placeWrite h)
  unfold scanLog
  generalize 65536 = wrap
  dsimp only
  split
  · split
    · exact canon_ite (canon_resumeClear (canon_setRegN (hplaced _ _))) (canon_setRegN (hplaced _ _))
    · exact canon_setFlag (canon_setRegN (hplaced _ _))
  · exact hplaced _ _

@[simp] theorem canon_bootScan {s : State} (h : s.Canon) : (bootScan s).Canon := by
  unfold bootScan
  refine canon_ite ?_ ?_
  · assumption
  · apply canon_joinPhases
    apply canon_modBoot
    apply canon_scanLog
    apply canon_scanCounters
    apply canon_scanJournal
    simp [h]

@[simp] theorem canon_execBootScan {s : State} (h : s.Canon) : CanonOut (execBootScan s) := by simp [execBootScan, h]

@[simp] theorem canon_putBanks {s : State} (h : s.Canon) {k : Nat} {ws : List Word} : (putBanks k ws s).Canon := by
  simp [putBanks, h]

@[simp] theorem canon_factoryCoef {s : State} (h : s.Canon) : (factoryCoef s).Canon := by
  unfold factoryCoef
  apply canon_forEach
  · assumption
  · simp +contextual

@[simp] theorem canon_applyItem {s : State} (h : s.Canon) {item : Nat} {f : List Byte → State → State}
    (hf : ∀ d t, t.Canon → (f d t).Canon) : (applyItem item f s).Canon := by
  unfold applyItem
  split
  · exact canon_setFlag (hf _ _ h)
  · exact h

@[simp] theorem canon_applyTrim {s : State} (h : s.Canon) {n : Nat} {d : List Byte} : (applyTrim n d s).Canon := by
  simp [applyTrim, h]

@[simp] theorem canon_applyIdentity {s : State} (h : s.Canon) {n : Nat} {d : List Byte} : (applyIdentity n d s).Canon := by
  simp +contextual [applyIdentity, h]

@[simp] theorem canon_applyRange {s : State} (h : s.Canon) {n : Nat} {d : List Byte} : (applyRange n d s).Canon := by
  unfold applyRange
  split <;> simp [h]

@[simp] theorem canon_applyCoef {s : State} (h : s.Canon) {i : Nat} {d : List Byte} : (applyCoef i d s).Canon := by
  simp [applyCoef, h]

@[simp] theorem canon_applyJournal {s : State} (h : s.Canon) : (applyJournal s).Canon := by
  unfold applyJournal
  apply canon_forEach
  · apply canon_forEach
    · apply canon_forEach
      · assumption
      · simp +contextual
    · simp +contextual
  · intro i t ht
    refine canon_ite ?_ ?_
    · apply canon_applyItem
      · refine canon_ite ?_ ?_
        · apply canon_applyItem
          · simp +contextual [ht]
          · simp +contextual
        · simp +contextual [ht]
      · simp +contextual
    · refine canon_ite ?_ ?_
      · apply canon_applyItem
        · simp +contextual [ht]
        · simp +contextual
      · simp +contextual [ht]

@[simp] theorem canon_applyImage {s : State} (h : s.Canon) : (applyImage s).Canon := by
  unfold applyImage
  refine canon_ite ?_ ?_
  · assumption
  · refine canon_ite ?_ ?_
    · split
      · apply canon_mkRecord
        simp +contextual [h]
      · simp +contextual [h]
    · apply canon_mkRecord
      split
      · apply canon_mkRecord
        simp +contextual [h]
      · simp +contextual [h]

@[simp] theorem canon_applyBadImage {s : State} (h : s.Canon) : (applyBadImage s).Canon := by
  unfold applyBadImage
  refine canon_ite ?_ ?_
  · assumption
  · apply canon_report
    apply canon_forEach
    · assumption
    · simp +contextual

@[simp] theorem canon_bootRecord {s : State} (h : s.Canon) : (bootRecord s).Canon := by
  unfold bootRecord
  refine canon_ite ?_ ?_
  · simp [h]
  · simp [h]

@[simp] theorem canon_openOutputs {s : State} (h : s.Canon) : (openOutputs s).Canon := by
  unfold openOutputs
  refine canon_ite ?_ ?_
  · apply canon_keepClearOnly
    apply canon_excClearAll
    refine canon_ite ?_ ?_
    · apply canon_keepClearOnly
      apply canon_excClearAll
      assumption
    · assumption
  · refine canon_ite ?_ ?_
    · apply canon_keepClearOnly
      apply canon_excClearAll
      assumption
    · assumption

@[simp] theorem canon_dropUnfitted {s : State} (h : s.Canon) : (dropUnfitted s).Canon := by
  unfold dropUnfitted
  apply canon_forEach
  · assumption
  · intro i t ht
    refine canon_ite ?_ ?_
    · assumption
    · apply canon_modLoop
      simp [ht]

@[simp] theorem canon_bootApply {s : State} (h : s.Canon) : (bootApply s).Canon := by
  unfold bootApply
  refine canon_ite ?_ ?_
  · assumption
  · apply canon_updateLoops
    apply canon_openOutputs
    apply canon_setPhaseNo
    apply canon_forEach
    · apply canon_recompute
      apply canon_dropUnfitted
      apply canon_bootRecord
      apply canon_applyBadImage
      refine canon_ite ?_ ?_
      · apply canon_setFlag
        apply canon_applyJournal
        simp [h]
      · apply canon_setFlag
        apply canon_setFlag
        apply canon_applyJournal
        simp [h]
    · simp +contextual

@[simp] theorem canon_execBootApply {s : State} (h : s.Canon) : CanonOut (execBootApply s) := by simp [execBootApply, h]

@[simp] theorem canon_protectionLock {s : State} (h : s.Canon) : (protectionLock s).Canon := by
  unfold protectionLock
  refine canon_ite ?_ ?_
  · assumption
  · apply canon_updateLoops
    refine canon_ite ?_ ?_
    · apply canon_setPhaseNo
      refine canon_ite ?_ ?_
      · apply canon_report
        apply canon_setFlag
        apply canon_setFlag
        assumption
      · apply canon_setFlag
        apply canon_setFlag
        assumption
    · refine canon_ite ?_ ?_
      · apply canon_report
        apply canon_setFlag
        apply canon_setFlag
        assumption
      · apply canon_setFlag
        apply canon_setFlag
        assumption

@[simp] theorem canon_execProtectionLock {s : State} (h : s.Canon) : CanonOut (execProtectionLock s) := by
  simp [execProtectionLock, h]

@[simp] theorem canon_bootReferenceWait {s : State} (h : s.Canon) : (bootReferenceWait s).Canon := by
  unfold bootReferenceWait
  refine canon_ite ?_ ?_
  · assumption
  · apply canon_modBoot
    simp [h]

@[simp] theorem canon_execBootReferenceWait {s : State} (h : s.Canon) : CanonOut (execBootReferenceWait s) := by
  simp [execBootReferenceWait, h]

@[simp] theorem canon_startRope {s : State} (h : s.Canon) : (startRope s).Canon := by
  unfold startRope
  apply canon_showHopDelay
  refine canon_ite ?_ ?_
  · apply canon_becomeHead
    apply canon_modRope
    refine canon_ite ?_ ?_
    · apply canon_setLink
      apply canon_modPort
      refine canon_ite ?_ ?_
      · simp [h]
      · refine canon_ite ?_ ?_
        · simp [h]
        · assumption
    · refine canon_ite ?_ ?_
      · simp [h]
      · refine canon_ite ?_ ?_
        · simp [h]
        · assumption
  · apply canon_modRope
    refine canon_ite ?_ ?_
    · apply canon_setLink
      apply canon_modPort
      refine canon_ite ?_ ?_
      · simp [h]
      · refine canon_ite ?_ ?_
        · simp [h]
        · assumption
    · refine canon_ite ?_ ?_
      · simp [h]
      · refine canon_ite ?_ ?_
        · simp [h]
        · assumption

@[simp] theorem canon_firstLeases {s : State} (h : s.Canon) : (firstLeases s).Canon := by
  unfold firstLeases
  refine canon_ite ?_ ?_
  · apply canon_requestLease
    refine State.Canon.update ?_
    refine canon_ite ?_ ?_
    · apply canon_requestLease
      simp [h]
    · refine canon_ite ?_ ?_
      · apply canon_requestLease
        simp [h]
      · simp [h]
  · refine canon_ite ?_ ?_
    · apply canon_requestLease
      simp [h]
    · refine canon_ite ?_ ?_
      · apply canon_requestLease
        simp [h]
      · simp [h]

@[simp] theorem canon_startEngines {s : State} (h : s.Canon) : (startEngines s).Canon := by
  unfold startEngines
  apply canon_showCharFb
  apply canon_showEngines
  apply canon_forEach
  · simp +contextual [h]
  · simp +contextual

@[simp] theorem canon_startSequencer {s : State} (h : s.Canon) : (startSequencer s).Canon := by
  unfold startSequencer
  refine canon_ite ?_ ?_
  · apply canon_enableEntries
    apply canon_oweSetl
    apply canon_showRunning
    simp [h]
  · apply canon_showRunning
    simp [h]

@[simp] theorem canon_settleStart {s : State} (h : s.Canon) : (settleStart s).Canon := by
  unfold settleStart
  refine canon_ite ?_ ?_
  · apply canon_enterBivouac
    refine canon_ite ?_ ?_
    · apply canon_bivreqEffect
      refine canon_ite ?_ ?_
      · simp [h]
      · simp [h]
    · refine canon_ite ?_ ?_
      · simp [h]
      · simp [h]
  · refine canon_ite ?_ ?_
    · apply canon_bivreqEffect
      refine canon_ite ?_ ?_
      · simp [h]
      · simp [h]
    · refine canon_ite ?_ ?_
      · simp [h]
      · simp [h]

@[simp] theorem canon_enterActive {s : State} (h : s.Canon) {crystalStable : Bool} : (enterActive crystalStable s).Canon := by
  unfold enterActive
  refine canon_ite ?_ ?_
  · assumption
  · apply canon_driveFaultPins
    apply canon_updateLoops
    apply canon_settleStart
    refine State.Canon.update ?_
    apply canon_allDue
    apply canon_startRope
    apply canon_firstLeases
    apply canon_forEach
    · apply canon_startSequencer
      apply canon_startSync
      apply canon_startAtZero
      apply canon_startEngines
      refine canon_ite ?_ ?_
      · refine State.Canon.update ?_
        simp [h]
      · apply canon_report
        refine State.Canon.update ?_
        simp [h]
    · simp +contextual

@[simp] theorem canon_execEnterActive {s : State} (h : s.Canon) {crystalStable : Bool} : CanonOut
    (execEnterActive crystalStable s) := by
  simp [execEnterActive, h]

@[simp] theorem canon_maintRead {s : State} (h : s.Canon) {p : Path} {x1 x2 : Nat} : (maintRead p x1 x2 s).2.2.Canon := by
  fun_induction maintRead p x1 x2 s with
  | case1 => exact h
  | case2 _ _ _ _ _ hr => exact canon_snd hr (canon_accessRead h)
  | case3 _ _ _ _ _ hr _ _ _ _ hrest ih =>
    exact canon_snd_snd hrest (ih (canon_snd hr (canon_accessRead h)))

@[simp] theorem canon_maintWrite {s : State} (h : s.Canon) {p : Path} {x1 : List Word} {x2 : Nat} :
    (maintWrite p x1 x2 s).2.2.Canon := by
  have hwrite : ∀ (w : Word) (a : Nat) (t : State), t.Canon →
      (if t.isFatal then (stDeny, t) else accessWrite p a w t).2.Canon := by
    intro w a t ht
    split
    · exact ht
    · exact canon_accessWrite ht
  fun_induction maintWrite p x1 x2 s with
  | case1 => exact h
  | case2 _ _ _ _ _ _ hr => exact canon_snd hr (hwrite _ _ _ h)
  | case3 _ _ _ _ _ _ hr _ _ _ _ hrest ih =>
    exact canon_snd_snd hrest (ih (canon_snd hr (hwrite _ _ _ h)))

@[simp] theorem canon_maintRun {s : State} (h : s.Canon) {n cmd : Nat} {req : List Byte} : (maintRun n cmd req s).2.2.Canon := by
  unfold maintRun
  split
  · split
    · dsimp only
      split
      · assumption
      · split
        · assumption
        · simp [h]
    · dsimp only
      split
      · assumption
      · split
        · assumption
        · simp [h]
  · split
    · dsimp only
      split
      · assumption
      · split
        · assumption
        · simp [h]
    · dsimp only
      split
      · assumption
      · split
        · assumption
        · simp [h]

@[simp] theorem canon_fskAnswer {s : State} (h : s.Canon) {n : Nat} {f : FskFrame} {code : Nat} {data : List Byte} :
    (fskAnswer n f code data s).Canon := by
  simp [fskAnswer, h]

@[simp] theorem canon_storeMessage {s : State} (h : s.Canon) {n k : Nat} {f : FskFrame} : (storeMessage n k f s).Canon := by
  unfold storeMessage
  apply canon_showQueue
  apply canon_setFlag
  apply canon_modFsk
  apply canon_foldl
  · apply canon_setFskW
    apply canon_setFskW
    apply canon_foldl
    · assumption
    · simp +contextual
  · simp +contextual

@[simp] theorem canon_queueMessage {s : State} (h : s.Canon) {n : Nat} {f : FskFrame} : (queueMessage n f s).Canon := by
  unfold queueMessage
  split <;> simp [h]

@[simp] theorem canon_fskTake {s : State} (h : s.Canon) {n : Nat} {f : FskFrame} : (fskTake n f s).Canon := by
  fun_cases fskTake n f s with
  | case1 _ _ _ _ hr => exact canon_fskAnswer (canon_setFlag (canon_snd_snd hr (canon_maintRun h)))
  | case2 => exact canon_queueMessage h

@[simp] theorem canon_fskReceive {s : State} (h : s.Canon) {n : Nat} {f : FskFrame} : (fskReceive n f s).Canon := by
  unfold fskReceive
  refine canon_ite ?_ ?_
  · assumption
  · refine canon_ite ?_ ?_
    · simp [h]
    · refine canon_ite ?_ ?_
      · assumption
      · refine canon_ite ?_ ?_
        · simp [h]
        · simp [h]

@[simp] theorem canon_execFskFrameReceive {s : State} (h : s.Canon) {n : Nat} {f : FskFrame} : CanonOut
    (execFskFrameReceive n f s) := by
  simp [execFskFrameReceive, h]

@[simp] theorem canon_execReadWords {s : State} (h : s.Canon) {n : Nat} {long master : Bool} {req : List Byte} : CanonOut
    (execReadWords n long master req s) := by
  simp [execReadWords, h]

@[simp] theorem canon_execWriteWords {s : State} (h : s.Canon) {n : Nat} {long master : Bool} {req : List Byte} : CanonOut
    (execWriteWords n long master req s) := by
  simp [execWriteWords, h]

@[simp] theorem canon_withFetchWord {s : State} (h : s.Canon) {nbits w : Nat} : (State.withFetchWord s nbits w).Canon := by
  unfold State.withFetchWord
  split <;> simp [h]

end Sys2Proof.Machine
end

section
/-! Every step keeps the canonical form of the memories. -/

namespace Sys2Proof.Machine

theorem canonOut_exec {s : State} (h : s.Canon) (c : Instr) : CanonOut (exec c s) := by
  cases c <;> simp [exec, h]

/-- Settles O59: a step idles or runs the front command, and every command's meaning keeps the canonical form. -/
theorem memoriesStayCanonical : Obligations.MemoriesStayCanonical := by
  intro s t hwf hstep
  have h : s.Canon := hwf
  unfold step at hstep
  split at hstep
  · exact Host.Outcome.next.inj hstep ▸ h
  · exact canonOut_exec h.update _ t hstep

end Sys2Proof.Machine
end

section
/-! Rules that the proofs about single commands share: a state that differs from another in its registers only. -/

namespace Sys2Proof.Machine

/-- What the next state of an outcome shows, or the default where there is none. -/
def nextView {α : Type} (d : α) (f : State → α) : Host.Outcome State Fault Refusal → α
  | .next t => f t
  | _ => d

/-- Only the register map may differ. -/
def OnlyRegs (s t : State) : Prop := ∃ r, t = { s with regs := r }

theorem OnlyRegs.refl (s : State) : OnlyRegs s s := ⟨_, rfl⟩

theorem OnlyRegs.trans {s t u : State} (h : OnlyRegs s t) (k : OnlyRegs t u) : OnlyRegs s u := by
  obtain ⟨r, rfl⟩ := h
  obtain ⟨q, rfl⟩ := k
  exact ⟨q, rfl⟩

theorem OnlyRegs.eq {s t : State} (h : OnlyRegs s t) : t = { s with regs := t.regs } := by
  obtain ⟨r, rfl⟩ := h
  rfl

theorem OnlyRegs.of_eq {s t : State} (h : t = { s with regs := t.regs }) : OnlyRegs s t := ⟨_, h⟩

theorem OnlyRegs.setReg {s t : State} (h : OnlyRegs s t) (a : Nat) (w : Word) : OnlyRegs s (t.setReg a w) := h.trans ⟨_, rfl⟩
theorem OnlyRegs.setFld {s t : State} (h : OnlyRegs s t) (f : Fld) (v : Nat) : OnlyRegs s (t.setFld f v) := h.trans ⟨_, rfl⟩
theorem OnlyRegs.setFlag {s t : State} (h : OnlyRegs s t) (f : Fld) (b : Bool) : OnlyRegs s (t.setFlag f b) :=
  h.trans ⟨_, rfl⟩
theorem OnlyRegs.setRegN {s t : State} (h : OnlyRegs s t) (a v : Nat) : OnlyRegs s (t.setRegN a v) := h.trans ⟨_, rfl⟩
theorem OnlyRegs.setReg32 {s t : State} (h : OnlyRegs s t) (a v : Nat) : OnlyRegs s (t.setReg32 a v) := h.trans ⟨_, rfl⟩

theorem OnlyRegs.driveFaultPins {s t : State} (h : OnlyRegs s t) : OnlyRegs s (Machine.driveFaultPins t) := h.setFlag _ _

theorem OnlyRegs.updateLoop {s t : State} (h : OnlyRegs s t) (n : Nat) : OnlyRegs s (Machine.updateLoop n t) :=
  h.trans (.of_eq (updateLoop_rest n t))

theorem OnlyRegs.updateLoops {s t : State} (h : OnlyRegs s t) : OnlyRegs s (Machine.updateLoops t) :=
  h.trans (.of_eq (updateLoops_rest t))

theorem OnlyRegs.forEach {s t : State} {n : Nat} {f : Nat → State → State} (h : OnlyRegs s t)
    (hf : ∀ i u, OnlyRegs u (f i u)) : OnlyRegs s (Machine.forEach n f t) :=
  forEach_keeps (OnlyRegs s) f n t h fun i u _ hu => hu.trans (hf i u)

theorem OnlyRegs.forList {α : Type} {s t : State} {l : List α} {f : α → State → State} (h : OnlyRegs s t)
    (hf : ∀ x u, OnlyRegs u (f x u)) : OnlyRegs s (Machine.forList l f t) :=
  forList_keeps (OnlyRegs s) f l t h fun x u _ hu => hu.trans (hf x u)

theorem OnlyRegs.memKept {s t : State} (h : OnlyRegs s t) : MemKept s t := by
  obtain ⟨r, rfl⟩ := h
  exact .of_eq rfl rfl rfl

theorem OnlyRegs.setFldBit {s t : State} (h : OnlyRegs s t) (f : Fld) (n : Nat) (b : Bool) : OnlyRegs s (t.setFldBit f n b) :=
  h.trans ⟨_, rfl⟩

theorem FieldsKept.setFldBit {fs : List Fld} {s t : State} {f : Fld} {n : Nat} {b : Bool} (h : FieldsKept fs s t)
    (hf : wholeReg f.addr ∈ fs) : FieldsKept fs s (t.setFldBit f n b) := FieldsKept.setReg (a := f.addr) h hf

/-! ### What a record changes -/

/-- Only the registers, the flash queue, the transfer engine and the log may differ. -/
def OnlyRecord (s t : State) : Prop := ∃ r n x l, t = { s with regs := r, nvm := n, xfer := x, log := l }

theorem OnlyRecord.refl (s : State) : OnlyRecord s s := ⟨_, _, _, _, rfl⟩

theorem OnlyRecord.trans {s t u : State} (h : OnlyRecord s t) (k : OnlyRecord t u) : OnlyRecord s u := by
  obtain ⟨r, n, x, l, rfl⟩ := h
  obtain ⟨r', n', x', l', rfl⟩ := k
  exact ⟨r', n', x', l', rfl⟩

theorem OnlyRecord.eq {s t : State} (h : OnlyRecord s t) :
    t = { s with regs := t.regs, nvm := t.nvm, xfer := t.xfer, log := t.log } := by
  obtain ⟨r, n, x, l, rfl⟩ := h
  rfl

theorem OnlyRegs.record {s t : State} (h : OnlyRegs s t) : OnlyRecord s t := by
  obtain ⟨r, rfl⟩ := h
  exact ⟨_, _, _, _, rfl⟩

theorem onlyRecord_setJobs (s : State) (js : List Job) : OnlyRecord s (setJobs s js) := ⟨_, _, _, _, rfl⟩

theorem onlyRecord_addJob (s : State) (j : Job) : OnlyRecord s (addJob s j) := by
  unfold addJob
  split
  · exact .refl s
  · exact onlyRecord_setJobs s _

theorem onlyRecord_addJobHead (s : State) (j : Job) : OnlyRecord s (addJobHead s j) := by
  unfold addJobHead
  split
  · split <;> exact onlyRecord_setJobs s _
  · exact onlyRecord_setJobs s _

theorem onlyRecord_countUp (n : Nat) (s : State) : OnlyRecord s (countUp n s) :=
  ((OnlyRegs.refl s).setReg32 _ _).record.trans (onlyRecord_addJob _ _)

theorem onlyRecord_bindCounters (code : Nat) (s : State) : OnlyRecord s (bindCounters code s) :=
  forEach_keeps (OnlyRecord s) _ 4 s (.refl s) fun k t _ ht => by
    dsimp only
    split
    · exact ht.trans (onlyRecord_countUp _ t)
    · exact ht

theorem onlyRecord_capTrigger (cause : Nat) (s : State) : OnlyRecord s (capTrigger cause s) := by
  unfold capTrigger
  dsimp only
  split
  · exact ⟨_, _, _, _, rfl⟩
  · split
    · exact .refl s
    · exact ⟨_, _, _, _, rfl⟩

theorem onlyRecord_queueRecord (r : Rec) (s : State) : OnlyRecord s (queueRecord r s) := by
  unfold queueRecord
  dsimp only
  split
  · exact .refl s
  · split
    · exact onlyRecord_addJobHead s _
    · split
      · exact onlyRecord_setJobs s _
      · exact ⟨_, _, _, _, rfl⟩

theorem onlyRecord_takeToken (code : Nat) (s : State) : OnlyRecord s (takeToken code s).2 := by
  unfold takeToken
  dsimp only
  split
  · exact .refl s
  · split <;> exact ⟨_, _, _, _, rfl⟩

theorem onlyRecord_mkRecord (code cls : Nat) (ps : List Nat) (s : State) : OnlyRecord s (mkRecord code cls ps s) := by
  have hbound := onlyRecord_bindCounters code s
  unfold mkRecord
  dsimp only
  generalize bindCounters code s = t at hbound
  have htrigger : OnlyRecord s
      (if t.fld .XFER_CAP_SRC = 1 && t.fld .XFER_CAP_PARAM = code then capTrigger 1 t else t) := by
    split
    · exact hbound.trans (onlyRecord_capTrigger 1 t)
    · exact hbound
  generalize (if t.fld .XFER_CAP_SRC = 1 && t.fld .XFER_CAP_PARAM = code then capTrigger 1 t else t) = u at htrigger
  split
  · exact htrigger.trans (onlyRecord_queueRecord _ u)
  · split
    · exact (htrigger.trans (onlyRecord_takeToken code u)).trans (onlyRecord_queueRecord _ _)
    · exact htrigger.trans (onlyRecord_takeToken code u)

/-! ### What a report changes -/

/-- Only what a record and the collector change may differ. -/
def OnlyReport (s t : State) : Prop := ∃ r n x l f, t = { s with regs := r, nvm := n, xfer := x, log := l, flt := f }

theorem OnlyReport.refl (s : State) : OnlyReport s s := ⟨_, _, _, _, _, rfl⟩

theorem OnlyReport.trans {s t u : State} (h : OnlyReport s t) (k : OnlyReport t u) : OnlyReport s u := by
  obtain ⟨r, n, x, l, f, rfl⟩ := h
  obtain ⟨r', n', x', l', f', rfl⟩ := k
  exact ⟨r', n', x', l', f', rfl⟩

theorem OnlyReport.eq {s t : State} (h : OnlyReport s t) :
    t = { s with regs := t.regs, nvm := t.nvm, xfer := t.xfer, log := t.log, flt := t.flt } := by
  obtain ⟨r, n, x, l, f, rfl⟩ := h
  rfl

theorem OnlyRecord.report {s t : State} (h : OnlyRecord s t) : OnlyReport s t := by
  obtain ⟨r, n, x, l, rfl⟩ := h
  exact ⟨_, _, _, _, _, rfl⟩

/-- A report that does not begin the fatal state changes nothing else. -/
theorem onlyReport_acceptReport {cls src param p2 p3 : Nat} {inj : Bool} (h : cls ≠ clsF) (s : State) :
    OnlyReport s (acceptReport cls src param p2 p3 inj s) := by
  by_cases hw : Watches src s
  · have hlatched : OnlyReport s (latched cls src param inj s) := ⟨_, _, _, _, _, latched_rest cls src param inj s⟩
    have hnoted : OnlyReport s (noted cls src param p2 p3 inj s) := by
      unfold noted
      split
      · exact hlatched
      · exact hlatched.trans (onlyRecord_mkRecord _ _ _ _).report
    have hcont : (decide (cls = clsF) && !s.isFatal) = false := by simp [h]
    rw [acceptReport_of_watches hw, hcont]
    exact hnoted.trans ((OnlyRegs.refl _).driveFaultPins.record.report)
  · rw [acceptReport_of_not_watches hw]
    exact .refl s

/-- A report of a source that is not fatal. -/
theorem onlyReport_report {src param : Nat} (h : belayClass src param ≠ clsF) (p2 p3 : Nat) (s : State) :
    OnlyReport s (report src param p2 p3 s) := onlyReport_acceptReport h s

theorem regsKept_report {src param p2 p3 : Nat} {s : State} (h : belayClass src param ≠ clsF) (hsrc : src < 64) :
    RegsKept reportBlocks [] s (report src param p2 p3 s) := by
  by_cases hw : Watches src s
  · have hkept := blocksKept_acceptReport (param := param) (p2 := p2) (p3 := p3) (inj := false) hw hsrc
      (.inl h)
    exact fun a i ha _ => by rw [report, hkept a ha]
  · rw [report, acceptReport_of_not_watches hw]
    exact .refl s

end Sys2Proof.Machine
end

section
/-! Proofs about the power arbiter: the bands of the loops and their voltage estimates (R28, R54, R67). -/

namespace Sys2Proof.Machine

/-! ### Bands and estimates -/

theorem setVt_rest (n v : Nat) (s : State) :
    setVt n v s = { s with regs := (setVt n v s).regs, pwr := { s.pwr with vt := s.pwr.vt.set n v } } := rfl

theorem FieldsKept.setVt {fs : List Fld} {s t : State} {n v : Nat} (h : FieldsKept fs s t) (hf : .PWR_VT_VT ∈ fs) :
    FieldsKept fs s (Machine.setVt n v t) :=
  (h.trans (.of_regs rfl)).setFld hf (by decide)

/-- The estimate of the loop that LSEL selects is shown (R67). -/
theorem fld_VT_setVt {n v : Nat} {s : State} (hn : n < 6) (hl : n < s.pwr.vt.length) (hsel : s.fld .PWR_VT_LSEL = n)
    (hv : v < 8192) : (setVt n v s).fld .PWR_VT_VT = v := by
  have h : (setVt n v s).fld .PWR_VT_VT =
      (if s.fld .PWR_VT_LSEL < 6 then nth 0 (s.pwr.vt.set n v) (s.fld .PWR_VT_LSEL) else 0) % 8192 :=
    fld_setFld_same _ .PWR_VT_VT _ (by decide)
  rw [h, hsel, if_pos hn]
  simp [nth, hl, Nat.mod_eq_of_lt hv]

theorem bandFld_apart_VT (n : Nat) : Fld.apart .PWR_VT_VT (bandFld n) = true := rfl

theorem fld_LSEL_setBandFld (n b : Nat) (s : State) : (s.setFld (bandFld n) b).fld .PWR_VT_LSEL = s.fld .PWR_VT_LSEL :=
  fld_setFld_other _ _ _ _ (by simp [bandFld]) rfl

theorem fld_setBandFld {n b : Nat} (hn : n < 6) (hb : b < 4) (s : State) :
    (s.setFld (bandFld n) b).fld (bandFld n) = b := by
  rw [fld_setFld_same _ _ _ (by simp only [bandFld]; omega)]
  exact Nat.mod_eq_of_lt hb

/-- A loop that is not shed moves to a band: the band, its estimate, and the bleed ends in harvest. -/
theorem setBand_of_not_shed {n b : Nat} {s : State} (h : s.fld (bandFld n) ≠ bandShed) :
    setBand n b s = if b = bandHarvest then
        { setVt n (bandVt b) (s.setFld (bandFld n) b) with sys := { s.sys with bleed := false } }
      else setVt n (bandVt b) (s.setFld (bandFld n) b) := by
  simp only [setBand, h, decide_false, Bool.false_and, Bool.false_eq_true, if_false]
  rfl

theorem fieldsKept_setVt_band (n v b : Nat) (s : State) :
    FieldsKept [bandFld n, .PWR_VT_VT] s (setVt n v (s.setFld (bandFld n) b)) :=
  FieldsKept.setVt ((FieldsKept.refl _ s).setFld (by simp) (by simp [bandFld])) (by simp)

theorem fld_band_setVt (n v m : Nat) (s : State) : (setVt n v s).fld (bandFld m) = s.fld (bandFld m) :=
  fld_setFld_other _ _ _ _ (by decide) (bandFld_apart_VT m)

/-- Settles O1: a band moves by `setBand_of_not_shed`, and the estimate follows by `fld_VT_setVt`. -/
theorem loopBandsMove : Obligations.LoopBandsMove := by
  refine ⟨fun n s hn hl hb => ?_, fun n level s hn hl hlev hb => ?_, fun n s hn hl hb => ?_⟩
  · have hmove : leaveHarvest n s = setVt n 200 (s.setFld (bandFld n) bandBypass) := by
      rw [leaveHarvest, if_pos hb, setBand_of_not_shed (by rw [hb]; decide), if_neg (by decide)]
      rfl
    refine ⟨_, answerIf_next.mpr ⟨decide_eq_true hn, hmove⟩, ?_, fun hsel => ?_, fieldsKept_setVt_band n _ _ s, rfl⟩
    · rw [fld_band_setVt, fld_setBandFld hn (by decide)]
    · exact fld_VT_setVt hn hl ((fld_LSEL_setBandFld n _ s).trans hsel) (by decide)
  · have hmove : liftProbe n level s = setVt n (max 200 level) s := by
      rw [liftProbe, if_pos hb, if_neg (by omega)]
    refine ⟨_, answerIf_next.mpr ⟨by simp only [hn, Nat.le_of_lt hlev, decide_true, Bool.and_self], hmove⟩,
      fun hsel => fld_VT_setVt hn hl hsel (by omega), FieldsKept.setVt (.refl _ s) (by simp), rfl⟩
  · have hmove : liftProbe n 780 s =
        { setVt n 780 (s.setFld (bandFld n) bandHarvest) with sys := { s.sys with bleed := false } } := by
      rw [liftProbe, if_pos hb, if_pos le_rfl, setBand_of_not_shed (by rw [hb]; decide), if_pos rfl]
      rfl
    refine ⟨_, answerIf_next.mpr ⟨by simp only [hn, le_refl, decide_true, Bool.and_self], hmove⟩, ?_, fun hsel => ?_,
      (fieldsKept_setVt_band n _ _ s).trans (.of_regs rfl), rfl⟩
    · exact (fld_band_setVt n _ n _).trans (fld_setBandFld hn (by decide) s)
    · exact fld_VT_setVt (v := 780) (s := s.setFld (bandFld n) bandHarvest) hn hl
        ((fld_LSEL_setBandFld n _ s).trans hsel) (by decide)

end Sys2Proof.Machine
end

section
/-! Proofs about the resets (R68 to R70, R89, R107): what a reset reads of the state before it, the registers that it keeps,
and the release of the device. -/

namespace Sys2Proof.Machine

/-! ### Operations cut short -/

/-- Only the on-chip store and the count of free values may differ. -/
def OnlyStore (s t : State) : Prop := ∃ n f, t = { s with nvm := n, free := f }

theorem OnlyStore.refl (s : State) : OnlyStore s s := ⟨_, _, rfl⟩

theorem OnlyStore.trans {s t u : State} (h : OnlyStore s t) (k : OnlyStore t u) : OnlyStore s u := by
  obtain ⟨n, f, rfl⟩ := h
  obtain ⟨m, g, rfl⟩ := k
  exact ⟨m, g, rfl⟩

theorem onlyStore_cutWord (w : Nat) (s : State) : OnlyStore s (cutWord w s) := ⟨_, _, rfl⟩

theorem onlyStore_cutBytes (a : Nat) (new : List Byte) (s : State) : OnlyStore s (cutBytes a new s) := ⟨_, _, rfl⟩

theorem onlyStore_cutProgram (a g : Nat) (bs : List Byte) (s : State) : OnlyStore s (cutProgram a g bs s) := by
  unfold cutProgram
  refine (OnlyStore.trans ?_ (onlyStore_cutBytes _ _ _)).trans
    ((onlyStore_cutWord _ _).trans (onlyStore_cutWord _ _))
  exact ⟨_, _, rfl⟩

theorem onlyStore_cutFlash (s : State) : OnlyStore s (cutFlash s) := by
  have hend : ∀ t : State, OnlyStore s t → OnlyStore s { t with nvm := { t.nvm with op := none } } :=
    fun t ht => ht.trans ⟨_, _, rfl⟩
  unfold cutFlash
  refine hend _ ?_
  split
  · exact .refl s
  · exact OnlyStore.trans (t := (s.freeDraw).2) ⟨_, _, rfl⟩ (onlyStore_cutProgram _ _ _ _)
  · exact OnlyStore.trans ⟨_, _, rfl⟩ (onlyStore_cutBytes _ _ _)
  · exact ⟨_, _, rfl⟩

theorem cutFlash_of_idle {s : State} (h : s.nvm.op = none) : cutFlash s = s := by
  simp only [cutFlash, h]
  rw [← h]

theorem cutXmem_of_idle {s : State} (h : s.xfer.op = none) : cutXmem s = s := by
  simp only [cutXmem, h]

/-- Only the external memory and the count of free values may differ. -/
theorem cutXmem_rest (s : State) : cutXmem s = { s with xfer := (cutXmem s).xfer, free := (cutXmem s).free } := by
  unfold cutXmem
  split
  · rfl
  · split <;> rfl

/-! ### The registers that a reset keeps (R89) -/

/-- The state of R89 before its registers are kept. -/
def resetBase (c : ResetSrc) (old : State) : State :=
  let por := c == .por
  let lost := por || c == .bor
  let pins : Sys := { held := old.sys.held, asserted := old.sys.asserted, xclrLow := old.sys.xclrLow }
  { State.reset with
    now := old.now
    free := old.free
    pending := old.pending
    sys := { pins with
      fatal := if por then none else old.sys.fatal
      vddio := !por && old.sys.vddio
      xosc := !por && old.sys.xosc
      strapDue := old.sys.strapDue || lost
      testDue := old.sys.testDue || por
      bleed := !por && old.sys.bleed
      boot := { cause := c } }
    nvm := { store := old.nvm.store
             ecc := old.nvm.ecc
             errs := old.nvm.errs
             loose := old.nvm.loose
             subBase := if lost then old.now else old.nvm.subBase
             factory := old.nvm.factory
             imgKey := old.nvm.imgKey
             logKey := old.nvm.logKey }
    xfer := { mem := old.xfer.mem }
    log := { lockUntil := if por then 0 else old.log.lockUntil }
    rope := if keepsRope c then keptRope old.rope else {}
    tab := { team := if keepsRope c then old.tab.team else [] }
    loops := if lost then List.replicate 6 {} else heldCodes old }

/-- The counters stay. -/
def keepCounts (old s : State) : State := forEach 16 (fun k t => keepReg old (Reg.CNT 0 + k) t) s

/-- The supply registers stay, and the cause is recorded. -/
def keepCauses (c : ResetSrc) (srcs : List ResetSrc) (old s : State) : State :=
  (keptSupply srcs old s).setReg Reg.SYS_RSTCAUSE (causesAfter c srcs old)

/-- The fatal latch stays, and the first report becomes the last one. -/
def keepFault (old s : State) : State :=
  (keepFld old .FLT_STAT_FATAL s).setReg32 Reg.FLT_LAST
    (if old.reg32 Reg.FLT_FIRST = 0 then old.reg32 Reg.FLT_LAST else old.reg32 Reg.FLT_FIRST)

/-- The straps stay. -/
def keepStraps (c : ResetSrc) (old s : State) : State :=
  let s := keepFld old .SYS_STAT_TESTMODE s
  if c == .bor then s else keepFld old .SYS_STAT_ALMPIN s

/-- The lock of the log stays. -/
def keepLogLock (old s : State) : State :=
  let s := keepFld old .LOG_STAT_LOCK (keepReg old Reg.LOG_CLRST s)
  if s.fld .LOG_CLRST_STATE = 5 then s else s.setFld .LOG_CLRST_STATE 0

/-- The chain address and the running links stay after a software and a rope reset. -/
def keepChain (c : ResetSrc) (old s : State) : State :=
  if keepsRope c then forList ropeFields (keepFld old) s else s

theorem keptRegs_por (srcs : List ResetSrc) (old s : State) :
    keptRegs .por srcs old s = keepCauses .por srcs old (keepCounts old s) := rfl

theorem keptRegs_of_ne_por {c : ResetSrc} (h : c ≠ .por) (srcs : List ResetSrc) (old s : State) :
    keptRegs c srcs old s =
      keepChain c old (keepLogLock old (keepStraps c old (keepFault old (keepCauses c srcs old (keepCounts old s))))) := by
  have hc : (c == .por) = false := beq_eq_false_iff_ne.mpr h
  unfold keptRegs
  simp only [hc, Bool.false_eq_true, if_false]
  rfl

/-- The clear of the notices and the level of the fault pins that end a reset. -/
def settleReset (s : State) : State :=
  driveFaultPins (forEach 6 (fun n t => t.setFlag (.LOOP_STAT_EVT n) false) (updateLoops s))

theorem resetState_eq (c : ResetSrc) (srcs : List ResetSrc) (old : State) :
    resetState c srcs old = settleReset (keptRegs c srcs old (resetBase c old)) := rfl

/-! ### Frames of the kept registers -/

theorem FieldsKept.keepReg {fs : List Fld} {old s t : State} {a : Nat} (h : FieldsKept fs s t) (hf : wholeReg a ∈ fs) :
    FieldsKept fs s (Machine.keepReg old a t) := h.setReg hf

theorem FieldsKept.keepFld {fs : List Fld} {old s t : State} {f : Fld} (h : FieldsKept fs s t) (hf : f ∈ fs)
    (hw : f.width ≤ 16) : FieldsKept fs s (Machine.keepFld old f t) := h.setFld hf hw

theorem keepReg_rest (old : State) (a : Nat) (s : State) : keepReg old a s = { s with regs := (keepReg old a s).regs } := rfl
theorem keepFld_rest (old : State) (f : Fld) (s : State) : keepFld old f s = { s with regs := (keepFld old f s).regs } := rfl

def countWords : List Fld := (List.range 16).map (fun k => wholeReg (Reg.CNT 0 + k))

theorem fieldsKept_keepCounts (old s : State) : FieldsKept countWords s (keepCounts old s) :=
  (FieldsKept.refl _ s).forEach fun k _ hk h =>
    h.keepReg (List.mem_map.mpr ⟨k, List.mem_range.mpr hk, rfl⟩)

theorem reg_keepCounts (old s : State) : ∀ k < 16, (keepCounts old s).reg (Reg.CNT 0 + k) = old.reg (Reg.CNT 0 + k) := by
  refine forEach_establishes (fun k t => t.reg (Reg.CNT 0 + k) = old.reg (Reg.CNT 0 + k)) _ 16 s
    (fun i t _ => reg_setReg_same _ _ _) fun i j t _ _ hne h => ?_
  exact (reg_setReg_other _ _ _ _ (by omega)).trans h

def causeFields : List Fld :=
  [.PWR_STAT_VAUXP, wholeReg Reg.PWR_ESTOV, wholeReg Reg.PWR_LOOPS, wholeReg Reg.SYS_RSTCAUSE]

theorem fieldsKept_keepCauses (c : ResetSrc) (srcs : List ResetSrc) (old s : State) :
    FieldsKept causeFields s (keepCauses c srcs old s) := by
  refine FieldsKept.setReg ?_ (by decide)
  unfold keptSupply
  split
  · exact .refl _ s
  · exact (((FieldsKept.refl _ s).keepReg (by decide)).keepReg (by decide)).keepFld (by decide) (by decide)

theorem reg_RSTCAUSE_keepCauses (c : ResetSrc) (srcs : List ResetSrc) (old s : State) :
    (keepCauses c srcs old s).reg Reg.SYS_RSTCAUSE = causesAfter c srcs old := reg_setReg_same _ _ _

/-- What the always-on domain holds stays through every reset but a POR (R70). -/
theorem reg_supply_keepCauses {srcs : List ResetSrc} (h : srcs.contains .por = false) (c : ResetSrc) (old s : State) :
    (keepCauses c srcs old s).reg Reg.PWR_LOOPS = old.reg Reg.PWR_LOOPS ∧
      (keepCauses c srcs old s).reg Reg.PWR_ESTOV = old.reg Reg.PWR_ESTOV := by
  have hsupply : keptSupply srcs old s =
      keepFld old .PWR_STAT_VAUXP (keepReg old Reg.PWR_ESTOV (keepReg old Reg.PWR_LOOPS s)) := by
    simp only [keptSupply, h, Bool.false_eq_true, if_false]
  unfold keepCauses
  rw [hsupply]
  constructor
  · rw [reg_setReg_other _ _ _ _ (by decide), keepFld, reg_setFld_other _ _ _ _ (by decide), keepReg,
      reg_setReg_other _ _ _ _ (by decide), keepReg, reg_setReg_same]
  · rw [reg_setReg_other _ _ _ _ (by decide), keepFld, reg_setFld_other _ _ _ _ (by decide), keepReg, reg_setReg_same]

def faultFields : List Fld := [.FLT_STAT_FATAL, wholeReg Reg.FLT_LAST, wholeReg (Reg.FLT_LAST + 1)]

theorem fieldsKept_keepFault (old s : State) : FieldsKept faultFields s (keepFault old s) :=
  ((FieldsKept.refl _ s).keepFld (by decide) (by decide)).setReg32 (by decide) (by decide)

theorem fld_keepFld (old s : State) (f : Fld) (h : f.lo + f.width ≤ 16) : (keepFld old f s).fld f = old.fld f := by
  rw [keepFld, fld_setFld_same _ _ _ h, Nat.mod_eq_of_lt (fld_lt old f)]

theorem isFatal_keepFault (old s : State) : (keepFault old s).isFatal = old.isFatal := by
  have h : (keepFault old s).fld .FLT_STAT_FATAL = (keepFld old .FLT_STAT_FATAL s).fld .FLT_STAT_FATAL :=
    FieldsKept.fld (fs := [wholeReg Reg.FLT_LAST, wholeReg (Reg.FLT_LAST + 1)])
      (FieldsKept.setReg32 (.refl _ _) (by decide) (by decide)) (by decide)
  simp only [State.isFatal, State.flag, h, fld_keepFld old s .FLT_STAT_FATAL (by decide)]

theorem reg32_LAST_keepFault (old s : State) : (keepFault old s).reg32 Reg.FLT_LAST =
    (if old.reg32 Reg.FLT_FIRST = 0 then old.reg32 Reg.FLT_LAST else old.reg32 Reg.FLT_FIRST) := by
  unfold keepFault
  rw [reg32_setReg32]
  exact Nat.mod_eq_of_lt (by split <;> exact reg32_lt _ _)

def strapFields : List Fld := [.SYS_STAT_TESTMODE, .SYS_STAT_ALMPIN]

theorem fieldsKept_keepStraps (c : ResetSrc) (old s : State) : FieldsKept strapFields s (keepStraps c old s) := by
  unfold keepStraps
  dsimp only
  split
  · exact (FieldsKept.refl _ s).keepFld (by decide) (by decide)
  · exact ((FieldsKept.refl _ s).keepFld (by decide) (by decide)).keepFld (by decide) (by decide)

theorem testMode_keepStraps (c : ResetSrc) (old s : State) : (keepStraps c old s).testMode = old.testMode := by
  have h : (keepStraps c old s).fld .SYS_STAT_TESTMODE = old.fld .SYS_STAT_TESTMODE := by
    unfold keepStraps
    dsimp only
    split
    · exact fld_keepFld old s _ (by decide)
    · exact (fld_setFld_other _ _ _ _ (by decide) (by decide)).trans (fld_keepFld old s _ (by decide))
  simp only [State.testMode, State.flag, h]

theorem fld_ALMPIN_keepStraps {c : ResetSrc} (h : c ≠ .bor) (old s : State) :
    (keepStraps c old s).fld .SYS_STAT_ALMPIN = old.fld .SYS_STAT_ALMPIN := by
  have hc : (c == .bor) = false := beq_eq_false_iff_ne.mpr h
  simp only [keepStraps, hc, Bool.false_eq_true, if_false]
  exact fld_keepFld old _ _ (by decide)

def lockFields : List Fld := [.LOG_STAT_LOCK, wholeReg Reg.LOG_CLRST, .LOG_CLRST_STATE]

theorem fieldsKept_keepLogLock (old s : State) : FieldsKept lockFields s (keepLogLock old s) := by
  have h : FieldsKept lockFields s (keepFld old .LOG_STAT_LOCK (keepReg old Reg.LOG_CLRST s)) :=
    ((FieldsKept.refl _ s).keepReg (by decide)).keepFld (by decide) (by decide)
  unfold keepLogLock
  dsimp only
  split
  · exact h
  · exact h.setFld (by decide) (by decide)

theorem fieldsKept_keepChain (c : ResetSrc) (old s : State) : FieldsKept ropeFields s (keepChain c old s) := by
  have hw : ∀ f ∈ ropeFields, f.width ≤ 16 := by decide
  unfold keepChain
  split
  · exact (FieldsKept.refl _ s).forList fun f _ hf h => h.keepFld hf (hw f hf)
  · exact .refl _ s

/-- Every field that a reset other than a POR keeps. -/
def keptFields : List Fld := countWords ++ causeFields ++ faultFields ++ strapFields ++ lockFields ++ ropeFields

theorem fieldsKept_keptRegs (c : ResetSrc) (srcs : List ResetSrc) (old s : State) :
    FieldsKept keptFields s (keptRegs c srcs old s) := by
  have hcauses : FieldsKept keptFields s (keepCauses c srcs old (keepCounts old s)) :=
    ((fieldsKept_keepCounts old s).mono (by decide)).trans ((fieldsKept_keepCauses c srcs old _).mono (by decide))
  by_cases hc : c = .por
  · subst hc
    exact hcauses
  · rw [keptRegs_of_ne_por hc]
    exact (((hcauses.trans ((fieldsKept_keepFault old _).mono (by decide))).trans
      ((fieldsKept_keepStraps c old _).mono (by decide))).trans ((fieldsKept_keepLogLock old _).mono (by decide))).trans
      ((fieldsKept_keepChain c old _).mono (by decide))

/-! ### The state after a reset -/

/-- What ends a reset changes registers of the loops and the level of the fault pins. -/
def settleFields : List Fld := (List.range 6).flatMap loopFields ++ [.FLT_STAT_FLTHS]

theorem fieldsKept_settleReset (s : State) : FieldsKept settleFields s (settleReset s) := by
  have hloop : ∀ n < 6, ∀ f ∈ loopFields n, f ∈ settleFields := fun n hn f hf =>
    List.mem_append_left _ (List.mem_flatMap.mpr ⟨n, List.mem_range.mpr hn, hf⟩)
  have hupdate : FieldsKept settleFields s (updateLoops s) :=
    (FieldsKept.refl _ s).forEach fun n t hn h => h.trans ((fieldsKept_updateLoop n t).mono (hloop n hn))
  have hnotices : FieldsKept settleFields s (forEach 6 (fun n t => t.setFlag (.LOOP_STAT_EVT n) false) (updateLoops s)) :=
    hupdate.forEach fun n t hn h => h.setFlag (hloop n hn _ (by simp [loopFields])) (by simp)
  exact hnotices.setFlag (List.mem_append_right _ (by simp)) (by decide)

theorem onlyRegs_settleReset (s : State) : OnlyRegs s (settleReset s) :=
  (((OnlyRegs.refl s).updateLoops).forEach fun _ t => (OnlyRegs.refl t).setFlag _ _).driveFaultPins

theorem onlyRegs_keepCauses (c : ResetSrc) (srcs : List ResetSrc) (old s : State) :
    OnlyRegs s (keepCauses c srcs old s) := by
  unfold keepCauses keptSupply
  split <;> exact ⟨_, rfl⟩

theorem onlyRegs_keepStraps (c : ResetSrc) (old s : State) : OnlyRegs s (keepStraps c old s) := by
  unfold keepStraps
  dsimp only
  split <;> exact ⟨_, rfl⟩

theorem onlyRegs_keepLogLock (old s : State) : OnlyRegs s (keepLogLock old s) := by
  unfold keepLogLock
  dsimp only
  split <;> exact ⟨_, rfl⟩

theorem onlyRegs_keepChain (c : ResetSrc) (old s : State) : OnlyRegs s (keepChain c old s) := by
  unfold keepChain
  split
  · exact (OnlyRegs.refl s).forList fun _ _ => ⟨_, rfl⟩
  · exact .refl s

theorem onlyRegs_keptRegs (c : ResetSrc) (srcs : List ResetSrc) (old s : State) :
    OnlyRegs s (keptRegs c srcs old s) := by
  have hcauses : OnlyRegs s (keepCauses c srcs old (keepCounts old s)) :=
    ((OnlyRegs.refl s).forEach fun _ _ => ⟨_, rfl⟩).trans (onlyRegs_keepCauses _ _ _ _)
  by_cases hc : c = .por
  · subst hc
    exact hcauses
  · rw [keptRegs_of_ne_por hc]
    exact (((hcauses.trans ⟨_, rfl⟩).trans (onlyRegs_keepStraps c old _)).trans (onlyRegs_keepLogLock old _)).trans
      (onlyRegs_keepChain c old _)

/-- Beside its registers the state after a reset is its base. -/
theorem resetState_rest (c : ResetSrc) (srcs : List ResetSrc) (old : State) :
    resetState c srcs old = { resetBase c old with regs := (resetState c srcs old).regs } := by
  rw [resetState_eq]
  exact ((onlyRegs_keptRegs c srcs old _).trans (onlyRegs_settleReset _)).eq

theorem fieldsKept_resetState (c : ResetSrc) (srcs : List ResetSrc) (old : State) :
    FieldsKept (keptFields ++ settleFields) (resetBase c old) (resetState c srcs old) :=
  ((fieldsKept_keptRegs c srcs old _).mono fun _ => List.mem_append_left _).trans
    ((fieldsKept_settleReset _).mono fun _ => List.mem_append_right _)

theorem reg_resetBase (c : ResetSrc) (old : State) (a : Nat) : (resetBase c old).reg a = regReset a := rfl

/-- A reset leaves the unit in phase 1 of the boot. -/
theorem boot_resetState (c : ResetSrc) (srcs : List ResetSrc) (old : State) :
    (resetState c srcs old).mode = modeBoot ∧ (resetState c srcs old).phase = 1 := by
  have h := fieldsKept_resetState c srcs old
  have hbase : ∀ f : Fld, (resetBase c old).fld f = getField (regReset f.addr) f.lo f.width := fun f => by
    rw [State.fld, reg_resetBase]
  constructor
  · exact (h.fld (g := .SYS_STAT_STATE) (by decide +kernel)).trans ((hbase _).trans (by decide +kernel))
  · exact (h.fld (g := .SYS_BOOTST_PHASE) (by decide +kernel)).trans ((hbase _).trans (by decide +kernel))

theorem reg_resetState_of_kept {a : Nat} (ha : settleFields.all (fun f => f.addr != a) = true) (c : ResetSrc)
    (srcs : List ResetSrc) (old : State) :
    (resetState c srcs old).reg a = (keptRegs c srcs old (resetBase c old)).reg a :=
  (fieldsKept_settleReset _).reg fun f hf => bne_iff_ne.mp (List.all_eq_true.mp ha f hf)

theorem fld_resetState_of_kept {g : Fld} (hg : settleFields.all (fun f => f.apart g) = true) (c : ResetSrc)
    (srcs : List ResetSrc) (old : State) :
    (resetState c srcs old).fld g = (keptRegs c srcs old (resetBase c old)).fld g :=
  (fieldsKept_settleReset _).fld hg

/-- What the stages of `keptRegs` after the counters change. -/
theorem fieldsKept_keptRegs_counts (c : ResetSrc) (srcs : List ResetSrc) (old s : State) :
    FieldsKept (causeFields ++ faultFields ++ strapFields ++ lockFields ++ ropeFields) (keepCounts old s)
      (keptRegs c srcs old s) := by
  have hcauses := (fieldsKept_keepCauses c srcs old (keepCounts old s)).mono
    (gs := causeFields ++ faultFields ++ strapFields ++ lockFields ++ ropeFields) (by decide)
  by_cases hc : c = .por
  · subst hc
    exact hcauses
  · rw [keptRegs_of_ne_por hc]
    exact (((hcauses.trans ((fieldsKept_keepFault old _).mono (by decide))).trans
      ((fieldsKept_keepStraps c old _).mono (by decide))).trans ((fieldsKept_keepLogLock old _).mono (by decide))).trans
      ((fieldsKept_keepChain c old _).mono (by decide))

/-- The counters stay through every reset (R89). -/
theorem reg_CNT_resetState (c : ResetSrc) (srcs : List ResetSrc) (old : State) :
    ∀ k < 16, (resetState c srcs old).reg (Reg.CNT 0 + k) = old.reg (Reg.CNT 0 + k) := by
  intro k hk
  have hsettle : ∀ k < 16, settleFields.all (fun f => f.addr != Reg.CNT 0 + k) = true := by decide +kernel
  have hkept : ∀ k < 16, ∀ f ∈ causeFields ++ faultFields ++ strapFields ++ lockFields ++ ropeFields,
      f.addr ≠ Reg.CNT 0 + k := by decide +kernel
  rw [reg_resetState_of_kept (hsettle k hk), (fieldsKept_keptRegs_counts c srcs old _).reg (hkept k hk),
    reg_keepCounts old _ k hk]

/-- What the stages of `keptRegs` after the causes change. -/
theorem fieldsKept_keptRegs_causes (c : ResetSrc) (srcs : List ResetSrc) (old s : State) :
    FieldsKept (faultFields ++ strapFields ++ lockFields ++ ropeFields) (keepCauses c srcs old (keepCounts old s))
      (keptRegs c srcs old s) := by
  by_cases hc : c = .por
  · subst hc
    exact .refl _ _
  · rw [keptRegs_of_ne_por hc]
    exact ((((fieldsKept_keepFault old _).mono (by decide)).trans
      ((fieldsKept_keepStraps c old _).mono (by decide))).trans ((fieldsKept_keepLogLock old _).mono (by decide))).trans
      ((fieldsKept_keepChain c old _).mono (by decide))

theorem reg_RSTCAUSE_resetState (c : ResetSrc) (srcs : List ResetSrc) (old : State) :
    (resetState c srcs old).reg Reg.SYS_RSTCAUSE = causesAfter c srcs old := by
  rw [reg_resetState_of_kept (by decide +kernel), (fieldsKept_keptRegs_causes c srcs old _).reg (by decide),
    reg_RSTCAUSE_keepCauses]

theorem reg_supply_resetState {srcs : List ResetSrc} (h : srcs.contains .por = false) (c : ResetSrc) (old : State) :
    (resetState c srcs old).reg Reg.PWR_LOOPS = old.reg Reg.PWR_LOOPS ∧
      (resetState c srcs old).reg Reg.PWR_ESTOV = old.reg Reg.PWR_ESTOV := by
  obtain ⟨hloops, hstore⟩ := reg_supply_keepCauses h c old (keepCounts old (resetBase c old))
  have hkept := fieldsKept_keptRegs_causes c srcs old (resetBase c old)
  rw [reg_resetState_of_kept (by decide +kernel), reg_resetState_of_kept (by decide +kernel), hkept.reg (by decide),
    hkept.reg (by decide)]
  exact ⟨hloops, hstore⟩

/-- What the stages of `keptRegs` after the fault latch change. -/
theorem fieldsKept_keptRegs_fault {c : ResetSrc} (hc : c ≠ .por) (srcs : List ResetSrc) (old s : State) :
    FieldsKept (strapFields ++ lockFields ++ ropeFields) (keepFault old (keepCauses c srcs old (keepCounts old s)))
      (keptRegs c srcs old s) := by
  rw [keptRegs_of_ne_por hc]
  exact (((fieldsKept_keepStraps c old _).mono (by decide)).trans ((fieldsKept_keepLogLock old _).mono (by decide))).trans
    ((fieldsKept_keepChain c old _).mono (by decide))

/-- The fatal latch stays through every reset but a POR (R89). -/
theorem isFatal_resetState {c : ResetSrc} (hc : c ≠ .por) (srcs : List ResetSrc) (old : State) :
    (resetState c srcs old).isFatal = old.isFatal := by
  have h : (resetState c srcs old).fld .FLT_STAT_FATAL =
      (keepFault old (keepCauses c srcs old (keepCounts old (resetBase c old)))).fld .FLT_STAT_FATAL := by
    rw [fld_resetState_of_kept (by decide +kernel), (fieldsKept_keptRegs_fault hc srcs old _).fld (by decide)]
  simp only [State.isFatal, State.flag, h]
  exact isFatal_keepFault old _

theorem isFatal_resetState_por (srcs : List ResetSrc) (old : State) : (resetState .por srcs old).isFatal = false := by
  have h : (resetState .por srcs old).fld .FLT_STAT_FATAL = (resetBase .por old).fld .FLT_STAT_FATAL := by
    rw [fld_resetState_of_kept (by decide +kernel), keptRegs_por, (fieldsKept_keepCauses _ srcs old _).fld (by decide),
      (fieldsKept_keepCounts old _).fld (by decide +kernel)]
  have hbase : (resetBase .por old).fld .FLT_STAT_FATAL = 0 := by
    rw [State.fld, reg_resetBase]
    decide +kernel
  simp [State.isFatal, State.flag, h, hbase]

theorem reg32_LAST_resetState {c : ResetSrc} (hc : c ≠ .por) (srcs : List ResetSrc) (old : State) :
    (resetState c srcs old).reg32 Reg.FLT_LAST =
      (if old.reg32 Reg.FLT_FIRST = 0 then old.reg32 Reg.FLT_LAST else old.reg32 Reg.FLT_FIRST) := by
  have hkept := fieldsKept_keptRegs_fault hc srcs old (resetBase c old)
  rw [← reg32_LAST_keepFault old (keepCauses c srcs old (keepCounts old (resetBase c old))), State.reg32, State.reg32,
    State.regN, State.regN, State.regN, State.regN, reg_resetState_of_kept (by decide +kernel),
    reg_resetState_of_kept (by decide +kernel), hkept.reg (by decide), hkept.reg (by decide)]

/-- What the stages of `keptRegs` after the straps change. -/
theorem fieldsKept_keptRegs_straps {c : ResetSrc} (hc : c ≠ .por) (srcs : List ResetSrc) (old s : State) :
    FieldsKept (lockFields ++ ropeFields)
      (keepStraps c old (keepFault old (keepCauses c srcs old (keepCounts old s)))) (keptRegs c srcs old s) := by
  rw [keptRegs_of_ne_por hc]
  exact ((fieldsKept_keepLogLock old _).mono (by decide)).trans ((fieldsKept_keepChain c old _).mono (by decide))

theorem testMode_resetState {c : ResetSrc} (hc : c ≠ .por) (srcs : List ResetSrc) (old : State) :
    (resetState c srcs old).testMode = old.testMode := by
  rw [State.testMode, State.flag, fld_resetState_of_kept (by decide +kernel),
    (fieldsKept_keptRegs_straps hc srcs old _).fld (by decide)]
  exact testMode_keepStraps c old _

theorem fld_ALMPIN_resetState {c : ResetSrc} (hc : c ≠ .por) (hb : c ≠ .bor) (srcs : List ResetSrc) (old : State) :
    (resetState c srcs old).fld .SYS_STAT_ALMPIN = old.fld .SYS_STAT_ALMPIN := by
  rw [fld_resetState_of_kept (by decide +kernel), (fieldsKept_keptRegs_straps hc srcs old _).fld (by decide),
    fld_ALMPIN_keepStraps hb]

/-- POR brings every register to its reset value but the loops', the counters, the causes and the fault status. -/
theorem reg_resetState_por (srcs : List ResetSrc) (old : State) {a : Nat} (h7 : blockOf a ≠ 7) (h10 : blockOf a ≠ 10)
    (hcause : a ≠ Reg.SYS_RSTCAUSE) (hstat : a ≠ Reg.FLT_STAT) (hsupply : srcs.contains .por = true) :
    (resetState .por srcs old).reg a = regReset a := by
  have hsettle : ∀ f ∈ settleFields, blockOf f.addr = 7 ∨ f.addr = Reg.FLT_STAT := by decide +kernel
  have hcounts : ∀ f ∈ countWords, blockOf f.addr = 10 := by decide +kernel
  rw [resetState_eq, (fieldsKept_settleReset _).reg, keptRegs_por, keepCauses, reg_setReg_other _ _ _ _ (Ne.symm hcause),
    keptSupply, if_pos hsupply, (fieldsKept_keepCounts old _).reg, reg_resetBase]
  · exact fun f hf he => h10 (he ▸ hcounts f hf)
  · intro f hf he
    obtain h | h := hsettle f hf
    · exact h7 (he ▸ h)
    · exact hstat (he ▸ h)

/-! ### Taking a reset -/

theorem widest_of_por : ∀ (srcs : List ResetSrc) (d : ResetSrc), ResetSrc.por ∈ srcs ∨ d = .por → widest srcs d = .por
  | [], d, h => by simpa [widest] using h
  | c :: srcs, d, h => by
    have hfold : widest (c :: srcs) d = widest srcs (if effectRank c < effectRank d then c else d) := rfl
    rw [hfold]
    apply widest_of_por
    rcases h with h | h
    · rcases List.mem_cons.mp h with rfl | h
      · cases d <;> simp [effectRank]
      · exact .inl h
    · subst h
      simp [effectRank]

/-- The state after the operations in progress have been cut short. -/
def cutOps (srcs : List ResetSrc) (s : State) : State :=
  cutXmem (if srcs.contains .por || srcs.contains .bor then cutFlash s else s)

/-- What comes before the external memory is cut: only the store may differ. -/
theorem onlyStore_before_cutXmem (srcs : List ResetSrc) (s : State) :
    OnlyStore s (if srcs.contains .por || srcs.contains .bor then cutFlash s else s) := by
  split
  · exact onlyStore_cutFlash s
  · exact .refl s

theorem cutOps_rest (srcs : List ResetSrc) (s : State) : cutOps srcs s =
    { s with nvm := (cutOps srcs s).nvm, xfer := (cutOps srcs s).xfer, free := (cutOps srcs s).free } := by
  obtain ⟨n, f, h⟩ := onlyStore_before_cutXmem srcs s
  unfold cutOps
  rw [h, cutXmem_rest]

theorem nvm_cutOps_of_idle {s : State} (srcs : List ResetSrc) (h : s.nvm.op = none) : (cutOps srcs s).nvm = s.nvm := by
  unfold cutOps
  rw [cutFlash_of_idle h, ite_self, cutXmem_rest]

theorem nvm_cutOps_of_gentle {s : State} {srcs : List ResetSrc}
    (h : (srcs.contains .por || srcs.contains .bor) = false) : (cutOps srcs s).nvm = s.nvm := by
  unfold cutOps
  rw [h, if_neg Bool.false_ne_true, cutXmem_rest]

theorem xfer_cutOps_of_idle {s : State} (srcs : List ResetSrc) (h : s.xfer.op = none) : (cutOps srcs s).xfer = s.xfer := by
  obtain ⟨n, f, hn⟩ := onlyStore_before_cutXmem srcs s
  unfold cutOps
  rw [hn]
  rw [cutXmem_of_idle (s := { s with nvm := n, free := f }) h]

@[simp] theorem cutOps_sys (srcs : List ResetSrc) (s : State) : (cutOps srcs s).sys = s.sys := by rw [cutOps_rest]
@[simp] theorem cutOps_pending (srcs : List ResetSrc) (s : State) : (cutOps srcs s).pending = s.pending := by rw [cutOps_rest]
@[simp] theorem cutOps_now (srcs : List ResetSrc) (s : State) : (cutOps srcs s).now = s.now := by rw [cutOps_rest]
@[simp] theorem cutOps_regs (srcs : List ResetSrc) (s : State) : (cutOps srcs s).regs = s.regs := by rw [cutOps_rest]
@[simp] theorem reg_cutOps (srcs : List ResetSrc) (s : State) (a : Nat) : (cutOps srcs s).reg a = s.reg a := by
  simp [State.reg]
@[simp] theorem fld_cutOps (srcs : List ResetSrc) (s : State) (f : Fld) : (cutOps srcs s).fld f = s.fld f := by
  simp [State.fld]

/-- The source that governs a reset. -/
def governing (srcs : List ResetSrc) (s : State) : ResetSrc :=
  widest srcs (if s.sys.held then s.sys.boot.cause else .ropeReset)

/-- The state that a reset leaves while a source is asserted. -/
def heldState (c : ResetSrc) (srcs : List ResetSrc) (old : State) : State :=
  { resetState c srcs old with sys := { (resetBase c old).sys with held := true, waiting := [] } }

theorem resetState_sys (c : ResetSrc) (srcs : List ResetSrc) (old : State) :
    (resetState c srcs old).sys = (resetBase c old).sys := by rw [resetState_rest]

/-- A reset while a source is asserted holds the device. -/
theorem takeReset_held {srcs : List ResetSrc} {s : State} (h : s.sys.asserted.isEmpty = false) :
    takeReset srcs s = heldState (governing srcs s) srcs (cutOps srcs s) := by
  have hasserted : (resetState (governing srcs s) srcs (cutOps srcs s)).sys.asserted.isEmpty = false := by
    rw [resetState_sys]
    simpa [resetBase] using h
  unfold heldState
  rw [← resetState_sys _ srcs]
  exact if_neg (Bool.not_eq_true _ ▸ hasserted)

/-- Beside the registers and the hold, the state that a reset leaves is its base. -/
theorem heldState_rest (c : ResetSrc) (srcs : List ResetSrc) (old : State) : heldState c srcs old =
    { resetBase c old with
      regs := (resetState c srcs old).regs, sys := { (resetBase c old).sys with held := true, waiting := [] } } := by
  unfold heldState
  rw [resetState_rest]

theorem memByte_cutOps {s : State} (srcs : List ResetSrc) (h : s.xfer.op = none) (a : Nat) :
    readAt erasedByte (cutOps srcs s).xfer.mem a = s.memByte a := by
  rw [xfer_cutOps_of_idle srcs h]
  rfl

theorem storeByte_cutOps_of_idle {s : State} (srcs : List ResetSrc) (h : s.nvm.op = none) (a : Nat) :
    readAt erasedByte (cutOps srcs s).nvm.store a = s.storeByte a := by
  rw [nvm_cutOps_of_idle srcs h]
  rfl

theorem causesAfter_bit_of_mem {c : ResetSrc} {srcs : List ResetSrc} {old : State} {k : Nat}
    (h : (causeWord srcs).getLsbD k = true) : (causesAfter c srcs old).getLsbD k = true := by
  unfold causesAfter
  split <;> simp [h]

theorem causeWord_bit {r : ResetSrc} {srcs : List ResetSrc} (h : r ∈ srcs) :
    (causeWord srcs).getLsbD (causeBit r) = true := by
  have hkeep : ∀ (l : List ResetSrc) (w : Word), w.getLsbD (causeBit r) = true →
      (l.foldl (fun (w : Word) c => w ||| (1 <<< causeBit c)) w).getLsbD (causeBit r) = true := by
    intro l
    induction l with
    | nil => exact fun w hw => hw
    | cons c l ih => exact fun w hw => ih _ (by simp [hw])
  have hset : ∀ (l : List ResetSrc) (w : Word), r ∈ l →
      (l.foldl (fun (w : Word) c => w ||| (1 <<< causeBit c)) w).getLsbD (causeBit r) = true := by
    intro l
    induction l with
    | nil => exact fun w hw => absurd hw (by simp)
    | cons c l ih =>
      intro w hw
      rcases List.mem_cons.mp hw with rfl | hw
      · refine hkeep l _ ?_
        have hbit : (BitVec.ofNat 16 (1 <<< causeBit r)).getLsbD (causeBit r) = true := by cases r <;> decide
        rw [BitVec.getLsbD_or, Bool.or_eq_true]
        exact .inr hbit
      · exact ih _ hw
  exact hset srcs 0 h

end Sys2Proof.Machine
end

section
/-! Proofs about the resets: POR and BOR, XRST, the release, and the resets that release themselves. -/

namespace Sys2Proof.Machine

theorem supplyReset_eq (c : ResetSrc) (s : State) : supplyReset c s =
    heldState (governing (s.sys.asserted.filter (· != c) ++ [c] ++ s.sys.waiting) (assertReset c s))
      (s.sys.asserted.filter (· != c) ++ [c] ++ s.sys.waiting)
      (cutOps (s.sys.asserted.filter (· != c) ++ [c] ++ s.sys.waiting) (assertReset c s)) :=
  takeReset_held (by simp [assertReset])

/-- What a held device shows of the state before its reset, whatever the source. -/
theorem held_of_reset {c r : ResetSrc} {srcs : List ResetSrc} {s t : State}
    (ht : t = heldState c srcs (cutOps srcs (assertReset r s))) :
    t.sys.held = true ∧ t.sys.asserted = s.sys.asserted.filter (· != r) ++ [r] ∧ t.pending = s.pending ∧ t.now = s.now ∧
      t.mode = modeBoot ∧ t.phase = 1 ∧ t.conns = [] ∧ t.nvm.jobs = [] ∧ t.nvm.op = none ∧ t.xfer.op = none ∧
      (∀ k, k < 16 → t.reg (Reg.CNT 0 + k) = s.reg (Reg.CNT 0 + k)) ∧
      (s.nvm.op = none → ∀ a, t.storeByte a = s.storeByte a) ∧
      (s.xfer.op = none → ∀ a, t.memByte a = s.memByte a) := by
  obtain ⟨hmode, hphase⟩ := boot_resetState c srcs (cutOps srcs (assertReset r s))
  have hcnt := reg_CNT_resetState c srcs (cutOps srcs (assertReset r s))
  have hrest := heldState_rest c srcs (cutOps srcs (assertReset r s))
  rw [← ht] at hrest
  have hregs : t.regs = (resetState c srcs (cutOps srcs (assertReset r s))).regs := by rw [ht]; rfl
  have hreg : ∀ a, t.reg a = (resetState c srcs (cutOps srcs (assertReset r s))).reg a := fun a => by
    simp only [State.reg, hregs]
  have hfld : ∀ f, t.fld f = (resetState c srcs (cutOps srcs (assertReset r s))).fld f := fun f => by
    simp only [State.fld, hreg]
  refine ⟨by rw [hrest], ?_, ?_, ?_, (hfld _).trans hmode, (hfld _).trans hphase, by rw [hrest]; rfl, by rw [hrest]; rfl,
    by rw [hrest]; rfl, by rw [hrest]; rfl, fun k hk => ?_, fun hop a => ?_, fun hop a => ?_⟩
  · rw [hrest]
    simp [resetBase, assertReset]
  · rw [hrest]
    exact cutOps_pending _ _
  · rw [hrest]
    exact cutOps_now _ _
  · rw [hreg, hcnt k hk]
    exact reg_cutOps _ _ _
  · rw [hrest]
    exact storeByte_cutOps_of_idle srcs (s := assertReset r s) hop a
  · rw [hrest]
    exact memByte_cutOps srcs (s := assertReset r s) hop a

/-- Settles O9: POR by `reg_resetState_por`, BOR by what `keptRegs` keeps. -/
theorem supplyResetsHold : Obligations.SupplyResetsHold := by
  refine ⟨fun s => ⟨_, rfl, ?_⟩, fun s hheld hwait hass => ⟨_, rfl, ?_⟩⟩
  · have hmem : ResetSrc.por ∈ s.sys.asserted.filter (· != .por) ++ [.por] ++ s.sys.waiting := by simp
    have hsupply := supplyReset_eq .por s
    generalize s.sys.asserted.filter (· != .por) ++ [.por] ++ s.sys.waiting = srcs at hmem hsupply
    rw [governing, widest_of_por _ _ (.inl hmem)] at hsupply
    obtain ⟨h1, h2, h3, h4, h5, h6, h7, h8, h9, h10, h11, h12, h13⟩ := held_of_reset hsupply
    have hregs : (supplyReset .por s).regs = (resetState .por srcs (cutOps srcs (assertReset .por s))).regs := by
      rw [hsupply]; rfl
    have hreg : ∀ a, (supplyReset .por s).reg a = (resetState .por srcs (cutOps srcs (assertReset .por s))).reg a :=
      fun a => by simp only [State.reg, hregs]
    refine ⟨h1, by rw [h2]; simp, ?_, h5, h6, ?_, ?_, h3, h4, h7, h8, h9, h10, fun n hn => ?_, h11, ?_, h12, h13⟩
    · rw [hreg, reg_RSTCAUSE_resetState]
      exact causesAfter_bit_of_mem (causeWord_bit hmem)
    · simp only [State.isFatal, State.flag, State.fld, hreg]
      exact isFatal_resetState_por srcs _
    · rw [hsupply]
      rfl
    · rw [hsupply, heldState_rest]
      interval_cases n <;> rfl
    · intro a ha7 ha10 hcause hstat
      rw [hreg]
      exact reg_resetState_por srcs _ ha7 ha10 hcause hstat (by simpa using hmem)
  · have hsupply := supplyReset_eq .bor { s with sys := { s.sys with bleed := s.sys.bleed || bleedDue s } }
    have hsrcs : s.sys.asserted.filter (· != .bor) ++ [.bor] ++ s.sys.waiting = [.bor] := by rw [hass, hwait]; rfl
    rw [hsrcs, show governing [.bor] (assertReset .bor { s with sys := { s.sys with bleed := s.sys.bleed || bleedDue s } })
      = .bor by simp [governing, assertReset, hheld, widest, effectRank]] at hsupply
    obtain ⟨h1, h2, h3, h4, h5, h6, h7, h8, h9, h10, h11, h12, h13⟩ := held_of_reset hsupply
    generalize hu : cutOps [.bor] (assertReset .bor { s with sys := { s.sys with bleed := s.sys.bleed || bleedDue s } }) = u
      at hsupply
    have hureg : ∀ a, u.reg a = s.reg a := fun a => by rw [← hu, reg_cutOps]; rfl
    have husys : u.sys = (assertReset .bor { s with sys := { s.sys with bleed := s.sys.bleed || bleedDue s } }).sys := by
      rw [← hu, cutOps_sys]
    generalize ht : supplyReset .bor { s with sys := { s.sys with bleed := s.sys.bleed || bleedDue s } } = t at *
    have hregs : t.regs = (resetState .bor [.bor] u).regs := by rw [hsupply]; rfl
    have hreg : ∀ a, t.reg a = (resetState .bor [.bor] u).reg a := fun a => by simp only [State.reg, hregs]
    have hfld : ∀ f, t.fld f = (resetState .bor [.bor] u).fld f := fun f => by simp only [State.fld, hreg]
    have hufld : ∀ f, u.fld f = s.fld f := fun f => by simp only [State.fld, hureg]
    obtain ⟨hloops, hstore⟩ := reg_supply_resetState (srcs := [.bor]) (by decide) .bor u
    refine ⟨h1, by rw [h2, hass]; rfl, ?_, h5, h6, ?_, ?_, h3, h4, ?_, ?_, ?_, h7, h8, h9, h10, ?_, ?_, ?_, h11, h12, h13⟩
    · rw [hreg, reg_RSTCAUSE_resetState]
      exact causesAfter_bit_of_mem (causeWord_bit (r := .bor) (by simp))
    · have hfatal := isFatal_resetState (c := .bor) (by decide) [.bor] u
      simp only [State.isFatal, State.flag, hfld, hufld] at hfatal ⊢
      exact hfatal
    · rw [hsupply, heldState_rest]
      simp [resetBase, husys, assertReset]
    · have htest := testMode_resetState (c := .bor) (by decide) [.bor] u
      simp only [State.testMode, State.flag, hfld, hufld] at htest ⊢
      exact htest
    · rw [hsupply, heldState_rest]
      simp [resetBase]
    · rw [hsupply, heldState_rest]
      simp [resetBase, husys, assertReset, bleedDue]
    · rw [hreg, hloops, hureg]
    · rw [hreg, hstore, hureg]
    · have hlast := reg32_LAST_resetState (c := .bor) (by decide) [.bor] u
      simp only [State.reg32, State.regN, hreg, hureg] at hlast ⊢
      exact hlast

end Sys2Proof.Machine
end

section
/-! Proofs about the resets: XRST, the release of the device, and the resets that release themselves. -/

namespace Sys2Proof.Machine

theorem exec_xrstAssert (w : Nat) (s : State) : exec (.xrstAssert w) s = .next (xrstAssert w s) := rfl

theorem xrstAssert_long {w : Nat} (h : 1000 ≤ w) (s : State) :
    xrstAssert w s = gentleReset .xrst (assertReset .xrst s) := if_pos h

theorem xrstAssert_short {w : Nat} (h : w < 200) (s : State) : xrstAssert w s = s := by
  rw [xrstAssert, if_neg (by omega), if_pos h]

/-- Between the two widths a free value decides (R68). -/
theorem xrstAssert_between {w : Nat} (h : 200 ≤ w) (h' : w < 1000) (s : State) :
    xrstAssert w s = xrstAssert 1000 { s with free := s.free + 1 } ∨ xrstAssert w s = { s with free := s.free + 1 } := by
  rw [xrstAssert_long le_rfl, xrstAssert, if_neg (by omega), if_neg (by omega)]
  cases hfree : Config.freeBool s.free
  · exact .inr (if_neg (by simp [hfree]))
  · exact .inl (if_pos hfree)

theorem gentleReset_xrst {s : State} (h : s.nvm.op = none ∨ s.sys.held = true) :
    gentleReset .xrst (assertReset .xrst s) = heldState (governing [.xrst] (assertReset .xrst s)) [.xrst]
      (cutOps [.xrst] (assertReset .xrst s)) := by
  have hno : ((assertReset .xrst s).nvm.op.isSome && !(assertReset .xrst s).sys.held) = false := by
    rcases h with h | h <;> simp [assertReset, h]
  rw [gentleReset, hno, if_neg Bool.false_ne_true]
  exact takeReset_held (by simp [assertReset])

/-- The current that a fitted loop carried is held (R92). -/
theorem held_heldCodes {n : Nat} {s : State} (hn : n < 6) (hfit : s.flag (.LOOP_CFG_FIT n) = true)
    (hdac : s.regN (Reg.LOOP_DAC n) ≠ 0) : (nth {} (heldCodes s) n).held = some (s.regN (Reg.LOOP_DAC n)) := by
  simp [nth, heldCodes, hn, hfit, hdac]

/-- Settles O10: the wait and the free choice by the width, the reset itself by `held_of_reset`. -/
theorem resetPinHoldsTheLoops : Obligations.ResetPinHoldsTheLoops := by
  refine ⟨fun w s hw hop hheld => ⟨_, rfl, ?_⟩, fun w s hw hheld hcause => ⟨_, rfl, ?_⟩,
    fun w s hw hop hheld => ⟨_, rfl, ?_⟩, fun w s hw hw' => ⟨_, rfl, ?_⟩, fun w s hw => ⟨_, rfl, xrstAssert_short hw s⟩⟩
  · have ht := (xrstAssert_long hw s).trans (gentleReset_xrst (.inl hop))
    rw [show governing [.xrst] (assertReset .xrst s) = .xrst by simp [governing, assertReset, hheld, widest, effectRank]]
      at ht
    obtain ⟨h1, h2, h3, h4, h5, h6, -, -, -, -, h11, h12, h13⟩ := held_of_reset ht
    generalize hu : cutOps [.xrst] (assertReset .xrst s) = u at ht
    have hureg : ∀ a, u.reg a = s.reg a := fun a => by rw [← hu, reg_cutOps]; rfl
    have hufld : ∀ f, u.fld f = s.fld f := fun f => by simp only [State.fld, hureg]
    generalize xrstAssert w s = t at *
    have hregs : t.regs = (resetState .xrst [.xrst] u).regs := by rw [ht]; rfl
    have hreg : ∀ a, t.reg a = (resetState .xrst [.xrst] u).reg a := fun a => by simp only [State.reg, hregs]
    have hfld : ∀ f, t.fld f = (resetState .xrst [.xrst] u).fld f := fun f => by simp only [State.fld, hreg]
    refine ⟨h1, by rw [h2]; simp, ?_, h5, h6, ?_, ?_, h3, h4, ?_, ?_, fun n hn hfit hdac => ?_, h11, h12 hop, h13⟩
    · rw [hreg, reg_RSTCAUSE_resetState]
      exact causesAfter_bit_of_mem (causeWord_bit (r := .xrst) (by simp))
    · have hfatal := isFatal_resetState (c := .xrst) (by decide) [.xrst] u
      simp only [State.isFatal, State.flag, hfld, hufld] at hfatal ⊢
      exact hfatal
    · rw [ht, heldState_rest]
      simp [resetBase, ← hu, assertReset]
    · have htest := testMode_resetState (c := .xrst) (by decide) [.xrst] u
      simp only [State.testMode, State.flag, hfld, hufld] at htest ⊢
      exact htest
    · rw [hfld, fld_ALMPIN_resetState (by decide) (by decide), hufld]
    · have hloops : t.loops = heldCodes u := by rw [ht, heldState_rest]; rfl
      have hregN : u.regN (Reg.LOOP_DAC n) = s.regN (Reg.LOOP_DAC n) := by simp only [State.regN, hureg]
      rw [State.loop, hloops, held_heldCodes hn (by simpa only [State.flag, hufld] using hfit) (hregN ▸ hdac), hregN]
  · have ht := (xrstAssert_long hw s).trans (gentleReset_xrst (.inr hheld))
    rw [show governing [.xrst] (assertReset .xrst s) = .por by
      simp [governing, assertReset, hheld, hcause, widest, effectRank]] at ht
    obtain ⟨h1, h2, -⟩ := held_of_reset ht
    generalize hu : cutOps [.xrst] (assertReset .xrst s) = u at ht
    have hureg : ∀ a, u.reg a = s.reg a := fun a => by rw [← hu, reg_cutOps]; rfl
    have husys : u.sys = (assertReset .xrst s).sys := by rw [← hu, cutOps_sys]
    have hregs : (xrstAssert w s).regs = (resetState .por [.xrst] u).regs := by rw [ht]; rfl
    have hreg : (xrstAssert w s).reg Reg.SYS_RSTCAUSE = causesAfter .por [.xrst] u := by
      rw [← reg_RSTCAUSE_resetState]
      simp only [State.reg, hregs]
    refine ⟨h1, by rw [h2]; simp, ?_, fun k hk hbit => ?_⟩
    · rw [hreg]
      exact causesAfter_bit_of_mem (causeWord_bit (r := .xrst) (by simp))
    · have hold : (u.sys.held && u.sys.boot.cause == .por) = true := by rw [husys]; simp [assertReset, hheld, hcause]
      have hmask : ∀ k < 6, (0x003F : Word).getLsbD k = true := by decide
      rw [hreg, causesAfter, if_pos (by decide), if_pos hold, hureg, BitVec.getLsbD_or, BitVec.getLsbD_and, hbit,
        hmask k hk]
      simp
  · have hwait : ((assertReset .xrst s).nvm.op.isSome && !(assertReset .xrst s).sys.held) = true := by
      simp [assertReset, hheld, Option.isSome_iff_ne_none, hop]
    rw [xrstAssert_long hw, gentleReset, if_pos hwait]
    rfl
  · rcases xrstAssert_between hw hw' s with h | h
    · exact .inr (by rw [exec_xrstAssert, h])
    · exact .inl h

/-! ### The release (R68) -/

/-- The registers that show a fatal latch after a reset (R652). -/
def latchShown (src first : Nat) (s : State) : State :=
  ((s.setReg32 Reg.FLT_FIRST first).setFldBit ⟨Reg.FLT_ACT + src / 16, 0, 16⟩ (src % 16) true).setFld .FLT_STAT_WCLASS 3

theorem fieldsKept_latchShown (src first : Nat) (s : State) :
    FieldsKept [wholeReg Reg.FLT_FIRST, wholeReg (Reg.FLT_FIRST + 1), wholeReg (Reg.FLT_ACT + src / 16), .FLT_STAT_WCLASS,
      .FLT_STAT_FLTHS] s (latchShown src first s) :=
  .setFld (.setFldBit (.setReg32 (.refl _ s) (by simp) (by simp)) (by simp)) (by simp) (by decide)

theorem onlyRegs_latchShown (src first : Nat) (s : State) : OnlyRegs s (latchShown src first s) :=
  (((OnlyRegs.refl s).setReg32 _ _).setFldBit _ _ _).setFld _ _

/-- The device is no longer held, and its boot has its cause. -/
def unhold (c : ResetSrc) (s : State) : State :=
  { s with sys := { s.sys with held := false, asserted := [], waiting := [], boot := { cause := c } } }

/-- The state that a release starts the boot from. -/
def releaseStart (s : State) : State := if keepsRope s.sys.boot.cause then s else resetState .xrst [] s

/-- A release ends the hold and shows a fatal latch that survived (R68, R652). -/
theorem release_cases (s : State) :
    release s = driveFaultPins (unhold s.sys.boot.cause (releaseStart s)) ∨
      ∃ src first, release s = driveFaultPins (latchShown src first (unhold s.sys.boot.cause (releaseStart s))) := by
  have h : release s = (match (unhold s.sys.boot.cause (releaseStart s)).isFatal,
      (unhold s.sys.boot.cause (releaseStart s)).sys.fatal with
    | true, some (src, param) =>
      driveFaultPins (latchShown src (src + 256 * (param % 256) + 65536 * clsF)
        (unhold s.sys.boot.cause (releaseStart s)))
    | _, _ => driveFaultPins (unhold s.sys.boot.cause (releaseStart s))) := rfl
  rw [h]
  split
  · exact .inr ⟨_, _, rfl⟩
  · exact .inl rfl

/-- A release shows a fatal latch in the fault registers, and changes no other register of the state that it starts from. -/
theorem release_frame (s : State) :
    (∃ w, FieldsKept [wholeReg Reg.FLT_FIRST, wholeReg (Reg.FLT_FIRST + 1), wholeReg (Reg.FLT_ACT + w), .FLT_STAT_WCLASS,
        .FLT_STAT_FLTHS] (releaseStart s) (release s)) ∧
      release s = { unhold s.sys.boot.cause (releaseStart s) with regs := (release s).regs } := by
  obtain h | ⟨src, first, h⟩ := release_cases s <;> rw [h]
  · exact ⟨⟨0, FieldsKept.setFlag (.of_regs rfl) (by simp) (by decide)⟩, (OnlyRegs.refl _).driveFaultPins.eq⟩
  · refine ⟨⟨src / 16, FieldsKept.setFlag (.trans (.of_regs rfl) (fieldsKept_latchShown src first _)) (by simp) (by decide)⟩,
      (onlyRegs_latchShown src first _).driveFaultPins.eq⟩

/-- What a release leaves of the state before it, where the cause does not keep the chain. -/
theorem release_leaves {s : State} (h : keepsRope s.sys.boot.cause = false) :
    (release s).sys.held = false ∧ (release s).sys.asserted = [] ∧ (release s).phase = 1 ∧ (release s).mode = modeBoot ∧
      (release s).isFatal = s.isFatal ∧ (release s).now = s.now ∧ (release s).pending = s.pending ∧
      (∀ k, k < 6 → ((release s).reg Reg.SYS_RSTCAUSE).getLsbD k = (s.reg Reg.SYS_RSTCAUSE).getLsbD k) ∧
      (∀ a, (release s).storeByte a = s.storeByte a) ∧ (∀ a, (release s).memByte a = s.memByte a) := by
  obtain ⟨⟨w, hkept⟩, hrest⟩ := release_frame s
  have hstart : releaseStart s = resetState .xrst [] s := if_neg (by rw [h]; exact Bool.false_ne_true)
  rw [hstart] at hkept
  rw [hstart, resetState_rest] at hrest
  obtain ⟨hmode, hphase⟩ := boot_resetState .xrst [] s
  have hfld : ∀ g : Fld, g.addr < Reg.FLT_FIRST ∨ g = .FLT_STAT_FATAL →
      (release s).fld g = (resetState .xrst [] s).fld g := by
    intro g hg
    refine hkept.fld (List.all_eq_true.mpr fun f hf => ?_)
    rcases hg with hg | rfl
    · have hne : f.addr ≠ g.addr := by
        have hle : Reg.FLT_FIRST ≤ f.addr := by
          simp only [List.mem_cons, List.not_mem_nil, or_false] at hf
          rcases hf with rfl | rfl | rfl | rfl | rfl
          · decide
          · decide
          · exact Nat.le_trans (by decide) (Nat.le_add_right _ _)
          · decide
          · decide
        omega
      simp [Fld.apart, hne]
    · simp only [List.mem_cons, List.not_mem_nil, or_false] at hf
      rcases hf with rfl | rfl | rfl | rfl | rfl
      · decide
      · decide
      · have hne : (wholeReg (Reg.FLT_ACT + w)).addr ≠ Fld.FLT_STAT_FATAL.addr :=
          Nat.ne_of_gt (Nat.lt_of_lt_of_le (by decide) (Nat.le_add_right _ _))
        simp [Fld.apart, hne]
      · decide
      · decide
  refine ⟨by rw [hrest]; rfl, by rw [hrest]; rfl, (hfld _ (.inl (by decide))).trans hphase,
    (hfld _ (.inl (by decide))).trans hmode, ?_, by rw [hrest]; rfl, by rw [hrest]; rfl, fun k hk => ?_,
    fun a => by rw [hrest]; rfl, fun a => by rw [hrest]; rfl⟩
  · have hfatal := isFatal_resetState (c := .xrst) (by decide) [] s
    simp only [State.isFatal, State.flag, hfld _ (.inr rfl)] at hfatal ⊢
    exact hfatal
  · have hword := hfld (wholeReg Reg.SYS_RSTCAUSE) (.inl (by decide))
    have hcause : (release s).reg Reg.SYS_RSTCAUSE = causesAfter .xrst [] s := by
      rw [← reg_RSTCAUSE_resetState]
      simpa only [fld_wholeReg, State.regN, BitVec.toNat_inj] using hword
    have hmask : ∀ k < 6, (0x003F : Word).getLsbD k = true ∧ (0x8000 : Word).getLsbD k = false := by decide
    obtain ⟨hlow, hhigh⟩ := hmask k hk
    have hlast : (if s.isFatal = true then (0x8000 : Word) else 0).getLsbD k = false := by
      split
      · exact hhigh
      · simp
    rw [hcause, causesAfter, if_neg (by decide), BitVec.getLsbD_or, BitVec.getLsbD_or, BitVec.getLsbD_and, hlast, hlow]
    simp [causeWord]

theorem dropReset_of_held {r : ResetSrc} {s : State} (hheld : s.sys.held = true)
    (hempty : s.sys.asserted.filter (· != r) = []) :
    dropReset r s = release { s with sys := { s.sys with asserted := [] } } := by
  rw [dropReset, hempty]
  exact if_pos (by simp [hheld])

/-- Settles O11: `release_leaves` for the last source, and the list of the sources alone otherwise. -/
theorem lastSourceReleases : Obligations.LastSourceReleases := by
  intro c r hc
  have hexec : ∀ s, exec c s = .next (dropReset r s) := by
    rcases hc with ⟨rfl, rfl⟩ | ⟨rfl, rfl⟩ | ⟨rfl, rfl⟩ <;> exact fun _ => rfl
  refine ⟨fun s hheld hass hcause => ⟨_, hexec s, ?_⟩, fun q s hq hass => ⟨_, hexec s, ?_⟩,
    fun s hheld => ⟨_, hexec s, ?_⟩⟩
  · rw [dropReset_of_held hheld (by rw [hass]; simp)]
    exact release_leaves (s := { s with sys := { s.sys with asserted := [] } }) hcause
  · have hleft : s.sys.asserted.filter (· != r) = [q] := by rw [hass]; simp [hq]
    rw [dropReset, hleft]
    exact if_neg (by simp)
  · exact if_neg (by simp [hheld])

/-! ### A watchdog reset of a unit whose fatal latch names no source -/

/-- A running unit that is fatal by the source 5760, which the latch has room for but the collector has not. -/
def farFatal : State :=
  { State.reset.setFlag .FLT_STAT_FATAL true with sys := { State.reset.sys with held := false, asserted := [], fatal := some (5760, 0) } }

/-- Refutes O12: the release after a watchdog reset sets the bit of the latched source, without regard to its range, and that
of the source 5760 lies in CNT[0]. -/
theorem not_resetsThatReleaseThemselves : ¬ Obligations.ResetsThatReleaseThemselves := by
  intro h
  obtain ⟨hwatchdog, -⟩ := h
  obtain ⟨t, ht, -, -, -, -, -, -, -, -, -, hcnt, -⟩ :=
    hwatchdog farFatal (by decide +kernel) (by decide +kernel) (by decide +kernel)
  have hbefore : farFatal.reg (Reg.CNT 0 + 0) = 0 := by decide +kernel
  have hafter : nextView 0 (fun t => t.reg (Reg.CNT 0 + 0)) (exec .watchdogExpire farFatal) = 1 := by decide +kernel
  rw [ht] at hafter
  have hsame : t.reg (Reg.CNT 0 + 0) = 0 := (hcnt 0 (by decide)).trans hbefore
  exact absurd (hsame.symm.trans hafter) (by decide)

end Sys2Proof.Machine
end

section
/-! Proofs about XCLR and the supply dip (R87, R93, R94, R259, R260). -/

namespace Sys2Proof.Machine

/-! ### An output beside the four -/

/-- A state with a fifth excitation output, which XCLR holds in its clear state. -/
def fifthOutput : State := { State.reset with exc := List.replicate 5 { clearBy := [evXclr] } }

/-- Refutes O15: the release takes the event from the four outputs of the block, and a state that lists a fifth one leaves it
held there, while the clause speaks of every output listed. -/
theorem not_clearPinActs : ¬ Obligations.ClearPinActs := by
  intro h
  obtain ⟨-, -, -, -, hrelease⟩ := h
  obtain ⟨t, ht, -, hclear, -⟩ := hrelease fifthOutput
  have hafter : nextView false (fun t => (t.excOut 4).clearBy.contains evXclr) (exec .xclrRelease fifthOutput) = true := by
    decide +kernel
  rw [ht] at hafter
  exact hclear 4 (by decide) (List.contains_iff_mem.mp hafter)

/-! ### Unit lists -/

theorem nth_modNth {α : Type} (d : α) (l : List α) (n m : Nat) (f : α → α) :
    nth d (modNth l n f) m = if n = m ∧ m < l.length then f (nth d l m) else nth d l m := by
  by_cases hm : m < l.length
  · by_cases hn : n = m
    · subst hn
      simp [nth, modNth, List.getD_eq_getElem?_getD, hm]
    · simp [nth, modNth, List.getD_eq_getElem?_getD, hn]
  · simp [nth, modNth, List.getD_eq_getElem?_getD, hm]

theorem slice_modSlice (s : State) (n m : Nat) (f : SliceSt → SliceSt) :
    (s.modSlice n f).slice m = if n = m ∧ m < s.slices.length then f (s.slice m) else s.slice m := nth_modNth _ _ _ _ _

theorem excOut_modExc (s : State) (n m : Nat) (f : ExcSt → ExcSt) :
    (s.modExc n f).excOut m = if n = m ∧ m < s.exc.length then f (s.excOut m) else s.excOut m := nth_modNth _ _ _ _ _

theorem nth_of_length_le {α : Type} {d : α} {l : List α} {n : Nat} (h : l.length ≤ n) : nth d l n = d := by
  simp [nth, List.getD_eq_getElem?_getD, h]

/-! ### The marks of the windows -/

/-- Every window in progress on the 13 slices is marked SUPD. -/
def AllSupd (s : State) : Prop := ∀ n w, (s.slice n).win = some w → n < 13 → w.supd = true

/-- Marking a window of slice n marks whatever runs there. -/
theorem supd_modWin {n m : Nat} {s : State} {w : Window} (h : ((s.modWin n (fun w => { w with supd := true })).slice m).win
    = some w) : w.supd = true ∨ ((s.slice m).win = some w ∧ (n ≠ m ∨ s.slices.length ≤ m)) := by
  rw [State.modWin, slice_modSlice] at h
  split at h
  · obtain ⟨v, -, rfl⟩ := Option.map_eq_some_iff.mp h
    exact .inl rfl
  · rename_i hne
    exact .inr ⟨h, by omega⟩

theorem allSupd_forEach (s : State) : AllSupd (forEach 13 (fun n t => t.modWin n (fun w => { w with supd := true })) s) := by
  intro n w hw hn
  refine forEach_establishes (fun n t => ∀ w, (t.slice n).win = some w → w.supd = true) _ 13 s ?_ ?_ n hn w hw
  · intro i t _ w hw
    obtain h | ⟨h, hne⟩ := supd_modWin hw
    · exact h
    · have hdefault : t.slice i = {} := nth_of_length_le (hne.resolve_left (fun hi => hi rfl))
      rw [hdefault] at h
      cases h
  · intro i j t _ _ _ hj w hw
    obtain h | ⟨h, -⟩ := supd_modWin hw
    · exact h
    · exact hj w h

theorem AllSupd.markSupd {s : State} (h : AllSupd s) (k : Nat) : AllSupd (Machine.markSupd k s) :=
  forEach_keeps AllSupd _ 13 s h fun n t _ ht => by
    split
    · intro m w hw hm
      obtain hs | ⟨hs, -⟩ := supd_modWin hw
      · exact hs
      · exact ht m w hs hm
    · exact ht

theorem AllSupd.of_slices {s t : State} (h : AllSupd s) (hs : t.slices = s.slices) : AllSupd t := by
  intro n w hw hn
  rw [State.slice, hs] at hw
  exact h n w hw hn

theorem AllSupd.excClear {s : State} (h : AllSupd s) (ev k : Nat) : AllSupd (Machine.excClear ev k s) := by
  unfold Machine.excClear
  dsimp only
  refine AllSupd.markSupd (AllSupd.of_slices (s := s) h ?_) k
  rw [setFldBit_slices]
  rfl

theorem AllSupd.excClearAll {s : State} (h : AllSupd s) (ev : Nat) : AllSupd (Machine.excClearAll ev s) :=
  forEach_keeps AllSupd _ 4 s h fun k _ _ ht => ht.excClear ev k

/-! ### Frames of the clear state -/

/-- A bit of a field in the frame. -/
theorem FieldsKept.setFldBitOf {fs : List Fld} {s t : State} {f : Fld} {n : Nat} {b : Bool} (h : FieldsKept fs s t)
    (hf : f ∈ fs) (hn : n < f.width) : FieldsKept fs s (t.setFldBit f n b) := by
  intro a i hi
  rw [State.setFldBit, reg_setFlag]
  split
  · rename_i he
    have hb := hi f hf he
    rw [getLsbD_putField _ _ _ _ _ (by simp), if_neg (by dsimp only; omega), he]
    exact h a i hi
  · exact h a i hi

theorem markSupd_regs (k : Nat) (s : State) : (markSupd k s).regs = s.regs :=
  forEach_keeps (fun t => t.regs = s.regs) _ 13 s rfl fun n t _ ht => by
    split
    · exact ht
    · exact ht

theorem FieldsKept.excClear {fs : List Fld} {s t : State} (h : FieldsKept fs s t) (hf : .EXC_STAT_CLRST ∈ fs) (ev : Nat)
    {k : Nat} (hk : k < 4) : FieldsKept fs s (Machine.excClear ev k t) :=
  (((h.trans (.of_regs rfl)).setFldBitOf hf hk).trans (.of_regs (markSupd_regs k _)))

theorem FieldsKept.excClearAll {fs : List Fld} {s t : State} (h : FieldsKept fs s t) (hf : .EXC_STAT_CLRST ∈ fs)
    (ev : Nat) : FieldsKept fs s (Machine.excClearAll ev t) :=
  h.forEach fun _ _ hk h => h.excClear hf ev hk

/-! ### The supply dip (R93, R94) -/

theorem forEach_modWin_regs (f : Window → Window) (s : State) : (forEach 13 (fun n t => t.modWin n f) s).regs = s.regs :=
  forEach_keeps (fun t => t.regs = s.regs) _ 13 s rfl fun _ _ _ ht => ht

/-- The first crossing of a dip. -/
def dipBegun (mv : Nat) (s : State) : State :=
  forEach 13 (fun n t => t.modWin n (fun w => { w with supd := true }))
    { s with sys := { s.sys with dip := some ⟨s.now, none, mv⟩ } }

theorem dipBegun_regs (mv : Nat) (s : State) : (dipBegun mv s).regs = s.regs := by
  unfold dipBegun
  rw [forEach_modWin_regs]

theorem allSupd_dipBegun (mv : Nat) (s : State) : AllSupd (dipBegun mv s) := allSupd_forEach _

theorem vddaWarn_first {mv : Nat} {s : State} (h : s.sys.dip = none) :
    vddaWarn mv s = (excClearAll evDip (dipBegun mv s)).setFlag .PWR_STAT_WARN true := by
  simp only [vddaWarn, h]
  rfl

theorem kept_dipBegun (mv : Nat) (s : State) :
    Kept [] [] { s with sys := { s.sys with dip := some ⟨s.now, none, mv⟩ } } (dipBegun mv s) :=
  (Kept.refl _).forEach fun n _ _ h => h.modSlice n _

/-- An event of R259 no longer holds an output once it has been taken from all of them. -/
theorem not_mem_clearBy_excUnclear (ev : Nat) (s : State) : ∀ k < 4, ev ∉ ((forEach 4 (excUnclear ev) s).excOut k).clearBy := by
  have hexc : ∀ i j t, ((excUnclear ev i t).excOut j).clearBy =
      if i = j ∧ j < t.exc.length then (t.excOut j).clearBy.filter (· != ev) else (t.excOut j).clearBy := by
    intro i j t
    have h : (excUnclear ev i t).excOut j = (t.modExc i (fun x => { x with clearBy := x.clearBy.filter (· != ev) })).excOut j :=
      rfl
    rw [h, excOut_modExc]
    split <;> rfl
  refine forEach_establishes (fun k t => ev ∉ (t.excOut k).clearBy) _ 4 s (fun i t _ => ?_) fun i j t _ _ hne hj => ?_
  · rw [hexc]
    split
    · simp
    · rename_i hlen
      have hdefault : t.excOut i = {} := nth_of_length_le (by omega)
      rw [hdefault]
      simp
  · rw [hexc, if_neg (by omega)]
    exact hj

/-- The dip is over: WARN clears, the outputs are released, and the record is made. -/
def dipEnded (dur low : Nat) (s : State) : State :=
  mkRecord 0x080 clsInfo [dur, low] (forEach 4 (excUnclear evDip) (({ s with sys := { s.sys with dip := none } }).setFlag
    .PWR_STAT_WARN false))

theorem kept_dipEnded (dur low : Nat) (s : State) : Kept [9, 10, 11] []
    (({ s with sys := { s.sys with dip := none } }).setFlag .PWR_STAT_WARN false) (dipEnded dur low s) :=
  ((Kept.refl _).forEach fun k _ _ h => h.excUnclear evDip k).mkRecord (by decide) _ _ _

theorem dipConfirm_of_rise {start rise low : Nat} {s : State} (h : s.sys.dip = some ⟨start, some rise, low⟩) :
    dipConfirm s = (((dipEnded (min 65535 (usOf (rise - start))) low s).setRegN Reg.SYS_DIPT
      (min 65535 (usOf (rise - start)))).setRegN Reg.SYS_DIPMIN low).setFlag .SYS_STAT_DIP true := by
  simp only [dipConfirm, h]
  rfl

theorem dipEnded_exc (dur low : Nat) (s : State) : (dipEnded dur low s).exc = (forEach 4 (excUnclear evDip)
    (({ s with sys := { s.sys with dip := none } }).setFlag .PWR_STAT_WARN false)).exc := by
  unfold dipEnded
  rw [(onlyRecord_mkRecord _ _ _ _).eq]

/-- Settles O16: the first crossing by the frames of the clear state, the confirmation by those of a record. -/
theorem supplyDipIsRecorded : Obligations.SupplyDipIsRecorded := by
  refine ⟨fun mv s hmv hdip => ⟨_, answerIf_next.mpr ⟨decide_eq_true hmv, rfl⟩, ?_⟩,
    fun mv d s hmv hdip => ⟨_, answerIf_next.mpr ⟨decide_eq_true hmv, rfl⟩, by simp only [vddaWarn, hdip]⟩,
    fun mv d s hmv hdip => ⟨_, answerIf_next.mpr ⟨decide_eq_true hmv, rfl⟩, by simp only [vddaRise, hdip]⟩,
    fun start rise low s hdip => ⟨_, rfl, ?_⟩,
    fun mv s hmv hdip => ⟨_, answerIf_next.mpr ⟨decide_eq_true hmv, rfl⟩, by simp only [vddaRise, hdip]⟩,
    fun start low s hdip => ⟨_, rfl, by rcases hdip with h | h <;> simp only [dipConfirm, h]⟩⟩
  · rw [vddaWarn_first hdip]
    have hkept := ((kept_dipBegun mv s).mono (cs := [5]) (by decide) (List.Subset.refl _)).excClearAll (by decide) evDip
    refine ⟨by rw [setFlag_sys, hkept.sys], ?_, fun k hk => ?_, ?_, ?_, ?_⟩
    · exact flag_setFlag_same _ _ _ (by decide) rfl
    · have hbit := fldBit_excClearAll evDip (dipBegun mv s) k hk
      simp only [State.fldBit] at hbit ⊢
      rw [fld_setFlag_other _ _ _ _ (by decide) (by decide)]
      exact hbit
    · exact ((allSupd_dipBegun mv s).excClearAll evDip).of_slices (setFlag_slices _ _ _)
    · exact ((FieldsKept.of_regs (dipBegun_regs mv s)).excClearAll (by simp) evDip).setFlag (by simp) (by decide)
    · exact hkept.mem.trans ((OnlyRegs.refl _).setFlag _ _).memKept
  · rw [dipConfirm_of_rise hdip]
    have hkept := kept_dipEnded (min 65535 (usOf (rise - start))) low s
    have hexc := dipEnded_exc (min 65535 (usOf (rise - start))) low s
    generalize hdur : min 65535 (usOf (rise - start)) = dur at *
    generalize dipEnded dur low s = u at *
    have hlt : dur < 65536 := by omega
    refine ⟨by simp only [setFlag_sys, setRegN_sys, hkept.sys], ?_, flag_setFlag_same _ _ _ (by decide) rfl, ?_, ?_, fun k hk => ?_, ?_,
      hkept.mem.trans ((((OnlyRegs.refl u).setRegN _ _).setRegN _ _).setFlag _ _).memKept⟩
    · have hwarn : u.flag .PWR_STAT_WARN = false :=
        (hkept.regs.flag (g := .PWR_STAT_WARN) (by decide) (by decide)).trans (flag_setFlag_same _ _ _ (by decide) rfl)
      rw [State.warn, flag_setFlag_other _ _ _ _ (by decide) (by decide), State.flag,
        State.setRegN, State.setRegN, fld_setReg_other _ _ _ _ (by decide), fld_setReg_other _ _ _ _ (by decide)]
      exact hwarn
    · rw [State.regN, reg_setFlag, if_neg (by decide), State.setRegN, reg_setReg_other _ _ _ _ (by decide)]
      exact (regN_setRegN_same u Reg.SYS_DIPT dur).trans (by rw [Nat.mod_eq_of_lt hlt, ← hdur, usOf])
    · rw [State.regN, reg_setFlag, if_neg (by decide)]
      exact regN_setRegN_same _ _ _
    · have hout : u.excOut k = (forEach 4 (excUnclear evDip)
          (({ s with sys := { s.sys with dip := none } }).setFlag .PWR_STAT_WARN false)).excOut k := by
        rw [State.excOut, State.excOut, hexc]
      exact hout ▸ not_mem_clearBy_excUnclear evDip _ k hk
    · have hstart : BlocksKept [0, 1, 9, 10, 11] s
          (({ s with sys := { s.sys with dip := none } }).setFlag .PWR_STAT_WARN false) :=
        FieldsKept.blocks (fs := [.PWR_STAT_WARN]) (.setFlag (.of_regs rfl) (by simp) (by decide)) (by decide)
      have hend : BlocksKept [0, 1, 9, 10, 11] u (((u.setRegN Reg.SYS_DIPT dur).setRegN Reg.SYS_DIPMIN low).setFlag
          .SYS_STAT_DIP true) :=
        FieldsKept.blocks (fs := [wholeReg Reg.SYS_DIPT, wholeReg Reg.SYS_DIPMIN, .SYS_STAT_DIP])
          (.setFlag (.setRegN (.setRegN (.refl _ u) (by simp)) (by simp)) (by simp) (by decide)) (by decide)
      exact (hstart.trans (hkept.regs.blocksKept (by decide) (by decide))).trans hend

end Sys2Proof.Machine
end

section
/-! Rules of the power arbiter (R43 to R50): leases, the waiting list where it is short, and what a grant depends on. -/

namespace Sys2Proof.Machine

/-! ### Leases -/

theorem lease_setLease {r : Requester} (hr : takesLease r = true) (l : Lease) (s : State) (q : Requester) :
    (setLease r l s).lease q = if q = r then l else s.lease q := by
  cases r with
  | exc => cases q <;> rfl
  | host => cases q <;> rfl
  | rope => cases q <;> rfl
  | nvm => cases hr
  | xmem => cases hr

theorem grantFld_width (r : Requester) : (grantFld r).lo + (grantFld r).width ≤ 16 ∧ (grantFld r).width = 3 := by
  cases r <;> decide

theorem fld_grant_setFld (r : Requester) {v : Nat} (hv : v < 8) (s : State) :
    (s.setFld (grantFld r) v).fld (grantFld r) = v := by
  rw [fld_setFld_same _ _ _ (grantFld_width r).1, (grantFld_width r).2]
  exact Nat.mod_eq_of_lt hv

theorem fld_grant_setLease {r : Requester} (hr : takesLease r = true) {l : Lease} (hl : l.state < 8) (s : State) :
    (setLease r l s).fld (grantFld r) = l.state := by
  cases r with
  | exc => exact fld_grant_setFld .exc hl _
  | host => exact fld_grant_setFld .host hl _
  | rope => exact fld_grant_setFld .rope hl _
  | nvm => cases hr
  | xmem => cases hr

theorem FieldsKept.setLease {fs : List Fld} {s t : State} (h : FieldsKept fs s t) {r : Requester} (hf : grantFld r ∈ fs)
    (l : Lease) : FieldsKept fs s (Machine.setLease r l t) := by
  cases r with
  | exc => exact FieldsKept.setFld (h.trans (.of_regs rfl)) hf (by decide)
  | host => exact FieldsKept.setFld (h.trans (.of_regs rfl)) hf (by decide)
  | rope => exact FieldsKept.setFld (h.trans (.of_regs rfl)) hf (by decide)
  | nvm => exact h
  | xmem => exact h

/-- Setting a lease changes registers and leases. -/
theorem setLease_rest (r : Requester) (l : Lease) (s : State) : setLease r l s = { s with
    regs := (setLease r l s).regs
    pwr := { s.pwr with exc := (setLease r l s).pwr.exc, host := (setLease r l s).pwr.host,
                        rope := (setLease r l s).pwr.rope } } := by
  cases r <;> rfl

@[simp] theorem setLease_waiting (r : Requester) (l : Lease) (s : State) :
    (setLease r l s).pwr.waiting = s.pwr.waiting := by rw [setLease_rest]
@[simp] theorem setLease_granted (r : Requester) (l : Lease) (s : State) :
    (setLease r l s).pwr.granted = s.pwr.granted := by rw [setLease_rest]
@[simp] theorem setLease_sys (r : Requester) (l : Lease) (s : State) : (setLease r l s).sys = s.sys := by rw [setLease_rest]
@[simp] theorem setLease_tab (r : Requester) (l : Lease) (s : State) : (setLease r l s).tab = s.tab := by rw [setLease_rest]

theorem reg_setLease_other {r : Requester} {l : Lease} {s : State} {a : Nat} (h : a ≠ Reg.PWR_GRANT) :
    (setLease r l s).reg a = s.reg a :=
  (FieldsKept.setLease (.refl [grantFld r] s) (by simp) l).reg (by simpa [grantFld_addr] using h.symm)

/-! ### What is shown -/

theorem FieldsKept.showBudget {fs : List Fld} {s t : State} (h : FieldsKept fs s t) (h0 : wholeReg Reg.PWR_FREE ∈ fs)
    (h1 : wholeReg Reg.PWR_LOAD ∈ fs) : FieldsKept fs s (Machine.showBudget t) := (h.setRegN h0).setRegN h1

theorem onlyRegs_showBudget (s : State) : OnlyRegs s (showBudget s) := ((OnlyRegs.refl s).setRegN _ _).setRegN _ _

@[simp] theorem showBudget_pwr (s : State) : (showBudget s).pwr = s.pwr := by rw [(onlyRegs_showBudget s).eq]

theorem lease_of_pwr {s t : State} (h : t.pwr = s.pwr) (q : Requester) : t.lease q = s.lease q := by
  cases q <;> simp [State.lease, h]

theorem fld_showBudget {f : Fld} (h0 : f.addr ≠ Reg.PWR_FREE) (h1 : f.addr ≠ Reg.PWR_LOAD) (s : State) :
    (showBudget s).fld f = s.fld f :=
  (fld_setReg_other _ _ _ _ (Ne.symm h1)).trans (fld_setReg_other _ _ _ _ (Ne.symm h0))

theorem freeCredits_lt (s : State) : s.freeCredits < 65536 := by
  have h := regN_lt s Reg.PWR_STORE
  unfold State.freeCredits
  omega

theorem regN_FREE_showBudget (s : State) : (showBudget s).regN Reg.PWR_FREE = s.freeCredits := by
  have h : (showBudget s).regN Reg.PWR_FREE = (s.setRegN Reg.PWR_FREE s.freeCredits).regN Reg.PWR_FREE :=
    congrArg BitVec.toNat (reg_setReg_other _ _ _ _ (by decide))
  rw [h, regN_setRegN_same, Nat.mod_eq_of_lt (freeCredits_lt s)]

/-! ### A short waiting list -/

/-- The grant of one waiting request. -/
def tryGrant (b : Burst) (s : State) : Option State := if b.tag = leaseTag then tryLease b.who s else tryBurst b s

theorem byPriority_nil : byPriority [] = [] := rfl

theorem byPriority_singleton (b : Burst) : byPriority [b] = [b] := by
  obtain ⟨who, credits, tag⟩ := b
  cases who <;> rfl

/-- With nothing waiting the arbiter only shows the budget. -/
theorem arbitrate_nil {s : State} (h : s.pwr.waiting = []) : arbitrate s = showBudget s := by
  have hs : serve (byPriority s.pwr.waiting) s = ([], s) := by rw [h]; rfl
  unfold arbitrate
  rw [hs]
  change showBudget { s with pwr := { s.pwr with waiting := [] } } = _
  rw [← h]

theorem arbitrate_of_granted {b : Burst} {s t : State} (h : s.pwr.waiting = [b]) (hg : tryGrant b s = some t) :
    arbitrate s = showBudget { t with pwr := { t.pwr with waiting := [] } } := by
  have hs : serve (byPriority s.pwr.waiting) s = ([], t) := by
    rw [h, byPriority_singleton, serve]
    unfold tryGrant at hg
    rw [hg]
    rfl
  unfold arbitrate
  rw [hs]

theorem arbitrate_of_refused {b : Burst} {s : State} (h : s.pwr.waiting = [b]) (hg : tryGrant b s = none) :
    arbitrate s = showBudget s := by
  have hs : serve (byPriority s.pwr.waiting) s = ([b], s) := by
    rw [h, byPriority_singleton, serve]
    unfold tryGrant at hg
    rw [hg]
  unfold arbitrate
  rw [hs]
  change showBudget { s with pwr := { s.pwr with waiting := [b] } } = _
  rw [← h]

/-! ### A lease request on an empty waiting list (R47) -/

/-- The lease of r waits for a power, alone. -/
def leaseWaits (r : Requester) (l : Lease) (s : State) : State :=
  { setLease r l s with pwr := { (setLease r l s).pwr with waiting := [⟨r, 0, leaseTag⟩] } }

/-- A lease that waits with its power. -/
def waitingFor (want : Nat) : Lease := { state := gWait, want := want, guar := 0, opp := 0, cover := 0 }

theorem requestLease_eq {r : Requester} {want : Nat} {s : State} (h : s.pwr.waiting = []) :
    requestLease r want s = arbitrate (leaseWaits r (waitingFor want) s) := by
  have hwait : (setLease r (waitingFor want) s).pwr.waiting = [] := by rw [setLease_waiting, h]
  unfold requestLease leaseWaits dropWaiting
  change arbitrate { setLease r (waitingFor want) s with pwr := { (setLease r (waitingFor want) s).pwr with
    waiting := (setLease r (waitingFor want) s).pwr.waiting.filter _ ++ _ } } = _
  rw [hwait]
  rfl

@[simp] theorem leaseWaits_waiting (r : Requester) (l : Lease) (s : State) :
    (leaseWaits r l s).pwr.waiting = [⟨r, 0, leaseTag⟩] := rfl
@[simp] theorem leaseWaits_granted (r : Requester) (l : Lease) (s : State) :
    (leaseWaits r l s).pwr.granted = s.pwr.granted := setLease_granted r l s
@[simp] theorem leaseWaits_sys (r : Requester) (l : Lease) (s : State) : (leaseWaits r l s).sys = s.sys := setLease_sys r l s

theorem lease_leaseWaits {r : Requester} (hr : takesLease r = true) (l : Lease) (s : State) (q : Requester) :
    (leaseWaits r l s).lease q = if q = r then l else s.lease q := by
  rw [← lease_setLease hr l s q]
  cases q <;> rfl

theorem reg_leaseWaits {r : Requester} {l : Lease} {s : State} {a : Nat} (h : a ≠ Reg.PWR_GRANT) :
    (leaseWaits r l s).reg a = s.reg a := reg_setLease_other h

theorem fieldsKept_leaseWaits (r : Requester) (l : Lease) (s : State) : FieldsKept [grantFld r] s (leaseWaits r l s) :=
  (FieldsKept.setLease (.refl _ s) (by simp) l).trans (.of_regs rfl)

theorem fld_leaseWaits {r : Requester} {l : Lease} {s : State} {f : Fld} (h : f.addr ≠ Reg.PWR_GRANT) :
    (leaseWaits r l s).fld f = s.fld f := by simp only [State.fld, reg_leaseWaits h]

theorem activeCfg_congr {s t : State} (hreg : ∀ a, 0x40 ≤ a → t.reg a = s.reg a) (htab : t.tab = s.tab) :
    t.activeCfg = s.activeCfg := by
  have hexc : t.excRegs = s.excRegs := by
    funext k
    have hcfg : 0x40 ≤ Reg.EXC_CFG k := by simp only [Reg.EXC_CFG]; omega
    have hcode : 0x40 ≤ Reg.EXC_CODE k := by simp only [Reg.EXC_CODE]; omega
    have hclr : 0x40 ≤ Reg.EXC_CLR k := by simp only [Reg.EXC_CLR]; omega
    have hfreq : 0x40 ≤ Reg.EXC_FREQ k := by simp only [Reg.EXC_FREQ]; omega
    have hphase : 0x40 ≤ Reg.EXC_PHASE k := by simp only [Reg.EXC_PHASE]; omega
    simp only [State.excRegs, hreg _ hcfg, hreg _ hcode, hreg _ hclr, hreg _ hfreq, hreg _ (Nat.le_succ_of_le hfreq),
      hreg _ hphase]
  have htopo : t.topoEntry = s.topoEntry := by funext e; simp only [State.topoEntry, htab]
  have hroute : t.routeEntry = s.routeEntry := by funext r; simp only [State.routeEntry, htab]
  simp only [State.activeCfg, hexc, htopo, hroute]

theorem reg32_congr {s t : State} {a : Nat} (h0 : t.reg a = s.reg a) (h1 : t.reg (a + 1) = s.reg (a + 1)) :
    t.reg32 a = s.reg32 a := by simp only [State.reg32, State.regN, h0, h1]

/-- What is left of the guaranteed budget for a requester does not depend on its own lease. -/
theorem guarLeft_leaseWaits {r : Requester} (hr : takesLease r = true) (l : Lease) (s : State) :
    guarLeft (leaseWaits r l s) r = guarLeft s r := by
  have hreg : ∀ a, a ≠ Reg.PWR_GRANT → (leaseWaits r l s).reg a = s.reg a := fun a ha => reg_leaseWaits ha
  have hprofile : (leaseWaits r l s).profile = s.profile := fld_leaseWaits (by decide)
  have hguar : (leaseWaits r l s).regN Reg.PWR_GUAR = s.regN Reg.PWR_GUAR := by
    simp only [State.regN, hreg _ (show Reg.PWR_GUAR ≠ Reg.PWR_GRANT by decide)]
  have hcfg := activeCfg_congr (fun a ha => hreg a (Nat.ne_of_gt (Nat.lt_of_lt_of_le (by decide) ha)))
    (setLease_tab r l s)
  have hspeed : (leaseWaits r l s).speed = s.speed := reg32_congr (hreg _ (by decide)) (hreg _ (by decide))
  have hlease := lease_leaseWaits hr l s
  cases r with
  | exc => simp [guarLeft, hguar, hprofile, hlease, rank]
  | host =>
    have hkept : hostKeptBack (leaseWaits .host l s) = hostKeptBack s := by
      have hrope : (leaseWaits .host l s).pwr.rope = s.pwr.rope := rfl
      simp only [hostKeptBack, hprofile, hcfg, hspeed, hrope]
    simp only [guarLeft, hguar, hprofile, hkept]
    simp [hlease, rank, List.filter_cons]
    split <;> simp
  | rope =>
    simp only [guarLeft, hguar, hprofile]
    simp [hlease, rank, List.filter_cons]
    split <;> split <;> simp
  | nvm => cases hr
  | xmem => cases hr

/-! ### Granting a lease -/

/-- A lease granted whole from the guaranteed budget. -/
def wholeGrant (want : Nat) : Lease := { state := gGrant, want := want, guar := want, opp := 0, cover := 0 }

theorem tryGrant_lease (r : Requester) (s : State) : tryGrant ⟨r, 0, leaseTag⟩ s = tryLease r s := if_pos rfl

theorem tryLease_whole {r : Requester} {s : State} (hheld : s.sys.held = false)
    (hallow : leaseAllowed s.profile r = true) (hcover : (s.lease r).want ≤ guarLeft s r) :
    tryLease r s = some (onLease r (wholeGrant (s.lease r).want) (setLease r (wholeGrant (s.lease r).want) s)) := by
  unfold tryLease
  dsimp only
  rw [Nat.min_eq_left hcover, hheld, hallow, Nat.sub_self]
  rfl

theorem tryLease_refused {r : Requester} {s : State} (h : s.sys.held = true ∨ leaseAllowed s.profile r = false ∨
    (guarLeft s r < (s.lease r).want ∧ s.flag .PWR_CFG_OPPEN = false)) : tryLease r s = none := by
  unfold tryLease
  dsimp only
  rcases h with h | h | ⟨hg, h⟩
  · simp [h]
  · simp [h]
  · have hne : ¬ (s.lease r).want - min (s.lease r).want (guarLeft s r) = 0 := by omega
    simp [h, hne]

theorem forEach_excUnclear_rest (ev n : Nat) (s : State) : forEach n (excUnclear ev) s =
    { s with exc := (forEach n (excUnclear ev) s).exc, conns := (forEach n (excUnclear ev) s).conns } :=
  forEach_keeps (fun t => t = { s with exc := t.exc, conns := t.conns }) _ n s rfl fun k t _ ht => by
    rw [ht]
    rfl

/-- What a granted lease does changes registers, the host's notice and keep-alive, and the excitation's connections. -/
theorem onLease_rest (r : Requester) (l : Lease) (s : State) : onLease r l s = { s with
    regs := (onLease r l s).regs, pwr := { s.pwr with hostNotice := (onLease r l s).pwr.hostNotice }
    exc := (onLease r l s).exc, conns := (onLease r l s).conns, flt := (onLease r l s).flt } := by
  cases r with
  | exc =>
    have h : onLease .exc l s = forEach 4 (excUnclear evLease) s := rfl
    rw [h, forEach_excUnclear_rest]
  | host =>
    unfold onLease State.when
    dsimp only
    split <;> split <;> rfl
  | rope => rfl
  | nvm => rfl
  | xmem => rfl

@[simp] theorem lease_onLease (r : Requester) (l : Lease) (s : State) (q : Requester) :
    (onLease r l s).lease q = s.lease q := by
  rw [onLease_rest]
  cases q <;> rfl

@[simp] theorem onLease_granted (r : Requester) (l : Lease) (s : State) :
    (onLease r l s).pwr.granted = s.pwr.granted := by rw [onLease_rest]

theorem fieldsKept_onLease (r : Requester) (l : Lease) (s : State) :
    FieldsKept [wholeReg Reg.PWR_HOSTG, .PWR_STAT_HWDR] s (onLease r l s) := by
  cases r with
  | exc =>
    have h : onLease .exc l s = forEach 4 (excUnclear evLease) s := rfl
    rw [h, forEach_excUnclear_rest]
    exact .of_regs rfl
  | host =>
    have hset : FieldsKept [wholeReg Reg.PWR_HOSTG, .PWR_STAT_HWDR] s
        ((s.setFlag .PWR_HOSTG_VHSTON true).setFld .PWR_HOSTG_HOSTG (l.guar + l.opp)) :=
      (FieldsKept.setReg (.setReg (.refl _ s) (by simp)) (by simp))
    unfold onLease State.when
    dsimp only
    split <;> split <;> first
      | exact hset.trans (.of_regs rfl)
      | exact (hset.setFlag (f := .PWR_STAT_HWDR) (b := true) (by simp) (by decide)).trans (.of_regs rfl)
  | rope => exact .refl _ s
  | nvm => exact .refl _ s
  | xmem => exact .refl _ s

/-- The host's supply is on at the power granted (R50). -/
theorem host_onLease (l : Lease) (s : State) : (onLease .host l s).flag .PWR_HOSTG_VHSTON = true ∧
    (onLease .host l s).fld .PWR_HOSTG_HOSTG = (l.guar + l.opp) % 256 ∧
    (s.flag .PWR_HOSTG_VHSTON = true → l.guar + l.opp < s.fld .PWR_HOSTG_HOSTG →
      (onLease .host l s).flag .PWR_STAT_HWDR = true ∧ (onLease .host l s).pwr.hostNotice = true) := by
  have hon : ((s.setFlag .PWR_HOSTG_VHSTON true).setFld .PWR_HOSTG_HOSTG (l.guar + l.opp)).flag .PWR_HOSTG_VHSTON = true :=
    (flag_setFld_other _ _ _ _ (by decide) (by decide)).trans (flag_setFlag_same _ _ _ (by decide) rfl)
  have hpower : ((s.setFlag .PWR_HOSTG_VHSTON true).setFld .PWR_HOSTG_HOSTG (l.guar + l.opp)).fld .PWR_HOSTG_HOSTG =
      (l.guar + l.opp) % 256 := fld_setFld_same _ .PWR_HOSTG_HOSTG _ (by decide)
  unfold onLease
  dsimp only
  generalize (s.setFlag .PWR_HOSTG_VHSTON true).setFld .PWR_HOSTG_HOSTG (l.guar + l.opp) = u at hon hpower ⊢
  have hnotice : ∀ c, (u.when c (fun t => t.setFlag .PWR_STAT_HWDR true)).flag .PWR_HOSTG_VHSTON = true ∧
      (u.when c (fun t => t.setFlag .PWR_STAT_HWDR true)).fld .PWR_HOSTG_HOSTG = (l.guar + l.opp) % 256 := by
    intro c
    cases c
    · exact ⟨hon, hpower⟩
    · exact ⟨(flag_setFlag_other _ _ _ _ (by decide) (by decide)).trans hon,
        (fld_setFlag_other _ _ _ _ (by decide) (by decide)).trans hpower⟩
  by_cases hwas : s.flag .PWR_HOSTG_VHSTON = true
  · rw [if_pos hwas, hwas]
    refine ⟨(hnotice _).1, (hnotice _).2, fun _ hlower => ?_⟩
    rw [decide_eq_true hlower]
    exact ⟨flag_setFlag_same _ _ _ (by decide) rfl, by simp⟩
  · rw [if_neg hwas]
    exact ⟨(hnotice _).1, (hnotice _).2, fun h => absurd h hwas⟩

/-- Only what the grant of a lease changes may differ. -/
def OnlyGrant (s t : State) : Prop := ∃ r p e c f, t = { s with regs := r, pwr := p, exc := e, conns := c, flt := f }

theorem OnlyGrant.trans {s t u : State} (h : OnlyGrant s t) (k : OnlyGrant t u) : OnlyGrant s u := by
  obtain ⟨r, p, e, c, f, rfl⟩ := h
  obtain ⟨r', p', e', c', f', rfl⟩ := k
  exact ⟨r', p', e', c', f', rfl⟩

theorem OnlyGrant.eq {s t : State} (h : OnlyGrant s t) :
    t = { s with regs := t.regs, pwr := t.pwr, exc := t.exc, conns := t.conns, flt := t.flt } := by
  obtain ⟨r, p, e, c, f, rfl⟩ := h
  rfl

/-! ### A request granted, and one that waits -/

/-- A requester's lease has been granted from the waiting list. -/
def leaseGranted (r : Requester) (l : Lease) (s : State) : State :=
  showBudget { onLease r l (setLease r l (leaseWaits r (waitingFor l.want) s)) with
    pwr := { (onLease r l (setLease r l (leaseWaits r (waitingFor l.want) s))).pwr with waiting := [] } }

theorem requestLease_of_granted {r : Requester} {want : Nat} {l : Lease} {s : State} (hw : s.pwr.waiting = [])
    (hl : l.want = want) (h : tryLease r (leaseWaits r (waitingFor want) s) =
      some (onLease r l (setLease r l (leaseWaits r (waitingFor want) s)))) :
    requestLease r want s = leaseGranted r l s := by
  subst hl
  rw [requestLease_eq hw]
  exact arbitrate_of_granted (leaseWaits_waiting _ _ s) ((tryGrant_lease r _).trans h)

theorem requestLease_of_refused {r : Requester} {want : Nat} {s : State} (hw : s.pwr.waiting = [])
    (h : tryLease r (leaseWaits r (waitingFor want) s) = none) :
    requestLease r want s = showBudget (leaseWaits r (waitingFor want) s) := by
  rw [requestLease_eq hw]
  exact arbitrate_of_refused (leaseWaits_waiting _ _ s) ((tryGrant_lease r _).trans h)

/-- The registers that a grant of r's lease may change. -/
def leaseFields (r : Requester) : List Fld :=
  [grantFld r, wholeReg Reg.PWR_FREE, wholeReg Reg.PWR_LOAD, wholeReg Reg.PWR_HOSTG, .PWR_STAT_HWDR]

theorem fieldsKept_leaseGranted (r : Requester) (l : Lease) (s : State) :
    FieldsKept (leaseFields r) s (leaseGranted r l s) := by
  refine FieldsKept.showBudget ?_ (by simp [leaseFields]) (by simp [leaseFields])
  refine FieldsKept.trans ?_ (.of_regs rfl)
  refine FieldsKept.trans (FieldsKept.setLease ((fieldsKept_leaseWaits r _ s).mono ?_) (by simp [leaseFields]) l)
    ((fieldsKept_onLease r l _).mono ?_)
  · simp [leaseFields]
  · simp [leaseFields]

theorem lease_leaseGranted {r : Requester} (hr : takesLease r = true) (l : Lease) (s : State) (q : Requester) :
    (leaseGranted r l s).lease q = if q = r then l else s.lease q := by
  have h : (leaseGranted r l s).lease q = (onLease r l (setLease r l (leaseWaits r (waitingFor l.want) s))).lease q := by
    unfold leaseGranted
    rw [lease_of_pwr (showBudget_pwr _)]
    cases q <;> rfl
  rw [h, lease_onLease, lease_setLease hr, lease_leaseWaits hr]
  split <;> rfl

theorem fld_grant_leaseGranted {r : Requester} (hr : takesLease r = true) {l : Lease} (hl : l.state < 8) (s : State) :
    (leaseGranted r l s).fld (grantFld r) = l.state := by
  unfold leaseGranted
  rw [fld_showBudget (by rw [grantFld_addr]; decide) (by rw [grantFld_addr]; decide)]
  have h := (fieldsKept_onLease r l (setLease r l (leaseWaits r (waitingFor l.want) s))).fld (g := grantFld r)
    (by cases r <;> decide)
  exact h.trans (fld_grant_setLease hr hl _)

theorem leaseGranted_waiting (r : Requester) (l : Lease) (s : State) : (leaseGranted r l s).pwr.waiting = [] := by
  unfold leaseGranted
  rw [showBudget_pwr]

theorem leaseGranted_granted (r : Requester) (l : Lease) (s : State) :
    (leaseGranted r l s).pwr.granted = s.pwr.granted := by
  unfold leaseGranted
  rw [showBudget_pwr, onLease_granted, setLease_granted, leaseWaits_granted]

theorem leaseGranted_rest (r : Requester) (l : Lease) (s : State) : leaseGranted r l s = { s with
    regs := (leaseGranted r l s).regs, pwr := (leaseGranted r l s).pwr, exc := (leaseGranted r l s).exc
    conns := (leaseGranted r l s).conns, flt := (leaseGranted r l s).flt } := by
  have hset : ∀ u : State, OnlyGrant u (setLease r l u) := fun u => ⟨_, _, _, _, _, setLease_rest r l u⟩
  have hwait : OnlyGrant s (leaseWaits r (waitingFor l.want) s) :=
    OnlyGrant.trans ⟨_, _, _, _, _, setLease_rest r (waitingFor l.want) s⟩ ⟨_, _, _, _, _, rfl⟩
  have hon : ∀ u : State, OnlyGrant u (onLease r l u) := fun u => ⟨_, _, _, _, _, onLease_rest r l u⟩
  have hshow : ∀ u : State, OnlyGrant u (showBudget u) := fun u => ⟨_, _, _, _, _, (onlyRegs_showBudget u).eq⟩
  exact ((((hwait.trans (hset _)).trans (hon _)).trans ⟨_, _, _, _, _, rfl⟩).trans (hshow _)).eq

theorem flag_VHSTON_leaseGranted (l : Lease) (s : State) : (leaseGranted .host l s).flag .PWR_HOSTG_VHSTON = true := by
  have h : (leaseGranted .host l s).fld .PWR_HOSTG_VHSTON =
      (onLease .host l (setLease .host l (leaseWaits .host (waitingFor l.want) s))).fld .PWR_HOSTG_VHSTON := by
    unfold leaseGranted
    rw [fld_showBudget (by decide) (by decide)]
    rfl
  rw [State.flag, h]
  exact (host_onLease l _).1

end Sys2Proof.Machine
end

section
/-! Proofs about leases (R47, R48, R50). -/

namespace Sys2Proof.Machine

theorem takesLease_operand {r : Requester} (h : takesLease r = true) : (r == .exc || r == .host || r == .rope) = true := by
  cases r with
  | exc => rfl
  | host => rfl
  | rope => rfl
  | nvm => cases h
  | xmem => cases h

theorem exec_leaseRequest {r : Requester} (h : takesLease r = true) (power : Nat) (s : State) :
    exec (.leaseRequest r power) s = .next (requestLease r power s) :=
  answerIf_next.mpr ⟨takesLease_operand h, rfl⟩

/-- Both commands that say a withdrawn consumer is at its level do the same. -/
theorem exec_level {c : Instr} {r : Requester} (hc : c = .leaseLevelReached r ∨ c = .leaseWithdrawDeadline r)
    (h : takesLease r = true) (s : State) : exec c s = .next (reportLevel r s) := by
  rcases hc with rfl | rfl <;> exact answerIf_next.mpr ⟨takesLease_operand h, rfl⟩

theorem grantedLease_want {r : Requester} (hr : takesLease r = true) (power : Nat) (s : State) :
    (leaseWaits r (waitingFor power) s).lease r = waitingFor power := by
  rw [lease_leaseWaits hr, if_pos rfl]

theorem profile_leaseWaits (r : Requester) (l : Lease) (s : State) : (leaseWaits r l s).profile = s.profile :=
  fld_leaseWaits (by decide)

/-- A request that the guaranteed budget covers is granted whole (R47). -/
theorem requestLease_whole {r : Requester} {power : Nat} {s : State} (hr : takesLease r = true)
    (hheld : s.sys.held = false) (hw : s.pwr.waiting = []) (hallow : leaseAllowed s.profile r = true)
    (hcover : power ≤ guarLeft s r) : requestLease r power s = leaseGranted r (wholeGrant power) s := by
  have hlease := grantedLease_want hr power s
  refine requestLease_of_granted hw rfl ?_
  have h := tryLease_whole (r := r) (s := leaseWaits r (waitingFor power) s) (by rw [leaseWaits_sys, hheld])
    (by rw [profile_leaseWaits, hallow]) (by rw [hlease, guarLeft_leaseWaits hr]; exact hcover)
  rwa [hlease] at h

/-- A lease granted in part from the opportunistic power, with its cover. -/
def partGrant (want guar : Nat) : Lease :=
  { state := gGrantOpp, want := want, guar := guar, opp := want - guar, cover := coverOf (want - guar) }

theorem oppOthers_leaseWaits {r : Requester} (hr : takesLease r = true) (l : Lease) (s : State) :
    oppOthers (leaseWaits r l s) r = oppOthers s r := by
  have hlease := lease_leaseWaits hr l s
  cases r with
  | exc => simp [oppOthers, hlease]
  | host => simp [oppOthers, hlease]
  | rope => simp [oppOthers, hlease]
  | nvm => cases hr
  | xmem => cases hr

theorem outstanding_leaseWaits {r : Requester} (hr : takesLease r = true) {l : Lease} {s : State} (hl : l.cover = 0)
    (hs : (s.lease r).cover = 0) : (leaseWaits r l s).outstanding = s.outstanding := by
  have hcover : ∀ q, ((leaseWaits r l s).lease q).cover = (s.lease q).cover := fun q => by
    rw [lease_leaseWaits hr]
    split
    · subst_vars
      rw [hl, hs]
    · rfl
  have hgranted := leaseWaits_granted r l s
  have hexc := hcover .exc
  have hhost := hcover .host
  have hrope := hcover .rope
  generalize leaseWaits r l s = t at *
  simp only [State.lease] at hexc hhost hrope
  simp only [State.outstanding, hgranted, hexc, hhost, hrope]

theorem freeCredits_leaseWaits {r : Requester} (hr : takesLease r = true) {l : Lease} {s : State} (hl : l.cover = 0)
    (hs : (s.lease r).cover = 0) : (leaseWaits r l s).freeCredits = s.freeCredits := by
  have hstore : (leaseWaits r l s).reg Reg.PWR_STORE = s.reg Reg.PWR_STORE := reg_leaseWaits (by decide)
  have hout := outstanding_leaseWaits hr hl hs
  unfold State.freeCredits State.regN
  rw [hstore, hout]

/-- A request that the guaranteed budget covers in part takes the rest from the opportunistic power (R47). -/
theorem requestLease_part {r : Requester} {power : Nat} {s : State} (hr : takesLease r = true)
    (hheld : s.sys.held = false) (hw : s.pwr.waiting = []) (hallow : leaseAllowed s.profile r = true)
    (hpart : guarLeft s r < power) (hopp : s.flag .PWR_CFG_OPPEN = true)
    (hroom : oppOthers s r + (power - guarLeft s r) ≤ s.oppPower) (hzero : (s.lease r).cover = 0)
    (hcredit : coverOf (power - guarLeft s r) ≤ s.freeCredits) (hres : s.flag .PWR_STAT_BELOWRES = false) :
    requestLease r power s = leaseGranted r (partGrant power (guarLeft s r)) s := by
  refine requestLease_of_granted hw rfl ?_
  have hwant : ((leaseWaits r (waitingFor power) s).lease r).want = power := by rw [grantedLease_want hr]; rfl
  have hguar := guarLeft_leaseWaits hr (waitingFor power) s
  have hothers := oppOthers_leaseWaits hr (waitingFor power) s
  have hfree : (leaseWaits r (waitingFor power) s).freeCredits = s.freeCredits := freeCredits_leaseWaits hr rfl hzero
  have hpow : (leaseWaits r (waitingFor power) s).oppPower = s.oppPower := by
    simp only [State.oppPower, State.regN, reg_leaseWaits (show Reg.PWR_AVAIL ≠ Reg.PWR_GRANT by decide),
      reg_leaseWaits (show Reg.PWR_GUAR ≠ Reg.PWR_GRANT by decide)]
  have hen : (leaseWaits r (waitingFor power) s).flag .PWR_CFG_OPPEN = true := by
    rw [State.flag, fld_leaseWaits (by decide)]
    exact hopp
  have hbelow : (leaseWaits r (waitingFor power) s).flag .PWR_STAT_BELOWRES = false := by
    rw [State.flag, fld_leaseWaits (by decide)]
    exact hres
  have hmin : min power (guarLeft s r) = guarLeft s r := Nat.min_eq_right (Nat.le_of_lt hpart)
  have hne : ¬ power - guarLeft s r = 0 := by omega
  unfold tryLease
  simp only [hwant, hguar, hmin, leaseWaits_sys, hheld, profile_leaseWaits, hallow, hothers, hpow, hfree, hen, hbelow,
    hroom, hcredit, hne, decide_true, Bool.not_true, Bool.not_false, Bool.or_self, Bool.and_self, if_true, if_false,
    Bool.false_eq_true]
  rfl

/-- A request that neither covers waits. -/
theorem requestLease_waits {r : Requester} {power : Nat} {s : State} (hr : takesLease r = true) (hw : s.pwr.waiting = [])
    (hpart : guarLeft s r < power) (hopp : s.flag .PWR_CFG_OPPEN = false) :
    requestLease r power s = showBudget (leaseWaits r (waitingFor power) s) := by
  refine requestLease_of_refused hw (tryLease_refused (.inr (.inr ⟨?_, ?_⟩)))
  · rw [guarLeft_leaseWaits hr, grantedLease_want hr]
    exact hpart
  · rw [State.flag, fld_leaseWaits (by decide)]
    exact hopp

/-- What a lease that waits alone shows. -/
theorem leaseWaits_shown {r : Requester} (hr : takesLease r = true) {l : Lease} (hl : l.state = gWait) (s : State) :
    ∀ t, t = showBudget (leaseWaits r l s) → t.lease r = l ∧ t.fld (grantFld r) = gWait ∧
      t.pwr.waiting = [⟨r, 0, leaseTag⟩] ∧ (∀ q : Requester, q ≠ r → t.lease q = s.lease q) ∧
      FieldsKept [grantFld r, wholeReg Reg.PWR_FREE, wholeReg Reg.PWR_LOAD] s t ∧
      t = { s with regs := t.regs, pwr := t.pwr } := by
  rintro t rfl
  have hlease : ∀ q, (showBudget (leaseWaits r l s)).lease q = if q = r then l else s.lease q := fun q => by
    rw [lease_of_pwr (showBudget_pwr _), lease_leaseWaits hr]
  refine ⟨by rw [hlease, if_pos rfl], ?_, by rw [showBudget_pwr]; rfl, fun q hq => by rw [hlease, if_neg hq], ?_, ?_⟩
  · rw [fld_showBudget (by rw [grantFld_addr]; decide) (by rw [grantFld_addr]; decide)]
    exact (fld_grant_setLease hr (by rw [hl]; decide) s).trans hl
  · exact FieldsKept.showBudget ((fieldsKept_leaseWaits r l s).mono (by simp)) (by simp) (by simp)
  · unfold leaseWaits
    rw [(onlyRegs_showBudget _).eq, setLease_rest]

/-! ### A withdrawn consumer at its level (R48) -/

/-- The outputs under the EXC lease go to their clear state where it is the lease given up. -/
def clearedFor (r : Requester) (s : State) : State :=
  match r with
  | .exc => forList (leasedOutputs s) (excClear evLease) s
  | _ => s

theorem clearedFor_of_ne {r : Requester} (h : r ≠ .exc) (s : State) : clearedFor r s = s := by
  cases r with
  | exc => exact absurd rfl h
  | host => rfl
  | rope => rfl
  | nvm => rfl
  | xmem => rfl

/-- Only the registers, the connections, the windows and the outputs may differ. -/
def OnlyClear (s t : State) : Prop := ∃ r e c w, t = { s with regs := r, exc := e, conns := c, slices := w }

theorem OnlyClear.refl (s : State) : OnlyClear s s := ⟨_, _, _, _, rfl⟩

theorem OnlyClear.trans {s t u : State} (h : OnlyClear s t) (k : OnlyClear t u) : OnlyClear s u := by
  obtain ⟨r, e, c, w, rfl⟩ := h
  obtain ⟨r', e', c', w', rfl⟩ := k
  exact ⟨r', e', c', w', rfl⟩

theorem onlyClear_markSupd (k : Nat) (s : State) : OnlyClear s (markSupd k s) :=
  forEach_keeps (OnlyClear s) _ 13 s (.refl s) fun n t _ ht => by
    split
    · exact ht.trans ⟨_, _, _, _, rfl⟩
    · exact ht

theorem onlyClear_excClear (ev k : Nat) (s : State) : OnlyClear s (excClear ev k s) := by
  unfold excClear
  exact OnlyClear.trans ⟨_, _, _, _, rfl⟩ (onlyClear_markSupd k _)

theorem onlyClear_clearedFor (r : Requester) (s : State) : OnlyClear s (clearedFor r s) := by
  cases r with
  | exc => exact forList_keeps (OnlyClear s) _ _ s (.refl s) fun k t _ ht => ht.trans (onlyClear_excClear _ k t)
  | host => exact .refl s
  | rope => exact .refl s
  | nvm => exact .refl s
  | xmem => exact .refl s

theorem mem_leasedOutputs {k : Nat} {s : State} (h : k ∈ leasedOutputs s) : k < 4 :=
  List.mem_range.mp (List.mem_filter.mp h).1

theorem fieldsKept_clearedFor (r : Requester) (s : State) : FieldsKept [.EXC_STAT_CLRST] s (clearedFor r s) := by
  cases r with
  | exc => exact (FieldsKept.refl _ s).forList fun k _ hk h => h.excClear (by simp) evLease (mem_leasedOutputs hk)
  | host => exact .refl _ s
  | rope => exact .refl _ s
  | nvm => exact .refl _ s
  | xmem => exact .refl _ s

theorem forList_cons {α : Type} (x : α) (l : List α) (f : α → State → State) (s : State) :
    forList (x :: l) f s = forList l f (f x s) := rfl

theorem forList_nil {α : Type} (f : α → State → State) (s : State) : forList [] f s = s := rfl

/-- A pass over a list of outputs clears each of them. -/
theorem fldBit_forList_excClear (ev : Nat) : ∀ (l : List Nat) (s : State), (∀ k ∈ l, k < 4) →
    ∀ k ∈ l, (forList l (excClear ev) s).fldBit .EXC_STAT_CLRST k = true := by
  have hstay : ∀ (l : List Nat) (s : State), (∀ k ∈ l, k < 4) → ∀ k < 4, s.fldBit .EXC_STAT_CLRST k = true →
      (forList l (excClear ev) s).fldBit .EXC_STAT_CLRST k = true := by
    intro l
    induction l with
    | nil => exact fun s _ k _ h => h
    | cons j l ih =>
      intro s hl k hk h
      rw [forList_cons]
      refine ih (excClear ev j s) (fun i hi => hl i (List.mem_cons_of_mem _ hi)) k hk ?_
      by_cases hjk : j = k
      · subst hjk
        exact fldBit_excClear_same ev hk s
      · rw [fldBit_excClear_other ev hk (hl j List.mem_cons_self) hjk]
        exact h
  intro l
  induction l with
  | nil => exact fun s _ k hk => absurd hk (by simp)
  | cons j l ih =>
    intro s hl k hk
    rw [forList_cons]
    rcases List.mem_cons.mp hk with rfl | hk
    · exact hstay l _ (fun i hi => hl i (List.mem_cons_of_mem _ hi)) k (hl k List.mem_cons_self)
        (fldBit_excClear_same ev (hl k List.mem_cons_self) s)
    · exact ih (excClear ev j s) (fun i hi => hl i (List.mem_cons_of_mem _ hi)) k hk

theorem reportLevel_idle {r : Requester} {s : State} (h : (s.lease r).state ≠ gWithdraw) : reportLevel r s = s := by
  unfold reportLevel levelReached
  split
  · rfl
  · exact if_neg h

theorem hostAtLevel_iff {s : State} : s.hostAtLevel = true ↔ s.regN Reg.PWR_HOSTI * 33 ≤ s.fld .PWR_HOSTG_HOSTG * 100 :=
  decide_eq_true_iff

theorem levelReached_eq {r : Requester} {s : State} (hw : s.pwr.waiting = [])
    (hst : (s.lease r).state = gWithdraw) :
    levelReached r s = arbitrate (leaseWaits r (waitingFor (s.lease r).want) (clearedFor r s)) := by
  have hwait : (setLease r (waitingFor (s.lease r).want) (clearedFor r s)).pwr.waiting = [] := by
    obtain ⟨q, e, c, w, hc⟩ := onlyClear_clearedFor r s
    rw [setLease_waiting, hc, hw]
  unfold levelReached leaseWaits dropWaiting
  dsimp only
  rw [if_pos hst]
  change arbitrate { setLease r (waitingFor (s.lease r).want) (clearedFor r s) with
    pwr := { (setLease r (waitingFor (s.lease r).want) (clearedFor r s)).pwr with
      waiting := (setLease r (waitingFor (s.lease r).want) (clearedFor r s)).pwr.waiting.filter _ ++ _ } } = _
  rw [hwait]
  rfl

/-- Settles O2: a request by how `tryLease` answers it, a withdrawn lease by `levelReached_eq`. -/
theorem leasesAreGrantedAndReturned : Obligations.LeasesAreGrantedAndReturned := by
  refine ⟨fun r power s hr hheld hw hallow hcover => ⟨_, exec_leaseRequest hr power s, ?_⟩,
    fun r power s hr hheld hw hallow hpart hopp hroom hzero hcredit hres => ⟨_, exec_leaseRequest hr power s, ?_⟩,
    fun r power s hr hw hpart hopp => ⟨_, exec_leaseRequest hr power s, ?_⟩,
    fun c r s hc hr hw hst hallow hlevel => ⟨_, exec_level hc hr s, ?_⟩,
    fun c r s hc hr hst => ⟨_, exec_level hc hr s, reportLevel_idle hst⟩,
    fun c s hc hlevel => ⟨_, exec_level hc rfl s, ?_⟩⟩
  · rw [requestLease_whole hr hheld hw hallow hcover]
    have hlease := lease_leaseGranted hr (wholeGrant power) s
    refine ⟨by rw [hlease, if_pos rfl]; rfl, fld_grant_leaseGranted hr (by simp [wholeGrant, gGrant]) s, leaseGranted_waiting _ _ s, ?_,
      fun q hq => by rw [hlease, if_neg hq], leaseGranted_granted _ _ s, fieldsKept_leaseGranted r _ s, ?_,
      leaseGranted_rest r _ s⟩
    · rintro rfl
      exact flag_VHSTON_leaseGranted _ s
    · rintro rfl
      unfold leaseGranted leaseWaits
      rw [(onlyRegs_showBudget _).eq]
      change _ = { s with regs := _, pwr := { s.pwr with rope := wholeGrant power } }
      rw [show s.pwr = { s.pwr with waiting := [] } by rw [← hw]]
      rfl
  · rw [requestLease_part hr hheld hw hallow hpart hopp hroom hzero hcredit hres]
    have hlease := lease_leaseGranted hr (partGrant power (guarLeft s r)) s
    refine ⟨by rw [hlease, if_pos rfl]; rfl, fld_grant_leaseGranted hr (by simp [partGrant, gGrantOpp]) s, leaseGranted_waiting _ _ s, ?_,
      fun q hq => by rw [hlease, if_neg hq], leaseGranted_granted _ _ s, fieldsKept_leaseGranted r _ s,
      leaseGranted_rest r _ s⟩
    rintro rfl
    exact flag_VHSTON_leaseGranted _ s
  · rw [requestLease_waits hr hw hpart hopp]
    exact leaseWaits_shown hr rfl s _ rfl
  · have hreport : reportLevel r s = showBudget (leaseWaits r (waitingFor (s.lease r).want) (clearedFor r s)) := by
      have hgo : (r == .host && !s.hostAtLevel) = false := by
        by_cases hh : r = .host
        · simp [hostAtLevel_iff.mpr (hlevel hh)]
        · simp [hh]
      have hprofile : (clearedFor r s).profile = s.profile := (fieldsKept_clearedFor r s).fld (by decide)
      rw [reportLevel, hgo, if_neg Bool.false_ne_true, levelReached_eq hw hst]
      refine arbitrate_of_refused (leaseWaits_waiting _ _ _) ((tryGrant_lease r _).trans (tryLease_refused (.inr (.inl ?_))))
      rw [profile_leaseWaits, hprofile, hallow]
    rw [hreport]
    obtain ⟨q, e, c, w, hc⟩ := onlyClear_clearedFor r s
    have hmem : MemKept s (clearedFor r s) := by rw [hc]; exact .of_eq rfl rfl rfl
    have hkept := fieldsKept_clearedFor r s
    have hbits : r = .exc → ∀ k ∈ leasedOutputs s, (clearedFor r s).fldBit .EXC_STAT_CLRST k = true := by
      rintro rfl k hk
      exact fldBit_forList_excClear evLease _ s (fun _ hm => mem_leasedOutputs hm) k hk
    have hne : r ≠ .exc → clearedFor r s = s := fun h => clearedFor_of_ne h s
    have hpwr : (clearedFor r s).pwr = s.pwr := by rw [hc]
    generalize clearedFor r s = u at *
    obtain ⟨h1, h2, h3, h4, h5, h6⟩ := leaseWaits_shown hr (l := waitingFor (s.lease r).want) rfl u _ rfl
    generalize showBudget (leaseWaits r (waitingFor (s.lease r).want) u) = t at *
    refine ⟨h1, h2, h3, fun q hq => (h4 q hq).trans (lease_of_pwr hpwr q), fun hexc k hk => ?_,
      (hkept.mono (by simp)).trans (h5.mono (by simp)), fun h => ?_, hmem.trans ?_⟩
    · have hfld := h5.fld (g := .EXC_STAT_CLRST) (by cases r <;> decide)
      rw [State.fldBit, hfld]
      exact hbits hexc k hk
    · rw [hne h] at h6
      exact h6
    · rw [h6]
      exact .of_eq rfl rfl rfl
  · have hgo : (Requester.host == .host && !s.hostAtLevel) = true := by
      have hnot : s.hostAtLevel = false := by
        rw [← Bool.not_eq_true, hostAtLevel_iff]
        omega
      simp [hnot]
    exact if_pos hgo

end Sys2Proof.Machine
end

section
/-! Proofs about bursts, and about the budget (R29, R43 to R45, R550). -/

namespace Sys2Proof.Machine

/-! ### A lease of no power -/

/-- A running unit in profile FULL whose excitation holds a lease of no power, with no income. -/
def emptyLease : State :=
  let s := State.reset.setFld .PWR_PROFILE_PROFILE 3
  { s with sys := { s.sys with held := false }, pwr := { s.pwr with exc := { state := gGrant } } }

/-- Refutes O5: the clause on a lease that the guaranteed power no longer covers compares the power with the base load and the
lease together; a lease of power 0 is covered whatever is left, so it stays granted where the power does not reach the base
load. -/
theorem not_budgetFollowsTheLoops : ¬ Obligations.BudgetFollowsTheLoops := by
  intro h
  obtain ⟨-, -, -, -, -, -, hwithdraw, -⟩ := h
  obtain ⟨t, ht, hstate, -⟩ := hwithdraw [0, 0, 0, 0, 0, 0] emptyLease rfl (by decide +kernel) (by decide +kernel)
    (by decide +kernel) (by decide +kernel) (by decide +kernel) (by decide +kernel) (by decide +kernel) (by decide +kernel)
    (by decide +kernel)
  have hafter : nextView 0 (fun t => t.pwr.exc.state) (exec (.budgetRecompute [0, 0, 0, 0, 0, 0]) emptyLease) = gGrant := by
    decide +kernel
  rw [ht] at hafter
  exact absurd (hstate.symm.trans hafter) (by decide)

/-! ### Bursts -/

theorem exec_burstRequest {r : Requester} (h : takesCredits r = true) (credits : Nat) (s : State) :
    exec (.burstRequest r credits) s = .next (burstRequest r credits s) := by
  refine answerIf_next.mpr ⟨?_, rfl⟩
  cases r with
  | nvm => rfl
  | exc => rfl
  | xmem => rfl
  | host => cases h
  | rope => cases h

theorem FieldsKept.showBurst {fs : List Fld} {s t : State} (h : FieldsKept fs s t) {r : Requester} (hf : grantFld r ∈ fs)
    (code : Nat) : FieldsKept fs s (Machine.showBurst r code t) := by
  unfold Machine.showBurst
  split
  · exact h.setFld hf (by rw [(grantFld_width r).2]; decide)
  · exact h

theorem onlyRegs_showBurst (r : Requester) (code : Nat) (s : State) : OnlyRegs s (showBurst r code s) := by
  unfold showBurst
  split
  · exact (OnlyRegs.refl s).setFld _ _
  · exact .refl s

theorem fld_grant_showBurst {r : Requester} {code : Nat} {s : State} (h : (s.lease r).state = gIdle) (hc : code < 8) :
    (showBurst r code s).fld (grantFld r) = code := by
  rw [showBurst, if_pos h]
  exact fld_grant_setFld r hc s

theorem lease_congr {s t : State} (hexc : t.pwr.exc = s.pwr.exc) (hhost : t.pwr.host = s.pwr.host)
    (hrope : t.pwr.rope = s.pwr.rope) (q : Requester) : t.lease q = s.lease q := by
  cases q <;> simp [State.lease, hexc, hhost, hrope]

/-- The burst waits, alone. -/
def burstWaits (b : Burst) (s : State) : State := showBurst b.who gWait { s with pwr := { s.pwr with waiting := [b] } }

theorem onlyRegs_burstWaits (b : Burst) (s : State) :
    OnlyRegs { s with pwr := { s.pwr with waiting := [b] } } (burstWaits b s) := onlyRegs_showBurst _ _ _

theorem fieldsKept_burstWaits (b : Burst) (s : State) : FieldsKept [grantFld b.who] s (burstWaits b s) :=
  FieldsKept.showBurst (.of_regs rfl) (by simp) _

theorem requestBurst_of_possible {b : Burst} {s : State} (h : b.credits + 200 ≤ s.storeMax) (hw : s.pwr.waiting = []) :
    requestBurst b s = arbitrate (burstWaits b s) := by
  rw [requestBurst, if_neg (by omega), hw]
  rfl

theorem requestBurst_of_impossible {b : Burst} {s : State} (h : s.storeMax < b.credits + 200) :
    requestBurst b s = s.setFld (grantFld b.who) gDenied := if_pos h

theorem tryGrant_burst {b : Burst} (hb : b.tag ≠ leaseTag) (s : State) : tryGrant b s = tryBurst b s := if_neg hb

/-- The burst has been granted. -/
def burstHeld (b : Burst) (s : State) : State :=
  showBurst b.who gGrant { s with pwr := { s.pwr with granted := s.pwr.granted ++ [b] } }

theorem FieldsKept.burstHeld {fs : List Fld} {s t : State} {b : Burst} (h : FieldsKept fs s t) (hf : grantFld b.who ∈ fs) :
    FieldsKept fs s (Machine.burstHeld b t) :=
  FieldsKept.showBurst (t := { t with pwr := { t.pwr with granted := t.pwr.granted ++ [b] } }) (h.trans (.of_regs rfl)) hf _

theorem tryBurst_of_covered {b : Burst} {s : State} (hheld : s.sys.held = false)
    (hcover : s.outstanding + 200 + b.credits ≤ s.regN Reg.PWR_STORE) (hres : s.flag .PWR_STAT_BELOWRES = false) :
    tryBurst b s = some (burstHeld b s) := by
  rw [tryBurst, hheld, hres, decide_eq_true hcover]
  rfl

theorem tryBurst_of_short {b : Burst} {s : State} (h : s.regN Reg.PWR_STORE < s.outstanding + 200 + b.credits) :
    tryBurst b s = none := by
  rw [tryBurst, decide_eq_false (by omega)]
  simp

theorem outstanding_of_pwr {s t : State} (hg : t.pwr.granted = s.pwr.granted) (hexc : t.pwr.exc = s.pwr.exc)
    (hhost : t.pwr.host = s.pwr.host) (hrope : t.pwr.rope = s.pwr.rope) : t.outstanding = s.outstanding := by
  unfold State.outstanding
  rw [hg, hexc, hhost, hrope]

theorem reg_burstWaits {b : Burst} {s : State} {a : Nat} (h : a ≠ Reg.PWR_GRANT) : (burstWaits b s).reg a = s.reg a :=
  (fieldsKept_burstWaits b s).reg (by simpa [grantFld_addr] using h.symm)

theorem outstanding_burstWaits (b : Burst) (s : State) : (burstWaits b s).outstanding = s.outstanding := by
  rw [(onlyRegs_burstWaits b s).eq]
  exact outstanding_of_pwr rfl rfl rfl rfl

theorem regN_STORE_burstWaits (b : Burst) (s : State) : (burstWaits b s).regN Reg.PWR_STORE = s.regN Reg.PWR_STORE := by
  unfold State.regN
  rw [reg_burstWaits (by decide)]

theorem waiting_burstWaits (b : Burst) (s : State) : (burstWaits b s).pwr.waiting = [b] := by
  rw [(onlyRegs_burstWaits b s).eq]

/-- A covered burst is granted at once (R44). -/
theorem requestBurst_granted {b : Burst} {s : State} (hb : b.tag ≠ leaseTag) (hheld : s.sys.held = false)
    (hw : s.pwr.waiting = []) (hmax : b.credits + 200 ≤ s.storeMax)
    (hcover : s.outstanding + 200 + b.credits ≤ s.regN Reg.PWR_STORE) (hres : s.flag .PWR_STAT_BELOWRES = false) :
    requestBurst b s = showBudget { burstHeld b (burstWaits b s) with
      pwr := { (burstHeld b (burstWaits b s)).pwr with waiting := [] } } := by
  rw [requestBurst_of_possible hmax hw]
  refine arbitrate_of_granted (waiting_burstWaits b s) ((tryGrant_burst hb _).trans (tryBurst_of_covered ?_ ?_ ?_))
  · rw [(onlyRegs_burstWaits b s).eq]
    exact hheld
  · rw [outstanding_burstWaits, regN_STORE_burstWaits]
    exact hcover
  · rw [State.flag, State.fld, reg_burstWaits (by decide)]
    exact hres

/-- A burst that the free credits do not cover waits. -/
theorem requestBurst_waits {b : Burst} {s : State} (hb : b.tag ≠ leaseTag) (hw : s.pwr.waiting = [])
    (hmax : b.credits + 200 ≤ s.storeMax) (hshort : s.regN Reg.PWR_STORE < s.outstanding + 200 + b.credits) :
    requestBurst b s = showBudget (burstWaits b s) := by
  rw [requestBurst_of_possible hmax hw]
  refine arbitrate_of_refused (waiting_burstWaits b s) ((tryGrant_burst hb _).trans (tryBurst_of_short ?_))
  rw [outstanding_burstWaits, regN_STORE_burstWaits]
  exact hshort

theorem lease_xmem (s : State) : (s.lease .xmem).state = gIdle := rfl

/-- Where the burst is not denied, the request is the arbiter's alone. -/
theorem burstRequest_of_not_denied {r : Requester} {credits : Nat} {s : State}
    (h : r = .xmem → (requestBurst ⟨r, credits, 0⟩ s).fld .PWR_GRANT_XMEM ≠ gDenied) :
    burstRequest r credits s = requestBurst ⟨r, credits, 0⟩ s := by
  refine if_neg ?_
  rw [Bool.and_eq_true, beq_iff_eq, beq_iff_eq]
  exact fun hx => h hx.1 hx.2

theorem fld_grant_burstHeld {b : Burst} {s : State} (h : (s.lease b.who).state = gIdle) :
    (showBudget { burstHeld b s with pwr := { (burstHeld b s).pwr with waiting := [] } }).fld (grantFld b.who) = gGrant := by
  rw [fld_showBudget (by rw [grantFld_addr]; decide) (by rw [grantFld_addr]; decide)]
  exact fld_grant_showBurst (by rw [← h]; cases b.who <;> rfl) (by decide)

theorem lease_burstWaits (b : Burst) (s : State) (q : Requester) : (burstWaits b s).lease q = s.lease q := by
  rw [(onlyRegs_burstWaits b s).eq]
  cases q <;> rfl

theorem fld_grant_burstWaits {b : Burst} {s : State} (h : (s.lease b.who).state = gIdle) :
    (showBudget (burstWaits b s)).fld (grantFld b.who) = gWait := by
  rw [fld_showBudget (by rw [grantFld_addr]; decide) (by rw [grantFld_addr]; decide)]
  exact fld_grant_showBurst (by rw [← h]; cases b.who <;> rfl) (by decide)

theorem onlyRegs_burstHeld (b : Burst) (s : State) :
    OnlyRegs { s with pwr := { s.pwr with granted := s.pwr.granted ++ [b] } } (burstHeld b s) := onlyRegs_showBurst _ _ _

/-- A burst granted changes the registers, and goes from the waiting list to those held. -/
theorem burstGranted_rest (b : Burst) (s : State) : ∃ q, showBudget { burstHeld b (burstWaits b s) with
      pwr := { (burstHeld b (burstWaits b s)).pwr with waiting := [] } } =
    { s with regs := q, pwr := { s.pwr with waiting := [], granted := s.pwr.granted ++ [b] } } := by
  obtain ⟨q1, h1⟩ := onlyRegs_burstWaits b s
  obtain ⟨q2, h2⟩ := onlyRegs_burstHeld b (burstWaits b s)
  obtain ⟨q3, h3⟩ := onlyRegs_showBudget { burstHeld b (burstWaits b s) with
      pwr := { (burstHeld b (burstWaits b s)).pwr with waiting := [] } }
  exact ⟨q3, by rw [h3, h2, h1]⟩

/-- Settles O4: a request by `requestBurst_granted`, `requestBurst_waits` or `requestBurst_of_impossible`. -/
theorem burstsAreGrantedOrDenied : Obligations.BurstsAreGrantedOrDenied := by
  refine ⟨fun r credits s hr hheld hw hmax hcover hres => ⟨_, exec_burstRequest hr credits s, ?_⟩,
    fun r credits s hr hmax => ⟨_, exec_burstRequest hr credits s, ?_⟩, fun credits s hw => ⟨_, rfl, ?_⟩,
    fun r credits s hr hw hmax hshort => ⟨_, exec_burstRequest hr credits s, ?_⟩, fun s hw => ⟨_, rfl, ?_⟩⟩
  · have htag : (⟨r, credits, 0⟩ : Burst).tag ≠ leaseTag := by simp [leaseTag]
    have hreq := requestBurst_granted htag hheld hw hmax hcover hres
    have hshown : (s.lease r).state = gIdle → (requestBurst ⟨r, credits, 0⟩ s).fld (grantFld r) = gGrant := fun hidle => by
      rw [hreq]
      exact fld_grant_burstHeld (b := ⟨r, credits, 0⟩) (by rw [lease_burstWaits]; exact hidle)
    rw [burstRequest_of_not_denied (fun hx hd => by
      subst hx
      exact absurd ((hshown (lease_xmem s)).symm.trans hd) (by decide))]
    have hregs : FieldsKept [grantFld r, wholeReg Reg.PWR_FREE, wholeReg Reg.PWR_LOAD] s (requestBurst ⟨r, credits, 0⟩ s) := by
      rw [hreq]
      refine FieldsKept.showBudget (FieldsKept.trans (FieldsKept.burstHeld (b := ⟨r, credits, 0⟩)
        ((fieldsKept_burstWaits ⟨r, credits, 0⟩ s).mono ?_) ?_) (.of_regs rfl)) ?_ ?_ <;> simp
    have hrest : requestBurst ⟨r, credits, 0⟩ s = { s with
        regs := (requestBurst ⟨r, credits, 0⟩ s).regs
        pwr := { s.pwr with granted := s.pwr.granted ++ [⟨r, credits, 0⟩] } } := by
      obtain ⟨q, hq⟩ := burstGranted_rest ⟨r, credits, 0⟩ s
      rw [hreq, hq]
      rw [← hw]
    have hgranted : (requestBurst ⟨r, credits, 0⟩ s).pwr.granted = s.pwr.granted ++ [⟨r, credits, 0⟩] := by rw [hrest]
    refine ⟨hshown, hgranted, ?_, hregs, ?_⟩
    · rw [hrest]
      simp only [State.outstanding, List.map_append, List.sum_append, List.map_cons, List.map_nil, List.sum_cons,
        List.sum_nil]
      omega
    · rw [hgranted]
      exact hrest
  · have hreq := requestBurst_of_impossible (b := ⟨r, credits, 0⟩) (s := s) hmax
    have hdenied : (requestBurst ⟨r, credits, 0⟩ s).fld (grantFld r) = gDenied := by
      rw [hreq]
      exact fld_grant_setFld r (by decide) s
    have hregs : FieldsKept [grantFld r, .XFER_STAT_XDEN] s (requestBurst ⟨r, credits, 0⟩ s) := by
      rw [hreq]
      exact (FieldsKept.refl _ s).setFld (by simp) (by rw [(grantFld_width r).2]; decide)
    have honly : OnlyRegs s (requestBurst ⟨r, credits, 0⟩ s) := by
      rw [hreq]
      exact (OnlyRegs.refl s).setFld _ _
    by_cases hx : r = .xmem
    · subst hx
      have hset : burstRequest .xmem credits s = (requestBurst ⟨.xmem, credits, 0⟩ s).setFlag .XFER_STAT_XDEN true :=
        if_pos (by rw [Bool.and_eq_true, beq_iff_eq, beq_iff_eq]; exact ⟨rfl, hdenied⟩)
      rw [hset]
      exact ⟨(fld_setFlag_other _ _ _ _ (by decide) (by decide)).trans hdenied,
        fun _ => flag_setFlag_same _ _ _ (by decide) rfl, hregs.setFlag (by simp) (by decide), (honly.setFlag _ _).eq⟩
    · rw [burstRequest_of_not_denied (fun h => absurd h hx)]
      exact ⟨hdenied, fun h => absurd h hx, hregs, honly.eq⟩
  · have hany : (s.pwr.waiting.any fun b => b.who == .xmem) = true := by rw [hw]; rfl
    have hdrop : dropWaiting .xmem 0 s = { s with pwr := { s.pwr with waiting := [] } } := by
      unfold dropWaiting
      rw [hw]
      rfl
    have hreq : xmemCreditTimeout s = showBudget
        ((({ s with pwr := { s.pwr with waiting := [] } }).setFld .PWR_GRANT_XMEM gDenied).setFlag .XFER_STAT_XDEN true) := by
      unfold xmemCreditTimeout
      rw [if_pos hany, hdrop]
      exact arbitrate_nil rfl
    rw [hreq]
    refine ⟨by rw [showBudget_pwr]; rfl, ?_, ?_, ?_, ?_⟩
    · rw [fld_showBudget (by decide) (by decide), fld_setFlag_other _ _ _ _ (by decide) (by decide)]
      exact fld_grant_setFld .xmem (by decide) _
    · rw [State.flag, fld_showBudget (by decide) (by decide)]
      exact flag_setFlag_same _ .XFER_STAT_XDEN true (by decide) rfl
    · refine FieldsKept.showBudget (.setFlag (.setFld (.of_regs rfl) ?_ (by decide)) ?_ (by decide)) ?_ ?_ <;> simp
    · rw [(onlyRegs_showBudget _).eq]
      rfl
  · have htag : (⟨r, credits, 0⟩ : Burst).tag ≠ leaseTag := by simp [leaseTag]
    have hreq := requestBurst_waits htag hw hmax hshort
    have hshown : (s.lease r).state = gIdle → (requestBurst ⟨r, credits, 0⟩ s).fld (grantFld r) = gWait := fun hidle => by
      rw [hreq]
      exact fld_grant_burstWaits (b := ⟨r, credits, 0⟩) hidle
    rw [burstRequest_of_not_denied (fun hx hd => by
      subst hx
      exact absurd ((hshown (lease_xmem s)).symm.trans hd) (by decide))]
    refine ⟨hshown, ?_, ?_, ?_⟩
    · rw [hreq, showBudget_pwr, waiting_burstWaits]
    · rw [hreq]
      refine FieldsKept.showBudget ((fieldsKept_burstWaits ⟨r, credits, 0⟩ s).mono ?_) ?_ ?_ <;> simp
    · rw [hreq, (onlyRegs_showBudget _).eq, (onlyRegs_burstWaits ⟨r, credits, 0⟩ s).eq]
  · have hany : (s.pwr.waiting.any fun b => b.who == .xmem) = false := by rw [hw]; rfl
    exact if_neg (by rw [hany]; exact Bool.false_ne_true)

end Sys2Proof.Machine
end

section
/-! Proofs about the store measurement and the withdrawal of leases (R35, R48, R51). -/

namespace Sys2Proof.Machine

/-! ### Withdrawal (R48) -/

/-- The lease falls back to its guaranteed part. -/
def withdrawn (l : Lease) : Lease := { l with state := gWithdraw, opp := 0 }

theorem lease_withdraw {r : Requester} (hr : takesLease r = true) (s : State) (q : Requester) :
    (withdraw r s).lease q = if q = r then withdrawn (s.lease r) else s.lease q := by
  cases r with
  | exc => cases q <;> rfl
  | host => cases q <;> rfl
  | rope => cases q <;> rfl
  | nvm => cases hr
  | xmem => cases hr

/-- What the notice of a withdrawal writes. -/
def withdrawFields (r : Requester) : List Fld := [grantFld r, .PWR_STAT_WDR, .PWR_STAT_HWDR, wholeReg Reg.PWR_HOSTG]

/-- A withdrawal changes registers and leases. -/
def OnlyPower (s t : State) : Prop := ∃ r p, t = { s with regs := r, pwr := p }

theorem OnlyPower.refl (s : State) : OnlyPower s s := ⟨_, _, rfl⟩

theorem OnlyPower.trans {s t u : State} (h : OnlyPower s t) (k : OnlyPower t u) : OnlyPower s u := by
  obtain ⟨r, p, rfl⟩ := h
  obtain ⟨r', p', rfl⟩ := k
  exact ⟨r', p', rfl⟩

theorem OnlyPower.eq {s t : State} (h : OnlyPower s t) : t = { s with regs := t.regs, pwr := t.pwr } := by
  obtain ⟨r, p, rfl⟩ := h
  rfl

theorem OnlyPower.memKept {s t : State} (h : OnlyPower s t) : MemKept s t := by
  obtain ⟨r, p, rfl⟩ := h
  exact .of_eq rfl rfl rfl

theorem OnlyRegs.power {s t : State} (h : OnlyRegs s t) : OnlyPower s t := by
  obtain ⟨r, rfl⟩ := h
  exact ⟨_, _, rfl⟩

theorem onlyPower_withdraw (r : Requester) (s : State) : OnlyPower s (withdraw r s) := by
  cases r <;> exact ⟨_, _, rfl⟩

theorem fieldsKept_withdraw (r : Requester) (s : State) : FieldsKept (withdrawFields r) s (withdraw r s) := by
  have hlease : FieldsKept (withdrawFields r) s (setLease r (withdrawn (s.lease r)) (s.setFlag .PWR_STAT_WDR true)) :=
    FieldsKept.setLease ((FieldsKept.refl _ s).setFlag (by simp [withdrawFields]) (by decide)) (by simp [withdrawFields]) _
  cases r with
  | host =>
    exact FieldsKept.trans (FieldsKept.setReg (hlease.setFlag (f := .PWR_STAT_HWDR) (b := true) (by simp [withdrawFields])
      (by decide)) (by simp [withdrawFields])) (.of_regs rfl)
  | exc => exact hlease
  | rope => exact hlease
  | nvm => exact hlease
  | xmem => exact hlease

theorem waiting_withdraw (r : Requester) (s : State) : (withdraw r s).pwr.waiting = s.pwr.waiting := by
  cases r <;> rfl

/-- One turn of the withdrawal. -/
def withdrawStep (r : Requester) (s : State) : State := if mustWithdraw s r then withdraw r s else s

theorem withdrawAll_eq (s : State) :
    withdrawAll s = withdrawStep .exc (withdrawStep .host (withdrawStep .rope s)) := by
  have h : withdrawAll s = forList [.rope, .host, .exc] withdrawStep s := rfl
  rw [h, forList_cons, forList_cons, forList_cons, forList_nil]

theorem withdrawStep_of_no_opp {r : Requester} {s : State} (h : (s.lease r).opp = 0) : withdrawStep r s = s := by
  have hmust : mustWithdraw s r = false := by
    unfold mustWithdraw
    dsimp only
    rw [h]
    simp
  unfold withdrawStep
  rw [hmust, if_neg Bool.false_ne_true]

/-- With no opportunistic part in force none is withdrawn. -/
theorem withdrawAll_of_no_opp {s : State} (hexc : s.pwr.exc.opp = 0) (hhost : s.pwr.host.opp = 0)
    (hrope : s.pwr.rope.opp = 0) : withdrawAll s = s := by
  rw [withdrawAll_eq, withdrawStep_of_no_opp (r := .rope) (s := s) hrope, withdrawStep_of_no_opp (r := .host) (s := s) hhost,
    withdrawStep_of_no_opp (r := .exc) (s := s) hexc]

theorem onlyPower_withdrawStep (r : Requester) (s : State) : OnlyPower s (withdrawStep r s) := by
  unfold withdrawStep
  split
  · exact onlyPower_withdraw r s
  · exact .refl s

theorem fieldsKept_withdrawStep (r : Requester) (s : State) : FieldsKept (withdrawFields r) s (withdrawStep r s) := by
  unfold withdrawStep
  split
  · exact fieldsKept_withdraw r s
  · exact .refl _ s

theorem waiting_withdrawStep (r : Requester) (s : State) : (withdrawStep r s).pwr.waiting = s.pwr.waiting := by
  unfold withdrawStep
  split
  · exact waiting_withdraw r s
  · rfl

theorem lease_withdrawStep_other {r q : Requester} (hr : takesLease r = true) (h : q ≠ r) (s : State) :
    (withdrawStep r s).lease q = s.lease q := by
  unfold withdrawStep
  split
  · rw [lease_withdraw hr, if_neg h]
  · rfl

/-- Below the reserve a lease with an opportunistic part in force is withdrawn (R51). -/
theorem withdrawStep_below {r : Requester} {s : State} (hf : (s.lease r).inForce = true) (ho : 0 < (s.lease r).opp)
    (hb : s.flag .PWR_STAT_BELOWRES = true) : withdrawStep r s = withdraw r s := by
  have hmust : mustWithdraw s r = true := by
    unfold mustWithdraw
    dsimp only
    rw [hf, hb, decide_eq_true ho]
    simp
  unfold withdrawStep
  rw [hmust, if_pos rfl]

/-- What a withdrawal of any of the leases writes. -/
def withdrawAllFields : List Fld := [wholeReg Reg.PWR_GRANT, .PWR_STAT_WDR, .PWR_STAT_HWDR, wholeReg Reg.PWR_HOSTG]

theorem fieldsKept_withdrawAll (s : State) : FieldsKept withdrawAllFields s (withdrawAll s) := by
  have hmono : ∀ (r : Requester) (u : State), FieldsKept withdrawAllFields u (withdrawStep r u) := by
    intro r u a i hi
    refine fieldsKept_withdrawStep r u a i fun f hf he => ?_
    simp only [withdrawFields, List.mem_cons, List.not_mem_nil, or_false] at hf
    rcases hf with rfl | rfl | rfl | rfl
    · have hw := hi (wholeReg Reg.PWR_GRANT) (by simp [withdrawAllFields]) ((grantFld_addr r).symm.trans he)
      have hbits := (grantFld_width r).1
      simp only at hw
      omega
    · exact hi _ (by simp [withdrawAllFields]) he
    · exact hi _ (by simp [withdrawAllFields]) he
    · exact hi _ (by simp [withdrawAllFields]) he
  rw [withdrawAll_eq]
  exact ((hmono .rope s).trans (hmono .host _)).trans (hmono .exc _)

theorem onlyPower_withdrawAll (s : State) : OnlyPower s (withdrawAll s) :=
  ((onlyPower_withdrawStep .rope s).trans (onlyPower_withdrawStep .host _)).trans (onlyPower_withdrawStep .exc _)

theorem waiting_withdrawAll (s : State) : (withdrawAll s).pwr.waiting = s.pwr.waiting := by
  rw [withdrawAll_eq, waiting_withdrawStep, waiting_withdrawStep, waiting_withdrawStep]

/-- What a withdrawal notice shows of its lease. -/
def NoticeShown (r : Requester) (l : Lease) (s : State) : Prop :=
  s.lease r = withdrawn l ∧ s.fld (grantFld r) = gWithdraw ∧ s.flag .PWR_STAT_WDR = true ∧
    (r = .host → s.flag .PWR_STAT_HWDR = true ∧ s.pwr.hostNotice = true)

theorem noticeShown_withdraw {r : Requester} (hr : takesLease r = true) (s : State) :
    NoticeShown r (s.lease r) (withdraw r s) := by
  have hgrant : ∀ u : State, (setLease r (withdrawn (s.lease r)) u).fld (grantFld r) = gWithdraw := fun u =>
    fld_grant_setLease hr (show gWithdraw < 8 by decide) u
  have hwdr : (setLease r (withdrawn (s.lease r)) (s.setFlag .PWR_STAT_WDR true)).fld .PWR_STAT_WDR = 1 := by
    rw [(FieldsKept.setLease (.refl [grantFld r] _) (by simp) _).fld (by cases r <;> decide)]
    exact fld_setFld_same s .PWR_STAT_WDR 1 (by decide)
  refine ⟨by rw [lease_withdraw hr, if_pos rfl], ?_, ?_, ?_⟩
  · cases r with
    | host =>
      exact (fld_setFld_other _ _ _ _ (by decide) (by decide)).trans
        ((fld_setFlag_other _ _ _ _ (by decide) (by decide)).trans (hgrant _))
    | exc => exact hgrant _
    | rope => exact hgrant _
    | nvm => cases hr
    | xmem => cases hr
  · rw [State.flag, beq_iff_eq]
    cases r with
    | host =>
      exact (fld_setFld_other _ _ _ _ (by decide) (by decide)).trans
        ((fld_setFlag_other _ _ _ _ (by decide) (by decide)).trans hwdr)
    | exc => exact hwdr
    | rope => exact hwdr
    | nvm => cases hr
    | xmem => cases hr
  · rintro rfl
    exact ⟨(flag_setFld_other _ _ _ _ (by decide) (by decide)).trans (flag_setFlag_same _ _ _ (by decide) rfl), rfl⟩

/-- The notice of one lease stays through the withdrawal of another. -/
theorem NoticeShown.withdrawStep {r q : Requester} (hq : takesLease q = true) (hne : r ≠ q) {l : Lease} {s : State}
    (h : NoticeShown r l s) : NoticeShown r l (Machine.withdrawStep q s) := by
  obtain ⟨hlease, hgrant, hwdr, hhost⟩ := h
  unfold Machine.withdrawStep
  split
  · have hset : (setLease q (withdrawn (s.lease q)) (s.setFlag .PWR_STAT_WDR true)).fld (grantFld r) = gWithdraw := by
      rw [(FieldsKept.setLease (.refl [grantFld q] _) (by simp) _).fld (by cases q <;> cases r <;> first | rfl | simp_all),
        fld_setFlag_other _ _ _ _ (by decide) (by cases r <;> rfl), hgrant]
    refine ⟨by rw [lease_withdraw hq, if_neg hne, hlease], ?_, (noticeShown_withdraw hq s).2.2.1, ?_⟩
    · cases q with
      | host =>
        exact (fld_setFld_other _ _ _ _ (by decide) (by cases r <;> rfl)).trans
          ((fld_setFlag_other _ _ _ _ (by decide) (by cases r <;> rfl)).trans hset)
      | exc => exact hset
      | rope => exact hset
      | nvm => cases hq
      | xmem => cases hq
    · rintro rfl
      obtain ⟨hhw, hnotice⟩ := hhost rfl
      cases q with
      | host => exact absurd rfl hne
      | exc =>
        refine ⟨?_, hnotice⟩
        exact (flag_setFld_other _ _ _ _ (by decide) (by decide)).trans
          ((flag_setFlag_other _ _ _ _ (by decide) (by decide)).trans hhw)
      | rope =>
        refine ⟨?_, hnotice⟩
        exact (flag_setFld_other _ _ _ _ (by decide) (by decide)).trans
          ((flag_setFlag_other _ _ _ _ (by decide) (by decide)).trans hhw)
      | nvm => cases hq
      | xmem => cases hq
  · exact ⟨hlease, hgrant, hwdr, hhost⟩

theorem flag_BELOWRES_withdrawStep (r : Requester) (s : State) :
    (withdrawStep r s).flag .PWR_STAT_BELOWRES = s.flag .PWR_STAT_BELOWRES :=
  (fieldsKept_withdrawStep r s).flag (by cases r <;> decide)

/-- Below the reserve the lease of r is withdrawn, whatever the others do (R48, R51). -/
theorem withdrawAll_below {r : Requester} {s : State} (hf : (s.lease r).inForce = true) (ho : 0 < (s.lease r).opp)
    (hb : s.flag .PWR_STAT_BELOWRES = true) : NoticeShown r (s.lease r) (withdrawAll s) := by
  have hturn : ∀ u : State, (takesLease r = true) → u.lease r = s.lease r → u.flag .PWR_STAT_BELOWRES = true →
      NoticeShown r (s.lease r) (withdrawStep r u) := fun u hr hl hu => by
    rw [withdrawStep_below (by rw [hl]; exact hf) (by rw [hl]; exact ho) hu, ← hl]
    exact noticeShown_withdraw hr u
  rw [withdrawAll_eq]
  cases r with
  | rope =>
    exact ((hturn s rfl rfl hb).withdrawStep (q := .host) rfl (by decide)).withdrawStep (q := .exc) rfl (by decide)
  | host =>
    exact (hturn _ rfl (lease_withdrawStep_other rfl (by decide) s)
      (by rw [flag_BELOWRES_withdrawStep, hb])).withdrawStep (q := .exc) rfl (by decide)
  | exc =>
    refine hturn _ rfl ?_ (by rw [flag_BELOWRES_withdrawStep, flag_BELOWRES_withdrawStep, hb])
    rw [lease_withdrawStep_other rfl (by decide), lease_withdrawStep_other rfl (by decide)]
  | nvm => exact absurd hf (by simp [State.lease, Lease.inForce, gGrant, gGrantOpp])
  | xmem => exact absurd hf (by simp [State.lease, Lease.inForce, gGrant, gGrantOpp])

/-! ### The measurement (R35, R51) -/

/-- The content of a measurement, in credits. -/
def contentOf (mv : Nat) (s : State) : Nat := min 65535 (storeCredits (s.regN Reg.PWR_CAP) mv)

/-- ESTOV, the content, and its two marks. -/
def storeRead (mv : Nat) (s : State) : State :=
  (((s.setRegN Reg.PWR_ESTOV mv).setRegN Reg.PWR_STORE (contentOf mv s)).setFlag .PWR_STAT_STFULL (16000 ≤ mv)).setFlag
    .PWR_STAT_BELOWRES (decide (contentOf mv s < 200))

theorem contentOf_lt (mv : Nat) (s : State) : contentOf mv s < 65536 := by unfold contentOf; omega

def measuredFields : List Fld :=
  [wholeReg Reg.PWR_ESTOV, wholeReg Reg.PWR_STORE, .PWR_STAT_STFULL, .PWR_STAT_BELOWRES]

theorem fieldsKept_storeRead (mv : Nat) (s : State) : FieldsKept measuredFields s (storeRead mv s) :=
  ((((FieldsKept.refl _ s).setRegN (by decide)).setRegN (by decide)).setFlag (by decide) (by decide)).setFlag (by decide)
    (by decide)

theorem onlyRegs_storeRead (mv : Nat) (s : State) : OnlyRegs s (storeRead mv s) :=
  ((((OnlyRegs.refl s).setRegN _ _).setRegN _ _).setFlag _ _).setFlag _ _

theorem regN_setFlag_other {s : State} {f : Fld} {b : Bool} {a : Nat} (h : f.addr ≠ a) :
    (s.setFlag f b).regN a = s.regN a := by
  unfold State.regN
  rw [reg_setFlag, if_neg h]

theorem storeRead_shown {mv : Nat} (hmv : mv < 65536) (s : State) :
    (storeRead mv s).regN Reg.PWR_ESTOV = mv ∧ (storeRead mv s).regN Reg.PWR_STORE = contentOf mv s ∧
      (storeRead mv s).flag .PWR_STAT_STFULL = decide (16000 ≤ mv) ∧
      (storeRead mv s).flag .PWR_STAT_BELOWRES = decide (contentOf mv s < 200) := by
  have hlt := contentOf_lt mv s
  unfold storeRead
  generalize contentOf mv s = c at hlt ⊢
  refine ⟨?_, ?_, ?_, flag_setFlag_same _ _ _ (by decide) rfl⟩
  · rw [regN_setFlag_other (by decide), regN_setFlag_other (by decide), regN_setRegN_other _ _ (by decide),
      regN_setRegN_same, Nat.mod_eq_of_lt hmv]
  · rw [regN_setFlag_other (by decide), regN_setFlag_other (by decide), regN_setRegN_same, Nat.mod_eq_of_lt hlt]
  · rw [flag_setFlag_other _ _ _ _ (by decide) (by decide)]
    exact flag_setFlag_same _ _ _ (by decide) rfl

/-- The report of a content that falls below the reserve. -/
def belowReport (mv : Nat) (s : State) : State :=
  if decide (contentOf mv s < 200) && !s.flag .PWR_STAT_BELOWRES && s.isActive then
    report 19 0 ((storeRead mv s).regN Reg.PWR_STORE) ((storeRead mv s).regN Reg.PWR_LOOPS) (storeRead mv s)
  else storeRead mv s

theorem storeMeasurement_eq (mv : Nat) (s : State) :
    storeMeasurement mv s = arbitrate (withdrawAll (belowReport mv s)) := by
  have hstore : ((s.setRegN Reg.PWR_ESTOV mv).setRegN Reg.PWR_STORE (contentOf mv s)).regN Reg.PWR_STORE = contentOf mv s := by
    rw [regN_setRegN_same, Nat.mod_eq_of_lt (contentOf_lt mv s)]
  have hfull : (((s.setRegN Reg.PWR_ESTOV mv).setRegN Reg.PWR_STORE (contentOf mv s)).setFlag .PWR_STAT_STFULL
      (16000 ≤ mv)).regN Reg.PWR_STORE = contentOf mv s := by rw [regN_setFlag_other (by decide), hstore]
  have hactive : (storeRead mv s).isActive = s.isActive := by
    unfold State.isActive State.mode
    rw [(fieldsKept_storeRead mv s).fld (by decide)]
  unfold belowReport
  rw [← hactive]
  unfold storeMeasurement storeRead
  rw [← contentOf]
  simp only [hfull]

theorem belowReport_of_no_report {mv : Nat} {s : State}
    (h : 200 ≤ contentOf mv s ∨ s.flag .PWR_STAT_BELOWRES = true ∨ s.isActive = false) : belowReport mv s = storeRead mv s := by
  refine if_neg ?_
  rw [Bool.and_eq_true, Bool.and_eq_true, decide_eq_true_iff]
  rintro ⟨⟨hlow, hwas⟩, hactive⟩
  rcases h with h | h | h
  · omega
  · rw [h] at hwas
    cases hwas
  · rw [h] at hactive
    cases hactive

theorem regsKept_belowReport (mv : Nat) (s : State) : RegsKept reportBlocks [] (storeRead mv s) (belowReport mv s) := by
  unfold belowReport
  split
  · exact regsKept_report (by decide) (by decide)
  · exact .refl _

theorem onlyReport_belowReport (mv : Nat) (s : State) : OnlyReport (storeRead mv s) (belowReport mv s) := by
  unfold belowReport
  split
  · exact onlyReport_report (by decide) _ _ _
  · exact .refl _

theorem memKept_belowReport (mv : Nat) (s : State) : MemKept (storeRead mv s) (belowReport mv s) := by
  unfold belowReport
  split
  · exact memKept_acceptReport _ _ _ _ _ _ _
  · exact .refl _

theorem belowReport_pwr (mv : Nat) (s : State) : (belowReport mv s).pwr = s.pwr := by
  rw [(onlyReport_belowReport mv s).eq, (onlyRegs_storeRead mv s).eq]

/-- What follows the measurement writes registers of the arbiter alone. -/
theorem kept_arbitrate_withdrawAll (s : State) :
    Kept [] (.PWR_STAT_WDR :: arbiterFields) s (arbitrate (withdrawAll s)) := by
  have hwithdraw : Kept [] (.PWR_STAT_WDR :: arbiterFields) s (withdrawAll s) :=
    ⟨((fieldsKept_withdrawAll s).mono (by decide)).regsKept, by rw [(onlyPower_withdrawAll s).eq]; rfl⟩
  exact hwithdraw.arbitrate (by decide)

/-- What every measurement shows (R35). -/
theorem storeMeasurement_shown {mv : Nat} (hmv : mv < 65536) (s : State) :
    (storeMeasurement mv s).regN Reg.PWR_ESTOV = mv ∧ (storeMeasurement mv s).regN Reg.PWR_STORE = contentOf mv s ∧
      (storeMeasurement mv s).flag .PWR_STAT_STFULL = decide (16000 ≤ mv) ∧
      (storeMeasurement mv s).flag .PWR_STAT_BELOWRES = decide (contentOf mv s < 200) ∧
      MemKept s (storeMeasurement mv s) := by
  obtain ⟨hstov, hstore, hfull, hbelow⟩ := storeRead_shown hmv s
  have hreport := regsKept_belowReport mv s
  have harb := kept_arbitrate_withdrawAll (belowReport mv s)
  rw [storeMeasurement_eq]
  refine ⟨?_, ?_, ?_, ?_, (onlyRegs_storeRead mv s).memKept.trans ((memKept_belowReport mv s).trans harb.mem)⟩
  · rw [harb.regs.regN (by decide) (by decide), hreport.regN (by decide) (by decide), hstov]
  · rw [harb.regs.regN (by decide) (by decide), hreport.regN (by decide) (by decide), hstore]
  · rw [harb.regs.flag (by decide) (by decide), hreport.flag (by decide) (by decide), hfull]
  · rw [harb.regs.flag (by decide) (by decide), hreport.flag (by decide) (by decide), hbelow]

theorem exec_storeMeasurement {mv : Nat} (hmv : mv < 65536) (s : State) :
    exec (.storeMeasurement mv) s = .next (storeMeasurement mv s) :=
  answerIf_next.mpr ⟨decide_eq_true hmv, rfl⟩

theorem contentOf_lt_iff (mv : Nat) (s : State) :
    contentOf mv s < 200 ↔ s.regN Reg.PWR_CAP * (mv * mv - 49000000) / 20000000 < 200 := by
  unfold contentOf storeCredits
  omega

/-- With nothing waiting and no opportunistic part, what follows the report only shows the budget. -/
theorem storeMeasurement_quiet {mv : Nat} {s : State} (hw : s.pwr.waiting = []) (hexc : s.pwr.exc.opp = 0)
    (hhost : s.pwr.host.opp = 0) (hrope : s.pwr.rope.opp = 0) :
    storeMeasurement mv s = showBudget (belowReport mv s) := by
  have hpwr := belowReport_pwr mv s
  rw [storeMeasurement_eq, withdrawAll_of_no_opp (by rw [hpwr, hexc]) (by rw [hpwr, hhost]) (by rw [hpwr, hrope]),
    arbitrate_nil (by rw [hpwr, hw])]

/-- The fall below the reserve is reported by its source (R51). -/
theorem belowReport_reported {mv : Nat} {s : State} (hlow : contentOf mv s < 200)
    (hwas : s.flag .PWR_STAT_BELOWRES = false) (hactive : s.isActive = true) (hw : Watches 19 s) :
    Reported 19 0 clsU s (showBudget (belowReport mv s)) := by
  have hrep : belowReport mv s = report 19 0 ((storeRead mv s).regN Reg.PWR_STORE) ((storeRead mv s).regN Reg.PWR_LOOPS)
      (storeRead mv s) := if_pos (by rw [decide_eq_true hlow, hwas, hactive]; rfl)
  have hread := fieldsKept_storeRead mv s
  have hphase : (storeRead mv s).phase = s.phase := hread.fld (by decide)
  have hwatch : Watches 19 (storeRead mv s) := by
    obtain ⟨hbusy, hph, hign⟩ := hw
    have hflt : (storeRead mv s).flt = s.flt := by rw [(onlyRegs_storeRead mv s).eq]
    exact ⟨by rw [hflt, hbusy], by rw [hphase]; exact hph, by rw [hflt, hign]⟩
  rw [hrep]
  generalize (storeRead mv s).regN Reg.PWR_STORE = p2
  generalize (storeRead mv s).regN Reg.PWR_LOOPS = p3
  have hlatched := (latched_acceptReport (param := 0) (cls := clsU) (p2 := p2) (p3 := p3) (inj := false) hwatch (by decide)
    (by decide)).congr_left (s := s) (fun g hg => hread.fld (by
      revert g
      decide))
  have hshow : ∀ g ∈ Machine.latchFields, (showBudget (acceptReport clsU 19 0 p2 p3 false (storeRead mv s))).fld g =
      (acceptReport clsU 19 0 p2 p3 false (storeRead mv s)).fld g := fun g hg =>
    fld_showBudget (by revert g; decide) (by revert g; decide) _
  have hpins := flag_FLTHS_acceptReport (param := 0) (cls := clsU) (p2 := p2) (p3 := p3) (inj := false) hwatch (by decide)
    (by decide) (by decide)
  refine (hlatched.congr (by decide) hshow ?_).reported fun _ => ?_
  · rw [(onlyRegs_showBudget _).eq]
    exact hlatched.busy
  · rw [State.flag, fld_showBudget (by decide) (by decide)]
    exact hpins

/-- Settles O3: the measurement by `storeMeasurement_shown`, and what follows it by `withdrawAll_below` and the arbiter's rules. -/
theorem storeIsMeasured : Obligations.StoreIsMeasured := by
  refine ⟨fun mv s hmv => ⟨_, exec_storeMeasurement hmv s, ?_⟩,
    fun mv s hmv hw hexc hhost hrope hquiet => ⟨_, exec_storeMeasurement hmv s, ?_⟩,
    fun mv s hmv hw hexc hhost hrope hlow hwas hactive hfatal hwatch => ⟨_, exec_storeMeasurement hmv s, ?_⟩,
    fun mv r s hmv hw hforce hopp hlow => ⟨_, exec_storeMeasurement hmv s, ?_⟩,
    fun mv n s hmv hheld hw hexc hhost hrope hcover => ⟨_, exec_storeMeasurement hmv s, ?_⟩⟩
  · obtain ⟨hstov, hstore, hfull, hbelow, hmem⟩ := storeMeasurement_shown hmv s
    exact ⟨hstov, hstore, hfull, by rw [hbelow, hstore], hmem⟩
  · obtain ⟨hstov, hstore, -, -, -⟩ := storeMeasurement_shown hmv s
    have hread : belowReport mv s = storeRead mv s :=
      belowReport_of_no_report (hquiet.imp_left fun h => not_lt.mp (mt (contentOf_lt_iff mv s).mp (not_lt.mpr h)))
    have hshow := storeMeasurement_quiet (mv := mv) hw hexc hhost hrope
    rw [hread] at hshow
    refine ⟨hstov, hstore, ?_, ?_, ?_⟩
    · have hout : (storeRead mv s).outstanding = s.outstanding := by
        have hpwr : (storeRead mv s).pwr = s.pwr := by
          obtain ⟨q, hq⟩ := onlyRegs_storeRead mv s
          rw [hq]
        exact outstanding_of_pwr (t := storeRead mv s) (s := s) (by rw [hpwr]) (by rw [hpwr]) (by rw [hpwr]) (by rw [hpwr])
      have hfree : (storeMeasurement mv s).regN Reg.PWR_FREE = contentOf mv s - s.outstanding - 200 := by
        rw [hshow]
        refine (regN_FREE_showBudget _).trans ?_
        have hread := (storeRead_shown hmv s).2.1
        unfold State.freeCredits
        omega
      rw [hfree, hstore]
    · rw [hshow]
      refine FieldsKept.showBudget ((fieldsKept_storeRead mv s).mono ?_) ?_ ?_ <;> simp [measuredFields]
    · rw [hshow]
      exact ((onlyRegs_storeRead mv s).trans (onlyRegs_showBudget _)).eq
  · have hcontent : contentOf mv s < 200 := (contentOf_lt_iff mv s).mpr hlow
    obtain ⟨hstov, -, -, hbelow, hmem⟩ := storeMeasurement_shown hmv s
    have hshow := storeMeasurement_quiet (mv := mv) hw hexc hhost hrope
    refine ⟨hstov, by rw [hbelow, decide_eq_true hcontent], ?_, ?_, hmem⟩
    · rw [hshow]
      exact belowReport_reported hcontent hwas hactive hwatch
    · rw [hshow]
      have hread : BlocksKept (1 :: reportBlocks) s (storeRead mv s) := (fieldsKept_storeRead mv s).blocks (by decide)
      have hrep : BlocksKept (1 :: reportBlocks) (storeRead mv s) (belowReport mv s) :=
        (regsKept_belowReport mv s).blocksKept (by decide) (by simp)
      exact (hread.trans hrep).trans (FieldsKept.blocks (fs := [wholeReg Reg.PWR_FREE, wholeReg Reg.PWR_LOAD])
        (FieldsKept.showBudget (.refl _ _) (by simp) (by simp)) (by decide))
  · have hcontent : contentOf mv s < 200 := (contentOf_lt_iff mv s).mpr hlow
    have hlease : (belowReport mv s).lease r = s.lease r := lease_of_pwr (belowReport_pwr mv s) r
    have hbelow : (belowReport mv s).flag .PWR_STAT_BELOWRES = true := by
      rw [(regsKept_belowReport mv s).flag (by decide) (by decide), (storeRead_shown hmv s).2.2.2, decide_eq_true hcontent]
    obtain ⟨h1, h2, h3, h4⟩ := withdrawAll_below (by rw [hlease]; exact hforce) (by rw [hlease]; exact hopp) hbelow
    have hshow : storeMeasurement mv s = showBudget (withdrawAll (belowReport mv s)) := by
      rw [storeMeasurement_eq, arbitrate_nil (by rw [waiting_withdrawAll, belowReport_pwr, hw])]
    rw [hshow]
    refine ⟨?_, ?_, ?_, fun hr => ⟨?_, ?_⟩⟩
    · rw [lease_of_pwr (showBudget_pwr _), h1, hlease]
      rfl
    · rw [fld_showBudget (by rw [grantFld_addr]; decide) (by rw [grantFld_addr]; decide), h2]
    · rw [State.flag, fld_showBudget (by decide) (by decide)]
      exact h3
    · rw [State.flag, fld_showBudget (by decide) (by decide)]
      exact (h4 hr).1
    · rw [showBudget_pwr]
      exact (h4 hr).2
  · have hcontent : 200 ≤ contentOf mv s := by unfold contentOf storeCredits; omega
    have hread : belowReport mv s = storeRead mv s := belowReport_of_no_report (.inl hcontent)
    obtain ⟨q, hq⟩ := onlyRegs_storeRead mv s
    obtain ⟨-, hstore, -, hbelow⟩ := storeRead_shown hmv s
    have hpwr : (storeRead mv s).pwr = s.pwr := by rw [hq]
    have hgrant : tryGrant ⟨.nvm, n, 0⟩ (storeRead mv s) = some (burstHeld ⟨.nvm, n, 0⟩ (storeRead mv s)) := by
      refine (tryGrant_burst (by simp [leaseTag]) _).trans (tryBurst_of_covered (by rw [hq]; exact hheld) ?_ ?_)
      · rw [outstanding_of_pwr (t := storeRead mv s) (s := s) (by rw [hpwr]) (by rw [hpwr]) (by rw [hpwr]) (by rw [hpwr]),
          hstore]
        exact hcover
      · rw [hbelow, decide_eq_false (by omega)]
    have hshow : storeMeasurement mv s = showBudget { burstHeld ⟨.nvm, n, 0⟩ (storeRead mv s) with
        pwr := { (burstHeld ⟨.nvm, n, 0⟩ (storeRead mv s)).pwr with waiting := [] } } := by
      rw [storeMeasurement_eq, hread, withdrawAll_of_no_opp (by rw [hpwr, hexc]) (by rw [hpwr, hhost]) (by rw [hpwr, hrope]),
        arbitrate_of_granted (by rw [hpwr, hw]) hgrant]
    obtain ⟨q2, h2⟩ := onlyRegs_burstHeld ⟨.nvm, n, 0⟩ (storeRead mv s)
    have hpwr' : (storeMeasurement mv s).pwr = { s.pwr with granted := s.pwr.granted ++ [⟨.nvm, n, 0⟩], waiting := [] } := by
      rw [hshow, showBudget_pwr, h2, hpwr]
    refine ⟨by rw [hpwr'], by rw [hpwr'], ?_, ?_⟩
    · rw [hshow]
      exact fld_grant_burstHeld (b := ⟨.nvm, n, 0⟩) rfl
    · rw [hpwr', hshow, (onlyRegs_showBudget _).eq, h2, hq]

end Sys2Proof.Machine
end

section
/-! Proofs about shedding and the return of shed loops (R32). -/

namespace Sys2Proof.Machine

/-! ### The loop that is shed -/

/-- The loops that may be shed. -/
def shedCands (s : State) : List Nat := (List.range 6).filter (fun n => s.fitted n && s.fld (bandFld n) = bandHarvest)

theorem mem_shedCands {s : State} {n : Nat} :
    n ∈ shedCands s ↔ n < 6 ∧ s.fitted n = true ∧ s.fld (bandFld n) = bandHarvest := by
  simp [shedCands]

/-- One turn of the search for the loop of the highest current. -/
def higher (ua : List Nat) (acc : Option Nat) (n : Nat) : Option Nat :=
  match acc with
  | none => some n
  | some m => if nth 0 ua m < nth 0 ua n then some n else some m

/-- In a rising list the search ends with the loop of the highest current, the lowest-numbered of equals. -/
theorem foldl_higher {ua : List Nat} {n : Nat} (l : List Nat) (acc : Option Nat) (hsort : l.Pairwise (· < ·))
    (hbest : ∀ m ∈ l, m ≠ n → nth 0 ua m < nth 0 ua n ∨ (nth 0 ua m = nth 0 ua n ∧ n < m))
    (hacc : acc = some n ∨ (n ∈ l ∧ ∀ m, acc = some m → nth 0 ua m < nth 0 ua n)) :
    l.foldl (higher ua) acc = some n := by
  induction l generalizing acc with
  | nil => simpa using hacc
  | cons x xs ih =>
    obtain ⟨hx, hxs⟩ := List.pairwise_cons.mp hsort
    refine ih _ hxs (fun m hm => hbest m (List.mem_cons_of_mem _ hm)) ?_
    rcases hacc with rfl | ⟨hn, hlow⟩
    · refine .inl (if_neg ?_)
      by_cases he : x = n
      · rw [he]
        exact lt_irrefl _
      · have := hbest x List.mem_cons_self he
        omega
    · rcases List.mem_cons.mp hn with rfl | hn
      · refine .inl ?_
        cases acc with
        | none => rfl
        | some m => exact if_pos (hlow m rfl)
      · have hlt : x < n := hx n hn
        have hxlow : nth 0 ua x < nth 0 ua n := by
          have := hbest x List.mem_cons_self (by omega)
          omega
        refine .inr ⟨hn, fun m hm => ?_⟩
        cases acc with
        | none =>
          cases hm
          exact hxlow
        | some k =>
          have hk := hlow k rfl
          simp only [higher] at hm
          split at hm <;> cases hm
          · exact hxlow
          · exact hk

/-- The loop n goes to SHED. -/
def shedLoop (n : Nat) (s : State) : State :=
  (setBand n bandShed { s with pwr := { s.pwr with shed := n :: s.pwr.shed } }).setFlag .PWR_STAT_SHED true

theorem shedOne_eq (s : State) : shedOne s = match (shedCands s).foldl (higher s.pwr.loopUa) none with
    | none => s
    | some n => if s.pwr.shed.isEmpty then
        mkRecord 0x082 clsNote [n, (shedLoop n s).fld .PWR_STAT_SHFAIL] (shedLoop n s) else shedLoop n s := rfl

theorem shedOne_of_best {s : State} {n : Nat} (h : (shedCands s).foldl (higher s.pwr.loopUa) none = some n) :
    shedOne s = if s.pwr.shed.isEmpty then
        mkRecord 0x082 clsNote [n, (shedLoop n s).fld .PWR_STAT_SHFAIL] (shedLoop n s) else shedLoop n s := by
  rw [shedOne_eq, h]

/-- The one of the highest current is shed (R32). -/
theorem shedOne_of_highest {s : State} {n : Nat} (hn : n < 6) (hfit : s.fitted n = true)
    (hband : s.fld (bandFld n) = bandHarvest)
    (hbest : ∀ m, m < 6 → m ≠ n → s.fitted m = true → s.fld (bandFld m) = bandHarvest →
        nth 0 s.pwr.loopUa m < nth 0 s.pwr.loopUa n ∨ (nth 0 s.pwr.loopUa m = nth 0 s.pwr.loopUa n ∧ n < m)) :
    shedOne s = if s.pwr.shed.isEmpty then
        mkRecord 0x082 clsNote [n, (shedLoop n s).fld .PWR_STAT_SHFAIL] (shedLoop n s) else shedLoop n s := by
  refine shedOne_of_best (foldl_higher _ _ (List.pairwise_lt_range.filter _) (fun m hm hne => ?_)
    (.inr ⟨mem_shedCands.mpr ⟨hn, hfit, hband⟩, fun m hm => by cases hm⟩))
  obtain ⟨hm6, hmfit, hmband⟩ := mem_shedCands.mp hm
  exact hbest m hm6 hne hmfit hmband

theorem shedLoop_eq {n : Nat} {s : State} (hband : s.fld (bandFld n) = bandHarvest) : shedLoop n s =
    (setVt n 780 ({ s with pwr := { s.pwr with shed := n :: s.pwr.shed } }.setFld (bandFld n) bandShed)).setFlag
      .PWR_STAT_SHED true := by
  have hset : setBand n bandShed { s with pwr := { s.pwr with shed := n :: s.pwr.shed } } =
      setVt n 780 ({ s with pwr := { s.pwr with shed := n :: s.pwr.shed } }.setFld (bandFld n) bandShed) :=
    (setBand_of_not_shed (s := { s with pwr := { s.pwr with shed := n :: s.pwr.shed } }) (by
      change s.fld (bandFld n) ≠ bandShed
      rw [hband]
      decide)).trans (if_neg (by decide))
  rw [shedLoop, hset]

/-- What shedding writes. -/
def shedFields (n : Nat) : List Fld := [bandFld n, .PWR_VT_VT, .PWR_STAT_SHED]

/-- What shedding loop n shows. -/
theorem shedLoop_shown {n : Nat} {s : State} (hn : n < 6) (hband : s.fld (bandFld n) = bandHarvest) :
    (shedLoop n s).fld (bandFld n) = bandShed ∧ (∀ m, m < 6 → m ≠ n → (shedLoop n s).fld (bandFld m) = s.fld (bandFld m)) ∧
      (shedLoop n s).pwr.shed = n :: s.pwr.shed ∧ (shedLoop n s).flag .PWR_STAT_SHED = true ∧
      (shedLoop n s).pwr.surplusUa = s.pwr.surplusUa ∧ Kept [] (shedFields n) s (shedLoop n s) := by
  rw [shedLoop_eq hband]
  have hregs : FieldsKept (shedFields n) s ((setVt n 780 ({ s with pwr := { s.pwr with shed := n :: s.pwr.shed } }.setFld
      (bandFld n) bandShed)).setFlag .PWR_STAT_SHED true) := by
    have hstart : FieldsKept (shedFields n) s { s with pwr := { s.pwr with shed := n :: s.pwr.shed } } := .of_regs rfl
    exact (FieldsKept.setVt (hstart.setFld (by simp [shedFields]) (by simp [bandFld])) (by simp [shedFields])).setFlag
      (by simp [shedFields]) (by decide)
  refine ⟨?_, fun m hm hne => hregs.fld ?_, rfl, flag_setFlag_same _ _ _ (by decide) rfl, rfl, hregs.regsKept, rfl⟩
  · rw [fld_setFlag_other _ _ _ _ (by decide) rfl, fld_band_setVt, fld_setBandFld hn (by decide)]
  · simp only [shedFields, List.all_cons, List.all_nil, Bool.and_true, Bool.and_eq_true]
    refine ⟨apart_of_bits ?_, rfl, rfl⟩
    simp only [bandFld]
    omega

/-- What a shed loop leaves, its record made or not. -/
theorem shedOne_shown {n : Nat} {s : State} (hn : n < 6) (hfit : s.fitted n = true)
    (hband : s.fld (bandFld n) = bandHarvest)
    (hbest : ∀ m, m < 6 → m ≠ n → s.fitted m = true → s.fld (bandFld m) = bandHarvest →
        nth 0 s.pwr.loopUa m < nth 0 s.pwr.loopUa n ∨ (nth 0 s.pwr.loopUa m = nth 0 s.pwr.loopUa n ∧ n < m)) :
    (shedOne s).fld (bandFld n) = bandShed ∧ (∀ m, m < 6 → m ≠ n → (shedOne s).fld (bandFld m) = s.fld (bandFld m)) ∧
      (shedOne s).pwr.shed = n :: s.pwr.shed ∧ (shedOne s).flag .PWR_STAT_SHED = true ∧
      (shedOne s).pwr.surplusUa = s.pwr.surplusUa ∧ Kept recordBlocks (shedFields n) s (shedOne s) := by
  obtain ⟨h1, h2, h3, h4, h5, h6⟩ := shedLoop_shown hn hband
  have hloop : Kept recordBlocks (shedFields n) s (shedLoop n s) := h6.mono (by simp) (List.Subset.refl _)
  rw [shedOne_of_highest hn hfit hband hbest]
  split
  · have hrec : Kept recordBlocks [] (shedLoop n s) (mkRecord 0x082 clsNote [n, (shedLoop n s).fld .PWR_STAT_SHFAIL]
        (shedLoop n s)) := (Kept.refl _).mkRecord (List.Subset.refl _) _ _ _
    have hpwr := (onlyRecord_mkRecord 0x082 clsNote [n, (shedLoop n s).fld .PWR_STAT_SHFAIL] (shedLoop n s)).eq
    generalize mkRecord 0x082 clsNote [n, (shedLoop n s).fld .PWR_STAT_SHFAIL] (shedLoop n s) = t at hrec hpwr ⊢
    have hp : t.pwr = (shedLoop n s).pwr := by rw [hpwr]
    have hfld : ∀ m, t.fld (bandFld m) = (shedLoop n s).fld (bandFld m) := fun m => hrec.regs.fld (by
      simp only [bandFld]
      decide) (by simp)
    refine ⟨by rw [hfld, h1], fun m hm hne => by rw [hfld, h2 m hm hne], by rw [hp, h3],
      by rw [hrec.regs.flag (by decide) (by simp), h4], by rw [hp, h5],
      hloop.trans (hrec.mono (List.Subset.refl _) (by simp))⟩
  · exact ⟨h1, h2, h3, h4, h5, hloop⟩

theorem blocksKept_shed {n : Nat} {s t : State} (h : Kept recordBlocks (shedFields n) s t) :
    BlocksKept (1 :: reportBlocks) s t :=
  h.regs.blocksKept (by decide) (by simp [shedFields, bandFld]; decide)

/-! ### The return of a shed loop -/

/-- The state that the return of loop n starts from: a loop in SHED leaves it. -/
def beforeReturn (n : Nat) (s : State) : State := if s.fld (bandFld n) = bandShed then leaveShed n s else s

theorem beforeReturn_rest (n : Nat) (s : State) :
    ∃ r l, beforeReturn n s = { s with regs := r, pwr := { s.pwr with shed := l } } := by
  unfold beforeReturn
  split
  · exact ⟨_, _, rfl⟩
  · exact ⟨_, _, rfl⟩

theorem fieldsKept_beforeReturn (n : Nat) (s : State) : FieldsKept [.PWR_STAT_SHED] s (beforeReturn n s) := by
  unfold beforeReturn
  split
  · exact FieldsKept.setFlag (FieldsKept.of_regs rfl) (by simp) (by decide)
  · exact .refl _ s

theorem setBand_harvest (n : Nat) (s : State) : setBand n bandHarvest s =
    { setVt n 780 ((beforeReturn n s).setFld (bandFld n) bandHarvest) with sys := { (beforeReturn n s).sys with bleed := false } } := by
  unfold setBand beforeReturn
  by_cases h : s.fld (bandFld n) = bandShed
  · simp only [h, decide_true, Bool.true_and, if_true, show (bandHarvest != bandShed) = true from rfl]
    rfl
  · simp only [h, decide_false, Bool.false_and, if_false, Bool.false_eq_true]
    rfl

theorem unshed_of_shed {n : Nat} {rest : List Nat} {s : State} (h : s.pwr.shed = n :: rest) : unshed s =
    { setBand n bandHarvest s with pwr := { (setBand n bandHarvest s).pwr with shed := rest } }.setFlag .PWR_STAT_SHED
      (!rest.isEmpty) := by
  unfold unshed
  rw [h]

theorem unshed_of_none {s : State} (h : s.pwr.shed = []) : unshed s = s := by
  unfold unshed
  rw [h]

theorem fieldsKept_unshed {n : Nat} {rest : List Nat} {s : State} (h : s.pwr.shed = n :: rest) :
    FieldsKept [bandFld n, .PWR_VT_VT, .PWR_STAT_SHED] s (unshed s) := by
  have hbefore := (fieldsKept_beforeReturn n s).mono (gs := [bandFld n, .PWR_VT_VT, .PWR_STAT_SHED]) (by simp)
  rw [unshed_of_shed h, setBand_harvest]
  exact FieldsKept.setFlag (((FieldsKept.setVt (hbefore.setFld (by simp) (by simp [bandFld])) (by simp)).trans (.of_regs rfl)).trans
    (.of_regs rfl)) (by simp) (by decide)

theorem unshed_rest {n : Nat} {rest : List Nat} {s : State} (h : s.pwr.shed = n :: rest) :
    unshed s = { s with
      regs := (unshed s).regs
      pwr := { s.pwr with shed := rest, vt := s.pwr.vt.set n 780 }
      sys := { s.sys with bleed := false } } := by
  obtain ⟨r, l, hb⟩ := beforeReturn_rest n s
  rw [unshed_of_shed h, setBand_harvest, hb]
  rfl

theorem fld_band_unshed {n : Nat} {rest : List Nat} {s : State} (hn : n < 6) (h : s.pwr.shed = n :: rest) :
    (unshed s).fld (bandFld n) = bandHarvest := by
  rw [unshed_of_shed h, fld_setFlag_other _ _ _ _ (by decide) rfl, setBand_harvest]
  exact (fld_band_setVt n _ n _).trans (fld_setBandFld hn (by decide) _)

theorem flag_SHED_unshed {n : Nat} {rest : List Nat} {s : State} (h : s.pwr.shed = n :: rest) :
    (unshed s).flag .PWR_STAT_SHED = !rest.isEmpty := by
  rw [unshed_of_shed h, flag_setFlag_same _ _ _ (by decide) rfl]

/-! ### The obligation -/

/-- What the shunt can take on chip, where it works alone. -/
theorem shuntCap_of_intOnly {s : State} (hint : s.intOnly = true) (hext : s.extOnly = false) : s.shuntCap = some 40000 := by
  unfold State.shuntCap
  rw [hint, hext]
  rfl

theorem shuntCap_of_not_extOnly {s : State} (hext : s.extOnly = false) :
    s.shuntCap = some 40000 ∨ s.shuntCap = none := by
  unfold State.shuntCap
  rw [hext]
  dsimp only
  split
  · exact .inl rfl
  · exact .inr rfl

/-- The surplus is noted. -/
def surplusNoted (surplus : Nat) (s : State) : State := { s with pwr := { s.pwr with surplusUa := surplus } }

theorem shedStep_over {surplus : Nat} {s : State} (hint : s.intOnly = true) (hext : s.extOnly = false)
    (h : 40000 < surplus) : shedStep surplus s = shedOne (surplusNoted surplus s) := by
  have hcap : (surplusNoted surplus s).shuntCap = some 40000 := shuntCap_of_intOnly hint hext
  unfold shedStep
  rw [← surplusNoted]
  simp only [hcap, if_pos h]

theorem shedStep_within {surplus : Nat} {s : State} (hext : s.extOnly = false) (h : surplus ≤ 40000) :
    shedStep surplus s = surplusNoted surplus s := by
  have hcap : (surplusNoted surplus s).shuntCap = some 40000 ∨ (surplusNoted surplus s).shuntCap = none :=
    shuntCap_of_not_extOnly (s := surplusNoted surplus s) hext
  unfold shedStep
  rw [← surplusNoted]
  rcases hcap with hcap | hcap
  · simp only [hcap, if_neg (not_lt.mpr h)]
  · simp only [hcap]

/-- Settles O6: shedding by `shedOne_shown`, the return by the equations of `unshed`. -/
theorem loopsAreShedAndReturned : Obligations.LoopsAreShedAndReturned := by
  refine ⟨fun surplus n s hint hext hover hn _ hfit hband hbest => ⟨_, rfl, ?_⟩,
    fun surplus s hext hwithin => ⟨_, rfl, shedStep_within hext hwithin⟩,
    fun n s hn hfit hband honly => ⟨_, rfl, ?_⟩, fun n rest s hn hshed _ hfits => ?_, fun s hno => ?_⟩
  · rw [shedStep_over hint hext hover]
    obtain ⟨h1, h2, h3, h4, h5, h6⟩ := shedOne_shown (s := surplusNoted surplus s) hn hfit hband hbest
    have hnoted : Kept recordBlocks (shedFields n) s (shedOne (surplusNoted surplus s)) :=
      ((Kept.refl s).withPwr _).trans h6
    exact ⟨h1, h2, h3, h4, h5, hnoted.sys, blocksKept_shed hnoted, hnoted.mem⟩
  · have hfail : FieldsKept [.PWR_STAT_SHFAIL] s (s.setFlag .PWR_STAT_SHFAIL true) :=
      (FieldsKept.refl _ s).setFlag (by simp) (by decide)
    have hbandKept : ∀ m, (s.setFlag .PWR_STAT_SHFAIL true).fld (bandFld m) = s.fld (bandFld m) := fun m => hfail.fld rfl
    have hfitKept : ∀ m, m < 6 → (s.setFlag .PWR_STAT_SHFAIL true).fitted m = s.fitted m := fun m hm =>
      hfail.flag (by
        revert m
        decide)
    obtain ⟨h1, -, h3, h4, -, h6⟩ := shedOne_shown (s := s.setFlag .PWR_STAT_SHFAIL true) hn
      (by rw [hfitKept n hn, hfit]) (by rw [hbandKept, hband]) (fun m hm hne hmfit hmband => by
        rw [hfitKept m hm] at hmfit
        rw [hbandKept] at hmband
        exact absurd hmband (honly m hm hne hmfit))
    have hkept : Kept recordBlocks (.PWR_STAT_SHFAIL :: shedFields n) s (shedOne (s.setFlag .PWR_STAT_SHFAIL true)) :=
      ((Kept.refl s).setFlagIn (by simp) (by decide)).trans (h6.mono (List.Subset.refl _) (by simp))
    refine ⟨?_, h1, h3, h4, hkept.sys, hkept.regs.blocksKept (by decide) (by simp [shedFields, bandFld]; decide), hkept.mem⟩
    rw [h6.regs.flag (by decide) (by simp only [shedFields, bandFld]; rfl), flag_setFlag_same _ _ _ (by decide) rfl]
  · refine ⟨unshed s, congrArg Host.Outcome.next (if_pos hfits), fld_band_unshed hn hshed, ?_, flag_SHED_unshed hshed,
      fieldsKept_unshed hshed, unshed_rest hshed⟩
    rw [unshed_rest hshed]
  · refine ⟨s, congrArg Host.Outcome.next ?_, rfl⟩
    rcases hno with hfits | hnone
    · rw [hfits, if_neg Bool.false_ne_true]
    · rw [unshed_of_none hnone, ite_self]

end Sys2Proof.Machine
end

section
/-! Proofs about the host supply: its request, its grant and its cut (R48, R50, R64). -/

namespace Sys2Proof.Machine

/-! ### The end of a lease -/

theorem endLease_of_none_waiting {r : Requester} {s : State} (h : s.pwr.waiting = []) :
    endLease r s = showBudget (setLease r {} s) := by
  have hwait : (setLease r {} s).pwr.waiting = [] := by rw [setLease_waiting, h]
  have hdrop : dropWaiting r leaseTag (setLease r {} s) = setLease r {} s := by
    unfold dropWaiting
    rw [hwait, List.filter_nil, ← hwait]
  rw [endLease, hdrop, arbitrate_nil hwait]

theorem fld_endLease {r : Requester} {s : State} (h : s.pwr.waiting = []) (hr : takesLease r = true) :
    (endLease r s).fld (grantFld r) = gIdle := by
  rw [endLease_of_none_waiting h, fld_showBudget (by rw [grantFld_addr]; decide) (by rw [grantFld_addr]; decide)]
  exact fld_grant_setLease (l := {}) hr (by decide) s

theorem fieldsKept_endLease {r : Requester} {s : State} (h : s.pwr.waiting = []) :
    FieldsKept [grantFld r, wholeReg Reg.PWR_FREE, wholeReg Reg.PWR_LOAD] s (endLease r s) := by
  rw [endLease_of_none_waiting h]
  exact FieldsKept.showBudget (FieldsKept.setLease (.refl _ s) (by simp) {}) (by simp) (by simp)

theorem endLease_host_pwr {s : State} (h : s.pwr.waiting = []) : (endLease .host s).pwr = { s.pwr with host := {} } := by
  rw [endLease_of_none_waiting h, showBudget_pwr]
  rfl

theorem endLease_host_rest {s : State} (h : s.pwr.waiting = []) :
    endLease .host s = { s with regs := (endLease .host s).regs, pwr := { s.pwr with host := {} } } := by
  have hshow := (onlyRegs_showBudget (setLease .host {} s)).eq
  rw [endLease_of_none_waiting h]
  generalize showBudget (setLease .host {} s) = t at hshow ⊢
  rw [hshow]
  rfl

/-! ### VHST off, and the cut (R50) -/

theorem vhstOff_shown (s : State) : (vhstOff s).flag .PWR_HOSTG_VHSTON = false ∧ (vhstOff s).fld .PWR_HOSTG_HOSTG = 0 ∧
    FieldsKept [.PWR_HOSTG_VHSTON, .PWR_HOSTG_HOSTG] s (vhstOff s) :=
  ⟨(flag_setFld_other _ _ _ _ (by decide) (by decide)).trans (flag_setFlag_same _ _ _ (by decide) rfl),
    fld_setFld_same _ .PWR_HOSTG_HOSTG 0 (by decide),
    ((((FieldsKept.refl _ s).setFlag (f := .PWR_HOSTG_VHSTON) (b := false) (by simp) (by decide)).setFld
      (f := .PWR_HOSTG_HOSTG) (v := 0) (by simp) (by decide))).trans (.of_regs rfl)⟩

theorem vhstOff_rest (s : State) : vhstOff s = { s with
    regs := (vhstOff s).regs, flt := { s.flt with hkaRun := false }, pwr := { s.pwr with hostNotice := false } } := rfl

theorem setLease_host_pwr (l : Lease) (s : State) : (setLease .host l s).pwr = { s.pwr with host := l } := rfl

/-- A host lease that a cut ends, or leaves waiting where it was withdrawn (R48, R50). -/
def cutLease (l : Lease) : Lease := if l.state = gWithdraw then { state := gWait, want := l.want } else {}

theorem cutLease_state (l : Lease) : (cutLease l).state = if l.state = gWithdraw then gWait else gIdle := by
  unfold cutLease
  split <;> rfl

/-- What a cut shows of the host's supply. -/
theorem hostCutOff_shown {s : State} (hw : s.pwr.waiting = []) :
    (hostCutOff s).flag .PWR_HOSTG_VHSTON = false ∧ (hostCutOff s).fld .PWR_HOSTG_HOSTG = 0 ∧
      (hostCutOff s).fld .PWR_GRANT_HOST = (cutLease (s.lease .host)).state ∧
      (hostCutOff s).pwr = { s.pwr with hostNotice := false, host := cutLease (s.lease .host), hostCut := true } := by
  have hoff := vhstOff_shown s
  have hwait : (vhstOff s).pwr.waiting = [] := hw
  have hpwr := endLease_host_pwr hwait
  have hend := fieldsKept_endLease (r := .host) hwait
  have hgrant := fld_endLease (r := .host) hwait rfl
  have hcut : ∀ u : State, u.pwr = { (vhstOff s).pwr with host := {} } → u.fld .PWR_GRANT_HOST = gIdle →
      ∀ t, t = (if (s.lease .host).state = gWithdraw then
        setLease .host { state := gWait, want := (s.lease .host).want } u else u) →
      t.flag .PWR_HOSTG_VHSTON = u.flag .PWR_HOSTG_VHSTON ∧ t.fld .PWR_HOSTG_HOSTG = u.fld .PWR_HOSTG_HOSTG ∧
        t.fld .PWR_GRANT_HOST = (cutLease (s.lease .host)).state ∧
        t.pwr = { s.pwr with hostNotice := false, host := cutLease (s.lease .host) } := by
    rintro u hu hidle t rfl
    rw [cutLease_state]
    unfold cutLease
    split
    · have hset := FieldsKept.setLease (.refl [grantFld .host] u) (r := .host) (by simp)
        { state := gWait, want := (s.lease .host).want }
      refine ⟨hset.flag (by decide), hset.fld (by decide), fld_grant_setLease (r := .host) rfl (show gWait < 8 by decide) u, ?_⟩
      rw [setLease_host_pwr, hu]
      rfl
    · exact ⟨rfl, rfl, hidle, hu⟩
  obtain ⟨h1, h2, h3, h4⟩ := hcut (endLease .host (vhstOff s)) hpwr hgrant _ rfl
  refine ⟨?_, ?_, h3, ?_⟩
  · exact h1.trans ((hend.flag (by decide)).trans hoff.1)
  · exact h2.trans ((hend.fld (by decide)).trans hoff.2.1)
  · exact congrArg (fun p : Power => { p with hostCut := true }) h4

theorem blocksKept_hostCutOff (s : State) : BlocksKept [1] s (hostCutOff s) ∧ MemKept s (hostCutOff s) :=
  ⟨(hostCutOff_cuts s).1.regs.blocksKept (by decide) (by decide), (hostCutOff_cuts s).1.mem⟩

/-! ### The grant of the host's lease -/

theorem hirq_of_HWDR {s : State} (h : s.flag .PWR_STAT_HWDR = true) : s.hirq = true := by
  unfold State.hirq
  rw [h]
  rfl

/-- What the whole grant of the host's lease shows (R50). -/
theorem hostGranted_shown {w : Nat} (hw : w < 256) (s : State) :
    ∀ t, t = leaseGranted .host (wholeGrant w) s →
      t.flag .PWR_HOSTG_VHSTON = true ∧ t.fld .PWR_HOSTG_HOSTG = w ∧ t.fld .PWR_GRANT_HOST = gGrant ∧
        t.pwr.hostAsked = s.pwr.hostAsked ∧ t.pwr.hostCut = s.pwr.hostCut ∧
        (s.flag .PWR_HOSTG_VHSTON = true → w < s.fld .PWR_HOSTG_HOSTG →
          t.flag .PWR_STAT_HWDR = true ∧ t.pwr.hostNotice = true) ∧
        FieldsKept (leaseFields .host) s t ∧ MemKept s t := by
  rintro t rfl
  have hgrant := fld_grant_leaseGranted (r := .host) (l := wholeGrant w) rfl (by simp [wholeGrant, gGrant]) s
  have hvhst := flag_VHSTON_leaseGranted (wholeGrant w) s
  have hkept := fieldsKept_leaseGranted .host (wholeGrant w) s
  have hrest := leaseGranted_rest .host (wholeGrant w) s
  have hbase : FieldsKept [grantFld .host] s (setLease .host (wholeGrant w) (leaseWaits .host (waitingFor w) s)) :=
    FieldsKept.setLease (fieldsKept_leaseWaits .host _ s) (by simp) _
  have hon := host_onLease (wholeGrant w) (setLease .host (wholeGrant w) (leaseWaits .host (waitingFor w) s))
  have honRest := onLease_rest .host (wholeGrant w) (setLease .host (wholeGrant w) (leaseWaits .host (waitingFor w) s))
  have hshow : ∀ f : Fld, f.addr ≠ Reg.PWR_FREE → f.addr ≠ Reg.PWR_LOAD → (leaseGranted .host (wholeGrant w) s).fld f =
      (onLease .host (wholeGrant w) (setLease .host (wholeGrant w) (leaseWaits .host (waitingFor w) s))).fld f :=
    fun f h0 h1 => fld_showBudget h0 h1 _
  have hpwr : (leaseGranted .host (wholeGrant w) s).pwr = { (onLease .host (wholeGrant w)
      (setLease .host (wholeGrant w) (leaseWaits .host (waitingFor w) s))).pwr with waiting := [] } := showBudget_pwr _
  generalize leaseGranted .host (wholeGrant w) s = t at *
  obtain ⟨-, hpower, hlower⟩ := hon
  generalize onLease .host (wholeGrant w) (setLease .host (wholeGrant w) (leaseWaits .host (waitingFor w) s)) = u at *
  have hupwr := congrArg State.pwr honRest
  refine ⟨hvhst, ?_, hgrant, ?_, ?_, fun hwas hlow => ?_, hkept, ?_⟩
  · rw [hshow _ (by decide) (by decide), hpower]
    exact Nat.mod_eq_of_lt (by simp only [wholeGrant]; omega)
  · rw [hpwr, hupwr]
    rfl
  · rw [hpwr, hupwr]
    rfl
  · obtain ⟨hhwdr, hnotice⟩ := hlower ((hbase.flag (by decide)).trans hwas) (by
      rw [hbase.fld (by decide)]
      simpa [wholeGrant] using hlow)
    refine ⟨?_, by rw [hpwr]; exact hnotice⟩
    rw [State.flag, hshow _ (by decide) (by decide)]
    exact hhwdr
  · rw [hrest]
    exact .of_eq rfl rfl rfl

theorem blocksKept_leaseFields {s t : State} (h : FieldsKept (leaseFields .host) s t) : BlocksKept [1] s t :=
  h.blocks (by decide)

/-! ### A write of PWR.HOSTP (R64) -/

/-- The power asked for is stored, and whether any is. -/
def hostpSet (want : Nat) (s : State) : State :=
  { s.setFld .PWR_HOSTP_HOSTP want with pwr := { s.pwr with hostAsked := decide (want ≠ 0) } }

theorem fieldsKept_hostpSet (want : Nat) (s : State) : FieldsKept [.PWR_HOSTP_HOSTP] s (hostpSet want s) :=
  ((FieldsKept.refl _ s).setFld (by simp) (by decide)).trans (.of_regs rfl)

theorem fld_hostpSet {want : Nat} (h : want ≤ 200) (s : State) : (hostpSet want s).fld .PWR_HOSTP_HOSTP = want :=
  (fld_setFld_same s .PWR_HOSTP_HOSTP want (by decide)).trans (Nat.mod_eq_of_lt (by
    simp only
    omega))

/-- The power asked for is not part of what the budget leaves the host. -/
theorem guarLeft_hostpSet (want : Nat) (s : State) : guarLeft (hostpSet want s) .host = guarLeft s .host := by
  have hkept := fieldsKept_hostpSet want s
  have hreg : ∀ a, a ≠ Reg.PWR_HOSTP → (hostpSet want s).reg a = s.reg a := fun a ha => hkept.reg (by simpa using Ne.symm ha)
  have hcfg : (hostpSet want s).activeCfg = s.activeCfg :=
    activeCfg_congr (fun a ha => hreg a (Nat.ne_of_gt (Nat.lt_of_lt_of_le (by decide) ha))) rfl
  have hspeed : (hostpSet want s).speed = s.speed := reg32_congr (hreg _ (by decide)) (hreg _ (by decide))
  have hprofile : (hostpSet want s).profile = s.profile := hkept.fld (by decide)
  have hguar : (hostpSet want s).regN Reg.PWR_GUAR = s.regN Reg.PWR_GUAR := hkept.regN (by decide)
  have hback : hostKeptBack (hostpSet want s) = hostKeptBack s := by
    have hrope : (hostpSet want s).pwr.rope = s.pwr.rope := rfl
    simp only [hostKeptBack, hprofile, hcfg, hspeed, hrope]
  have hlease : (hostpSet want s).lease = s.lease := by
    funext q
    cases q <;> rfl
  simp only [guarLeft, hguar, hprofile, hback, hlease]

theorem hostpEffect_eq (v : Nat) (s : State) : hostpEffect v s =
    if min v 200 = 0 then vhstOff (endLease .host (hostpSet (min v 200) s))
    else if s.pwr.hostCut || !s.isActive then hostpSet (min v 200) s
    else requestLease .host (min v 200) (hostpSet (min v 200) s) := by
  have hactive : (hostpSet (min v 200) s).isActive = s.isActive := by
    unfold State.isActive State.mode
    rw [(fieldsKept_hostpSet (min v 200) s).fld (by decide)]
  unfold hostpEffect
  dsimp only
  rw [← hactive]
  rfl

theorem getField_word_low {v : Nat} (hv : v < 65536) : getField (word v) 0 8 = v % 256 := by
  simp [getField, BitVec.extractLsb'_toNat, toNat_word hv]

theorem accessWrite_HOSTP {p : Path} {v : Nat} {s : State} (hv : v < 65536) (h : Admits p Reg.PWR_HOSTP s) :
    accessWrite p Reg.PWR_HOSTP (word v) s = executed p (0, hostpEffect (v % 256) (dropKey p s)) := by
  rw [accessWrite_of_admits h, ← getField_word_low hv]
  rfl

theorem exec_hostpWrite {p : Path} {v : Nat} (hp : isPath p = true) (hv : v < 65536) (s : State) :
    exec (.hostpWrite p v) s = .next (pathWrite p Reg.PWR_HOSTP (word v) s) :=
  answerIf_next.mpr ⟨by simp [okPath_eq_isPath, hp, isWord, hv], rfl⟩


theorem runs_hostpWrite {p : Path} {v : Nat} {s : State} {P : State → Prop} (hp : isPath p = true)
    (hv : fits 16 v = true) (h : Admits p Reg.PWR_HOSTP s)
    (hP : ∀ ps host, P { hostpEffect (v % 256) (dropKey p s) with paths := ps, host := host }) :
    Runs (.hostpWrite p v) s P := by
  have hlt : v < 65536 := by simpa [fits] using hv
  exact runs_executed (exec_hostpWrite hp hlt s) (accessWrite_HOSTP hlt h) fun ps host _ => hP ps host

/-! ### The obligation -/

/-- The draw is noted. -/
def drawNoted (i : Nat) (s : State) : State := s.setRegN Reg.PWR_HOSTI i

theorem drawNoted_shown {i : Nat} (hi : i < 65536) (s : State) : (drawNoted i s).regN Reg.PWR_HOSTI = i ∧
    FieldsKept [wholeReg Reg.PWR_HOSTI] s (drawNoted i s) := by
  refine ⟨?_, (FieldsKept.refl _ s).setRegN (by simp)⟩
  rw [drawNoted, regN_setRegN_same, Nat.mod_eq_of_lt hi]

theorem hostOverdraw_eq (i : Nat) (s : State) : hostOverdraw i s =
    if s.flag .PWR_HOSTG_VHSTON && decide (s.fld .PWR_HOSTG_HOSTG * 1100 < i * 330) then
      { (drawNoted i s).setFlag .PWR_STAT_HWDR true with pwr := { s.pwr with hostNotice := true } }
    else drawNoted i s := by
  have hkept : FieldsKept [wholeReg Reg.PWR_HOSTI] s (drawNoted i s) := (FieldsKept.refl _ s).setRegN (by simp)
  have hon : (drawNoted i s).flag .PWR_HOSTG_VHSTON = s.flag .PWR_HOSTG_VHSTON := hkept.flag (by decide)
  have hpower : (drawNoted i s).fld .PWR_HOSTG_HOSTG = s.fld .PWR_HOSTG_HOSTG := hkept.fld (by decide)
  unfold hostOverdraw
  dsimp only
  rw [← drawNoted, hon, hpower]
  rfl

theorem exec_hostOverdraw {i : Nat} (hi : i < 65536) (s : State) : exec (.hostOverdraw i) s = .next (hostOverdraw i s) :=
  answerIf_next.mpr ⟨decide_eq_true hi, rfl⟩

theorem exec_hostSupplyCut {i : Nat} (hi : i < 65536) (s : State) :
    exec (.hostSupplyCut i) s = .next (hostSupplyCut i s) := answerIf_next.mpr ⟨decide_eq_true hi, rfl⟩

/-- The notice is used up. -/
def noticeUsed (i : Nat) (s : State) : State := { drawNoted i s with pwr := { s.pwr with hostNotice := false } }

theorem hostSupplyCut_eq {i : Nat} (hi : i < 65536) (s : State) : hostSupplyCut i s =
    if s.pwr.hostNotice && decide (s.fld .PWR_HOSTG_HOSTG * 100 < i * 33) then hostCutOff (noticeUsed i s)
    else noticeUsed i s := by
  have hshown := drawNoted_shown hi s
  have hpower : (noticeUsed i s).fld .PWR_HOSTG_HOSTG = s.fld .PWR_HOSTG_HOSTG := hshown.2.fld (by decide)
  have hdraw : (noticeUsed i s).regN Reg.PWR_HOSTI = i := hshown.1
  have hlevel : (!(noticeUsed i s).hostAtLevel) = decide (s.fld .PWR_HOSTG_HOSTG * 100 < i * 33) := by
    rw [State.hostAtLevel, hpower, hdraw, ← decide_not]
    exact decide_eq_decide.mpr not_le
  rw [← hlevel]
  rfl

theorem fieldsKept_noticeUsed (i : Nat) (s : State) : FieldsKept [wholeReg Reg.PWR_HOSTI] s (noticeUsed i s) :=
  ((FieldsKept.refl _ s).setRegN (by simp)).trans (.of_regs rfl)

/-- The second is over. -/
def cutOver (s : State) : State := { s with pwr := { s.pwr with hostCut := false } }

theorem hostSupplyRestore_of_cut {s : State} (h : s.pwr.hostCut = true) : hostSupplyRestore s =
    if s.fld .PWR_HOSTP_HOSTP = 0 then cutOver s else requestLease .host (s.fld .PWR_HOSTP_HOSTP) (cutOver s) := by
  unfold hostSupplyRestore
  rw [if_pos h]
  rfl

/-- Settles O7: the write by `hostpEffect_eq`, the grant by `hostGranted_shown`, the cut by `hostCutOff_shown`. -/
theorem hostSupplyFollowsItsLease : Obligations.HostSupplyFollowsItsLease := by
  refine ⟨fun p v s hp hv hzero hadm hw => runs_hostpWrite hp hv hadm fun ps host => ?_,
    fun p v s hp hv hpos hadm hheld hactive hcut hw hallow hcover => runs_hostpWrite hp hv hadm fun ps host => ?_,
    fun p v s hp hv hpos hadm hno => runs_hostpWrite hp hv hadm fun ps host => ?_,
    fun i s hi hon hover => ⟨_, exec_hostOverdraw hi s, ?_⟩, fun i s hi hunder => ⟨_, exec_hostOverdraw hi s, ?_⟩,
    fun i s hi hnotice hover hw => ⟨_, exec_hostSupplyCut hi s, ?_⟩,
    fun i s hi hunder => ⟨_, exec_hostSupplyCut hi s, ?_⟩,
    fun s hheld hcut hask hw hallow hcover => ⟨hostSupplyRestore s, rfl, ?_⟩,
    fun s hcut hnone => ⟨hostSupplyRestore s, rfl, ?_⟩, fun s hcut => ⟨hostSupplyRestore s, rfl, ?_⟩⟩
  · have hset := fieldsKept_hostpSet 0 (dropKey p s)
    have hask := fld_hostpSet (want := 0) (by decide) (dropKey p s)
    have hwait : (hostpSet 0 (dropKey p s)).pwr.waiting = [] := hw
    have hend := fieldsKept_endLease (r := .host) hwait
    have hrest := endLease_host_rest hwait
    have hgrant := fld_endLease (r := .host) hwait rfl
    have heff : hostpEffect (v % 256) (dropKey p s) = vhstOff (endLease .host (hostpSet 0 (dropKey p s))) := by
      rw [hostpEffect_eq, hzero, if_pos (by decide)]
      rfl
    rw [heff]
    obtain ⟨hon, hpower, hoff⟩ := vhstOff_shown (endLease .host (hostpSet 0 (dropKey p s)))
    have hpwr : (vhstOff (endLease .host (hostpSet 0 (dropKey p s)))).pwr =
        { (hostpSet 0 (dropKey p s)).pwr with host := {}, hostNotice := false } := by
      rw [vhstOff_rest, endLease_host_pwr hwait]
    have hblocks : BlocksKept [1] s (vhstOff (endLease .host (hostpSet 0 (dropKey p s)))) :=
      (((FieldsKept.refl [.PWR_HOSTP_HOSTP] s).dropKey.trans hset).blocks (by decide)).trans
        ((hend.blocks (by decide)).trans (hoff.blocks (by decide)))
    have hmem : MemKept s (vhstOff (endLease .host (hostpSet 0 (dropKey p s)))) := by
      rw [vhstOff_rest, hrest]
      exact .of_eq rfl rfl rfl
    refine ⟨?_, hon, hpower, congrArg Power.host hpwr, congrArg Power.hostAsked hpwr, ?_, hblocks, hmem⟩
    · exact (hoff.fld (by decide)).trans ((hend.fld (by decide)).trans hask)
    · exact (hoff.fld (by decide)).trans hgrant
  · have hpos' : min (v % 256) 200 ≠ 0 := by omega
    have hset := fieldsKept_hostpSet (min (v % 256) 200) (dropKey p s)
    have hask := fld_hostpSet (want := min (v % 256) 200) (by omega) (dropKey p s)
    have hleft : guarLeft (hostpSet (min (v % 256) 200) (dropKey p s)) .host = guarLeft s .host := guarLeft_hostpSet _ _
    have heff : hostpEffect (v % 256) (dropKey p s) =
        leaseGranted .host (wholeGrant (min (v % 256) 200)) (hostpSet (min (v % 256) 200) (dropKey p s)) := by
      have hcut' : (dropKey p s).pwr.hostCut = false := hcut
      have hactive' : (dropKey p s).isActive = true := hactive
      have hprofile : (hostpSet (min (v % 256) 200) (dropKey p s)).profile = s.profile := hset.fld (by decide)
      rw [hostpEffect_eq, if_neg hpos', hcut', hactive', if_neg (by decide)]
      exact requestLease_whole rfl hheld hw (by rw [hprofile]; exact hallow) (by rw [hleft]; exact hcover)
    obtain ⟨hon, hpower, hgrant, hasked, -, hlower, hkept, hmem⟩ := hostGranted_shown (w := min (v % 256) 200) (by omega)
      (hostpSet (min (v % 256) 200) (dropKey p s)) _ rfl
    rw [heff]
    refine ⟨(hkept.fld (by decide)).trans hask, hon, hpower, hgrant, hasked.trans (decide_eq_true hpos'), fun hwas hlow => ?_,
      ((hset.blocks (by decide)).trans (blocksKept_leaseFields hkept)), hmem⟩
    obtain ⟨hhwdr, hnotice⟩ := hlower ((hset.flag (by decide)).trans hwas) (by rw [hset.fld (by decide)]; exact hlow)
    exact ⟨hhwdr, hirq_of_HWDR hhwdr, hnotice⟩
  · have hpos' : min (v % 256) 200 ≠ 0 := by omega
    have hset := fieldsKept_hostpSet (min (v % 256) 200) (dropKey p s)
    have hkeep : ((dropKey p s).pwr.hostCut || !(dropKey p s).isActive) = true := by
      change (s.pwr.hostCut || !s.isActive) = true
      rcases hno with h | h <;> simp [h]
    have heff : hostpEffect (v % 256) (dropKey p s) = hostpSet (min (v % 256) 200) (dropKey p s) := by
      rw [hostpEffect_eq, if_neg hpos', if_pos hkeep]
    rw [heff]
    exact ⟨fld_hostpSet (by omega) _, by rw [hostpSet, decide_eq_true hpos']; rfl, hset, .of_eq rfl rfl rfl⟩
  · have heff : hostOverdraw i s = { (drawNoted i s).setFlag .PWR_STAT_HWDR true with
        pwr := { s.pwr with hostNotice := true } } := by
      rw [hostOverdraw_eq, hon, decide_eq_true hover, Bool.and_self, if_pos rfl]
    have hhwdr : ((drawNoted i s).setFlag .PWR_STAT_HWDR true).flag .PWR_STAT_HWDR = true :=
      flag_setFlag_same _ _ _ (by decide) rfl
    obtain ⟨hdraw, hnoted⟩ := drawNoted_shown hi s
    rw [heff]
    refine ⟨(regN_setFlag_other (by decide)).trans hdraw, hhwdr, hirq_of_HWDR hhwdr, ?_, rfl⟩
    exact ((hnoted.mono (by simp)).setFlag (by simp) (by decide)).trans (.of_regs rfl)
  · have heff : hostOverdraw i s = drawNoted i s := by
      rw [hostOverdraw_eq]
      refine if_neg ?_
      rcases hunder with h | h
      · simp [h]
      · simp [h]
    obtain ⟨hdraw, hnoted⟩ := drawNoted_shown hi s
    rw [heff]
    exact ⟨hdraw, hnoted, rfl⟩
  · have heff : hostSupplyCut i s = hostCutOff (noticeUsed i s) := by
      rw [hostSupplyCut_eq hi, hnotice, decide_eq_true hover, Bool.and_self, if_pos rfl]
    obtain ⟨hdraw, -⟩ := drawNoted_shown hi s
    have hnoted := fieldsKept_noticeUsed i s
    obtain ⟨hon, hpower, hgrant, hpwr⟩ := hostCutOff_shown (s := noticeUsed i s) hw
    obtain ⟨hblocks, hmem⟩ := blocksKept_hostCutOff (noticeUsed i s)
    have hdrawn : (hostCutOff (noticeUsed i s)).regN Reg.PWR_HOSTI = i :=
      ((hostCutOff_cuts _).1.regs.regN (by decide) (by decide)).trans hdraw
    rw [heff]
    refine ⟨hdrawn, hon, hpower, by rw [hpwr], by rw [hpwr], fun hst => ⟨?_, ?_⟩, fun hst => ⟨?_, ?_⟩,
      (hnoted.blocks (by decide)).trans hblocks, MemKept.trans (.of_eq rfl rfl rfl) hmem⟩
    · rw [hpwr]
      exact if_pos hst
    · rw [hgrant, cutLease_state]
      exact if_pos hst
    · rw [hpwr]
      exact if_neg hst
    · rw [hgrant, cutLease_state]
      exact if_neg hst
  · have heff : hostSupplyCut i s = noticeUsed i s := by
      rw [hostSupplyCut_eq hi]
      refine if_neg ?_
      rcases hunder with h | h
      · simp [h]
      · simp [h]
    rw [heff]
    exact ⟨(drawNoted_shown hi s).1, fieldsKept_noticeUsed i s, rfl⟩
  · have hwant : s.fld .PWR_HOSTP_HOSTP < 256 := fld_lt s _
    have hleft : guarLeft (cutOver s) .host = guarLeft s .host := rfl
    have heff : hostSupplyRestore s = leaseGranted .host (wholeGrant (s.fld .PWR_HOSTP_HOSTP)) (cutOver s) := by
      rw [hostSupplyRestore_of_cut hcut, if_neg hask]
      exact requestLease_whole rfl hheld hw hallow (by rw [hleft]; exact hcover)
    obtain ⟨hon, hpower, hgrant, -, hcutEnd, -, hkept, hmem⟩ :=
      hostGranted_shown (w := s.fld .PWR_HOSTP_HOSTP) hwant (cutOver s) _ rfl
    rw [heff]
    exact ⟨hcutEnd, hon, hpower, hgrant, blocksKept_leaseFields hkept, hmem⟩
  · rw [hostSupplyRestore_of_cut hcut, if_pos hnone]
    rfl
  · unfold hostSupplyRestore
    rw [hcut, if_neg Bool.false_ne_true]

end Sys2Proof.Machine
end

section
/-! A proof about the entry into bivouac (R99, R100, R294). -/

namespace Sys2Proof.Machine

/-- A window of an occurrence in its integration. -/
def runningWindow : Window :=
  { occ := ⟨0, 0, 0, 0, 0, false⟩, phase := 2, topo := [], route := [], routeIdx := 0, base := 0, gain := 0, ofs := 0, gn := 0,
    burn := 0, angleWin := false, cycles := 64, ticks := 0, setStart := 0, intStart := 0, travel := 0, short := false,
    early := false, supd := false, atime := false, setl := false, half := false, lostFirst := [], lostSecond := [],
    sub := false, partner := none, burst := false }

/-- A running unit at standstill whose reference buffer is on for the window in progress alone, REF.CTRL.BUFEN being 0. -/
def bufferForWindow : State := { State.reset with
  regs := [(Reg.SYS_BOOTST, 0x8000), (Reg.SYS_STAT, 0x4000), (Reg.REF_CTRL, 0), (Reg.REF_STAT, 0x4000), (Reg.ANG_CFG, 1),
    (Reg.ANG_BIVSPD, 100), (Reg.ANG_BIVTMO, 10)]
  sys := { State.reset.sys with held := false }
  slices := { win := some runningWindow } :: State.reset.slices.tail }

/-- Refutes O14: the entry remembers the buffer after the windows have ended, and with BUFEN = 0 the end of the last window that
needs it turns the buffer off (R294), so `bivRef` is not the BUFON of before. -/
theorem not_bivouacIsEnteredAndLeft : ¬ Obligations.BivouacIsEnteredAndLeft := by
  intro h
  obtain ⟨-, -, -, hstandstill, -⟩ := h
  obtain ⟨t, ht, -, -, -, -, href, -⟩ := hstandstill bufferForWindow (by decide +kernel)
  have hafter : nextView true (fun t => t.sys.bivRef) (exec .bivouacStandstill bufferForWindow) = false := by
    decide +kernel
  have hbefore : bufferForWindow.flag .REF_STAT_BUFON = true := by decide +kernel
  rw [ht] at hafter
  exact absurd (hbefore.symm.trans (href.symm.trans hafter)) (by decide)

end Sys2Proof.Machine
end

section
/-! A proof about boot phase 1 (R71, R645). -/

namespace Sys2Proof.Machine

/-- A unit in boot phase 1 whose FLTH is still low. -/
def lowFaultPin : State := { State.reset with
  regs := [(Reg.SYS_BOOTST, 0x1000), (Reg.SYS_STAT, 0), (Reg.FLT_STAT, 0)]
  sys := { State.reset.sys with held := false } }

/-- Refutes O17: BOOT_OSCILLATOR drives FLTH, which the model holds in FLT.STAT.FLTHS, a register of block 2; the clause keeps
every register outside blocks 0, 1, 7, 11 and 12. -/
theorem not_bootFindsTheImage : ¬ Obligations.BootFindsTheImage := by
  intro h
  obtain ⟨hoscillator, -⟩ := h
  obtain ⟨t, ht, -, -, -, -, -, -, -, -, -, -, -, -, hblocks, -⟩ :=
    hoscillator false false 0 lowFaultPin (by decide +kernel) (by decide +kernel) rfl
  have hafter : nextView false (fun t => t.flag .FLT_STAT_FLTHS) (exec (.bootOscillator false false 0) lowFaultPin) = true := by
    decide +kernel
  have hkept : t.flag .FLT_STAT_FLTHS = lowFaultPin.flag .FLT_STAT_FLTHS := by
    rw [State.flag, State.fld, hblocks _ (by decide)]
    rfl
  have hbefore : lowFaultPin.flag .FLT_STAT_FLTHS = false := by decide +kernel
  rw [ht] at hafter
  exact absurd (hafter.symm.trans (hkept.trans hbefore)) (by decide)

end Sys2Proof.Machine
end

section
/-! Proofs about the host port: its frames and their answers, and the ends of bursts and of remote accesses (R117 to R135). -/

namespace Sys2Proof.Machine

/-! ### The bits of a frame (R119) -/

theorem isFrame_iff {f : HostFrame} :
    isFrame f = true ↔ f.unit < 32 ∧ f.addr < 512 ∧ f.data < 65536 ∧ f.crc < 256 := by
  simp [isFrame, fits, and_assoc]

theorem hostFrameCommand_frameBits (w : Bool) {f : HostFrame} (h : isFrame f = true) :
    hostFrameCommand (Sys2Proof.frameBits w f) f.gapOk =
      (if w then .hostWriteFrame f
       else if f.unit = 0 ∧ f.addr = 0 ∧ f.inc = false ∧ f.data = 0xFFFF then .hostNopFrame f.crc f.gapOk
       else .hostReadFrame f) := by
  obtain ⟨hunit, haddr, hdata, hcrc⟩ := isFrame_iff.mp h
  obtain ⟨unit, addr, inc, data, crc, gapOk⟩ := f
  simp only at hunit haddr hdata hcrc
  have hbits : ∀ b, b = Sys2Proof.frameBits w ⟨unit, addr, inc, data, crc, gapOk⟩ →
      b / 2 ^ 34 % 32 = unit ∧ b / 2 ^ 25 % 512 = addr ∧ b.testBit 24 = inc ∧ b / 2 ^ 8 % 65536 = data ∧ b % 256 = crc ∧
        b.testBit 39 = w ∧ (w = false → (b / 2 ^ 8 % 2 ^ 32 = 0xFFFF ↔ unit = 0 ∧ addr = 0 ∧ inc = false ∧ data = 0xFFFF)) := by
    rintro b rfl
    simp only [Nat.testBit_eq_decide_div_mod_eq, Sys2Proof.frameBits]
    cases w <;> cases inc <;> simp <;> omega
  obtain ⟨h1, h2, h3, h4, h5, h6, h7⟩ := hbits _ rfl
  unfold hostFrameCommand
  cases w with
  | true => simp only [h1, h2, h3, h4, h5, h6, if_true]
  | false => simp only [h1, h2, h3, h4, h5, h6, h7 rfl, Bool.false_eq_true, if_false]

/-! ### A frame that passed -/

theorem okFrame_eq_isFrame (f : HostFrame) : okFrame f = isFrame f := by
  simp [okFrame, isFrame, isWord, fits]

theorem exec_hostReadFrame {f : HostFrame} (h : isFrame f = true) (s : State) :
    exec (.hostReadFrame f) s = .next (hostFrame false f s) :=
  answerIf_next.mpr ⟨by rw [okFrame_eq_isFrame, h], rfl⟩

theorem exec_hostWriteFrame {f : HostFrame} (h : isFrame f = true) (s : State) :
    exec (.hostWriteFrame f) s = .next (hostFrame true f s) :=
  answerIf_next.mpr ⟨by rw [okFrame_eq_isFrame, h], rfl⟩

theorem exec_hostNopFrame {crc : Nat} (h : crc < 256) (gapOk : Bool) (s : State) :
    exec (.hostNopFrame crc gapOk) s = .next (hostFrame false (nopFrame crc gapOk) s) :=
  answerIf_next.mpr ⟨decide_eq_true h, rfl⟩

theorem held_of_served {s : State} (h : s.served = true) : s.sys.held = false := by
  unfold State.served at h
  rw [Bool.and_eq_true, Bool.not_eq_true'] at h
  exact h.1

theorem hostFrame_good {w : Bool} {f : HostFrame} {s : State} (hheld : s.sys.held = false) (hgap : f.gapOk = true)
    (hcrc : frameCrcOk w f = true) (hnop : isNop w f = false) : hostFrame w f s = runFrame w f (shiftAnswer s) := by
  simp [hostFrame, hheld, hgap, hcrc, hnop]

theorem isNop_write (f : HostFrame) : isNop true f = false := rfl

theorem isNop_of_data {f : HostFrame} (h : f.data = 0) : isNop false f = false := by simp [isNop, h]

theorem hostFrame_badCrc {w : Bool} {f : HostFrame} {s : State} (hheld : s.sys.held = false) (hgap : f.gapOk = true)
    (hcrc : frameCrcOk w f = false) : hostFrame w f s = hostAnswer stCrcErr 0 (shiftAnswer s) := by
  simp [hostFrame, hheld, hgap, hcrc]

theorem hostFrame_early {w : Bool} {f : HostFrame} {s : State} (hheld : s.sys.held = false) (hgap : f.gapOk = false) :
    hostFrame w f s = shiftOnes s := by
  simp [hostFrame, hheld, hgap]

theorem hostFrame_nop {crc : Nat} {s : State} (hheld : s.sys.held = false)
    (hcrc : frameCrcOk false (nopFrame crc true) = true) : hostFrame false (nopFrame crc true) s = runNop (shiftAnswer s) := by
  have hgap : (nopFrame crc true).gapOk = true := rfl
  have hnop : isNop false (nopFrame crc true) = true := rfl
  simp [hostFrame, hheld, hgap, hcrc, hnop]

/-! ### An access of this unit -/

/-- The address that a frame of this unit uses. -/
def frameAddr (w : Bool) (f : HostFrame) (s : State) : Nat := (s.nextInBurst w f.unit).getD f.addr

theorem localFrame_of_access {w : Bool} {f : HostFrame} {v : Word} {s t : State} {a st : Nat}
    (ha : frameAddr w f s = a) (hlow : a < 512) (haccess : localAccess w a v s = (st, t)) (hst : st = 0) :
    localFrame w f.unit f.addr f.inc v s = setBurst (if f.inc then some (w, f.unit, a) else none) t := by
  unfold frameAddr at ha
  subst hst
  unfold localFrame
  simp only [ha, haccess]
  rw [if_neg (by omega), if_neg (by decide)]

theorem runFrame_local {w : Bool} {f : HostFrame} {s t : State} {a : Nat} (hserved : s.served = true)
    (hpending : s.remotePending = false) (hdata : w = true ∨ f.data = 0) (hown : s.ownTarget f.unit = true)
    (ha : frameAddr w f s = a) (hlow : a < 512) (haccess : localAccess w a (word f.data) s = (0, t)) :
    runFrame w f s = setBurst (if f.inc then some (w, f.unit, a) else none) t := by
  have hdeny : (!w && f.data != 0) = false := by
    rcases hdata with h | h <;> simp [h]
  unfold runFrame
  simp only [hserved, hpending, hdeny, hown, Bool.not_true, Bool.false_eq_true, if_false, if_true]
  exact localFrame_of_access ha hlow haccess rfl

/-- What a read of a plain register leaves. -/
def plainRead (a : Nat) (s : State) : State := hostAnswer 0 (s.reg a) (readClears a (dropKey .host s))

theorem localAccess_read {a : Nat} {v : Word} {s : State} (h : AdmitsRead .host a s) (hp : plainlyRead a = true) :
    localAccess false a v s = (0, plainRead a s) := by
  simp only [localAccess, accessRead_plain h hp]
  rfl

/-- What a write of a plain register leaves. -/
def plainWritten (a : Nat) (v : Word) (s : State) : State :=
  hostAnswer 0 v (((dropKey .host s).setReg a (writtenWord a (s.reg a) v)).modPath .host (fun x => { x with readShadow := [] }))

theorem localAccess_write {a : Nat} {v : Word} {s : State} (ha : a < 512) (h : Admits .host a s)
    (hp : plainlyWritten a = true) : localAccess true a v s = (0, plainWritten a v s) := by
  simp only [plainlyWritten, Bool.and_eq_true, Bool.not_eq_true', beq_iff_eq] at hp
  obtain ⟨⟨⟨⟨⟨hact, hq⟩, hw⟩, hforce⟩, hfix⟩, hst⟩ := hp
  simp only [localAccess, accessWrite_plain h hact hq hw hforce hfix, plainWrite_live ha hst]
  rfl

/-- A plain read, as a frame of the host leaves it: the answer, the register, and what stays. -/
theorem plainRead_shown {a : Nat} (hp : plainlyRead a = true) (b : Option (Bool × Nat × Nat)) (s : State) :
    ∀ t, t = setBurst b (plainRead a (shiftAnswer s)) →
      t.host = { s.host with answer := ⟨0, s.reg a⟩, shifted := s.answerBytes, driven := true, burst := b } ∧
      t.reg a = s.reg a &&& ~~~(word (regInfo a).rc) ∧ FieldsKept [wholeReg a] s t ∧
      t = { s with regs := t.regs, paths := t.paths, host := t.host } := by
  rintro t rfl
  have hmax := ne_THM_MAX_of_plainlyRead hp
  have hrest := readClears_rest hmax (dropKey .host (shiftAnswer s))
  have hkept := fieldsKept_readClears hmax (dropKey .host (shiftAnswer s))
  have hreg := reg_readClears hmax (dropKey .host (shiftAnswer s))
  unfold plainRead
  generalize readClears a (dropKey .host (shiftAnswer s)) = u at hrest hkept hreg ⊢
  refine ⟨?_, hreg, ?_, ?_⟩
  · rw [hrest]
    rfl
  · exact FieldsKept.trans (.of_regs rfl) (hkept.trans (.of_regs rfl))
  · rw [hrest]
    rfl

theorem plainWritten_shown (a : Nat) (v : Word) (b : Option (Bool × Nat × Nat)) (s : State) :
    ∀ t, t = setBurst b (plainWritten a v (shiftAnswer s)) →
      t.host = { s.host with answer := ⟨0, v⟩, shifted := s.answerBytes, driven := true, burst := b } ∧
      t.reg a = writtenWord a (s.reg a) v ∧ FieldsKept [wholeReg a] s t ∧
      t = { s with regs := t.regs, paths := t.paths, host := t.host } := by
  rintro t rfl
  refine ⟨rfl, ?_, ?_, rfl⟩
  · exact reg_setReg_same _ _ _
  · refine FieldsKept.trans (FieldsKept.setReg (a := a) (w := writtenWord a (s.reg a) v) (FieldsKept.of_regs rfl) (by simp))
      (.of_regs rfl)

/-! ### The obligations -/

theorem remotePending_none {s : State} (h : s.remotePending = false) (st : Nat) (d : Word) (tag : Nat) :
    answerRemote tag st d s = s := by
  unfold State.remotePending at h
  unfold answerRemote
  split
  · rename_i r hr
    rw [hr] at h
    rw [if_neg]
    simp only [Bool.and_eq_true, not_and, Bool.not_eq_true]
    exact fun _ => h
  · rfl

/-- Settles O19: the accesses by the lemmas on plain registers, the decoding by `hostFrameCommand_frameBits`. -/
theorem hostFramesAreAnswered : Obligations.HostFramesAreAnswered := by
  refine ⟨fun f s hf hgap hcrc hdata hinc hown hburst hpending hadm hplain => ⟨_, exec_hostReadFrame hf s, ?_⟩,
    fun f s hf hgap hcrc hinc hown hburst hpending hadm hplain => ⟨_, exec_hostWriteFrame hf s, ?_⟩,
    fun crc s hcrc hlow hserved => ⟨_, exec_hostNopFrame hlow true s, ?_⟩,
    fun c f s hf hgap hheld hc => ?_, fun c f s hf hgap hheld hc => ?_,
    fun f last s hf hgap hcrc hdata hinc hown hburst hlast hpending hadm hplain => ⟨_, exec_hostReadFrame hf s, ?_⟩,
    fun f s hf hgap hcrc hheld hserved => ⟨_, exec_hostWriteFrame hf s, ?_⟩,
    fun f s hf hgap hcrc hserved hpending => ⟨_, exec_hostWriteFrame hf s, ?_⟩,
    fun f s hf hgap hcrc hserved hpending haddr hunit => ⟨_, exec_hostWriteFrame hf s, ?_⟩,
    fun w f hf => hostFrameCommand_frameBits w hf⟩
  · have haddr : frameAddr false f (shiftAnswer s) = f.addr := by
      have hnone : (shiftAnswer s).nextInBurst false f.unit = none := by
        unfold State.nextInBurst
        rw [show (shiftAnswer s).host.burst = none from hburst]
      rw [frameAddr, hnone, Option.getD_none]
    have hrun := runFrame_local (w := false) (f := f) (s := shiftAnswer s) hadm.1 hpending (.inr hdata) hown haddr
      (isFrame_iff.mp hf).2.1 (localAccess_read hadm hplain)
    rw [hostFrame_good (held_of_served hadm.1) hgap hcrc (isNop_of_data hdata), hrun, hinc]
    obtain ⟨h1, h2, h3, h4⟩ := plainRead_shown hplain none s _ rfl
    exact ⟨h1.trans (by rw [← hburst]), h2, h3, h4⟩
  · have haddr : frameAddr true f (shiftAnswer s) = f.addr := by
      have hnone : (shiftAnswer s).nextInBurst true f.unit = none := by
        unfold State.nextInBurst
        rw [show (shiftAnswer s).host.burst = none from hburst]
      rw [frameAddr, hnone, Option.getD_none]
    have hlow := (isFrame_iff.mp hf).2.1
    have hrun := runFrame_local (w := true) (f := f) (s := shiftAnswer s) hadm.1 hpending (.inl rfl) hown haddr hlow
      (localAccess_write hlow hadm hplain)
    rw [hostFrame_good (held_of_served hadm.1) hgap hcrc (isNop_write f), hrun, hinc]
    obtain ⟨h1, h2, h3, h4⟩ := plainWritten_shown f.addr (word f.data) none s _ rfl
    exact ⟨h1.trans (by rw [← hburst]), h2, h3, h4⟩
  · have hserved' : (setBurst none (shiftAnswer s)).served = true := hserved
    have hremote : (setBurst none (shiftAnswer s)).host.remote = s.host.remote := rfl
    rw [hostFrame_nop (held_of_served hserved) hcrc]
    unfold runNop
    simp only [hserved', Bool.not_true, Bool.false_eq_true, if_false, hremote]
    cases hr : s.host.remote with
    | none => exact ⟨rfl, fun _ => rfl, fun r h => (nomatch h), fun r a h => (nomatch h), rfl⟩
    | some r =>
      cases ha : r.answer with
      | none =>
        refine ⟨by simp only [ha]; rfl, fun h => (nomatch h), fun q h hq => ?_, fun q a h hq => ?_, by simp only [ha]; rfl⟩
        · cases h
          simp only [ha]
          exact ⟨rfl, hr⟩
        · cases h
          rw [ha] at hq
          cases hq
      | some a =>
        refine ⟨by simp only [ha]; rfl, fun h => (nomatch h), fun q h hq => ?_, fun q b h hq => ?_, by simp only [ha]; rfl⟩
        · cases h
          rw [ha] at hq
          cases hq
        · cases h
          rw [ha] at hq
          cases hq
          simp only [ha]
          exact ⟨rfl, rfl⟩
  · rcases hc with ⟨rfl, hcrc⟩ | ⟨rfl, hcrc⟩
    · exact ⟨_, exec_hostReadFrame hf s, hostFrame_badCrc hheld hgap hcrc⟩
    · exact ⟨_, exec_hostWriteFrame hf s, hostFrame_badCrc hheld hgap hcrc⟩
  · rcases hc with rfl | rfl | rfl
    · exact ⟨_, exec_hostReadFrame hf s, hostFrame_early hheld hgap⟩
    · exact ⟨_, exec_hostWriteFrame hf s, hostFrame_early hheld hgap⟩
    · exact ⟨_, exec_hostNopFrame (isFrame_iff.mp hf).2.2.2 false s, hostFrame_early hheld rfl⟩
  · have haddr : frameAddr false f (shiftAnswer s) = last + 1 := by
      have hnext : (shiftAnswer s).nextInBurst false f.unit = some (last + 1) := by
        unfold State.nextInBurst
        rw [show (shiftAnswer s).host.burst = some (false, f.unit, last) from hburst]
        simp
      rw [frameAddr, hnext, Option.getD_some]
    have hrun := runFrame_local (w := false) (f := f) (s := shiftAnswer s) hadm.1 hpending (.inr hdata) hown haddr
      (by omega) (localAccess_read hadm hplain)
    rw [hostFrame_good (held_of_served hadm.1) hgap hcrc (isNop_of_data hdata), hrun, hinc]
    exact plainRead_shown hplain (some (false, f.unit, last + 1)) s _ rfl
  · have hbusy : (shiftAnswer s).served = false := hserved
    rw [hostFrame_good hheld hgap hcrc (isNop_write f)]
    unfold runFrame
    rw [hbusy]
    rfl
  · have hserved' : (shiftAnswer s).served = true := hserved
    have hpending' : (shiftAnswer s).remotePending = true := hpending
    rw [hostFrame_good (held_of_served hserved) hgap hcrc (isNop_write f)]
    unfold runFrame
    rw [hserved', hpending']
    rfl
  · have hserved' : (shiftAnswer s).served = true := hserved
    have hpending' : (shiftAnswer s).remotePending = false := hpending
    have hown : (shiftAnswer s).ownTarget f.unit = false := by
      change (f.unit == 0 || (s.hasAddr && f.unit == s.unitNo)) = false
      rw [haddr]
      simp [hunit]
    have hfar : (setBurst none (shiftAnswer s)).hasAddr = false := haddr
    rw [hostFrame_good (held_of_served hserved) hgap hcrc (isNop_write f)]
    unfold runFrame farFrame
    dsimp only
    rw [hserved', hpending', hown, hfar]
    rfl

/-- Settles O20, by the equations of the three commands. -/
theorem hostPortEnds : Obligations.HostPortEnds := by
  refine ⟨fun s => ⟨_, rfl, rfl⟩, fun e s he hheld => ⟨frameAbort e s, ?_, ?_⟩,
    fun r s hr hwait => ⟨remoteTimeout s, rfl, ?_⟩, fun e s he hheld => ⟨frameAbort e s, ?_, ?_⟩,
    fun s hno => ⟨remoteTimeout s, rfl, ?_⟩⟩
  · exact answerIf_next.mpr ⟨bne_iff_ne.mpr he, rfl⟩
  · unfold frameAbort
    rw [hheld, if_neg Bool.false_ne_true]
    rfl
  · unfold remoteTimeout answerRemote
    simp only [hr, hwait, Option.isNone_none, decide_true, Bool.and_self, if_true]
    rfl
  · exact answerIf_next.mpr ⟨bne_iff_ne.mpr he, rfl⟩
  · unfold frameAbort
    rw [hheld, if_pos rfl]
    rfl
  · unfold remoteTimeout
    split
    · exact remotePending_none hno _ _ _
    · rfl

end Sys2Proof.Machine
end

section
/-! Proofs about the table windows (R141 to R147). -/

namespace Sys2Proof.Machine

/-! ### The window registers -/

theorem windowReg_SPACE {n : Nat} (hn : n < 4) : windowReg (Reg.WIN_SPACE n) = some (n, 0) := by
  revert n
  decide

theorem windowReg_DATA {n : Nat} (hn : n < 4) : windowReg (Reg.WIN_DATA n) = some (n, 3) := by
  revert n
  decide

/-- A write of a window register that no gate stops. -/
theorem accessWrite_window {p : Path} {a n k : Nat} {v : Word} {s : State} (h : Admits p a s)
    (hw : windowReg a = some (n, k)) : accessWrite p a v s = executed p (windowRegWrite p n k v (dropKey p s)) := by
  rw [accessWrite_of_admits h, writeReg, hw]

theorem accessRead_window {p : Path} {n : Nat} {s : State} (hn : n < 4) (h : AdmitsRead p (Reg.WIN_DATA n) s) :
    accessRead p (Reg.WIN_DATA n) s = windowRead p n (dropKey p s) := by
  rw [accessRead_of_admits h, readReg, windowReg_DATA hn]
  rfl

theorem exec_windowSpaceWrite {p : Path} {n v : Nat} (hp : isPath p = true) (hn : n < 4) (hv : fits 16 v = true)
    (s : State) : exec (.windowSpaceWrite p n v) s = .next (pathWrite p (Reg.WIN_SPACE n) (word v) s) :=
  answerIf_next.mpr ⟨by simpa [okPath_eq_isPath, hp, hn, isWord, fits] using hv, rfl⟩

theorem exec_windowDataWrite {p : Path} {n v : Nat} (hp : isPath p = true) (hn : n < 4) (hv : fits 16 v = true)
    (s : State) : exec (.windowDataAccess p n (some v)) s = .next (pathWrite p (Reg.WIN_DATA n) (word v) s) :=
  answerIf_next.mpr ⟨by simpa [okPath_eq_isPath, hp, hn, isWord, fits] using hv, rfl⟩

theorem exec_windowDataRead {p : Path} {n : Nat} (hp : isPath p = true) (hn : n < 4) (s : State) :
    exec (.windowDataAccess p n none) s = .next (pathRead p (Reg.WIN_DATA n) s) :=
  answerIf_next.mpr ⟨by simp [okPath_eq_isPath, hp, hn], rfl⟩

/-! ### SPACE (R142) -/

theorem getField_spaceWord (v : Word) (err : Bool) (p : Path) :
    getField ((v &&& 0x01FF) ||| word ((if err then 32768 else 0) + 1024 * min 2 (pathRow p))) 0 8 = getField v 0 8 := by
  have hrow : ∀ m : Nat, m ≤ 2 → ∀ c : Word, c = word ((if err then 32768 else 0) + 1024 * m) →
      BitVec.extractLsb' 0 8 c = 0#8 := by
    rintro m hm c rfl
    revert m err
    decide
  have hlow : BitVec.extractLsb' 0 8 (v &&& 0x01FF) = BitVec.extractLsb' 0 8 v := by
    ext i hi
    simp only [BitVec.getElem_extractLsb', BitVec.getLsbD_and]
    have hbit : (0x01FF : Word).getLsbD (0 + i) = true := by
      revert i
      decide
    rw [hbit, Bool.and_true]
  unfold getField
  rw [BitVec.extractLsb'_or, hlow, hrow _ (Nat.min_le_left _ _) _ rfl, BitVec.or_zero]

/-- The window n taken for a space. -/
def windowTaken (p : Path) (n : Nat) (v : Word) (s : State) : State :=
  (((s.setReg (Reg.WIN_SPACE n)
      ((v &&& 0x01FF) ||| word ((if s.flag (.WIN_SPACE_ERR n) && !v.getLsbD 15 then 32768 else 0) + 1024 * min 2 (pathRow p)))).setReg
        (Reg.WIN_CUR n) 0).setReg (Reg.WIN_OFS n) 0).modWindow n
    (fun _ => { owner := if getField v 0 8 = 0 then none else some p, past := false })

theorem windowSpace_known {p : Path} {n : Nat} {v : Word} (s : State) (h : getField v 0 8 ≤ 13) :
    windowSpace p n v s = (0, windowTaken p n v s) := by
  unfold windowSpace
  dsimp only
  rw [if_neg (by omega)]
  rfl

theorem windowSpace_unknown {p : Path} {n : Nat} {v : Word} (s : State) (h : 13 < getField v 0 8) :
    windowSpace p n v s = (stDeny, s) := if_pos h

theorem win_modWindow (s : State) (n m : Nat) (f : Win → Win) :
    (s.modWindow n f).win m = if n = m ∧ m < s.wins.length then f (s.win m) else s.win m := nth_modNth _ _ _ _ _

theorem fld_SPACE_ID_windowTaken (p : Path) (n : Nat) (v : Word) (s : State) :
    (windowTaken p n v s).fld (.WIN_SPACE_ID n) = getField v 0 8 := by
  have hreg : (windowTaken p n v s).reg (Reg.WIN_SPACE n) = ((v &&& 0x01FF) |||
      word ((if s.flag (.WIN_SPACE_ERR n) && !v.getLsbD 15 then 32768 else 0) + 1024 * min 2 (pathRow p))) := by
    refine (reg_setReg_other _ _ _ _ (by simp only [Reg.WIN_OFS, Reg.WIN_SPACE]; omega)).trans
      ((reg_setReg_other _ _ _ _ (by simp only [Reg.WIN_CUR, Reg.WIN_SPACE]; omega)).trans (reg_setReg_same _ _ _))
  rw [State.fld, hreg]
  exact getField_spaceWord _ _ _

/-! ### DATA (R144) -/

theorem runs_windowRead {p : Path} {n : Nat} {s t : State} {r : Answer} {P : State → Prop} (hp : isPath p = true)
    (hn : n < 4) (h : AdmitsRead p (Reg.WIN_DATA n) s) (hread : windowRead p n (dropKey p s) = (r, t))
    (hP : P (answerTo p r.status r.data t)) : Runs (.windowDataAccess p n none) s P :=
  ⟨_, exec_windowDataRead hp hn s, by rwa [pathRead_of_access ((accessRead_window hn h).trans hread)]⟩

theorem windowOutside_iff {n : Nat} {s : State} : s.windowOutside n = true ↔ (s.win n).past = true ∨
    (spaceSize (s.fld (.WIN_SPACE_ID n))).1 ≤ s.fld (.WIN_CUR_CUR n) ∨
      (spaceSize (s.fld (.WIN_SPACE_ID n))).2 ≤ s.fld (.WIN_OFS_OFS n) := by
  simp [State.windowOutside, or_assoc]

/-- A window that its path may read, inside its space. -/
theorem windowRead_inside {p : Path} {n : Nat} {s : State} (hown : s.ownsWindow p n = true)
    (hmay : s.mayRead p (spaceBlock (s.fld (.WIN_SPACE_ID n))) = true) (hin : s.windowOutside n = false) :
    windowRead p n s =
      ((spaceRead p (s.flag (.WIN_SPACE_ALT n)) (s.fld (.WIN_SPACE_ID n)) (s.fld (.WIN_CUR_CUR n)) (s.fld (.WIN_OFS_OFS n)) s).1,
        if (spaceRead p (s.flag (.WIN_SPACE_ALT n)) (s.fld (.WIN_SPACE_ID n)) (s.fld (.WIN_CUR_CUR n))
            (s.fld (.WIN_OFS_OFS n)) s).1.status &&& (stDeny + stBusy) = 0 then
          windowAdvance n (spaceRead p (s.flag (.WIN_SPACE_ALT n)) (s.fld (.WIN_SPACE_ID n)) (s.fld (.WIN_CUR_CUR n))
            (s.fld (.WIN_OFS_OFS n)) s).2
        else (spaceRead p (s.flag (.WIN_SPACE_ALT n)) (s.fld (.WIN_SPACE_ID n)) (s.fld (.WIN_CUR_CUR n))
            (s.fld (.WIN_OFS_OFS n)) s).2) := by
  unfold windowRead
  dsimp only
  rw [hown, hmay, hin]
  rfl

theorem windowRead_outside {p : Path} {n : Nat} {s : State} (hown : s.ownsWindow p n = true)
    (hmay : s.mayRead p (spaceBlock (s.fld (.WIN_SPACE_ID n))) = true) (hout : s.windowOutside n = true) :
    windowRead p n s = (⟨stDeny, 0⟩, s.setFlag (.WIN_SPACE_ERR n) true) := by
  unfold windowRead
  dsimp only
  rw [hown, hmay, hout]
  rfl

theorem windowRead_foreign {p : Path} {n : Nat} {s : State} (hown : s.ownsWindow p n = false) :
    windowRead p n s = (⟨stDeny, 0⟩, s) := by
  unfold windowRead
  dsimp only
  rw [hown]
  rfl

theorem windowWrite_outside {p : Path} {n : Nat} {v : Word} {s : State} (hown : s.ownsWindow p n = true)
    (hmay : s.mayWrite p (spaceBlock (s.fld (.WIN_SPACE_ID n))) = true) (hout : s.windowOutside n = true) :
    windowWrite p n v s = (stDeny, s.setFlag (.WIN_SPACE_ERR n) true) := by
  unfold windowWrite
  dsimp only
  rw [hown, hmay, hout]
  rfl

theorem windowWrite_foreign {p : Path} {n : Nat} {v : Word} {s : State} (hown : s.ownsWindow p n = false) :
    windowWrite p n v s = (stDeny, s) := by
  unfold windowWrite
  dsimp only
  rw [hown]
  rfl

theorem windowWrite_inside {p : Path} {n : Nat} {v : Word} {s u : State} (hown : s.ownsWindow p n = true)
    (hmay : s.mayWrite p (spaceBlock (s.fld (.WIN_SPACE_ID n))) = true) (hin : s.windowOutside n = false)
    (hw : spaceWrite p (s.fld (.WIN_SPACE_ID n)) (s.fld (.WIN_CUR_CUR n)) (s.fld (.WIN_OFS_OFS n)) v s = (0, u)) :
    windowWrite p n v s = (0, windowAdvance n u) := by
  unfold windowWrite
  dsimp only
  rw [hown, hmay, hin, hw]
  rfl

/-- A write of DATA that is refused. -/
theorem runs_windowRefused {p : Path} {n v : Nat} {s u : State} {P : State → Prop} (hp : isPath p = true) (hn : n < 4)
    (hv : fits 16 v = true) (h : Admits p (Reg.WIN_DATA n) s) (hw : windowWrite p n (word v) (dropKey p s) = (stDeny, u))
    (hP : P (answerTo p stDeny (word v) u)) : Runs (.windowDataAccess p n (some v)) s P := by
  refine ⟨_, exec_windowDataWrite hp hn hv s, ?_⟩
  have haccess : accessWrite p (Reg.WIN_DATA n) (word v) s = (stDeny, u) :=
    (accessWrite_window h (windowReg_DATA hn)).trans ((congrArg (executed p) hw).trans rfl)
  rwa [pathWrite_of_access haccess]

/-! ### The topo in its window -/

theorem spaceRead_topo (p : Path) (alt : Bool) (cur ofs : Nat) (s : State) :
    spaceRead p alt spTopo cur ofs s = (⟨0, s.tableWord p alt spTopo cur ofs⟩, s) := rfl

/-- A topo word staged. -/
def topoStaged (cur ofs : Nat) (v : Word) (s : State) : State :=
  markDirty (s.modStg (fun g => { g with
    topo := insertAt g.topo (8 * cur + ofs) v
    topoSince := if s.seq.crcDead.contains cur && !g.topoSince.contains cur then g.topoSince ++ [cur] else g.topoSince }))

theorem spaceWrite_topo {p : Path} {cur ofs : Nat} {v : Word} {s : State} (h : s.stagedBusy = false) :
    spaceWrite p spTopo cur ofs v s = (0, topoStaged cur ofs v s) := by
  unfold spaceWrite
  rw [h, Bool.and_false]
  rfl

theorem shadowTopo_congr {s t : State} (htab : t.tab = s.tab) (hstg : t.stg = s.stg) (e : Nat) :
    t.shadowTopo e = s.shadowTopo e := by
  unfold State.shadowTopo
  rw [htab, hstg]

theorem shadowTopo_topoStaged (cur : Nat) (v : Word) (s : State) :
    (topoStaged cur 7 v s).shadowTopo cur = (s.shadowTopo cur).set 7 v := by
  have hword : ∀ i, i < 8 → shadowWord zeroWord (topoStaged cur 7 v s).tab.topo (topoStaged cur 7 v s).stg.topo (8 * cur + i) =
      if i = 7 then v else shadowWord zeroWord s.tab.topo s.stg.topo (8 * cur + i) := by
    intro i hi
    change (lookupAt (insertAt s.stg.topo (8 * cur + 7) v) (8 * cur + i)).getD (readAt zeroWord s.tab.topo (8 * cur + i)) = _
    rw [lookupAt_insertAt]
    by_cases h7 : i = 7
    · rw [h7, if_pos rfl, if_pos rfl]
      rfl
    · rw [if_neg h7, if_neg (by omega)]
      rfl
  unfold State.shadowTopo
  refine List.ext_getElem (by simp) fun i hi hi' => ?_
  rw [List.getElem_set, List.getElem_map, List.getElem_map, List.getElem_range, hword i (by simpa using hi)]
  simp only [eq_comm]

/-! ### The advance (R144) -/

theorem windowAdvance_within {n : Nat} {s : State}
    (h : s.fld (.WIN_OFS_OFS n) + 1 < (spaceSize (s.fld (.WIN_SPACE_ID n))).2) :
    windowAdvance n s = s.setFld (.WIN_OFS_OFS n) (s.fld (.WIN_OFS_OFS n) + 1) := if_pos h

/-- The window goes on to the next entry. -/
def nextEntry (n : Nat) (s : State) : State :=
  ((s.setFld (.WIN_OFS_OFS n) 0).setFld (.WIN_CUR_CUR n) ((s.fld (.WIN_CUR_CUR n) + 1) % 2048)).modWindow n
    (fun w => { w with past := w.past || s.fld (.WIN_CUR_CUR n) == 2047 })

theorem nextEntry_rest (n : Nat) (s : State) : ∃ r w, nextEntry n s = { s with regs := r, wins := w } := by
  obtain ⟨r, hr⟩ := ((OnlyRegs.refl s).setFld (.WIN_OFS_OFS n) 0).setFld (.WIN_CUR_CUR n) ((s.fld (.WIN_CUR_CUR n) + 1) % 2048)
  unfold nextEntry
  rw [hr]
  exact ⟨_, _, rfl⟩

theorem windowAdvance_over {n : Nat} {s : State}
    (h : (spaceSize (s.fld (.WIN_SPACE_ID n))).2 ≤ s.fld (.WIN_OFS_OFS n) + 1) : windowAdvance n s = nextEntry n s :=
  if_neg (not_lt.mpr h)

theorem DIRTY_apart_window {f : Fld} (h : 0x1F0 ≤ f.addr) : Fld.apart .STG_STAT_DIRTY f = true := by
  have hne : Fld.STG_STAT_DIRTY.addr ≠ f.addr := Nat.ne_of_lt (Nat.lt_of_lt_of_le (by decide) h)
  simp [Fld.apart, hne]

theorem window_apart_DIRTY {f : Fld} (h : 0x1F0 ≤ f.addr) : f.apart .STG_STAT_DIRTY = true := by
  have hne : f.addr ≠ Fld.STG_STAT_DIRTY.addr := Nat.ne_of_gt (Nat.lt_of_lt_of_le (by decide) h)
  simp [Fld.apart, hne]

theorem CUR_apart_OFS (n : Nat) : Fld.apart (.WIN_CUR_CUR n) (.WIN_OFS_OFS n) = true := by
  simp only [Fld.apart, Reg.WIN_CUR, Reg.WIN_OFS]
  simp

/-! ### The obligation -/

/-- Settles O22: each access by the lemmas on the window's registers and on the topo's words. -/
theorem windowsReachTheTables : Obligations.WindowsReachTheTables := by
  refine ⟨fun p n v s hp hn hlen hv hid hadm => ?_,
    fun p n s hp hn hadm hown hsp halt hmay hcur hofs hpast => ?_,
    fun p n v s hp hn hv hadm hown hsp hmay hbusy hcur hofs hpast => ?_,
    fun n s hn hlen hown => ?_, fun n s hn hown => ?_, fun p n v s hp hn hv hid hadm => ?_,
    fun p n w s hp hn hw hadm hmay hown => ?_, fun p n w s hp hn hw hadm hmay hown hread hwrite hout => ?_⟩
  · have hlt : v < 65536 := by simpa [fits] using hv
    have hlow := getField_word_low hlt
    have haccess : accessWrite p (Reg.WIN_SPACE n) (word v) s = executed p (0, windowTaken p n (word v) (dropKey p s)) := by
      rw [accessWrite_window hadm (windowReg_SPACE hn), ← windowSpace_known (dropKey p s) (by rw [hlow]; exact hid)]
      rfl
    refine runs_executed (exec_windowSpaceWrite hp hn hv s) haccess fun ps host _ => ?_
    have hkept : FieldsKept [wholeReg (Reg.WIN_SPACE n), wholeReg (Reg.WIN_CUR n), wholeReg (Reg.WIN_OFS n)] (dropKey p s)
        (windowTaken p n (word v) (dropKey p s)) :=
      (((((FieldsKept.refl _ _).setReg (by simp)).setReg (by simp)).setReg (by simp))).trans (.of_regs rfl)
    have hregs : (windowTaken p n (word v) (dropKey p s)).fld (.WIN_SPACE_ID n) = v % 256 :=
      (fld_SPACE_ID_windowTaken p n (word v) _).trans hlow
    have hcur : (windowTaken p n (word v) (dropKey p s)).reg (Reg.WIN_CUR n) = 0 :=
      (reg_setReg_other _ _ _ _ (by simp only [Reg.WIN_OFS, Reg.WIN_CUR]; omega)).trans (reg_setReg_same _ _ _)
    have hofs : (windowTaken p n (word v) (dropKey p s)).reg (Reg.WIN_OFS n) = 0 := reg_setReg_same _ _ _
    refine ⟨hregs, ?_, ?_, ?_, fun m hm hne => ?_, FieldsKept.trans (.of_regs rfl) (hkept.trans (.of_regs rfl)), rfl⟩
    · exact (congrArg (fun w : Word => getField w 0 11) hcur).trans (by simp [getField])
    · exact (congrArg (fun w : Word => getField w 0 4) hofs).trans (by simp [getField])
    · refine (congrArg Win.owner (win_modWindow _ n n _)).trans ?_
      rw [if_pos ⟨rfl, hlen⟩, hlow]
    · exact (win_modWindow _ n m _).trans (if_neg fun h => hne h.1.symm)
  · have hin : (dropKey p s).windowOutside n = false := by
      rw [← Bool.not_eq_true, windowOutside_iff]
      change ¬ ((s.win n).past = true ∨ (spaceSize (s.fld (.WIN_SPACE_ID n))).1 ≤ s.fld (.WIN_CUR_CUR n) ∨
        (spaceSize (s.fld (.WIN_SPACE_ID n))).2 ≤ s.fld (.WIN_OFS_OFS n))
      rw [hsp, hpast]
      simp only [spTopo, spaceSize, Bool.false_eq_true, false_or]
      omega
    have hsp' : (dropKey p s).fld (.WIN_SPACE_ID n) = spTopo := hsp
    have halt' : (dropKey p s).flag (.WIN_SPACE_ALT n) = false := halt
    have hread := windowRead_inside (p := p) (n := n) (s := dropKey p s) hown (by rw [hsp']; exact hmay) hin
    rw [hsp', halt', spaceRead_topo] at hread
    simp only at hread
    rw [if_pos (by decide), windowAdvance_within (by
      rw [hsp']
      change s.fld (.WIN_OFS_OFS n) + 1 < 8
      omega)] at hread
    refine runs_windowRead hp hn hadm hread ⟨fun h => ?_, ?_, ?_, ?_⟩
    · rw [answerTo_host_of_host h]
      rfl
    · refine (congrArg (fun w : Word => getField w 0 4) (reg_answerTo ..)).trans ?_
      exact (fld_setFld_same _ (.WIN_OFS_OFS n) _ (show 0 + 4 ≤ 16 by decide)).trans (Nat.mod_eq_of_lt (by
        change s.fld (.WIN_OFS_OFS n) + 1 < 16
        omega))
    · exact (((FieldsKept.refl _ s).dropKey).setFld (by simp) (show 4 ≤ 16 by decide)).answerTo
    · rw [answerTo_regs, answerTo_paths]
      exact answerTo_rest ..
  · have hin : (dropKey p s).windowOutside n = false := by
      rw [← Bool.not_eq_true, windowOutside_iff]
      change ¬ ((s.win n).past = true ∨ (spaceSize (s.fld (.WIN_SPACE_ID n))).1 ≤ s.fld (.WIN_CUR_CUR n) ∨
        (spaceSize (s.fld (.WIN_SPACE_ID n))).2 ≤ s.fld (.WIN_OFS_OFS n))
      rw [hsp, hpast]
      simp only [spTopo, spaceSize, Bool.false_eq_true, false_or]
      omega
    have hwrite : windowWrite p n (word v) (dropKey p s) =
        (0, nextEntry n (topoStaged (s.fld (.WIN_CUR_CUR n)) 7 (word v) (dropKey p s))) := by
      have hsp' : (dropKey p s).fld (.WIN_SPACE_ID n) = spTopo := hsp
      refine (windowWrite_inside (s := dropKey p s) hown (by rw [hsp']; exact hmay) hin ?_).trans (congrArg (Prod.mk 0) (windowAdvance_over ?_))
      · rw [hsp', show (dropKey p s).fld (.WIN_OFS_OFS n) = 7 from hofs]
        exact spaceWrite_topo hbusy
      · change (spaceSize ((s.setFlag .STG_STAT_DIRTY true).fld (.WIN_SPACE_ID n))).2 ≤
          (s.setFlag .STG_STAT_DIRTY true).fld (.WIN_OFS_OFS n) + 1
        rw [fld_setFlag_other _ _ _ _ (by decide) (DIRTY_apart_window (by simp only [Reg.WIN_SPACE]; omega)), fld_setFlag_other _ _ _ _ (by decide)
          (DIRTY_apart_window (by simp only [Reg.WIN_OFS]; omega)), hsp, hofs]
        decide
    have haccess : accessWrite p (Reg.WIN_DATA n) (word v) s =
        executed p (0, nextEntry n (topoStaged (s.fld (.WIN_CUR_CUR n)) 7 (word v) (dropKey p s))) :=
      (accessWrite_window hadm (windowReg_DATA hn)).trans (congrArg (executed p) hwrite)
    refine runs_executed (exec_windowDataWrite hp hn hv s) haccess fun ps host _ => ?_
    have hcur' : (topoStaged (s.fld (.WIN_CUR_CUR n)) 7 (word v) (dropKey p s)).fld (.WIN_CUR_CUR n) =
        s.fld (.WIN_CUR_CUR n) :=
      fld_setFlag_other _ _ _ _ (by decide) (DIRTY_apart_window (by simp only [Reg.WIN_CUR]; omega))
    have hdirty : (topoStaged (s.fld (.WIN_CUR_CUR n)) 7 (word v) (dropKey p s)).flag .STG_STAT_DIRTY = true :=
      flag_setFlag_same _ _ _ (by decide) rfl
    have hstaged := shadowTopo_topoStaged (s.fld (.WIN_CUR_CUR n)) (word v) (dropKey p s)
    rw [shadowTopo_congr (s := s) (t := dropKey p s) rfl rfl] at hstaged
    have hbase : FieldsKept [.WIN_OFS_OFS n, .WIN_CUR_CUR n, .STG_STAT_DIRTY] s
        (topoStaged (s.fld (.WIN_CUR_CUR n)) 7 (word v) (dropKey p s)) :=
      FieldsKept.setFlag (FieldsKept.of_regs rfl) (by simp) (by decide)
    have hrest : topoStaged (s.fld (.WIN_CUR_CUR n)) 7 (word v) (dropKey p s) = { s with
        regs := (topoStaged (s.fld (.WIN_CUR_CUR n)) 7 (word v) (dropKey p s)).regs
        paths := (dropKey p s).paths
        stg := (topoStaged (s.fld (.WIN_CUR_CUR n)) 7 (word v) (dropKey p s)).stg } := rfl
    generalize topoStaged (s.fld (.WIN_CUR_CUR n)) 7 (word v) (dropKey p s) = u at hcur' hdirty hstaged hbase hrest ⊢
    have hnext : ∀ e, (nextEntry n u).shadowTopo e = u.shadowTopo e := by
      obtain ⟨r, w, hr⟩ := nextEntry_rest n u
      rw [hr]
      exact fun e => shadowTopo_congr rfl rfl e
    refine ⟨(hnext _).trans hstaged, by rw [hrest]; rfl, ?_, ?_, ?_, ?_, by rw [hrest]; rfl⟩
    · exact (flag_setFld_other _ _ _ _ (show 11 ≤ 16 by decide) (window_apart_DIRTY (by simp only [Reg.WIN_CUR]; omega))).trans
        ((flag_setFld_other _ _ _ _ (show 4 ≤ 16 by decide) (window_apart_DIRTY (by simp only [Reg.WIN_OFS]; omega))).trans hdirty)
    · exact (fld_setFld_other _ _ _ _ (show 11 ≤ 16 by decide) (CUR_apart_OFS n)).trans
        (fld_setFld_same _ (.WIN_OFS_OFS n) 0 (show 0 + 4 ≤ 16 by decide))
    · refine (fld_setFld_same _ (.WIN_CUR_CUR n) _ (show 0 + 11 ≤ 16 by decide)).trans ?_
      have hwidth : 2 ^ (Fld.WIN_CUR_CUR n).width = 2048 := by norm_num
      rw [hcur', hwidth, Nat.mod_mod, Nat.mod_eq_of_lt (by omega)]
    · exact ((hbase.setFld (by simp) (show 4 ≤ 16 by decide)).setFld (by simp) (show 11 ≤ 16 by decide)).trans (.of_regs rfl)
  · refine ⟨windowClose n s, answerIf_next.mpr ⟨decide_eq_true hn, ?_⟩, ?_, ?_, ?_, rfl⟩
    · unfold windowIdle
      rcases hown with ⟨r, hr⟩ | ⟨c, hc⟩
      · rw [hr]
      · rw [hc]
    · exact (fld_setFld_same s (.WIN_SPACE_ID n) 0 (show 0 + 8 ≤ 16 by decide))
    · exact (win_modWindow _ n n _).trans (if_pos ⟨rfl, hlen⟩)
    · exact ((FieldsKept.refl _ s).setFld (by simp) (show 8 ≤ 16 by decide)).trans (.of_regs rfl)
  · refine ⟨s, answerIf_next.mpr ⟨decide_eq_true hn, ?_⟩, rfl⟩
    unfold windowIdle
    rcases hown with h | h | h <;> rw [h]
  · have hlt : v < 65536 := by simpa [fits] using hv
    have haccess : accessWrite p (Reg.WIN_SPACE n) (word v) s = (stDeny, dropKey p s) := by
      rw [accessWrite_window hadm (windowReg_SPACE hn)]
      exact congrArg (executed p) (windowSpace_unknown (dropKey p s) (by rw [getField_word_low hlt]; exact hid))
    refine ⟨_, exec_windowSpaceWrite hp hn hv s, ?_⟩
    rw [pathWrite_of_access haccess]
    refine ⟨answerTo_host_of_host, answerTo_host_of_ne, ?_⟩
    rw [answerTo_paths]
    exact answerTo_rest ..
  · cases w with
    | none =>
      refine runs_windowRead hp hn ⟨hadm.1, .inr hmay⟩ (windowRead_foreign hown) ⟨fun h => ?_, answerTo_host_of_ne, ?_⟩
      · rw [answerTo_host_of_host h]
        rfl
      · rw [answerTo_paths]
        exact answerTo_rest ..
    | some v =>
      refine runs_windowRefused hp hn (by simpa using hw) hadm (windowWrite_foreign hown) ⟨fun h => ?_, answerTo_host_of_ne, ?_⟩
      · rw [answerTo_host_of_host h]
        rfl
      · rw [answerTo_paths]
        exact answerTo_rest ..
  · have hout' : (dropKey p s).windowOutside n = true := windowOutside_iff.mpr hout
    have hshow : ∀ (d : Word) (t : State), t = answerTo p stDeny d ((dropKey p s).setFlag (.WIN_SPACE_ERR n) true) →
        t.flag (.WIN_SPACE_ERR n) = true ∧ (p = .host → t.host.answer = ⟨stDeny, d⟩) ∧ FieldsKept [.WIN_SPACE_ERR n] s t ∧
          t = { s with regs := t.regs, paths := t.paths, host := t.host } := by
      rintro d t rfl
      refine ⟨?_, fun h => by rw [answerTo_host_of_host h], ?_, ?_⟩
      · rw [flag_answerTo]
        exact flag_setFlag_same _ (.WIN_SPACE_ERR n) _ (show 15 + 1 ≤ 16 by decide) rfl
      · exact (((FieldsKept.refl _ s).dropKey).setFlag (by simp) (show 1 ≤ 16 by decide)).answerTo
      · rw [answerTo_regs, answerTo_paths]
        exact answerTo_rest ..
    cases w with
    | none => exact runs_windowRead hp hn ⟨hadm.1, .inr hmay⟩ (windowRead_outside hown hread hout') (hshow _ _ rfl)
    | some v =>
      exact runs_windowRefused hp hn (by simpa using hw) hadm (windowWrite_outside hown hwrite hout') (hshow _ _ rfl)

end Sys2Proof.Machine
end

section
/-! A proof about the commit instant (R147, R153). -/

namespace Sys2Proof.Machine

/-- An armed commit whose staged topo lists one word twice. -/
def stagedTwice : State := { State.reset with
  stg := { State.reset.stg with armed := true, reached := true, topo := [(0, 1), (0, 2)] } }

/-- Refutes O23: a word that the shadow lists twice reads as the first, and the commit writes both, the second last. -/
theorem not_stagedSettingsAreCommitted : ¬ Obligations.StagedSettingsAreCommitted := by
  intro h
  obtain ⟨-, -, -, -, -, hinstant, -⟩ := h
  obtain ⟨t, ht, -, -, -, -, -, -, -, -, htopo, -⟩ := hinstant stagedTwice rfl rfl
  have hafter : nextView [] (fun t => t.topoEntry 0) (exec .commitInstant stagedTwice) = [2, 0, 0, 0, 0, 0, 0, 0] := by
    decide +kernel
  have hshadow : stagedTwice.shadowTopo 0 = [1, 0, 0, 0, 0, 0, 0, 0] := by decide +kernel
  rw [ht] at hafter
  exact absurd (hafter.symm.trans ((htopo 0 (by decide)).trans hshadow)) (by decide)

end Sys2Proof.Machine
end

section
/-! A proof about the loss of the angle's reference (R194, R195, R304). -/

namespace Sys2Proof.Machine

/-- A running unit in INDEX mode whose slice 0 integrates an angle window, as SLC.BUSY shows. -/
def angleWindowRuns : State := { State.reset with
  regs := [(Reg.SYS_BOOTST, 0x8000), (Reg.SYS_STAT, 0x4000), (Reg.ANG_STAT, 0xFFFF), (Reg.ANG_CFG, 0), (Reg.SLC_BUSY, 1)]
  sys := { State.reset.sys with held := false }
  slices := { win := some { runningWindow with angleWin := true } } :: State.reset.slices.tail }

/-- Refutes O25: with HOLD the angle windows in progress end (R195), and SLC.BUSY, which is in none of the blocks that the frame
names, goes to 0 with them (R304). -/
theorem not_angleIsLostAndBeaconed : ¬ Obligations.AngleIsLostAndBeaconed := by
  intro h
  obtain ⟨t, ht, -, -, -, -, -, -, hblocks, -⟩ := h.1 angleWindowRuns (by decide +kernel) (.inl (by decide +kernel))
    (by decide +kernel) (by decide +kernel)
  have hafter : nextView 1 (fun t => t.reg Reg.SLC_BUSY) (exec .angleLoss angleWindowRuns) = 0 := by decide +kernel
  have hbefore : angleWindowRuns.reg Reg.SLC_BUSY = 1 := by decide +kernel
  rw [ht] at hafter
  exact absurd (hafter.symm.trans ((hblocks Reg.SLC_BUSY (by decide)).trans hbefore)) (by decide)

end Sys2Proof.Machine
end

section
/-! A proof about the setup of a window (R276, R353, R383). -/

namespace Sys2Proof.Machine

/-- A measurement of a system calibration of route 0. -/
def sysOcc : Occ := ⟨3, 0, 0, 0, 0, false⟩

/-- A unit whose slice 0 waits to measure for a system calibration of route 0, whose active COEF entry holds an offset of 100. -/
def sysMeasures : State := { State.reset with
  regs := [(Reg.REF_STAT, 0x8000)]
  tab := { State.reset.tab with coef := putCoef [] 0 [100, 0, 0x0010, 0xFFFF, 0xFFFF] }
  slices := { pending := [sysOcc], off := false } :: State.reset.slices.tail }

/-- Refutes O29: a measurement of a system calibration loads the inactive entry's codes (R383), not those that `loadTrims` takes
from the active one. -/
theorem not_windowsRunTheirPhases : ¬ Obligations.WindowsRunTheirPhases := by
  intro h
  obtain ⟨t, ht, hstarted, -⟩ := h.1 0 sysOcc [] sysMeasures (by decide) (by decide +kernel) (by decide +kernel)
    (by decide +kernel) (.inl (by decide)) ⟨by decide +kernel, by decide +kernel, by decide +kernel, by decide +kernel⟩
  have hloads : (loadTrims 0 (windowOf sysMeasures sysOcc).gain (windowOf sysMeasures sysOcc).routeIdx
      (rDiag (windowOf sysMeasures sysOcc).route) sysMeasures).1.1 = 100 := by decide +kernel
  have hafter : nextView none (fun t => (t.slice 0).win.map (·.ofs)) (exec (.windowSetup 0) sysMeasures) = some 0 := by
    decide +kernel
  rw [ht] at hafter
  obtain ⟨v, hv, hofs⟩ := Option.map_eq_some_iff.mp hafter
  simp only [Started, hv, Option.any_some, Bool.and_eq_true, beq_iff_eq] at hstarted
  obtain ⟨-, htrims⟩ := hstarted
  exact absurd (hofs.symm.trans ((congrArg Prod.fst htrims).trans hloads)) (by decide)

end Sys2Proof.Machine
end

section
/-! A proof about an urgent request for a retired swing slice (R377, R403). -/

namespace Sys2Proof.Machine

/-- A running unit, one core clock on, whose swing slice is retired and takes the urgent requests; route 0 has an input. -/
def swingRetired : State := { State.reset with
  regs := [(Reg.SYS_BOOTST, 0x8000), (Reg.SYS_STAT, 0x4000), (Reg.SEQ_URGSLICE, 12), (Reg.CAL_STAT, 0xFFFF)]
  sys := { State.reset.sys with held := false, prot := defaultMap }
  tab := { State.reset.tab with route := [(0, 0x3000)] }
  now := 1 }

/-- Refutes O31: a request that completes at once writes its result register, and with it the register's time in `seq` (R403). -/
theorem not_directAndUrgentConversions : ¬ Obligations.DirectAndUrgentConversions := by
  intro h
  obtain ⟨-, -, -, -, -, -, -, -, -, -, hretired, -⟩ := h
  obtain ⟨t, ht, -, hseq, -⟩ := hretired .host 0 swingRetired (by decide) (by decide)
    ⟨by decide +kernel, by decide +kernel, by decide +kernel, by decide +kernel, by decide +kernel, by decide +kernel⟩
    (by decide +kernel)
    (by decide +kernel) (by decide +kernel)
  have hafter : nextView [] (fun t => t.seq.resAt) (exec (.urgentRequest .host 0) swingRetired) = [(256, 1)] := by decide +kernel
  rw [ht] at hafter
  exact absurd (hafter.symm.trans (congrArg Seq.resAt hseq)) (by decide +kernel)

end Sys2Proof.Machine
end

section
/-! A proof about the end of a self-calibration (R364, R367, R368). -/

namespace Sys2Proof.Machine

/-- The codes that one pass finds under a good active entry. -/
def foundCodes (n : Nat) (ms : List (Int × Int)) (s : State) (c : Nat) : Int × Int :=
  (codesFound n c (nth (0, 0) ms c) s).1

theorem codesFound_of_ok {n c : Nat} {m : Int × Int} {s : State} (h : coefOk (coefEntry s.tab.coef (sliceEntry n c)) = true) :
    codesFound n c m s = ((codesFound n c m s).1, s) := by
  unfold codesFound sliceCodes
  simp only [h, if_true]

/-- While the active entries pass their checks, a pass loads them and changes nothing. -/
theorem foldl_codesFound {n : Nat} {ms : List (Int × Int)} {s : State} (cs : List Nat) (acc : List (Int × Int))
    (h : ∀ c ∈ cs, coefOk (coefEntry s.tab.coef (sliceEntry n c)) = true) :
    cs.foldl (fun acc c =>
      let (x, t) := codesFound n c (nth (0, 0) ms c) acc.2
      (acc.1 ++ [x], t)) (acc, s) = (acc ++ cs.map (foundCodes n ms s), s) := by
  induction cs generalizing acc with
  | nil => simp
  | cons c cs ih =>
    have hc := h c (by simp)
    rw [List.foldl_cons, codesFound_of_ok hc]
    simpa [foundCodes] using ih (acc ++ [foundCodes n ms s c]) fun c hm => h c (by simp [hm])

theorem passCodes_of_ok {n : Nat} {ms : List (Int × Int)} {s : State}
    (h : (List.range 8).all (fun c => coefOk (coefEntry s.tab.coef (sliceEntry n c))) = true) :
    passCodes n ms s = ((List.range 8).map (foundCodes n ms s), s) :=
  foldl_codesFound (List.range 8) [] (List.all_eq_true.mp h)

theorem worstDiff_self (l : List (Int × Int)) : worstDiff l l = 0 := by
  simp [worstDiff, passDiff, List.range_succ]

/-- The end of SWCAL in a lead for slice 0: the swing slice's measurement still runs, and names slice 1, where a window is in
progress, as its partner. -/
def pairedMeasurement : State := { State.reset with
  regs := [(Reg.SEQ_CTRL, 0x8000), (Reg.CAL_STAT, 0x2000)]
  tab := { State.reset.tab with topo := [(1, 0x8000)] }
  cal := { State.reset.cal with measuring := true }
  slices := {} :: { win := some runningWindow } :: (State.reset.slices.drop 2).take 10 ++
    [{ win := some { runningWindow with occ := ⟨3, 64, 0, 0, 0, false⟩, partner := some 1 } }] }

/-- Eight measurements of a pass. -/
def passReadings : List (Int × Int) := List.replicate 8 (0, 0)

/-- The measurement of `pairedMeasurement` has ended. -/
def measurementEnded : State :=
  endMeasuring 12 { pairedMeasurement with cal := { pairedMeasurement.cal with measuring := false } }

/-- The codes that both passes find. -/
def agreedCodes : List (Int × Int) := (List.range 8).map (foundCodes 12 passReadings measurementEnded)

/-- Two passes of the swing slice that find the same codes install them, and TAKE follows. -/
theorem calibrationComplete_same {ms ps : List (Int × Int)} {s u : State} (hruns : s.calRuns = true) (htarget : s.calTarget = 12)
    (hu : endMeasuring s.calTarget { s with cal := { s.cal with measuring := false } } = u)
    (hpass : passCodes s.calTarget ms u = (ps, u)) :
    ∃ v, v = calDirect s.calTarget false (installCodes s.calTarget ps ps (min 65534 (ceilDiv 0 1000)) u) ∧
      calibrationComplete ms ms s = beginOverlap phTake v.calSlice v := by
  have hsame : ∀ {v w x : State} {pa pb : List (Int × Int)},
      endMeasuring s.calTarget { s with cal := { s.cal with measuring := false } } = v →
      passCodes s.calTarget ms v = (pa, w) → passCodes s.calTarget ms w = (pb, x) → pa = ps ∧ w = u ∧ pb = ps ∧ x = u := by
    intro v w x pa pb hv ha hb
    obtain ⟨rfl, rfl⟩ := Prod.mk.inj (hpass.symm.trans ((hu.symm.trans hv) ▸ ha))
    obtain ⟨rfl, rfl⟩ := Prod.mk.inj (hpass.symm.trans hb)
    exact ⟨rfl, rfl, rfl, rfl⟩
  fun_cases calibrationComplete ms ms s with
  | case1 hno => simp [hruns] at hno
  | case2 _ n v pa s1 ha pb s2 hb w _ x _ =>
    obtain ⟨rfl, rfl, rfl, rfl⟩ := hsame rfl ha hb
    exact ⟨x, by rw [← worstDiff_self pb], rfl⟩
  | case3 _ n v pa s1 ha pb s2 hb w _ x hn => exact absurd htarget hn
  | case4 _ n v pa s1 ha pb s2 hb w hw | case5 _ n v pa s1 ha pb s2 hb w hw | case6 _ n v pa s1 ha pb s2 hb w hw =>
    obtain ⟨rfl, rfl, rfl, rfl⟩ := hsame rfl ha hb
    exact absurd ((worstDiff_self pb).le.trans (Nat.zero_le _)) hw

/-- Refutes O33: the swing slice's measurement ends with its partner (R368), so another slice than the swing slice changes. -/
theorem not_calibrationInstallsCodes : ¬ Obligations.CalibrationInstallsCodes := by
  intro h
  obtain ⟨t, ht, -, -, -, -, -, -, -, hothers, -⟩ := h.1 passReadings passReadings pairedMeasurement (by decide +kernel)
    (by decide +kernel) rfl (by decide +kernel) (by decide +kernel) (by rw [worstDiff_self]; exact Nat.zero_le _)
    (by decide +kernel) (by decide +kernel)
  have hexec : exec (.calibrationComplete passReadings passReadings) pairedMeasurement =
      execCalibrationComplete passReadings passReadings pairedMeasurement := rfl
  rw [hexec, execCalibrationComplete] at ht
  obtain ⟨-, hnext⟩ := answerIf_next.mp ht
  have hafter : (t.slice 1).win.isSome = false := by
    obtain ⟨v, hv, heq⟩ := calibrationComplete_same (s := pairedMeasurement) (ms := passReadings) (by decide +kernel)
      (by decide +kernel) rfl (passCodes_of_ok (by decide +kernel))
    rw [← hnext, heq, hv]
    decide +kernel
  exact absurd ((congrArg (fun x : SliceSt => x.win.isSome) (hothers 1 (by decide))).symm.trans hafter) (by decide +kernel)

end Sys2Proof.Machine
end

section
/-! What a report to the belay collector leaves alone when its reporter has changed registers of its own block before it. -/

namespace Sys2Proof.Machine

section
variable {bs : List Nat} {fs : List Fld} {s t u : State} {src param p2 p3 : Nat}

/-- Fields of blocks other than those of the boot phase and of the collector. -/
def clearOfCollector (bs : List Nat) (fs : List Fld) : Bool :=
  !bs.contains 0 && !bs.contains 2 && fs.all (fun f => blockOf f.addr != 0 && blockOf f.addr != 2)

theorem apart_of_block {f g : Fld} (h : blockOf f.addr ≠ blockOf g.addr) : f.apart g = true := by
  have hne : f.addr ≠ g.addr := fun he => h (he ▸ rfl)
  simp [Fld.apart, hne]

theorem all_apart_of_block {g : Fld} (h : ∀ f ∈ fs, blockOf f.addr ≠ blockOf g.addr) :
    fs.all (fun f => f.apart g) = true := List.all_eq_true.mpr fun f hf => apart_of_block (h f hf)

/-- The collector still watches a source after changes in other blocks. -/
theorem Watches.of_regsKept (hw : Watches src s) (hk : RegsKept bs fs s t) (hflt : t.flt = s.flt)
    (hc : clearOfCollector bs fs = true) : Watches src t := by
  simp only [clearOfCollector, Bool.and_eq_true, Bool.not_eq_true', List.contains_eq_mem, decide_eq_false_iff_not,
    List.all_eq_true, bne_iff_ne, ne_eq] at hc
  obtain ⟨⟨h0, -⟩, hf⟩ := hc
  obtain ⟨hbusy, hphase, hign⟩ := hw
  have hp : t.phase = s.phase := hk.fld (g := .SYS_BOOTST_PHASE) h0 (all_apart_of_block fun f hm => (hf f hm).1)
  exact ⟨hflt ▸ hbusy, hp ▸ hphase, hflt ▸ hign⟩

/-- A report made after changes in other blocks: the latches follow the state before them, and no other block changes. -/
theorem report_after (hsrc : src < 64) (hw : Watches src s)
    (hk : RegsKept bs fs s t) (hflt : t.flt = s.flt) (hc : clearOfCollector bs fs = true) :
    Reported src param (belayClass src param) s (report src param p2 p3 t) := by
  have hwt := hw.of_regsKept hk hflt hc
  simp only [clearOfCollector, Bool.and_eq_true, Bool.not_eq_true', List.contains_eq_mem, decide_eq_false_iff_not,
    List.all_eq_true, bne_iff_ne, ne_eq] at hc
  obtain ⟨⟨-, h2⟩, hf⟩ := hc
  have htwo : ∀ g ∈ latchFields, blockOf g.addr = 2 := by decide
  have hfields : ∀ g ∈ latchFields, t.fld g = s.fld g :=
    hk.latchFields h2 (List.all_eq_true.mpr fun g hg => all_apart_of_block fun f hm => by
      rw [htwo g hg]; exact (hf f hm).2)
  exact ((latched_acceptReport hwt hsrc (belayClass_le src param)).congr_left hfields).reported
    (flag_FLTHS_acceptReport hwt hsrc (belayClass_le src param))

/-- The collector's registers lie in block 2. -/
theorem blockOf_FLT_ACT {src : Nat} (h : src < 64) : blockOf (Reg.FLT_ACT + src / 16) = 2 := by
  have hk : src / 16 < 4 := by omega
  generalize src / 16 = k at hk
  revert k
  decide

/-- What changes nothing of the collector after a report keeps the report. -/
theorem Reported.of_regsKept {cls : Nat} (h : Reported src param cls s t) (hk : RegsKept bs fs t u) (hflt : u.flt = t.flt)
    (hsrc : src < 64) (hc : clearOfCollector bs fs = true) : Reported src param cls s u := by
  simp only [clearOfCollector, Bool.and_eq_true, Bool.not_eq_true', List.contains_eq_mem, decide_eq_false_iff_not,
    List.all_eq_true, bne_iff_ne, ne_eq] at hc
  obtain ⟨⟨-, h2⟩, hf⟩ := hc
  have hfs : ∀ {g : Fld}, blockOf g.addr = 2 → fs.all (fun f => f.apart g) = true := fun {g} hg =>
    all_apart_of_block fun f hm => by rw [hg]; exact (hf f hm).2
  have hfld : ∀ g : Fld, blockOf g.addr = 2 → u.fld g = t.fld g := fun g hg => hk.fld (by rw [hg]; exact h2) (hfs hg)
  have hflag : ∀ g : Fld, blockOf g.addr = 2 → u.flag g = t.flag g := fun g hg => hk.flag (by rw [hg]; exact h2) (hfs hg)
  have hfirst : u.reg32 Reg.FLT_FIRST = t.reg32 Reg.FLT_FIRST := by
    simp only [State.reg32, ← fld_wholeReg, hfld (wholeReg Reg.FLT_FIRST) (by decide),
      hfld (wholeReg (Reg.FLT_FIRST + 1)) (by decide)]
  obtain ⟨hbusy, hact, hnone, hsome, hworst, hnew⟩ := h
  refine ⟨by rw [hflt]; exact hbusy, ?_, fun h0 => hfirst.trans (hnone h0), fun h0 => ?_, (hfld _ (by decide)).trans hworst,
    fun hu => ?_⟩
  · simp only [State.fldBit] at hact ⊢
    rw [hfld _ (blockOf_FLT_ACT hsrc)]
    exact hact
  · exact ⟨hfirst.trans (hsome h0).1, (hflag .FLT_STAT_OVF (by decide)).trans (hsome h0).2⟩
  · exact ⟨(hflag .FLT_STAT_NEW (by decide)).trans (hnew hu).1, (hflag .FLT_STAT_FLTHS (by decide)).trans (hnew hu).2⟩

/-- A command that answers the state `t` ends in what `t` is. -/
theorem runs_of_eq {c : Instr} {P : State → Prop} (h : exec c s = .next t) (he : t = u) (hu : P u) : Runs c s P :=
  ⟨u, he ▸ h, hu⟩

theorem memKept_report (src param p2 p3 : Nat) (s : State) : MemKept s (report src param p2 p3 s) :=
  memKept_acceptReport _ _ _ _ _ _ _

end

end Sys2Proof.Machine
end

section
/-! A proof about the reference buffer and its monitor (R294, R296, R297). -/

namespace Sys2Proof.Machine

theorem refReady_of_on {s : State} (hbuf : s.flag .REF_STAT_BUFON = true) (hen : s.flag .REF_CTRL_BUFEN = true) :
    refReady s = s.setFlag .REF_STAT_READY true := by simp [refReady, hbuf, hen]

theorem refReady_of_off {s : State} (h : s.flag .REF_STAT_BUFON = false ∨ s.flag .REF_CTRL_BUFEN = false) :
    refReady s = s := by
  obtain h | h := h <;> simp [refReady, h]

/-- The comparison is noted. -/
def compared (bad d : Nat) (s : State) : State := { s with seq := { s.seq with refBad := min 3 bad, refDiff := d } }

theorem refMonitor_of_ready {s : State} (d : Nat) (h : s.flag .REF_STAT_READY = true) :
    refMonitor d s = if 3 ≤ (if 2000 < d then s.seq.refBad + 1 else 0) && !s.flag .REF_STAT_MONERR then
        report 9 0 (min 65535 d) 0 ((compared (if 2000 < d then s.seq.refBad + 1 else 0) d s).setFlag .REF_STAT_MONERR true)
      else compared (if 2000 < d then s.seq.refBad + 1 else 0) d s := by
  simp only [refMonitor, h, Bool.not_true, Bool.false_eq_true, if_false]
  rfl

theorem refMonitor_of_good {s : State} {d : Nat} (h : s.flag .REF_STAT_READY = true) (hd : d ≤ 2000) :
    refMonitor d s = compared 0 d s := by
  have hlow : ¬ 2000 < d := Nat.not_lt.mpr hd
  rw [refMonitor_of_ready d h, if_neg hlow]
  rfl

theorem refMonitor_of_bad {s : State} {d : Nat} (h : s.flag .REF_STAT_READY = true) (hd : 2000 < d)
    (hq : s.seq.refBad < 2 ∨ s.flag .REF_STAT_MONERR = true) : refMonitor d s = compared (s.seq.refBad + 1) d s := by
  rw [refMonitor_of_ready d h, if_pos hd, if_neg]
  obtain hq | hq := hq
  · have hfew : ¬ 3 ≤ s.seq.refBad + 1 := by omega
    simp [hfew]
  · simp [hq]

theorem refMonitor_of_third {s : State} {d : Nat} (h : s.flag .REF_STAT_READY = true) (hd : 2000 < d)
    (hq : 2 ≤ s.seq.refBad) (hm : s.flag .REF_STAT_MONERR = false) :
    refMonitor d s = report 9 0 (min 65535 d) 0 ((compared (s.seq.refBad + 1) d s).setFlag .REF_STAT_MONERR true) := by
  have hmany : 3 ≤ s.seq.refBad + 1 := by omega
  rw [refMonitor_of_ready d h, if_pos hd, if_pos (by simp [hmany, hm])]

/-- Source 9 is reported after its flag of REF.STAT has been set. -/
theorem reference_reported {s t : State} {g : Fld} {param p2 : Nat} (hg : g.addr = Reg.REF_STAT) (hlo : g.lo + g.width ≤ 16)
    (hwidth : g.width = 1)
    (hw : Watches 9 s) (ht : RegsKept [] [wholeReg Reg.REF_STAT] s (t.setFlag g true)) (hflt : t.flt = s.flt)
    (hmem : MemKept s (t.setFlag g true)) :
    (report 9 param p2 0 (t.setFlag g true)).flag g = true ∧
      Reported 9 param clsU s (report 9 param p2 0 (t.setFlag g true)) ∧
      BlocksKept (5 :: reportBlocks) s (report 9 param p2 0 (t.setFlag g true)) ∧
      (∀ a, a ≠ Reg.REF_STAT → blockOf a = 5 → (report 9 param p2 0 (t.setFlag g true)).reg a = s.reg a) ∧
      MemKept s (report 9 param p2 0 (t.setFlag g true)) := by
  have hcls : belayClass 9 param ≠ clsF := by simp [belayClass, clsU, clsF]
  have hrep := regsKept_report (p2 := p2) (p3 := 0) (s := t.setFlag g true) hcls (by decide : 9 < 64)
  have hall := (hrep.mono (List.Subset.refl _) (List.nil_subset [wholeReg Reg.REF_STAT]))
  have hboth := (ht.mono (List.nil_subset reportBlocks) (List.Subset.refl _)).trans hall
  have hblock : blockOf g.addr ∉ reportBlocks := by rw [hg]; decide
  refine ⟨?_, report_after (by decide) hw ht (by simpa using hflt) (by decide),
    hboth.blocksKept (fun _ h => List.mem_cons_of_mem _ h) (by decide), fun a ha hb => ?_,
    hmem.trans (memKept_report _ _ _ _ _)⟩
  · rw [hrep.flag hblock rfl]
    exact flag_setFlag_same _ _ _ hlo hwidth
  · apply BitVec.eq_of_getLsbD_eq
    intro i _
    refine hboth a i (by rw [hb]; decide) fun f hf he => ?_
    rw [List.mem_singleton.mp hf] at he
    exact absurd he.symm ha

theorem refioRange_of_in {s : State} (h : s.fld .REF_CTRL_IOMODE = 2) :
    refioRange s = report 9 1 (min 65535 s.seq.refDiff) 0 (s.setFlag .REF_STAT_EXTERR true) := by simp [refioRange, h]

theorem refioRange_of_ne {s : State} (h : s.fld .REF_CTRL_IOMODE ≠ 2) : refioRange s = s := by simp [refioRange, h]

/-- Settles O27: READY follows the buffer; the comparison that sets MONERR, and a REFIO level out of range, set their flag before
source 9 is reported, which leaves block 5 alone. -/
theorem referenceIsMonitored : Obligations.ReferenceIsMonitored := by
  refine ⟨?ready, ?off, ?good, ?bad, ?third, ?unready, ?range, ?other⟩
  case ready =>
    exact fun s hbuf hen => runs_of_eq rfl (refReady_of_on hbuf hen) ⟨flag_setFlag_same _ _ _ (by decide) rfl,
      (FieldsKept.refl _ s).setFlag (by simp) (by decide), rfl⟩
  case off => exact fun s h => runs_of_eq rfl (refReady_of_off h) rfl
  case good => exact fun d s h hd => runs_of_eq rfl (refMonitor_of_good h hd) rfl
  case bad => exact fun d s h hd hq => runs_of_eq rfl (refMonitor_of_bad h hd hq) rfl
  case third =>
    intro d s h hd hq hm hw
    refine runs_of_eq rfl (refMonitor_of_third h hd hq hm) ?_
    exact reference_reported (t := compared (s.seq.refBad + 1) d s) rfl (by decide) rfl hw
      (FieldsKept.setReg (.refl _ s) (by simp)).regsKept rfl (.of_eq rfl rfl rfl)
  case unready => exact fun d s h => ⟨_, rfl, by simp [refMonitor, h]⟩
  case range =>
    intro s h hw
    obtain ⟨hflag, hrep, hblocks, -, hmem⟩ := reference_reported (t := s) (g := .REF_STAT_EXTERR) (param := 1)
      (p2 := min 65535 s.seq.refDiff) rfl (by decide) rfl hw (FieldsKept.setReg (.refl _ s) (by simp)).regsKept rfl (.of_eq rfl rfl rfl)
    exact runs_of_eq rfl (refioRange_of_in h) ⟨hflag, hrep, hblocks, hmem⟩
  case other => exact fun s h => ⟨_, rfl, refioRange_of_ne h⟩

end Sys2Proof.Machine
end

section
/-! A proof about the loops' rows, their first value and their readback (R444 to R449). -/

namespace Sys2Proof.Machine

/-! ### The writes of a path -/

/-- A command that is one write of a path, let through and executed. -/
theorem runs_write {c : Instr} {p : Path} {a : Nat} {v : Word} {s u : State} {P : State → Prop} (h : Admits p a s)
    (hexec : exec c s = .next (pathWrite p a v s))
    (heffect : writeReg p (s.path p).nvmKey a v (dropKey p s) = (0, u))
    (hP : ∀ ps host, (p = .host → host.answer.status = 0) → P { u with paths := ps, host := host }) : Runs c s P :=
  runs_executed hexec (by rw [accessWrite_of_admits h, heffect]) hP

/-- A command that is one write of a path, let through and refused by the register. -/
theorem runs_writeDenied {c : Instr} {p : Path} {a : Nat} {v : Word} {s u : State} {P : State → Prop} (h : Admits p a s)
    (hexec : exec c s = .next (pathWrite p a v s))
    (heffect : writeReg p (s.path p).nvmKey a v (dropKey p s) = (stDeny, u))
    (hP : ∀ host, (p = .host → host.answer.status = stDeny) → P { u with host := host }) : Runs c s P :=
  runs_refusedWrite hexec (by rw [accessWrite_of_admits h, heffect]; rfl) hP

/-! ### The loops -/

theorem loop_modLoop (s : State) (n m : Nat) (f : LoopSt → LoopSt) :
    (s.modLoop n f).loop m = if n = m ∧ m < s.loops.length then f (s.loop m) else s.loop m := nth_modNth _ _ _ _ _

theorem loop_modLoop_same {s : State} {n : Nat} (h : n < s.loops.length) (f : LoopSt → LoopSt) :
    (s.modLoop n f).loop n = f (s.loop n) := by rw [loop_modLoop, if_pos ⟨rfl, h⟩]

theorem loop_modLoop_other {s : State} {n m : Nat} (h : m ≠ n) (f : LoopSt → LoopSt) :
    (s.modLoop n f).loop m = s.loop m := by rw [loop_modLoop, if_neg fun hc => h hc.1.symm]

theorem loop_of_loops {s t : State} (h : t.loops = s.loops) (m : Nat) : t.loop m = s.loop m := by rw [State.loop, h]; rfl

theorem loops_updateLoop (n : Nat) (s : State) : (updateLoop n s).loops = s.loops := by rw [updateLoop_rest]

theorem loops_mkRecord (code cls : Nat) (ps : List Nat) (s : State) : (mkRecord code cls ps s).loops = s.loops := by
  rw [(onlyRecord_mkRecord code cls ps s).eq]

/-- A field that R444 looks at is not one that it writes. -/
theorem fld_updateLoop {n : Nat} (hn : n < 6) {g : Fld} (hg : g ∈ loopInputs n) (s : State) :
    (updateLoop n s).fld g = s.fld g := inputs_updateLoop hn hn s g hg

theorem flag_updateLoop {n : Nat} (hn : n < 6) {g : Fld} (hg : g ∈ loopInputs n) (s : State) :
    (updateLoop n s).flag g = s.flag g := by simp only [State.flag, fld_updateLoop hn hg s]

/-- A record changes no register of the loops. -/
theorem regsKept_mkRecord (code cls : Nat) (ps : List Nat) (s : State) :
    RegsKept recordBlocks [] s (mkRecord code cls ps s) :=
  (Kept.mkRecord (.refl s) (List.Subset.refl _) code cls ps).regs

/-- A loop's condition is recorded and its row shown. -/
def conditionRecorded (n code cls : Nat) (ps : List Nat) (s : State) : State := updateLoop n (mkRecord code cls ps s)

theorem conditionRecorded_shown {n : Nat} (hn : n < 6) (code cls : Nat) (ps : List Nat) (s : State) :
    LoopShows n (conditionRecorded n code cls ps s) ∧ (conditionRecorded n code cls ps s).loops = s.loops ∧
      Kept [7, 9, 10, 11] [] s (conditionRecorded n code cls ps s) ∧
      (∀ g ∈ loopInputs n, blockOf g.addr = 7 → (conditionRecorded n code cls ps s).flag g = s.flag g) := by
  refine ⟨loopShows_updateLoop hn _, ?_, (Kept.mkRecord (.refl s) (by decide) code cls ps).updateLoop (by decide) hn,
    fun g hg hb => ?_⟩
  · rw [conditionRecorded, loops_updateLoop, loops_mkRecord]
  · rw [conditionRecorded, flag_updateLoop hn hg,
      (regsKept_mkRecord code cls ps s).flag (g := g) (by rw [hb]; decide) rfl]

/-- A re-evaluation of R444 never takes EVT back. -/
theorem flag_EVT_updateLoop {n : Nat} {s : State} (h : s.flag (.LOOP_STAT_EVT n) = true) :
    (updateLoop n s).flag (.LOOP_STAT_EVT n) = true := by
  obtain hu | hu := updateLoop_cases n s <;> rw [hu]
  · unfold shownLoop State.setRegN
    have hne : Reg.LOOP_DAC n ≠ Reg.LOOP_STAT n := by simp
    simp only [State.flag] at h ⊢
    rw [fld_setReg_other _ _ _ _ hne, fld_setFld_other _ _ _ _ (by simp) (apart_of_bits (by simp)),
      fld_setFld_other _ _ _ _ (by simp) (apart_of_bits (by simp)),
      fld_setFld_other _ _ _ _ (by simp) (apart_of_bits (by simp)), h]
  · exact flag_setFlag_same _ _ _ (by simp) rfl

theorem FVEXP_mem {n : Nat} : Fld.LOOP_STAT_FVEXP n ∈ loopInputs n := by simp [loopInputs]
theorem RBF_mem {n : Nat} : Fld.LOOP_STAT_RBF n ∈ loopInputs n := by simp [loopInputs]
theorem LVALM_mem {n : Nat} : Fld.LOOP_STAT_LVALM n ∈ loopInputs n := by simp [loopInputs]

theorem blockOf_LOOP_STAT {n : Nat} (hn : n < 6) : blockOf (Reg.LOOP_STAT n) = 7 := (blockOf_loop hn).1

/-! ### The first value (R445) -/

/-- The timer of the first value ends. -/
def firstTimerOver (n : Nat) (s : State) : State := s.modLoop n (fun l => { l with fvRun := false })

theorem fvtmoExpire_of_run {n : Nat} {s : State} (hrun : (s.loop n).fvRun = true) (hact : s.isActive = true)
    (hfrozen : s.seq.frozenAt = none) : fvtmoExpire n s = if (s.loop n).mode = 1 then
      conditionRecorded n 0x280 clsNote [n] ((firstTimerOver n s).setFlag (.LOOP_STAT_FVEXP n) true)
      else firstTimerOver n s := by
  simp only [fvtmoExpire, hrun, hact, hfrozen, Option.isNone_none, Bool.and_self, if_true]
  rfl

theorem fvtmoExpire_of_idle {n : Nat} {s : State}
    (h : (s.loop n).fvRun = false ∨ s.isActive = false ∨ s.seq.frozenAt.isSome = true) : fvtmoExpire n s = s := by
  unfold fvtmoExpire
  refine if_neg ?_
  simp only [Bool.and_eq_true, Option.isNone_iff_eq_none]
  rintro ⟨hrun, hfrozen⟩
  obtain h | h | h := h
  · rw [hrun.1] at h; cases h
  · rw [hrun.2] at h; cases h
  · rw [hfrozen] at h; cases h

/-! ### FIXED (R446) -/

theorem not_acting_FIXED {n : Nat} (hn : n < 6) : windowReg (Reg.LOOP_FIXED n) = none ∧ regQWord (Reg.LOOP_FIXED n) = none ∧
    forceSlice (Reg.LOOP_FIXED n) = none ∧ fixedLoop (Reg.LOOP_FIXED n) = some n ∧
    actingRegs.contains (Reg.LOOP_FIXED n) = false := by
  revert n
  decide +kernel

theorem writeReg_FIXED {p : Path} {key : Bool} {n : Nat} (hn : n < 6) (v : Word) (s : State) :
    writeReg p key (Reg.LOOP_FIXED n) v s = fixedEffect p n v.toNat s := by
  obtain ⟨hwin, hq, hforce, hfixed, hact⟩ := not_acting_FIXED hn
  simp only [actingRegs, List.contains_eq_mem, decide_eq_false_iff_not, List.mem_cons, not_or] at hact
  simp only [writeReg, hwin, hq, writeCore, hforce, hfixed, hact, if_false]

theorem exec_loopFixedWrite {p : Path} {n v : Nat} (hp : isPath p = true) (hn : n < 6) (hv : v < 65536) (s : State) :
    exec (.loopFixedWrite p n v) s = .next (pathWrite p (Reg.LOOP_FIXED n) (word v) s) :=
  answerIf_next.mpr ⟨by simp [okPath_eq_isPath, hp, hn, isWord, hv], rfl⟩

theorem fixedEffect_taken {p : Path} {n v : Nat} {s : State} (hg : s.granted p grantForce = true) (hlo : codeLow ≤ v)
    (hhi : v ≤ codeHigh) : fixedEffect p n v s = (0, updateLoop n (s.setRegN (Reg.LOOP_FIXED n) v)) := by
  simp [fixedEffect, hg, hlo, hhi]

theorem fixedEffect_refused {p : Path} {n v : Nat} {s : State}
    (h : s.granted p grantForce = false ∨ v < codeLow ∨ codeHigh < v) : fixedEffect p n v s = (stDeny, s) := by
  unfold fixedEffect
  refine if_neg ?_
  simp only [Bool.and_eq_true, decide_eq_true_eq]
  rintro ⟨⟨hg, hlo⟩, hhi⟩
  obtain h | h | h := h
  · rw [hg] at h; cases h
  · omega
  · omega

/-- A fixed code is taken and the row shown. -/
theorem fixedTaken_shown {n v : Nat} (hn : n < 6) (hv : v < 65536) (s : State) :
    (updateLoop n (s.setRegN (Reg.LOOP_FIXED n) v)).regN (Reg.LOOP_FIXED n) = v ∧
      FieldsKept (wholeReg (Reg.LOOP_FIXED n) :: loopFields n) s (updateLoop n (s.setRegN (Reg.LOOP_FIXED n) v)) := by
  refine ⟨?_, ((FieldsKept.refl _ s).setRegN (by simp)).trans
    ((fieldsKept_updateLoop n _).mono fun f hf => List.mem_cons_of_mem _ hf)⟩
  have hmem : wholeReg (Reg.LOOP_FIXED n) ∈ loopInputs n := by simp [loopInputs]
  rw [← fld_wholeReg, fld_updateLoop hn hmem, fld_wholeReg, regN_setRegN_same, Nat.mod_eq_of_lt hv]

/-! ### Readback (R448, R449) -/

/-- A readback deviates: it lies outside the tolerance, and neither a low voltage nor a start excuses it. -/
def deviates (n r m : Nat) (s : State) : Bool :=
  decide (s.regN (Reg.LOOP_RBTOL n) < max r m - min r m) && !((s.loop n).lowvSeen && decide (r < m)) && !(s.loop n).startSeen

/-- The windows that have deviated in a row. -/
def deviations (n r m : Nat) (s : State) : Nat := if deviates n r m s then (s.loop n).devCount + 1 else 0

theorem deviates_of {n r m : Nat} {s : State} (htol : s.regN (Reg.LOOP_RBTOL n) < max r m - min r m)
    (hlow : (s.loop n).lowvSeen = false ∨ m ≤ r) (hstart : (s.loop n).startSeen = false) : deviates n r m s = true := by
  obtain h | h := hlow
  · simp [deviates, htol, h, hstart]
  · simp [deviates, htol, Nat.not_lt.mpr h, hstart]

theorem deviations_of {n r m : Nat} {s : State} (h : deviates n r m s = true) :
    deviations n r m s = (s.loop n).devCount + 1 := by rw [deviations, h]; rfl

/-- The registers that show a readback window. -/
def readbackShown (n r m : Nat) (s : State) : State :=
  (s.setRegN (Reg.LOOP_RBACK n) r).setFlag (.LOOP_STAT_RBDEV n) (deviates n r m s)

/-- A readback window is shown and counted. -/
def readbackCounted (n r m : Nat) (s : State) : State :=
  (readbackShown n r m s).modLoop n (fun l => { l with
    devCount := deviations n r m s, lowvSeen := (readbackShown n r m s).flag (.LOOP_STAT_LOWV n),
    startSeen := (readbackShown n r m s).regN (Reg.LOOP_DAC n) == 0 })

/-- The deviation has lasted RBTMO: the loop's fault. -/
def readbackFault (n r m : Nat) (s : State) : State :=
  updateLoop n (report 11 n m r
    (((readbackCounted n r m s).setFlag (.LOOP_STAT_RBF n) true).setFlag (.LOOP_STAT_EVT n) true))

theorem readbackEnd_unserved {n r m : Nat} {s : State} (h : s.fitted n = false ∨ s.isActive = false) :
    readbackEnd n r m s = s := by
  obtain h | h := h <;> simp [readbackEnd, h]

/-- A readback changes neither the time-out nor the fault of the loop before it judges them. -/
theorem fieldsKept_readbackCounted (n r m : Nat) (s : State) :
    FieldsKept [wholeReg (Reg.LOOP_RBACK n), .LOOP_STAT_RBDEV n] s (readbackCounted n r m s) :=
  FieldsKept.setFlag (.setRegN (.refl _ s) (by simp)) (by simp) (by simp)

theorem readback_apart {n : Nat} (hn : n < 6) :
    [wholeReg (Reg.LOOP_RBACK n), Fld.LOOP_STAT_RBDEV n].all (fun f => f.apart (wholeReg (Reg.LOOP_RBTMO n))) = true ∧
    [wholeReg (Reg.LOOP_RBACK n), Fld.LOOP_STAT_RBDEV n].all (fun f => f.apart (.LOOP_STAT_RBF n)) = true := by
  revert n
  decide +kernel

theorem readbackEnd_of_served {n r m : Nat} {s : State} (hn : n < 6) (hfit : s.fitted n = true) (hact : s.isActive = true) :
    readbackEnd n r m s =
      if decide (s.regN (Reg.LOOP_RBTMO n) ≤ deviations n r m s) && deviates n r m s && !s.flag (.LOOP_STAT_RBF n) then
        readbackFault n r m s
      else readbackCounted n r m s := by
  obtain ⟨htmo, hrbf⟩ := readback_apart hn
  have hkept := fieldsKept_readbackCounted n r m s
  rw [← hkept.regN htmo, ← hkept.flag hrbf]
  simp only [readbackEnd, hfit, hact, Bool.not_true, Bool.or_self, Bool.false_eq_true, if_false]
  rfl

theorem readbackCounted_shown {n r m : Nat} {s : State} (hlen : n < s.loops.length) (hr : r < 65536) :
    (readbackCounted n r m s).regN (Reg.LOOP_RBACK n) = r ∧
      (readbackCounted n r m s).flag (.LOOP_STAT_RBDEV n) = deviates n r m s ∧
      ((readbackCounted n r m s).loop n).devCount = deviations n r m s ∧
      readbackCounted n r m s = { s with regs := (readbackCounted n r m s).regs, loops := (readbackCounted n r m s).loops } := by
  refine ⟨?_, flag_setFlag_same _ _ _ (by simp) rfl, ?_, rfl⟩
  · have hne : Reg.LOOP_STAT n ≠ Reg.LOOP_RBACK n := by simp
    have hkeep : (readbackCounted n r m s).regN (Reg.LOOP_RBACK n) =
        (s.setRegN (Reg.LOOP_RBACK n) r).regN (Reg.LOOP_RBACK n) :=
      congrArg BitVec.toNat ((reg_setFld _ _ _ _).trans (if_neg hne))
    rw [hkeep, regN_setRegN_same, Nat.mod_eq_of_lt hr]
  · exact congrArg LoopSt.devCount (loop_modLoop_same (s := readbackShown n r m s) hlen _)

theorem readbackFault_shown {n r m : Nat} {s : State} (hn : n < 6) (hw : Watches 11 s) :
    (readbackFault n r m s).flag (.LOOP_STAT_RBF n) = true ∧ (readbackFault n r m s).flag (.LOOP_STAT_EVT n) = true ∧
      LoopShows n (readbackFault n r m s) ∧ Reported 11 n clsU s (readbackFault n r m s) ∧
      BlocksKept (7 :: reportBlocks) s (readbackFault n r m s) ∧ MemKept s (readbackFault n r m s) := by
  have hstat : blockOf (Reg.LOOP_STAT n) ∈ [7] := by rw [blockOf_LOOP_STAT hn]; decide
  have hback : blockOf (Reg.LOOP_RBACK n) ∈ [7] := by revert n; decide
  have hset : Kept [7] [] s (((readbackCounted n r m s).setFlag (.LOOP_STAT_RBF n) true).setFlag (.LOOP_STAT_EVT n) true) :=
    Kept.setFlag (.setFlag (.modLoop (.setFlag (.setRegN (.refl s) hback) hstat) n _) hstat) hstat
  have hrbf : (((readbackCounted n r m s).setFlag (.LOOP_STAT_RBF n) true).setFlag (.LOOP_STAT_EVT n) true).flag
      (.LOOP_STAT_RBF n) = true := by
    rw [flag_setFlag_other _ _ _ _ (by simp) (apart_of_bits (by simp)), flag_setFlag_same _ _ _ (by simp) rfl]
  have hevt : (((readbackCounted n r m s).setFlag (.LOOP_STAT_RBF n) true).setFlag (.LOOP_STAT_EVT n) true).flag
      (.LOOP_STAT_EVT n) = true := flag_setFlag_same _ _ _ (by simp) rfl
  have hflt : (((readbackCounted n r m s).setFlag (.LOOP_STAT_RBF n) true).setFlag (.LOOP_STAT_EVT n) true).flt = s.flt := rfl
  unfold readbackFault
  generalize ((readbackCounted n r m s).setFlag (.LOOP_STAT_RBF n) true).setFlag (.LOOP_STAT_EVT n) true = u at *
  have hcls : belayClass 11 n ≠ clsF := show clsU ≠ clsF by decide
  have hreport := regsKept_report (p2 := m) (p3 := r) (s := u) hcls (by decide)
  have hblock : blockOf (Reg.LOOP_STAT n) ∉ reportBlocks := by rw [blockOf_LOOP_STAT hn]; decide
  have hrow := Kept.updateLoop (fs := []) (.refl (report 11 n m r u)) (show 7 ∈ [7] by decide) hn
  refine ⟨?_, ?_, loopShows_updateLoop hn _, ?_, ?_, (hset.mem.trans (memKept_report _ _ _ _ _)).trans hrow.mem⟩
  · rw [flag_updateLoop hn RBF_mem, hreport.flag hblock rfl, hrbf]
  · exact flag_EVT_updateLoop (by rw [hreport.flag hblock rfl, hevt])
  · exact (report_after (by decide) hw hset.regs hflt (by decide)).of_regsKept hrow.regs
      (by rw [updateLoop_rest]) (by decide) (by decide)
  · exact ((hset.regs.blocksKept (by decide) (by simp)).trans (hreport.blocksKept (by decide) (by simp))).trans
      (hrow.regs.blocksKept (by decide) (by simp))

/-- Settles O37: a row is shown by `loopShows_updateLoop`, and a readback is judged by `deviates` before it is counted. -/
theorem loopsDriveTheirRow : Obligations.LoopsDriveTheirRow := by
  refine ⟨?first, ?idle, ?fixed, ?refused, ?good, ?deviated, ?fault, ?unserved, ?other⟩
  case first =>
    intro n s hn hlen hrun hact hfrozen hmode
    have hexec : exec (.fvtmoExpire n) s = .next (fvtmoExpire n s) := answerIf_next.mpr ⟨by simp [hn], rfl⟩
    refine runs_of_eq hexec ((fvtmoExpire_of_run hrun hact hfrozen).trans (if_pos hmode)) ?_
    obtain ⟨hshows, hloops, hkept, hflags⟩ := conditionRecorded_shown hn 0x280 clsNote [n]
      ((firstTimerOver n s).setFlag (.LOOP_STAT_FVEXP n) true)
    have hset : Kept [7, 9, 10, 11] [] s ((firstTimerOver n s).setFlag (.LOOP_STAT_FVEXP n) true) :=
      ((Kept.refl s).modLoop n _).setFlag (by rw [blockOf_LOOP_STAT hn]; decide)
    refine ⟨?_, ?_, hshows, fun m hm => ?_, (hset.trans hkept).regs.blocksKept (List.Subset.refl _) (by simp),
      (hset.trans hkept).mem⟩
    · rw [hflags _ FVEXP_mem (blockOf_LOOP_STAT hn)]
      exact flag_setFlag_same _ _ _ (by simp) rfl
    · rw [loop_of_loops hloops]
      exact loop_modLoop_same hlen _
    · rw [loop_of_loops hloops]
      exact loop_modLoop_other hm _
  case idle =>
    exact fun n s hn h => runs_of_eq (answerIf_next.mpr ⟨by simp [hn], rfl⟩) (fvtmoExpire_of_idle h) rfl
  case fixed =>
    intro p n v s hp hn hadm hg hlo hhi
    have hv : v < 65536 := lt_of_le_of_lt hhi (by decide)
    refine runs_write hadm (exec_loopFixedWrite hp hn hv s)
      ((writeReg_FIXED hn _ _).trans (by rw [toNat_word hv]; exact fixedEffect_taken (s := dropKey p s) hg hlo hhi)) fun ps host _ => ?_
    obtain ⟨hcode, hkept⟩ := fixedTaken_shown hn hv (dropKey p s)
    have hrest := updateLoop_rest n ((dropKey p s).setRegN (Reg.LOOP_FIXED n) v)
    refine ⟨hcode, loopShows_updateLoop hn _, hkept, ?_⟩
    rw [hrest]
    rfl
  case refused =>
    intro p n v s hp hn hfit hadm h
    have hv : v < 65536 := by simpa [fits] using hfit
    exact runs_writeDenied (u := dropKey p s) hadm (exec_loopFixedWrite hp hn hv s)
      ((writeReg_FIXED hn _ _).trans (by rw [toNat_word hv]; exact fixedEffect_refused (s := dropKey p s) h)) fun host hst => ⟨hst, rfl⟩
  case good =>
    intro n r m s hn hlen hr hm hfit hact h
    have hdev : deviates n r m s = false := by
      unfold deviates
      obtain h | ⟨hlow, hlt⟩ | h := h
      · simp [Nat.not_lt.mpr h]
      · simp [hlow, hlt]
      · simp [h]
    obtain ⟨hback, hflag, hcount, hrest⟩ := readbackCounted_shown (m := m) hlen hr
    refine runs_of_eq (answerIf_next.mpr ⟨by simp [hn, hr, hm], rfl⟩)
      ((readbackEnd_of_served hn hfit hact).trans (if_neg (by simp [hdev])))
      ⟨hback, hflag.trans hdev, by rw [hcount, deviations, hdev]; rfl, fieldsKept_readbackCounted n r m s, hrest⟩
  case deviated =>
    intro n r m s hn hlen hr hm hfit hact htol hlow hstart hfew
    have hdev := deviates_of htol hlow hstart
    have hcount := deviations_of hdev
    obtain ⟨hback, hflag, hdevs, hrest⟩ := readbackCounted_shown (m := m) hlen hr
    refine runs_of_eq (answerIf_next.mpr ⟨by simp [hn, hr, hm], rfl⟩)
      ((readbackEnd_of_served hn hfit hact).trans (if_neg ?_))
      ⟨hback, hflag.trans hdev, hdevs.trans hcount, fieldsKept_readbackCounted n r m s, hrest⟩
    simp [hcount, Nat.not_le.mpr hfew]
  case fault =>
    intro n r m s hn hlen hr hm hfit hact htol hlow hstart hmany hrbf hw
    have hdev := deviates_of htol hlow hstart
    exact runs_of_eq (answerIf_next.mpr ⟨by simp [hn, hr, hm], rfl⟩)
      ((readbackEnd_of_served hn hfit hact).trans (if_pos (by simp [deviations_of hdev, hdev, hmany, hrbf])))
      (readbackFault_shown hn hw)
  case unserved =>
    exact fun n r m s hn hr hm h => runs_of_eq (answerIf_next.mpr ⟨by simp [hn, hr, hm], rfl⟩) (readbackEnd_unserved h) rfl
  case other =>
    intro n s hn hrun hact hfrozen hmode
    exact runs_of_eq (answerIf_next.mpr ⟨by simp [hn], rfl⟩)
      ((fvtmoExpire_of_run hrun hact hfrozen).trans (if_neg hmode))
      ⟨fun hlen => loop_modLoop_same hlen _, fun m hm => loop_modLoop_other hm _, rfl⟩

end Sys2Proof.Machine
end

section
/-! A proof about low loop voltage (R451 to R454). -/

namespace Sys2Proof.Machine

/-! ### Bands -/

/-- What a move of loop n to another band writes. -/
def bandFields (n : Nat) : List Fld := [bandFld n, .PWR_VT_VT, .PWR_STAT_SHED]

theorem setBand_shown {n b : Nat} (hn : n < 6) (hb : b < 2) (s : State) :
    (setBand n b s).fld (bandFld n) = b ∧ FieldsKept (bandFields n) s (setBand n b s) ∧
      setBand n b s = { s with regs := (setBand n b s).regs, pwr := (setBand n b s).pwr } := by
  have hne : b ≠ bandHarvest := by simp only [bandHarvest]; omega
  have hmove : ∀ u : State, (setVt n (bandVt b) (u.setFld (bandFld n) b)).fld (bandFld n) = b := fun u => by
    rw [fld_band_setVt, fld_setBandFld hn (by omega)]
  have hkept : ∀ u : State, FieldsKept (bandFields n) u (setVt n (bandVt b) (u.setFld (bandFld n) b)) := fun u =>
    (fieldsKept_setVt_band n _ b u).mono (by simp [bandFields])
  have hshed : FieldsKept (bandFields n) s (leaveShed n s) :=
    FieldsKept.setFlag (t := { s with pwr := { s.pwr with shed := s.pwr.shed.filter (· != n) } }) (.of_regs rfl)
      (by simp [bandFields]) (by decide)
  unfold setBand
  dsimp only
  rw [if_neg hne]
  split
  · exact ⟨hmove _, hshed.trans (hkept _), rfl⟩
  · exact ⟨hmove _, hkept _, rfl⟩

theorem blockOf_bandFields (n : Nat) : ∀ f ∈ bandFields n, blockOf f.addr = 1 := by
  intro f hf
  simp only [bandFields, List.mem_cons, List.not_mem_nil, or_false] at hf
  obtain rfl | rfl | rfl := hf <;> rfl

/-- A move to another band changes block 1 alone. -/
theorem kept_setBand {n b : Nat} (hn : n < 6) (hb : b < 2) (s : State) : Kept [1] [] s (setBand n b s) := by
  obtain ⟨-, hkept, hrest⟩ := setBand_shown hn hb s
  refine ⟨fun a i ha _ => hkept a i fun f hf he => absurd ?_ ha, by rw [hrest]; rfl⟩
  rw [← he, blockOf_bandFields n f hf]
  exact List.mem_singleton.mpr rfl

/-! ### The row of a loop keeps LOWV -/

theorem LOWV_apart (n : Nat) : (loopFields n).all (fun f => f.apart (.LOOP_STAT_LOWV n)) = true := by
  simp only [loopFields, List.all_cons, List.all_nil, Bool.and_true, Bool.and_eq_true]
  refine ⟨apart_of_bits ?_, apart_of_bits ?_, apart_of_bits ?_, apart_of_bits ?_, ?_⟩ <;> simp [Fld.apart]

theorem flag_LOWV_updateLoop (n : Nat) (s : State) : (updateLoop n s).flag (.LOOP_STAT_LOWV n) = s.flag (.LOOP_STAT_LOWV n) :=
  (fieldsKept_updateLoop n s).flag (LOWV_apart n)

theorem fld_band_updateLoop {n : Nat} (hn : n < 6) (s : State) : (updateLoop n s).fld (bandFld n) = s.fld (bandFld n) :=
  (Kept.updateLoop (fs := []) (.refl s) (show 7 ∈ [7] by decide) hn).regs.fld (by simp only [bandFld]; decide) rfl

theorem flag_of_kept_LOOP_STAT {n : Nat} (hn : n < 6) {bs : List Nat} {s t : State} (hk : Kept bs [] s t) (hb : 7 ∉ bs)
    {g : Fld} (hg : g.addr = Reg.LOOP_STAT n) : t.flag g = s.flag g :=
  hk.regs.flag (by rw [hg, blockOf_LOOP_STAT hn]; exact hb) rfl

/-! ### LOWV_DETECT (R451) -/

/-- LOWV and EVT are set. -/
def lowvSet (n : Nat) (s : State) : State := (s.setFlag (.LOOP_STAT_LOWV n) true).setFlag (.LOOP_STAT_EVT n) true

/-- Low voltage is seen: the short band and the record. -/
def lowvSeen (n : Nat) (s : State) : State :=
  mkRecord 0x281 clsNote [n, (setBand n bandShort (lowvSet n s)).regN (Reg.LOOP_DAC n),
    (setBand n bandShort (lowvSet n s)).regN (Reg.LOOP_RBACK n)] (setBand n bandShort (lowvSet n s))

/-- The loop's timer starts, and a retry is over. -/
def lowvTimed (n : Nat) (s : State) : State :=
  s.modLoop n (fun l => { l with lvTimer := true, lowvSeen := true, lvRetry := false })

theorem lowvDetect_of_regulating {n : Nat} {s : State} (hfit : s.fitted n = true) (h : s.flag (.LOOP_STAT_LOWV n) = false) :
    lowvDetect n s = updateLoop n (lowvTimed n (lowvSeen n s)) := by
  simp only [lowvDetect, hfit, h, Bool.not_true, Bool.or_self, Bool.false_eq_true, if_false]
  rfl

theorem lowvDetect_of_none {n : Nat} {s : State} (h : s.fitted n = false ∨ s.flag (.LOOP_STAT_LOWV n) = true) :
    lowvDetect n s = s := by
  obtain h | h := h <;> simp [lowvDetect, h]

theorem flags_lowvSet (n : Nat) (s : State) : (lowvSet n s).flag (.LOOP_STAT_LOWV n) = true ∧
    (lowvSet n s).flag (.LOOP_STAT_EVT n) = true :=
  ⟨(flag_setFlag_other _ _ _ _ (by simp) (apart_of_bits (by simp))).trans (flag_setFlag_same _ _ _ (by simp) rfl),
    flag_setFlag_same _ _ _ (by simp) rfl⟩

theorem lowvSeen_shown {n : Nat} (hn : n < 6) (s : State) : (lowvSeen n s).flag (.LOOP_STAT_LOWV n) = true ∧
    (lowvSeen n s).flag (.LOOP_STAT_EVT n) = true ∧ (lowvSeen n s).fld (bandFld n) = bandShort ∧
    (lowvSeen n s).loops = s.loops ∧ Kept [1, 7, 9, 10, 11] [] s (lowvSeen n s) := by
  have hstat : blockOf (Reg.LOOP_STAT n) ∈ [7] := by rw [blockOf_LOOP_STAT hn]; decide
  obtain ⟨hlow, hevt⟩ := flags_lowvSet n s
  have hset : Kept [7] [] s (lowvSet n s) := ((Kept.refl s).setFlag hstat).setFlag hstat
  have hloops : (lowvSet n s).loops = s.loops := rfl
  have hband := kept_setBand hn (show bandShort < 2 by decide) (lowvSet n s)
  obtain ⟨hshort, -, hrest⟩ := setBand_shown hn (show bandShort < 2 by decide) (lowvSet n s)
  unfold lowvSeen
  generalize (setBand n bandShort (lowvSet n s)).regN (Reg.LOOP_RBACK n) = a
  generalize (setBand n bandShort (lowvSet n s)).regN (Reg.LOOP_DAC n) = d
  have hloops' : (setBand n bandShort (lowvSet n s)).loops = s.loops := by rw [hrest, hloops]
  generalize setBand n bandShort (lowvSet n s) = u at *
  have hrec : Kept recordBlocks [] u (mkRecord 0x281 clsNote [n, d, a] u) := (Kept.refl u).mkRecord (List.Subset.refl _) _ _ _
  refine ⟨?_, ?_, ?_, (loops_mkRecord _ _ _ _).trans hloops', ?_⟩
  · rw [flag_of_kept_LOOP_STAT hn hrec (by decide) rfl, flag_of_kept_LOOP_STAT hn hband (by decide) rfl, hlow]
  · rw [flag_of_kept_LOOP_STAT hn hrec (by decide) rfl, flag_of_kept_LOOP_STAT hn hband (by decide) rfl, hevt]
  · rw [hrec.regs.fld (by simp only [bandFld]; decide) rfl, hshort]
  · exact ((hset.mono (by decide) (List.Subset.refl _)).trans (hband.mono (by decide) (List.Subset.refl _))).trans
      (hrec.mono (by decide) (List.Subset.refl _))

/-! ### LOWV_CLEAR (R451, R453) -/

/-- LOWV ends with its timer. -/
def lowvOver (n : Nat) (s : State) : State :=
  ((s.setFlag (.LOOP_STAT_LOWV n) false).setFlag (.LOOP_STAT_EVT n) true).modLoop n (fun l => { l with lvTimer := false })

/-- The loop leaves the short band. -/
def bandReturned (n : Nat) (s : State) : State := if s.fld (bandFld n) = bandShort then setBand n bandBypass s else s

/-- With direction HIGH the loop's low-voltage alarm ends. -/
def lvalmEnded (n : Nat) (s : State) : State := if s.almDir n = 1 then s.setFlag (.LOOP_STAT_LVALM n) false else s

theorem lowvClear_of_low {n : Nat} {s : State} (h : s.flag (.LOOP_STAT_LOWV n) = true) :
    lowvClear n s = updateLoop n (lvalmEnded n (bandReturned n (lowvOver n s))) := by
  simp only [lowvClear, h, Bool.not_true, Bool.false_eq_true, if_false]
  rfl

theorem lowvClear_of_none {n : Nat} {s : State} (h : s.flag (.LOOP_STAT_LOWV n) = false) : lowvClear n s = s := by
  simp [lowvClear, h]

theorem lowvOver_shown {n : Nat} (hn : n < 6) (s : State) : (lowvOver n s).flag (.LOOP_STAT_LOWV n) = false ∧
    (lowvOver n s).flag (.LOOP_STAT_EVT n) = true ∧
    (lowvOver n s).flag (.LOOP_STAT_LVALM n) = s.flag (.LOOP_STAT_LVALM n) ∧ (lowvOver n s).almDir n = s.almDir n ∧
    (lowvOver n s).fld (bandFld n) = s.fld (bandFld n) ∧ Kept [7] [] s (lowvOver n s) := by
  have hstat : blockOf (Reg.LOOP_STAT n) ∈ [7] := by rw [blockOf_LOOP_STAT hn]; decide
  have hkept : FieldsKept [.LOOP_STAT_LOWV n, .LOOP_STAT_EVT n] s (lowvOver n s) :=
    FieldsKept.trans (((FieldsKept.refl _ s).setFlag (by simp) (by simp)).setFlag (by simp) (by simp)) (.of_regs rfl)
  have hapart : ∀ m < 6, (loopInputs m).all (fun g => [Fld.LOOP_STAT_LOWV m, Fld.LOOP_STAT_EVT m].all (fun f => f.apart g)) =
      true := by decide +kernel
  have hinputs : ∀ g ∈ loopInputs n, (lowvOver n s).fld g = s.fld g := fun g hg =>
    hkept.fld (List.all_eq_true.mp (hapart n hn) g hg)
  refine ⟨?_, ?_, by simp only [State.flag, hinputs _ LVALM_mem], almDir_congr hinputs, ?_,
    (((Kept.refl s).setFlag hstat).setFlag hstat).modLoop n _⟩
  · rw [lowvOver, flag_modLoop, flag_setFlag_other _ _ _ _ (by simp) (apart_of_bits (by simp)),
      flag_setFlag_same _ _ _ (by simp) rfl]
  · rw [lowvOver, flag_modLoop, flag_setFlag_same _ _ _ (by simp) rfl]
  · refine hkept.fld ?_
    have hne : Reg.LOOP_STAT n ≠ Reg.PWR_LOOPS := by simp only [Reg.LOOP_STAT, Reg.PWR_LOOPS]; omega
    simp [Fld.apart, bandFld, hne]

theorem bandReturned_shown {n : Nat} (hn : n < 6) (s : State) :
    (bandReturned n s).fld (bandFld n) = (if s.fld (bandFld n) = bandShort then bandBypass else s.fld (bandFld n)) ∧
      (bandReturned n s).loops = s.loops ∧ Kept [1] [] s (bandReturned n s) := by
  unfold bandReturned
  split
  · obtain ⟨hb, -, hrest⟩ := setBand_shown hn (show bandBypass < 2 by decide) s
    exact ⟨hb, by rw [hrest], kept_setBand hn (by decide) s⟩
  · exact ⟨rfl, rfl, .refl s⟩

theorem almDir_of_kept {n : Nat} (hn : n < 6) {s t : State} (hk : Kept [1] [] s t) : t.almDir n = s.almDir n := by
  have hblock : ∀ m < 6, (loopInputs m).all (fun g => blockOf g.addr != 1) = true := by decide +kernel
  refine almDir_congr fun g hg => hk.regs.fld ?_ rfl
  have h := List.all_eq_true.mp (hblock n hn) g hg
  simpa using h

theorem lvalmEnded_shown {n : Nat} (s : State) :
    (lvalmEnded n s).flag (.LOOP_STAT_LVALM n) = (s.flag (.LOOP_STAT_LVALM n) && s.almDir n != 1) ∧
      FieldsKept [.LOOP_STAT_LVALM n] s (lvalmEnded n s) ∧ (lvalmEnded n s).loops = s.loops ∧ OnlyRegs s (lvalmEnded n s) := by
  unfold lvalmEnded
  split
  next h => exact ⟨by simp [h, flag_setFlag_same], (FieldsKept.refl _ s).setFlag (by simp) (by simp), rfl, ⟨_, rfl⟩⟩
  next h => exact ⟨by simp [h], .refl _ s, rfl, .refl s⟩

theorem LVALM_apart (n : Nat) : [Fld.LOOP_STAT_LVALM n].all (fun f => f.apart (.LOOP_STAT_LOWV n)) = true ∧
    [Fld.LOOP_STAT_LVALM n].all (fun f => f.apart (.LOOP_STAT_EVT n)) = true ∧
    [Fld.LOOP_STAT_LVALM n].all (fun f => f.apart (bandFld n)) = true := by
  have hne : Reg.LOOP_STAT n ≠ Reg.PWR_LOOPS := by simp only [Reg.LOOP_STAT, Reg.PWR_LOOPS]; omega
  refine ⟨?_, ?_, ?_⟩ <;> simp [Fld.apart, bandFld, hne]

/-- The end of low voltage up to the row of R444. -/
def lowvEnded (n : Nat) (s : State) : State := lvalmEnded n (bandReturned n (lowvOver n s))

theorem lowvEnded_shown {n : Nat} (hn : n < 6) (hlen : n < s.loops.length) :
    (lowvEnded n s).flag (.LOOP_STAT_LOWV n) = false ∧ (lowvEnded n s).flag (.LOOP_STAT_EVT n) = true ∧
      ((lowvEnded n s).loop n).lvTimer = false ∧
      (lowvEnded n s).fld (bandFld n) = (if s.fld (bandFld n) = bandShort then bandBypass else s.fld (bandFld n)) ∧
      (lowvEnded n s).flag (.LOOP_STAT_LVALM n) = (s.flag (.LOOP_STAT_LVALM n) && s.almDir n != 1) ∧
      Kept [1, 7] [] s (lowvEnded n s) := by
  obtain ⟨hlow, hevt, hlv, hdir, hband, hover⟩ := lowvOver_shown hn s
  have hloop : ((lowvOver n s).loop n).lvTimer = false :=
    congrArg LoopSt.lvTimer (loop_modLoop_same (s := (s.setFlag (.LOOP_STAT_LOWV n) false).setFlag (.LOOP_STAT_EVT n) true)
      hlen _)
  obtain ⟨hback, hloops, hret⟩ := bandReturned_shown hn (lowvOver n s)
  obtain ⟨hend, hkept, hloops', hregs⟩ := lvalmEnded_shown (n := n) (bandReturned n (lowvOver n s))
  obtain ⟨hapart, hapart', hapart''⟩ := LVALM_apart n
  have hlast : Kept [7] [] (bandReturned n (lowvOver n s)) (lowvEnded n s) := by
    refine ⟨fun a i ha _ => hkept a i fun f hf he => absurd ?_ ha, ?_⟩
    · rw [← he, List.mem_singleton.mp hf, blockOf_LOOP_STAT hn]
      exact List.mem_singleton.mpr rfl
    · rw [lowvEnded, hregs.eq]
      rfl
  unfold lowvEnded at *
  refine ⟨?_, ?_, ?_, ?_, ?_, ((hover.mono (by decide) (List.Subset.refl _)).trans
    (hret.mono (by decide) (List.Subset.refl _))).trans (hlast.mono (by decide) (List.Subset.refl _))⟩
  · rw [hkept.flag hapart, flag_of_kept_LOOP_STAT hn hret (by decide) rfl, hlow]
  · rw [hkept.flag hapart', flag_of_kept_LOOP_STAT hn hret (by decide) rfl, hevt]
  · rw [loop_of_loops hloops', loop_of_loops hloops, hloop]
  · rw [hkept.fld hapart'', hback, hband]
  · rw [hend, flag_of_kept_LOOP_STAT hn hret (by decide) rfl, almDir_of_kept hn hret, hlv, hdir]

/-! ### LVTMO_EXPIRE and LVALM_RETRY (R452 to R454) -/

/-- The loop's low-voltage timer ends. -/
def lvTimerOver (n : Nat) (s : State) : State := s.modLoop n (fun l => { l with lvTimer := false })

/-- The loop's retry ends. -/
def lvRetryOver (n : Nat) (s : State) : State := s.modLoop n (fun l => { l with lvRetry := false })

theorem lvtmoExpire_of_low {n : Nat} {s : State} (ht : (s.loop n).lvTimer = true)
    (hlow : s.flag (.LOOP_STAT_LOWV n) = true) : lvtmoExpire n s = if s.flag (.LOOP_STAT_LVALM n) then lvTimerOver n s
      else conditionRecorded n 0x282 clsNote [n, ((lvTimerOver n s).almDir n)]
        ((lvTimerOver n s).setFlag (.LOOP_STAT_LVALM n) true) := by
  simp only [lvtmoExpire, ht, hlow, Bool.and_self, if_true]
  rfl

theorem lvtmoExpire_of_retry {n : Nat} {s : State} (hr : (s.loop n).lvRetry = true)
    (hlow : s.flag (.LOOP_STAT_LOWV n) = false) (hlv : s.flag (.LOOP_STAT_LVALM n) = true) : lvtmoExpire n s =
      conditionRecorded n 0x283 clsInfo [n] ((lvRetryOver n s).setFlag (.LOOP_STAT_LVALM n) false) := by
  simp only [lvtmoExpire, hr, hlow, hlv, Bool.and_false, Bool.false_eq_true, if_false, Bool.not_false, Bool.and_self, if_true]
  rfl

theorem lvtmoExpire_of_idle {n : Nat} {s : State} (ht : (s.loop n).lvTimer = false) (hr : (s.loop n).lvRetry = false) :
    lvtmoExpire n s = s := by
  simp [lvtmoExpire, ht, hr]

/-- LVALM is judged, recorded and the row shown. -/
theorem lvalmJudged_shown {n : Nat} {s t : State} (hn : n < 6) (code cls : Nat) (ps : List Nat) (b : Bool)
    (ht : Kept [] [] s t) :
    (conditionRecorded n code cls ps (t.setFlag (.LOOP_STAT_LVALM n) b)).flag (.LOOP_STAT_LVALM n) = b ∧
      (conditionRecorded n code cls ps (t.setFlag (.LOOP_STAT_LVALM n) b)).loops = t.loops ∧
      LoopShows n (conditionRecorded n code cls ps (t.setFlag (.LOOP_STAT_LVALM n) b)) ∧
      Kept [7, 9, 10, 11] [] s (conditionRecorded n code cls ps (t.setFlag (.LOOP_STAT_LVALM n) b)) := by
  have hstat : blockOf (Reg.LOOP_STAT n) ∈ [7, 9, 10, 11] := by rw [blockOf_LOOP_STAT hn]; decide
  obtain ⟨hshows, hloops, hkept, hflags⟩ := conditionRecorded_shown hn code cls ps (t.setFlag (.LOOP_STAT_LVALM n) b)
  refine ⟨?_, hloops, hshows, ((ht.mono (by simp) (List.Subset.refl _)).setFlag hstat).trans hkept⟩
  rw [hflags _ LVALM_mem (blockOf_LOOP_STAT hn)]
  exact flag_setFlag_same _ _ _ (by simp) rfl

theorem lvalmRetry_of_alarm {n : Nat} {s : State} (hlv : s.flag (.LOOP_STAT_LVALM n) = true) (hdir : s.almDir n = 0)
    (hlow : s.flag (.LOOP_STAT_LOWV n) = false) :
    lvalmRetry n s = updateLoop n (s.modLoop n (fun l => { l with lvRetry := true })) := by
  simp [lvalmRetry, hlv, hdir, hlow]

theorem lvalmRetry_of_none {n : Nat} {s : State} (h : s.flag (.LOOP_STAT_LVALM n) = false ∨ s.almDir n ≠ 0 ∨
    s.flag (.LOOP_STAT_LOWV n) = true) : lvalmRetry n s = s := by
  obtain h | h | h := h <;> simp [lvalmRetry, h]

/-- Settles O38: the band and LVALM are set before the row of R444, which keeps them, and the timers stand in the loop. -/
theorem lowLoopVoltageIsHandled : Obligations.LowLoopVoltageIsHandled := by
  refine ⟨?detect, ?undetected, ?clear, ?regulating, ?expire, ?retried, ?idle, ?retry, ?unretried, ?again⟩
  case detect =>
    intro n s hn hlen hfit hlow
    obtain ⟨hlow', hevt, hband, hloops, hkept⟩ := lowvSeen_shown hn s
    have hrow := Kept.updateLoop (fs := []) (.refl (lowvTimed n (lowvSeen n s))) (show 7 ∈ [7] by decide) hn
    have hlen' : n < (lowvSeen n s).loops.length := by rw [hloops]; exact hlen
    have hloop : (updateLoop n (lowvTimed n (lowvSeen n s))).loop n =
        { (lowvSeen n s).loop n with lvTimer := true, lowvSeen := true, lvRetry := false } :=
      (loop_of_loops (loops_updateLoop n _) n).trans (loop_modLoop_same hlen' _)
    refine runs_of_eq (answerIf_next.mpr ⟨by simp [hn], rfl⟩) (lowvDetect_of_regulating hfit hlow)
      ⟨?_, flag_EVT_updateLoop hevt, ?_, by rw [hloop], by rw [hloop], loopShows_updateLoop hn _, fun m hm => ?_,
        (((hkept.modLoop n _).trans (hrow.mono (by decide) (List.Subset.refl _))).regs.blocksKept (List.Subset.refl _)
          (by simp)), ((hkept.modLoop n _).trans (hrow.mono (by decide) (List.Subset.refl _))).mem⟩
    · rw [flag_LOWV_updateLoop]
      exact hlow'
    · rw [fld_band_updateLoop hn]
      exact hband
    · rw [loop_of_loops (loops_updateLoop n _), lowvTimed, loop_modLoop_other hm, loop_of_loops hloops]
  case undetected =>
    exact fun n s hn h => runs_of_eq (answerIf_next.mpr ⟨by simp [hn], rfl⟩) (lowvDetect_of_none h) rfl
  case clear =>
    intro n s hn hlen hlow
    obtain ⟨hlow', hevt, htimer, hband, hlv, hkept⟩ := lowvEnded_shown hn hlen
    have hrow := Kept.updateLoop (fs := []) (.refl (lowvEnded n s)) (show 7 ∈ [7] by decide) hn
    have hall := hkept.trans (hrow.mono (by decide) (List.Subset.refl _))
    exact runs_of_eq (answerIf_next.mpr ⟨by simp [hn], rfl⟩) (lowvClear_of_low hlow)
      ⟨(flag_LOWV_updateLoop n _).trans hlow', flag_EVT_updateLoop hevt,
        by rw [loop_of_loops (loops_updateLoop n _)]; exact htimer, (fld_band_updateLoop hn _).trans hband,
        (flag_updateLoop hn LVALM_mem _).trans hlv, loopShows_updateLoop hn _,
        hall.regs.blocksKept (List.Subset.refl _) (by simp), hall.mem⟩
  case regulating =>
    exact fun n s hn h => runs_of_eq (answerIf_next.mpr ⟨by simp [hn], rfl⟩) (lowvClear_of_none h) rfl
  case expire =>
    intro n s hn hlen ht hlow hlv
    obtain ⟨hset, hloops, hshows, hkept⟩ := lvalmJudged_shown hn 0x282 clsNote [n, ((lvTimerOver n s).almDir n)] true
      ((Kept.refl s).modLoop n (fun l => { l with lvTimer := false }))
    refine runs_of_eq (answerIf_next.mpr ⟨by simp [hn], rfl⟩) ((lvtmoExpire_of_low ht hlow).trans (if_neg (by simp [hlv])))
      ⟨hset, ?_, hshows, hkept.regs.blocksKept (List.Subset.refl _) (by simp), hkept.mem⟩
    exact congrArg LoopSt.lvTimer ((loop_of_loops hloops n).trans (loop_modLoop_same hlen _))
  case retried =>
    intro n s hn hlen hr hlow hlv
    obtain ⟨hset, hloops, hshows, hkept⟩ := lvalmJudged_shown hn 0x283 clsInfo [n] false
      ((Kept.refl s).modLoop n (fun l => { l with lvRetry := false }))
    refine runs_of_eq (answerIf_next.mpr ⟨by simp [hn], rfl⟩) (lvtmoExpire_of_retry hr hlow hlv)
      ⟨hset, ?_, hshows, hkept.regs.blocksKept (List.Subset.refl _) (by simp), hkept.mem⟩
    exact congrArg LoopSt.lvRetry ((loop_of_loops hloops n).trans (loop_modLoop_same hlen _))
  case idle =>
    exact fun n s hn ht hr => runs_of_eq (answerIf_next.mpr ⟨by simp [hn], rfl⟩) (lvtmoExpire_of_idle ht hr) rfl
  case retry =>
    intro n s hn hlen hlv hdir hlow
    refine runs_of_eq (answerIf_next.mpr ⟨by simp [hn], rfl⟩) (lvalmRetry_of_alarm hlv hdir hlow)
      ⟨?_, loopShows_updateLoop hn _, FieldsKept.trans (.of_regs rfl) (fieldsKept_updateLoop n _), by rw [updateLoop_rest]; rfl⟩
    exact congrArg LoopSt.lvRetry ((loop_of_loops (loops_updateLoop n _) n).trans (loop_modLoop_same hlen _))
  case unretried =>
    exact fun n s hn h => runs_of_eq (answerIf_next.mpr ⟨by simp [hn], rfl⟩) (lvalmRetry_of_none h) rfl
  case again =>
    exact fun n s hn ht hlow hlv => runs_of_eq (answerIf_next.mpr ⟨by simp [hn], rfl⟩)
      ((lvtmoExpire_of_low ht hlow).trans (if_pos hlv))
      ⟨fun hlen => loop_modLoop_same hlen _, fun m hm => loop_modLoop_other hm _, rfl⟩

end Sys2Proof.Machine
end

section
/-! Rules of the FSK channels (R461 to R472): the channel, the words of a slot, and the frames that go out. -/

namespace Sys2Proof.Machine

/-! ### Bytes and words -/

theorem leBytes_pair (a b : Byte) : leBytes (a.setWidth 16 ||| (b.setWidth 16 <<< 8)) = [a, b] := by
  have hlow : ((a.setWidth 16 ||| (b.setWidth 16 <<< 8)) : Word).setWidth 8 = a := by
    ext i hi
    simp
  have hhigh : (((a.setWidth 16 ||| (b.setWidth 16 <<< 8)) : Word) >>> 8).setWidth 8 = b := by
    ext i hi
    simp
    grind
  rw [leBytes, hlow, hhigh]

theorem leBytes_single (a : Byte) : leBytes (a.setWidth 16) = [a, 0] := by
  have hlow : ((a.setWidth 16) : Word).setWidth 8 = a := by
    ext i hi
    simp
  have hhigh : (((a.setWidth 16) : Word) >>> 8).setWidth 8 = 0 := by
    ext i hi
    simp
  rw [leBytes, hlow, hhigh]

theorem length_wordsOfBytes (bs : List Byte) : (wordsOfBytes bs).length = ceilDiv bs.length 2 := by
  induction bs using wordsOfBytes.induct with
  | case1 => rfl
  | case2 a => simp [wordsOfBytes, ceilDiv]
  | case3 a b rest ih =>
    simp only [wordsOfBytes, List.length_cons, ih, ceilDiv]
    omega

theorem take_bytesOfWords_wordsOfBytes (bs : List Byte) : (bytesOfWords (wordsOfBytes bs)).take bs.length = bs := by
  induction bs using wordsOfBytes.induct with
  | case1 => rfl
  | case2 a =>
    rw [wordsOfBytes, bytesOfWords, List.flatMap_cons, leBytes_single]
    rfl
  | case3 a b rest ih =>
    rw [wordsOfBytes, bytesOfWords, List.flatMap_cons, leBytes_pair, List.length_cons, List.length_cons]
    simpa [bytesOfWords] using ih

/-! ### The channel of a loop -/

theorem fskCh_modFsk_same {n : Nat} {s : State} (hn : n < s.fsk.length) (f : FskSt → FskSt) :
    (s.modFsk n f).fskCh n = f (s.fskCh n) :=
  (nth_modNth ({} : FskSt) s.fsk n n f).trans (if_pos ⟨rfl, hn⟩)

theorem length_fsk_modFsk (s : State) (n : Nat) (f : FskSt → FskSt) : (s.modFsk n f).fsk.length = s.fsk.length :=
  List.length_modify ..

/-! ### The words of FSKQ -/

theorem fskW_setFskW (k j : Nat) (w : Word) (s : State) : (setFskW k w s).fskW j = if k = j then w else s.fskW j :=
  readAt_writeAt ..

/-- The words that a frame reaching FSKQ may change beside the registers and the channels. -/
theorem setFskW_rest (k : Nat) (w : Word) (s : State) :
    setFskW k w s = { s with tab := { s.tab with fsk := (setFskW k w s).tab.fsk } } := rfl

/-- m words are written one after the other from a key on. -/
def setFskRun (key m : Nat) (v : Nat → Word) (s : State) : State :=
  (List.range m).foldl (fun t i => setFskW (key + i) (v i) t) s

theorem setFskRun_succ (key m : Nat) (v : Nat → Word) (s : State) :
    setFskRun key (m + 1) v s = setFskW (key + m) (v m) (setFskRun key m v s) := by
  rw [setFskRun, List.range_succ, List.foldl_append]
  rfl

theorem fskW_setFskRun (key m : Nat) (v : Nat → Word) (s : State) (j : Nat) :
    (setFskRun key m v s).fskW j = if key ≤ j ∧ j < key + m then v (j - key) else s.fskW j := by
  induction m with
  | zero => rw [if_neg (by omega)]; rfl
  | succ m ih =>
    rw [setFskRun_succ, fskW_setFskW, ih]
    by_cases hj : key + m = j
    · rw [if_pos hj, if_pos (by omega), ← hj, Nat.add_sub_cancel_left]
    · rw [if_neg hj]
      exact if_congr (by omega) rfl rfl

theorem setFskRun_rest (key m : Nat) (v : Nat → Word) (s : State) :
    setFskRun key m v s = { s with tab := { s.tab with fsk := (setFskRun key m v s).tab.fsk } } := by
  induction m with
  | zero => rfl
  | succ m ih =>
    rw [setFskRun_succ, ih]
    rfl

/-- Words that stand in FSKQ from a key on are read back as the bytes packed into them. -/
theorem fskBytes_of_words {t : State} {key : Nat} {bs : List Byte}
    (h : ∀ i < (wordsOfBytes bs).length, t.fskW (key + i) = ew (wordsOfBytes bs) i) : fskBytes t key bs.length = bs := by
  have hwords : (List.range (ceilDiv bs.length 2)).map (fun i => t.fskW (key + i)) = wordsOfBytes bs := by
    rw [← length_wordsOfBytes]
    refine List.ext_getElem (by simp) fun i hi hi' => ?_
    rw [List.getElem_map, List.getElem_range, h i hi', ew, nth, List.getD_eq_getElem?_getD, List.getElem?_eq_getElem hi']
    rfl
  rw [fskBytes, hwords, take_bytesOfWords_wordsOfBytes]

/-! ### Slots -/

theorem slotState_of_fsk {s t : State} (h : t.tab.fsk = s.tab.fsk) (n k : Nat) : t.slotState n k = s.slotState n k := by
  simp only [State.slotState, State.fskW, h]

/-- Slot k of loop n after a write of its word 0. -/
theorem slotState_setFskW (n k j : Nat) (w : Word) (s : State) :
    (setFskW (slotKey n k 0) w s).slotState n j = if k = j then getField w 13 3 else s.slotState n j := by
  rw [State.slotState, fskW_setFskW]
  by_cases h : k = j
  · rw [if_pos (by rw [h]), if_pos h]
  · rw [if_neg (by simp only [slotKey]; omega), if_neg h]
    rfl

theorem setSlot_shown (n k st : Nat) (s : State) (hst : st < 8) :
    (setSlot n k st s).slotState n k = st ∧ FieldsKept [.FSK_STAT_QCNT n] s (setSlot n k st s) ∧
      setSlot n k st s = { s with regs := (setSlot n k st s).regs,
                                  tab := { s.tab with fsk := (setSlot n k st s).tab.fsk } } := by
  refine ⟨?_, FieldsKept.setFld (.of_regs rfl) (by simp) (by simp), rfl⟩
  refine (slotState_of_fsk (t := setSlot n k st s) rfl n k).trans ((slotState_setFskW n k k _ s).trans ?_)
  rw [if_pos rfl]
  split
  next h => rw [h]; rfl
  next h => rw [getField_putField_same _ _ _ _ (by decide)]; exact Nat.mod_eq_of_lt hst

/-! ### Frames out -/

/-- The fields of FSK_STAT that the frames of a loop show. -/
def fskShown (n : Nat) : List Fld :=
  [.FSK_STAT_CERR n, .FSK_STAT_BUSYR n, .FSK_STAT_LATE n, .FSK_STAT_RXIRQ n, .FSK_STAT_QCNT n, .FSK_STAT_TXON n,
   .FSK_STAT_MNT n]

/-- The register fields that a frame carries in its address and status bytes (R461). -/
def frameInputs (n : Nat) : List Fld :=
  [.FLT_STAT_WCLASS, .FSK_CTRL_MDROP n, .LOOP_STAT_LOWV n, .VAL_STAT_SAT n, .FSK_STAT_BACT n]

theorem fskShown_apart_frameInputs {n : Nat} (hn : n < 6) :
    ∀ g ∈ frameInputs n, (fskShown n).all (fun f => f.apart g) = true := by
  revert n
  decide

theorem ackFrame_congr {s t : State} {n : Nat} (hfld : ∀ g ∈ frameInputs n, t.fld g = s.fld g) (htab : t.tab = s.tab)
    (hloops : t.loops = s.loops) (long master : Bool) (addr cmd code : Nat) (data : List Byte) :
    ackFrame t n long master addr cmd code data = ackFrame s n long master addr cmd code data := by
  have hflag : ∀ g ∈ frameInputs n, t.flag g = s.flag g := fun g hg => by rw [State.flag, hfld g hg]; rfl
  have hword : ∀ k, t.fskW k = s.fskW k := fun k => by rw [State.fskW, htab]; rfl
  have hloop : t.loop n = s.loop n := by rw [State.loop, hloops]; rfl
  have hstatus : statusByte t n = statusByte s n := by
    rw [statusByte, statusByte, hword, hloop, hfld .FLT_STAT_WCLASS (by simp [frameInputs]),
      hflag (.FSK_CTRL_MDROP n) (by simp [frameInputs]), hflag (.LOOP_STAT_LOWV n) (by simp [frameInputs]),
      hflag (.VAL_STAT_SAT n) (by simp [frameInputs])]
  have haddr : addrBytes t n long master addr = addrBytes s n long master addr := by
    rw [addrBytes, addrBytes, hflag (.FSK_STAT_BACT n) (by simp [frameInputs])]
  have hpre : preambles t n = preambles s n := by rw [preambles, preambles, hword]
  rw [ackFrame, ackFrame, frameOut, frameOut, hstatus, haddr, hpre]

/-- The frames of a loop show in fields that no frame carries. -/
theorem ackFrame_of_kept {s t : State} {n : Nat} (hn : n < 6) (hk : FieldsKept (fskShown n) s t) (htab : t.tab = s.tab)
    (hloops : t.loops = s.loops) (long master : Bool) (addr cmd code : Nat) (data : List Byte) :
    ackFrame t n long master addr cmd code data = ackFrame s n long master addr cmd code data :=
  ackFrame_congr (fun g hg => hk.fld (fskShown_apart_frameInputs hn g hg)) htab hloops ..

theorem sendFsk_shown (n : Nat) (bytes : List Byte) (slot : Option Nat) (s : State) :
    (sendFsk n bytes slot s).flag (.FSK_STAT_TXON n) = true ∧ FieldsKept [.FSK_STAT_TXON n] s (sendFsk n bytes slot s) ∧
      sendFsk n bytes slot s = { s with regs := (sendFsk n bytes slot s).regs, fsk := (sendFsk n bytes slot s).fsk } :=
  ⟨flag_setFlag_same _ _ _ (by simp) rfl, FieldsKept.setFlag (.of_regs rfl) (by simp) (by simp), rfl⟩

theorem tx_sendFsk {n : Nat} {s : State} (hn : n < s.fsk.length) (bytes : List Byte) (slot : Option Nat) :
    ((sendFsk n bytes slot s).fskCh n).tx = (s.fskCh n).tx ++ [⟨bytes, slot⟩] :=
  congrArg FskSt.tx (fskCh_modFsk_same hn _)

/-- A loop shows a flag of its own and puts an answer behind the frames going out. -/
theorem sendFsk_after_flag {n : Nat} {f : Fld} {s : State} (hn : n < s.fsk.length) (hf : f.lo + f.width ≤ 16)
    (hw : f.width = 1) (hapart : (Fld.FSK_STAT_TXON n).apart f = true) (bytes : List Byte) :
    ((sendFsk n bytes none (s.setFlag f true)).fskCh n).tx = (s.fskCh n).tx ++ [⟨bytes, none⟩] ∧
      (sendFsk n bytes none (s.setFlag f true)).flag f = true ∧
      (sendFsk n bytes none (s.setFlag f true)).flag (.FSK_STAT_TXON n) = true ∧
      FieldsKept [f, .FSK_STAT_TXON n] s (sendFsk n bytes none (s.setFlag f true)) ∧
      sendFsk n bytes none (s.setFlag f true) = { s with regs := (sendFsk n bytes none (s.setFlag f true)).regs,
                                                         fsk := (sendFsk n bytes none (s.setFlag f true)).fsk } := by
  obtain ⟨hon, hkept, -⟩ := sendFsk_shown n bytes none (s.setFlag f true)
  refine ⟨tx_sendFsk (s := s.setFlag f true) hn bytes none, ?_, hon, ?_, rfl⟩
  · rw [hkept.flag (by simpa using hapart)]
    exact flag_setFlag_same _ _ _ hf hw
  · exact (FieldsKept.setFlag (.refl _ s) (by simp) (by omega)).trans (hkept.mono (by simp))

end Sys2Proof.Machine
end

section
/-! A proof about the FSK frames that a loop hears (R455 to R462). -/

namespace Sys2Proof.Machine

/-! ### What a frame heard does -/

section
variable {n : Nat} {f : FskFrame} {s : State}

theorem fskReceive_of_heard (hon : s.modemOn n = true) (htx : s.flag (.FSK_STAT_TXON n) = false) (hpre : 2 ≤ f.preambles)
    (hdelim : f.delim = 0x02 ∨ f.delim = 0x82) : fskReceive n f s =
      if f.addrErr then s.setFlag (.FSK_STAT_CERR n) true
      else if !s.fskMine n f then s
      else if fskErrors f != 0 then fskAnswer n f (0x80 + fskErrors f) [] (s.setFlag (.FSK_STAT_CERR n) true)
      else fskTake n f s := by
  rw [fskReceive, if_neg]
  obtain h | h := hdelim <;> simp [hon, htx, h] <;> omega

/-- A frame that the receiver does not take, or that is for another loop, leaves nothing. -/
theorem fskReceive_of_unheard (h : s.modemOn n = false ∨ s.flag (.FSK_STAT_TXON n) = true ∨ f.preambles < 2 ∨
    (f.delim ≠ 0x02 ∧ f.delim ≠ 0x82) ∨ (f.addrErr = false ∧ s.fskMine n f = false)) : fskReceive n f s = s := by
  rw [fskReceive]
  split
  · rfl
  · rename_i hheard
    simp only [Bool.or_eq_true, Bool.not_eq_true', decide_eq_true_eq, not_or, Bool.not_eq_true, not_lt] at hheard
    obtain ⟨⟨⟨hon, htx⟩, hpre⟩, hdelim⟩ := hheard
    obtain h | h | h | ⟨h1, h2⟩ | ⟨herr, hmine⟩ := h
    · simp [h] at hon
    · simp [h] at htx
    · omega
    · simp [h1, h2] at hdelim
    · simp [herr, hmine]

theorem fskTake_of_message (h : s.flag (.FSK_CTRL_MNTEN n) = false ∨ (f.cmd ≠ 248 ∧ f.cmd ≠ 249)) :
    fskTake n f s = queueMessage n f s := by
  rw [fskTake, if_neg]
  obtain h | ⟨h1, h2⟩ := h
  · simp [h]
  · simp [h1, h2]

/-- A good frame for the loop that is no maintenance command goes to the message queue. -/
theorem fskReceive_of_message (hon : s.modemOn n = true) (htx : s.flag (.FSK_STAT_TXON n) = false)
    (hpre : 2 ≤ f.preambles) (hdelim : f.delim = 0x02 ∨ f.delim = 0x82) (haddr : f.addrErr = false)
    (hmine : s.fskMine n f = true) (hgood : fskErrors f = 0)
    (hmnt : s.flag (.FSK_CTRL_MNTEN n) = false ∨ (f.cmd ≠ 248 ∧ f.cmd ≠ 249)) :
    fskReceive n f s = queueMessage n f s := by
  rw [fskReceive_of_heard hon htx hpre hdelim]
  simp [haddr, hmine, hgood, fskTake_of_message hmnt]

theorem queueMessage_of_free {k : Nat} (hq : s.flag (.FSK_CTRL_QEN n) = true)
    (hk : (List.range 4).find? (fun k => s.slotState n k == slotFree) = some k) :
    queueMessage n f s = storeMessage n k f s := by
  rw [queueMessage, if_pos hq, hk]

theorem queueMessage_of_full (h : s.flag (.FSK_CTRL_QEN n) = false ∨
    (List.range 4).all (fun k => s.slotState n k != slotFree) = true) :
    queueMessage n f s = fskAnswer n f 32 [] (s.setFlag (.FSK_STAT_BUSYR n) true) := by
  have hnone : (if s.flag (.FSK_CTRL_QEN n) then (List.range 4).find? (fun k => s.slotState n k == slotFree) else none) =
      none := by
    obtain h | h := h
    · rw [if_neg (by simp [h])]
    · split
      · rw [List.find?_eq_none]
        intro k hk
        have hused := List.all_eq_true.mp h k hk
        simpa using hused
      · rfl
  rw [queueMessage, hnone]

end

/-- An answer that shows a flag of FSK_STAT carries what the frame's loop held before. -/
theorem fskAnswer_shown {n : Nat} {s : State} {g : Fld} (hn : n < 6) (hlen : n < s.fsk.length) (hg : g ∈ fskShown n)
    (hw : g.width = 1) (hlo : g.lo < 14) (f : FskFrame) (code : Nat) (data : List Byte) :
    let t := fskAnswer n f code data (s.setFlag g true)
    (t.fskCh n).tx = (s.fskCh n).tx ++ [⟨ackFrame s n (fskLong f) f.master f.addr f.cmd code data, none⟩] ∧
      t.flag g = true ∧ t.flag (.FSK_STAT_TXON n) = true ∧ FieldsKept [g, .FSK_STAT_TXON n] s t ∧
      t = { s with regs := t.regs, fsk := t.fsk } := by
  have hframe : ackFrame (s.setFlag g true) n (fskLong f) f.master f.addr f.cmd code data =
      ackFrame s n (fskLong f) f.master f.addr f.cmd code data :=
    ackFrame_of_kept hn (FieldsKept.setFlag (.refl _ s) hg (by omega)) rfl rfl ..
  rw [fskAnswer, hframe]
  exact sendFsk_after_flag hlen (by omega) hw (apart_of_bits (.inl (by simp; omega))) _

/-! ### A message is stored (R462, R470) -/

/-- Word 0 of the slot of a received frame. -/
def slotHead (f : FskFrame) : Nat :=
  8192 * slotReceived + (if f.master then 4096 else 0) + (if fskLong f then 2048 else 0) + (if fskBroadcast f then 1024 else 0)

/-- The words of slot k with a frame stored there. -/
def storedWords (n k : Nat) (f : FskFrame) (s : State) : State :=
  setFskRun (slotKey n k 4) (wordsOfBytes f.data).length (ew (wordsOfBytes f.data))
    (setFskW (slotKey n k 1) (word (256 * f.cmd + f.data.length)) (setFskW (slotKey n k 0) (word (slotHead f))
      (setFskRun (slotKey n k 0) 64 (fun _ => 0) s)))

theorem storeMessage_eq (n k : Nat) (f : FskFrame) (s : State) : storeMessage n k f s =
    showQueue n (((storedWords n k f s).modFsk n
      (fun c => { c with arrived := c.arrived.filter (fun a => a.1 != k) ++ [(k, (storedWords n k f s).now)] })).setFlag
        (.FSK_STAT_RXIRQ n) true) := by
  have hkey : ∀ i, slotKey n k (4 + i) = slotKey n k 4 + i := fun i => by simp only [slotKey]; omega
  simp only [storeMessage, hkey]
  rfl

theorem getField_slotHead (f : FskFrame) : getField (word (slotHead f)) 13 3 = slotReceived := by
  rw [slotHead]
  cases f.master <;> cases fskLong f <;> cases fskBroadcast f <;> rfl

theorem storedWords_rest (n k : Nat) (f : FskFrame) (s : State) :
    ∃ m, storedWords n k f s = { s with tab := { s.tab with fsk := m } } := by
  refine ⟨(storedWords n k f s).tab.fsk, ?_⟩
  rw [storedWords, setFskRun_rest, setFskRun_rest (slotKey n k 0)]
  rfl

/-- The slot holds the frame, and the other slots hold what they held. -/
theorem storedWords_holds {n k : Nat} {f : FskFrame} (s : State) (hlen : f.data.length ≤ 56) :
    (storedWords n k f s).slotState n k = slotReceived ∧
      (storedWords n k f s).fskW (slotKey n k 1) = word (256 * f.cmd + f.data.length) ∧
      fskBytes (storedWords n k f s) (slotKey n k 4) f.data.length = f.data ∧
      ∀ j, j < 4 → j ≠ k → (storedWords n k f s).slotState n j = s.slotState n j := by
  have hwords : (wordsOfBytes f.data).length ≤ 28 := by rw [length_wordsOfBytes, ceilDiv]; omega
  have hread : ∀ j, (storedWords n k f s).fskW j =
      if slotKey n k 4 ≤ j ∧ j < slotKey n k 4 + (wordsOfBytes f.data).length then ew (wordsOfBytes f.data) (j - slotKey n k 4)
      else if slotKey n k 1 = j then word (256 * f.cmd + f.data.length)
      else if slotKey n k 0 = j then word (slotHead f)
      else if slotKey n k 0 ≤ j ∧ j < slotKey n k 0 + 64 then 0 else s.fskW j := fun j => by
    rw [storedWords, fskW_setFskRun, fskW_setFskW, fskW_setFskW, fskW_setFskRun]
  refine ⟨?_, ?_, fskBytes_of_words fun i hi => ?_, fun j hj hne => ?_⟩
  · rw [State.slotState, hread, if_neg (by simp only [slotKey]; omega), if_neg (by simp only [slotKey]; omega), if_pos rfl,
      getField_slotHead]
  · rw [hread, if_neg (by simp only [slotKey]; omega), if_pos rfl]
  · rw [hread, if_pos (by omega), Nat.add_sub_cancel_left]
  · rw [State.slotState, hread, if_neg (by simp only [slotKey]; omega), if_neg (by simp only [slotKey]; omega),
      if_neg (by simp only [slotKey]; omega), if_neg (by simp only [slotKey]; omega)]
    rfl

theorem showQueue_rest (n : Nat) (s : State) : showQueue n s = { s with regs := (showQueue n s).regs } := rfl

/-- A slot's words, its arrival and what the queue shows are all that a stored message changes. -/
theorem showQueue_modFsk_rest (n : Nat) (g : FskSt → FskSt) (f : Fld) (s : State) (m : List (Nat × Word)) :
    ∃ rs fs, showQueue n ((State.modFsk { s with tab := { s.tab with fsk := m } } n g).setFlag f true) =
      { s with regs := rs, fsk := fs, tab := { s.tab with fsk := m } } :=
  ⟨_, _, showQueue_rest n _⟩

theorem length_of_no_errors {f : FskFrame} (h : fskErrors f = 0) : f.data.length ≤ 56 := by
  rw [fskErrors] at h
  by_contra hlong
  rw [if_pos (show 56 < f.data.length by omega)] at h
  omega

theorem storeMessage_shown {n k : Nat} {f : FskFrame} (s : State) (hlen : f.data.length ≤ 56) :
    (storeMessage n k f s).slotState n k = slotReceived ∧
      (storeMessage n k f s).fskW (slotKey n k 1) = word (256 * f.cmd + f.data.length) ∧
      fskBytes (storeMessage n k f s) (slotKey n k 4) f.data.length = f.data ∧
      (storeMessage n k f s).flag (.FSK_STAT_RXIRQ n) = true ∧
      (∀ j, j < 4 → j ≠ k → (storeMessage n k f s).slotState n j = s.slotState n j) ∧
      FieldsKept [.FSK_STAT_QCNT n, .FSK_STAT_RXIRQ n] s (storeMessage n k f s) ∧
      storeMessage n k f s = { s with regs := (storeMessage n k f s).regs, fsk := (storeMessage n k f s).fsk,
                                      tab := { s.tab with fsk := (storeMessage n k f s).tab.fsk } } := by
  obtain ⟨hstate, hword, hbytes, hothers⟩ := storedWords_holds (n := n) (k := k) s hlen
  obtain ⟨m, hrest⟩ := storedWords_rest n k f s
  rw [storeMessage_eq]
  rw [hrest] at hstate hword hbytes hothers ⊢
  refine ⟨hstate, hword, hbytes, ?_, hothers, ?_, ?_⟩
  · rw [showQueue, flag_setFld_other _ _ _ _ (by simp) (apart_of_bits (by simp))]
    exact flag_setFlag_same _ _ _ (by simp) rfl
  · exact FieldsKept.setFld (FieldsKept.setFlag (.of_regs rfl) (by simp) (by simp)) (by simp) (by simp)
  · obtain ⟨rs, fs, heq⟩ := showQueue_modFsk_rest n
      (fun c => { c with arrived := c.arrived.filter (fun a => a.1 != k) ++ [(k, s.now)] }) (.FSK_STAT_RXIRQ n) s m
    exact heq ▸ rfl

/-! ### The obligation -/

/-- Settles O39: a frame that is heard shows its errors, is stored, or is answered. -/
theorem fskFramesAreReceived : Obligations.FskFramesAreReceived := by
  have hexec : ∀ {n : Nat} {f : FskFrame} {s : State}, (Instr.fskFrameReceive n f).wellFormed = true →
      n < 6 ∧ exec (.fskFrameReceive n f) s = .next (fskReceive n f s) := fun {n f s} hwf => by
    have hok : (decide (n < 6) && okFsk f) = true := hwf
    exact ⟨(by simpa using hok : n < 6 ∧ okFsk f = true).1, answerIf_next.mpr ⟨hok, rfl⟩⟩
  refine ⟨?_, ?_, ?_, ?_, ?_, ?_, ?_⟩
  · intro n k f s hwf hon htx hpre hdelim haddr hmine hgood hmnt hq hk
    exact runs_of_eq (hexec hwf).2 ((fskReceive_of_message hon htx hpre hdelim haddr hmine hgood hmnt).trans
      (queueMessage_of_free hq hk)) (storeMessage_shown s (length_of_no_errors hgood))
  · intro n f s hwf hlen hon htx hpre hdelim haddr hmine hgood hmnt hfull
    exact runs_of_eq (hexec hwf).2 ((fskReceive_of_message hon htx hpre hdelim haddr hmine hgood hmnt).trans
      (queueMessage_of_full hfull)) (fskAnswer_shown (hexec (s := s) hwf).1 hlen (by simp [fskShown]) rfl (by simp) ..)
  · intro n f s hwf hlen hon htx hpre hdelim haddr hmine hbad
    refine runs_of_eq (hexec hwf).2 ((fskReceive_of_heard hon htx hpre hdelim).trans ?_)
      (fskAnswer_shown (hexec (s := s) hwf).1 hlen (by simp [fskShown]) rfl (by simp) ..)
    simp [haddr, hmine, hbad]
  · intro n f s hwf hon htx hpre hdelim haddr
    exact runs_of_eq (hexec hwf).2 ((fskReceive_of_heard hon htx hpre hdelim).trans (if_pos haddr))
      ⟨flag_setFlag_same _ _ _ (by simp) rfl, .setFlag (.refl _ s) (by simp) (by simp), rfl⟩
  · intro n f s hwf hdeaf
    exact runs_of_eq (hexec hwf).2 (fskReceive_of_unheard hdeaf) rfl
  · intro n s hn
    exact runs_of_eq (answerIf_next.mpr ⟨by simp [hn], rfl⟩) rfl rfl
  · intro n on s hn
    refine runs_of_eq (answerIf_next.mpr ⟨by simp [hn], rfl⟩) rfl ⟨?_, .setFlag (.refl _ s) (by simp) (by simp), rfl⟩
    exact flag_setFlag_same _ _ _ (by simp) rfl

end Sys2Proof.Machine
end

section
/-! A proof about the answers of FSK messages and about bursts (R461, R463 to R466). -/

namespace Sys2Proof.Machine

/-! ### A table word written over a path -/

/-- A path's write of a table word that passes the gates, with what it does to the table. -/
theorem tableWrite_of_admits {p : Path} {sp cur ofs st : Nat} {v : Word} {s u : State} (h : AdmitsTable p sp s)
    (heffect : spaceWrite p sp cur ofs v (dropKey p s) = (st, u)) :
    tableWrite p sp cur ofs v s = answerTo p st v (if st = 0 then u.modPath p (fun x => { x with readShadow := [] }) else u) := by
  obtain ⟨hserved, hwrite, hfatal, hinj⟩ := h
  have hdis : disarmBy p (Reg.WIN_DATA 0) (dropKey p s) = dropKey p s :=
    disarmBy_of_ne (s := dropKey p s) hinj _
  have hserved' : (dropKey p s).served = true := hserved
  have hwrite' : (dropKey p s).mayWrite p (spaceBlock sp) = true := hwrite
  have hfatal' : (dropKey p s).isFatal = false := hfatal
  simp only [tableWrite, hserved, if_true, hdis, hserved', hwrite', hfatal', Bool.not_true, Bool.false_eq_true, Bool.or_self,
    if_false, heffect]
  rfl

/-- A command that writes a table word, let through and executed. -/
theorem runs_tableWrite {c : Instr} {p : Path} {sp cur ofs : Nat} {v : Word} {s u : State} {P : State → Prop}
    (h : AdmitsTable p sp s) (hexec : exec c s = .next (tableWrite p sp cur ofs v s))
    (heffect : spaceWrite p sp cur ofs v (dropKey p s) = (0, u))
    (hP : ∀ ps host, P { u with paths := ps, host := host }) : Runs c s P := by
  refine runs_of_eq hexec (tableWrite_of_admits h heffect) ?_
  rw [if_pos rfl, answerTo_rest]
  exact hP _ _

/-- A command that writes a table word, let through and denied by the table. -/
theorem runs_tableDenied {c : Instr} {p : Path} {sp cur ofs : Nat} {v : Word} {s u : State} {P : State → Prop}
    (h : AdmitsTable p sp s) (hexec : exec c s = .next (tableWrite p sp cur ofs v s))
    (heffect : spaceWrite p sp cur ofs v (dropKey p s) = (stDeny, u))
    (hP : ∀ host, (p = .host → host.answer.status = stDeny) → P { u with host := host }) : Runs c s P := by
  refine runs_of_eq hexec (tableWrite_of_admits h heffect) ?_
  rw [if_neg (by decide), answerTo_rest]
  exact hP _ fun hp => by rw [answerTo_host_of_host hp]

theorem spaceWrite_slot {p : Path} {n k : Nat} {v : Word} {s : State} (hk : k < 4) :
    spaceWrite p spFskq (32 * n + 4 * k) 0 v s = slotWrite n k v s := by
  have hcur : (32 * n + 4 * k) % 32 = 4 * k := by omega
  have hstaged : spaceStaged spFskq (32 * n + 4 * k) = false := by
    rw [spaceStaged, hcur]
    clear hcur
    revert k
    decide
  have hslot : fskqWrite ((32 * n + 4 * k) / 32) ((32 * n + 4 * k) % 32 * 16 + 0) v s = slotWrite n k v s := by
    rw [show (32 * n + 4 * k) / 32 = n by omega, show (32 * n + 4 * k) % 32 * 16 + 0 = 64 * k by omega, fskqWrite,
      if_pos (by simp; omega), Nat.mul_div_cancel_left _ (by decide)]
  rw [spaceWrite, if_neg (by simp [spFskq, spResult, spLog, spCapture, spProt, spNvj, spValprog]),
    if_neg (by simp [hstaged]), if_neg (by simp [spFskq, spCoef, spChar])]
  exact hslot

/-! ### A slot is freed and answered -/

/-- Nothing but registers, channels and the words of FSKQ differs. -/
def OnlyFsk (s t : State) : Prop :=
  ∃ rs fs m, t = { s with regs := rs, fsk := fs, tab := { s.tab with fsk := m } }

theorem OnlyFsk.trans {s t u : State} (h : OnlyFsk s t) (k : OnlyFsk t u) : OnlyFsk s u := by
  obtain ⟨rs, fs, m, rfl⟩ := h
  obtain ⟨rs', fs', m', rfl⟩ := k
  exact ⟨rs', fs', m', rfl⟩

theorem OnlyFsk.eq {s t : State} (h : OnlyFsk s t) :
    t = { s with regs := t.regs, fsk := t.fsk, tab := { s.tab with fsk := t.tab.fsk } } := by
  obtain ⟨rs, fs, m, rfl⟩ := h
  rfl

theorem onlyFsk_setFlag (f : Fld) (b : Bool) (s : State) : OnlyFsk s (s.setFlag f b) := ⟨_, _, _, rfl⟩

theorem onlyFsk_modFsk (n : Nat) (g : FskSt → FskSt) (s : State) : OnlyFsk s (s.modFsk n g) := ⟨_, _, _, rfl⟩

theorem onlyFsk_sendFsk (n : Nat) (bytes : List Byte) (slot : Option Nat) (s : State) : OnlyFsk s (sendFsk n bytes slot s) :=
  (onlyFsk_modFsk n _ s).trans (onlyFsk_setFlag _ _ _)

theorem tx_setSlot (n k st m : Nat) (s : State) : ((setSlot n k st s).fskCh m).tx = (s.fskCh m).tx := rfl

theorem slotState_setFlag (f : Fld) (b : Bool) (n k : Nat) (s : State) :
    (s.setFlag f b).slotState n k = s.slotState n k := rfl

theorem tx_setFlag (f : Fld) (b : Bool) (m : Nat) (s : State) : ((s.setFlag f b).fskCh m).tx = (s.fskCh m).tx := rfl

theorem onlyFsk_setSlot (n k st : Nat) (s : State) : OnlyFsk s (setSlot n k st s) := ⟨_, _, _, rfl⟩

/-- A slot is free again, and its message's time is forgotten. -/
def freeSlot (n k : Nat) (s : State) : State :=
  setSlot n k slotFree (s.modFsk n (fun c => { c with arrived := c.arrived.filter (fun a => a.1 != k) }))

theorem tx_modArrived (n m : Nat) (g : List (Nat × Nat) → List (Nat × Nat)) (s : State) :
    ((s.modFsk n (fun c => { c with arrived := g c.arrived })).fskCh m).tx = (s.fskCh m).tx := by
  rw [State.fskCh, modFsk_fsk, nth_modNth]
  split <;> rfl

theorem freeSlot_shown (n k : Nat) (s : State) : (freeSlot n k s).slotState n k = slotFree ∧
    ((freeSlot n k s).fskCh n).tx = (s.fskCh n).tx ∧ FieldsKept [.FSK_STAT_QCNT n] s (freeSlot n k s) ∧
    OnlyFsk s (freeSlot n k s) := by
  obtain ⟨hstate, hkept, -⟩ := setSlot_shown n k slotFree
    (s.modFsk n (fun c => { c with arrived := c.arrived.filter (fun a => a.1 != k) })) (by decide)
  exact ⟨hstate, tx_modArrived n n (fun l => l.filter (fun a => a.1 != k)) s, hkept,
    (onlyFsk_modFsk n _ s).trans (onlyFsk_setSlot n k slotFree _)⟩

/-- The answer that a slot's request gets (R461). -/
def slotFrame (s : State) (n k code : Nat) (data : List Byte) : List Byte :=
  ackFrame s n ((s.fskW (slotKey n k 0)).getLsbD 11) ((s.fskW (slotKey n k 0)).getLsbD 12) (slotAddr s n k)
    (getField (s.fskW (slotKey n k 1)) 8 8) code data

theorem answerSlot_eq (n k code : Nat) (data : List Byte) (slot : Option Nat) (s : State) :
    answerSlot n k code data slot s = sendFsk n (slotFrame s n k code data) slot s := rfl

/-- The frame of the response that stands in a slot. -/
def postedFrame (s : State) (n k : Nat) : List Byte :=
  slotFrame s n k (getField (s.fskW (slotKey n k 32)) 0 8)
    (fskBytes s (slotKey n k 36) (min 56 (getField (s.fskW (slotKey n k 33)) 0 8)))

/-- The response of a slot goes out, and the slot waits for its end. -/
def postSlot (n k : Nat) (s : State) : State := setSlot n k slotPosted (sendFsk n (postedFrame s n k) (some k) s)

theorem slotWrite_post {n k : Nat} {s : State} (h : s.slotState n k = slotReceived) :
    slotWrite n k 0x4000 s = (0, postSlot n k s) := by
  simp only [slotWrite, h]
  rfl

theorem slotWrite_drop {n k : Nat} {s : State} (h : s.slotState n k = slotReceived) :
    slotWrite n k 0x0000 s = (0, freeSlot n k s) := by
  simp only [slotWrite, h]
  rfl

theorem slotWrite_denied {n k : Nat} {s : State} (h : s.slotState n k ≠ slotReceived) (v : Word) :
    slotWrite n k v s = (stDeny, s) := by
  simp [slotWrite, h]

theorem postSlot_shown {n k : Nat} {s : State} (hlen : n < s.fsk.length) :
    (postSlot n k s).slotState n k = slotPosted ∧ (postSlot n k s).flag (.FSK_STAT_TXON n) = true ∧
      ((postSlot n k s).fskCh n).tx = (s.fskCh n).tx ++ [⟨postedFrame s n k, some k⟩] ∧
      FieldsKept [.FSK_STAT_TXON n, .FSK_STAT_QCNT n] s (postSlot n k s) ∧ OnlyFsk s (postSlot n k s) := by
  obtain ⟨hon, hsent, -⟩ := sendFsk_shown n (postedFrame s n k) (some k) s
  have htx := tx_sendFsk hlen (postedFrame s n k) (some k)
  obtain ⟨hstate, hkept, -⟩ := setSlot_shown n k slotPosted (sendFsk n (postedFrame s n k) (some k) s) (by decide)
  rw [postSlot]
  refine ⟨hstate, ?_, (tx_setSlot ..).trans htx, (hsent.mono (by simp)).trans (hkept.mono (by simp)),
    (onlyFsk_sendFsk n _ _ s).trans (onlyFsk_setSlot n k slotPosted _)⟩
  rw [hkept.flag (by simpa using apart_of_bits (.inr (by simp)))]
  exact hon

/-! ### A message expires (R464) -/

/-- The message of a slot is answered Busy, and its slot is free. -/
def expireSlot (n k : Nat) (s : State) : State :=
  (freeSlot n k (sendFsk n (slotFrame s n k 32 []) none s)).setFlag (.FSK_STAT_LATE n) true

theorem messageExpire_of_received {n k : Nat} {s : State} (h : s.slotState n k = slotReceived) :
    messageExpire n k s = expireSlot n k s := by
  rw [messageExpire, if_pos h]
  rfl

theorem messageExpire_of_other {n k : Nat} {s : State} (h : s.slotState n k ≠ slotReceived) : messageExpire n k s = s := by
  rw [messageExpire, if_neg h]

theorem expireSlot_shown {n k : Nat} {s : State} (hlen : n < s.fsk.length) :
    (expireSlot n k s).slotState n k = slotFree ∧ (expireSlot n k s).flag (.FSK_STAT_LATE n) = true ∧
      (expireSlot n k s).flag (.FSK_STAT_TXON n) = true ∧
      ((expireSlot n k s).fskCh n).tx = (s.fskCh n).tx ++ [⟨slotFrame s n k 32 [], none⟩] ∧
      FieldsKept [.FSK_STAT_TXON n, .FSK_STAT_QCNT n, .FSK_STAT_LATE n] s (expireSlot n k s) ∧
      OnlyFsk s (expireSlot n k s) := by
  obtain ⟨hon, hsent, -⟩ := sendFsk_shown n (slotFrame s n k 32 []) none s
  have htx := tx_sendFsk hlen (slotFrame s n k 32 []) none
  obtain ⟨hstate, hsame, hkept, hrest⟩ := freeSlot_shown n k (sendFsk n (slotFrame s n k 32 []) none s)
  rw [expireSlot]
  refine ⟨(slotState_setFlag ..).trans hstate,
    flag_setFlag_same _ _ _ (by simp) rfl, ?_, (tx_setFlag ..).trans (hsame.trans htx),
    ((hsent.mono (by simp)).trans (hkept.mono (by simp))).setFlag (by simp) (by simp),
    ((onlyFsk_sendFsk n _ _ s).trans hrest).trans (onlyFsk_setFlag _ _ _)⟩
  rw [flag_setFlag_other _ _ _ _ (by simp) (apart_of_bits (by simp)),
    hkept.flag (by simpa using apart_of_bits (.inr (by simp)))]
  exact hon

/-! ### A frame has gone out (R463) -/

/-- The frame in progress has ended. -/
def frameGone (n : Nat) (rest : List FskTx) (s : State) : State :=
  (s.modFsk n (fun c => { c with tx := rest })).setFlag (.FSK_STAT_TXON n) (!rest.isEmpty)

theorem responseSent_of_slot {n k : Nat} {f : FskTx} {rest : List FskTx} {s : State} (h : (s.fskCh n).tx = f :: rest)
    (hslot : f.slot = some k) : responseSent n s = freeSlot n k (frameGone n rest s) := by
  rw [responseSent, h]
  dsimp only
  rw [hslot]
  rfl

theorem responseSent_of_none {n : Nat} {s : State} (h : (s.fskCh n).tx = []) : responseSent n s = s := by
  rw [responseSent, h]

theorem sent_shown {n k : Nat} {rest : List FskTx} {s : State} (hlen : n < s.fsk.length) :
    ((freeSlot n k (frameGone n rest s)).fskCh n).tx = rest ∧
      (freeSlot n k (frameGone n rest s)).flag (.FSK_STAT_TXON n) = !rest.isEmpty ∧
      (freeSlot n k (frameGone n rest s)).slotState n k = slotFree ∧
      FieldsKept [.FSK_STAT_TXON n, .FSK_STAT_QCNT n] s (freeSlot n k (frameGone n rest s)) ∧
      OnlyFsk s (freeSlot n k (frameGone n rest s)) := by
  obtain ⟨hstate, hsame, hkept, hrest⟩ := freeSlot_shown n k (frameGone n rest s)
  have hgone : FieldsKept [.FSK_STAT_TXON n] s (frameGone n rest s) :=
    FieldsKept.setFlag (.of_regs rfl) (by simp) (by simp)
  refine ⟨hsame.trans (congrArg FskSt.tx (fskCh_modFsk_same hlen _)), ?_, hstate,
    (hgone.mono (by simp)).trans (hkept.mono (by simp)),
    ((onlyFsk_modFsk n _ s).trans (onlyFsk_setFlag _ _ _)).trans hrest⟩
  rw [hkept.flag (by simpa using apart_of_bits (.inr (by simp)))]
  exact flag_setFlag_same _ _ _ (by simp) rfl

/-! ### A burst frame is sent (R465) -/

/-- The frame of burst entry b. -/
def burstFrame (s : State) (n b : Nat) : List Byte :=
  frameOut s n 0x81 (addrBytes s n true (s.fskCh n).burstMaster (s.longAddr n)) (getField (s.fskW (burstKey n b 0)) 0 8) 0
    (burstPayload s n b)

theorem burstSend_of_enabled {n b : Nat} {s : State} (hon : s.modemOn n = true) (hburst : s.flag (.FSK_CTRL_BURST n) = true)
    (hent : (s.fskW (burstKey n b 0)).getLsbD 15 = true) (hfatal : s.isFatal = false) : burstSend n b s =
      sendFsk n (burstFrame s n b) none (s.modFsk n (fun c => { c with burstMaster := !(s.fskCh n).burstMaster })) := by
  rw [burstSend, if_pos (by simp [hon, hburst, hent, hfatal])]
  rfl

theorem burstSend_of_disabled {n b : Nat} {s : State} (h : s.modemOn n = false ∨ s.flag (.FSK_CTRL_BURST n) = false ∨
    (s.fskW (burstKey n b 0)).getLsbD 15 = false ∨ s.isFatal = true) : burstSend n b s = s := by
  rw [burstSend, if_neg]
  simp only [Bool.and_eq_true, Bool.not_eq_true']
  rintro ⟨⟨⟨hon, hburst⟩, hent⟩, hfatal⟩
  rw [hon, hburst, hent, hfatal] at h
  simp at h

theorem burst_shown {n : Nat} {s : State} (hlen : n < s.fsk.length) (m : Bool) (bytes : List Byte) :
    let t := sendFsk n bytes none (s.modFsk n (fun c => { c with burstMaster := m }))
    (t.fskCh n).tx = (s.fskCh n).tx ++ [⟨bytes, none⟩] ∧ (t.fskCh n).burstMaster = m ∧
      t.flag (.FSK_STAT_TXON n) = true ∧ FieldsKept [.FSK_STAT_TXON n] s t ∧ t = { s with regs := t.regs, fsk := t.fsk } := by
  have hmod := fskCh_modFsk_same hlen (fun c => { c with burstMaster := m })
  have hlen' : n < (s.modFsk n (fun c => { c with burstMaster := m })).fsk.length := by rwa [length_fsk_modFsk]
  obtain ⟨hon, hsent, -⟩ := sendFsk_shown n bytes none (s.modFsk n (fun c => { c with burstMaster := m }))
  refine ⟨?_, ?_, hon, hsent, rfl⟩
  · rw [tx_sendFsk hlen', hmod]
  · exact (congrArg FskSt.burstMaster (fskCh_modFsk_same hlen' _)).trans (by rw [hmod])

/-! ### The obligation -/

theorem exec_messagePost {p : Path} {n k : Nat} {s : State} (hp : isPath p = true) (hn : n < 6) (hk : k < 4) :
    exec (.messagePost p n k) s = .next (tableWrite p spFskq (32 * n + 4 * k) 0 0x4000 s) :=
  answerIf_next.mpr ⟨by simp [okPath_eq_isPath, hp, hn, hk], rfl⟩

theorem exec_messageDrop {p : Path} {n k : Nat} {s : State} (hp : isPath p = true) (hn : n < 6) (hk : k < 4) :
    exec (.messageDrop p n k) s = .next (tableWrite p spFskq (32 * n + 4 * k) 0 0x0000 s) :=
  answerIf_next.mpr ⟨by simp [okPath_eq_isPath, hp, hn, hk], rfl⟩

/-- Settles O40: the slots of the message queue are answered and freed, and bursts are sent. -/
theorem fskMessagesAreAnswered : Obligations.FskMessagesAreAnswered := by
  refine ⟨?post, ?drop, ?denied, ?sent, ?idle, ?expire, ?early, ?burst, ?off⟩
  case post =>
    intro p n k s hp hn hlen hk hadm hst
    refine runs_tableWrite hadm (exec_messagePost hp hn hk)
      ((spaceWrite_slot hk).trans (slotWrite_post (s := dropKey p s) hst)) fun ps host => ?_
    obtain ⟨hstate, hon, htx, hkept, hrest⟩ := postSlot_shown (n := n) (k := k) (s := dropKey p s) hlen
    refine ⟨hstate, hon, htx, hkept, ?_⟩
    obtain ⟨rs, fs, m, heq⟩ := hrest
    exact heq ▸ rfl
  case drop =>
    intro p n k s hp hn hk hadm hst
    refine runs_tableWrite hadm (exec_messageDrop hp hn hk)
      ((spaceWrite_slot hk).trans (slotWrite_drop (s := dropKey p s) hst)) fun ps host => ?_
    obtain ⟨hstate, -, hkept, hrest⟩ := freeSlot_shown n k (dropKey p s)
    refine ⟨hstate, hkept, ?_⟩
    obtain ⟨rs, fs, m, heq⟩ := hrest
    exact heq ▸ rfl
  case denied =>
    intro p n k post s hp hn hk hadm hst
    have heffect : ∀ v, spaceWrite p spFskq (32 * n + 4 * k) 0 v (dropKey p s) = (stDeny, dropKey p s) := fun v =>
      (spaceWrite_slot hk).trans (slotWrite_denied (s := dropKey p s) hst v)
    cases post with
    | true => exact runs_tableDenied hadm (exec_messagePost hp hn hk) (heffect _) fun host hdeny => ⟨hdeny, rfl⟩
    | false => exact runs_tableDenied hadm (exec_messageDrop hp hn hk) (heffect _) fun host hdeny => ⟨hdeny, rfl⟩
  case sent =>
    intro n k f rest s hn hlen hk htx hslot
    obtain ⟨htx', hon, hstate, hkept, hrest⟩ := sent_shown (n := n) (k := k) (rest := rest) hlen
    exact runs_of_eq (answerIf_next.mpr ⟨by simp [hn], rfl⟩) (responseSent_of_slot htx hslot)
      ⟨htx', hon, hstate, hkept, hrest.eq⟩
  case idle =>
    intro n s hn htx
    exact runs_of_eq (answerIf_next.mpr ⟨by simp [hn], rfl⟩) (responseSent_of_none htx) rfl
  case expire =>
    intro n k s hn hlen hk hst
    obtain ⟨hstate, hlate, hon, htx, hkept, hrest⟩ := expireSlot_shown (n := n) (k := k) hlen
    exact runs_of_eq (answerIf_next.mpr ⟨by simp [hn, hk], rfl⟩) (messageExpire_of_received hst)
      ⟨hstate, hlate, hon, htx, hkept, hrest.eq⟩
  case early =>
    intro n k s hn hk hst
    exact runs_of_eq (answerIf_next.mpr ⟨by simp [hn, hk], rfl⟩) (messageExpire_of_other hst) rfl
  case burst =>
    intro n b s hn hlen hb hon hburst hent hfatal
    exact runs_of_eq (answerIf_next.mpr ⟨by simp [hn, hb], rfl⟩) (burstSend_of_enabled hon hburst hent hfatal)
      (burst_shown hlen _ _)
  case off =>
    intro n b s hn hb h
    exact runs_of_eq (answerIf_next.mpr ⟨by simp [hn, hb], rfl⟩) (burstSend_of_disabled h) rfl

end Sys2Proof.Machine
end

section
/-! A proof about the maintenance commands of a loop (R460, R462, R468). -/

namespace Sys2Proof.Machine

/-! ### Request bytes -/

theorem beNat_two (v : Nat) : beNat 2 v = [byte (v / 256 % 256), byte (v % 256)] := rfl

theorem ofBe_beNat_two {v : Nat} (hv : v < 65536) : ofBe (beNat 2 v) = v := by
  simp only [beNat_two, ofBe, ofLe, List.reverse_cons, List.reverse_nil, List.nil_append, List.cons_append,
    List.foldr_cons, List.foldr_nil, byte, BitVec.toNat_ofNat]
  omega

/-! ### A maintenance command on one word -/

theorem maintCode_zero : maintCode 0 = 0 := rfl

theorem maintCode_deny : maintCode stDeny = 16 := rfl

section
variable {n a : Nat} {s u : State}

theorem maintRun_readOne (ha : a < 512) (s : State) : maintRun n 248 (beNat 2 a ++ [1]) s =
    ((maintRead (.loop n) 1 a s).2.1, beNat 2 a ++ (maintRead (.loop n) 1 a s).1.flatMap (fun w => beNat 2 w.toNat),
      (maintRead (.loop n) 1 a s).2.2) := by
  have haddr : ofBe ((beNat 2 a ++ [1]).take 2) = a := ofBe_beNat_two (by omega)
  have hcount : ((beNat 2 a ++ [1]).getD 2 0).toNat = 1 := rfl
  have hlen : (beNat 2 a ++ [1]).length = 3 := rfl
  simp only [maintRun, haddr, hcount, hlen]
  rw [if_neg (by decide), if_neg (by omega)]
  rfl

theorem maintRun_writeOne {v : Nat} (ha : a < 512) (hv : v < 65536) (s : State) :
    maintRun n 249 (beNat 2 a ++ [1] ++ beNat 2 v) s =
      ((maintWrite (.loop n) [word v] a s).2.1, beNat 2 a ++ [byte (maintWrite (.loop n) [word v] a s).1],
        (maintWrite (.loop n) [word v] a s).2.2) := by
  have haddr : ofBe ((beNat 2 a ++ [1] ++ beNat 2 v).take 2) = a := ofBe_beNat_two (by omega)
  have hcount : ((beNat 2 a ++ [1] ++ beNat 2 v).getD 2 0).toNat = 1 := rfl
  have hlen : (beNat 2 a ++ [1] ++ beNat 2 v).length = 5 := rfl
  have hword : (List.range 1).map (fun i => word (ofBe (slice' (beNat 2 a ++ [1] ++ beNat 2 v) (3 + 2 * i) 2))) = [word v] :=
    congrArg (fun x => [word x]) (ofBe_beNat_two hv)
  simp only [maintRun, haddr, hcount, hlen, hword]
  rw [if_neg (by decide), if_neg (by omega)]
  rfl

theorem maintRun_none (cmd : Nat) (s : State) : maintRun n cmd (beNat 2 a ++ [0]) s = (5, [], s) := by
  have hcount : ((beNat 2 a ++ [0]).getD 2 0).toNat = 0 := rfl
  simp only [maintRun, hcount]
  rw [if_pos (by simp)]

theorem maintRead_taken {p : Path} {w : Word} (h : accessRead p a s = (⟨0, w⟩, u)) : maintRead p 1 a s = ([w], 0, u) := by
  simp only [maintRead, h, maintCode_zero]
  rfl

theorem maintRead_denied {p : Path} {w : Word} (h : accessRead p a s = (⟨stDeny, w⟩, u)) :
    maintRead p 1 a s = ([], 16, u) := by
  simp only [maintRead, h, maintCode_deny]
  rfl

theorem maintWrite_taken {p : Path} {w : Word} (hfatal : s.isFatal = false) (h : accessWrite p a w s = (0, u)) :
    maintWrite p [w] a s = (1, 0, u) := by
  simp only [maintWrite, hfatal, Bool.false_eq_true, if_false, h, maintCode_zero]
  rfl

end

/-! ### A maintenance frame is heard -/

/-- Command 249 writes, 248 reads. -/
def maintCmd (wr : Bool) : Nat := if wr then 249 else 248

section
variable {n : Nat} {long master : Bool} {wr : Bool} {req : List Byte} {s : State}

theorem fskLong_maintFrame (cmd : Nat) : fskLong (maintFrame s n long master cmd req) = long := by cases long <;> rfl

theorem fskMine_maintFrame (cmd : Nat) : s.fskMine n (maintFrame s n long master cmd req) = true := by
  rw [State.fskMine, fskLong_maintFrame]
  cases long <;> simp [maintFrame]

theorem delim_maintFrame (cmd : Nat) : (maintFrame s n long master cmd req).delim = 0x02 ∨
    (maintFrame s n long master cmd req).delim = 0x82 := by cases long <;> simp [maintFrame]

theorem fskErrors_maintFrame {cmd : Nat} (h : req.length ≤ 56) : fskErrors (maintFrame s n long master cmd req) = 0 := by
  have hlen : (maintFrame s n long master cmd req).data.length ≤ 56 := h
  simp only [fskErrors, if_neg (Nat.not_lt.mpr hlen)]
  rfl

/-- A maintenance command that the loop takes runs and is answered at once. -/
theorem fskReceive_of_maint (hon : s.modemOn n = true) (htx : s.flag (.FSK_STAT_TXON n) = false)
    (hmnt : s.flag (.FSK_CTRL_MNTEN n) = true) (hlen : req.length ≤ 56) {code : Nat} {data : List Byte} {u : State}
    (hrun : maintRun n (maintCmd wr) req s = (code, data, u)) :
    fskReceive n (maintFrame s n long master (maintCmd wr) req) s =
      fskAnswer n (maintFrame s n long master (maintCmd wr) req) code data (u.setFlag (.FSK_STAT_MNT n) true) := by
  have htake : fskTake n (maintFrame s n long master (maintCmd wr) req) s =
      fskAnswer n (maintFrame s n long master (maintCmd wr) req) code data (u.setFlag (.FSK_STAT_MNT n) true) := by
    have hcmd : (maintFrame s n long master (maintCmd wr) req).cmd = maintCmd wr := rfl
    have hreq : (maintFrame s n long master (maintCmd wr) req).data = req := rfl
    rw [fskTake, if_pos, hcmd, hreq, hrun]
    rw [hmnt, hcmd]
    cases wr <;> rfl
  rw [fskReceive_of_heard hon htx (show 2 ≤ 5 by decide) (delim_maintFrame _), fskMine_maintFrame,
    fskErrors_maintFrame hlen, htake]
  rfl

/-- What the answer to a maintenance command leaves. -/
theorem maintAnswer_shown (hn : n < 6) (hlen : n < s.fsk.length) (r : State) (cmd code : Nat) (data : List Byte) :
    let t := fskAnswer n (maintFrame r n long master cmd req) code data (s.setFlag (.FSK_STAT_MNT n) true)
    (t.fskCh n).tx = (s.fskCh n).tx ++
        [⟨ackFrame s n long master (if long then r.longAddr n else r.pollAddr n) cmd code data, none⟩] ∧
      t.flag (.FSK_STAT_MNT n) = true ∧ t.flag (.FSK_STAT_TXON n) = true ∧
      FieldsKept [.FSK_STAT_MNT n, .FSK_STAT_TXON n] s t ∧ t = { s with regs := t.regs, fsk := t.fsk } := by
  have h := fskAnswer_shown (g := .FSK_STAT_MNT n) hn hlen (by simp [fskShown]) rfl (by simp)
    (maintFrame r n long master cmd req) code data
  rw [fskLong_maintFrame] at h
  exact h

end

theorem exec_readWords {n : Nat} {long master : Bool} {req : List Byte} {s : State} (hn : n < 6) (hreq : req.length < 256) :
    exec (.readWords n long master req) s = .next (fskReceive n (maintFrame s n long master (maintCmd false) req) s) :=
  answerIf_next.mpr ⟨by simp [hn, hreq], rfl⟩

theorem exec_writeWords {n : Nat} {long master : Bool} {req : List Byte} {s : State} (hn : n < 6) (hreq : req.length < 256) :
    exec (.writeWords n long master req) s = .next (fskReceive n (maintFrame s n long master (maintCmd true) req) s) :=
  answerIf_next.mpr ⟨by simp [hn, hreq], rfl⟩

theorem exec_maintWords {n : Nat} {long master : Bool} (wr : Bool) {req : List Byte} {s : State} (hn : n < 6)
    (hreq : req.length < 256) : exec (if wr then .writeWords n long master req else .readWords n long master req) s =
      .next (fskReceive n (maintFrame s n long master (maintCmd wr) req) s) := by
  cases wr
  · exact exec_readWords hn hreq
  · exact exec_writeWords hn hreq

/-! ### The obligation -/

/-- A word that a maintenance command writes stays as written while the answer goes out. -/
theorem reg_of_answer {n a : Nat} {s t : State} (hk : FieldsKept [.FSK_STAT_MNT n, .FSK_STAT_TXON n] s t)
    (h : a ≠ Reg.FSK_STAT n) : t.reg a = s.reg a := by
  ext i hi
  refine hk a i fun f hf he => absurd ?_ h
  simp only [List.mem_cons, List.not_mem_nil, or_false] at hf
  obtain rfl | rfl := hf <;> exact he.symm

/-- Settles O41: maintenance commands of one word reach the register and are answered at once. -/
theorem maintenanceReachesRegisters : Obligations.MaintenanceReachesRegisters := by
  refine ⟨?read, ?denied, ?write, ?none, ?deaf, ?busy⟩
  case read =>
    intro n a long master s hn hlen ha hon htx hmnt hadm hplain hrc
    have hread : accessRead (.loop n) a s = (⟨0, s.reg a⟩, dropKey (.loop n) s) := by
      rw [accessRead_plain hadm hplain, readClears_of_no_rc (by rw [hrc]; rfl)]
    have hrun := maintRun_readOne (n := n) ha s
    rw [maintRead_taken hread] at hrun
    obtain ⟨hsent, hflag, hout, hkept, hrest⟩ := maintAnswer_shown (s := dropKey (.loop n) s) (long := long)
      (master := master) (req := beNat 2 a ++ [1]) hn hlen s 248 0 (beNat 2 a ++ [s.reg a].flatMap (fun w => beNat 2 w.toNat))
    refine runs_of_eq (exec_readWords hn (show 3 < 256 by decide))
      (fskReceive_of_maint (wr := false) hon htx hmnt (Nat.le_of_ble_eq_true rfl) hrun) ⟨?_, hflag, hout, hkept, ?_⟩
    · rw [List.flatMap_singleton] at hsent
      exact hsent
    · exact hrest
  case denied =>
    intro n a long master s hn hlen ha hon htx hmnt hserved halways hmay
    have hrun := maintRun_readOne (n := n) ha s
    rw [maintRead_denied (accessRead_refused hserved halways hmay)] at hrun
    obtain ⟨hsent, hflag, hout, hkept, hrest⟩ := maintAnswer_shown (s := dropKey (.loop n) s) (long := long)
      (master := master) (req := beNat 2 a ++ [1]) hn hlen s 248 16 (beNat 2 a ++ [].flatMap (fun w : Word => beNat 2 w.toNat))
    refine runs_of_eq (exec_readWords hn (show 3 < 256 by decide))
      (fskReceive_of_maint (wr := false) hon htx hmnt (Nat.le_of_ble_eq_true rfl) hrun) ⟨?_, hkept, hrest⟩
    rw [List.flatMap_nil, List.append_nil] at hsent
    exact hsent
  case write =>
    intro n a v long master s hn hlen ha hfit hon htx hmnt hadm hplain hne
    have hv : v < 65536 := by simpa [fits] using hfit
    simp only [plainlyWritten, Bool.and_eq_true, Bool.not_eq_true', beq_iff_eq] at hplain
    obtain ⟨⟨⟨⟨⟨hact, hq⟩, hw⟩, hforce⟩, hfix⟩, hst⟩ := hplain
    have hwrite := accessWrite_plain (v := word v) hadm hact hq hw hforce hfix
    rw [plainWrite_live ha hst] at hwrite
    have hrun := maintRun_writeOne (n := n) ha hv s
    obtain ⟨-, -, hfatal, -⟩ := hadm
    rw [maintWrite_taken hfatal hwrite] at hrun
    generalize hu : ((dropKey (.loop n) s).setReg a (writtenWord a ((dropKey (.loop n) s).reg a) (word v))).modPath (.loop n)
      (fun x => { x with readShadow := [] }) = u at hrun
    have hdone : maintRun n (maintCmd true) (beNat 2 a ++ [1] ++ beNat 2 v) s = (0, beNat 2 a ++ [byte 1], u) := hrun
    have hreg : u.reg a = writtenWord a (s.reg a) (word v) := by rw [← hu]; exact reg_setReg_same _ _ _
    have hwritten : FieldsKept [wholeReg a] s u := by
      rw [← hu]
      exact (FieldsKept.setReg (FieldsKept.refl _ s).dropKey (by simp)).modPath
    obtain ⟨hsent, hflag, hout, hkept, hrest⟩ := maintAnswer_shown (s := u) (long := long) (master := master)
      (req := beNat 2 a ++ [1] ++ beNat 2 v) hn (by rw [← hu]; exact hlen) s (maintCmd true) 0 (beNat 2 a ++ [byte 1])
    refine runs_of_eq (exec_writeWords hn (Nat.le_of_ble_eq_true rfl))
      (fskReceive_of_maint (wr := true) hon htx hmnt (Nat.le_of_ble_eq_true rfl) hdone)
      ⟨(reg_of_answer hkept hne).trans hreg, ?_, hflag, hout, (hwritten.mono (by simp)).trans (hkept.mono (by simp)), ?_⟩
    · rw [ackFrame_of_kept hn (hkept.mono (by simp [fskShown])) (by rw [hrest]) (by rw [hrest])]
      rw [← hu] at hsent ⊢
      exact hsent
    · rw [hrest, ← hu]
      rfl
  case none =>
    intro n a long master wr s hn hlen ha hon htx hmnt
    obtain ⟨hsent, -, -, hkept, hrest⟩ := maintAnswer_shown (long := long) (master := master) (req := beNat 2 a ++ [0]) hn
      hlen s (maintCmd wr) 5 []
    exact runs_of_eq (exec_maintWords wr hn (show 3 < 256 by decide))
      (fskReceive_of_maint hon htx hmnt (Nat.le_of_ble_eq_true rfl) (maintRun_none _ s)) ⟨hsent, hkept, hrest⟩
  case deaf =>
    intro n long master wr req s hn hreq h
    exact runs_of_eq (exec_maintWords wr hn hreq) (fskReceive_of_unheard (h.imp_right .inl)) rfl
  case busy =>
    intro n long master wr req s hn hlen hreq hon htx hmnt hq
    have hbusy := (fskReceive_of_message (f := maintFrame s n long master (maintCmd wr) req) hon htx (show 2 ≤ 5 by decide)
      (delim_maintFrame _) rfl (fskMine_maintFrame _) (fskErrors_maintFrame hreq) (.inl hmnt)).trans
      (queueMessage_of_full (.inl hq))
    obtain ⟨hsent, hflag, -, hkept, hrest⟩ := fskAnswer_shown (g := .FSK_STAT_BUSYR n) hn hlen (by simp [fskShown]) rfl (by simp)
      (maintFrame s n long master (maintCmd wr) req) 32 []
    rw [fskLong_maintFrame] at hsent
    exact runs_of_eq (exec_maintWords wr hn (by omega)) hbusy ⟨hsent, hflag, hkept, hrest⟩

end Sys2Proof.Machine
end

section
/-! Rules of the rope's state (R490, R496, R497, R501): ports, waiting frames, and what sending a frame changes. -/

namespace Sys2Proof.Machine

/-! ### States that differ in the rope alone -/

/-- Only the rope may differ. -/
def OnlyRope (s t : State) : Prop := ∃ r, t = { s with rope := r }

theorem OnlyRope.refl (s : State) : OnlyRope s s := ⟨s.rope, rfl⟩

theorem OnlyRope.trans {s t u : State} (h : OnlyRope s t) (k : OnlyRope t u) : OnlyRope s u := by
  obtain ⟨r, rfl⟩ := h
  obtain ⟨r', rfl⟩ := k
  exact ⟨r', rfl⟩

theorem OnlyRope.eq {s t : State} (h : OnlyRope s t) : t = { s with rope := t.rope } := by
  obtain ⟨r, rfl⟩ := h
  rfl

theorem OnlyRope.regs {s t : State} (h : OnlyRope s t) : t.regs = s.regs := by
  obtain ⟨r, rfl⟩ := h
  rfl

theorem OnlyRope.kept {bs : List Nat} {fs : List Fld} {s t : State} (h : OnlyRope s t) : Kept bs fs s t := by
  obtain ⟨r, rfl⟩ := h
  exact (Kept.refl s).congr rfl rfl

theorem OnlyRope.fld {s t : State} (h : OnlyRope s t) (f : Fld) : t.fld f = s.fld f := by
  obtain ⟨r, rfl⟩ := h
  rfl

theorem OnlyRope.flag {s t : State} (h : OnlyRope s t) (f : Fld) : t.flag f = s.flag f := by
  obtain ⟨r, rfl⟩ := h
  rfl

theorem OnlyRope.link {s t : State} (h : OnlyRope s t) (p : Port) : t.link p = s.link p := h.fld _

theorem OnlyRope.unitNo {s t : State} (h : OnlyRope s t) : t.unitNo = s.unitNo := by
  obtain ⟨r, rfl⟩ := h
  rfl

theorem OnlyRope.memKept {s t : State} (h : OnlyRope s t) : MemKept s t := by
  obtain ⟨r, rfl⟩ := h
  exact .of_eq rfl rfl rfl

theorem onlyRope_modRope (f : Rope → Rope) (s : State) : OnlyRope s (s.modRope f) := ⟨_, rfl⟩

theorem onlyRope_modPort (p : Port) (f : PortSt → PortSt) (s : State) : OnlyRope s (s.modPort p f) := ⟨_, rfl⟩

/-! ### Ports -/

theorem port_modPort_same (p : Port) (f : PortSt → PortSt) (s : State) : (s.modPort p f).port p = f (s.port p) := by
  cases p <;> rfl

theorem port_modPort_other (p : Port) (f : PortSt → PortSt) (s : State) :
    (s.modPort p f).port (otherPort p) = s.port (otherPort p) := by
  cases p <;> rfl

theorem port_queueFrame_same (p : Port) (f : RopeFrame) (s : State) :
    (queueFrame p f s).port p = { s.port p with queue := (s.port p).queue ++ [f] } := port_modPort_same ..

theorem port_queueFrame_other (p : Port) (f : RopeFrame) (s : State) :
    (queueFrame p f s).port (otherPort p) = s.port (otherPort p) := port_modPort_other ..

theorem otherPort_otherPort (p : Port) : otherPort (otherPort p) = p := by cases p <;> rfl

theorem port_of_rope {s t : State} (h : t.rope = s.rope) (p : Port) : t.port p = s.port p := by
  cases p
  · exact congrArg Rope.up h
  · exact congrArg Rope.dn h

theorem stateFld_width (p : Port) : (stateFld p).width = 2 := by cases p <;> rfl

/-! ### What sending changes -/

/-- Only the frames that wait at the two ports may differ. -/
def OnlyQueues (s t : State) : Prop :=
  ∃ qu qd, t = { s with rope := { s.rope with up := { s.rope.up with queue := qu }, dn := { s.rope.dn with queue := qd } } }

/-- Only the ports and the frames that wait for their step may differ. -/
def OnlyWires (s t : State) : Prop := ∃ u d i, t = { s with rope := { s.rope with up := u, dn := d, inbox := i } }

theorem OnlyQueues.refl (s : State) : OnlyQueues s s := ⟨s.rope.up.queue, s.rope.dn.queue, rfl⟩

theorem OnlyQueues.trans {s t u : State} (h : OnlyQueues s t) (k : OnlyQueues t u) : OnlyQueues s u := by
  obtain ⟨a, b, rfl⟩ := h
  obtain ⟨c, d, rfl⟩ := k
  exact ⟨c, d, rfl⟩

theorem OnlyQueues.wires {s t : State} (h : OnlyQueues s t) : OnlyWires s t := by
  obtain ⟨a, b, rfl⟩ := h
  exact ⟨_, _, s.rope.inbox, rfl⟩

theorem OnlyWires.refl (s : State) : OnlyWires s s := (OnlyQueues.refl s).wires

theorem OnlyWires.trans {s t u : State} (h : OnlyWires s t) (k : OnlyWires t u) : OnlyWires s u := by
  obtain ⟨a, b, i, rfl⟩ := h
  obtain ⟨c, d, j, rfl⟩ := k
  exact ⟨c, d, j, rfl⟩

theorem OnlyWires.only {s t : State} (h : OnlyWires s t) : OnlyRope s t := by
  obtain ⟨a, b, i, rfl⟩ := h
  exact ⟨_, rfl⟩

theorem OnlyQueues.only {s t : State} (h : OnlyQueues s t) : OnlyRope s t := h.wires.only

theorem onlyWires_modPort (p : Port) (f : PortSt → PortSt) (s : State) : OnlyWires s (s.modPort p f) := by
  cases p
  · exact ⟨_, s.rope.dn, s.rope.inbox, rfl⟩
  · exact ⟨s.rope.up, _, s.rope.inbox, rfl⟩

theorem onlyQueues_queueFrame (p : Port) (f : RopeFrame) (s : State) : OnlyQueues s (queueFrame p f s) := by
  cases p
  · exact ⟨_, s.rope.dn.queue, rfl⟩
  · exact ⟨s.rope.up.queue, _, rfl⟩

theorem onlyWires_freeUnits (p : Port) (vc n : Nat) (s : State) : OnlyWires s (freeUnits p vc n s) := onlyWires_modPort ..

theorem onlyQueues_putFrame (p : Port) (f : RopeFrame) (s : State) : OnlyQueues s (putFrame p f s).2 := by
  unfold putFrame
  split
  · exact onlyQueues_queueFrame p f s
  · exact .refl s

theorem onlyQueues_sendFrame (f : RopeFrame) (s : State) : OnlyQueues s (sendFrame f s).2 := by
  unfold sendFrame
  dsimp only
  split
  · exact .refl s
  · split
    · refine OnlyQueues.trans ?_ (onlyQueues_putFrame .dn f _)
      split
      · exact onlyQueues_putFrame .up f s
      · exact .refl s
    · split
      · exact .refl s
      · split
        · exact onlyQueues_putFrame .dn f s
        · exact onlyQueues_putFrame .up f s

theorem onlyQueues_sendOff (f : RopeFrame) (s : State) : OnlyQueues s (sendOff f s) := onlyQueues_sendFrame f s

theorem onlyQueues_sendRsp (src dst tag status data : Nat) (s : State) : OnlyQueues s (sendRsp src dst tag status data s) :=
  onlyQueues_sendOff _ s

theorem onlyQueues_sendEnum (dst op : Nat) (rest : List Byte) (s : State) : OnlyQueues s (sendEnum dst op rest s) :=
  onlyQueues_sendOff _ s

theorem onlyQueues_undeliverable (f : RopeFrame) (s : State) : OnlyQueues s (undeliverable f s) := by
  unfold undeliverable
  split
  · exact onlyQueues_sendRsp ..
  · exact .refl s

theorem onlyWires_takeInbox (typ src : Nat) (s : State) : OnlyWires s (takeInbox typ src s) := by
  unfold takeInbox
  split
  · exact .refl s
  · next e _ =>
    dsimp only
    have hout : OnlyWires s (s.modRope (fun r => { r with inbox := r.inbox.erase e })) := ⟨s.rope.up, s.rope.dn, _, rfl⟩
    split
    · exact hout
    · exact hout.trans (onlyWires_freeUnits ..)

theorem takeInbox_of_empty {typ src : Nat} {s : State} (h : s.rope.inbox = []) : takeInbox typ src s = s := by
  rw [takeInbox, h]
  rfl

/-! ### Link states -/

/-- A frame of local origin for another unit that lies UP is put into the UP queue. -/
theorem sendOff_up {f : RopeFrame} {s : State} (hbad : badBroadcast f = false) (hmine : s.isMine f.dst = false)
    (hdst : f.dst ≠ 31) (hmask : s.rope.dnMask.testBit f.dst = false) (hhead : s.isHead = false) (hup : s.isUp .up = true) :
    sendOff f s = queueFrame .up f s := by
  have hroute : s.routeTo none f.dst = ⟨false, true, false, false⟩ := by
    simp only [State.routeTo, hmine, hdst, hmask, hhead, Bool.and_false, Bool.false_eq_true, if_false]
    rfl
  rw [sendOff, sendFrame, hroute, hbad]
  simp only [Bool.or_self, Bool.false_eq_true, if_false, hdst, putFrame, hup, if_true]

theorem setLink_of_other {p : Port} {v : Nat} {s : State} (h : s.link p ≠ v) :
    setLink p v s = (s.setFld (stateFld p) v).setFlag .ROPE_STAT_LINKEV true := if_neg h

theorem onlyRegs_setLink (p : Port) (v : Nat) (s : State) : OnlyRegs s (setLink p v s) := by
  unfold setLink
  split
  · exact .refl s
  · exact ((OnlyRegs.refl s).setFld _ _).setFlag _ _

theorem stateFld_apart (p : Port) : Fld.ROPE_STAT_LINKEV.apart (stateFld p) = true := by cases p <;> decide

theorem link_setLink {p : Port} {v : Nat} (hv : v < 4) (s : State) : (setLink p v s).link p = v := by
  unfold setLink
  split
  · assumption
  · rw [State.link, fld_setFlag_other _ _ _ _ (by decide) (stateFld_apart p),
      fld_setFld_same _ _ _ (by cases p <;> decide), stateFld_width]
    exact Nat.mod_eq_of_lt hv

theorem fieldsKept_setLink (p : Port) (v : Nat) (s : State) :
    FieldsKept [stateFld p, .ROPE_STAT_LINKEV] s (setLink p v s) := by
  unfold setLink
  split
  · exact .refl _ s
  · exact FieldsKept.setFlag (FieldsKept.setFld (.refl _ s) (by simp) (by rw [stateFld_width]; decide)) (by simp)
      (by decide)

theorem flag_LINKEV_setLink {p : Port} {v : Nat} {s : State} (h : s.link p ≠ v) :
    (setLink p v s).flag .ROPE_STAT_LINKEV = true := by
  rw [setLink_of_other h]
  exact flag_setFlag_same _ _ _ (by decide) rfl

theorem isUp_iff {p : Port} {s : State} : s.isUp p = true ↔ s.link p = linkUp := beq_iff_eq

end Sys2Proof.Machine
end

section
/-! A proof about the enumeration of the rope (R500, R502 to R506). -/

namespace Sys2Proof.Machine

/-! ### Addresses -/

theorem chooseAddr_congr {r q : Rope} (hb : q.binding = r.binding) (ht : q.teamIds = r.teamIds) (uid present pinned : Nat) :
    chooseAddr q uid present pinned = chooseAddr r uid present pinned := by
  have hfree : freeAddr q = freeAddr r := funext fun a => by rw [freeAddr, freeAddr, hb, ht]
  simp only [chooseAddr, nextFree, hb, hfree]

theorem contains_binding_bindAddr (a uid : Nat) (s : State) : (bindAddr a uid s).rope.binding.contains (a, uid) = true := by
  rw [List.contains_iff_mem]
  exact List.mem_append_right _ (List.mem_singleton.mpr rfl)

theorem unitNo_of_valid {s : State} {a : Nat} (hv : s.hasAddr = true) (ha : s.fld .ROPE_ADDR_ADDR = a) : s.unitNo = a := by
  exact (if_pos hv).trans ha

/-- The fields that an address and its place below the head are shown in. -/
def addrFields : List Fld :=
  [.ROPE_ADDR_VALID, .ROPE_ADDR_ADDR, .ROPE_ADDR_HOP, .ROPE_ADDR_HEADA, .ROPE_STAT_ORPHAN]

/-- A unit shows the address, hop and head that it has taken. -/
def addrTaken (head addr hop : Nat) (s : State) : State :=
  ((((s.setFlag .ROPE_ADDR_VALID true).setFld .ROPE_ADDR_ADDR addr).setFld .ROPE_ADDR_HOP hop).setFld
    .ROPE_ADDR_HEADA head).setFlag .ROPE_STAT_ORPHAN false

theorem fieldsKept_addrTaken (head addr hop : Nat) (s : State) : FieldsKept addrFields s (addrTaken head addr hop s) :=
  FieldsKept.setFlag (FieldsKept.setFld (FieldsKept.setFld (FieldsKept.setFld (FieldsKept.setFlag (.refl _ s)
    (by simp [addrFields]) (by decide)) (by simp [addrFields]) (by decide)) (by simp [addrFields]) (by decide))
    (by simp [addrFields]) (by decide)) (by simp [addrFields]) (by decide)

theorem addrTaken_shown {head addr hop : Nat} (hhead : head < 32) (haddr : addr < 32) (hhop : hop < 32) (s : State) :
    (addrTaken head addr hop s).hasAddr = true ∧ (addrTaken head addr hop s).unitNo = addr ∧
      (addrTaken head addr hop s).fld .ROPE_ADDR_HOP = hop ∧ (addrTaken head addr hop s).fld .ROPE_ADDR_HEADA = head ∧
      (addrTaken head addr hop s).flag .ROPE_STAT_ORPHAN = false := by
  have hvalid : (addrTaken head addr hop s).hasAddr = true := by
    rw [State.hasAddr, addrTaken, flag_setFlag_other _ _ _ _ (by decide) (by decide),
      flag_setFld_other _ _ _ _ (by decide) (by decide), flag_setFld_other _ _ _ _ (by decide) (by decide),
      flag_setFld_other _ _ _ _ (by decide) (by decide)]
    exact flag_setFlag_same _ _ _ (by decide) rfl
  refine ⟨hvalid, unitNo_of_valid hvalid ?_, ?_, ?_, flag_setFlag_same _ _ _ (by decide) rfl⟩
  · rw [addrTaken, fld_setFlag_other _ _ _ _ (by decide) (by decide), fld_setFld_other _ _ _ _ (by decide) (by decide),
      fld_setFld_other _ _ _ _ (by decide) (by decide), fld_setFld_same _ _ _ (by decide)]
    exact Nat.mod_eq_of_lt haddr
  · rw [addrTaken, fld_setFlag_other _ _ _ _ (by decide) (by decide), fld_setFld_other _ _ _ _ (by decide) (by decide),
      fld_setFld_same _ _ _ (by decide)]
    exact Nat.mod_eq_of_lt hhop
  · rw [addrTaken, fld_setFlag_other _ _ _ _ (by decide) (by decide), fld_setFld_same _ _ _ (by decide)]
    exact Nat.mod_eq_of_lt hhead

theorem onlyRegs_addrTaken (head addr hop : Nat) (s : State) : OnlyRegs s (addrTaken head addr hop s) :=
  (((((OnlyRegs.refl s).setFlag _ _).setFld _ _).setFld _ _).setFld _ _).setFlag _ _

/-! ### The head takes over (R502) -/

/-- The registers of a unit that has become head with address a. -/
def headShown (a : Nat) (s : State) : State :=
  (((((s.setFlag .ROPE_STAT_HEAD true).setFlag .ROPE_STAT_ORPHAN false).setFlag .ROPE_ADDR_VALID true).setFld
    .ROPE_ADDR_ADDR a).setFld .ROPE_ADDR_HEADA a).setFld .ROPE_ADDR_HOP 0

/-- The fields that a unit that becomes head writes. -/
def headFields : List Fld :=
  [.ROPE_STAT_HEAD, .ROPE_STAT_ORPHAN, .ROPE_ADDR_VALID, .ROPE_ADDR_ADDR, .ROPE_ADDR_HEADA, .ROPE_ADDR_HOP]

theorem fieldsKept_headShown (a : Nat) (s : State) : FieldsKept headFields s (headShown a s) :=
  FieldsKept.setFld (FieldsKept.setFld (FieldsKept.setFld (FieldsKept.setFlag (FieldsKept.setFlag (FieldsKept.setFlag
    (.refl _ s) (by simp [headFields]) (by decide)) (by simp [headFields]) (by decide)) (by simp [headFields]) (by decide))
    (by simp [headFields]) (by decide)) (by simp [headFields]) (by decide)) (by simp [headFields]) (by decide)

theorem onlyRegs_headShown (a : Nat) (s : State) : OnlyRegs s (headShown a s) :=
  ((((((OnlyRegs.refl s).setFlag _ _).setFlag _ _).setFlag _ _).setFld _ _).setFld _ _).setFld _ _

theorem headShown_shown {a : Nat} (ha : a < 32) (s : State) : (headShown a s).isHead = true ∧
    (headShown a s).hasAddr = true ∧ (headShown a s).unitNo = a ∧ (headShown a s).fld .ROPE_ADDR_HEADA = a ∧
    (headShown a s).fld .ROPE_ADDR_HOP = 0 := by
  have hvalid : (headShown a s).hasAddr = true := by
    rw [State.hasAddr, headShown, flag_setFld_other _ _ _ _ (by decide) (by decide),
      flag_setFld_other _ _ _ _ (by decide) (by decide), flag_setFld_other _ _ _ _ (by decide) (by decide)]
    exact flag_setFlag_same _ _ _ (by decide) rfl
  refine ⟨?_, hvalid, unitNo_of_valid hvalid ?_, ?_, fld_setFld_same _ _ _ (by decide)⟩
  · rw [State.isHead, headShown, flag_setFld_other _ _ _ _ (by decide) (by decide),
      flag_setFld_other _ _ _ _ (by decide) (by decide), flag_setFld_other _ _ _ _ (by decide) (by decide),
      flag_setFlag_other _ _ _ _ (by decide) (by decide), flag_setFlag_other _ _ _ _ (by decide) (by decide)]
    exact flag_setFlag_same _ _ _ (by decide) rfl
  · rw [headShown, fld_setFld_other _ _ _ _ (by decide) (by decide), fld_setFld_other _ _ _ _ (by decide) (by decide),
      fld_setFld_same _ _ _ (by decide)]
    exact Nat.mod_eq_of_lt ha
  · rw [headShown, fld_setFld_other _ _ _ _ (by decide) (by decide), fld_setFld_same _ _ _ (by decide)]
    exact Nat.mod_eq_of_lt ha

/-- A unit has become head with address a. -/
def headTaken (a : Nat) (s : State) : State :=
  (headShown a (bindAddr a s.uid s)).modRope (fun r => { r with cumDelay := 0, chain := [] })

theorem becomeHead_of_chosen {a : Nat} {moved : Bool} {s : State}
    (h : chooseAddr s.rope s.uid (if s.hasAddr then s.unitNo else 0) (s.fld .ROPE_CFG_PIN) = some (a, moved))
    (hdn : s.isUp .dn = false) : becomeHead s = headTaken a s := by
  have hhead : becomeHead s = if (headTaken a s).isUp .dn then startEnum a (headTaken a s) else headTaken a s := by
    simp only [becomeHead, h]
    rfl
  have hlink : (headTaken a s).link .dn = s.link .dn :=
    ((onlyRope_modRope _ _).link .dn).trans (((fieldsKept_headShown a _).fld (by decide)).trans
      ((onlyRope_modRope _ _).link .dn))
  have hdown : (headTaken a s).isUp .dn = false := by
    rw [State.isUp, hlink]
    exact hdn
  rw [hhead, if_neg (by simp [hdown])]

/-- The rope of a unit that has become head with address a. -/
theorem headTaken_rest (a : Nat) (s : State) : ∃ rs, headTaken a s =
    { s with regs := rs, rope := { (bindAddr a s.uid s).rope with cumDelay := 0, chain := [] } } := by
  obtain ⟨rs, hrs⟩ := onlyRegs_headShown a (bindAddr a s.uid s)
  rw [headTaken, hrs]
  exact ⟨rs, rfl⟩

theorem headTaken_shown {a : Nat} (ha : a < 32) (s : State) : (headTaken a s).isHead = true ∧
    (headTaken a s).hasAddr = true ∧ (headTaken a s).unitNo = a ∧ (headTaken a s).fld .ROPE_ADDR_HEADA = a ∧
    (headTaken a s).fld .ROPE_ADDR_HOP = 0 ∧ FieldsKept headFields s (headTaken a s) := by
  obtain ⟨hhead, haddr, hno, hheada, hhop⟩ := headShown_shown ha (bindAddr a s.uid s)
  have hrope := onlyRope_modRope (fun r => { r with cumDelay := 0, chain := [] }) (headShown a (bindAddr a s.uid s))
  have hbound : FieldsKept headFields s (bindAddr a s.uid s) := .of_regs rfl
  exact ⟨(hrope.flag _).trans hhead, (hrope.flag _).trans haddr, hrope.unitNo.trans hno, (hrope.fld _).trans hheada,
    (hrope.fld _).trans hhop, (hbound.trans (fieldsKept_headShown a _)).trans (.of_regs hrope.regs)⟩

theorem headTakeover_of_due {s : State} (ha : s.isActive = true) (hd : s.rope.headDue = true) :
    headTakeover s = becomeHead (s.modRope (fun r => { r with headDue := false })) := by
  rw [headTakeover, if_pos (by simp [ha, hd])]

theorem headTakeover_of_none {s : State} (h : s.isActive = false ∨ s.rope.headDue = false) : headTakeover s = s := by
  rw [headTakeover, if_neg (by simpa using fun ha => h.resolve_left (by simp [ha]))]

/-! ### Frames taken from the inbox -/

/-- The step of a consumed frame frees units at a port and leaves its neighbour's HELLO. -/
theorem peer_takeInbox (typ src : Nat) (s : State) : (takeInbox typ src s).rope.dn.peer = s.rope.dn.peer := by
  unfold takeInbox
  split
  · rfl
  · next e _ =>
    dsimp only
    split
    · rfl
    · rw [freeUnits]
      cases e.1 <;> rfl

/-! ### Query and report (R502, R503) -/

theorem enumQuery_of_peer {src : Nat} {h : Hello} {s : State} (hp : s.rope.dn.peer = some h) : enumQuery src s =
    sendEnum src 2 (uidBytes h.uid ++ leNat 1 h.addr ++ leNat 1 h.pinned) (takeInbox tyEnum src s) := by
  rw [enumQuery, peer_takeInbox, hp]

theorem enumQuery_of_none {src : Nat} {s : State} (hp : s.rope.dn.peer = none) : enumQuery src s = takeInbox tyEnum src s := by
  rw [enumQuery, peer_takeInbox, hp]

/-- The head's rope once a reported unit has its address. -/
def reportedRope (a uid hops : Nat) (r : Rope) : Rope :=
  { r with
    binding := r.binding.filter (fun b => b.1 != a && b.2 != uid) ++ [(a, uid)]
    chain := r.chain.take hops ++ [a]
    detached := (r.detached ++ (r.chain.drop hops).filter (fun a => !r.detached.contains a)).filter (· != a)
    dnMask := r.dnMask ||| 2 ^ a }

theorem sendAssign_queues (a uid : Nat) (s : State) :
    OnlyQueues (s.modRope (fun r => { r with dnMask := r.dnMask ||| 2 ^ a })) (sendAssign a uid s) := by
  unfold sendAssign
  dsimp only
  split
  · exact onlyQueues_queueFrame ..
  · exact onlyQueues_sendOff ..

theorem headReport_of_chosen {uid present pinned a : Nat} {s : State}
    (h : chooseAddr s.rope uid present pinned = some (a, false)) :
    OnlyQueues { s with rope := reportedRope a uid (proxyHop s) s.rope } (headReport uid present pinned s) := by
  have hchoose : chooseAddr (detachFrom (proxyHop s) s).rope uid present pinned = some (a, false) :=
    (chooseAddr_congr rfl rfl ..).trans h
  have hreport : headReport uid present pinned s = sendAssign a uid ((bindAddr a uid (detachFrom (proxyHop s) s)).modRope
      (fun r => { r with chain := r.chain.take (proxyHop s) ++ [a], detached := r.detached.filter (· != a) })) := by
    simp only [headReport, hchoose, Option.isNone_some, Bool.false_eq_true, if_false]
  have hrope : ((bindAddr a uid (detachFrom (proxyHop s) s)).modRope (fun r =>
      { r with chain := r.chain.take (proxyHop s) ++ [a], detached := r.detached.filter (· != a) })).modRope
        (fun r => { r with dnMask := r.dnMask ||| 2 ^ a }) = { s with rope := reportedRope a uid (proxyHop s) s.rope } := by
    simp [State.modRope, bindAddr, detachFrom, reportedRope, List.take_take]
  rw [hreport, ← hrope]
  exact sendAssign_queues ..

theorem contains_filter_ne {l : List Nat} (a : Nat) : (l.filter (· != a)).contains a = false := by
  simp

/-! ### Assign (R502) -/

theorem takeAddr_of_first {head addr hop delay : Nat} {s : State} (haddr : s.hasAddr = false ∨ s.unitNo = addr)
    (hpin : s.fld .ROPE_CFG_PIN = 0 ∨ s.fld .ROPE_CFG_PIN = addr) : takeAddr head addr hop delay s =
      (addrTaken head addr hop s).modRope (fun r => { r with base := delay, probes := [], probesLeft := 8 }) := by
  have hmoved : (s.hasAddr && s.unitNo != addr) = false := by obtain h | h := haddr <;> simp [h]
  have hkeep : (addrTaken head addr hop s).fld .ROPE_CFG_PIN = s.fld .ROPE_CFG_PIN :=
    (fieldsKept_addrTaken head addr hop s).fld (by decide)
  have hpinned : ((addrTaken head addr hop s).fld .ROPE_CFG_PIN != 0 &&
      (addrTaken head addr hop s).fld .ROPE_CFG_PIN != addr) = false := by
    rw [hkeep]
    obtain h | h := hpin <;> simp [h]
  have htake : takeAddr head addr hop delay s =
      (if (addrTaken head addr hop s).fld .ROPE_CFG_PIN != 0 && (addrTaken head addr hop s).fld .ROPE_CFG_PIN != addr then
        report 14 0x20 ((addrTaken head addr hop s).regN Reg.ROPE_ERRCNT) 0
          ((addrTaken head addr hop s).setFlag .ROPE_STAT_CONFL true)
        else addrTaken head addr hop s).modRope (fun r => { r with base := delay, probes := [], probesLeft := 8 }) := by
    simp only [takeAddr, hmoved, Bool.false_eq_true, if_false]
    rfl
  rw [htake, hpinned]
  rfl

/-- A unit that had another address leaves its teams, and its log has the change. -/
def addrMoved (head addr hop : Nat) (s : State) : State :=
  leaveTeams (mkRecord 0x302 clsNote [s.unitNo, addr] (addrTaken head addr hop s))

theorem regsKept_addrMoved (head addr hop : Nat) (s : State) :
    RegsKept recordBlocks [.ROPE_TEAMS_MEMB] (addrTaken head addr hop s) (addrMoved head addr hop s) :=
  RegsKept.trans ((Kept.mkRecord (fs := []) (.refl _) (fun _ h => h) 0x302 clsNote _).regs.mono (fun _ h => h) (by simp))
    (FieldsKept.regsKept (FieldsKept.setFld (.of_regs rfl) (by simp) (by decide)))

theorem addrMoved_rest (head addr hop : Nat) (s : State) : ∃ rs n x l, addrMoved head addr hop s =
    { s with regs := rs, nvm := n, xfer := x, log := l, rope := { s.rope with memberOf := [] } } := by
  obtain ⟨rs, hrs⟩ := onlyRegs_addrTaken head addr hop s
  obtain ⟨r, n, x, l, hrec⟩ := onlyRecord_mkRecord 0x302 clsNote [s.unitNo, addr] (addrTaken head addr hop s)
  rw [addrMoved, hrec, hrs]
  exact ⟨_, n, x, l, rfl⟩

theorem memKept_addrMoved (head addr hop : Nat) (s : State) : MemKept s (addrMoved head addr hop s) :=
  (onlyRegs_addrTaken head addr hop s).memKept.trans
    ((Kept.mkRecord (fs := []) (.refl _) (fun _ h => h) 0x302 clsNote _).mem.trans (.of_eq rfl rfl rfl))

theorem addrMoved_shown {head addr hop : Nat} (hhead : head < 32) (haddr : addr < 32) (hhop : hop < 32) (s : State) :
    (addrMoved head addr hop s).hasAddr = true ∧ (addrMoved head addr hop s).unitNo = addr ∧
      (addrMoved head addr hop s).fld .ROPE_ADDR_HOP = hop ∧ (addrMoved head addr hop s).fld .ROPE_ADDR_HEADA = head ∧
      (addrMoved head addr hop s).flag .ROPE_STAT_ORPHAN = false ∧ (addrMoved head addr hop s).fld .ROPE_TEAMS_MEMB = 0 ∧
      RegsKept recordBlocks (.ROPE_TEAMS_MEMB :: addrFields) s (addrMoved head addr hop s) := by
  obtain ⟨hvalid, hno, hhop', hheada, horph⟩ := addrTaken_shown hhead haddr hhop s
  have hmoved := regsKept_addrMoved head addr hop s
  have hflag : ∀ {g : Fld}, blockOf g.addr ∉ recordBlocks → Fld.ROPE_TEAMS_MEMB.apart g = true →
      (addrMoved head addr hop s).flag g = (addrTaken head addr hop s).flag g :=
    fun hb hap => hmoved.flag hb (by simpa using hap)
  have hfld : ∀ {g : Fld}, blockOf g.addr ∉ recordBlocks → Fld.ROPE_TEAMS_MEMB.apart g = true →
      (addrMoved head addr hop s).fld g = (addrTaken head addr hop s).fld g :=
    fun hb hap => hmoved.fld hb (by simpa using hap)
  have hvalid' : (addrMoved head addr hop s).hasAddr = true := (hflag (by decide) (by decide)).trans hvalid
  have haddr' : (addrTaken head addr hop s).fld .ROPE_ADDR_ADDR = addr := (if_pos hvalid).symm.trans hno
  exact ⟨hvalid', unitNo_of_valid hvalid' ((hfld (by decide) (by decide)).trans haddr'),
    (hfld (by decide) (by decide)).trans hhop', (hfld (by decide) (by decide)).trans hheada,
    (hflag (by decide) (by decide)).trans horph, fld_setFld_same _ _ _ (by decide),
    ((fieldsKept_addrTaken head addr hop s).regsKept.mono (List.Subset.refl _) (by simp [addrFields])).trans
      (hmoved.mono (fun _ h => h) (by simp))⟩

theorem takeAddr_of_moved {head addr hop delay : Nat} {s : State} (haddr : s.hasAddr = true) (hne : s.unitNo ≠ addr)
    (hpin : s.fld .ROPE_CFG_PIN = 0 ∨ s.fld .ROPE_CFG_PIN = addr) : takeAddr head addr hop delay s =
      (addrMoved head addr hop s).modRope (fun r => { r with base := delay, probes := [], probesLeft := 8 }) := by
  have hmoved : (s.hasAddr && s.unitNo != addr) = true := by simp [haddr, hne]
  have hkeep : (addrMoved head addr hop s).fld .ROPE_CFG_PIN = s.fld .ROPE_CFG_PIN :=
    ((regsKept_addrMoved head addr hop s).fld (by decide) (by decide)).trans
      ((fieldsKept_addrTaken head addr hop s).fld (by decide))
  have hpinned : ((addrMoved head addr hop s).fld .ROPE_CFG_PIN != 0 &&
      (addrMoved head addr hop s).fld .ROPE_CFG_PIN != addr) = false := by
    rw [hkeep]
    obtain h | h := hpin <;> simp [h]
  have htake : takeAddr head addr hop delay s =
      (if (addrMoved head addr hop s).fld .ROPE_CFG_PIN != 0 && (addrMoved head addr hop s).fld .ROPE_CFG_PIN != addr then
        report 14 0x20 ((addrMoved head addr hop s).regN Reg.ROPE_ERRCNT) 0
          ((addrMoved head addr hop s).setFlag .ROPE_STAT_CONFL true)
        else addrMoved head addr hop s).modRope (fun r => { r with base := delay, probes := [], probesLeft := 8 }) := by
    simp only [takeAddr, hmoved, if_true]
    rfl
  rw [htake, hpinned]
  rfl

theorem enumAssign_own {head addr hop delay : Nat} (s : State) : enumAssign head addr hop delay s.uid s =
    takeAddr head addr hop delay (takeInbox tyEnum head s) := by
  obtain ⟨r, hr⟩ := (onlyWires_takeInbox tyEnum head s).only
  rw [enumAssign, hr]
  exact if_pos rfl

theorem enumAssign_other {head addr hop delay uid : Nat} {s : State} (h : uid ≠ s.uid) (hup : s.isUp .dn = true)
    (hin : s.rope.inbox = []) : enumAssign head addr hop delay uid s =
      queueFrame .dn ⟨0, tyEnum, head, 0, leNat 1 3 ++ leNat 1 addr ++ leNat 1 hop ++ leNat 2 s.rope.cumDelay ++ uidBytes uid,
        false⟩ (s.modRope (fun r => { r with dnMask := r.dnMask ||| 2 ^ addr })) := by
  rw [enumAssign, takeInbox_of_empty hin]
  dsimp only
  rw [if_neg h]
  exact if_pos hup

/-! ### Done, finish and reattach (R502, R506) -/

theorem queryProxy_of_other {s : State} (h : s.rope.proxy ≠ s.unitNo) : queryProxy s = sendEnum s.rope.proxy 1 [] s := by
  rw [queryProxy, if_neg h]

theorem startEnum_of_other {src : Nat} {s : State} (h : src ≠ s.unitNo) : startEnum src s =
    sendEnum src 1 [] (s.modRope (fun r => { r with enumOn := true, proxy := src })) :=
  queryProxy_of_other (s := s.modRope (fun r => { r with enumOn := true, proxy := src })) h

/-- The head has ended the enumeration. -/
def enumEnded (s : State) : State := setEnumd (s.modRope (fun r => { r with enumOn := false }))

theorem endEnum_queues (s : State) : OnlyQueues (enumEnded s) (endEnum s) := onlyQueues_sendEnum ..

theorem setEnumd_shown (s : State) : (setEnumd s).flag .ROPE_STAT_ENUMD = true ∧
    FieldsKept [.ROPE_STAT_ENUMD] s (setEnumd s) ∧ setEnumd s = { s with regs := (setEnumd s).regs } :=
  ⟨flag_setFlag_same _ _ _ (by decide) rfl, FieldsKept.setFlag (.refl _ s) (by simp) (by decide), rfl⟩

theorem teamState_of_tab {s t : State} (h : t.tab = s.tab) (k : Nat) : t.teamState k = s.teamState k := by
  rw [State.teamState, State.teamW, h]
  rfl

/-- FINISH at a unit that leads no team and whose image defines none. -/
theorem enumFinish_of_none {s : State}
    (hteams : (List.range 4).all (fun k => s.teamState k != tsActive && s.teamState k != tsCycle) = true)
    (himage : s.rope.imageTeams = []) :
    enumFinish s = setEnumd (takeInbox tyEnum (s.fld .ROPE_ADDR_HEADA) s) := by
  obtain ⟨u, d, i, hr⟩ := onlyWires_takeInbox tyEnum (s.fld .ROPE_ADDR_HEADA) s
  generalize hv : setEnumd (takeInbox tyEnum (s.fld .ROPE_ADDR_HEADA) s) = v
  have htab : v.tab = s.tab := by rw [← hv, hr]; rfl
  have hv0 : v.rope.imageTeams = [] := by rw [← hv, hr]; exact himage
  have hloop : forEach 4 (fun t u =>
      if u.teamState t = tsActive || u.teamState t = tsCycle then registerTeam (u.teamId t) u else u) v = v :=
    forEach_keeps (fun t => t = v) _ 4 v rfl fun k t hk ht => by
      have hidle := List.all_eq_true.mp hteams k (List.mem_range.mpr hk)
      simp only [Bool.and_eq_true, bne_iff_ne, ne_eq] at hidle
      rw [ht, teamState_of_tab htab, if_neg (by simp [hidle.1, hidle.2])]
  have hrope : v.modRope (fun r => { r with imageTeams := [] }) = v := by
    rw [State.modRope, ← hv0]
  simp only [enumFinish, hv, hloop]
  rw [hv0, hrope]
  rfl

/-! ### The obligation -/

section
variable {src addr hop delay uid d present pinned : Nat} {s : State}

theorem exec_query (h : (Instr.query src).wellFormed = true) : exec (.query src) s = .next (enumQuery src s) :=
  answerIf_next.mpr ⟨h, rfl⟩

theorem exec_report (h : (Instr.report uid present pinned).wellFormed = true) : exec (.report uid present pinned) s =
    .next (if s.isHead && s.rope.enumOn then headReport uid present pinned (takeInbox tyEnum s.rope.proxy s) else s) :=
  answerIf_next.mpr ⟨h, rfl⟩

theorem exec_assign (h : (Instr.assign src addr hop delay uid).wellFormed = true) :
    src < 32 ∧ addr < 32 ∧ hop < 32 ∧
      exec (.assign src addr hop delay uid) s = .next (enumAssign src addr hop delay uid s) := by
  have hok : (decide (src < 32) && (decide (1 ≤ addr) && decide (addr ≤ 30)) && decide (hop < 32) && decide (delay < 65536) &&
      decide (uid < 18446744073709551616)) = true := h
  simp only [Bool.and_eq_true, decide_eq_true_eq] at hok
  obtain ⟨⟨⟨⟨hsrc, hlo, hhi⟩, hhop⟩, hdelay⟩, huid⟩ := hok
  exact ⟨hsrc, by omega, hhop, answerIf_next.mpr ⟨by simp [hsrc, hlo, hhi, hhop, hdelay, huid], rfl⟩⟩

theorem exec_done (h : (Instr.done src d).wellFormed = true) : exec (.done src d) s = .next (enumDone src d s) :=
  answerIf_next.mpr ⟨h, rfl⟩

theorem exec_reattach (h : (Instr.reattach src).wellFormed = true) :
    exec (.reattach src) s = .next (if s.isHead then startEnum src (takeInbox tyEnum src s) else s) :=
  answerIf_next.mpr ⟨h, rfl⟩

theorem enumDone_of_idle (h : s.isHead = false ∨ s.rope.enumOn = false) : enumDone src d s = s := by
  rw [enumDone, if_neg]
  obtain h | h := h <;> simp [h]

theorem enumDone_of_running (hh : s.isHead = true) (he : s.rope.enumOn = true) : enumDone src d s =
    if d = linkUp then startEnum src (takeInbox tyEnum src s) else endEnum (takeInbox tyEnum src s) := by
  rw [enumDone, if_pos (by simp [hh, he])]

end

/-- Settles O45: the rope's units take their addresses from the head, one after the other. -/
theorem unitsAreEnumerated : Obligations.UnitsAreEnumerated := by
  refine ⟨?takeover, ?noTakeover, ?query, ?noPeer, ?report, ?noReport, ?assign, ?pass, ?ends, ?goesOn, ?noDone, ?finish,
    ?reattach, ?noReattach, ?moved⟩
  case takeover =>
    intro a moved s hact hdue hdn hchoose ha
    refine runs_of_eq rfl ((headTakeover_of_due hact hdue).trans (becomeHead_of_chosen
      (s := s.modRope (fun r => { r with headDue := false })) (a := a) (moved := moved) ?_ hdn)) ?_
    · exact (chooseAddr_congr rfl rfl ..).trans hchoose
    · obtain ⟨hhead, haddr, hno, hheada, hhop, hkept⟩ := headTaken_shown ha (s.modRope (fun r => { r with headDue := false }))
      obtain ⟨rs, hrs⟩ := headTaken_rest a (s.modRope (fun r => { r with headDue := false }))
      refine ⟨hhead, haddr, hno, hheada, hhop, ?_, ?_, ?_, ?_, hkept, ?_⟩
      · rw [hrs]
        exact contains_binding_bindAddr a s.uid s
      all_goals exact hrs ▸ rfl
  case noTakeover =>
    intro s h
    exact runs_of_eq rfl (headTakeover_of_none h) rfl
  case query =>
    intro src h s hwf hp
    refine runs_of_eq (exec_query hwf) (enumQuery_of_peer hp) ⟨rfl, OnlyRope.eq ?_⟩
    exact (onlyWires_takeInbox ..).only.trans (onlyQueues_sendEnum ..).only
  case noPeer =>
    intro src s hwf hp
    exact runs_of_eq (exec_query hwf) (enumQuery_of_none hp) (onlyWires_takeInbox ..).only.eq
  case report =>
    intro uid present pinned a s hwf hhead henum hchoose
    obtain ⟨u, d, i, hin⟩ := onlyWires_takeInbox tyEnum s.rope.proxy s
    have hq := headReport_of_chosen (s := takeInbox tyEnum s.rope.proxy s) (uid := uid) (present := present)
      (pinned := pinned) (a := a) (by rw [hin]; exact (chooseAddr_congr rfl rfl ..).trans hchoose)
    rw [hin] at hq
    obtain ⟨qu, qd, hq⟩ := hq
    refine runs_of_eq (exec_report hwf) ((if_pos (by simp [hhead, henum])).trans ((congrArg _ hin).trans hq)) ?_
    exact ⟨contains_binding_bindAddr a uid s, rfl, rfl, contains_filter_ne a, rfl⟩
  case noReport =>
    intro uid present pinned s hwf h
    refine runs_of_eq (exec_report hwf) (if_neg ?_) rfl
    obtain h | h := h <;> simp [h]
  case assign =>
    intro src addr hop delay s hwf haddr hpin
    obtain ⟨hsrc, ha, hhop, hexec⟩ := exec_assign (s := s) hwf
    obtain ⟨r, hr⟩ := (onlyWires_takeInbox tyEnum src s).only
    rw [show (takeInbox tyEnum src s).rope = r by rw [hr]]
    refine runs_of_eq hexec ((enumAssign_own s).trans ((congrArg _ hr).trans (takeAddr_of_first (s := { s with rope := r })
      haddr hpin))) ?_
    obtain ⟨hvalid, hno, hhop', hheada, horph⟩ := addrTaken_shown hsrc ha hhop { s with rope := r }
    obtain ⟨rs, hrs⟩ := onlyRegs_addrTaken src addr hop { s with rope := r }
    have hkept := fieldsKept_addrTaken src addr hop { s with rope := r }
    refine ⟨hvalid, hno, hhop', hheada, horph, ?_, hkept, ?_⟩
    · rw [hrs]
      rfl
    · rw [hrs]
      rfl
  case pass =>
    intro src addr hop delay uid s hwf hne hup hin
    obtain ⟨-, -, -, hexec⟩ := exec_assign (s := s) hwf
    exact runs_of_eq hexec (enumAssign_other hne hup hin) ⟨rfl, rfl, rfl⟩
  case ends =>
    intro src d s hwf hhead henum hd
    obtain ⟨r, hr⟩ := (onlyWires_takeInbox tyEnum src s).only
    obtain ⟨qu, qd, hq⟩ := endEnum_queues { s with rope := r }
    refine runs_of_eq (exec_done hwf) ((enumDone_of_running hhead henum).trans ((if_neg hd).trans
      ((congrArg _ hr).trans hq))) ⟨rfl, ?_, ?_, rfl⟩
    · exact (setEnumd_shown _).1
    · exact (setEnumd_shown s).2.1
  case goesOn =>
    intro src s hwf hhead henum hne
    have hno : (takeInbox tyEnum src s).unitNo = s.unitNo := (onlyWires_takeInbox ..).only.unitNo
    obtain ⟨qu, qd, hq⟩ := onlyQueues_sendEnum src 1 []
      ((takeInbox tyEnum src s).modRope (fun r => { r with enumOn := true, proxy := src }))
    refine runs_of_eq (exec_done hwf) ((enumDone_of_running hhead henum).trans ((if_pos rfl).trans
      (startEnum_of_other (by rw [hno]; exact hne)))) ⟨?_, ?_, rfl⟩
    · rw [hq]
      rfl
    · rw [hq]
      rfl
  case noDone =>
    intro src d s hwf h
    exact runs_of_eq (exec_done hwf) (enumDone_of_idle h) rfl
  case finish =>
    intro s hteams himage
    obtain ⟨r, hr⟩ := (onlyWires_takeInbox tyEnum (s.fld .ROPE_ADDR_HEADA) s).only
    refine runs_of_eq rfl (enumFinish_of_none hteams himage) ⟨(setEnumd_shown _).1, ?_, rfl, ?_⟩
    · rw [hr]
      exact (setEnumd_shown s).2.1
    · rw [hr]
      rfl
  case reattach =>
    intro src s hwf hhead hne
    have hno : (takeInbox tyEnum src s).unitNo = s.unitNo := (onlyWires_takeInbox ..).only.unitNo
    exact runs_of_eq (exec_reattach hwf) ((if_pos hhead).trans (startEnum_of_other (by rw [hno]; exact hne))) rfl
  case noReattach =>
    intro src s hwf hhead
    exact runs_of_eq (exec_reattach hwf) (if_neg (by simp [hhead])) rfl
  case moved =>
    intro src addr hop delay s hwf haddr hne hpin
    obtain ⟨hsrc, ha, hhop, hexec⟩ := exec_assign (s := s) hwf
    obtain ⟨r, hr⟩ := (onlyWires_takeInbox tyEnum src s).only
    refine runs_of_eq hexec ((enumAssign_own s).trans ((congrArg _ hr).trans (takeAddr_of_moved (s := { s with rope := r })
      haddr hne hpin))) ?_
    obtain ⟨hvalid, hno, hhop', hheada, horph, hmemb, hkept⟩ := addrMoved_shown hsrc ha hhop { s with rope := r }
    have hmem : MemKept s (addrMoved src addr hop { s with rope := r }) := memKept_addrMoved src addr hop { s with rope := r }
    have hrope := onlyRope_modRope (fun r => { r with base := delay, probes := [], probesLeft := 8 })
      (addrMoved src addr hop { s with rope := r })
    refine ⟨(hrope.flag _).trans hvalid, hrope.unitNo.trans hno, (hrope.fld _).trans hhop', (hrope.fld _).trans hheada,
      (hrope.flag _).trans horph, (hrope.fld _).trans hmemb, ?_, rfl, rfl, rfl, ?_, hmem.trans hrope.memKept⟩
    · obtain ⟨rs, n, x, l, hrest⟩ := addrMoved_rest src addr hop { s with rope := r }
      rw [hrest]
      rfl
    · have hall : RegsKept recordBlocks (.ROPE_TEAMS_MEMB :: addrFields) s (addrMoved src addr hop { s with rope := r }) := hkept
      exact (hall.trans (.of_regs hrope.regs)).blocksKept (by decide) (by decide)

end Sys2Proof.Machine
end

section
/-! A proof about the links of the rope (R131, R490, R493, R505, R506). -/

namespace Sys2Proof.Machine

/-! ### A port goes DOWN (R490) -/

theorem lossFld_width (p : Port) : (lossFld p).width = 1 := by cases p <;> rfl

theorem lossFld_fits (p : Port) : (lossFld p).lo + (lossFld p).width ≤ 16 := by cases p <;> decide

theorem lossFld_apart (p : Port) : (stateFld p).apart (lossFld p) = true := by cases p <;> decide

theorem LINKEV_apart (p : Port) : Fld.ROPE_STAT_LINKEV.apart (lossFld p) = true := by cases p <;> decide

/-- The fields that a port going DOWN writes. -/
def downFields (p : Port) : List Fld := [stateFld p, lossFld p, .ROPE_STAT_LINKEV]

/-- What a port going DOWN shows. -/
def downShown (p : Port) (s : State) : State :=
  (setLink p linkDown (s.setFlag (lossFld p) true)).setFlag .ROPE_STAT_LINKEV true

theorem downShown_shown (p : Port) (s : State) : (downShown p s).link p = linkDown ∧
    (downShown p s).flag (lossFld p) = true ∧ (downShown p s).flag .ROPE_STAT_LINKEV = true ∧
    FieldsKept (downFields p) s (downShown p s) := by
  have hlink := fieldsKept_setLink p linkDown (s.setFlag (lossFld p) true)
  refine ⟨?_, ?_, flag_setFlag_same _ _ _ (by decide) rfl, ?_⟩
  · rw [State.link, downShown, fld_setFlag_other _ _ _ _ (by decide) (stateFld_apart p)]
    exact link_setLink (by decide) _
  · rw [downShown, flag_setFlag_other _ _ _ _ (by decide) (LINKEV_apart p),
      hlink.flag (by simp [lossFld_apart, LINKEV_apart])]
    exact flag_setFlag_same _ _ _ (lossFld_fits p) (lossFld_width p)
  · have hloss : FieldsKept (downFields p) s (s.setFlag (lossFld p) true) :=
      FieldsKept.setFlag (.refl _ s) (by simp [downFields]) (by rw [lossFld_width]; decide)
    exact (hloss.trans (hlink.mono (by simp [downFields]))).setFlag (by simp [downFields]) (by decide)

theorem onlyRegs_downShown (p : Port) (s : State) : OnlyRegs s (downShown p s) :=
  (((OnlyRegs.refl s).setFlag _ _).trans (onlyRegs_setLink _ _ _)).setFlag _ _

/-- A port without the frames that a loss discards. -/
def droppedPort (q : PortSt) : PortSt :=
  { q with queue := q.queue.filter (fun f => f.vc == 2), sending := none, seen := false, peer := none, unheard := false }

/-- The other port keeps all but the units that discarded frames free. -/
def OnlyFreed (q r : PortSt) : Prop := ∃ f c, r = { q with freedOut := f, creditPend := c }

theorem port_freeUnits_other (p : Port) (vc n : Nat) (s : State) :
    (freeUnits (otherPort p) vc n s).port p = s.port p := by
  cases p <;> rfl

theorem port_freeUnits_same (p : Port) (vc n : Nat) (s : State) : OnlyFreed (s.port p) ((freeUnits p vc n s).port p) :=
  ⟨_, _, port_modPort_same ..⟩

theorem dropWaitingFrames_shown (p : Port) (s : State) :
    (dropWaitingFrames p s).port p = droppedPort (s.port p) ∧
      OnlyFreed (s.port (otherPort p)) ((dropWaitingFrames p s).port (otherPort p)) ∧
      (lostForwards (s.port p) = [] → (dropWaitingFrames p s).port (otherPort p) = s.port (otherPort p)) ∧
      OnlyWires s (dropWaitingFrames p s) := by
  have hstart : (s.modPort p droppedPort).port (otherPort p) = s.port (otherPort p) := port_modPort_other ..
  have hall := forList_keeps (fun t => t.port p = droppedPort (s.port p) ∧
      OnlyFreed (s.port (otherPort p)) (t.port (otherPort p)) ∧ OnlyWires s t)
    (fun f t => freeUnits (otherPort p) f.vc (frameUnits f.payload.length) t) (lostForwards (s.port p))
    (s.modPort p droppedPort) ⟨port_modPort_same .., ⟨_, _, hstart⟩, onlyWires_modPort ..⟩ fun f t _ ⟨hp, hother, hw⟩ => by
      obtain ⟨a, b, hother⟩ := hother
      obtain ⟨c, d, hfreed⟩ := port_freeUnits_same (otherPort p) f.vc (frameUnits f.payload.length) t
      exact ⟨(port_freeUnits_other ..).trans hp, ⟨c, d, by rw [hfreed, hother]⟩, hw.trans (onlyWires_freeUnits ..)⟩
  obtain ⟨hp, hother, hw⟩ := hall
  refine ⟨hp, hother, fun hnone => ?_, hw⟩
  have hsame : dropWaitingFrames p s = s.modPort p droppedPort := by
    rw [dropWaitingFrames, hnone]
    rfl
  rw [hsame, hstart]

/-! ### A remote access without a rope (R131) -/

theorem failRemote_rest (s : State) : ∃ h, failRemote s = { s with host := h } := by
  unfold failRemote
  split
  · split
    · split
      · exact ⟨_, rfl⟩
      · exact ⟨s.host, rfl⟩
    · exact ⟨s.host, rfl⟩
  · exact ⟨s.host, rfl⟩

theorem failRemote_of_pending {s : State} {r : Remote} (hup : s.link .up = linkDown) (hdn : s.link .dn = linkDown)
    (hr : s.host.remote = some r) (hnone : r.answer = none) :
    (failRemote s).host.remote = some { r with answer := some ⟨stUnitErr, 0⟩ } := by
  simp [failRemote, hup, hdn, hr, hnone]

/-! ### A port is lost (R490, R505) -/

/-- A port that has gone DOWN, before what its loss does at this unit. -/
def goneDown (p : Port) (s : State) : State := failRemote (goDown p s)

/-- Only registers, the ports with their frames, and the host port differ. -/
def OnlyLost (s t : State) : Prop :=
  ∃ rs u d i h, t = { s with regs := rs, rope := { s.rope with up := u, dn := d, inbox := i }, host := h }

theorem goneDown_rest (p : Port) (s : State) : OnlyLost s (goneDown p s) := by
  obtain ⟨rs, hrs⟩ := onlyRegs_downShown p s
  obtain ⟨u, d, i, hw⟩ := (dropWaitingFrames_shown p (downShown p s)).2.2.2
  obtain ⟨h, hh⟩ := failRemote_rest (goDown p s)
  have hdown : goDown p s = { s with regs := rs, rope := { s.rope with up := u, dn := d, inbox := i } } :=
    hw.trans (hrs ▸ rfl)
  exact ⟨rs, u, d, i, h, hh.trans (hdown ▸ rfl)⟩

theorem goneDown_regs (p : Port) (s : State) : (goneDown p s).regs = (downShown p s).regs := by
  obtain ⟨h, hh⟩ := failRemote_rest (goDown p s)
  rw [goneDown, hh]
  exact (dropWaitingFrames_shown p (downShown p s)).2.2.2.only.regs

theorem goneDown_shown (p : Port) (s : State) : (goneDown p s).link p = linkDown ∧
    (goneDown p s).flag (lossFld p) = true ∧ (goneDown p s).flag .ROPE_STAT_LINKEV = true ∧
    FieldsKept (downFields p) s (goneDown p s) := by
  obtain ⟨hlink, hloss, hev, hkept⟩ := downShown_shown p s
  have hsame : FieldsKept [] (downShown p s) (goneDown p s) := .of_regs (goneDown_regs p s)
  exact ⟨(hsame.fld rfl).trans hlink, (hsame.flag rfl).trans hloss, (hsame.flag rfl).trans hev,
    hkept.trans (hsame.mono (by simp))⟩

theorem goneDown_ports (p : Port) (s : State) : (goneDown p s).port p = droppedPort (s.port p) ∧
    OnlyFreed (s.port (otherPort p)) ((goneDown p s).port (otherPort p)) ∧
    (lostForwards (s.port p) = [] → (goneDown p s).port (otherPort p) = s.port (otherPort p)) := by
  obtain ⟨h, hh⟩ := failRemote_rest (goDown p s)
  have hrope : (goneDown p s).rope = (dropWaitingFrames p (downShown p s)).rope := by
    rw [goneDown, hh]
    rfl
  obtain ⟨rs, hrs⟩ := onlyRegs_downShown p s
  have hport : ∀ q, (downShown p s).port q = s.port q := fun q => port_of_rope (by rw [hrs]) q
  obtain ⟨hp, hother, hnone, -⟩ := dropWaitingFrames_shown p (downShown p s)
  simp only [hport] at hp hother hnone
  rw [port_of_rope hrope, port_of_rope hrope]
  exact ⟨hp, hother, hnone⟩

theorem goneDown_remote {s : State} {r : Remote} (hup : s.link .up = linkDown) (hr : s.host.remote = some r)
    (hnone : r.answer = none) :
    (goneDown .dn s).host.remote = some { r with answer := some ⟨stUnitErr, 0⟩ } := by
  obtain ⟨hlink, -, -, hkept⟩ := downShown_shown .dn s
  have hdrop := (dropWaitingFrames_shown .dn (downShown .dn s)).2.2.2.only
  obtain ⟨rs, hrs⟩ := onlyRegs_downShown .dn s
  refine failRemote_of_pending ?_ ?_ ?_ hnone
  · exact (hdrop.link .up).trans ((hkept.fld (g := stateFld .up) (by decide)).trans hup)
  · exact (hdrop.link .dn).trans hlink
  · obtain ⟨rp, hrp⟩ := hdrop
    change (dropWaitingFrames .dn (downShown .dn s)).host.remote = some r
    rw [hrp, hrs]
    exact hr

/-! ### DN is lost -/

/-- DN is lost, before the report. -/
def lostDn (s : State) : State :=
  (if (goneDown .dn s).isHead then detachFrom 0 (goneDown .dn s) else goneDown .dn s).setFlag .ROPE_STAT_BCNTX false

theorem portLost_dn (s : State) : ∃ p2, portLost .dn s = report 14 1 p2 0 (lostDn s) := ⟨_, rfl⟩

/-- The head's view of a unit that has lost DN. -/
theorem lostDn_rope (s : State) : ∃ c e, lostDn s = ({ goneDown .dn s with
    rope := { (goneDown .dn s).rope with chain := c, detached := e } } : State).setFlag .ROPE_STAT_BCNTX false ∧
    (s.isHead = true → c = []) := by
  have hhead : (goneDown .dn s).isHead = s.isHead := (goneDown_shown .dn s).2.2.2.flag (by decide)
  unfold lostDn
  rw [hhead]
  split
  · exact ⟨_, _, rfl, fun _ => rfl⟩
  · next h => exact ⟨(goneDown .dn s).rope.chain, (goneDown .dn s).rope.detached, rfl, fun h' => absurd h' h⟩

/-- The fields that a loss of DN writes. -/
def lostDnFields : List Fld := .ROPE_STAT_BCNTX :: downFields .dn

theorem lostDn_shown (s : State) : (lostDn s).link .dn = linkDown ∧ (lostDn s).flag .ROPE_DN_LOSSEV = true ∧
    (lostDn s).flag .ROPE_STAT_LINKEV = true ∧ (lostDn s).flag .ROPE_STAT_BCNTX = false ∧
    FieldsKept lostDnFields s (lostDn s) := by
  obtain ⟨hlink, hloss, hev, hkept⟩ := goneDown_shown .dn s
  obtain ⟨c, e, hlost, -⟩ := lostDn_rope s
  have hset : FieldsKept [.ROPE_STAT_BCNTX] (goneDown .dn s) (lostDn s) := by
    rw [hlost]
    exact FieldsKept.setFlag (.of_regs rfl) (by simp) (by decide)
  refine ⟨(hset.fld (by decide)).trans hlink, (hset.flag (by decide)).trans hloss, (hset.flag (by decide)).trans hev, ?_,
    (hkept.mono fun f hf => List.mem_cons_of_mem _ hf).trans (hset.mono (by simp))⟩
  rw [hlost]
  exact flag_setFlag_same _ _ _ (by decide) rfl

theorem lostDn_ports (s : State) (p : Port) : (lostDn s).port p = (goneDown .dn s).port p := by
  obtain ⟨c, e, hlost, -⟩ := lostDn_rope s
  rw [hlost]
  cases p <;> rfl

/-- Only registers, the rope and the host port differ. -/
theorem lostDn_rest (s : State) : ∃ rs r h, lostDn s = { s with regs := rs, rope := r, host := h } := by
  obtain ⟨rs, u, d, i, h, hdown⟩ := goneDown_rest .dn s
  obtain ⟨c, e, hlost, -⟩ := lostDn_rope s
  rw [hlost, hdown]
  exact ⟨_, _, _, rfl⟩

theorem linkLoss_of_heard {p : Port} {s : State}
    (h : s.link p = linkSignal ∨ s.link p = linkUp ∨ (s.link p = linkDown ∧ (s.port p).unheard = true)) :
    linkLoss p s = portLost p s := by
  rw [linkLoss, if_neg]
  obtain h | h | ⟨h, hu⟩ := h
  · simp [h, linkSignal, linkOff, linkDown]
  · simp [h, linkUp, linkOff, linkDown]
  · simp [h, hu, linkOff, linkDown]

theorem linkLoss_of_none {p : Port} {s : State}
    (h : s.link p = linkOff ∨ (s.link p = linkDown ∧ (s.port p).unheard = false)) : linkLoss p s = s := by
  rw [linkLoss, if_pos]
  obtain h | ⟨h, hu⟩ := h
  · simp [h]
  · simp [h, hu]

/-! ### UP is lost -/

/-- UP is lost at a unit below the head, before the report. -/
def lostUp (s : State) : State := (goneDown .up s).setFlag .ROPE_STAT_ORPHAN true

theorem portLost_up_of_member {s : State} (hhead : s.isHead = false) (haddr : s.hasAddr = true) :
    ∃ p2, portLost .up s = report 14 0 p2 0 (lostUp s) := by
  have hkept := (goneDown_shown .up s).2.2.2
  have hh : (goneDown .up s).isHead = false := (hkept.flag (by decide)).trans hhead
  have ha : (goneDown .up s).hasAddr = true := (hkept.flag (by decide)).trans haddr
  exact ⟨_, if_pos (show (!(goneDown .up s).isHead && (goneDown .up s).hasAddr) = true by simp [hh, ha])⟩

theorem portLost_up_of_other {s : State} (h : s.isHead = true ∨ s.hasAddr = false) : portLost .up s = goneDown .up s := by
  have hkept := (goneDown_shown .up s).2.2.2
  have hh : (goneDown .up s).isHead = s.isHead := hkept.flag (by decide)
  have ha : (goneDown .up s).hasAddr = s.hasAddr := hkept.flag (by decide)
  refine if_neg (show ¬ (!(goneDown .up s).isHead && (goneDown .up s).hasAddr) = true from ?_)
  rw [hh, ha]
  obtain h | h := h <;> simp [h]

theorem lostUp_shown (s : State) : (lostUp s).link .up = linkDown ∧ (lostUp s).flag .ROPE_UP_LOSSEV = true ∧
    (lostUp s).flag .ROPE_STAT_ORPHAN = true ∧ FieldsKept (.ROPE_STAT_ORPHAN :: downFields .up) s (lostUp s) := by
  obtain ⟨hlink, hloss, -, hkept⟩ := goneDown_shown .up s
  have hset : FieldsKept [.ROPE_STAT_ORPHAN] (goneDown .up s) (lostUp s) :=
    FieldsKept.setFlag (.refl _ _) (by simp) (by decide)
  exact ⟨(hset.fld (by decide)).trans hlink, (hset.flag (by decide)).trans hloss, flag_setFlag_same _ _ _ (by decide) rfl,
    (hkept.mono fun f hf => List.mem_cons_of_mem _ hf).trans (hset.mono (by simp))⟩

theorem lostUp_rest (s : State) : ∃ rs r h, lostUp s = { s with regs := rs, rope := r, host := h } := by
  obtain ⟨rs, u, d, i, h, hdown⟩ := goneDown_rest .up s
  rw [lostUp, hdown]
  exact ⟨_, _, _, rfl⟩

/-! ### The report of a lost port -/

/-- What a report of the rope source, of a class below F, leaves of a state whose registers, rope and host port have changed. -/
theorem ropeReport_after {s u : State} {fs : List Fld} {param p2 p3 : Nat} (hw : Watches 14 s) (hk : FieldsKept fs s u)
    (hrest : ∃ rs r h, u = { s with regs := rs, rope := r, host := h }) (hfs : fs.all (fun f => blockOf f.addr == 8) = true)
    (hcls : belayClass 14 param ≠ clsF) :
    Reported 14 param (belayClass 14 param) s (report 14 param p2 p3 u) ∧
      BlocksKept (8 :: reportBlocks) s (report 14 param p2 p3 u) ∧ MemKept s (report 14 param p2 p3 u) ∧
      (∀ g : Fld, blockOf g.addr = 8 → (report 14 param p2 p3 u).fld g = u.fld g) ∧
      (report 14 param p2 p3 u).rope = u.rope ∧ (report 14 param p2 p3 u).host = u.host := by
  have hreport := regsKept_report (src := 14) (param := param) (p2 := p2) (p3 := p3) (s := u) hcls (by decide)
  have hblock : ∀ f ∈ fs, blockOf f.addr = 8 := fun f hf => by simpa using List.all_eq_true.mp hfs f hf
  have hclear : clearOfCollector [] fs = true := by
    simp only [clearOfCollector, Bool.and_eq_true, List.all_eq_true, bne_iff_ne, ne_eq]
    exact ⟨⟨rfl, rfl⟩, fun f hf => by rw [hblock f hf]; decide⟩
  obtain ⟨rs, r, h, hrest⟩ := hrest
  have hflt : u.flt = s.flt := by rw [hrest]
  have hmem : MemKept s u := by rw [hrest]; exact .of_eq rfl rfl rfl
  obtain ⟨_, _, _, _, _, honly⟩ := onlyReport_report (src := 14) hcls p2 p3 u
  refine ⟨report_after (by decide) hw hk.regsKept hflt hclear, ?_, hmem.trans (memKept_report ..), fun g hg =>
    hreport.fld (by rw [hg]; decide) rfl, by rw [honly], by rw [honly]⟩
  have hall : RegsKept reportBlocks fs s (report 14 param p2 p3 u) :=
    (hk.regsKept.mono (List.nil_subset _) (List.Subset.refl _)).trans (hreport.mono (List.Subset.refl _) (List.nil_subset _))
  exact (hall.mono (List.subset_cons_self _ _) (List.Subset.refl _)).blocksKept (List.Subset.refl _)
    fun f hf => by rw [hblock f hf]; exact List.mem_cons_self

/-! ### Transitions and HELLOs (R490) -/

section
variable {p : Port} {h : Hello} {s : State}

/-- The neighbour's HELLO has set SEEN. -/
def heard (p : Port) (h : Hello) (s : State) : State := s.modPort p (fun q => { q with seen := true, peer := some h })

theorem helloReceive_of_deaf (hp : s.link p = linkOff ∨ (s.port p).holdDown = true) : helloReceive p h s = s := by
  rw [helloReceive, if_pos]
  obtain hp | hp := hp <;> simp [hp]

theorem helloReceive_of_heard (hoff : s.link p ≠ linkOff) (hhold : (s.port p).holdDown = false) : helloReceive p h s =
    if s.isUp p then heard p h s else if h.seen then goUp p (heard p h s) else setLink p linkSignal (heard p h s) := by
  have hup : (heard p h s).isUp p = s.isUp p := by
    rw [State.isUp, show (heard p h s).link p = s.link p from (onlyRope_modPort ..).link p]
    rfl
  rw [helloReceive, if_neg (by simp [hoff, hhold])]
  dsimp only
  rw [show s.modPort p (fun q => { q with seen := true, peer := some h }) = heard p h s from rfl, hup]

theorem port_heard_same : (heard p h s).port p = { s.port p with seen := true, peer := some h } := port_modPort_same ..

theorem port_heard_other : (heard p h s).port (otherPort p) = s.port (otherPort p) := port_modPort_other ..

theorem onlyWires_heard : OnlyWires s (heard p h s) := onlyWires_modPort ..

theorem not_isUp_of_low (hl : s.link p = linkDown ∨ s.link p = linkSignal) : s.isUp p = false ∧ s.link p ≠ linkOff := by
  obtain hl | hl := hl <;> simp [State.isUp, hl, linkDown, linkSignal, linkUp, linkOff]

/-- A port starts counting credit anew. -/
def freshPort (q : PortSt) : PortSt :=
  { q with sent := [0, 0, 0, 0], freed := [0, 0, 0, 0], received := [0, 0, 0, 0], freedOut := [0, 0, 0, 0], creditPend := [] }

/-- A port has come UP. -/
def cameUp (p : Port) (s : State) : State := setLink p linkUp (s.modPort p freshPort)

theorem cameUp_shown (hl : s.isUp p = false) : (cameUp p s).isUp p = true ∧ (cameUp p s).flag .ROPE_STAT_LINKEV = true ∧
    (cameUp p s).port p = freshPort (s.port p) ∧ FieldsKept [stateFld p, .ROPE_STAT_LINKEV] s (cameUp p s) := by
  have hmod := onlyRope_modPort p freshPort s
  have hlink : (s.modPort p freshPort).link p ≠ linkUp := by
    rw [hmod.link]
    simpa [State.isUp] using hl
  obtain ⟨rs, hrs⟩ := onlyRegs_setLink p linkUp (s.modPort p freshPort)
  refine ⟨isUp_iff.mpr (link_setLink (by decide) _), flag_LINKEV_setLink hlink, ?_,
    (FieldsKept.of_regs hmod.regs).trans (fieldsKept_setLink _ _ _)⟩
  exact (port_of_rope (by rw [cameUp, hrs]) p).trans (port_modPort_same ..)

theorem cameUp_rest (p : Port) (s : State) : ∃ rs u d, cameUp p s =
    { s with regs := rs, rope := { s.rope with up := u, dn := d } } := by
  obtain ⟨rs, hrs⟩ := onlyRegs_setLink p linkUp (s.modPort p freshPort)
  rw [cameUp, hrs]
  cases p
  · exact ⟨rs, _, s.rope.dn, rfl⟩
  · exact ⟨rs, s.rope.up, _, rfl⟩

theorem goUp_dn (s : State) : goUp .dn s =
    if (cameUp .dn s).isHead then startEnum (cameUp .dn s).unitNo (cameUp .dn s)
    else if (cameUp .dn s).hasAddr && (cameUp .dn s).flag .ROPE_STAT_ENUMD then
      sendEnum ((cameUp .dn s).fld .ROPE_ADDR_HEADA) 6 [] (cameUp .dn s)
    else cameUp .dn s := rfl

/-- UP is connected: no takeover is due any more. -/
def upTaken (s : State) : State := (cameUp .up s).modRope (fun r => { r with headDue := false })

/-- A head with a rope above it is head no longer. -/
def headLost (s : State) : State :=
  ((s.setFlag .ROPE_STAT_HEAD false).setFlag .ROPE_STAT_BCNTX false).modRope (fun r => { r with enumOn := false })

theorem upTaken_rest (s : State) : OnlyRope (cameUp .up s) (upTaken s) := onlyRope_modRope ..

theorem headLost_shown (s : State) : (headLost s).isHead = false ∧
    FieldsKept [.ROPE_STAT_HEAD, .ROPE_STAT_BCNTX] s (headLost s) ∧
    ∃ rs, headLost s = { s with regs := rs, rope := { s.rope with enumOn := false } } := by
  refine ⟨?_, ?_, _, rfl⟩
  · rw [State.isHead, headLost, (onlyRope_modRope ..).flag, flag_setFlag_other _ _ _ _ (by decide) (by decide)]
    exact flag_setFlag_same _ _ _ (by decide) rfl
  · exact (FieldsKept.setFlag (FieldsKept.setFlag (.refl _ s) (by simp) (by decide)) (by simp) (by decide)).trans
      (.of_regs rfl)

theorem goUp_up (s : State) : goUp .up s =
    if (upTaken s).isHead && (upTaken s).role != 1 then headLost (upTaken s) else upTaken s := rfl

end

/-! ### The head asks its new neighbour (R502, R503) -/

/-- What the choice of an address at the head leaves: the ports' states, the proxy and the neighbour's HELLO. -/
def HeadKept (s t : State) : Prop :=
  RegsKept recordBlocks [.ROPE_STAT_ENUMD] s t ∧ MemKept s t ∧ t.rope.proxy = s.rope.proxy ∧
    t.rope.dn.peer = s.rope.dn.peer

theorem HeadKept.refl (s : State) : HeadKept s s := ⟨.refl s, .of_eq rfl rfl rfl, rfl, rfl⟩

theorem HeadKept.trans {s t u : State} (h : HeadKept s t) (k : HeadKept t u) : HeadKept s u :=
  ⟨h.1.trans k.1, h.2.1.trans k.2.1, k.2.2.1.trans h.2.2.1, k.2.2.2.trans h.2.2.2⟩

theorem headKept_modRope {f : Rope → Rope} {s : State} (hp : (f s.rope).proxy = s.rope.proxy)
    (hq : (f s.rope).dn.peer = s.rope.dn.peer) : HeadKept s (s.modRope f) :=
  ⟨.of_regs rfl, .of_eq rfl rfl rfl, hp, hq⟩

theorem OnlyQueues.headKept {s t : State} (h : OnlyQueues s t) : HeadKept s t := by
  obtain ⟨qu, qd, rfl⟩ := h
  exact ⟨.of_regs rfl, .of_eq rfl rfl rfl, rfl, rfl⟩

theorem headKept_mkRecord (code cls : Nat) (ps : List Nat) (s : State) : HeadKept s (mkRecord code cls ps s) := by
  have hkept := Kept.mkRecord (bs := recordBlocks) (fs := []) (.refl s) (fun _ h => h) code cls ps
  obtain ⟨r, n, x, l, hrec⟩ := onlyRecord_mkRecord code cls ps s
  exact ⟨hkept.regs.mono (fun _ h => h) (by simp), hkept.mem, by rw [hrec], by rw [hrec]⟩

theorem headKept_endEnum (s : State) : HeadKept s (endEnum s) := by
  have hended : HeadKept s (enumEnded s) :=
    ⟨FieldsKept.regsKept (FieldsKept.setFlag (.of_regs rfl) (by simp) (by decide)), .of_eq rfl rfl rfl, rfl, rfl⟩
  exact hended.trans (endEnum_queues s).headKept

theorem headKept_sendAssign (a uid : Nat) (s : State) : HeadKept s (sendAssign a uid s) :=
  (headKept_modRope (f := fun r => { r with dnMask := r.dnMask ||| 2 ^ a }) rfl rfl).trans (sendAssign_queues a uid s).headKept

theorem headKept_releaseDetached (s : State) : HeadKept s (releaseDetached s) := by
  unfold releaseDetached
  split
  · exact .refl s
  · exact headKept_modRope rfl rfl

theorem headKept_headReport (uid present pinned : Nat) (s : State) : HeadKept s (headReport uid present pinned s) := by
  have hdetached : HeadKept s (detachFrom (proxyHop s) s) := headKept_modRope rfl rfl
  unfold headReport
  dsimp only
  generalize detachFrom (proxyHop s) s = t at hdetached
  have hroom : HeadKept s (if (chooseAddr t.rope uid present pinned).isNone then releaseDetached t else t) := by
    split
    · exact hdetached.trans (headKept_releaseDetached t)
    · exact hdetached
  generalize (if (chooseAddr t.rope uid present pinned).isNone then releaseDetached t else t) = u at hroom
  split
  · exact (hroom.trans (headKept_mkRecord ..)).trans (headKept_endEnum _)
  · next a moved _ =>
    have hmoved : HeadKept s (if moved then mkRecord 0x307 clsNote [pinned, a, uid % 65536, uid / 65536 % 65536] u else u) := by
      split
      · exact hroom.trans (headKept_mkRecord ..)
      · exact hroom
    generalize (if moved then mkRecord 0x307 clsNote [pinned, a, uid % 65536, uid / 65536 % 65536] u else u) = v at hmoved
    exact ((hmoved.trans (headKept_modRope rfl rfl)).trans (headKept_modRope rfl rfl)).trans (headKept_sendAssign ..)

theorem queryProxy_of_own {h : Hello} {s : State} (hown : s.rope.proxy = s.unitNo) (hp : s.rope.dn.peer = some h)
    (hup : s.isUp .dn = true) : queryProxy s = headReport h.uid h.addr h.pinned s := by
  rw [queryProxy, if_pos hown, hp]
  exact if_pos hup

/-- The head that is its own proxy asks the neighbour that has just answered. -/
theorem startEnum_own {h : Hello} {s : State} (hp : s.rope.dn.peer = some h) (hup : s.isUp .dn = true) :
    HeadKept (s.modRope (fun r => { r with enumOn := true, proxy := s.unitNo })) (startEnum s.unitNo s) := by
  have hown : startEnum s.unitNo s =
      headReport h.uid h.addr h.pinned (s.modRope (fun r => { r with enumOn := true, proxy := s.unitNo })) :=
    queryProxy_of_own (s := s.modRope (fun r => { r with enumOn := true, proxy := s.unitNo })) rfl hp hup
  rw [hown]
  exact headKept_headReport ..

/-! ### A unit with an address reports its new neighbour (R506) -/

theorem isMine_congr {s t : State} (ha : t.hasAddr = s.hasAddr) (hn : t.unitNo = s.unitNo) (htab : t.tab = s.tab)
    (dst : Nat) : t.isMine dst = s.isMine dst := by
  have hled : t.ledSlot dst = s.ledSlot dst := by
    have hstate : t.teamState = s.teamState := funext (teamState_of_tab htab)
    have hid : t.teamId = s.teamId := funext fun k => by rw [State.teamId, State.teamW, htab]; rfl
    rw [State.ledSlot, hstate, hid]
    rfl
  rw [State.isMine, State.isMine, ha, hn, hled]

/-! ### The obligation -/

theorem exec_helloReceive {p : Port} {h : Hello} {s : State} (hwf : (Instr.helloReceive p h).wellFormed = true) :
    exec (.helloReceive p h) s = .next (helloReceive p h s) := answerIf_next.mpr ⟨hwf, rfl⟩

theorem chooses_of_low {p : Port} {h : Hello} {s : State} (hl : s.link p = linkDown ∨ s.link p = linkSignal)
    (hhold : (s.port p).holdDown = false) :
    helloReceive p h s = if h.seen then goUp p (heard p h s) else setLink p linkSignal (heard p h s) := by
  obtain ⟨hup, hoff⟩ := not_isUp_of_low hl
  rw [helloReceive_of_heard hoff hhold, hup]
  rfl

theorem cameUp_heard {p : Port} {h : Hello} {s : State} (hl : s.link p = linkDown ∨ s.link p = linkSignal) :
    (cameUp p (heard p h s)).isUp p = true ∧ (cameUp p (heard p h s)).flag .ROPE_STAT_LINKEV = true ∧
      (cameUp p (heard p h s)).port p = freshPort { s.port p with seen := true, peer := some h } ∧
      FieldsKept [stateFld p, .ROPE_STAT_LINKEV] s (cameUp p (heard p h s)) ∧
      ∃ rs u d, cameUp p (heard p h s) = { s with regs := rs, rope := { s.rope with up := u, dn := d } } := by
  have hwires : OnlyWires s (heard p h s) := onlyWires_heard
  have hup : (heard p h s).isUp p = false := by
    rw [State.isUp, hwires.only.link]
    exact (not_isUp_of_low hl).1
  obtain ⟨hu, hev, hport, hkept⟩ := cameUp_shown hup
  refine ⟨hu, hev, hport.trans (by rw [port_heard_same]), (FieldsKept.of_regs hwires.only.regs).trans hkept, ?_⟩
  obtain ⟨rs, u, d, hrest⟩ := cameUp_rest p (heard p h s)
  cases p
  · exact ⟨rs, u, d, hrest⟩
  · exact ⟨rs, u, d, hrest⟩

/-- Settles O42: the ports of the rope go DOWN and come UP. -/
theorem linksComeUpAndGoDown : Obligations.LinksComeUpAndGoDown := by
  refine ⟨?lossDn, ?lossUp, ?noLoss, ?signal, ?noSignal, ?hello, ?noHello, ?seenNot, ?seen, ?deaf, ?resetEnd, ?lossHead,
    ?again, ?head, ?member⟩
  case lossDn =>
    intro s hl hw
    obtain ⟨p2, hlost⟩ := portLost_dn s
    obtain ⟨hlink, hloss, hev, hbcn, hkept⟩ := lostDn_shown s
    obtain ⟨hrep, hblocks, hmem, hfld, hrope, hhost⟩ := ropeReport_after (param := 1) (p2 := p2) (p3 := 0) hw hkept
      (lostDn_rest s) (by decide) (show clsC ≠ clsF by decide)
    have hflag : ∀ g : Fld, blockOf g.addr = 8 → (report 14 1 p2 0 (lostDn s)).flag g = (lostDn s).flag g :=
      fun g hg => by rw [State.flag, hfld g hg]; rfl
    obtain ⟨hdn, ⟨fo, cp, hup⟩, hsame⟩ := goneDown_ports .dn s
    have hdn' : (lostDn s).rope.dn = droppedPort s.rope.dn := (lostDn_ports s .dn).trans hdn
    have hup' : (lostDn s).rope.up = { s.rope.up with freedOut := fo, creditPend := cp } := (lostDn_ports s .up).trans hup
    have hhost' : (lostDn s).host = (goneDown .dn s).host := by
      obtain ⟨c, e, heq, -⟩ := lostDn_rope s
      rw [heq]
      rfl
    refine runs_of_eq rfl ((linkLoss_of_heard hl).trans hlost)
      ⟨(hfld _ (by decide)).trans hlink, (hflag _ (by decide)).trans hloss, (hflag _ (by decide)).trans hev,
       (hflag _ (by decide)).trans hbcn, ?_, ?_, ?_, ?_, ?_, ?_, ?_, fun hn => ?_, fun hu r hr hn => ?_, fun hh => ?_, hrep,
       hblocks, hmem⟩
    iterate 5 rw [hrope, hdn']; rfl
    iterate 2 rw [hrope, hup']
    · rw [hrope]
      exact (lostDn_ports s .up).trans (hsame hn)
    · rw [hhost, hhost']
      exact goneDown_remote hu hr hn
    · obtain ⟨c, e, heq, hc⟩ := lostDn_rope s
      rw [hrope, heq]
      exact hc hh
  case lossUp =>
    intro s hl hhead haddr hw
    obtain ⟨p2, hlost⟩ := portLost_up_of_member hhead haddr
    obtain ⟨hlink, hloss, horph, hkept⟩ := lostUp_shown s
    obtain ⟨hrep, hblocks, hmem, hfld, hrope, -⟩ := ropeReport_after (param := 0) (p2 := p2) (p3 := 0) hw hkept
      (lostUp_rest s) (by decide) (show clsC ≠ clsF by decide)
    have hflag : ∀ g : Fld, blockOf g.addr = 8 → (report 14 0 p2 0 (lostUp s)).flag g = (lostUp s).flag g :=
      fun g hg => by rw [State.flag, hfld g hg]; rfl
    obtain ⟨hup, ⟨fo, cp, hdn⟩, hsame⟩ := goneDown_ports .up s
    have hup' : (lostUp s).rope.up = droppedPort s.rope.up := hup
    have hdn' : (lostUp s).rope.dn = { s.rope.dn with freedOut := fo, creditPend := cp } := hdn
    refine runs_of_eq rfl ((linkLoss_of_heard hl).trans hlost)
      ⟨(hfld _ (by decide)).trans hlink, (hflag _ (by decide)).trans hloss, (hflag _ (by decide)).trans horph, ?_, ?_, ?_, ?_,
       fun hn => ?_, hrep, hblocks, hmem⟩
    iterate 3 rw [hrope, hup']; rfl
    · rw [hrope, hdn']
    · rw [hrope]
      exact hsame hn
  case noLoss =>
    intro p s h
    exact runs_of_eq rfl (linkLoss_of_none h) rfl
  case signal =>
    intro p s hl hhold
    refine runs_of_eq rfl (if_pos (by simp [hl, hhold])) ⟨link_setLink (by decide) s, flag_LINKEV_setLink (by rw [hl]; decide),
      fieldsKept_setLink _ _ _, (onlyRegs_setLink _ _ _).eq⟩
  case noSignal =>
    intro p s h
    refine runs_of_eq rfl (if_neg ?_) rfl
    obtain h | h := h <;> simp [h]
  case hello =>
    intro p s hl hhold
    refine runs_of_eq rfl (if_pos ?_) ⟨?_, port_queueFrame_other .., (onlyQueues_queueFrame ..).only.eq⟩
    · obtain h | h := hl <;> simp [h, hhold]
    · rw [port_queueFrame_same]
  case noHello =>
    intro p s h
    refine runs_of_eq rfl (if_neg ?_) rfl
    obtain h | h | h := h
    · simp [isUp_iff.mp h, linkUp, linkDown, linkSignal]
    · simp [h, linkOff, linkDown, linkSignal]
    · simp [h]
  case seenNot =>
    intro p h s hwf hseen hl hhold
    have hwires : OnlyWires s (heard p h s) := onlyWires_heard
    obtain ⟨rs, hrs⟩ := onlyRegs_setLink p linkSignal (heard p h s)
    have hport : (setLink p linkSignal (heard p h s)).port p = { s.port p with seen := true, peer := some h } :=
      (port_of_rope (by rw [hrs]) p).trans port_heard_same
    refine runs_of_eq (exec_helloReceive hwf) ((chooses_of_low hl hhold).trans (if_neg (by simp [hseen])))
      ⟨link_setLink (by decide) _, by rw [hport], by rw [hport],
       (FieldsKept.of_regs hwires.only.regs).trans (fieldsKept_setLink _ _ _), ?_⟩
    obtain ⟨u, d, i, hw⟩ := hwires
    rw [hrs, hw]
  case seen =>
    intro p h s hwf hseen hl hhold hcase
    obtain ⟨hup, hev, hport, hkept, rs, u, d, hrest⟩ := cameUp_heard (h := h) hl
    have hgo := (chooses_of_low (h := h) hl hhold).trans (if_pos hseen)
    cases p with
    | dn =>
      obtain ⟨hhead, hcase⟩ := hcase.resolve_left (by decide)
      have hhead' : (cameUp .dn (heard .dn h s)).isHead = false := (hkept.flag (by decide)).trans hhead
      have hidle : ((cameUp .dn (heard .dn h s)).hasAddr && (cameUp .dn (heard .dn h s)).flag .ROPE_STAT_ENUMD) = false := by
        rw [State.hasAddr, hkept.flag (by decide), hkept.flag (by decide)]
        obtain h | h := hcase
        · rw [show s.flag .ROPE_ADDR_VALID = false from h, Bool.false_and]
        · rw [h, Bool.and_false]
      refine runs_of_eq (exec_helloReceive hwf) (hgo.trans ((goUp_dn _).trans ((if_neg (by simp [hhead'])).trans
        (if_neg (by simp [hidle]))))) ⟨hup, hev, ?_, ?_, ?_, ?_, ?_, ?_, nofun, hkept.mono (by simp), ?_⟩
      iterate 6 rw [hport]; rfl
      rw [hrest]
    | up =>
      have htaken := upTaken_rest (heard .up h s)
      have hkeptT : FieldsKept [stateFld .up, .ROPE_STAT_LINKEV] s (upTaken (heard .up h s)) :=
        hkept.trans (.of_regs htaken.regs)
      have hportT : (upTaken (heard .up h s)).port .up = freshPort { s.port .up with seen := true, peer := some h } := hport
      have hheadT : (upTaken (heard .up h s)).isHead = s.isHead := hkeptT.flag (by decide)
      have hroleT : (upTaken (heard .up h s)).role = s.role := hkeptT.fld (by decide)
      have hrestT : upTaken (heard .up h s) =
          { s with regs := rs, rope := { s.rope with up := u, dn := d, headDue := false } } := by
        rw [upTaken, hrest]
        rfl
      have hupT : (upTaken (heard .up h s)).isUp .up = true := hup
      have hevT : (upTaken (heard .up h s)).flag .ROPE_STAT_LINKEV = true := (htaken.flag _).trans hev
      have hgo' := hgo.trans (goUp_up _)
      rw [hheadT, hroleT] at hgo'
      by_cases hlose : (s.isHead && s.role != 1) = true
      · obtain ⟨hnot, hkeptL, rs', hrestL⟩ := headLost_shown (upTaken (heard .up h s))
        have hisHead : (s.isHead && s.role == 1) = false := by
          simp only [Bool.and_eq_true, bne_iff_ne, ne_eq] at hlose
          simp [hlose.2]
        have hportL : (headLost (upTaken (heard .up h s))).port .up = (upTaken (heard .up h s)).port .up := by
          rw [hrestL]
          rfl
        refine runs_of_eq (exec_helloReceive hwf) (hgo'.trans (if_pos hlose)) ⟨?_, (hkeptL.flag (by decide)).trans hevT,
          ?_, ?_, ?_, ?_, ?_, ?_, fun _ => ⟨hnot.trans hisHead.symm, ?_⟩,
          (hkeptT.mono (by simp)).trans (hkeptL.mono (by simp)), ?_⟩
        · rw [isUp_iff] at hupT ⊢
          exact (hkeptL.fld (g := stateFld .up) (by decide)).trans hupT
        iterate 6 rw [hportL, hportT]; rfl
        · rw [hrestL, hrestT]
        · rw [hrestL, hrestT]
      · have hisHead : s.isHead = (s.isHead && s.role == 1) := by
          cases hh : s.isHead
          · rfl
          · have hrole : s.role = 1 := by simpa [hh] using hlose
            simp [hrole]
        refine runs_of_eq (exec_helloReceive hwf) (hgo'.trans (if_neg hlose)) ⟨hupT, hevT, ?_, ?_, ?_, ?_, ?_, ?_,
          fun _ => ⟨hheadT.trans hisHead, ?_⟩, hkeptT.mono (by simp), ?_⟩
        iterate 6 rw [hportT]; rfl
        · rw [hrestT]
        · rw [hrestT]
  case deaf =>
    intro p h s hwf hdeaf
    exact runs_of_eq (exec_helloReceive hwf) (helloReceive_of_deaf hdeaf) rfl
  case resetEnd =>
    intro p s
    exact runs_of_eq rfl rfl ⟨port_modPort_same .., port_modPort_other .., (onlyRope_modPort ..).eq⟩
  case lossHead =>
    intro s hl hcase
    obtain ⟨hlink, hloss, -, hkept⟩ := goneDown_shown .up s
    obtain ⟨hup, -, -⟩ := goneDown_ports .up s
    have hup' : (goneDown .up s).rope.up = droppedPort s.rope.up := hup
    refine runs_of_eq rfl ((linkLoss_of_heard hl).trans (portLost_up_of_other hcase)) ⟨hlink, hloss, ?_, hkept, ?_⟩
    · rw [hup']
      rfl
    · obtain ⟨rs, u, d, i, ho, hrest⟩ := goneDown_rest .up s
      rw [hrest]
  case again =>
    intro p h s hwf hup hhold
    have hoff : s.link p ≠ linkOff := by rw [isUp_iff.mp hup]; decide
    exact runs_of_eq (exec_helloReceive hwf) ((helloReceive_of_heard hoff hhold).trans (if_pos hup))
      ⟨port_heard_same, port_heard_other, onlyWires_heard.only.eq⟩
  case head =>
    intro h s hwf hseen hl hhold hhead
    obtain ⟨hup, hev, hport, hkept, rs, u, d, hrest⟩ := cameUp_heard (h := h) hl
    have hhead' : (cameUp .dn (heard .dn h s)).isHead = true := (hkept.flag (by decide)).trans hhead
    have hpeer : (cameUp .dn (heard .dn h s)).rope.dn.peer = some h := congrArg PortSt.peer hport
    have hno : (cameUp .dn (heard .dn h s)).unitNo = s.unitNo := by
      rw [State.unitNo, hkept.flag (by decide), hkept.fld (by decide)]
      rfl
    obtain ⟨hregs, hmem, hproxy, hpeer'⟩ := startEnum_own hpeer hup
    refine runs_of_eq (exec_helloReceive hwf) ((chooses_of_low hl hhold).trans ((if_pos hseen).trans
      ((goUp_dn _).trans (if_pos hhead')))) ⟨?_, ?_, hproxy.trans hno, hpeer'.trans hpeer, ?_, ?_⟩
    · rw [isUp_iff] at hup ⊢
      exact (hregs.fld (g := stateFld .dn) (by decide) (by decide)).trans hup
    · exact (hregs.flag (by decide) (by decide)).trans hev
    · have hall : RegsKept recordBlocks [stateFld .dn, .ROPE_STAT_LINKEV, .ROPE_STAT_ENUMD] s
          (startEnum (cameUp .dn (heard .dn h s)).unitNo (cameUp .dn (heard .dn h s))) :=
        (hkept.regsKept.mono (List.nil_subset _) (by simp)).trans
          (RegsKept.trans (.of_regs rfl) (hregs.mono (List.Subset.refl _) (by simp)))
      exact hall.blocksKept (by decide) (by decide)
    · refine MemKept.trans ?_ hmem
      rw [hrest]
      exact .of_eq rfl rfl rfl
  case member =>
    intro h s hwf hseen hl hhold hhead haddr henum
    obtain ⟨hup, hev, hport, hkept, rs, u, d, hrest⟩ := cameUp_heard (h := h) hl
    have hgo := (chooses_of_low (h := h) hl hhold).trans ((if_pos hseen).trans (goUp_dn _))
    have hupQueue : (cameUp .dn (heard .dn h s)).rope.up = s.rope.up := by
      obtain ⟨rs', hrs'⟩ := onlyRegs_setLink .dn linkUp ((heard .dn h s).modPort .dn freshPort)
      rw [cameUp, hrs']
      rfl
    have hmask : (cameUp .dn (heard .dn h s)).rope.dnMask = s.rope.dnMask := by rw [hrest]
    generalize cameUp .dn (heard .dn h s) = v at hup hev hport hkept hrest hgo hupQueue hmask
    have hhead' : v.isHead = false := (hkept.flag (by decide)).trans hhead
    have haddr' : v.hasAddr = true := (hkept.flag (by decide)).trans haddr
    have henum' : v.flag .ROPE_STAT_ENUMD = true := (hkept.flag (by decide)).trans henum
    have hheada : v.fld .ROPE_ADDR_HEADA = s.fld .ROPE_ADDR_HEADA := hkept.fld (by decide)
    have hno : v.unitNo = s.unitNo := by
      rw [State.unitNo, hkept.flag (by decide), hkept.fld (by decide)]
      rfl
    rw [hheada] at hgo
    have hq := onlyQueues_sendEnum (s.fld .ROPE_ADDR_HEADA) 6 [] v
    refine runs_of_eq (exec_helloReceive hwf) (hgo.trans ((if_neg (by simp [hhead'])).trans
      (if_pos (by simp [haddr', henum'])))) ⟨?_, (hq.only.flag _).trans hev, ?_, fun hu hmine hlow hbit => ?_, ?_, ?_⟩
    · rw [isUp_iff] at hup ⊢
      exact (hq.only.link .dn).trans hup
    · exact hq.headKept.2.2.2.trans (congrArg PortSt.peer hport)
    · have hsend := sendOff_up (s := v) (f := ownFrame v tyEnum (s.fld .ROPE_ADDR_HEADA) (leNat 1 6 ++ []))
        (by simp [badBroadcast, ownFrame, Nat.ne_of_lt hlow])
        ((isMine_congr (haddr'.trans haddr.symm) hno (by rw [hrest]) _).trans hmine) (Nat.ne_of_lt hlow)
        (by rw [hmask]; exact hbit) hhead'
        (by rw [isUp_iff] at hu ⊢; exact (hkept.fld (g := stateFld .up) (by decide)).trans hu)
      rw [sendEnum, hsend]
      change v.rope.up.queue ++ [ownFrame v tyEnum (s.fld .ROPE_ADDR_HEADA) (leNat 1 6 ++ [])] = _
      rw [hupQueue, ownFrame, hno, List.append_nil]
      rfl
    · exact hkept.trans (.of_regs hq.only.regs)
    · obtain ⟨qu, qd, hq⟩ := hq
      rw [hq, hrest]

end Sys2Proof.Machine
end

section
/-! A proof about the frames and the credit of the rope (R490, R493, R496, R497, R501). -/

namespace Sys2Proof.Machine

/-! ### A frame arrives -/

section
variable {p : Port} {bs : List Byte} {v : Bool} {f : RopeFrame} {cvc ccnt : Nat} {s : State}

theorem servePoll_of_empty (h : s.rope.inbox = []) : servePoll s = s := by rw [servePoll, h]; rfl

/-- A frame that is no frame of a team stays in the inbox for its step. -/
theorem servePoll_of_other {e : Port × RopeFrame} (h : s.rope.inbox = [e]) (ht : e.2.typ ≠ tyTeam) : servePoll s = s := by
  rw [servePoll, h]
  exact if_neg (by simp [ht])

theorem receiveFrame_of_deaf (h : s.link p = linkOff ∨ (s.port p).holdDown = true) : receiveFrame p bs v s = s := by
  rw [receiveFrame, if_pos]
  obtain h | h := h <;> simp [h]

theorem receiveFrame_of_error (hoff : s.link p ≠ linkOff) (hhold : (s.port p).holdDown = false)
    (h : v = true ∨ parseFrame bs = none) : receiveFrame p bs v s = discardFrame p s := by
  have hnone : (if v then none else parseFrame bs) = none := by
    obtain h | h := h <;> simp [h]
  rw [receiveFrame, if_neg (by simp [hoff, hhold]), hnone]

theorem receiveFrame_of_routed (hup : s.isUp p = true) (hhold : (s.port p).holdDown = false)
    (hparse : parseFrame bs = some (f, cvc, ccnt)) (hlocal : linkLocal f.typ = false) :
    receiveFrame p bs false s = routeFrame p f (takeCredit p cvc ccnt s) := by
  have hoff : s.link p ≠ linkOff := by rw [isUp_iff.mp hup]; decide
  have hup' : (takeCredit p cvc ccnt s).isUp p = true := by
    rw [isUp_iff] at hup ⊢
    exact (onlyRope_modPort ..).link p |>.trans hup
  rw [receiveFrame, if_neg (by simp [hoff, hhold]), if_neg (by decide), hparse]
  dsimp only
  rw [if_pos hup, if_neg (by simp [hlocal, hup'])]

/-- The units that a frame takes at a port have arrived. -/
def arrived (p : Port) (f : RopeFrame) (s : State) : State :=
  s.modPort p (fun q => { q with
    received := q.received.set f.vc ((listAt q.received f.vc + frameUnits f.payload.length) % 64) })

theorem arrivalRoute_of_wires {t : State} (h : OnlyWires s t) (p : Port) (dst : Nat) :
    t.arrivalRoute p dst = s.arrivalRoute p dst := by
  obtain ⟨u, d, i, rfl⟩ := h
  rfl

theorem onlyWires_arrived : OnlyWires s (arrived p f s) := onlyWires_modPort ..

theorem onlyWires_takeCredit : OnlyWires s (takeCredit p cvc ccnt s) := onlyWires_modPort ..

/-- A frame that has arrived goes where its route says. -/
def routeBy (p : Port) (f : RopeFrame) (r : RouteTo) (s : State) : State :=
  if badBroadcast f || !(r.here || r.up || r.dn) then
    if r.unknown then undeliverable f (freeUnits p f.vc (frameUnits f.payload.length) s)
    else freeUnits p f.vc (frameUnits f.payload.length) s
  else if r.dn then
    forwardFrame p .dn f
      (if r.here then s.modRope (fun x => { x with inbox := x.inbox ++ [(p, { f with fwd := r.up || r.dn })] }) else s)
  else if r.up then
    forwardFrame p .up f
      (if r.here then s.modRope (fun x => { x with inbox := x.inbox ++ [(p, { f with fwd := r.up || r.dn })] }) else s)
  else if r.here then s.modRope (fun x => { x with inbox := x.inbox ++ [(p, { f with fwd := r.up || r.dn })] }) else s

theorem routeFrame_of_routed (hbcn : f.typ ≠ tyBcn) :
    routeFrame p f s = routeBy p f (s.arrivalRoute p f.dst) (arrived p f s) := by
  rw [← arrivalRoute_of_wires (onlyWires_arrived (f := f)) p f.dst]
  exact if_neg hbcn

theorem routeFrame_here (hbcn : f.typ ≠ tyBcn) (hbad : badBroadcast f = false)
    (hroute : s.arrivalRoute p f.dst = ⟨true, false, false, false⟩) : routeFrame p f s =
      (arrived p f s).modRope (fun x => { x with inbox := x.inbox ++ [(p, { f with fwd := false })] }) := by
  rw [routeFrame_of_routed hbcn, hroute, routeBy, hbad]
  rfl

theorem routeFrame_up (hup : s.isUp .up = true) (hbcn : f.typ ≠ tyBcn) (hteam : f.typ ≠ tyTeam)
    (hbad : badBroadcast f = false) (hroute : s.arrivalRoute .dn f.dst = ⟨false, true, false, false⟩) :
    routeFrame .dn f s = queueFrame .up { f with fwd := true } (arrived .dn f s) := by
  have hup' : (arrived .dn f s).isUp .up = true := by
    rw [isUp_iff] at hup ⊢
    exact (onlyWires_arrived.only.link .up).trans hup
  have hnote : noteAssign .up f (arrived .dn f s) = arrived .dn f s := by
    have hteam' : (f.typ == tyTeam) = false := by simpa using hteam
    simp [noteAssign, hteam']
  have hforward : forwardFrame .dn .up f (arrived .dn f s) = queueFrame .up { f with fwd := true } (arrived .dn f s) := by
    rw [forwardFrame, if_pos hup', hnote]
  rw [routeFrame_of_routed hbcn, hroute, routeBy, hbad]
  exact hforward

end

/-! ### A frame in error (R493) -/

theorem errFld_width (p : Port) : (errFld p).width = 8 := by cases p <;> rfl

theorem errFld_fits (p : Port) : (errFld p).lo + (errFld p).width ≤ 16 := by cases p <;> decide

/-- The instants of the errors within the last millisecond, with the present one. -/
def recentErrors (p : Port) (s : State) : List Nat :=
  (s.port p).errorsAt.filter (fun c => decide (s.now < c + clocksPerMs 1)) ++ [s.now]

/-- An error is counted. -/
def errorCounted (p : Port) (s : State) : State :=
  (s.incFld (errFld p)).modPort p (fun q => { q with errorsAt := recentErrors p s })

theorem port_errorCounted (p : Port) (s : State) :
    (errorCounted p s).port p = { s.port p with errorsAt := recentErrors p s } :=
  (port_modPort_same ..).trans (by cases p <;> rfl)

theorem discardFrame_eq (p : Port) (s : State) : discardFrame p s =
    if 16 ≤ (recentErrors p s).length then linkReset p (errorCounted p s) else errorCounted p s := by
  have hcount : discardFrame p s = if 16 ≤ ((errorCounted p s).port p).errorsAt.length then
      linkReset p (errorCounted p s) else errorCounted p s := by cases p <;> rfl
  rw [hcount, port_errorCounted]

theorem errorCounted_shown (p : Port) (s : State) :
    (errorCounted p s).fld (errFld p) = min (s.fld (errFld p) + 1) 255 ∧
      FieldsKept [errFld p] s (errorCounted p s) ∧
      ∃ rs r, errorCounted p s = { s with regs := rs, rope := r } := by
  have hmod := onlyRope_modPort p (fun q => { q with errorsAt := recentErrors p s }) (s.incFld (errFld p))
  refine ⟨?_, ?_, _, _, rfl⟩
  · have hset : (s.incFld (errFld p)).fld (errFld p) = min (s.fld (errFld p) + 1) (2 ^ (errFld p).width - 1) %
        2 ^ (errFld p).width := fld_setFld_same _ _ _ (errFld_fits p)
    rw [errorCounted, hmod.fld, hset, errFld_width]
    omega
  · exact (FieldsKept.setFld (.refl _ s) (by simp) (by rw [errFld_width]; decide)).trans (.of_regs hmod.regs)

/-! ### A link reset (R493) -/

theorem inbox_dropWaitingFrames (p : Port) (s : State) : (dropWaitingFrames p s).rope.inbox = s.rope.inbox := by
  refine forList_keeps (fun t => t.rope.inbox = s.rope.inbox) _ _ _ ?_ fun f t _ ht => ?_
  · cases p <;> rfl
  · rw [← ht]
    cases p <;> rfl

theorem inbox_goneDown (p : Port) (s : State) : (goneDown p s).rope.inbox = s.rope.inbox := by
  obtain ⟨h, hh⟩ := failRemote_rest (goDown p s)
  obtain ⟨rs, hrs⟩ := onlyRegs_downShown p s
  have hdrop := inbox_dropWaitingFrames p (downShown p s)
  rw [hrs] at hdrop
  rw [goneDown, hh]
  change (dropWaitingFrames p (downShown p s)).rope.inbox = _
  rw [hrs]
  exact hdrop

/-- The fields that a lost port writes. -/
def lostFields (p : Port) : List Fld := .ROPE_STAT_BCNTX :: .ROPE_STAT_ORPHAN :: downFields p

/-- What a lost port leaves where the collector takes no report of it. -/
theorem portLost_unwatched {s : State} (p : Port) (hw : ¬ Watches 14 s) : (portLost p s).link p = linkDown ∧
    (portLost p s).port p = droppedPort (s.port p) ∧ (portLost p s).rope.inbox = s.rope.inbox ∧
    FieldsKept (lostFields p) s (portLost p s) ∧
    ∃ rs r h, portLost p s = { s with regs := rs, rope := r, host := h } := by
  have hunwatched : ∀ {u : State} {fs : List Fld}, FieldsKept fs s u → fs.all (fun f => f.apart .SYS_BOOTST_PHASE) = true →
      u.flt = s.flt → ¬ Watches 14 u := fun {u fs} hk ha hflt hu => by
    obtain ⟨hbusy, hphase, hign⟩ := hu
    have hsame : u.phase = s.phase := hk.fld (g := .SYS_BOOTST_PHASE) ha
    exact hw ⟨hflt ▸ hbusy, hsame ▸ hphase, hflt ▸ hign⟩
  obtain ⟨hport, -, -⟩ := goneDown_ports p s
  cases p with
  | dn =>
    obtain ⟨p2, hlost⟩ := portLost_dn s
    obtain ⟨hlink, -, -, -, hkept⟩ := lostDn_shown s
    have hrest := lostDn_rest s
    have hflt : (lostDn s).flt = s.flt := by obtain ⟨rs, r, h, hrest⟩ := hrest; rw [hrest]
    rw [hlost, report, acceptReport_of_not_watches (hunwatched hkept (by decide) hflt)]
    refine ⟨hlink, (lostDn_ports s .dn).trans hport, ?_, hkept.mono fun f hf => ?_, hrest⟩
    on_goal 2 =>
      obtain rfl | hf := List.mem_cons.mp hf
      · exact List.mem_cons_self
      · exact List.mem_cons_of_mem _ (List.mem_cons_of_mem _ hf)
    obtain ⟨c, e, heq, -⟩ := lostDn_rope s
    rw [heq]
    exact inbox_goneDown .dn s
  | up =>
    obtain ⟨hlinkG, -, -, hkeptG⟩ := goneDown_shown .up s
    by_cases hmember : s.isHead = false ∧ s.hasAddr = true
    · obtain ⟨p2, hlost⟩ := portLost_up_of_member hmember.1 hmember.2
      obtain ⟨hlink, -, -, hkept⟩ := lostUp_shown s
      have hrest := lostUp_rest s
      have hflt : (lostUp s).flt = s.flt := by obtain ⟨rs, r, h, hrest⟩ := hrest; rw [hrest]
      rw [hlost, report, acceptReport_of_not_watches (hunwatched hkept (by decide) hflt)]
      exact ⟨hlink, hport, inbox_goneDown .up s, hkept.mono (List.subset_cons_self _ _), hrest⟩
    · have hother : s.isHead = true ∨ s.hasAddr = false := by
        cases hh : s.isHead
        · exact .inr (by simpa [hh] using hmember)
        · exact .inl rfl
      rw [portLost_up_of_other hother]
      obtain ⟨rs, u, d, i, h, hrest⟩ := goneDown_rest .up s
      exact ⟨hlinkG, hport, inbox_goneDown .up s, hkeptG.mono (fun f hf => List.mem_cons_of_mem _ (List.mem_cons_of_mem _ hf)), rs, _, h, hrest⟩

/-- The parameter of a link reset's report. -/
def resetParam : Port → Nat
  | .up => 0x10
  | .dn => 0x11

theorem linkReset_eq (p : Port) (s : State) : ∃ p2, linkReset p s =
    (portLost p (report 14 (resetParam p) p2 0 s)).modPort p (fun q => { q with holdDown := true, errorsAt := [] }) :=
  ⟨_, by cases p <;> rfl⟩

/-! ### A frame starts and ends (R496, R497) -/

section
variable {p : Port} {f : RopeFrame} {s : State}

theorem transmitStart_of_still (h : s.link p = linkOff ∨ (s.port p).sending.isSome = true ∨ (s.port p).holdDown = true) :
    transmitStart p s = s := by
  rw [transmitStart]
  refine if_pos ?_
  obtain h | h | h := h <;> simp [h]

theorem transmitStart_of_ready (hoff : s.link p ≠ linkOff) (hnone : (s.port p).sending = none)
    (hhold : (s.port p).holdDown = false) (hguard : s.beaconGuard p = false)
    (hf : readyOf (s.port p) 1 (s.isUp p) = some f ∨
      (readyOf (s.port p) 1 (s.isUp p) = none ∧ readyOf (s.port p) 0 (s.isUp p) = some f)) :
    transmitStart p s = startQueued p f s := by
  rw [transmitStart]
  dsimp only
  rw [if_neg (by simp [hoff, hnone, hhold])]
  obtain hf | ⟨hno, hf⟩ := hf
  · rw [hf]
    exact if_neg (by simp [hguard])
  · rw [hno]
    dsimp only
    rw [if_neg (by simp [hguard]), hf]

theorem freshFrame_queue (p : Port) (f : RopeFrame) (q : List RopeFrame → List RopeFrame) (s : State) :
    freshFrame p f (s.modPort p (fun x => { x with queue := q x.queue })) = freshFrame p f s := by
  cases p <;> rfl

/-- The port of a frame that starts. -/
def startedPort (p : Port) (f : RopeFrame) (s : State) (q : PortSt) : PortSt :=
  { q with
    sending := some (freshFrame p f s, q.creditPend.headD 0, listAt q.freedOut (q.creditPend.headD 0))
    creditPend := q.creditPend.drop 1
    sent := if linkLocal (freshFrame p f s).typ then q.sent
      else q.sent.set (freshFrame p f s).vc
        ((listAt q.sent (freshFrame p f s).vc + frameUnits (freshFrame p f s).payload.length) % 64) }

theorem startFrame_eq (p : Port) (f : RopeFrame) (s : State) : startFrame p f s = s.modPort p (startedPort p f s) := rfl

theorem startQueued_shown (p : Port) (f : RopeFrame) (s : State) :
    (startQueued p f s).port p = startedPort p f s { s.port p with queue := (s.port p).queue.erase f } ∧
      (startQueued p f s).port (otherPort p) = s.port (otherPort p) ∧ OnlyRope s (startQueued p f s) := by
  refine ⟨?_, ?_, ?_⟩
  · have hfresh := freshFrame_queue p f (fun l => l.erase f) s
    rw [startQueued, startFrame_eq, port_modPort_same, port_modPort_same, startedPort, hfresh]
    rfl
  · rw [startQueued, startFrame_eq, port_modPort_other, port_modPort_other]
  · rw [startQueued, startFrame_eq]
    exact (onlyRope_modPort ..).trans (onlyRope_modPort ..)

theorem resetAfterRsp_of_none (t : State) (h : s.rope.resetAfter = none) : resetAfterRsp p s t = t := by
  rw [resetAfterRsp, h]
  split <;> simp_all

theorem resetAfterRsp_of_still (t : State) (h : (s.port p).sending = none) : resetAfterRsp p s t = t := by
  rw [resetAfterRsp, h]

/-- The frame in progress has ended. -/
def frameOver (p : Port) (s : State) : State := s.modPort p (fun q => { q with sending := none })

theorem transmitEnd_of_sending {c k : Nat} (h : (s.port p).sending = some (f, c, k)) : transmitEnd p s =
    if f.fwd then freeUnits (otherPort p) f.vc (frameUnits f.payload.length) (frameOver p s) else frameOver p s := by
  rw [transmitEnd, h]
  rfl

theorem transmitEnd_of_still (h : (s.port p).sending = none) : transmitEnd p s = s := by rw [transmitEnd, h]

theorem listAt_set {l : List Nat} {n : Nat} (h : n < l.length) (v : Nat) : listAt (l.set n v) n = v := by
  rw [listAt, List.getD_eq_getElem?_getD, List.getElem?_set_self h]
  rfl

theorem listAt_set_other {l : List Nat} {m n : Nat} (h : n ≠ m) (v : Nat) : listAt (l.set n v) m = listAt l m := by
  rw [listAt, listAt, List.getD_eq_getElem?_getD, List.getD_eq_getElem?_getD, List.getElem?_set_ne h]

theorem frameOver_shown (p : Port) (s : State) : (frameOver p s).port p = { s.port p with sending := none } ∧
    (frameOver p s).port (otherPort p) = s.port (otherPort p) ∧ OnlyRope s (frameOver p s) :=
  ⟨port_modPort_same .., port_modPort_other .., onlyRope_modPort ..⟩

end

/-! ### Credit comes back (R497) -/

/-- One channel of a sync sets what has arrived. -/
def syncOne (p : Port) (sync : List Nat) (n : Nat) (t : State) : State :=
  if (nth 0 sync n + 64 - listAt (t.port p).received n) % 64 = 0 then t
  else freeUnits p n ((nth 0 sync n + 64 - listAt (t.port p).received n) % 64)
    (t.modPort p (fun q => { q with received := q.received.set n (nth 0 sync n % 64) }))

theorem creditReceive_of_up {p : Port} {cvc ccnt : Nat} {sync : List Nat} {s : State} (h : s.isUp p = true) :
    creditReceive p cvc ccnt sync s = forEach sync.length (syncOne p sync) (takeCredit p cvc ccnt s) := by
  rw [creditReceive, if_neg (by simp [h])]
  rfl

theorem creditReceive_of_not_up {p : Port} {cvc ccnt : Nat} {sync : List Nat} {s : State} (h : s.isUp p = false) :
    creditReceive p cvc ccnt sync s = s := by
  rw [creditReceive, if_pos (by simp [h])]

theorem syncOne_shown {p : Port} {sync : List Nat} {n : Nat} {t : State} (hn : n < (t.port p).received.length)
    (hlow : listAt (t.port p).received n < 64) :
    listAt ((syncOne p sync n t).port p).received n = nth 0 sync n % 64 ∧
      (∀ m, m ≠ n → listAt ((syncOne p sync n t).port p).received m = listAt (t.port p).received m) ∧
      ((syncOne p sync n t).port p).received.length = (t.port p).received.length ∧
      ((syncOne p sync n t).port p).freed = (t.port p).freed ∧ OnlyRope t (syncOne p sync n t) := by
  unfold syncOne
  split
  · exact ⟨by omega, fun _ _ => rfl, rfl, rfl, .refl t⟩
  · obtain ⟨fo, cp, hfree⟩ := port_freeUnits_same p n ((nth 0 sync n + 64 - listAt (t.port p).received n) % 64)
      (t.modPort p (fun q => { q with received := q.received.set n (nth 0 sync n % 64) }))
    rw [port_modPort_same] at hfree
    rw [hfree]
    exact ⟨listAt_set hn _, fun m hm => listAt_set_other (Ne.symm hm) _, List.length_set .., rfl,
      (onlyRope_modPort ..).trans (onlyWires_freeUnits ..).only⟩

theorem forEach_succ (n : Nat) (f : Nat → State → State) (s : State) : forEach (n + 1) f s = f n (forEach n f s) := by
  rw [forEach, List.range_succ, List.foldl_append]
  rfl

/-- After the first m channels of a sync these have what it says, and the others what had arrived. -/
theorem sync_shown {p : Port} {sync : List Nat} {s : State} (hlen : (s.port p).received.length = 4)
    (hlow : ∀ n, listAt (s.port p).received n < 64) (m : Nat) (hm : m ≤ 4) :
    (∀ n < m, listAt ((forEach m (syncOne p sync) s).port p).received n = nth 0 sync n % 64) ∧
      (∀ n, m ≤ n → listAt ((forEach m (syncOne p sync) s).port p).received n = listAt (s.port p).received n) ∧
      ((forEach m (syncOne p sync) s).port p).received.length = 4 ∧
      ((forEach m (syncOne p sync) s).port p).freed = (s.port p).freed ∧
      OnlyRope s (forEach m (syncOne p sync) s) := by
  induction m with
  | zero => exact ⟨fun n hn => absurd hn (Nat.not_lt_zero n), fun _ _ => rfl, hlen, rfl, .refl s⟩
  | succ m ih =>
    obtain ⟨hdone, hrest, hl, hfreed, honly⟩ := ih (by omega)
    obtain ⟨hset, hother, hl', hfreed', honly'⟩ := syncOne_shown (p := p) (sync := sync) (n := m)
      (t := forEach m (syncOne p sync) s) (by omega) (by rw [hrest m (le_refl m)]; exact hlow m)
    rw [forEach_succ]
    refine ⟨fun n hn => ?_, fun n hn => ?_, hl'.trans hl, hfreed'.trans hfreed, honly.trans honly'⟩
    · by_cases he : n = m
      · rw [he, hset]
      · rw [hother n he, hdone n (by omega)]
    · rw [hother n (by omega), hrest n (by omega)]

theorem eq_map_of_listAt {l sync : List Nat} (hl : l.length = sync.length)
    (h : ∀ n < sync.length, listAt l n = nth 0 sync n % 64) : l = sync.map (· % 64) := by
  refine List.ext_getElem (by simp [hl]) fun n hn hn' => ?_
  have hs : n < sync.length := by simpa using hn'
  have hget := h n hs
  rw [listAt, nth, List.getD_eq_getElem?_getD, List.getD_eq_getElem?_getD, List.getElem?_eq_getElem hn,
    List.getElem?_eq_getElem hs] at hget
  rw [List.getElem_map]
  exact hget

theorem port_takeCredit {p : Port} {cvc ccnt : Nat} {s : State} (h : ccnt < 64) :
    (takeCredit p cvc ccnt s).port p = { s.port p with freed := (s.port p).freed.set cvc ccnt } := by
  rw [takeCredit, port_modPort_same, Nat.mod_eq_of_lt h]

theorem exec_credit {p : Port} {cvc ccnt : Nat} {sync : List Nat} {s : State} (hc : cvc < 4) (hn : ccnt < 64)
    (hs : sync = [] ∨ (sync.length = 4 ∧ sync.all (· < 256) = true)) :
    exec (.credit p cvc ccnt sync) s = .next (creditReceive p cvc ccnt sync s) := by
  refine answerIf_next.mpr ⟨?_, rfl⟩
  obtain rfl | ⟨hlen, hall⟩ := hs
  · simp [hc, hn]
  · simp only [hc, hn, hlen, hall, decide_true, Bool.and_self, beq_self_eq_true, Bool.or_true]

/-! ### The obligation -/

/-- Settles O43: frames go their way under credit, and errors reset a link. -/
theorem framesMoveUnderCredit : Obligations.FramesMoveUnderCredit := by
  refine ⟨?error, ?here, ?forward, ?deaf, ?start, ?still, ?gone, ?noFrame, ?credit, ?sync, ?noCredit, ?giveBack, ?noGiveBack,
    ?syncOut, ?noSync, ?reset⟩
  case error =>
    intro p bs v s hoff hhold hin hbad hfew
    obtain ⟨hcount, hkept, rs, r, hrest⟩ := errorCounted_shown p s
    have hfew' : ¬ 16 ≤ (recentErrors p s).length := by
      have hle := List.length_filter_le (fun c => decide (s.now < c + clocksPerMs 1)) (s.port p).errorsAt
      simp only [recentErrors, List.length_append, List.length_singleton]
      omega
    have hrecv : receiveFrame p bs v s = errorCounted p s :=
      (receiveFrame_of_error hoff hhold hbad).trans ((discardFrame_eq p s).trans (if_neg hfew'))
    have hin' : (errorCounted p s).rope.inbox = [] := by
      rw [← hin]
      cases p <;> rfl
    refine runs_of_eq rfl ((congrArg servePoll hrecv).trans (servePoll_of_empty hin')) ⟨hcount, hkept, ?_⟩
    rw [hrest]
  case here =>
    intro p bs f cvc ccnt s hup hhold hparse hlocal hbcn hteam hbad hroute hin
    have hrecv := (receiveFrame_of_routed hup hhold hparse hlocal).trans (routeFrame_here hbcn hbad
      ((arrivalRoute_of_wires onlyWires_takeCredit p f.dst).trans hroute))
    have hinbox : (arrived p f (takeCredit p cvc ccnt s)).rope.inbox = [] := by
      rw [← hin]
      cases p <;> rfl
    have hone : ((arrived p f (takeCredit p cvc ccnt s)).modRope (fun x =>
        { x with inbox := x.inbox ++ [(p, { f with fwd := false })] })).rope.inbox = [(p, { f with fwd := false })] := by
      rw [modRope_rope, hinbox]
      rfl
    refine runs_of_eq rfl ((congrArg servePoll hrecv).trans (servePoll_of_other hone hteam)) ⟨hone, ?_, ?_, ?_, ?_⟩
    · cases p <;> rfl
    · cases p <;> rfl
    · cases p <;> rfl
    · exact ((onlyWires_takeCredit.only.trans onlyWires_arrived.only).trans (onlyRope_modRope ..)).eq
  case forward =>
    intro bs f cvc ccnt s hdn hup hhold hparse hlocal hbcn hteam hbad hroute hin
    have hup' : (takeCredit .dn cvc ccnt s).isUp .up = true := by
      rw [isUp_iff] at hup ⊢
      exact (onlyWires_takeCredit.only.link .up).trans hup
    have hrecv := (receiveFrame_of_routed hdn hhold hparse hlocal).trans (routeFrame_up hup' hbcn hteam hbad
      ((arrivalRoute_of_wires onlyWires_takeCredit .dn f.dst).trans hroute))
    exact runs_of_eq rfl ((congrArg servePoll hrecv).trans (servePoll_of_empty hin)) ⟨rfl, hin, rfl, rfl, rfl⟩
  case deaf =>
    intro p bs v s hdeaf hin
    exact runs_of_eq rfl ((congrArg servePoll (receiveFrame_of_deaf hdeaf)).trans (servePoll_of_empty hin)) rfl
  case start =>
    intro p f s hoff hnone hhold hguard hf
    obtain ⟨hport, hother, honly⟩ := startQueued_shown p f s
    exact runs_of_eq rfl (transmitStart_of_ready hoff hnone hhold hguard hf)
      ⟨by rw [hport]; rfl, by rw [hport]; rfl, by rw [hport]; rfl, hother, honly.eq⟩
  case still =>
    intro p s h
    exact runs_of_eq rfl (transmitStart_of_still h) rfl
  case gone =>
    intro p f c k s hsend hreset
    obtain ⟨hport, hother, honly⟩ := frameOver_shown p s
    refine runs_of_eq rfl ((resetAfterRsp_of_none _ hreset).trans (transmitEnd_of_sending hsend)) ?_
    cases hf : f.fwd
    · refine ⟨?_, ?_, fun _ => hother, nofun, honly.eq⟩
      · exact congrArg PortSt.sending hport
      · exact (congrArg PortSt.queue hport :)
    · have hfreed : (freeUnits (otherPort p) f.vc (frameUnits f.payload.length) (frameOver p s)).port p =
          (frameOver p s).port p := port_freeUnits_other ..
      have hset : (freeUnits (otherPort p) f.vc (frameUnits f.payload.length) (frameOver p s)).port (otherPort p) = _ :=
        port_modPort_same ..
      refine ⟨?_, ?_, nofun, fun _ hvc => ?_, (honly.trans (onlyWires_freeUnits ..).only).eq⟩
      · exact congrArg PortSt.sending (hfreed.trans hport)
      · exact (congrArg PortSt.queue (hfreed.trans hport) :)
      · refine (congrArg (fun q => listAt q.freedOut f.vc) hset).trans ?_
        rw [hother]
        exact listAt_set hvc _
  case noFrame =>
    intro p s h
    exact runs_of_eq rfl ((resetAfterRsp_of_still _ h).trans (transmitEnd_of_still h)) rfl
  case credit =>
    intro p cvc ccnt s hc hn hup
    have hcredit : creditReceive p cvc ccnt [] s = takeCredit p cvc ccnt s := creditReceive_of_up hup
    exact runs_of_eq (exec_credit hc hn (.inl rfl)) hcredit
      ⟨port_takeCredit hn, port_modPort_other .., onlyWires_takeCredit.only.eq⟩
  case sync =>
    intro p cvc ccnt sync s hc hn hlen hall hup hrl hra
    have hport := port_takeCredit (p := p) (cvc := cvc) (s := s) hn
    have hlow : ∀ m, listAt ((takeCredit p cvc ccnt s).port p).received m < 64 := fun m => by
      rw [hport]
      change (s.port p).received.getD m 0 < 64
      rw [List.getD_eq_getElem?_getD]
      by_cases hm : m < (s.port p).received.length
      · rw [List.getElem?_eq_getElem hm]
        simpa using List.all_eq_true.mp hra _ (List.getElem_mem hm)
      · rw [List.getElem?_eq_none (by omega)]
        decide
    obtain ⟨hdone, -, hl, hfreed, honly⟩ := sync_shown (sync := sync) (by rw [hport]; exact hrl) hlow 4 (le_refl 4)
    refine runs_of_eq (exec_credit hc hn (.inr ⟨hlen, hall⟩)) ((creditReceive_of_up hup).trans (by rw [hlen]))
      ⟨eq_map_of_listAt (hl.trans hlen.symm) (by rw [hlen]; exact hdone), ?_, (onlyWires_takeCredit.only.trans honly).eq⟩
    rw [hfreed, hport]
  case noCredit =>
    intro p cvc ccnt s hc hn hup
    exact runs_of_eq (exec_credit hc hn (.inl rfl)) (creditReceive_of_not_up hup) rfl
  case giveBack =>
    intro p s hup hpend
    exact runs_of_eq rfl (if_pos (by simpa [hup] using hpend))
      ⟨by rw [port_queueFrame_same], (onlyQueues_queueFrame ..).only.eq⟩
  case noGiveBack =>
    intro p s h
    refine runs_of_eq rfl (if_neg ?_) rfl
    obtain h | h := h <;> simp [h]
  case syncOut =>
    intro p s hup
    exact runs_of_eq rfl (if_pos hup) ⟨by rw [port_queueFrame_same], (onlyQueues_queueFrame ..).only.eq⟩
  case noSync =>
    intro p s hup
    exact runs_of_eq rfl (if_neg (by simp [hup])) rfl
  case reset =>
    intro p bs v s hoff hhold hin hbad hmany hw
    obtain ⟨hcount, hkept, rs, r, hrest⟩ := errorCounted_shown p s
    have hmany' : 16 ≤ (recentErrors p s).length := by
      simp only [recentErrors, List.length_append, List.length_singleton, hmany]
      exact le_refl 16
    obtain ⟨p2, hreset⟩ := linkReset_eq p (errorCounted p s)
    have hrecv : receiveFrame p bs v s = _ := (receiveFrame_of_error hoff hhold hbad).trans
      ((discardFrame_eq p s).trans ((if_pos hmany').trans hreset))
    have hcls : belayClass 14 (resetParam p) = clsU := by cases p <;> rfl
    obtain ⟨hrep, hblocks, hmem, hfld, hrope, hhost⟩ := ropeReport_after (param := resetParam p) (p2 := p2) (p3 := 0) hw hkept
      ⟨rs, r, s.host, hrest⟩ (by cases p <;> decide) (by rw [hcls]; decide)
    generalize report 14 (resetParam p) p2 0 (errorCounted p s) = w at hrep hblocks hmem hfld hrope hhost hrecv
    obtain ⟨hlink, hport, hinbox, hlost, rs', r', h', hrest'⟩ := portLost_unwatched (s := w) p
      (fun hw' => Bool.noConfusion (hrep.1.symm.trans hw'.1))
    have honly := onlyRope_modPort p (fun q => { q with holdDown := true, errorsAt := [] }) (portLost p w)
    have hin' : ((portLost p w).modPort p (fun q => { q with holdDown := true, errorsAt := [] })).rope.inbox = [] := by
      have hsame : ((portLost p w).modPort p (fun q => { q with holdDown := true, errorsAt := [] })).rope.inbox =
          (portLost p w).rope.inbox := by cases p <;> rfl
      rw [hsame, hinbox, hrope, ← hin]
      cases p <;> rfl
    have hport' : ((portLost p w).modPort p (fun q => { q with holdDown := true, errorsAt := [] })).port p =
        { droppedPort (w.port p) with holdDown := true, errorsAt := [] } :=
      (port_modPort_same ..).trans (by rw [hport])
    have hwport : w.port p = { s.port p with errorsAt := recentErrors p s } :=
      (port_of_rope hrope p).trans (port_errorCounted p s)
    have hall : FieldsKept (lostFields p) w
        ((portLost p w).modPort p (fun q => { q with holdDown := true, errorsAt := [] })) := hlost.trans (.of_regs honly.regs)
    refine runs_of_eq rfl ((congrArg servePoll hrecv).trans (servePoll_of_empty hin')) ⟨?_, (honly.link p).trans hlink, ?_, ?_, ?_,
      ?_, ?_, ?_⟩
    · rw [hall.fld (by cases p <;> decide), hfld _ (by cases p <;> rfl)]
      exact hcount
    · rw [hport']
    · rw [hport']
    · rw [hport', hwport]
      rfl
    · have hrep' : Reported 14 (resetParam p) clsU s w := hcls ▸ hrep
      have hdone := hrep'.of_regsKept (u := (portLost p w).modPort p (fun q => { q with holdDown := true, errorsAt := [] }))
        (bs := []) hall.regsKept (by rw [modPort_flt, hrest']) (by decide) (by cases p <;> decide)
      cases p <;> exact hdone
    · refine fun a ha => ((hall.regsKept (bs := [])).blocksKept (cs := [8]) (by decide) (by cases p <;> decide) a ?_).trans
        (hblocks a ha)
      exact fun h => ha (List.mem_cons.mpr (.inl (List.mem_singleton.mp h)))
    · refine hmem.trans (MemKept.trans ?_ honly.memKept)
      rw [hrest']
      exact .of_eq rfl rfl rfl

end Sys2Proof.Machine
end

section
/-! Rules of the transfer engine's descriptors and of its stream ring (R544, R545, R549, R550). -/

namespace Sys2Proof.Machine

/-! ### States that differ in the transfer engine alone -/

/-- Only registers and the transfer engine may differ. -/
def OnlyXfer (s t : State) : Prop := ∃ rs x, t = { s with regs := rs, xfer := x }

theorem OnlyXfer.refl (s : State) : OnlyXfer s s := ⟨s.regs, s.xfer, rfl⟩

theorem OnlyXfer.trans {s t u : State} (h : OnlyXfer s t) (k : OnlyXfer t u) : OnlyXfer s u := by
  obtain ⟨r, x, rfl⟩ := h
  obtain ⟨r', x', rfl⟩ := k
  exact ⟨r', x', rfl⟩

theorem OnlyXfer.eq {s t : State} (h : OnlyXfer s t) : t = { s with regs := t.regs, xfer := t.xfer } := by
  obtain ⟨r, x, rfl⟩ := h
  rfl

theorem OnlyRegs.xfer {s t : State} (h : OnlyRegs s t) : OnlyXfer s t := by
  obtain ⟨r, rfl⟩ := h
  exact ⟨r, s.xfer, rfl⟩

theorem onlyXfer_modXfer (f : Xfer → Xfer) (s : State) : OnlyXfer s (s.modXfer f) := ⟨s.regs, _, rfl⟩

theorem onlyXfer_setFlag (f : Fld) (b : Bool) (s : State) : OnlyXfer s (s.setFlag f b) := ⟨_, s.xfer, rfl⟩

/-! ### Descriptors are settled (R544, R549) -/

/-- What settling the descriptors shows. -/
def descrFields : List Fld := [.XFER_CAPST_STATE, .XFER_TAIL_BLK, .XFER_STAT_HRDY]

theorem settledCapture_shown (s : State) : FieldsKept [.XFER_CAPST_STATE] s (settledCapture s) ∧
    ∃ rs cf cs, settledCapture s =
      { s with regs := rs, xfer := { s.xfer with descrs := keptDescrs s, capFrames := cf, capStop := cs } } := by
  unfold settledCapture
  split
  · exact ⟨(FieldsKept.of_regs rfl).trans ((FieldsKept.setFld (.refl _ (settledDescrs s)) (by simp) (by decide)).trans
      (.of_regs rfl)), _, _, _, rfl⟩
  · exact ⟨.of_regs rfl, s.regs, s.xfer.capFrames, s.xfer.capStop, rfl⟩

theorem settleDescrs_shown (s : State) : FieldsKept descrFields s (settleDescrs s) ∧
    ∃ rs cf cs, settleDescrs s =
      { s with regs := rs, xfer := { s.xfer with descrs := keptDescrs s, capFrames := cf, capStop := cs } } := by
  obtain ⟨v, b, h⟩ := settleDescrs_eq s
  obtain ⟨hkept, rs, cf, cs, hrest⟩ := settledCapture_shown s
  rw [h]
  refine ⟨FieldsKept.setFlag (FieldsKept.setFld (hkept.mono (by simp [descrFields])) (by simp [descrFields]) (by decide))
    (by simp [descrFields]) (by decide), ?_⟩
  rw [hrest]
  exact ⟨_, cf, cs, rfl⟩

/-- Where no descriptor is a capture, settling leaves the capture alone. -/
theorem settleDescrs_of_no_capture {s : State} (h : s.xfer.descrs.all (fun d => d.record.isEmpty) = true) :
    FieldsKept [.XFER_TAIL_BLK, .XFER_STAT_HRDY] s (settleDescrs s) ∧
      ∃ rs, settleDescrs s = { s with regs := rs, xfer := { s.xfer with descrs := keptDescrs s } } := by
  have hnone : s.xfer.descrs.any (fun d => !d.record.isEmpty) = false := by
    rw [List.any_eq_false]
    intro d hd
    simpa using List.all_eq_true.mp h d hd
  have hcap : settledCapture s = settledDescrs s := if_neg (by simp [hnone])
  obtain ⟨v, b, heq⟩ := settleDescrs_eq s
  rw [hcap] at heq
  rw [heq]
  refine ⟨FieldsKept.setFlag (FieldsKept.setFld (.of_regs rfl) (by simp) (by decide)) (by simp) (by decide), _, rfl⟩

/-! ### A frame is held in the stream ring (R544, R545) -/

/-- The mask that a held frame keeps: the host's quota may take its bit away (R550). -/
def quotaMask (mask : Nat) (s : State) : Nat :=
  if decide (mask &&& dHost ≠ 0) && decide (s.hostQuota ≤ hostPendingFrames s) then mask - dHost else mask

/-- HOVF shows a frame that the host's quota refused. -/
def quotaShown (mask : Nat) (s : State) : State :=
  s.when (decide (mask &&& dHost ≠ 0) && decide (s.hostQuota ≤ hostPendingFrames s)) (fun t => t.setFlag .XFER_STAT_HOVF true)

/-- The ring with a frame's bytes in it, and HEAD behind them. -/
def ringTaken (bs : List Byte) (s : State) : State :=
  (ramWrite 0 s.ringBlocks (s.fld .XFER_HEAD_BLK) bs s).setFld .XFER_HEAD_BLK
    ((s.fld .XFER_HEAD_BLK + ceilDiv bs.length 32) % s.ringBlocks)

/-- The descriptor of a held frame. -/
def heldDescr (bs : List Byte) (number mask : Nat) (s : State) : Descr :=
  { frames := [(s.fld .XFER_HEAD_BLK, bs.length)], record := [], number := number, dests := mask }

theorem onlyRegs_quotaShown (mask : Nat) (s : State) : OnlyRegs s (quotaShown mask s) := by
  unfold quotaShown State.when
  split
  · exact (OnlyRegs.refl s).setFlag _ _
  · exact .refl s

theorem fieldsKept_quotaShown (mask : Nat) (s : State) : FieldsKept [.XFER_STAT_HOVF] s (quotaShown mask s) := by
  unfold quotaShown State.when
  split
  · exact FieldsKept.setFlag (.refl _ s) (by simp) (by decide)
  · exact .refl _ s

theorem holdFrame_of_full {bs : List Byte} {number mask : Nat} {s : State} (h : ringRoom s bs.length = false) :
    holdFrame bs number mask s = s.setFlag .XFER_STAT_FOVF true := by
  rw [holdFrame, if_pos (by simp [h])]

theorem ringBlocks_quotaShown (mask : Nat) (s : State) : (quotaShown mask s).ringBlocks = s.ringBlocks := by
  have h := (fieldsKept_quotaShown mask s).fld (g := .XFER_RING_CAPBLK) (by decide)
  simp only [State.ringBlocks, State.capBlocks, h]

theorem head_quotaShown (mask : Nat) (s : State) : (quotaShown mask s).fld .XFER_HEAD_BLK = s.fld .XFER_HEAD_BLK :=
  (fieldsKept_quotaShown mask s).fld (by decide)

/-- A frame that the ring has room for is written there and waits for its destinations. -/
theorem holdFrame_of_room {bs : List Byte} {number mask : Nat} {s : State} (h : ringRoom s bs.length = true) :
    holdFrame bs number mask s = settleDescrs ((ringTaken bs (quotaShown mask s)).modXfer (fun x =>
      { x with descrs := x.descrs ++ [heldDescr bs number (quotaMask mask s) (quotaShown mask s)] })) := by
  rw [holdFrame, if_neg (by simp [h])]
  rfl

theorem ramWrite_eq (base size off : Nat) (bs : List Byte) (s : State) :
    ∃ m, ramWrite base size off bs s = { s with xfer := { s.xfer with ram := m } } := ⟨_, rfl⟩

theorem head_lt (s : State) (n : Nat) (h : 0 < s.ringBlocks) : (s.fld .XFER_HEAD_BLK + n) % s.ringBlocks < 2048 :=
  lt_of_lt_of_le (Nat.mod_lt _ h) (Nat.sub_le _ _)

/-- The stream ring is never empty: a capture partition takes half of the RAM at most. -/
theorem ringBlocks_pos (s : State) : 0 < s.ringBlocks := by
  have h : min 32 (s.fld .XFER_RING_CAPBLK) ≤ 32 := Nat.min_le_left _ _
  simp only [State.ringBlocks, State.capBlocks]
  omega

/-- HEAD lies behind the frame written, and only the ring and HEAD have changed. -/
theorem ringTaken_shown (bs : List Byte) (s : State) :
    (ringTaken bs s).fld .XFER_HEAD_BLK = (s.fld .XFER_HEAD_BLK + ceilDiv bs.length 32) % s.ringBlocks ∧
      FieldsKept [.XFER_HEAD_BLK] s (ringTaken bs s) ∧
      ∃ rs, ringTaken bs s = { s with regs := rs, xfer :=
        { s.xfer with ram := (ramWrite 0 s.ringBlocks (s.fld .XFER_HEAD_BLK) bs s).xfer.ram } } := by
  refine ⟨?_, FieldsKept.setFld (.of_regs rfl) (by simp) (by decide), _, rfl⟩
  rw [ringTaken, fld_setFld_same _ _ _ (by decide)]
  exact Nat.mod_eq_of_lt (head_lt s _ (ringBlocks_pos s))

/-- What a frame held in the stream ring shows (R545, R550). -/
def holdFields : List Fld := .XFER_STAT_HOVF :: .XFER_HEAD_BLK :: descrFields

theorem holdFrame_shown {bs : List Byte} {number mask : Nat} {s : State} (h : ringRoom s bs.length = true) :
    (holdFrame bs number mask s).fld .XFER_HEAD_BLK = (s.fld .XFER_HEAD_BLK + ceilDiv bs.length 32) % s.ringBlocks ∧
      FieldsKept holdFields s (holdFrame bs number mask s) ∧
      ∃ rs m ds cf cs, holdFrame bs number mask s = { s with regs := rs, xfer :=
        { s.xfer with ram := m, descrs := ds, capFrames := cf, capStop := cs } } := by
  rw [holdFrame_of_room h]
  obtain ⟨hhead, hring, rs, hrest⟩ := ringTaken_shown bs (quotaShown mask s)
  rw [head_quotaShown, ringBlocks_quotaShown] at hhead
  have hquota := fieldsKept_quotaShown mask s
  obtain ⟨q, hq⟩ := onlyRegs_quotaShown mask s
  obtain ⟨hsettled, rs', cf, cs, hset⟩ := settleDescrs_shown ((ringTaken bs (quotaShown mask s)).modXfer (fun x =>
    { x with descrs := x.descrs ++ [heldDescr bs number (quotaMask mask s) (quotaShown mask s)] }))
  refine ⟨?_, ?_, ?_⟩
  · rw [hsettled.fld (by decide)]
    exact hhead
  · exact (((hquota.mono (by simp [holdFields])).trans (hring.mono (by simp [holdFields]))).trans (.of_regs rfl)).trans
      (hsettled.mono fun f hf => List.mem_cons_of_mem _ (List.mem_cons_of_mem _ hf))
  · rw [hset, hrest, hq]
    exact ⟨rs', _, _, cf, cs, rfl⟩

end Sys2Proof.Machine
end

section
/-! The hop delay of a link, remote events and the stream's segments (R217, R504, R510, R552). -/

namespace Sys2Proof.Machine

/-! ### The eight echoes are in (R504) -/

/-- L of the hop delay, with the eighth echo's round trip. -/
def echoL (s : State) : Nat := (roundDiv (((s.rope.probes.foldl (· + ·) 0 : Nat) : Int) - 3200) 16).toNat

/-- The unit with its hop delay taken. -/
def hopMeasured (s : State) : State :=
  (s.setFld .ROPE_UP_LDLY (echoL s)).modRope (fun r =>
    { r with cumDelay := (r.base + echoL s + 400) % 65536, probes := [] })

theorem hopDelayDone_of_near {s : State} (h : echoL s ≤ 64) :
    OnlyQueues (showHopDelay (hopMeasured s)) (hopDelayDone s) := by
  have heq : hopDelayDone s =
      sendEnum ((hopMeasured s).fld .ROPE_ADDR_HEADA) 4 (leNat 1 ((hopMeasured s).link .dn)) (showHopDelay (hopMeasured s)) := by
    unfold echoL at h
    unfold hopDelayDone
    dsimp only
    rw [if_neg (Nat.not_lt.mpr h), Nat.min_eq_left (h.trans (by decide))]
    rfl
  rw [heq]
  exact onlyQueues_sendEnum ..

theorem showHopDelay_eq (s : State) :
    showHopDelay s = s.setRegN Reg.ANG_HOPDLY (if s.angSrc = 0 then 0 else s.rope.cumDelay) := rfl

theorem angSrc_hopMeasured (s : State) : (hopMeasured s).angSrc = s.angSrc :=
  fld_setFld_other s _ _ _ (by decide) (by decide)

theorem hopMeasured_shown {s : State} (h : echoL s ≤ 64) :
    (hopMeasured s).fld .ROPE_UP_LDLY = echoL s ∧ FieldsKept [.ROPE_UP_LDLY] s (hopMeasured s) := by
  refine ⟨(fld_setFld_same s _ _ (by decide)).trans (Nat.mod_eq_of_lt (lt_of_le_of_lt h (by decide))),
    (FieldsKept.setFld (.refl _ s) (by simp) (by decide)).trans (.of_regs rfl)⟩

theorem showHopDelay_shown (s : State) :
    FieldsKept [wholeReg Reg.ANG_HOPDLY] s (showHopDelay s) ∧ showHopDelay s = { s with regs := (showHopDelay s).regs } :=
  ⟨(FieldsKept.refl _ s).setRegN (by simp), rfl⟩

/-- The eighth echo shows L, and the unit's cumulative delay where the angle comes over the rope. -/
theorem hopDelayDone_shown {s : State} (h : echoL s ≤ 64) :
    (hopDelayDone s).fld .ROPE_UP_LDLY = echoL s ∧
      (hopDelayDone s).rope.cumDelay = (s.rope.base + echoL s + 400) % 65536 ∧ (hopDelayDone s).rope.probes = [] ∧
      (hopDelayDone s).regN Reg.ANG_HOPDLY = (if s.angSrc = 0 then 0 else (hopDelayDone s).rope.cumDelay) ∧
      FieldsKept [.ROPE_UP_LDLY, wholeReg Reg.ANG_HOPDLY] s (hopDelayDone s) ∧
      hopDelayDone s = { s with regs := (hopDelayDone s).regs, rope := (hopDelayDone s).rope } := by
  obtain ⟨hl, hkept⟩ := hopMeasured_shown h
  obtain ⟨hshow, hrest⟩ := showHopDelay_shown (hopMeasured s)
  have hsrc := angSrc_hopMeasured s
  have hval : (showHopDelay (hopMeasured s)).regN Reg.ANG_HOPDLY =
      (if s.angSrc = 0 then 0 else (hopMeasured s).rope.cumDelay) := by
    rw [showHopDelay_eq, regN_setRegN_same, hsrc]
    split
    · rfl
    · exact Nat.mod_mod _ _
  have hmeasured : hopMeasured s = { s with regs := (hopMeasured s).regs, rope := (hopMeasured s).rope } := rfl
  have hdelay : (hopMeasured s).rope.cumDelay = (s.rope.base + echoL s + 400) % 65536 := rfl
  have hprobes : (hopMeasured s).rope.probes = [] := rfl
  obtain ⟨qu, qd, hdone⟩ := hopDelayDone_of_near h
  generalize hopMeasured s = m at *
  generalize showHopDelay m = w at *
  have hregs : (hopDelayDone s).regs = w.regs := by rw [hdone]
  have hrope : w.rope = m.rope := by rw [hrest]
  have hcum : (hopDelayDone s).rope.cumDelay = m.rope.cumDelay := by rw [hdone, ← hrope]
  have hpr : (hopDelayDone s).rope.probes = m.rope.probes := by rw [hdone, ← hrope]
  have hall : FieldsKept [.ROPE_UP_LDLY, wholeReg Reg.ANG_HOPDLY] s (hopDelayDone s) :=
    ((hkept.mono (by simp)).trans (hshow.mono (by simp))).trans (.of_regs hregs)
  refine ⟨?_, hcum.trans hdelay, hpr.trans hprobes, ?_, hall, ?_⟩
  · exact ((hshow.trans (.of_regs hregs)).fld (by decide)).trans hl
  · rw [hcum, ← hval]
    unfold State.regN State.reg
    rw [hregs]
  · rw [hdone, hrest, hmeasured]

/-! ### A remote record (R510) -/

theorem jobs_of_onlyRope {s t : State} (h : OnlyRope s t) : t.nvm = s.nvm := by
  obtain ⟨r, rfl⟩ := h
  rfl

theorem queueRecord_of_room {r : Rec} {s : State} (hf : s.isFatal = false) (hsingle : r.single = false)
    (hn : (s.nvm.jobs.filter isLogJob).length < 16) :
    queueRecord r s = setJobs s (s.nvm.jobs ++ [{ kind := .logRec r }]) := by
  unfold queueRecord
  dsimp only
  rw [if_neg (by simp [hf]), if_neg (by simp [hsingle]), if_pos hn]

theorem setJobs_shown (s : State) (js : List Job) : FieldsKept [.LOG_STAT_QLOG, .NVM_JSTAT_QCNT] s (setJobs s js) ∧
    setJobs s js = { s with regs := (setJobs s js).regs, nvm := { s.nvm with jobs := js } } :=
  ⟨FieldsKept.setFld (FieldsKept.setFld (.of_regs rfl) (by simp) (by decide)) (by simp) (by decide), rfl⟩

/-! ### Segments (R552) -/

/-- What is held of a source's frame, replaced. -/
def reasmPut (src : Nat) (o : List (Nat × Nat × List Byte)) (s : State) : State :=
  s.modXfer (fun x => { x with reasm := x.reasm.filter (fun r => r.1 != src) ++ o })

theorem joinSegment_of_only {s t : State} (h : OnlyRope s t) (src : Nat) (b : Byte) (seg : List Byte) :
    joinSegment src b seg t = joinSegment src b seg s := by
  obtain ⟨r, rfl⟩ := h
  rfl

theorem segmentWaits_of_only {s t : State} (h : OnlyRope s t) (src : Nat) (bs : List Byte) :
    segmentWaits src bs t = segmentWaits src bs s := by
  obtain ⟨r, rfl⟩ := h
  rfl

theorem ringRoom_of_only {s t : State} (h : OnlyRope s t) (n : Nat) : ringRoom t n = ringRoom s n := by
  obtain ⟨r, rfl⟩ := h
  rfl

theorem segmentWaits_cons {src : Nat} {b : Byte} {seg l : List Byte} {s : State}
    (hj : joinSegment src b seg s = (false, some l)) :
    segmentWaits src (b :: seg) s = (!(b.getLsbD 6 && !frameCheck l) && !ringRoom s l.length) := by
  simp only [segmentWaits, hj]

theorem takeSegment_more {src : Nat} {b : Byte} {seg l : List Byte} {s : State}
    (hj : joinSegment src b seg s = (false, some l)) (hlast : b.getLsbD 6 = false)
    (hw : segmentWaits src (b :: seg) s = false) :
    takeSegment src (b :: seg) s = reasmPut src [(src, b.toNat % 64 + 1, l)] s := by
  simp only [takeSegment, hj, hw, hlast, Bool.false_eq_true, if_false, Bool.not_false, if_true, State.when]
  rfl

theorem takeSegment_bad {src : Nat} {b : Byte} {seg l : List Byte} {s : State}
    (hj : joinSegment src b seg s = (false, some l)) (hlast : b.getLsbD 6 = true) (hc : frameCheck l = false) :
    takeSegment src (b :: seg) s = reasmPut src [] (s.setFlag .XFER_STAT_RDROP true) := by
  have hw : segmentWaits src (b :: seg) s = false := by rw [segmentWaits_cons hj, hlast, hc]; rfl
  simp only [takeSegment, hj, hw, hlast, hc, Bool.false_eq_true, if_false, Bool.not_false, Bool.not_true, if_true, State.when]
  rfl

theorem takeSegment_whole {src : Nat} {b : Byte} {seg l : List Byte} {s : State}
    (hj : joinSegment src b seg s = (false, some l)) (hlast : b.getLsbD 6 = true) (hc : frameCheck l = true)
    (hroom : ringRoom s l.length = true) :
    ∃ number mask, takeSegment src (b :: seg) s = holdFrame l number mask (reasmPut src [] s) := by
  have hw : segmentWaits src (b :: seg) s = false := by rw [segmentWaits_cons hj, hroom]; simp
  simp only [takeSegment, hj, hw, hlast, hc, Bool.false_eq_true, if_false, Bool.not_true, State.when]
  exact ⟨_, _, rfl⟩

theorem takeSegment_waits {src : Nat} {bs : List Byte} {s : State} (hw : segmentWaits src bs s = true) :
    takeSegment src bs s = s := by
  cases bs with
  | nil => rfl
  | cons b seg => simp only [takeSegment, hw, if_true]

theorem holdFields_blocks : ∀ f ∈ holdFields, blockOf f.addr ∈ [9] := by decide

theorem streamIn_of_head {src : Nat} {bs : List Byte} {s : State} (hhead : s.isHead = true)
    (hw : segmentWaits src bs s = false) : streamIn src bs s = takeSegment src bs (takeInbox tyData src s) :=
  if_neg (by simp [hhead, hw])

theorem streamIn_waits {src : Nat} {bs : List Byte} {s : State} (h : s.isHead = false ∨ segmentWaits src bs s = true) :
    streamIn src bs s = s := if_pos (by obtain h | h := h <;> simp [h])

/-- A probe that leaves, as the frame of R504. -/
theorem dlyProbe_shown (s : State) {u : State}
    (hu : u = queueFrame .up ⟨1, tyDly, s.unitNo, 0, [1], false⟩ (s.modRope (fun r => { r with probesLeft := r.probesLeft - 1 }))) :
    u.rope.up.queue = s.rope.up.queue ++ [⟨1, tyDly, s.unitNo, 0, [1], false⟩] ∧
      u.rope.probesLeft = s.rope.probesLeft - 1 ∧ u = { s with rope := u.rope } := by
  subst hu
  exact ⟨rfl, rfl, rfl⟩

/-- Settles O46: each command is the operation that its own lemmas above give. -/
theorem delaysEventsAndStreams : Obligations.DelaysEventsAndStreams := by
  unfold Obligations.DelaysEventsAndStreams
  refine ⟨?probe, ?noProbe, ?echo, ?noEcho, ?early, ?eighth, ?noLink, ?event, ?noHeadEvent, ?more, ?bad, ?noHead, ?waits,
    ?whole⟩
  case probe =>
    intro s hleft hup
    exact runs_of_eq rfl (if_pos (by simp [hleft, hup])) (dlyProbe_shown s rfl)
  case noProbe =>
    intro s h
    exact runs_of_eq rfl (if_neg (by obtain h | h := h <;> simp [h])) rfl
  case echo =>
    intro s hup
    exact runs_of_eq rfl (if_pos hup) ⟨rfl, rfl⟩
  case noEcho =>
    intro s hup
    exact runs_of_eq rfl (if_neg (by simp [hup])) rfl
  case early =>
    intro rt s hup hn
    refine runs_of_eq rfl (if_pos hup) ?_
    exact if_neg (by simp; omega)
  case eighth =>
    intro rt l s hup hn hl hnear
    have hsum : echoL (s.modRope (fun r => { r with probes := r.probes ++ [rt] })) = l := by
      rw [hl, echoL]
      simp [List.foldl_append]
    have hlen : (s.modRope (fun r => { r with probes := r.probes ++ [rt] })).rope.probes.length = 8 := by simp [hn]
    have hshown := hopDelayDone_shown (hsum.le.trans hnear)
    rw [hsum] at hshown
    obtain ⟨hldly, hcum, hprobes, hreg, hkept, hrest⟩ := hshown
    exact runs_of_eq rfl ((if_pos hup).trans (if_pos hlen))
      ⟨hldly, hcum, hprobes, hreg, (FieldsKept.of_regs rfl).trans hkept, hrest⟩
  case noLink =>
    intro rt s hup
    exact runs_of_eq rfl (if_neg (by simp [hup])) rfl
  case event =>
    intro src bs s hwf hhead hf hn hcode
    have honly := (onlyWires_takeInbox tyEvt src s).only
    have hhead' : (takeInbox tyEvt src s).isHead = true := (honly.flag _).trans hhead
    have hf' : (takeInbox tyEvt src s).isFatal = false := (honly.flag _).trans hf
    have hnvm := jobs_of_onlyRope honly
    have heq : evtReceive src bs s = (setJobs (takeInbox tyEvt src s) (s.nvm.jobs ++ [{ kind := .logRec ⟨ofLe (bs.take 2) % 4096,
        leNat 2 (ofLe (bs.take 2) % 32768 + 32768) ++ bs.drop 2, false, false⟩ }])).setFlag .ROPE_STAT_EVRX true := by
      unfold evtReceive
      dsimp only
      rw [hhead', if_neg (by simp), if_neg (by simp [hcode]), queueRecord_of_room hf' rfl (by rw [hnvm]; exact hn), hnvm]
    refine runs_of_eq (answerIf_next.mpr ⟨hwf, rfl⟩) heq ?_
    obtain ⟨hkept, hrest⟩ := setJobs_shown (takeInbox tyEvt src s) (s.nvm.jobs ++ [{ kind := .logRec ⟨ofLe (bs.take 2) % 4096,
        leNat 2 (ofLe (bs.take 2) % 32768 + 32768) ++ bs.drop 2, false, false⟩ }])
    refine ⟨flag_setFlag_same _ _ _ (by decide) (by decide), rfl,
      FieldsKept.setFlag (((FieldsKept.of_regs honly.regs).trans hkept).mono (by simp)) (by simp) (by decide), ?_⟩
    generalize s.nvm.jobs ++ _ = js at *
    generalize takeInbox tyEvt src s = m at *
    have hm := honly.eq
    rw [hrest, hm]
    rfl
  case noHeadEvent =>
    intro src bs s hwf hhead
    have honly := (onlyWires_takeInbox tyEvt src s).only
    refine runs_of_eq (answerIf_next.mpr ⟨hwf, rfl⟩) ?_ honly.eq
    unfold evtReceive
    exact if_pos (by simp [(honly.flag .ROPE_STAT_HEAD).trans hhead, State.isHead])
  case more =>
    intro src bs seg b l s hwf hhead hbs hj hlast hw
    subst hbs
    have honly := (onlyWires_takeInbox tyData src s).only
    refine runs_of_eq (answerIf_next.mpr ⟨hwf, rfl⟩) ((streamIn_of_head hhead hw).trans
      (takeSegment_more ((joinSegment_of_only honly ..).trans hj) hlast ((segmentWaits_of_only honly ..).trans hw))) ?_
    generalize takeInbox tyData src s = m at *
    have hm := honly.eq
    rw [hm]
    exact ⟨rfl, rfl⟩
  case bad =>
    intro src bs seg b l s hwf hhead hbs hj hlast hc
    subst hbs
    have honly := (onlyWires_takeInbox tyData src s).only
    have hw : segmentWaits src (b :: seg) s = false := by rw [segmentWaits_cons hj, hlast, hc]; rfl
    refine runs_of_eq (answerIf_next.mpr ⟨hwf, rfl⟩) ((streamIn_of_head hhead hw).trans
      (takeSegment_bad ((joinSegment_of_only honly ..).trans hj) hlast hc)) ?_
    generalize takeInbox tyData src s = m at *
    have hm := honly.eq
    rw [hm]
    exact ⟨flag_setFlag_same _ _ _ (by decide) (by decide), List.append_nil _,
      FieldsKept.setFlag (.refl _ s) (by simp) (by decide), rfl⟩
  case noHead =>
    intro src bs s hwf hhead
    exact runs_of_eq (answerIf_next.mpr ⟨hwf, rfl⟩) (streamIn_waits (.inl hhead)) rfl
  case waits =>
    intro src bs s hwf hhead hw
    exact runs_of_eq (answerIf_next.mpr ⟨hwf, rfl⟩) (streamIn_waits (.inr hw)) rfl
  case whole =>
    intro src bs seg b l s hwf hhead hbs hj hlast hc hroom
    subst hbs
    have honly := (onlyWires_takeInbox tyData src s).only
    have hw : segmentWaits src (b :: seg) s = false := by rw [segmentWaits_cons hj, hroom]; simp
    obtain ⟨number, mask, hwhole⟩ := takeSegment_whole ((joinSegment_of_only honly ..).trans hj) hlast hc
      ((ringRoom_of_only honly _).trans hroom)
    refine runs_of_eq (answerIf_next.mpr ⟨hwf, rfl⟩) ((streamIn_of_head hhead hw).trans hwhole) ?_
    generalize takeInbox tyData src s = m at *
    have hm := honly.eq
    have hroom' : ringRoom (reasmPut src [] m) l.length = true := (ringRoom_of_only honly _).trans hroom
    obtain ⟨hheadblk, hkept, rs, ram, ds, cf, cs, hrest⟩ := holdFrame_shown (number := number) (mask := mask) hroom'
    have hblocks : BlocksKept [9] m (holdFrame l number mask (reasmPut src [] m)) :=
      ((FieldsKept.of_regs rfl).trans hkept).regsKept.blocksKept (bs := []) (by decide) holdFields_blocks
    generalize holdFrame l number mask (reasmPut src [] m) = w at *
    refine ⟨?_, ?_, ?_, ?_, ?_, ?_⟩
    · rw [hrest, hm]
      simp [reasmPut]
    · rw [hheadblk, hm]
      rfl
    · exact fun a ha => (hblocks a ha).trans (by rw [hm]; rfl)
    · rw [hrest]
      rfl
    · intro a
      rw [hrest, hm]
      rfl
    · intro a
      rw [hrest, hm]
      rfl

end Sys2Proof.Machine
end

section
/-! Rules of the slots (R285, R331 to R334, R341, R342): what finishing a slot, skipping an occurrence and powering the slices
leave alone. -/

namespace Sys2Proof.Machine

/-! ### States that differ in the slots' parts alone -/

/-- Only registers, the result registers, the sequencer, the engines and the slices may differ. -/
def OnlySlots (s t : State) : Prop :=
  ∃ rs res q e sl, t = { s with regs := rs, tab := { s.tab with result := res }, seq := q, eng := e, slices := sl }

/-- What a slot's end shows: the counts of R334, the queue and the notices of R341 and R342. -/
def slotFields : List Fld :=
  [.SEQ_QSTAT_FDROP, .SEQ_QSTAT_FQFILL, wholeReg Reg.SEQ_QSTAT, wholeReg Reg.SEQ_DUE, wholeReg (Reg.SEQ_DUE + 1),
   wholeReg Reg.SEQ_MISS, wholeReg (Reg.SEQ_MISS + 1)]

/-- From s to t only slots have ended or slices have changed. -/
structure SlotStep (s t : State) : Prop where
  only : OnlySlots s t
  kept : FieldsKept slotFields s t

theorem SlotStep.of_eq {s t : State} (h : ∃ res q e sl,
    t = { s with tab := { s.tab with result := res }, seq := q, eng := e, slices := sl }) : SlotStep s t := by
  obtain ⟨res, q, e, sl, rfl⟩ := h
  exact ⟨⟨s.regs, res, q, e, sl, rfl⟩, .of_regs rfl⟩

theorem SlotStep.refl (s : State) : SlotStep s s := .of_eq ⟨s.tab.result, s.seq, s.eng, s.slices, rfl⟩

theorem SlotStep.trans {s t u : State} (h : SlotStep s t) (k : SlotStep t u) : SlotStep s u := by
  obtain ⟨⟨rs, res, q, e, sl, rfl⟩, hf⟩ := h
  obtain ⟨⟨rs', res', q', e', sl', rfl⟩, kf⟩ := k
  exact ⟨⟨rs', res', q', e', sl', rfl⟩, hf.trans kf⟩

theorem SlotStep.of_regs {s t : State} (h : OnlyRegs s t) (hf : FieldsKept slotFields s t) : SlotStep s t := by
  obtain ⟨rs, rfl⟩ := h
  exact ⟨⟨rs, s.tab.result, s.seq, s.eng, s.slices, rfl⟩, hf⟩

theorem SlotStep.fld {s t : State} (h : SlotStep s t) {f : Fld} (hf : slotFields.all (fun g => g.apart f) = true) :
    t.fld f = s.fld f := h.kept.fld hf

theorem SlotStep.memKept {s t : State} (h : SlotStep s t) : MemKept s t := by
  obtain ⟨⟨rs, res, q, e, sl, rfl⟩, -⟩ := h
  exact .of_eq rfl rfl rfl

theorem SlotStep.rest {s t : State} (h : SlotStep s t) :
    t = { s with regs := t.regs, tab := t.tab, seq := t.seq, eng := t.eng, slices := t.slices } := by
  obtain ⟨⟨rs, res, q, e, sl, rfl⟩, -⟩ := h
  rfl

theorem SlotStep.tab {s t : State} (h : SlotStep s t) : t.tab = { s.tab with result := t.tab.result } := by
  obtain ⟨⟨rs, res, q, e, sl, rfl⟩, -⟩ := h
  rfl

/-! ### One slot's end -/

theorem slotStep_putResult (reg : Nat) (v : Int) (st : Nat) (s : State) : SlotStep s (putResult reg v st s) :=
  .of_eq ⟨_, _, s.eng, s.slices, rfl⟩

theorem slotStep_modEng (n : Nat) (f : EngSt → EngSt) (s : State) : SlotStep s (s.modEng n f) :=
  .of_eq ⟨s.tab.result, s.seq, _, s.slices, rfl⟩

theorem slotStep_modSlice (n : Nat) (f : SliceSt → SliceSt) (s : State) : SlotStep s (s.modSlice n f) :=
  .of_eq ⟨s.tab.result, s.seq, s.eng, _, rfl⟩

theorem slotStep_postNotice (entry n : Nat) (s : State) : SlotStep s (postNotice entry n s) := by
  unfold postNotice
  split
  · exact slotStep_modEng ..
  · exact .of_regs ⟨_, rfl⟩ (FieldsKept.setFldBit (.refl _ s) (by decide))

theorem slotStep_postNotices (e : List Word) (entry : Nat) (s : State) : SlotStep s (postNotices e entry s) := by
  refine forEach_keeps (SlotStep s) _ 6 s (.refl s) fun n t _ ht => ?_
  split
  · exact ht.trans (slotStep_postNotice entry n t)
  · exact ht

theorem slotStep_setFrameQ (s : State) (q : List (Nat × Nat × Nat × Nat)) : SlotStep s (setFrameQ s q) := by
  have hseq : SlotStep s { s with seq := { s.seq with frameQ := q } } := .of_eq ⟨s.tab.result, _, s.eng, s.slices, rfl⟩
  exact hseq.trans (.of_regs ⟨_, rfl⟩ (FieldsKept.setFld (.refl _ _) (by decide) (by decide)))

theorem slotStep_queueFrameItem (e : List Word) (entry pass : Nat) (w : Word × Word) (s : State) :
    SlotStep s (queueFrameItem e entry pass w s) := by
  have hdrop : SlotStep s { s with seq := { s.seq with dropped := true } } := .of_eq ⟨s.tab.result, _, s.eng, s.slices, rfl⟩
  unfold queueFrameItem
  split
  · exact .refl s
  · split
    · exact slotStep_setFrameQ ..
    · exact hdrop.trans (.of_regs ⟨_, rfl⟩ (FieldsKept.setFlag (.refl _ _) (by decide) (by decide)))

theorem slotStep_setReg32 {a v : Nat} (s : State) (h0 : wholeReg a ∈ slotFields) (h1 : wholeReg (a + 1) ∈ slotFields) :
    SlotStep s (s.setReg32 a v) := .of_regs ⟨_, rfl⟩ (FieldsKept.setReg32 (.refl _ s) h0 h1)

theorem slotStep_countSlot (cls : Nat) (s : State) : SlotStep s (countSlot cls s) := by
  unfold countSlot
  dsimp only
  split
  · exact slotStep_setReg32 s (by decide) (by decide)
  · split
    · exact (slotStep_setReg32 s (by decide) (by decide)).trans (slotStep_setReg32 _ (by decide) (by decide))
    · exact .refl s

theorem slotStep_armAfters (entry : Nat) (s : State) : SlotStep s (armAfters entry s) :=
  .of_eq ⟨s.tab.result, _, s.eng, s.slices, rfl⟩

theorem slotStep_finishSlot (e : List Word) (entry pass : Nat) (v : Int) (st cls : Nat) (s : State) :
    SlotStep s (finishSlot e entry pass v st cls s) :=
  (slotStep_putResult ..).trans ((slotStep_postNotices ..).trans ((slotStep_queueFrameItem ..).trans
    ((slotStep_countSlot ..).trans (slotStep_armAfters ..))))

theorem slotStep_takeSetl (entry : Nat) (s : State) : SlotStep s (takeSetl entry s).2 :=
  .of_eq ⟨s.tab.result, _, s.eng, s.slices, rfl⟩

theorem slotStep_oweSetl (es : List Nat) (s : State) : SlotStep s (oweSetl es s) :=
  .of_eq ⟨s.tab.result, _, s.eng, s.slices, rfl⟩

theorem slotStep_missSlot (entry pass : Nat) (s : State) : SlotStep s (missSlot entry pass s) := slotStep_finishSlot ..

theorem slotStep_supplySlot (entry pass : Nat) (sub : Bool) (s : State) : SlotStep s (supplySlot entry pass sub s) :=
  (slotStep_takeSetl entry s).trans (slotStep_finishSlot ..)

theorem slotStep_skipOcc (n : Nat) (o : Occ) (s : State) : SlotStep s (skipOcc n o s) := by
  unfold skipOcc
  split
  · exact slotStep_supplySlot ..
  · split
    · exact .refl s
    · exact slotStep_putResult ..

/-! ### The powered slices (R293) -/

theorem slotStep_powerSlices (s : State) : SlotStep s (powerSlices s) := by
  refine forEach_keeps (SlotStep s) _ 13 s (.refl s) fun n t _ ht => ?_
  dsimp only
  split
  · exact ht.trans (slotStep_modSlice ..)
  · split
    · exact ht.trans (slotStep_modSlice ..)
    · exact forList_keeps (SlotStep s) _ _ _ (ht.trans (slotStep_modSlice ..))
        fun o u _ hu => hu.trans (slotStep_skipOcc n o u)

theorem sys_of_slotStep {s t : State} (h : SlotStep s t) : t.sys = s.sys := by rw [h.rest]

theorem free_of_slotStep {s t : State} (h : SlotStep s t) : t.free = s.free := by rw [h.rest]

/-! ### An exit from bivouac begins (R103) -/

/-- The exit's clock, slices and reference, before the slices follow. -/
def exitBegun (s : State) : State :=
  { s.setFlag .SYS_MODE_BIVREQ false with sys :=
    { s.sys with bivExit := true, slowClock := s.profile == 1, slicesOn := true } }.setFlag .REF_STAT_BUFON s.sys.bivRef

theorem profile_setFlag_bivreq (b : Bool) (s : State) : (s.setFlag .SYS_MODE_BIVREQ b).profile = s.profile :=
  fld_setFlag_other _ _ _ _ (by decide) (by decide)

theorem beginExit_eq (s : State) : beginExit s = powerSlices (exitBegun s) := by
  unfold beginExit exitBegun
  dsimp only
  rw [profile_setFlag_bivreq]
  rfl

theorem exitBegun_kept (s : State) : FieldsKept [.SYS_MODE_BIVREQ, .REF_STAT_BUFON] s (exitBegun s) :=
  FieldsKept.setFlag ((FieldsKept.setFlag (.refl _ s) (by simp) (by decide)).trans (.of_regs rfl)) (by simp) (by decide)

theorem exitBegun_rest (s : State) : exitBegun s = { s with
    regs := (exitBegun s).regs
    sys := { s.sys with bivExit := true, slowClock := s.profile == 1, slicesOn := true } } := rfl

theorem flag_of_fld {s t : State} {f : Fld} (h : t.fld f = s.fld f) : t.flag f = s.flag f := by
  simp only [State.flag, h]

/-- The request is withdrawn, the exit is under way, and the slices are powered. -/
theorem beginExit_shown (s : State) : (beginExit s).flag .SYS_MODE_BIVREQ = false ∧
    (beginExit s).sys = { s.sys with bivExit := true, slowClock := s.profile == 1, slicesOn := true } ∧
    SlotStep (exitBegun s) (beginExit s) := by
  have hstep : SlotStep (exitBegun s) (beginExit s) := beginExit_eq s ▸ slotStep_powerSlices _
  refine ⟨?_, sys_of_slotStep hstep, hstep⟩
  have hflag : (exitBegun s).flag .SYS_MODE_BIVREQ = false :=
    (flag_setFlag_other _ _ _ _ (by decide) (by decide)).trans (flag_setFlag_same s _ _ (by decide) (by decide))
  exact (flag_of_fld (hstep.fld (by decide))).trans hflag

end Sys2Proof.Machine
end

section
/-! Register access, reset and wake over the rope, and the end of a team write (R495, R511, R515). -/

namespace Sys2Proof.Machine

/-! ### What a consumed frame leaves for its access -/

theorem ledSlot_of_only {s t : State} (h : OnlyRope s t) (id : Nat) : t.ledSlot id = s.ledSlot id := by
  obtain ⟨r, rfl⟩ := h
  rfl

theorem held_of_only {s t : State} (h : OnlyRope s t) : t.sys = s.sys := by
  obtain ⟨r, rfl⟩ := h
  rfl

theorem admits_of_only {s t : State} {p : Path} {a : Nat} (h : OnlyRope s t) (k : Admits p a s) : Admits p a t := by
  obtain ⟨r, rfl⟩ := h
  exact k

theorem admitsRead_of_only {s t : State} {p : Path} {a : Nat} (h : OnlyRope s t) (k : AdmitsRead p a s) :
    AdmitsRead p a t := by
  obtain ⟨r, rfl⟩ := h
  exact k

theorem served_of_only {s t : State} (h : OnlyRope s t) : t.served = s.served := by
  obtain ⟨r, rfl⟩ := h
  rfl

theorem mayRead_of_only {s t : State} (h : OnlyRope s t) (p : Path) (b : Nat) : t.mayRead p b = s.mayRead p b := by
  obtain ⟨r, rfl⟩ := h
  rfl

theorem mayWrite_of_only {s t : State} (h : OnlyRope s t) (p : Path) (b : Nat) : t.mayWrite p b = s.mayWrite p b := by
  obtain ⟨r, rfl⟩ := h
  rfl

theorem reg_of_only {s t : State} (h : OnlyRope s t) (a : Nat) : t.reg a = s.reg a := by
  obtain ⟨r, rfl⟩ := h
  rfl

/-! ### Answers on the rope -/

theorem putFrame_paths (p : Port) (f : RopeFrame) (x : List (Nat × PathState)) (s : State) :
    putFrame p f { s with paths := x } = ((putFrame p f s).1, { (putFrame p f s).2 with paths := x }) := by
  have hup : State.isUp { s with paths := x } p = s.isUp p := rfl
  unfold putFrame
  rw [hup]
  split
  · cases p <;> rfl
  · rfl

/-- Sending does not look at the paths' own values. -/
theorem sendFrame_paths (f : RopeFrame) (x : List (Nat × PathState)) (s : State) :
    sendFrame f { s with paths := x } = ((sendFrame f s).1, { (sendFrame f s).2 with paths := x }) := by
  have hroute : State.routeTo { s with paths := x } none f.dst = s.routeTo none f.dst := rfl
  unfold sendFrame
  rw [hroute]
  dsimp only
  split
  · rfl
  · split
    · split
      · rw [putFrame_paths .up f x s]
        dsimp only
        rw [putFrame_paths .dn f x (putFrame .up f s).2]
      · rw [putFrame_paths .dn f x s]
    · split
      · rfl
      · split
        · exact putFrame_paths ..
        · exact putFrame_paths ..

theorem rope_sendOff_paths (f : RopeFrame) (x : List (Nat × PathState)) (s : State) :
    (sendOff f { s with paths := x }).rope = (sendOff f s).rope := by
  rw [sendOff, sendFrame_paths]
  rfl

/-- A frame sent after an access of a path has left only its paths' values and registers changed. -/
theorem sendOff_after {m u : State} (f : RopeFrame) (h : u = { m with regs := u.regs, paths := u.paths }) :
    (sendOff f u).rope = (sendOff f { m with regs := u.regs }).rope := by
  have hu : sendOff f u = sendOff f { m with regs := u.regs, paths := u.paths } := congrArg _ h
  rw [hu]
  exact rope_sendOff_paths f u.paths { m with regs := u.regs }

/-! ### RD and WR (R495) -/

theorem ropeRead_of_unit {src dst tag a st : Nat} {w : Word} {s u : State} (hheld : s.sys.held = false)
    (hled : s.ledSlot dst = none) (hst : rspBits st = st) (h : accessRead (.rope src) a (takeInbox tyRd src s) = (⟨st, w⟩, u)) :
    ropeRead src dst tag a s = sendRsp u.unitNo src tag st w.toNat u := by
  have honly := (onlyWires_takeInbox tyRd src s).only
  unfold ropeRead
  dsimp only
  rw [held_of_only honly, hheld, if_neg (by simp), ledSlot_of_only honly, hled]
  dsimp only
  rw [h]
  dsimp only
  rw [hst]

/-- A read answered from a state in which only the paths' values have changed. -/
theorem ropeRead_shown {src tag d st : Nat} {s u : State}
    (h : u = { takeInbox tyRd src s with paths := u.paths }) :
    (sendRsp u.unitNo src tag st d u).rope = (sendOff (rspFrame s.unitNo src tag st d) (takeInbox tyRd src s)).rope ∧
      sendRsp u.unitNo src tag st d u = { s with
        paths := (sendRsp u.unitNo src tag st d u).paths, rope := (sendRsp u.unitNo src tag st d u).rope } := by
  have honly := (onlyWires_takeInbox tyRd src s).only
  have hunit : u.unitNo = s.unitNo := (congrArg State.unitNo h).trans honly.unitNo
  have hsend := (onlyQueues_sendRsp u.unitNo src tag st d u).only
  generalize takeInbox tyRd src s = m at *
  constructor
  · rw [hunit, sendRsp, congrArg (sendOff _) h]
    exact rope_sendOff_paths ..
  · have hm := honly.eq
    have hw := hsend.eq
    generalize sendRsp u.unitNo src tag st d u = w at *
    rw [hw, h, hm]

theorem ropeWrite_of_unit {src dst tag a v : Nat} {s : State} (hheld : s.sys.held = false) (hled : s.ledSlot dst = none) {st : Nat}
    {u : State} (h : accessWrite (.rope src) a (word v) (takeInbox tyWr src s) = (st, u)) :
    ropeWrite src dst tag a v s = if dst = 31 then u else sendRsp u.unitNo src tag (rspBits st) v u := by
  have honly := (onlyWires_takeInbox tyWr src s).only
  unfold ropeWrite
  dsimp only
  rw [held_of_only honly, hheld, if_neg (by simp), ledSlot_of_only honly, hled]
  dsimp only
  rw [h]

/-- A plain register is written as its access codes say, and its path's read shadow is dropped. -/
def wordWritten (p : Path) (a v : Nat) (s : State) : State :=
  ((dropKey p s).setReg a (writtenWord a (s.reg a) (word v))).modPath p (fun x => { x with readShadow := [] })

theorem accessWrite_of_plainlyWritten {p : Path} {a v : Nat} {s : State} (ha : a < 512) (hadm : Admits p a s)
    (hplain : plainlyWritten a = true) : accessWrite p a (word v) s = (0, wordWritten p a v s) := by
  simp only [plainlyWritten, Bool.and_eq_true, Bool.not_eq_true', beq_iff_eq] at hplain
  obtain ⟨⟨⟨⟨⟨hact, hq⟩, hw⟩, hforce⟩, hfix⟩, hst⟩ := hplain
  rw [accessWrite_plain hadm hact hq hw hforce hfix, plainWrite_live ha hst]
  rfl

theorem wordWritten_shown (p : Path) (a v : Nat) (s : State) :
    (wordWritten p a v s).reg a = writtenWord a (s.reg a) (word v) ∧
      FieldsKept [wholeReg a] s (wordWritten p a v s) ∧
      wordWritten p a v s = { s with regs := (wordWritten p a v s).regs, paths := (wordWritten p a v s).paths } :=
  ⟨reg_setReg_same _ _ _, (FieldsKept.setReg (FieldsKept.refl _ s).dropKey (by simp)).modPath, rfl⟩

/-! ### RSP (R495, R515) -/

theorem takeTeamRsp_of_none {src tag st : Nat} {s : State} (h : s.rope.teamWrites = []) : takeTeamRsp src tag st s = none := by
  simp [takeTeamRsp, h]

theorem teamWrites_takeInbox (typ src : Nat) (s : State) : (takeInbox typ src s).rope.teamWrites = s.rope.teamWrites := by
  obtain ⟨a, b, i, h⟩ := onlyWires_takeInbox typ src s
  rw [h]

theorem ropeRsp_of_none {src tag st d : Nat} {s : State} (h : s.rope.teamWrites = []) :
    ropeRsp src tag st d s = answerRemote tag st (word d) (takeInbox tyRsp src s) := by
  unfold ropeRsp
  dsimp only
  rw [takeTeamRsp_of_none ((teamWrites_takeInbox ..).trans h)]

theorem answerRemote_of_pending {tag st : Nat} {d : Word} {r : Remote} {s : State} (hr : s.host.remote = some r)
    (htag : r.tag = tag) (hans : r.answer = none) :
    answerRemote tag st d s =
      { s with host := { s.host with remote := some { r with answer := some ⟨rspBits st, d⟩ } } } := by
  unfold answerRemote
  rw [hr]
  exact if_pos (by simp [htag, hans])

theorem answerRemote_of_none {tag st : Nat} {d : Word} {s : State} (hr : s.host.remote = none) :
    answerRemote tag st d s = s := by
  unfold answerRemote
  rw [hr]

theorem host_of_only {s t : State} (h : OnlyRope s t) : t.host = s.host := by
  obtain ⟨r, rfl⟩ := h
  rfl

/-! ### RST and WAKE (R511) -/

theorem powerRsp_shown (src tag st : Nat) (s : State) : OnlyQueues { s with free := s.free + 1 } (powerRsp src tag st s) :=
  onlyQueues_sendRsp ..

theorem resetAfter_powerRsp (src tag st : Nat) (s : State) : (powerRsp src tag st s).rope.resetAfter = s.rope.resetAfter := by
  obtain ⟨a, b, h⟩ := powerRsp_shown src tag st s
  rw [h]

theorem resetAfter_takeInbox (typ src : Nat) (s : State) : (takeInbox typ src s).rope.resetAfter = s.rope.resetAfter := by
  obtain ⟨a, b, i, h⟩ := onlyWires_takeInbox typ src s
  rw [h]

/-- Only the rope and the free values may differ, of which one has been taken. -/
theorem powerRsp_after {m s : State} (src tag st : Nat) (h : OnlyRope s m) :
    (powerRsp src tag st m).free = s.free + 1 ∧
      powerRsp src tag st m = { s with rope := (powerRsp src tag st m).rope, free := s.free + 1 } := by
  obtain ⟨r, rfl⟩ := h
  obtain ⟨a, b, hq⟩ := powerRsp_shown src tag st { s with rope := r }
  rw [hq]
  exact ⟨rfl, rfl⟩

theorem powerGate_of_only {s t : State} (h : OnlyRope s t) (src : Nat) (k : Bool) : powerGate src k t = powerGate src k s := by
  obtain ⟨r, rfl⟩ := h
  rfl

theorem powerGate_open {src : Nat} {s : State} (hs : s.served = true) (hm : s.mayWrite (.rope src) 0 = true) :
    powerGate src true s = 0 := by
  simp [powerGate, hs, hm]

theorem powerGate_shut {src : Nat} {k : Bool} {s : State} (hs : s.served = true)
    (h : k = false ∨ s.mayWrite (.rope src) 0 = false) : powerGate src k s = stDeny := by
  obtain h | h := h <;> simp [powerGate, hs, h]

theorem ropeReset_of_unit {src dst key tag : Nat} {s : State} (hs : s.served = true) (hled : s.ledSlot dst = none) :
    ropeReset src dst key tag s =
      (if powerGate src (key == 0xC35A) s = 0 then
        (powerRsp src tag (powerGate src (key == 0xC35A) s) (takeInbox tyRst src s)).modRope
          (fun r => { r with resetAfter := some (src, tag) })
      else powerRsp src tag (powerGate src (key == 0xC35A) s) (takeInbox tyRst src s)) := by
  have honly := (onlyWires_takeInbox tyRst src s).only
  unfold ropeReset
  dsimp only
  rw [held_of_only honly, held_of_served hs, if_neg (by simp), ledSlot_of_only honly, hled]
  dsimp only
  rw [powerGate_of_only honly]

theorem ropeWake_of_unit {src dst tag : Nat} {s : State} (hs : s.served = true) (hled : s.ledSlot dst = none) :
    ropeWake src dst tag s =
      (if powerGate src true s = 0 then wakeUnit (powerRsp src tag (powerGate src true s) (takeInbox tyWake src s))
      else powerRsp src tag (powerGate src true s) (takeInbox tyWake src s)) := by
  have honly := (onlyWires_takeInbox tyWake src s).only
  unfold ropeWake
  dsimp only
  rw [held_of_only honly, held_of_served hs, if_neg (by simp), ledSlot_of_only honly, hled]
  dsimp only
  rw [powerGate_of_only honly]

theorem wakeUnit_of_bivouac {s : State} (hb : s.inBivouac = true) (he : s.sys.bivExit = false)
    (hc : s.fld .SYS_STAT_BIVC ≠ bivBudget) : wakeUnit s = beginExit s := by
  have hblock : s.exitBlocked = false := by simpa [State.exitBlocked] using hc
  exact if_pos (by simp [hb, he, hblock])

theorem wakeUnit_awake {s : State} (hb : s.inBivouac = false) : wakeUnit s = s := if_neg (by simp [hb])

/-! ### The end of a team write (R515) -/

theorem teamWriteTimeout_host {w : TeamWrite} {rest : List TeamWrite} {r : Remote} {s : State}
    (hw : s.rope.teamWrites = w :: rest) (hsrc : w.src = 0) (hlast : w.last = false) (hr : s.host.remote = some r)
    (htag : r.tag = w.tag) (hans : r.answer = none) : teamWriteTimeout s = { s with
      rope := { s.rope with teamWrites := rest }
      host := { s.host with remote := some { r with answer := some ⟨rspBits (w.bits ||| stUnitErr), word w.data⟩ } } } := by
  unfold teamWriteTimeout
  rw [hw]
  dsimp only [endTeamWrite]
  rw [if_pos hsrc, answerRemote_of_pending (s := s.modRope (fun r => { r with teamWrites := rest })) hr htag hans,
    if_neg (by simp [hlast])]
  rfl

theorem teamWriteTimeout_rope {w : TeamWrite} {rest : List TeamWrite} {s : State} (hw : s.rope.teamWrites = w :: rest)
    (hsrc : w.src ≠ 0) (hlast : w.last = false) : teamWriteTimeout s =
      sendRsp s.unitNo w.src w.tag (rspBits (w.bits ||| stUnitErr)) w.data { s with rope := { s.rope with teamWrites := rest } } := by
  unfold teamWriteTimeout
  rw [hw]
  dsimp only [endTeamWrite]
  rw [if_neg hsrc, if_neg (by simp [hlast])]
  rfl

/-- Settles O44: each frame's own lemma above, after the frame has left the inbox. -/
theorem ropeAccessIsAnswered : Obligations.RopeAccessIsAnswered := by
  unfold Obligations.RopeAccessIsAnswered
  refine ⟨?read, ?readDenied, ?write, ?broadcast, ?answer, ?dropped, ?reset, ?resetDenied, ?wake, ?noWake, ?hostEnd, ?ropeEnd,
    ?noTeam⟩
  case read =>
    intro src dst tag a s hwf hheld hled hadm hplain hrc
    have hread := accessRead_plain (admitsRead_of_only (onlyWires_takeInbox tyRd src s).only hadm) hplain
    have hno : readClears a (dropKey (.rope src) (takeInbox tyRd src s)) = dropKey (.rope src) (takeInbox tyRd src s) :=
      readClears_of_no_rc (by rw [hrc]; rfl) _
    rw [hno, reg_of_only (onlyWires_takeInbox tyRd src s).only] at hread
    exact runs_of_eq (answerIf_next.mpr ⟨hwf, rfl⟩) (ropeRead_of_unit hheld hled (by decide) hread)
      (ropeRead_shown rfl)
  case readDenied =>
    intro src dst tag a s hwf hs hled halways hm
    have honly := (onlyWires_takeInbox tyRd src s).only
    have hread := accessRead_refused (p := .rope src) (a := a) ((served_of_only honly).trans hs) halways
      ((mayRead_of_only honly _ _).trans hm)
    exact runs_of_eq (answerIf_next.mpr ⟨hwf, rfl⟩) (ropeRead_of_unit (held_of_served hs) hled (by decide) hread)
      (ropeRead_shown rfl)
  case write =>
    intro src dst tag a v s hwf hled hadm hplain hdst
    have honly := (onlyWires_takeInbox tyWr src s).only
    have ha : a < 512 := by
      simp only [Instr.wellFormed, Bool.and_eq_true] at hwf
      simpa [fits] using hwf.1.2
    have hwrite := accessWrite_of_plainlyWritten (v := v) ha (admits_of_only honly hadm) hplain
    obtain ⟨hreg, hkept, hrest⟩ := wordWritten_shown (.rope src) a v (takeInbox tyWr src s)
    obtain ⟨hserved, -⟩ := hadm
    refine runs_of_eq (answerIf_next.mpr ⟨hwf, rfl⟩)
      ((ropeWrite_of_unit (held_of_served hserved) hled hwrite).trans (if_neg hdst)) ?_
    generalize wordWritten (.rope src) a v (takeInbox tyWr src s) = u at *
    have hsend := onlyQueues_sendRsp u.unitNo src tag (rspBits 0) v u
    have hsame := hsend.only.regs
    have hunit := hsend.only.unitNo
    have hafter := sendOff_after (rspFrame u.unitNo src tag (rspBits 0) v) hrest
    have hw := hsend.only.eq
    change (sendRsp u.unitNo src tag (rspBits 0) v u).rope = _ at hafter
    generalize sendRsp u.unitNo src tag (rspBits 0) v u = w at *
    refine ⟨?_, ?_, ?_, ?_⟩
    · rw [reg_of_only hsend.only, hreg, reg_of_only honly]
    · exact ((FieldsKept.of_regs honly.regs).trans hkept).trans (.of_regs hsame)
    · rw [hsame, hunit]
      exact hafter
    · have hm := honly.eq
      generalize takeInbox tyWr src s = m at *
      rw [hw, hrest, hm]
  case broadcast =>
    intro src tag a v s hwf hled hadm hplain
    have honly := (onlyWires_takeInbox tyWr src s).only
    have ha : a < 512 := by
      simp only [Instr.wellFormed, Bool.and_eq_true] at hwf
      simpa [fits] using hwf.1.2
    have hwrite := accessWrite_of_plainlyWritten (v := v) ha (admits_of_only honly hadm) hplain
    obtain ⟨hreg, hkept, hrest⟩ := wordWritten_shown (.rope src) a v (takeInbox tyWr src s)
    obtain ⟨hserved, -⟩ := hadm
    refine runs_of_eq (answerIf_next.mpr ⟨hwf, rfl⟩)
      ((ropeWrite_of_unit (held_of_served hserved) hled hwrite).trans (if_pos rfl)) ?_
    generalize wordWritten (.rope src) a v (takeInbox tyWr src s) = u at *
    refine ⟨?_, (FieldsKept.of_regs honly.regs).trans hkept, ?_, ?_⟩
    · rw [hreg, reg_of_only honly]
    · rw [hrest]
    · have hm := honly.eq
      generalize takeInbox tyWr src s = m at *
      rw [hrest, hm]
  case answer =>
    intro src tag st d r s hwf hteam hr htag hans
    have honly := (onlyWires_takeInbox tyRsp src s).only
    have heq := (ropeRsp_of_none (src := src) (tag := tag) (st := st) (d := d) hteam).trans
      (answerRemote_of_pending ((congrArg HostPort.remote (host_of_only honly)).trans hr) htag hans)
    rw [host_of_only honly] at heq
    refine runs_of_eq (answerIf_next.mpr ⟨hwf, rfl⟩) heq ⟨rfl, rfl, ?_⟩
    have hm := honly.eq
    generalize takeInbox tyRsp src s = m at *
    rw [hm]
  case dropped =>
    intro src tag st d s hwf hteam hr
    have honly := (onlyWires_takeInbox tyRsp src s).only
    exact runs_of_eq (answerIf_next.mpr ⟨hwf, rfl⟩) ((ropeRsp_of_none hteam).trans
      (answerRemote_of_none ((congrArg HostPort.remote (host_of_only honly)).trans hr))) honly.eq
  case reset =>
    intro src dst tag s hwf hs hled hm
    have honly := (onlyWires_takeInbox tyRst src s).only
    have hgate : powerGate src ((0xC35A : Nat) == 0xC35A) s = 0 := powerGate_open hs hm
    obtain ⟨hfree, hrest⟩ := powerRsp_after src tag 0 honly
    have heq : ropeReset src dst 0xC35A tag s = (powerRsp src tag 0 (takeInbox tyRst src s)).modRope
        (fun r => { r with resetAfter := some (src, tag) }) := by
      rw [ropeReset_of_unit hs hled, hgate, if_pos rfl]
    refine runs_of_eq (answerIf_next.mpr ⟨hwf, rfl⟩) heq ⟨rfl, hfree, ?_⟩
    generalize powerRsp src tag 0 (takeInbox tyRst src s) = w at *
    rw [hrest]
    rfl
  case resetDenied =>
    intro src dst key tag s hwf hs hled hm
    have honly := (onlyWires_takeInbox tyRst src s).only
    have hgate : powerGate src (key == 0xC35A) s = stDeny := powerGate_shut hs (by simpa using hm)
    obtain ⟨hfree, hrest⟩ := powerRsp_after src tag stDeny honly
    have heq : ropeReset src dst key tag s = powerRsp src tag stDeny (takeInbox tyRst src s) := by
      rw [ropeReset_of_unit hs hled, hgate, if_neg (by decide)]
    refine runs_of_eq (answerIf_next.mpr ⟨hwf, rfl⟩) heq ⟨?_, hfree, ?_⟩
    · rw [resetAfter_powerRsp, resetAfter_takeInbox]
    · rw [hrest]
  case wake =>
    intro src dst tag s hwf hs hled hm hb he hc
    have honly := (onlyWires_takeInbox tyWake src s).only
    obtain ⟨hfree, hrest⟩ := powerRsp_after src tag 0 honly
    have heq : ropeWake src dst tag s = wakeUnit (powerRsp src tag 0 (takeInbox tyWake src s)) := by
      rw [ropeWake_of_unit hs hled, powerGate_open hs hm, if_pos rfl]
    generalize powerRsp src tag 0 (takeInbox tyWake src s) = w at *
    have hbw : w.inBivouac = true := by rw [hrest]; exact hb
    have hew : w.sys.bivExit = false := by rw [hrest]; exact he
    have hcw : w.fld .SYS_STAT_BIVC ≠ bivBudget := by rw [hrest]; exact hc
    obtain ⟨hreq, hsys, hstep⟩ := beginExit_shown w
    refine runs_of_eq (answerIf_next.mpr ⟨hwf, rfl⟩) (heq.trans (wakeUnit_of_bivouac hbw hew hcw)) ⟨hreq, ?_, ?_, ?_, ?_⟩
    · rw [hsys]
    · rw [hsys]
    · rw [free_of_slotStep hstep, exitBegun_rest, hrest]
    · refine MemKept.trans ?_ hstep.memKept
      rw [exitBegun_rest, hrest]
      exact .of_eq rfl rfl rfl
  case noWake =>
    intro src dst tag s hwf hs hled h
    have honly := (onlyWires_takeInbox tyWake src s).only
    have hno : ∃ g, ropeWake src dst tag s = powerRsp src tag g (takeInbox tyWake src s) := by
      refine ⟨powerGate src true s, (ropeWake_of_unit hs hled).trans ?_⟩
      obtain ⟨-, hrest⟩ := powerRsp_after src tag (powerGate src true s) honly
      obtain hm | hb := h
      · rw [if_neg (by rw [powerGate_shut hs (.inr hm)]; decide)]
      · split
        · exact wakeUnit_awake (by rw [hrest]; exact hb)
        · rfl
    obtain ⟨g, heq⟩ := hno
    obtain ⟨hfree, hrest⟩ := powerRsp_after src tag g honly
    refine runs_of_eq (answerIf_next.mpr ⟨hwf, rfl⟩) heq ⟨hfree, ?_⟩
    rw [hrest]
  case hostEnd =>
    intro w rest r s hw hsrc hlast hr htag hans
    exact runs_of_eq rfl (teamWriteTimeout_host hw hsrc hlast hr htag hans) ⟨rfl, rfl, rfl⟩
  case ropeEnd =>
    intro w rest s hw hsrc hlast
    refine runs_of_eq rfl (teamWriteTimeout_rope hw hsrc hlast) ⟨rfl, ?_⟩
    have hsend := (onlyQueues_sendRsp s.unitNo w.src w.tag (rspBits (w.bits ||| stUnitErr)) w.data
      { s with rope := { s.rope with teamWrites := rest } }).only.eq
    generalize sendRsp s.unitNo w.src w.tag _ w.data _ = u at *
    rw [hsend]
  case noTeam =>
    intro s hw
    exact runs_of_eq rfl (by rw [teamWriteTimeout, hw]) rfl

end Sys2Proof.Machine
end

section
/-! Rules of the on-chip store's commands (R599, R600): the access by a path, the buffer, a command's end and its host jobs. -/

namespace Sys2Proof.Machine

/-! ### Accesses by a path -/

/-- A path's value kept beside others. -/
def keyOf (ps : List (Nat × PathState)) (p : Path) : Bool := (readAt (fun _ => {}) ps (pathKey p)).nvmKey

theorem path_modPath (s : State) (p : Path) (f : PathState → PathState) : (s.modPath p f).path p = f (s.path p) :=
  readAt_writeAt_same _ _ _ _

/-- A command that is one write of a path, let through and executed, with what the path knows of its key. -/
theorem runs_keyedWrite {c : Instr} {p : Path} {a : Nat} {v : Word} {s u : State} {P : State → Prop} (h : Admits p a s)
    (hexec : exec c s = .next (pathWrite p a v s))
    (heffect : writeReg p (s.path p).nvmKey a v (dropKey p s) = (0, u))
    (hP : ∀ ps host, (p = .host → host.answer.status = 0) → keyOf ps p = (u.path p).nvmKey →
      P { u with paths := ps, host := host }) : Runs c s P := by
  refine ⟨_, hexec, ?_⟩
  have haccess : accessWrite p a v s = (0, u.modPath p (fun x => { x with readShadow := [] })) := by
    rw [accessWrite_of_admits h, heffect]
    rfl
  rw [pathWrite_of_access haccess, answerTo_rest]
  refine hP _ _ (fun hp => by rw [answerTo_host_of_host hp]) ?_
  exact (congrArg PathState.nvmKey (path_modPath u p (fun x => { x with readShadow := [] }))).trans rfl

/-- A command that is one read of a path, let through. -/
theorem runs_read {c : Instr} {p : Path} {a : Nat} {s u : State} {r : Answer} {P : State → Prop} (h : AdmitsRead p a s)
    (hexec : exec c s = .next (pathRead p a s)) (heffect : readReg p a (dropKey p s) = (r, u))
    (hP : ∀ host, (p = .host → host.answer = r) → P { u with host := host }) : Runs c s P := by
  refine ⟨_, hexec, ?_⟩
  rw [pathRead_of_access ((accessRead_of_admits h).trans heffect), answerTo_rest]
  exact hP _ fun hp => by rw [answerTo_host_of_host hp]

theorem key_dropKey (p : Path) (s : State) : ((dropKey p s).path p).nvmKey = false :=
  congrArg PathState.nvmKey (path_modPath s p (fun x => { x with nvmKey := false }))

/-! ### The buffer (R599) -/

theorem length_padTo (n : Nat) (bs : List Byte) : (padTo n bs).length = n := by simp [padTo]

theorem getD_padTo {n i : Nat} (h : i < n) (bs : List Byte) : (padTo n bs).getD i 0 = bs.getD i 0 := by
  simp only [padTo, List.getD_eq_getElem?_getD, List.getElem?_take, h, if_true, List.getElem?_append]
  split
  · rfl
  · rw [List.getElem?_replicate, if_pos (by omega), List.getElem?_eq_none (by omega)]
    rfl

theorem slice'_two {l : List Byte} {i : Nat} (h : i + 1 < l.length) : slice' l i 2 = [l.getD i 0, l.getD (i + 1) 0] := by
  have h0 : i < l.length := by omega
  rw [slice', List.drop_eq_getElem_cons h0, List.drop_eq_getElem_cons h]
  simp only [List.take_succ_cons, List.take_zero, List.getD_eq_getElem?_getD, List.getElem?_eq_getElem h0,
    List.getElem?_eq_getElem h, Option.getD_some]

/-- The buffer's word i, as the two bytes of R4. -/
theorem slice'_padTo {i : Nat} (h : i < 32) (bs : List Byte) :
    slice' (padTo 64 bs) (2 * i) 2 = [nth 0 bs (2 * i), nth 0 bs (2 * i + 1)] := by
  rw [slice'_two (by rw [length_padTo]; omega), getD_padTo (by omega), getD_padTo (by omega)]
  rfl

/-- A buffer with word i written. -/
def bufferPut (i : Nat) (v : Word) (bs : List Byte) : List Byte :=
  (padTo 64 bs).take (2 * i) ++ leBytes v ++ (padTo 64 bs).drop (2 * i + 2)

theorem length_bufferPut {i : Nat} (h : i < 32) (v : Word) (bs : List Byte) : (bufferPut i v bs).length = 64 := by
  simp only [bufferPut, List.length_append, List.length_take, List.length_drop, length_padTo, leBytes, List.length_cons,
    List.length_nil]
  omega

theorem slice'_bufferPut {i : Nat} (h : i < 32) (v : Word) (bs : List Byte) :
    slice' (bufferPut i v bs) (2 * i) 2 = leBytes v := by
  have hlen : ((padTo 64 bs).take (2 * i)).length = 2 * i := by rw [List.length_take, length_padTo]; omega
  rw [slice', bufferPut, List.append_assoc, List.drop_append_of_le_length hlen.ge, List.drop_eq_nil_of_le hlen.le, List.nil_append,
    List.take_append_of_le_length (by simp [leBytes])]
  rfl

theorem nth_bufferPut_other {i j : Nat} (h : i < 32) (hj : j < 64) (hne : j / 2 ≠ i) (v : Word) (bs : List Byte) :
    nth 0 (bufferPut i v bs) j = nth 0 bs j := by
  have hlen : ((padTo 64 bs).take (2 * i)).length = 2 * i := by rw [List.length_take, length_padTo]; omega
  rw [nth, nth, ← getD_padTo hj bs, List.getD_eq_getElem?_getD, List.getD_eq_getElem?_getD, bufferPut, List.append_assoc]
  by_cases hlow : j < 2 * i
  · rw [List.getElem?_append_left (by omega), List.getElem?_take, if_pos hlow]
  · have htwo : (leBytes v).length = 2 := rfl
    rw [List.getElem?_append_right (by omega), List.getElem?_append_right (by omega), List.getElem?_drop, hlen, htwo]
    congr 2
    omega

/-! ### A command's end (R600) -/

/-- What a command that ends at once shows. -/
def endFields : List Fld := [.NVM_STAT_DONE, .NVM_STAT_ERR, .NVM_STAT_REASON]

theorem nvmFail_shown {r : Nat} (h : r < 16) (s : State) : (nvmFail r s).flag .NVM_STAT_DONE = true ∧
    (nvmFail r s).flag .NVM_STAT_ERR = true ∧ (nvmFail r s).fld .NVM_STAT_REASON = r ∧
    FieldsKept endFields s (nvmFail r s) ∧ nvmFail r s = { s with regs := (nvmFail r s).regs } := by
  refine ⟨?_, ?_, ?_, ?_, rfl⟩
  · rw [nvmFail, flag_setFld_other _ _ _ _ (by decide) (by decide), flag_setFlag_other _ _ _ _ (by decide) (by decide),
      flag_setFlag_same _ _ _ (by decide) (by decide)]
  · rw [nvmFail, flag_setFld_other _ _ _ _ (by decide) (by decide), flag_setFlag_same _ _ _ (by decide) (by decide)]
  · exact (fld_setFld_same _ _ _ (by decide)).trans (Nat.mod_eq_of_lt h)
  · exact FieldsKept.setFld (FieldsKept.setFlag (FieldsKept.setFlag (.refl _ s) (by decide) (by decide)) (by decide)
      (by decide)) (by decide) (by decide)

theorem nvmOk_shown (s : State) : (nvmOk s).flag .NVM_STAT_DONE = true ∧ (nvmOk s).fld .NVM_STAT_REASON = 0 ∧
    FieldsKept [.NVM_STAT_DONE, .NVM_STAT_REASON] s (nvmOk s) ∧ nvmOk s = { s with regs := (nvmOk s).regs } := by
  refine ⟨?_, ?_, ?_, rfl⟩
  · rw [nvmOk, flag_setFld_other _ _ _ _ (by decide) (by decide), flag_setFlag_same _ _ _ (by decide) (by decide)]
  · exact fld_setFld_same _ _ _ (by decide)
  · exact FieldsKept.setFld (FieldsKept.setFlag (.refl _ s) (by decide) (by decide)) (by decide) (by decide)

/-- What a queued host command shows. -/
def hostJobFields : List Fld := [.NVM_STAT_PEND, .NVM_STAT_BUSY, .NVM_JSTAT_SAVEREM, .LOG_STAT_QLOG, .NVM_JSTAT_QCNT]

theorem showNvm_shown (s : State) :
    FieldsKept [.NVM_STAT_BUSY, .NVM_JSTAT_SAVEREM] s (showNvm s) ∧ showNvm s = { s with regs := (showNvm s).regs } :=
  ⟨FieldsKept.setFld (FieldsKept.setFlag (.refl _ s) (by decide) (by decide)) (by decide) (by decide), rfl⟩

/-- A command's parts are queued at the end, and it is pending. -/
theorem hostJobs_shown {k : JobKind} {ks : List JobKind} (s : State) :
    (hostJobs (k :: ks) s).flag .NVM_STAT_PEND = true ∧ FieldsKept hostJobFields s (hostJobs (k :: ks) s) ∧
      hostJobs (k :: ks) s = { s with
        regs := (hostJobs (k :: ks) s).regs
        nvm := { s.nvm with jobs := s.nvm.jobs ++ (k :: ks).map (fun k => { kind := k, host := true }), jobFail := 0 } } := by
  obtain ⟨hkept, hrest⟩ := setJobs_shown ({ s with nvm := { s.nvm with jobFail := 0 } }.setFlag .NVM_STAT_PEND true)
    (s.nvm.jobs ++ (k :: ks).map (fun k => { kind := k, host := true }))
  have hpend := flag_setFlag_same { s with nvm := { s.nvm with jobFail := 0 } } .NVM_STAT_PEND true (by decide) (by decide)
  have hset : FieldsKept [.NVM_STAT_PEND] s ({ s with nvm := { s.nvm with jobFail := 0 } }.setFlag .NVM_STAT_PEND true) :=
    FieldsKept.setFlag (.of_regs rfl) (by simp) (by decide)
  have heq : hostJobs (k :: ks) s = showNvm (setJobs ({ s with nvm := { s.nvm with jobFail := 0 } }.setFlag .NVM_STAT_PEND true)
      (s.nvm.jobs ++ (k :: ks).map (fun k => { kind := k, host := true }))) := if_neg (by simp)
  rw [heq]
  generalize setJobs ({ s with nvm := { s.nvm with jobFail := 0 } }.setFlag .NVM_STAT_PEND true) _ = u at *
  obtain ⟨hshow, hshowRest⟩ := showNvm_shown u
  generalize showNvm u = w at *
  refine ⟨?_, ?_, ?_⟩
  · exact (flag_of_fld ((hkept.trans (FieldsKept.refl _ u)).fld (by decide))).trans hpend ▸ flag_of_fld (hshow.fld (by decide))
  · exact ((hset.mono (by simp [hostJobFields])).trans (hkept.mono (by simp [hostJobFields]))).trans
      (hshow.mono (by simp [hostJobFields]))
  · rw [hshowRest, hrest]
    rfl

theorem commandFails_lt {k key grant : Bool} {s : State} {r : Nat} (h : commandFails k key grant s = some r) : r < 16 := by
  unfold commandFails at h
  split at h
  · cases h; decide
  · split at h
    · cases h; decide
    · split at h
      · cases h; decide
      · cases h

end Sys2Proof.Machine
end

section
/-! The on-chip store's commands (R580, R583, R598 to R600, R606). -/

namespace Sys2Proof.Machine

/-! ### The commands' words -/

theorem exec_prog {p : Path} (h : okPath p = true) (s : State) :
    exec (.prog p) s = .next (pathWrite p Reg.NVM_CTRL (nvmWord 1 0 0) s) := answerIf_next.mpr ⟨h, rfl⟩

theorem exec_erase {p : Path} (h : okPath p = true) (s : State) :
    exec (.erase p) s = .next (pathWrite p Reg.NVM_CTRL (nvmWord 2 0 0) s) := answerIf_next.mpr ⟨h, rfl⟩

theorem exec_jread {p : Path} (h : okPath p = true) (s : State) :
    exec (.jread p) s = .next (pathWrite p Reg.NVM_CTRL (nvmWord 3 0 0) s) := answerIf_next.mpr ⟨h, rfl⟩

theorem exec_jwrite {p : Path} {len : Nat} (h : (Instr.jwrite p len).wellFormed = true) (s : State) :
    exec (.jwrite p len) s = .next (pathWrite p Reg.NVM_CTRL (nvmWord 4 0 len) s) := by
  refine answerIf_next.mpr ⟨?_, rfl⟩
  rw [okPath_eq_isPath]
  exact h

theorem exec_lsave {p : Path} {n : Nat} (hp : okPath p = true) (hn : n < 16) (s : State) :
    exec (.lsave p n) s = .next (pathWrite p Reg.NVM_CTRL (nvmWord 5 n 0) s) := answerIf_next.mpr ⟨by simp [hp, hn], rfl⟩

theorem exec_cinc {p : Path} {n : Nat} (hp : okPath p = true) (hn : n < 16) (s : State) :
    exec (.cinc p n) s = .next (pathWrite p Reg.NVM_CTRL (nvmWord 6 n 0) s) := answerIf_next.mpr ⟨by simp [hp, hn], rfl⟩

theorem len_of_wellFormed {p : Path} {len : Nat} (h : (Instr.jwrite p len).wellFormed = true) : len < 32 := by
  simp only [Instr.wellFormed, Bool.and_eq_true, decide_eq_true_eq] at h
  exact h.2

theorem okPath_and_arg {p : Path} {n : Nat} (h : (isPath p && fits 4 n) = true) : okPath p = true ∧ n < 16 := by
  simp only [Bool.and_eq_true, fits, decide_eq_true_eq] at h
  exact ⟨by rw [okPath_eq_isPath]; exact h.1, h.2⟩

theorem getField_jwriteWord : ∀ len < 32, getField (nvmWord 4 0 len) 12 4 = 4 ∧ getField (nvmWord 4 0 len) 0 5 = len := by decide

theorem getField_argWord : ∀ n < 16, (getField (nvmWord 5 n 0) 12 4 = 5 ∧ getField (nvmWord 5 n 0) 8 4 = n) ∧
    getField (nvmWord 6 n 0) 12 4 = 6 ∧ getField (nvmWord 6 n 0) 8 4 = n := by decide

theorem nvmCtrl_prog (p : Path) (k : Bool) (s : State) :
    writeReg p k Reg.NVM_CTRL (nvmWord 1 0 0) s = (0, progCommand k (s.granted p grantNvWr) s) := rfl

theorem nvmCtrl_erase (p : Path) (k : Bool) (s : State) :
    writeReg p k Reg.NVM_CTRL (nvmWord 2 0 0) s = (0, eraseCommand k (s.granted p grantNvWr) s) := rfl

theorem nvmCtrl_jread (p : Path) (k : Bool) (s : State) :
    writeReg p k Reg.NVM_CTRL (nvmWord 3 0 0) s = (0, jreadCommand (s.mayRead p 10) s) := rfl

theorem writeReg_NVM_CTRL (p : Path) (k : Bool) (v : Word) (s : State) :
    writeReg p k Reg.NVM_CTRL v s = nvmCtrlWrite p k v s := rfl

theorem nvmCtrl_jwrite (p : Path) (k : Bool) {len : Nat} (h : len < 32) (s : State) :
    writeReg p k Reg.NVM_CTRL (nvmWord 4 0 len) s = (0, jwriteCommand k (s.granted p grantNvWr) len s) := by
  obtain ⟨hcmd, hlen⟩ := getField_jwriteWord len h
  rw [writeReg_NVM_CTRL]
  unfold nvmCtrlWrite
  rw [hcmd, hlen]
  rfl

theorem nvmCtrl_lsave (p : Path) (k : Bool) {n : Nat} (h : n < 16) (s : State) :
    writeReg p k Reg.NVM_CTRL (nvmWord 5 n 0) s = (0, lsaveCommand k (s.granted p grantNvWr) n s) := by
  obtain ⟨⟨hcmd, harg⟩, -⟩ := getField_argWord n h
  rw [writeReg_NVM_CTRL]
  unfold nvmCtrlWrite
  rw [hcmd, harg]
  rfl

theorem nvmCtrl_cinc (p : Path) (k : Bool) {n : Nat} (h : n < 16) (s : State) :
    writeReg p k Reg.NVM_CTRL (nvmWord 6 n 0) s = (0, cincCommand (s.granted p grantNvWr) n s) := by
  obtain ⟨-, hcmd, harg⟩ := getField_argWord n h
  rw [writeReg_NVM_CTRL]
  unfold nvmCtrlWrite
  rw [hcmd, harg]
  rfl

/-! ### A command that fails, on its path -/

/-- A command that its register refuses to run ends at once with the reason (R600). -/
theorem runs_nvmFail {c : Instr} {p : Path} {v : Word} {r : Nat} {s : State} (h : Admits p Reg.NVM_CTRL s)
    (hexec : exec c s = .next (pathWrite p Reg.NVM_CTRL v s))
    (heffect : writeReg p (s.path p).nvmKey Reg.NVM_CTRL v (dropKey p s) = (0, nvmFail r (dropKey p s))) (hr : r < 16) :
    Runs c s (fun t =>
      t.flag .NVM_STAT_DONE = true ∧ t.flag .NVM_STAT_ERR = true ∧ t.fld .NVM_STAT_REASON = r ∧
      (p = .host → t.host.answer.status = 0) ∧ FieldsKept [.NVM_STAT_DONE, .NVM_STAT_ERR, .NVM_STAT_REASON] s t ∧
      t = { s with regs := t.regs, paths := t.paths, host := t.host }) := by
  obtain ⟨hdone, herr, hreason, hkept, -⟩ := nvmFail_shown hr (dropKey p s)
  exact runs_write h hexec heffect fun ps host hh => ⟨hdone, herr, hreason, hh, hkept, rfl⟩

/-! ### Each command (R600) -/

theorem progCommand_fails {k g : Bool} {r : Nat} {s : State}
    (h : commandFails true k g s = some r ∨
      (commandFails true k g s = none ∧ r = rsnProt ∧ (s.testMode = false ∨ s.regN Reg.NVM_ADDR < 0x1000))) :
    progCommand k g s = nvmFail r s := by
  unfold progCommand
  obtain hf | ⟨hf, rfl, hno⟩ := h
  · simp only [hf]
  · simp only [hf]
    exact if_pos (by obtain h | h := hno <;> simp [h])

theorem eraseCommand_fails {k g : Bool} {r : Nat} {s : State}
    (h : commandFails true k g s = some r ∨
      (commandFails true k g s = none ∧ r = rsnProt ∧ (s.testMode = false ∨ s.regN Reg.NVM_ADDR < 0x1000))) :
    eraseCommand k g s = nvmFail r s := by
  unfold eraseCommand
  obtain hf | ⟨hf, rfl, hno⟩ := h
  · simp only [hf]
  · simp only [hf]
    exact if_pos (by obtain h | h := hno <;> simp [h])

/-- The bytes that a PROG takes from the buffer: those up to the page's end. -/
def progBytes (s : State) : Nat := min (2 * s.nvm.bufIdx) (64 - s.regN Reg.NVM_ADDR % 64)

theorem progCommand_runs {k g : Bool} {s : State} (hf : commandFails true k g s = none) (ht : s.testMode = true)
    (ha : 0x1000 ≤ s.regN Reg.NVM_ADDR) : progCommand k g s =
      hostJobs (if ((padTo 64 s.nvm.buf).take (progBytes s)).isEmpty then []
        else [.rawProg (s.regN Reg.NVM_ADDR) ((padTo 64 s.nvm.buf).take (progBytes s))])
        (s.setFld .NVM_STAT_TRUNC (2 * s.nvm.bufIdx - progBytes s)) := by
  unfold progCommand
  simp only [hf]
  rw [if_neg (by simp [ht]; omega)]
  rfl

theorem eraseCommand_runs {k g : Bool} {s : State} (hf : commandFails true k g s = none) (ht : s.testMode = true)
    (ha : 0x1000 ≤ s.regN Reg.NVM_ADDR) : eraseCommand k g s = hostJobs [.rawErase (s.regN Reg.NVM_ADDR / 2048)] s := by
  unfold eraseCommand
  simp only [hf]
  exact if_neg (by simp [ht]; omega)

theorem jreadCommand_fails {g : Bool} {r : Nat} {s : State}
    (h : commandFails false false g s = some r ∨
      (commandFails false false g s = none ∧ s.winner (s.regN Reg.NVM_ADDR) = none ∧ r = rsnNoItem)) :
    jreadCommand g s = nvmFail r s := by
  unfold jreadCommand
  obtain hf | ⟨hf, hw, rfl⟩ := h
  · simp only [hf]
  · simp only [hf, hw]

/-- The buffer and the address as JREAD leaves them. -/
def jreadLoaded (bs : List Byte) (s : State) : State :=
  ({ s with nvm := { s.nvm with buf := padTo 64 (leNat 1 (recLen bs) ++ recData bs), bufIdx := 0 } }.setFlag
    .NVM_STAT_BUFRD true).setRegN Reg.NVM_ADDR (recSeq bs)

theorem jreadCommand_runs {g : Bool} {x y : Nat} {bs : List Byte} {s : State} (hf : commandFails false false g s = none)
    (hw : s.winner (s.regN Reg.NVM_ADDR) = some (x, y, bs)) : jreadCommand g s = nvmOk (jreadLoaded bs s) := by
  unfold jreadCommand
  simp only [hf, hw]
  rfl

theorem jwriteCommand_fails {k g : Bool} {len r : Nat} {s : State}
    (h : commandFails true k g s = some r ∨ (commandFails true k g s = none ∧ r = rsnRange ∧
      (24 < len ∨ jwriteAllowed (s.regN Reg.NVM_ADDR) = false ∨
        trimBad (s.regN Reg.NVM_ADDR) ((padTo 64 s.nvm.buf).take len) = true))) :
    jwriteCommand k g len s = nvmFail r s := by
  unfold jwriteCommand
  obtain hf | ⟨hf, rfl, hno⟩ := h
  · simp only [hf]
  · simp only [hf]
    exact if_pos (by obtain h | h | h := hno <;> simp [h])

theorem jwriteCommand_runs {k g : Bool} {len : Nat} {s : State} (hf : commandFails true k g s = none) (hlen : len ≤ 24)
    (hok : jwriteAllowed (s.regN Reg.NVM_ADDR) = true)
    (htrim : trimBad (s.regN Reg.NVM_ADDR) ((padTo 64 s.nvm.buf).take len) = false) :
    jwriteCommand k g len s = hostJobs [.save (s.regN Reg.NVM_ADDR) ((padTo 64 s.nvm.buf).take len)] s := by
  unfold jwriteCommand
  simp only [hf]
  exact if_neg (by simp [hok, htrim]; omega)

/-- The second part of an LSAVE: the range, where the program has a RANGE stage (log entry 10). -/
def rangePart (n : Nat) (s : State) : List JobKind :=
  match s.rangeStage n with
  | some k => [.save (0x501 + 16 * n) (bytesOfWords ((s.stageWords n k).drop 2 |>.take 4))]
  | none => []

theorem map_rangePart (n : Nat) (s : State) : (rangePart n s).map (fun k => ({ kind := k, host := true } : Job)) =
    (match s.rangeStage n with
      | some k => [{ kind := .save (0x501 + 16 * n) (bytesOfWords ((s.stageWords n k).drop 2 |>.take 4)), host := true }]
      | none => []) := by
  unfold rangePart
  cases s.rangeStage n <;> rfl

theorem lsaveCommand_runs {k g : Bool} {n : Nat} {s : State} (hf : commandFails true k g s = none) (hn : n < 6) :
    lsaveCommand k g n s = hostJobs (.save (0x500 + 16 * n) (s.identity n) :: rangePart n s) s := by
  unfold lsaveCommand
  simp only [hf]
  exact if_neg (by omega)

theorem lsaveCommand_fails {k g : Bool} {n r : Nat} {s : State}
    (h : commandFails true k g s = some r ∨ (commandFails true k g s = none ∧ 6 ≤ n ∧ r = rsnRange)) :
    lsaveCommand k g n s = nvmFail r s := by
  unfold lsaveCommand
  obtain hf | ⟨hf, hn, rfl⟩ := h
  · simp only [hf]
  · simp only [hf]
    exact if_pos hn

theorem cincCommand_runs {g : Bool} {n : Nat} {s : State} (hf : commandFails false false g s = none) (hn : n < 4) :
    cincCommand g n s = hostJobs [.counter (4 + n)]
      (s.setReg32 (Reg.CNT (4 + n)) ((s.reg32 (Reg.CNT (4 + n)) + 1) % 4294967296)) := by
  unfold cincCommand
  simp only [hf]
  exact if_neg (by omega)

theorem cincCommand_fails {g : Bool} {n r : Nat} {s : State}
    (h : commandFails false false g s = some r ∨ (commandFails false false g s = none ∧ 4 ≤ n ∧ r = rsnRange)) :
    cincCommand g n s = nvmFail r s := by
  unfold cincCommand
  obtain hf | ⟨hf, hn, rfl⟩ := h
  · simp only [hf]
  · simp only [hf]
    exact if_pos hn

/-! ### NVM.DATA (R583, R599) -/

theorem exec_nvmDataRead {p : Path} (h : okPath p = true) (s : State) :
    exec (.nvmDataAccess p none) s = .next (pathRead p Reg.NVM_DATA s) := answerIf_next.mpr ⟨h, rfl⟩

theorem readReg_NVM_DATA (p : Path) (s : State) :
    readReg p Reg.NVM_DATA s = (⟨(nvmDataRead s).1, (nvmDataRead s).2.1⟩, (nvmDataRead s).2.2) := rfl

theorem nvmDataRead_buffer {s : State} (hrd : s.flag .NVM_STAT_BUFRD = true) (hi : s.nvm.bufIdx < 32) :
    nvmDataRead s = (0, word (ofLe [nth 0 s.nvm.buf (2 * s.nvm.bufIdx), nth 0 s.nvm.buf (2 * s.nvm.bufIdx + 1)]),
      { s with nvm := { s.nvm with bufIdx := s.nvm.bufIdx + 1 } }) := by
  unfold nvmDataRead
  rw [if_pos hrd, if_neg (by omega)]
  dsimp only
  rw [slice'_padTo hi]

theorem nvmDataRead_past {s : State} (hrd : s.flag .NVM_STAT_BUFRD = true) (hi : 32 ≤ s.nvm.bufIdx) :
    ∃ w, nvmDataRead s = (0, w, { s with free := s.free + 1 }) := by
  unfold nvmDataRead
  rw [if_pos hrd, if_pos hi]
  exact ⟨_, rfl⟩

theorem nvmDataRead_refused {s : State} (hrd : s.flag .NVM_STAT_BUFRD = false)
    (h : s.regN Reg.NVM_ADDR % 2 = 1 ∨ s.storeHeld (s.regN Reg.NVM_ADDR) = true) : nvmDataRead s = (stDeny, 0, s) := by
  unfold nvmDataRead
  rw [if_neg (by simp [hrd])]
  exact if_pos (by obtain h | h := h <;> simp [h])

theorem nvmDataRead_store {s : State} (hrd : s.flag .NVM_STAT_BUFRD = false) (ha : s.regN Reg.NVM_ADDR % 2 = 0)
    (hheld : s.storeHeld (s.regN Reg.NVM_ADDR) = false) :
    nvmDataRead s = (0, (readStore (s.regN Reg.NVM_ADDR) s).1,
      (readStore (s.regN Reg.NVM_ADDR) s).2.setRegN Reg.NVM_ADDR (s.regN Reg.NVM_ADDR + 2)) := by
  unfold nvmDataRead
  rw [if_neg (by simp [hrd])]
  exact if_neg (by simp [ha, hheld])

/-- A word of the store as the host reads it. -/
def hostWord (a : Nat) (s : State) : Word := word ((s.hostByte a).toNat + 256 * (s.hostByte (a + 1)).toNat)

theorem readStore_sound {a : Nat} {s : State} (herr : s.wordErr (a / 8) = none) (h0 : s.looseBits a = 0)
    (h1 : s.looseBits (a + 1) = 0) : readStore a s = (hostWord a s, s) := by
  unfold readStore
  simp only [herr, h0, h1]
  rfl

/-- The region that a read reports: the sector, and 128 for a word that the ECC cannot correct. -/
def readRegion (a : Nat) (bad : Bool) : Nat := a / 2048 + (if bad = true then 128 else 0)

/-- The state in which a read reports its word: an uncorrectable one has taken a free value for its data. -/
def drawnFor (bad : Bool) (s : State) : State := if bad = true then { s with free := s.free + 1 } else s

theorem readStore_bad {a : Nat} {bad : Bool} {s : State} (herr : s.wordErr (a / 8) = some bad) :
    ∃ w, readStore a s = (w, report 4 (readRegion a bad) (a % 2048) 0 (drawnFor bad s)) ∧ (bad = false → w = hostWord a s) := by
  unfold readStore
  simp only [herr]
  cases bad
  · exact ⟨_, rfl, fun _ => rfl⟩
  · have hregion : readRegion a true = 0x80 + a / 2048 := Nat.add_comm ..
    refine ⟨if keyArea a then 0 else s.freeDraw.1.setWidth 16, ?_, fun h => absurd h (by decide)⟩
    rw [hregion]
    rfl

theorem belayClass_readRegion {a : Nat} {bad : Bool} (ha : a < 65536) (hb : bad = true → 0x1000 ≤ a) :
    belayClass 4 (readRegion a bad) = (if bad = true then clsU else clsC) := by
  cases bad
  · have hr : readRegion a false < 0x40 := by simp only [readRegion, Bool.false_eq_true, if_false]; omega
    exact if_pos hr
  · have hlow : 0x1000 ≤ a := hb rfl
    have hr : 0x82 ≤ readRegion a true := by simp only [readRegion, if_true]; omega
    change (if readRegion a true < 0x40 then clsC else if readRegion a true < 0x80 then clsU
      else if readRegion a true < 0x82 then clsF else clsU) = clsU
    rw [if_neg (by omega), if_neg (by omega), if_neg (by omega)]

theorem drawnFor_rest (bad : Bool) (s : State) : ∃ n, drawnFor bad s = { s with free := n } := by
  cases bad
  · exact ⟨s.free, rfl⟩
  · exact ⟨_, rfl⟩

theorem ofLe_two_lt (x y : Byte) : ofLe [x, y] < 65536 := by
  have hx := x.isLt
  have hy := y.isLt
  simp only [ofLe, List.foldr_cons, List.foldr_nil]
  omega

theorem ofLe_lt_of_length_le_two {l : List Byte} (h : l.length ≤ 2) : ofLe l < 65536 := by
  match l, h with
  | [], _ => decide
  | [x], _ =>
    have hx := x.isLt
    simp only [ofLe, List.foldr_cons, List.foldr_nil]
    omega
  | [x, y], _ => exact ofLe_two_lt x y

theorem recSeq_lt (bs : List Byte) : recSeq bs < 65536 := ofLe_lt_of_length_le_two (List.length_take_le 2 _)

/-- A command that reads NVM.DATA. -/
theorem runs_nvmRead {p : Path} {s u : State} {st : Nat} {w : Word} {P : State → Prop} (hp : okPath p = true)
    (h : AdmitsRead p Reg.NVM_DATA s) (heffect : nvmDataRead (dropKey p s) = (st, w, u))
    (hP : ∀ host, (p = .host → host.answer = ⟨st, w⟩) → P { u with host := host }) :
    Runs (.nvmDataAccess p none) s P :=
  runs_read h (exec_nvmDataRead hp s) ((readReg_NVM_DATA p _).trans (by rw [heffect])) hP

/-- A report of a read, the address stepped on after it. -/
theorem readReported {a p2 : Nat} {bad : Bool} {s m : State} (hw : Watches 4 s) (ha : a < 65536)
    (hb : bad = true → 0x1000 ≤ a) (hm : m = { s with paths := m.paths, free := m.free }) :
    Reported 4 (readRegion a bad) (if bad = true then clsU else clsC) s
        ((report 4 (readRegion a bad) p2 0 m).setRegN Reg.NVM_ADDR (a + 2)) ∧
      BlocksKept reportBlocks s ((report 4 (readRegion a bad) p2 0 m).setRegN Reg.NVM_ADDR (a + 2)) ∧
      MemKept s ((report 4 (readRegion a bad) p2 0 m).setRegN Reg.NVM_ADDR (a + 2)) := by
  have hcls := belayClass_readRegion ha hb
  have hregs : RegsKept [] [] s m := by rw [hm]; exact .of_regs rfl
  have hflt : m.flt = s.flt := by rw [hm]
  have hrep := report_after (p2 := p2) (p3 := 0) (param := readRegion a bad) (by decide) hw hregs hflt (by decide)
  have hset : FieldsKept [wholeReg Reg.NVM_ADDR] (report 4 (readRegion a bad) p2 0 m)
      ((report 4 (readRegion a bad) p2 0 m).setRegN Reg.NVM_ADDR (a + 2)) := (FieldsKept.refl _ _).setRegN (by simp)
  have hblocks : RegsKept reportBlocks [] m (report 4 (readRegion a bad) p2 0 m) :=
    regsKept_report (by rw [hcls]; cases bad <;> decide) (by decide)
  have hmem := memKept_report 4 (readRegion a bad) p2 0 m
  rw [hcls] at hrep
  generalize report 4 (readRegion a bad) p2 0 m = u at *
  refine ⟨hrep.of_regsKept (bs := []) hset.regsKept rfl (by decide) (by decide), ?_, ?_⟩
  · exact ((hregs.mono (by simp) (by simp)).trans ((hblocks.mono (List.Subset.refl _) (by simp)).trans
      (hset.regsKept (bs := reportBlocks)))).blocksKept (List.Subset.refl _) (by decide)
  · refine MemKept.trans ?_ (hmem.trans (.of_eq rfl rfl rfl))
    rw [hm]
    exact .of_eq rfl rfl rfl

theorem apart_counter : ∀ n < 4, hostJobFields.all (fun f => f.apart (wholeReg (Reg.CNT (4 + n)))) = true ∧
    hostJobFields.all (fun f => f.apart (wholeReg (Reg.CNT (4 + n) + 1))) = true := by decide

/-- A command whose parts are queued, from a state in which only registers have changed. -/
theorem runs_queued {c : Instr} {p : Path} {v : Word} {k : JobKind} {ks : List JobKind} {s m : State} {P : State → Prop}
    (h : Admits p Reg.NVM_CTRL s) (hexec : exec c s = .next (pathWrite p Reg.NVM_CTRL v s))
    (heffect : writeReg p (s.path p).nvmKey Reg.NVM_CTRL v (dropKey p s) = (0, hostJobs (k :: ks) m))
    (hm : m = { s with regs := m.regs, paths := (dropKey p s).paths })
    (hP : ∀ t, t.nvm.jobs = s.nvm.jobs ++ (k :: ks).map (fun k => { kind := k, host := true }) → t.flag .NVM_STAT_PEND = true →
      (t.path p).nvmKey = false → (p = .host → t.host.answer.status = 0) → FieldsKept hostJobFields m t →
      t = { s with regs := t.regs, paths := t.paths, host := t.host, nvm := { s.nvm with jobs := t.nvm.jobs, jobFail := 0 } } →
      P t) : Runs c s P := by
  obtain ⟨hpend, hkept, hrest⟩ := hostJobs_shown (k := k) (ks := ks) m
  refine runs_keyedWrite h hexec heffect fun ps host hh hkey => ?_
  have hnvm : (hostJobs (k :: ks) m).nvm = { s.nvm with
      jobs := s.nvm.jobs ++ (k :: ks).map (fun k => { kind := k, host := true }), jobFail := 0 } := by rw [hrest, hm]
  have hpath : ((hostJobs (k :: ks) m).path p).nvmKey = false := by
    rw [hrest, hm]
    exact key_dropKey p s
  generalize hostJobs (k :: ks) m = u at *
  refine hP _ (congrArg Nvm.jobs hnvm) hpend (hkey.trans hpath) hh (hkept.trans (.of_regs rfl)) ?_
  rw [hrest, hm]

/-- Settles O53: each command is one access of its path, whose effect its own lemma above gives. -/
theorem storeIsReachedByCommands : Obligations.StoreIsReachedByCommands := by
  unfold Obligations.StoreIsReachedByCommands
  refine ⟨?addr, ?dataIn, ?dataFull, ?dataOut, ?raw, ?rawRefused, ?key, ?prog, ?erase, ?rawFails, ?jread, ?jreadFails, ?jwrite,
    ?jwriteFails, ?lsave, ?cinc, ?argFails, ?reported, ?past, ?empty⟩
  case addr =>
    intro p v s hwf hadm
    have hv : v < 65536 := by
      simp only [Instr.wellFormed, Bool.and_eq_true, fits, decide_eq_true_eq] at hwf
      exact hwf.2
    refine runs_write (v := word v) hadm (answerIf_next.mpr ⟨by rw [okPath_eq_isPath]; exact hwf, rfl⟩)
      (u := nvmAddr (word v).toNat (dropKey p s)) rfl fun ps host hh => ⟨?_, ?_, rfl, hh, ?_, rfl⟩
    · have hreg : ((dropKey p s).setRegN Reg.NVM_ADDR (word v).toNat).regN Reg.NVM_ADDR = v := by
        rw [regN_setRegN_same, toNat_word hv, Nat.mod_eq_of_lt hv]
      have hstay : FieldsKept [.NVM_STAT_BUFRD] ((dropKey p s).setRegN Reg.NVM_ADDR (word v).toNat)
          (nvmAddr (word v).toNat (dropKey p s)) := (FieldsKept.setFlag (.refl _ _) (by simp) (by decide)).trans (.of_regs rfl)
      have hsame := hstay.fld (g := wholeReg Reg.NVM_ADDR) (by decide)
      rw [fld_wholeReg, fld_wholeReg, hreg] at hsame
      exact hsame
    · exact flag_setFlag_same ((dropKey p s).setRegN Reg.NVM_ADDR (word v).toNat) .NVM_STAT_BUFRD false (by decide) (by decide)
    · exact (FieldsKept.setFlag ((FieldsKept.refl _ s).dropKey.setRegN (by simp)) (by simp) (by decide)).trans (.of_regs rfl)
  case dataIn =>
    intro p v s hwf hadm hi
    have heffect : writeReg p (s.path p).nvmKey Reg.NVM_DATA (word v) (dropKey p s) =
        (0, { dropKey p s with nvm := { s.nvm with buf := bufferPut s.nvm.bufIdx (word v) s.nvm.buf, bufIdx := s.nvm.bufIdx + 1 } }) :=
      if_neg (Nat.not_le.mpr hi)
    exact runs_write hadm (answerIf_next.mpr ⟨by rw [okPath_eq_isPath]; exact hwf, rfl⟩) heffect fun ps host hh =>
      ⟨rfl, slice'_bufferPut hi _ _, length_bufferPut hi _ _, fun i hj hne => nth_bufferPut_other hi hj hne _ _, hh, rfl⟩
  case dataFull =>
    intro p v s hwf hadm hi
    have heffect : writeReg p (s.path p).nvmKey Reg.NVM_DATA (word v) (dropKey p s) = (stDeny, dropKey p s) := if_pos hi
    exact runs_writeDenied hadm (answerIf_next.mpr ⟨by rw [okPath_eq_isPath]; exact hwf, rfl⟩) heffect fun host hh => ⟨hh, rfl⟩
  case dataOut =>
    intro p s hp hadm hrd hi
    exact runs_nvmRead hp hadm (nvmDataRead_buffer (s := dropKey p s) hrd hi) fun host hh => ⟨hh, rfl, rfl⟩
  case raw =>
    intro p s hp hadm hrd ha hheld herr h0 h1
    have hread := nvmDataRead_store (s := dropKey p s) hrd ha hheld
    change nvmDataRead (dropKey p s) = (0, (readStore (s.regN Reg.NVM_ADDR) (dropKey p s)).1,
      (readStore (s.regN Reg.NVM_ADDR) (dropKey p s)).2.setRegN Reg.NVM_ADDR (s.regN Reg.NVM_ADDR + 2)) at hread
    rw [readStore_sound (s := dropKey p s) herr h0 h1] at hread
    exact runs_nvmRead hp hadm hread fun host hh => ⟨hh, regN_setRegN_same (dropKey p s) _ _,
      ((FieldsKept.refl _ s).dropKey).setRegN (by simp), rfl⟩
  case rawRefused =>
    intro p s hp hadm hrd h
    exact runs_nvmRead hp hadm (nvmDataRead_refused (s := dropKey p s) hrd h) fun host hh => ⟨hh, rfl⟩
  case key =>
    intro p v s hwf hadm
    have hv : v < 65536 := by
      simp only [Instr.wellFormed, Bool.and_eq_true, fits, decide_eq_true_eq] at hwf
      exact hwf.2
    have hexec : exec (.nvmKeyWrite p v) s = .next (pathWrite p Reg.NVM_KEY (word v) s) :=
      answerIf_next.mpr ⟨by rw [okPath_eq_isPath]; exact hwf, rfl⟩
    have hval : word v = 0x3C96 ↔ v = 0x3C96 := by
      rw [← BitVec.toNat_inj, toNat_word hv]
      exact Iff.rfl
    by_cases hk : v = 0x3C96
    · have heffect : writeReg p (s.path p).nvmKey Reg.NVM_KEY (word v) (dropKey p s) =
          (0, (dropKey p s).modPath p (fun x => { x with nvmKey := true })) := if_pos (hval.mpr hk)
      refine runs_keyedWrite hadm hexec heffect fun ps host hh hkey => ⟨?_, fun hp => by rw [if_pos hk]; exact hh hp, rfl⟩
      rw [path_modPath] at hkey
      exact hkey.trans (by simp [hk])
    · have heffect : writeReg p (s.path p).nvmKey Reg.NVM_KEY (word v) (dropKey p s) = (stDeny, dropKey p s) :=
        if_neg fun h => hk (hval.mp h)
      refine runs_writeDenied hadm hexec heffect fun host hh => ⟨?_, fun hp => by rw [if_neg hk]; exact hh hp, rfl⟩
      exact (key_dropKey p s).trans (by simp [hk])
  case prog =>
    intro p a n s hp hadm ha hf ht hlow hn hpos hi
    subst ha
    have hbytes : progBytes (dropKey p s) = n := hn.symm
    have hrun := progCommand_runs (s := dropKey p s) hf ht hlow
    rw [hbytes] at hrun
    have hsome : ((padTo 64 (dropKey p s).nvm.buf).take n).isEmpty = false := by
      rw [List.isEmpty_eq_false_iff, ← List.length_pos_iff, List.length_take, length_padTo]
      omega
    rw [hsome] at hrun
    have htrunc := (fld_setFld_same (dropKey p s) .NVM_STAT_TRUNC (2 * s.nvm.bufIdx - n) (by decide)).trans
      (Nat.mod_eq_of_lt (show 2 * s.nvm.bufIdx - n < 64 by omega))
    exact runs_queued (m := (dropKey p s).setFld .NVM_STAT_TRUNC (2 * s.nvm.bufIdx - n)) hadm (exec_prog hp s)
      ((nvmCtrl_prog ..).trans (congrArg _ hrun)) rfl fun t hjobs hpend hkey hh hkept hrest =>
      ⟨hjobs, (hkept.fld (by decide)).trans htrunc, hpend, hkey, hh,
        (FieldsKept.setFld (FieldsKept.refl _ s).dropKey (by simp) (by decide)).trans (hkept.mono (by simp [hostJobFields])), hrest⟩
  case erase =>
    intro p s hp hadm hf ht hlow
    exact runs_queued (m := dropKey p s) hadm (exec_erase hp s)
      ((nvmCtrl_erase ..).trans (congrArg _ (eraseCommand_runs (s := dropKey p s) hf ht hlow))) rfl
      fun t hjobs hpend hkey hh hkept hrest => ⟨hjobs, hpend, hkey, hh, (FieldsKept.refl _ s).dropKey.trans hkept, hrest⟩
  case rawFails =>
    intro p r c s hp hadm hc h
    have hr : r < 16 := by
      obtain h | ⟨-, rfl, -⟩ := h
      · exact commandFails_lt h
      · decide
    obtain rfl | rfl := hc
    · exact runs_nvmFail hadm (exec_prog hp s) ((nvmCtrl_prog ..).trans (congrArg _ (progCommand_fails (s := dropKey p s) h))) hr
    · exact runs_nvmFail hadm (exec_erase hp s) ((nvmCtrl_erase ..).trans (congrArg _ (eraseCommand_fails (s := dropKey p s) h))) hr
  case jread =>
    intro p x y bs s hp hadm hf hw
    obtain ⟨hdone, hreason, hkept, hrest⟩ := nvmOk_shown (jreadLoaded bs (dropKey p s))
    have hload : FieldsKept [.NVM_STAT_BUFRD, wholeReg Reg.NVM_ADDR] s (jreadLoaded bs (dropKey p s)) :=
      ((FieldsKept.setFlag (.of_regs rfl) (by simp) (by decide)) : FieldsKept _ s _).setRegN (by simp)
    have hbufrd : (jreadLoaded bs (dropKey p s)).flag .NVM_STAT_BUFRD = true := by
      have hset := flag_setFlag_same { dropKey p s with nvm := { s.nvm with
        buf := padTo 64 (leNat 1 (recLen bs) ++ recData bs), bufIdx := 0 } } .NVM_STAT_BUFRD true (by decide) (by decide)
      exact (flag_of_fld (((FieldsKept.refl [wholeReg Reg.NVM_ADDR] _).setRegN (by simp)).fld (by decide))).trans hset
    have haddr : (jreadLoaded bs (dropKey p s)).regN Reg.NVM_ADDR = recSeq bs :=
      (regN_setRegN_same _ _ _).trans (Nat.mod_eq_of_lt (recSeq_lt bs))
    refine runs_write hadm (exec_jread hp s) ((nvmCtrl_jread ..).trans (congrArg _ (jreadCommand_runs (s := dropKey p s) hf hw)))
      fun ps host hh => ⟨rfl, ?_, ?_, hdone, hreason, hh, ?_, rfl⟩
    · exact (flag_of_fld (hkept.fld (by decide))).trans hbufrd
    · have hsame := hkept.fld (g := wholeReg Reg.NVM_ADDR) (by decide)
      rw [fld_wholeReg, fld_wholeReg, haddr] at hsame
      exact hsame
    · exact ((hload.mono (by simp)).trans (hkept.mono (by simp))).trans (.of_regs rfl)
  case jreadFails =>
    intro p r s hp hadm h
    have hr : r < 16 := by
      obtain h | ⟨-, -, rfl⟩ := h
      · exact commandFails_lt h
      · decide
    exact runs_nvmFail hadm (exec_jread hp s) ((nvmCtrl_jread ..).trans (congrArg _ (jreadCommand_fails (s := dropKey p s) h))) hr
  case jwrite =>
    intro p len s hwf hadm hf hlen hok htrim
    exact runs_queued (m := dropKey p s) hadm (exec_jwrite hwf s)
      ((nvmCtrl_jwrite p _ (len_of_wellFormed hwf) _).trans
        (congrArg _ (jwriteCommand_runs (s := dropKey p s) hf hlen hok htrim))) rfl
      fun t hjobs hpend hkey hh hkept hrest => ⟨hjobs, hpend, hh, (FieldsKept.refl _ s).dropKey.trans hkept, hrest⟩
  case jwriteFails =>
    intro p len r s hwf hadm h
    have hr : r < 16 := by
      obtain h | ⟨-, rfl, -⟩ := h
      · exact commandFails_lt h
      · decide
    exact runs_nvmFail hadm (exec_jwrite hwf s)
      ((nvmCtrl_jwrite p _ (len_of_wellFormed hwf) _).trans (congrArg _ (jwriteCommand_fails (s := dropKey p s) h))) hr
  case lsave =>
    intro p n s hwf hadm hf hn
    obtain ⟨hp, hn16⟩ := okPath_and_arg hwf
    exact runs_queued (m := dropKey p s) hadm (exec_lsave hp hn16 s)
      ((nvmCtrl_lsave p _ hn16 _).trans (congrArg _ (lsaveCommand_runs (s := dropKey p s) hf hn))) rfl
      fun t hjobs hpend hkey hh hkept hrest =>
        ⟨by rw [hjobs, List.map_cons, map_rangePart]; rfl, hpend, hh, (FieldsKept.refl _ s).dropKey.trans hkept, hrest⟩
  case cinc =>
    intro p n s hwf hadm hf hn
    obtain ⟨hp, hn16⟩ := okPath_and_arg hwf
    have hcount : ((dropKey p s).setReg32 (Reg.CNT (4 + n)) ((s.reg32 (Reg.CNT (4 + n)) + 1) % 4294967296)).reg32 (Reg.CNT (4 + n)) =
        (s.reg32 (Reg.CNT (4 + n)) + 1) % 4294967296 := by
      rw [reg32_setReg32, Nat.mod_mod]
    refine runs_queued (m := (dropKey p s).setReg32 (Reg.CNT (4 + n)) ((s.reg32 (Reg.CNT (4 + n)) + 1) % 4294967296)) hadm
      (exec_cinc hp hn16 s) ((nvmCtrl_cinc p _ hn16 _).trans (congrArg _ (cincCommand_runs (s := dropKey p s) hf hn))) rfl
      fun t hjobs hpend hkey hh hkept hrest => ⟨?_, hjobs, hpend, hh, ?_, hrest⟩
    · have hlow := hkept.fld (g := wholeReg (Reg.CNT (4 + n))) (apart_counter n hn).1
      have hhigh := hkept.fld (g := wholeReg (Reg.CNT (4 + n) + 1)) (apart_counter n hn).2
      rw [fld_wholeReg, fld_wholeReg] at hlow hhigh
      rw [← hcount, State.reg32, State.reg32, hlow, hhigh]
    · exact ((FieldsKept.refl _ s).dropKey.setReg32 (by simp) (by simp)).trans
        (hkept.mono (by simp [hostJobFields]))
  case argFails =>
    intro p n r c s hp hn hadm h
    obtain ⟨rfl, h⟩ | ⟨rfl, h⟩ := h
    · have hr : r < 16 := by
        obtain h | ⟨-, -, rfl⟩ := h
        · exact commandFails_lt h
        · decide
      exact runs_nvmFail hadm (exec_lsave hp hn s)
        ((nvmCtrl_lsave p _ hn _).trans (congrArg _ (lsaveCommand_fails (s := dropKey p s) h))) hr
    · have hr : r < 16 := by
        obtain h | ⟨-, -, rfl⟩ := h
        · exact commandFails_lt h
        · decide
      exact runs_nvmFail hadm (exec_cinc hp hn s)
        ((nvmCtrl_cinc p _ hn _).trans (congrArg _ (cincCommand_fails (s := dropKey p s) h))) hr
  case reported =>
    intro p a bad s hp hadm hrd ha heven hheld herr hw hb
    subst ha
    have hread := nvmDataRead_store (s := dropKey p s) hrd heven hheld
    obtain ⟨w, hst, hdata⟩ := readStore_bad (s := dropKey p s) herr
    change nvmDataRead (dropKey p s) = (0, (readStore (s.regN Reg.NVM_ADDR) (dropKey p s)).1,
      (readStore (s.regN Reg.NVM_ADDR) (dropKey p s)).2.setRegN Reg.NVM_ADDR (s.regN Reg.NVM_ADDR + 2)) at hread
    rw [hst] at hread
    have hm : drawnFor bad (dropKey p s) = { s with
        paths := (drawnFor bad (dropKey p s)).paths, free := (drawnFor bad (dropKey p s)).free } := by
      obtain ⟨n, hn⟩ := drawnFor_rest bad (dropKey p s)
      rw [hn]
      rfl
    obtain ⟨hrep, hblocks, hmem⟩ := readReported (p2 := s.regN Reg.NVM_ADDR % 2048) (bad := bad) hw (regN_lt s _) hb hm
    refine runs_nvmRead hp hadm hread fun host hh => ⟨hrep, regN_setRegN_same _ _ _, fun hp => by rw [hh hp],
      fun hp hgood => ?_, hblocks, hmem⟩
    rw [hh hp]
    exact hdata hgood
  case past =>
    intro p s hp hadm hrd hi
    obtain ⟨w, hread⟩ := nvmDataRead_past (s := dropKey p s) hrd hi
    exact runs_nvmRead hp hadm hread fun host hh => ⟨fun hp => by rw [hh hp], rfl⟩
  case empty =>
    intro p s hp hadm hf ht hlow hi
    have hbytes : progBytes (dropKey p s) = 0 := by
      change min (2 * s.nvm.bufIdx) _ = 0
      rw [hi]
      exact Nat.zero_min _
    have hrun := progCommand_runs (s := dropKey p s) hf ht hlow
    rw [hbytes] at hrun
    have hnone : progCommand (s.path p).nvmKey (s.granted p grantNvWr) (dropKey p s) =
        nvmOk ((dropKey p s).setFld .NVM_STAT_TRUNC (2 * s.nvm.bufIdx)) := hrun
    rw [hi] at hnone
    have htrunc := fld_setFld_same (dropKey p s) .NVM_STAT_TRUNC 0 (by decide)
    obtain ⟨hdone, hreason, hkept, hrest⟩ := nvmOk_shown ((dropKey p s).setFld .NVM_STAT_TRUNC 0)
    exact runs_keyedWrite hadm (exec_prog hp s) ((nvmCtrl_prog ..).trans (congrArg _ hnone)) fun ps host hh hkey =>
      ⟨hdone, hreason, (hkept.fld (by decide)).trans htrunc, hkey.trans (key_dropKey p s), hh,
        (FieldsKept.setFld (FieldsKept.refl _ s).dropKey (by simp) (by decide)).trans (hkept.mono (by simp)), rfl⟩

end Sys2Proof.Machine
end

section
/-! What making a record does before it is queued (R598, R611), and the records that take no token (R619). -/

namespace Sys2Proof.Machine

theorem RegsKept.setFld {bs : List Nat} {fs : List Fld} {s t : State} {f : Fld} {v : Nat} (h : RegsKept bs fs s t)
    (hb : blockOf f.addr ∈ bs) : RegsKept bs fs s (t.setFld f v) := h.setReg hb

theorem RegsKept.setFldOf {bs : List Nat} {fs : List Fld} {s t : State} {f : Fld} {v : Nat} (h : RegsKept bs fs s t)
    (hf : f ∈ fs) (hw : f.width ≤ 16) : RegsKept bs fs s (t.setFld f v) :=
  h.trans (FieldsKept.setFld (.refl fs t) hf hw).regsKept

/-- Between s and t only counters have been queued and a capture triggered: what a record's code does before the record itself is
queued. -/
structure RecordStep (s t : State) : Prop where
  only : ∃ rs js x, t = { s with regs := rs, nvm := { s.nvm with jobs := js }, xfer := x }
  regs : RegsKept [9, 10] [.LOG_STAT_QLOG] s t
  jobs : t.nvm.jobs.filter isLogJob = s.nvm.jobs.filter isLogJob
  mem : MemKept s t

theorem RecordStep.refl (s : State) : RecordStep s s := ⟨⟨s.regs, s.nvm.jobs, s.xfer, rfl⟩, .refl s, rfl, .refl s⟩

theorem RecordStep.trans {s t u : State} (h : RecordStep s t) (k : RecordStep t u) : RecordStep s u := by
  obtain ⟨⟨rs, js, x, rfl⟩, hr, hj, hm⟩ := h
  obtain ⟨⟨rs', js', x', rfl⟩, kr, kj, km⟩ := k
  exact ⟨⟨rs', js', x', rfl⟩, hr.trans kr, kj.trans hj, hm.trans km⟩

theorem RecordStep.isFatal {s t : State} (h : RecordStep s t) : t.isFatal = s.isFatal :=
  h.regs.flag (g := .FLT_STAT_FATAL) (by decide) (by decide)

theorem recordStep_countUp {n : Nat} (hn : n < 8) (s : State) : RecordStep s (countUp n s) := by
  obtain ⟨hlow, hhigh⟩ := blockOf_CNT hn
  have hregs : RegsKept [9, 10] [.LOG_STAT_QLOG] s (s.setReg32 (Reg.CNT n) ((s.reg32 (Reg.CNT n) + 1) % 4294967296)) :=
    (Kept.setReg32 (.refl s) ⟨by rw [hlow]; decide, by rw [hhigh]; decide⟩).regs
  have hstep : RecordStep s (s.setReg32 (Reg.CNT n) ((s.reg32 (Reg.CNT n) + 1) % 4294967296)) :=
    ⟨⟨_, s.nvm.jobs, s.xfer, rfl⟩, hregs, rfl, .of_eq rfl rfl rfl⟩
  unfold countUp addJob
  split
  · exact hstep
  · refine hstep.trans ⟨⟨_, _, s.xfer, rfl⟩, ?_, ?_, .of_eq rfl rfl rfl⟩
    · exact RegsKept.setFld (f := .NVM_JSTAT_QCNT) (RegsKept.setFldOf (f := .LOG_STAT_QLOG) (.of_regs rfl) (by simp) (by decide)) (by decide)
    · change List.filter isLogJob (s.nvm.jobs ++ [{ kind := .counter n }]) = List.filter isLogJob s.nvm.jobs
      simp [isLogJob]

theorem recordStep_bindCounters (code : Nat) (s : State) : RecordStep s (bindCounters code s) := by
  refine forEach_keeps (RecordStep s) _ 4 s (.refl s) fun k t hk ht => ?_
  dsimp only
  split
  · exact ht.trans (recordStep_countUp (by omega) t)
  · exact ht

theorem recordStep_capTrigger (cause : Nat) (s : State) : RecordStep s (capTrigger cause s) := by
  unfold capTrigger
  dsimp only
  split
  · exact ⟨⟨_, s.nvm.jobs, _, rfl⟩, RegsKept.setFld (f := .XFER_CAPST_STATE) (.of_regs rfl) (by decide), rfl, .of_eq rfl rfl rfl⟩
  · split
    · exact .refl s
    · exact ⟨⟨_, s.nvm.jobs, s.xfer, rfl⟩, RegsKept.setFld (f := .XFER_CAPST_MISSED) (.refl s) (by decide), rfl, .of_eq rfl rfl rfl⟩

/-- The counters bound to a code, and the capture that it triggers. -/
def codeMade (code : Nat) (s : State) : State :=
  if (bindCounters code s).fld .XFER_CAP_SRC = 1 && (bindCounters code s).fld .XFER_CAP_PARAM = code then
    capTrigger 1 (bindCounters code s)
  else bindCounters code s

theorem recordStep_codeMade (code : Nat) (s : State) : RecordStep s (codeMade code s) := by
  unfold codeMade
  split
  · exact (recordStep_bindCounters code s).trans (recordStep_capTrigger ..)
  · exact recordStep_bindCounters code s

theorem mkRecord_of_exempt {code cls : Nat} (h : rateExempt code cls = true) (ps : List Nat) (s : State) :
    mkRecord code cls ps s =
      queueRecord ⟨code, stamp s code cls ps, cls == clsF || code == 0x081, cls == clsF⟩ (codeMade code s) :=
  if_pos h

/-- What queueing a record may show. -/
theorem queueRecord_shown (r : Rec) (s : State) :
    RegsKept [10] [.LOG_STAT_QLOG, .LOG_STAT_LOST] s (queueRecord r s) ∧
      (∃ rs js, queueRecord r s = { s with regs := rs, nvm := { s.nvm with jobs := js } }) := by
  have hset : ∀ js, RegsKept [10] [.LOG_STAT_QLOG, .LOG_STAT_LOST] s (setJobs s js) ∧
      (∃ rs js', setJobs s js = { s with regs := rs, nvm := { s.nvm with jobs := js' } }) := fun js =>
    ⟨RegsKept.setFld (f := .NVM_JSTAT_QCNT) (RegsKept.setFldOf (f := .LOG_STAT_QLOG) (.of_regs rfl) (by simp) (by decide)) (by decide),
      _, js, rfl⟩
  unfold queueRecord addJobHead
  dsimp only
  split
  · exact ⟨.refl s, s.regs, s.nvm.jobs, rfl⟩
  · split
    · split
      · split
        · exact hset _
        · exact hset _
      · exact hset _
    · split
      · exact hset _
      · exact ⟨RegsKept.setFldOf (f := .LOG_STAT_LOST) (.refl s) (by simp) (by decide), _, s.nvm.jobs, rfl⟩

end Sys2Proof.Machine
end

section
/-! The cairn log is read and cleared (R619 to R627). -/

namespace Sys2Proof.Machine

/-! ### Buckets (R619, R620) -/

/-- A bucket with its token more, and its suppressed records forgotten. -/
def Bucket.refill (b : Bucket) : Bucket := { b with tokens := b.tokens + 1, count := 0 }

/-- The log with bucket g refilled. -/
def refilled (g : Nat) (s : State) : State :=
  { s with log := { s.log with buckets := s.log.buckets.set g (nth {} s.log.buckets g).refill } }

theorem bucketRefill_full {g : Nat} {s : State}
    (h : (nth {} s.log.buckets g).depth = 255 ∨ (nth {} s.log.buckets g).depth ≤ (nth {} s.log.buckets g).tokens) :
    bucketRefill g s = s := if_pos (by simpa using h)

theorem bucketRefill_quiet {g : Nat} {s : State} (hd : (nth {} s.log.buckets g).depth ≠ 255)
    (ht : (nth {} s.log.buckets g).tokens < (nth {} s.log.buckets g).depth) (hc : (nth {} s.log.buckets g).count = 0) :
    bucketRefill g s = refilled g s := by
  unfold bucketRefill
  dsimp only
  rw [if_neg (by simp [hd, ht]), if_pos hc]
  rfl

theorem bucketRefill_told {g : Nat} {s : State} (hd : (nth {} s.log.buckets g).depth ≠ 255)
    (ht : (nth {} s.log.buckets g).tokens < (nth {} s.log.buckets g).depth) (hc : (nth {} s.log.buckets g).count ≠ 0) :
    ∃ ps, bucketRefill g s = mkRecord 0x383 clsInfo ps (refilled g s) := by
  unfold bucketRefill
  dsimp only
  rw [if_neg (by simp [hd, ht]), if_neg hc]
  exact ⟨_, rfl⟩

theorem nth_refilled_same {g : Nat} {s : State} (h : g < s.log.buckets.length) : nth {} (refilled g s).log.buckets g =
    (nth {} s.log.buckets g).refill := by
  simp [refilled, nth, List.getD_eq_getElem?_getD, h]

theorem nth_refilled_other {g k : Nat} (s : State) (h : k ≠ g) :
    nth {} (refilled g s).log.buckets k = nth {} s.log.buckets k := by
  simp [refilled, nth, List.getD_eq_getElem?_getD, List.getElem?_set_ne (Ne.symm h)]

/-- A record that takes no token leaves the log's own state alone, and lies last in the queue where it has room. -/
theorem mkRecord_exempt_shown {code cls : Nat} (h : rateExempt code cls = true) (ps : List Nat) (s : State) :
    (mkRecord code cls ps s).log = s.log ∧ RegsKept [9, 10] [.LOG_STAT_QLOG, .LOG_STAT_LOST] s (mkRecord code cls ps s) ∧
      MemKept s (mkRecord code cls ps s) ∧
      ((cls == clsF || code == 0x081) = false → s.isFatal = false → (s.nvm.jobs.filter isLogJob).length < 16 →
        (mkRecord code cls ps s).nvm.jobs.getLast?.any
          (fun j => match j.kind with | .logRec r => r.code == code | _ => false) = true) := by
  have hstep := recordStep_codeMade code s
  rw [mkRecord_of_exempt h]
  generalize codeMade code s = t at *
  obtain ⟨hq, rs', js', hrest⟩ := queueRecord_shown
    ⟨code, stamp s code cls ps, cls == clsF || code == 0x081, cls == clsF⟩ t
  have hfatal := hstep.isFatal
  obtain ⟨⟨rs, js, x, ht⟩, hregs, hjobs, hmem⟩ := hstep
  refine ⟨?_, ?_, ?_, ?_⟩
  · rw [hrest, ht]
  · exact (hregs.mono (List.Subset.refl _) (by simp)).trans (hq.mono (by simp) (List.Subset.refl _))
  · refine hmem.trans ?_
    rw [hrest]
    exact .of_eq rfl rfl rfl
  · intro hsingle hf hn
    rw [queueRecord_of_room (hfatal.trans hf) hsingle (by rw [hjobs]; exact hn)]
    change (t.nvm.jobs ++ [_]).getLast?.any _ = true
    rw [List.getLast?_concat]
    simp

/-! ### Reading (R621 to R624) -/

theorem path_modPath_other (s : State) {p q : Path} (h : pathKey q ≠ pathKey p) (f : PathState → PathState) :
    (s.modPath p f).path q = s.path q := readAt_writeAt_other _ _ _ _ _ (Ne.symm h)

theorem path_dropKey (p : Path) (s : State) : (dropKey p s).path p = { s.path p with nvmKey := false } := path_modPath ..

theorem path_setSnap (p : Path) (bs : List Byte) (st slot : Nat) (s : State) :
    (setSnap p bs st slot s).path p = { s.path p with snap := bs, snapStat := word (st * 16384 + slot) } := path_modPath ..

theorem readReg_LOG_SEQ (p : Path) (s : State) :
    readReg p Reg.LOG_SEQ s = (⟨0, s.reg Reg.LOG_SEQ⟩, s.modPath p (fun x => { x with base := some (s.reg Reg.LOG_SEQ) })) := rfl

theorem readReg_LOG_WIN (p : Path) (s : State) :
    readReg p Reg.LOG_WIN s = (⟨0, (logWinLatch p s).1⟩, (logWinLatch p s).2) := rfl

/-- The snapshot that a latch takes, before the cursor steps. -/
def latched' (p : Path) (s : State) : State :=
  if (s.path p).cursor.getLsbD 15 then latchBack p (getField (s.path p).cursor 0 10) s
  else latchSlot p (getField (s.path p).cursor 0 10) s

theorem logWinLatch_eq {p : Path} {bs : List Byte} {st slot : Nat} {s : State} (h : latched' p s = setSnap p bs st slot s) :
    logWinLatch p s = (word (ofLe (bs.take 2)),
      (setSnap p bs st slot s).modPath p (fun x => { x with cursor := stepCursor (s.path p).cursor })) := by
  have heq : logWinLatch p s = ((latched' p s).snapWord p 0,
      (latched' p s).modPath p (fun x => { x with cursor := stepCursor (s.path p).cursor })) := rfl
  have hsnap : ((setSnap p bs st slot s).path p).snap = bs := by rw [path_setSnap]
  rw [heq, h, State.snapWord, hsnap]
  rfl

/-- A latch shows its path what it found, and steps the cursor. -/
theorem runs_latch {p : Path} {bs : List Byte} {st slot : Nat} {s : State} {P : State → Prop} (hp : okPath p = true)
    (hadm : AdmitsRead p Reg.LOG_WIN s) (h : latched' p (dropKey p s) = setSnap p bs st slot (dropKey p s))
    (hP : ∀ t, (t.path p).snap = bs → (t.path p).snapStat = word (st * 16384 + slot) →
      (t.path p).cursor = stepCursor (s.path p).cursor → (p = .host → t.host.answer = ⟨0, word (ofLe (bs.take 2))⟩) →
      (∀ q, pathKey q ≠ pathKey p → t.path q = s.path q) → t = { s with paths := t.paths, host := t.host } → P t) :
    Runs (.logWinLatch p) s P := by
  have hcursor : ((dropKey p s).path p).cursor = (s.path p).cursor := by rw [path_dropKey]
  have hread := readReg_LOG_WIN p (dropKey p s)
  rw [logWinLatch_eq h, hcursor] at hread
  have hpath := path_modPath (setSnap p bs st slot (dropKey p s)) p (fun x => { x with cursor := stepCursor (s.path p).cursor })
  refine runs_read hadm (answerIf_next.mpr ⟨hp, rfl⟩) hread fun host hh => hP _ ?_ ?_ ?_ hh ?_ rfl
  · exact congrArg PathState.snap (hpath.trans (by rw [path_setSnap]))
  · exact congrArg PathState.snapStat (hpath.trans (by rw [path_setSnap]))
  · exact congrArg PathState.cursor hpath
  · intro q hq
    have hset : (setSnap p bs st slot (dropKey p s)).path q = s.path q :=
      (path_modPath_other (dropKey p s) hq _).trans (path_modPath_other s hq _)
    have hstep := path_modPath_other (setSnap p bs st slot (dropKey p s)) hq
      (fun x => { x with cursor := stepCursor (s.path p).cursor })
    exact hstep.trans hset

/-- The base of a path, or LOG.SEQ where it has none (R621). -/
def baseOf (p : Path) (s : State) : Nat := match (s.path p).base with | some w => w.toNat | none => s.regN Reg.LOG_SEQ

theorem find_validSlots (s : State) (t : Nat) :
    (s.validSlots.filter (fun e => !s.slotBusy e.1)).find? (fun e => e.2 == t) =
      s.validSlots.find? (fun e => e.2 == t && !s.slotBusy e.1) := by
  rw [List.find?_filter]
  congr 1
  funext e
  rw [Bool.decide_and, Bool.decide_eq_true, Bool.decide_eq_true]
  exact Bool.and_comm ..

/-- What a latch shows where no valid slot has its SEQ (R623). -/
def missingSnap (p : Path) (t : Nat) (s : State) : State :=
  if (s.validSlots.filter (fun e => !s.slotBusy e.1)).isEmpty ||
      (s.validSlots.filter (fun e => !s.slotBusy e.1)).foldl (fun m e => max m ((s.newestSeq + 65536 - e.2) % 65536)) 0
        < (s.newestSeq + 65536 - t) % 65536 then
    setSnap p (List.replicate 32 0) (if s.flag .LOG_STAT_DROP then snapOvertaken else snapEmpty) 0 s
  else setSnap p (List.replicate 32 0) snapBad 0 s

theorem missingSnap_shown (p : Path) (t : Nat) (s : State) : ∃ st, (st = snapOvertaken ∨ st = snapEmpty ∨ st = snapBad) ∧
    missingSnap p t s = setSnap p (List.replicate 32 0) st 0 s := by
  unfold missingSnap
  split
  · split
    · exact ⟨_, .inl rfl, rfl⟩
    · exact ⟨_, .inr (.inl rfl), rfl⟩
  · exact ⟨_, .inr (.inr rfl), rfl⟩

theorem latchBack_eq (p : Path) (idx : Nat) (s : State) : latchBack p idx s =
    if baseOf p s = 0 then setSnap p (List.replicate 32 0) snapEmpty 0 s
    else ((s.validSlots.filter (fun e => !s.slotBusy e.1)).find? (fun e => e.2 == (baseOf p s + 65536 - idx) % 65536)).elim
      (missingSnap p ((baseOf p s + 65536 - idx) % 65536) s) (fun e => setSnap p (s.logBytes e.1) snapOk e.1 s) := by
  unfold latchBack missingSnap baseOf State.newestSeq
  cases (s.path p).base with
  | none =>
    dsimp only
    refine if_congr Iff.rfl rfl ?_
    generalize List.find? _ (s.validSlots.filter _) = o
    cases o <;> dsimp only [Option.elim]
  | some w =>
    dsimp only
    refine if_congr Iff.rfl rfl ?_
    generalize List.find? _ (s.validSlots.filter _) = o
    cases o <;> dsimp only [Option.elim]

theorem latchBack_found {p : Path} {idx i q : Nat} {s : State} (hb : baseOf p s ≠ 0)
    (h : s.validSlots.find? (fun e => e.2 == (baseOf p s + 65536 - idx) % 65536 && !s.slotBusy e.1) = some (i, q)) :
    latchBack p idx s = setSnap p (s.logBytes i) snapOk i s := by
  rw [latchBack_eq, if_neg hb, find_validSlots, h, Option.elim_some]

theorem latchBack_empty {p : Path} {idx : Nat} {s : State} (hb : baseOf p s = 0) :
    latchBack p idx s = setSnap p (List.replicate 32 0) snapEmpty 0 s := by
  rw [latchBack_eq, if_pos hb]

theorem latchBack_missing {p : Path} {idx : Nat} {s : State} (hb : baseOf p s ≠ 0)
    (h : s.validSlots.find? (fun e => e.2 == (baseOf p s + 65536 - idx) % 65536 && !s.slotBusy e.1) = none) :
    latchBack p idx s = missingSnap p ((baseOf p s + 65536 - idx) % 65536) s := by
  rw [latchBack_eq, if_neg hb, find_validSlots, h, Option.elim_none]

/-! ### Challenges (R625) -/

theorem readReg_LOG_CHAL (p : Path) (s : State) : readReg p Reg.LOG_CHAL s =
    quantityRead p ⟨Reg.LOG_CHAL, 0, 4⟩ (fun i => word ((issueChallenge p s).1 / 65536 ^ i)) (issueChallenge p s).2 := by
  have hw : windowReg Reg.LOG_CHAL = none := rfl
  unfold readReg
  rw [hw]
  dsimp only
  rw [if_neg (by decide), if_neg (by decide), if_neg (by decide), if_neg (by decide), if_pos rfl]

theorem quantityRead_LOG_CHAL (p : Path) (c : Nat) (s : State) :
    quantityRead p ⟨Reg.LOG_CHAL, 0, 4⟩ (fun i => word (c / 65536 ^ i)) s =
      (⟨0, word c⟩, s.modPath p (fun x => { x with readShadow :=
        [(Reg.LOG_CHAL + 1, word (c / 65536)), (Reg.LOG_CHAL + 2, word (c / 65536 ^ 2)),
         (Reg.LOG_CHAL + 3, word (c / 65536 ^ 3))] })) := by
  unfold quantityRead
  have hrange : List.range (4 - 1) = [0, 1, 2] := rfl
  rw [if_pos rfl, hrange]
  simp only [List.map_cons, List.map_nil, zero_add, pow_one, pow_zero, Nat.div_one, Nat.add_zero]

/-- The log with a challenge of the path. -/
def challenged (p : Path) (s : State) : State :=
  { s with free := s.free + 1, log := { s.log with chal := some (p, (Config.freeBits s.free).toNat) } }.setFld .LOG_CLRST_STATE 1

theorem issueChallenge_open {p : Path} {s : State} (h : clearClosed p s = false) :
    issueChallenge p s = ((Config.freeBits s.free).toNat, challenged p s) := if_neg (by simp [h])

theorem issueChallenge_closed {p : Path} {s : State} (h : clearClosed p s = true) : issueChallenge p s = (0, s) := if_pos h

theorem challengeExpire_of_some {q : Path} {c : Nat} {s : State} (h : s.log.chal = some (q, c)) :
    challengeExpire s = { s with log := { s.log with chal := none } }.setFld .LOG_CLRST_STATE 0 := by
  rw [challengeExpire, h]

theorem challengeExpire_of_none {s : State} (h : s.log.chal = none) : challengeExpire s = s := by
  rw [challengeExpire, h]

/-! ### The token (R627) -/

/-- Word i of the token. -/
def tokenWord (token i : Nat) : Word := word (token / 65536 ^ i)

/-- Between s and t only the paths' and the host's own values differ, and the path holds the token's first words. -/
def TokenHeld (p : Path) (token i : Nat) (s t : State) : Prop :=
  t = { s with paths := t.paths, host := t.host } ∧
    (0 < i → (t.path p).writeShadow = (List.range i).map (fun k => (Reg.LOG_CLR + k, tokenWord token k)))

theorem admits_LOG_CLR {p : Path} {s t : State} (h : Admits p Reg.LOG_CLR s) (ht : t = { s with paths := t.paths, host := t.host }) :
    ∀ i < 4, Admits p (Reg.LOG_CLR + i) t := by
  have hgates : ∀ i < 4, blockOf (Reg.LOG_CLR + i) = blockOf Reg.LOG_CLR ∧ lockedReg (Reg.LOG_CLR + i) = false ∧
      stMask (Reg.LOG_CLR + i) = 0 := by decide
  intro i hi
  obtain ⟨hblock, hlock, hst⟩ := hgates i hi
  obtain ⟨hserved, hmay, hfatal, -, -, hinj⟩ := h
  rw [ht]
  exact ⟨hserved, by rw [hblock]; exact hmay, hfatal, hlock, .inl hst, hinj⟩

/-- The quantity of LOG.CLR, at its word i. -/
theorem writeReg_LOG_CLR (p : Path) (k : Bool) (v : Word) (s : State) : ∀ i < 4,
    writeReg p k (Reg.LOG_CLR + i) v s = quantityReg p ⟨Reg.LOG_CLR, i, 4⟩ v s := by
  have hwin : ∀ i < 4, windowReg (Reg.LOG_CLR + i) = none ∧ regQWord (Reg.LOG_CLR + i) = some ⟨Reg.LOG_CLR, i, 4⟩ := by decide
  intro i hi
  obtain ⟨hw, hq⟩ := hwin i hi
  unfold writeReg
  rw [hw, hq]

/-- The path's write shadow, replaced. -/
def shadowed (p : Path) (l : List (Nat × Word)) (s : State) : State := s.modPath p (fun x => { x with writeShadow := l })

theorem quantityReg_held {p : Path} {i : Nat} {v : Word} {s u : State}
    (h : quantityWrite p ⟨Reg.LOG_CLR, i, 4⟩ v s = (.held, u)) : quantityReg p ⟨Reg.LOG_CLR, i, 4⟩ v s = (0, u) := by
  have hkey : (decide (Reg.LOG_CLR = Reg.XFER_WPTR)) = false := by decide
  unfold quantityReg
  dsimp only
  rw [hkey, Bool.false_and, if_neg (by decide), h]

theorem quantityReg_whole {p : Path} {i : Nat} {v : Word} {ws : List Word} {s u : State}
    (h : quantityWrite p ⟨Reg.LOG_CLR, i, 4⟩ v s = (.whole ws, u)) :
    quantityReg p ⟨Reg.LOG_CLR, i, 4⟩ v s = logClrSubmit p (ofWords ws) u := by
  have hkey : (decide (Reg.LOG_CLR = Reg.XFER_WPTR)) = false := by decide
  have hfreq : (decide (Reg.EXC_FREQ 0 ≤ Reg.LOG_CLR) && decide (Reg.LOG_CLR ≤ Reg.EXC_FREQ 3)) = false := by decide
  unfold quantityReg
  dsimp only
  rw [hkey, Bool.false_and, if_neg (by decide), h]
  dsimp only
  rw [hfreq, if_neg (by decide), if_neg (by decide), if_pos rfl]

theorem writeShadow_dropKey (p : Path) (s : State) : ((dropKey p s).path p).writeShadow = (s.path p).writeShadow := by
  rw [path_dropKey]

/-- The words before the highest one wait in the path's write shadow. -/
theorem quantityWrite_held {p : Path} {token i : Nat} {s : State} (hi : i < 3)
    (h : 0 < i → (s.path p).writeShadow = (List.range i).map (fun k => (Reg.LOG_CLR + k, tokenWord token k))) :
    quantityWrite p ⟨Reg.LOG_CLR, i, 4⟩ (tokenWord token i) s = 
      (.held, shadowed p ((List.range (i + 1)).map (fun k => (Reg.LOG_CLR + k, tokenWord token k))) s) := by
  unfold quantityWrite
  dsimp only
  by_cases h0 : i = 0
  · subst h0
    rfl
  · have hsh := h (by omega)
    have hhead : ((s.path p).writeShadow.headD (0, 0)).1 = Reg.LOG_CLR := by
      obtain ⟨j, rfl⟩ : ∃ j, i = j + 1 := ⟨i - 1, by omega⟩
      rw [hsh, List.range_succ_eq_map]
      rfl
    have hlen : (s.path p).writeShadow.length = i := by rw [hsh]; simp
    rw [if_neg h0, if_pos (by rw [hlen, hhead]; simp), if_neg (by omega), hsh, List.range_succ, List.map_append]
    rfl

theorem quantityWrite_whole {p : Path} {token : Nat} {s : State}
    (h : (s.path p).writeShadow = (List.range 3).map (fun k => (Reg.LOG_CLR + k, tokenWord token k))) :
    quantityWrite p ⟨Reg.LOG_CLR, 3, 4⟩ (tokenWord token 3) s =
      (.whole [tokenWord token 0, tokenWord token 1, tokenWord token 2, tokenWord token 3],
        shadowed p [] s) := by
  unfold quantityWrite
  dsimp only
  rw [if_neg (by decide), if_pos (by rw [h]; rfl), if_pos rfl, h]
  rfl

theorem ofWords_token {token : Nat} (h : token < 18446744073709551616) :
    ofWords [tokenWord token 0, tokenWord token 1, tokenWord token 2, tokenWord token 3] = token := by
  have hword : ∀ v, (word v).toNat = v % 65536 := fun v => BitVec.toNat_ofNat ..
  simp only [ofWords, tokenWord, List.foldr_cons, List.foldr_nil, hword, pow_zero, pow_one, Nat.div_one]
  have h2 : (65536 : Nat) ^ 2 = 4294967296 := by norm_num
  have h3 : (65536 : Nat) ^ 3 = 281474976710656 := by norm_num
  rw [h2, h3]
  omega

/-- A word before the highest one is held. -/
theorem tokenHeld_step {p : Path} {token i : Nat} {s t : State} (hadm : Admits p Reg.LOG_CLR s) (hi : i < 3)
    (h : TokenHeld p token i s t) :
    TokenHeld p token (i + 1) s (pathWrite p (Reg.LOG_CLR + i) (tokenWord token i) t) := by
  obtain ⟨ht, hsh⟩ := h
  have hwrite := accessWrite_of_admits (v := tokenWord token i) (admits_LOG_CLR hadm ht i (by omega))
  rw [writeReg_LOG_CLR _ _ _ _ i (by omega),
    quantityReg_held (quantityWrite_held hi fun h0 => (writeShadow_dropKey p t).trans (hsh h0))] at hwrite
  rw [pathWrite_of_access hwrite, answerTo_rest]
  refine ⟨?_, fun _ => ?_⟩
  · generalize (answerTo p _ _ _).host = host
    rw [ht]
    rfl
  · have hset := path_modPath (dropKey p t) p (fun x => { x with
      writeShadow := (List.range (i + 1)).map (fun k => (Reg.LOG_CLR + k, tokenWord token k)) })
    have hclear := path_modPath (shadowed p ((List.range (i + 1)).map (fun k => (Reg.LOG_CLR + k, tokenWord token k))) (dropKey p t)) p
      (fun x => { x with readShadow := [] })
    exact (congrArg PathState.writeShadow hclear).trans (congrArg PathState.writeShadow hset)

/-- The highest word submits the token to a state in which only the paths' and the host's own values differ. -/
theorem submit_eq {p : Path} {token : Nat} {s : State} (hadm : Admits p Reg.LOG_CLR s) (ht : token < 18446744073709551616) :
    ∃ m v, m = { s with paths := m.paths, host := m.host } ∧
      forEach 4 (fun i t => pathWrite p (Reg.LOG_CLR + i) (word (token / 65536 ^ i)) t) s =
        answerTo p (executed p (logClrSubmit p token m)).1 v (executed p (logClrSubmit p token m)).2 := by
  have h1 := tokenHeld_step (token := token) (i := 0) (t := s) hadm (by decide) ⟨rfl, fun h => absurd h (by decide)⟩
  have h2 := tokenHeld_step hadm (by decide) h1
  have h3 := tokenHeld_step hadm (by decide) h2
  obtain ⟨hu, hsh⟩ := h3
  generalize hue : pathWrite p (Reg.LOG_CLR + 2) (tokenWord token 2) (pathWrite p (Reg.LOG_CLR + 1) (tokenWord token 1)
    (pathWrite p (Reg.LOG_CLR + 0) (tokenWord token 0) s)) = u at hu hsh
  have hwrite := accessWrite_of_admits (v := tokenWord token 3) (admits_LOG_CLR hadm hu 3 (by decide))
  rw [writeReg_LOG_CLR _ _ _ _ 3 (by decide),
    quantityReg_whole (quantityWrite_whole ((writeShadow_dropKey p u).trans (hsh (by decide)))), ofWords_token ht] at hwrite
  refine ⟨shadowed p [] (dropKey p u), tokenWord token 3, ?_, ?_⟩
  · rw [hu]
    rfl
  · have hfour : forEach 4 (fun i t => pathWrite p (Reg.LOG_CLR + i) (word (token / 65536 ^ i)) t) s =
        pathWrite p (Reg.LOG_CLR + 3) (tokenWord token 3) u := by
      rw [← hue]
      rfl
    rw [hfour]
    exact pathWrite_of_access hwrite

/-- A submitted token, as its path sees it. -/
theorem runs_submit {p : Path} {token st : Nat} {s : State} {P : State → Prop} (f : State → State)
    (hwf : (Instr.logClrSubmit p token).wellFormed = true) (hadm : Admits p Reg.LOG_CLR s)
    (heffect : ∀ m : State, m = { s with paths := m.paths, host := m.host } → logClrSubmit p token m = (st, f m))
    (hP : ∀ (m : State) ps host, m = { s with paths := m.paths, host := m.host } →
      (p = .host → host.answer.status = st) → P { f m with paths := ps, host := host }) : Runs (.logClrSubmit p token) s P := by
  have ht : token < 18446744073709551616 := by
    simp only [Instr.wellFormed, Bool.and_eq_true, fits, decide_eq_true_eq] at hwf
    exact hwf.2
  obtain ⟨m, v, hm, heq⟩ := submit_eq hadm ht
  refine ⟨_, answerIf_next.mpr ⟨?_, heq⟩, ?_⟩
  · rw [okPath_eq_isPath]
    simpa [Instr.wellFormed, fits] using hwf
  · rw [heffect m hm, answerTo_rest]
    have hrest : (executed p (st, f m)).2 = { f m with paths := (executed p (st, f m)).2.paths } := by
      unfold executed
      dsimp only
      split <;> rfl
    have hstatus : p = .host → (answerTo p (executed p (st, f m)).1 v (executed p (st, f m)).2).host.answer.status = st :=
      fun hp => by
        rw [answerTo_host_of_host hp]
        rfl
    generalize (answerTo p (executed p (st, f m)).1 v (executed p (st, f m)).2).host = host at hstatus ⊢
    rw [hrest]
    exact hP m _ _ hm hstatus

/-! ### What a token does (R627) -/

/-- The state in which a clearing begins, before its record is made. -/
def clearingShown (s : State) : State :=
  { ((s.setFld .LOG_CLRST_FAILS 0).setFld .LOG_CLRST_STATE 2).setFlag .LOG_STAT_BUSY true with log := { s.log with chal := none } }

theorem beginClear_eq {p : Path} {s : State} (hf : s.isFatal = false) :
    ∃ bs, beginClear p s = setJobs (codeMade 0x381 (clearingShown s))
      ((codeMade 0x381 (clearingShown s)).nvm.jobs ++ [{ kind := .clearing ⟨0x381, bs, false, false⟩ }]) := by
  have hkept : FieldsKept [.LOG_CLRST_FAILS, .LOG_CLRST_STATE, .LOG_STAT_BUSY] s (clearingShown s) :=
    (FieldsKept.setFlag (FieldsKept.setFld (FieldsKept.setFld (.refl _ s) (by simp) (by decide)) (by simp) (by decide))
      (by simp) (by decide)).trans (.of_regs rfl)
  have hfatal : (codeMade 0x381 (clearingShown s)).isFatal = false :=
    (recordStep_codeMade ..).isFatal.trans ((flag_of_fld (hkept.fld (by decide))).trans hf)
  have heq : ∃ bs, beginClear p s = addJob (codeMade 0x381 (clearingShown s)) { kind := .clearing ⟨0x381, bs, false, false⟩ } := by
    exact ⟨_, rfl⟩
  obtain ⟨bs, heq⟩ := heq
  exact ⟨bs, heq.trans (if_neg (by simp [hfatal]))⟩

/-- A clearing begins: its counters and its state are shown, the challenge is gone, and its job waits last. -/
theorem beginClear_shown {p : Path} {s : State} (hf : s.isFatal = false) :
    (beginClear p s).fld .LOG_CLRST_FAILS = 0 ∧ (beginClear p s).fld .LOG_CLRST_STATE = 2 ∧
      (beginClear p s).flag .LOG_STAT_BUSY = true ∧ (beginClear p s).log = { s.log with chal := none } ∧
      (beginClear p s).nvm.jobs.getLast?.any (fun j => match j.kind with | .clearing r => r.code == 0x381 | _ => false) = true ∧
      BlocksKept [9, 10, 11] s (beginClear p s) ∧ MemKept s (beginClear p s) := by
  obtain ⟨bs, heq⟩ := beginClear_eq (p := p) hf
  have hstep := recordStep_codeMade 0x381 (clearingShown s)
  have hkept : FieldsKept [.LOG_CLRST_FAILS, .LOG_CLRST_STATE, .LOG_STAT_BUSY] s (clearingShown s) :=
    (FieldsKept.setFlag (FieldsKept.setFld (FieldsKept.setFld (.refl _ s) (by simp) (by decide)) (by simp) (by decide))
      (by simp) (by decide)).trans (.of_regs rfl)
  have hfails : (clearingShown s).fld .LOG_CLRST_FAILS = 0 :=
    (fld_setFlag_other _ _ _ _ (by decide) (by decide)).trans ((fld_setFld_other _ _ _ _ (by decide) (by decide)).trans
      (fld_setFld_same s _ _ (by decide)))
  have hstate : (clearingShown s).fld .LOG_CLRST_STATE = 2 :=
    (fld_setFlag_other _ _ _ _ (by decide) (by decide)).trans (fld_setFld_same _ _ _ (by decide))
  have hbusy : (clearingShown s).flag .LOG_STAT_BUSY = true := flag_setFlag_same _ _ _ (by decide) (by decide)
  have hmem : MemKept s (clearingShown s) := .of_eq rfl rfl rfl
  have hlog : (clearingShown s).log = { s.log with chal := none } := rfl
  rw [heq]
  generalize clearingShown s = c at *
  generalize codeMade 0x381 c = t at *
  obtain ⟨hjobs, hrest⟩ := setJobs_shown t (t.nvm.jobs ++ [{ kind := .clearing ⟨0x381, bs, false, false⟩ }])
  have hnvm : (setJobs t (t.nvm.jobs ++ [{ kind := .clearing ⟨0x381, bs, false, false⟩ }])).nvm.jobs =
      t.nvm.jobs ++ [{ kind := .clearing ⟨0x381, bs, false, false⟩ }] := rfl
  have hall : RegsKept [9, 10] [.LOG_STAT_QLOG] c
      (setJobs t (t.nvm.jobs ++ [{ kind := .clearing ⟨0x381, bs, false, false⟩ }])) := hstep.regs.trans
    (RegsKept.setFld (f := .NVM_JSTAT_QCNT) (RegsKept.setFldOf (f := .LOG_STAT_QLOG) (.of_regs rfl) (by simp) (by decide))
      (by decide))
  generalize setJobs t _ = w at *
  refine ⟨?_, ?_, ?_, ?_, ?_, ?_, ?_⟩
  · rw [hall.fld (by decide) (by decide), hfails]
  · rw [hall.fld (by decide) (by decide), hstate]
  · rw [hall.flag (by decide) (by decide), hbusy]
  · obtain ⟨⟨rs, js, x, ht⟩, -, -, -⟩ := hstep
    rw [hrest, ht, hlog]
  · rw [hnvm, List.getLast?_concat]
    rfl
  · exact ((hkept.regsKept (bs := [9, 10, 11])).blocksKept (List.Subset.refl _) (by decide)).trans
      ((hall.mono (cs := [9, 10, 11]) (by simp) (List.Subset.refl _)).blocksKept (List.Subset.refl _) (by decide))
  · refine hmem.trans (hstep.mem.trans ?_)
    rw [hrest]
    exact .of_eq rfl rfl rfl

/-- A failed attempt, before the count decides what follows. -/
def attemptFailed (s : State) : State := { s with log := { s.log with chal := none } }.setFld .LOG_CLRST_STATE 4

theorem clearFail_few {p : Path} {s : State} (h : s.fld .LOG_CLRST_FAILS < 2) :
    clearFail p s = (attemptFailed s).setFld .LOG_CLRST_FAILS (s.fld .LOG_CLRST_FAILS + 1) := if_pos h

/-- The third failure in a row, before its record. -/
def lockedOut (s : State) : State :=
  { ((attemptFailed s).setFlag .LOG_STAT_LOCK true).setFld .LOG_CLRST_STATE 5 with
    log := { s.log with chal := none, lockUntil := s.now + lockoutClocks } }

theorem clearFail_third {p : Path} {s : State} (h : 2 ≤ s.fld .LOG_CLRST_FAILS) :
    clearFail p s = mkRecord 0x382 clsNote (pathParams p) (lockedOut s) := if_neg (Nat.not_lt.mpr h)

theorem clearFail_few_shown {p : Path} {s : State} (h : s.fld .LOG_CLRST_FAILS < 2) :
    (clearFail p s).log = { s.log with chal := none } ∧
      (clearFail p s).fld .LOG_CLRST_FAILS = s.fld .LOG_CLRST_FAILS + 1 ∧ (clearFail p s).fld .LOG_CLRST_STATE = 4 ∧
      FieldsKept [.LOG_CLRST_STATE, .LOG_CLRST_FAILS] s (clearFail p s) ∧
      clearFail p s = { s with regs := (clearFail p s).regs, log := (clearFail p s).log } := by
  rw [clearFail_few h]
  refine ⟨rfl, ?_, ?_, ?_, rfl⟩
  · exact (fld_setFld_same _ _ _ (by decide)).trans (Nat.mod_eq_of_lt (show _ < 4 by omega))
  · exact (fld_setFld_other _ _ _ _ (by decide) (by decide)).trans (fld_setFld_same _ _ _ (by decide))
  · exact FieldsKept.setFld (FieldsKept.setFld (.of_regs rfl) (by simp) (by decide)) (by simp) (by decide)

theorem clearFail_third_shown {p : Path} {s : State} (h : 2 ≤ s.fld .LOG_CLRST_FAILS) :
    (clearFail p s).log = { s.log with chal := none, lockUntil := s.now + lockoutClocks } ∧
      (clearFail p s).flag .LOG_STAT_LOCK = true ∧ (clearFail p s).fld .LOG_CLRST_STATE = 5 ∧
      BlocksKept [9, 10, 11] s (clearFail p s) ∧ MemKept s (clearFail p s) := by
  have hkept : FieldsKept [.LOG_CLRST_STATE, .LOG_STAT_LOCK] s (lockedOut s) :=
    (FieldsKept.setFld (FieldsKept.setFlag (FieldsKept.setFld (.of_regs rfl) (by simp) (by decide)) (by simp) (by decide))
      (by simp) (by decide)).trans (.of_regs rfl)
  have hlock : (lockedOut s).flag .LOG_STAT_LOCK = true :=
    (flag_setFld_other _ _ _ _ (by decide) (by decide)).trans (flag_setFlag_same _ _ _ (by decide) (by decide))
  have hstate : (lockedOut s).fld .LOG_CLRST_STATE = 5 := fld_setFld_same _ _ _ (by decide)
  have hmem : MemKept s (lockedOut s) := .of_eq rfl rfl rfl
  have hlog : (lockedOut s).log = { s.log with chal := none, lockUntil := s.now + lockoutClocks } := rfl
  rw [clearFail_third h]
  generalize lockedOut s = c at *
  obtain ⟨hreclog, hregs, hrecmem, -⟩ := mkRecord_exempt_shown (code := 0x382) (cls := clsNote) (by decide) (pathParams p) c
  refine ⟨hreclog.trans hlog, ?_, ?_, ?_, hmem.trans hrecmem⟩
  · rw [hregs.flag (by decide) (by decide), hlock]
  · rw [hregs.fld (by decide) (by decide), hstate]
  · exact ((hkept.regsKept (bs := [9, 10, 11])).blocksKept (List.Subset.refl _) (by decide)).trans
      ((hregs.mono (cs := [9, 10, 11]) (by simp) (List.Subset.refl _)).blocksKept (List.Subset.refl _) (by decide))

theorem clearClosed_of_path {p : Path} {s m : State} (hm : m = { s with paths := m.paths, host := m.host }) :
    clearClosed p m = clearClosed p s := by
  rw [hm]
  rfl

theorem logClrSubmit_closed {p : Path} {token : Nat} {s : State} (h : clearClosed p s = true) :
    logClrSubmit p token s = (stDeny, s) := if_pos h

theorem logClrSubmit_right {p : Path} {token c : Nat} {k : List Byte} {s : State} (h : clearClosed p s = false)
    (hc : s.log.chal = some (p, c)) (hk : s.nvm.logKey = some k) (ht : token = clearToken k c s.uid) :
    logClrSubmit p token s = (0, beginClear p s) := by
  unfold logClrSubmit
  rw [if_neg (by simp [h]), hc, hk]
  exact if_pos (by simp [ht])

theorem logClrSubmit_wrong {p : Path} {token : Nat} {s : State} (h : clearClosed p s = false)
    (hno : (match s.log.chal, s.nvm.logKey with
      | some (q, c), some k => q != p || token != clearToken k c s.uid
      | _, _ => true) = true) : logClrSubmit p token s = (0, clearFail p s) := by
  unfold logClrSubmit
  rw [if_neg (by simp [h])]
  generalize s.log.chal = chal at *
  generalize s.nvm.logKey = key at *
  match chal, key, hno with
  | none, _, _ => rfl
  | some (q, c), none, _ => rfl
  | some (q, c), some k, hno =>
    refine if_neg ?_
    simp only [Bool.or_eq_true, bne_iff_ne, ne_eq] at hno
    simp only [Bool.and_eq_true, decide_eq_true_eq, not_and]
    intro hq ht
    obtain hno | hno := hno
    · exact hno hq
    · exact hno ht.symm

/-- The lockout is over (R627). -/
theorem clearLockoutEnd_shown {s : State} (h : s.flag .LOG_STAT_LOCK = true) :
    (clearLockoutEnd s).flag .LOG_STAT_LOCK = false ∧ (clearLockoutEnd s).fld .LOG_CLRST_FAILS = 0 ∧
      (clearLockoutEnd s).fld .LOG_CLRST_STATE = 0 ∧
      FieldsKept [.LOG_STAT_LOCK, .LOG_CLRST_FAILS, .LOG_CLRST_STATE] s (clearLockoutEnd s) ∧
      clearLockoutEnd s = { s with regs := (clearLockoutEnd s).regs } := by
  have heq : clearLockoutEnd s = ((s.setFlag .LOG_STAT_LOCK false).setFld .LOG_CLRST_FAILS 0).setFld .LOG_CLRST_STATE 0 := if_pos h
  rw [heq]
  refine ⟨?_, ?_, ?_, ?_, rfl⟩
  · exact (flag_setFld_other _ _ _ _ (by decide) (by decide)).trans ((flag_setFld_other _ _ _ _ (by decide) (by decide)).trans
      (flag_setFlag_same s _ _ (by decide) (by decide)))
  · exact (fld_setFld_other _ _ _ _ (by decide) (by decide)).trans (fld_setFld_same _ _ _ (by decide))
  · exact fld_setFld_same _ _ _ (by decide)
  · exact FieldsKept.setFld (FieldsKept.setFld (FieldsKept.setFlag (.refl _ s) (by simp) (by decide)) (by simp) (by decide))
      (by simp) (by decide)

/-- Settles O54: the log's reads are one access of their path each, and a token is four writes whose last one submits it. -/
theorem logIsReadAndCleared : Obligations.LogIsReadAndCleared := by
  unfold Obligations.LogIsReadAndCleared
  refine ⟨?refill, ?full, ?seq, ?slot, ?back, ?missing, ?chal, ?chalClosed, ?expire, ?noChal, ?right, ?wrong, ?closed, ?lockEnd,
    ?noLock⟩
  case refill =>
    intro g s hg hd ht hlen
    have hexec : exec (.bucketRefill g) s = .next (bucketRefill g s) := answerIf_next.mpr ⟨by simp [hg], rfl⟩
    by_cases hc : (nth {} s.log.buckets g).count = 0
    · refine runs_of_eq hexec (bucketRefill_quiet hd ht hc) ⟨nth_refilled_same hlen, fun k hk => nth_refilled_other s hk,
        fun _ => rfl, fun hno => absurd hc hno, fun a _ => rfl, .of_eq rfl rfl rfl⟩
    · obtain ⟨ps, heq⟩ := bucketRefill_told hd ht hc
      obtain ⟨hlog, hregs, hmem, hlast⟩ := mkRecord_exempt_shown (code := 0x383) (cls := clsInfo) (by decide) ps (refilled g s)
      refine runs_of_eq hexec heq ⟨by rw [hlog]; exact nth_refilled_same hlen, fun k hk => by rw [hlog]; exact nth_refilled_other s hk,
        fun h => absurd h hc, fun _ hf hn => hlast (by decide) hf hn, ?_, ?_⟩
      · exact fun a ha => (hregs.mono (cs := [9, 10, 11]) (by simp) (List.Subset.refl _)).blocksKept (List.Subset.refl _) (by decide) a ha
      · exact MemKept.trans (.of_eq rfl rfl rfl) hmem
  case full =>
    intro g s hg h
    exact runs_of_eq (answerIf_next.mpr ⟨by simp [hg], rfl⟩) (bucketRefill_full h) rfl
  case seq =>
    intro p s hp hadm
    refine runs_read hadm (answerIf_next.mpr ⟨hp, rfl⟩) (readReg_LOG_SEQ p _) fun host hh => ⟨hh, ?_, ?_, ?_, rfl⟩
    · exact congrArg PathState.base (path_modPath (dropKey p s) p (fun x => { x with base := some (s.reg Reg.LOG_SEQ) }))
    · exact (congrArg PathState.cursor (path_modPath (dropKey p s) p (fun x => { x with base := some (s.reg Reg.LOG_SEQ) }))).trans
        ((congrArg PathState.cursor (path_dropKey p s)).trans rfl)
    · intro q hq
      have hset := path_modPath_other (dropKey p s) hq (fun x => { x with base := some (s.reg Reg.LOG_SEQ) })
      exact hset.trans (path_modPath_other s hq _)
  case slot =>
    intro p i s hp hadm hrel hi
    have hpath := path_dropKey p s
    have hlatch : latched' p (dropKey p s) = setSnap p (s.logBytes i) (s.slotFinds i) i (dropKey p s) := by
      unfold latched'
      rw [hpath, if_neg (by rw [hrel]; exact Bool.false_ne_true), hi]
      rfl
    exact runs_latch hp hadm hlatch fun t hsnap hstat hcur hans hother hrest => ⟨hsnap, hstat, hcur, hans, hother, hrest⟩
  case back =>
    intro p b i q s hp hadm hrel hb hb0 hfind
    have hpath := path_dropKey p s
    have hbase : baseOf p (dropKey p s) = b := by
      rw [hb, baseOf, hpath]
      rfl
    have hlatch : latched' p (dropKey p s) = setSnap p (s.logBytes i) snapOk i (dropKey p s) := by
      unfold latched'
      rw [hpath, if_pos hrel]
      exact latchBack_found (by rw [hbase]; exact hb0) (by rw [hbase]; exact hfind)
    exact runs_latch hp hadm hlatch fun t hsnap hstat hcur hans _ hrest => ⟨hsnap, hstat, hcur, hans, hrest⟩
  case missing =>
    intro p b s hp hadm hrel hb hno
    have hpath := path_dropKey p s
    have hbase : baseOf p (dropKey p s) = b := by
      rw [hb, baseOf, hpath]
      rfl
    have hlatch : ∃ st, (st = snapOvertaken ∨ st = snapEmpty ∨ st = snapBad) ∧ (b = 0 → st = snapEmpty) ∧
        latched' p (dropKey p s) = setSnap p (List.replicate 32 0) st 0 (dropKey p s) := by
      unfold latched'
      rw [hpath, if_pos hrel]
      by_cases hz : b = 0
      · exact ⟨snapEmpty, .inr (.inl rfl), fun _ => rfl, latchBack_empty (hbase.trans hz)⟩
      · obtain hno | hno := hno
        · exact absurd hno hz
        · obtain ⟨st, hst, heq⟩ := missingSnap_shown p ((b + 65536 - getField (s.path p).cursor 0 10) % 65536) (dropKey p s)
          refine ⟨st, hst, fun h => absurd h hz, ?_⟩
          rw [← heq, ← hbase]
          exact latchBack_missing (by rw [hbase]; exact hz) (by rw [hbase]; exact hno)
    obtain ⟨st, hst, hzero, hlatch⟩ := hlatch
    refine runs_latch hp hadm hlatch fun t hsnap hstat hcur hans _ hrest => ⟨hsnap, ?_, fun hz => ?_, hans, hcur, hrest⟩
    · rw [hstat]
      obtain rfl | rfl | rfl := hst <;> decide
    · rw [hstat, hzero hz]
      rfl
  case chal =>
    intro p c s hp hadm hopen hc
    have hissue := issueChallenge_open (s := dropKey p s) hopen
    have hread := readReg_LOG_CHAL p (dropKey p s)
    rw [hissue, quantityRead_LOG_CHAL] at hread
    subst hc
    refine runs_read hadm (answerIf_next.mpr ⟨hp, rfl⟩) hread fun host hh => ⟨rfl, ?_, rfl, hh, ?_, ?_, rfl⟩
    · exact fld_setFld_same { dropKey p s with free := s.free + 1, log :=
        { s.log with chal := some (p, (Config.freeBits s.free).toNat) } } .LOG_CLRST_STATE 1 (by decide)
    · have hset := path_modPath (challenged p (dropKey p s)) p (fun x => { x with readShadow := [
        (Reg.LOG_CHAL + 1, word ((Config.freeBits s.free).toNat / 65536)),
        (Reg.LOG_CHAL + 2, word ((Config.freeBits s.free).toNat / 65536 ^ 2)),
        (Reg.LOG_CHAL + 3, word ((Config.freeBits s.free).toNat / 65536 ^ 3))] })
      exact congrArg PathState.readShadow hset
    · exact (FieldsKept.setFld (.of_regs rfl) (by simp) (by decide) : FieldsKept _ s (challenged p (dropKey p s))).trans (.of_regs rfl)
  case chalClosed =>
    intro p s hp hadm hclosed
    have hissue := issueChallenge_closed (s := dropKey p s) hclosed
    have hread := readReg_LOG_CHAL p (dropKey p s)
    rw [hissue, quantityRead_LOG_CHAL] at hread
    exact runs_read hadm (answerIf_next.mpr ⟨hp, rfl⟩) hread fun host hh => ⟨hh, rfl⟩
  case expire =>
    intro q c s hc
    exact runs_of_eq rfl (challengeExpire_of_some hc) ⟨rfl, fld_setFld_same _ _ _ (by decide),
      FieldsKept.setFld (.of_regs rfl) (by simp) (by decide), rfl⟩
  case noChal =>
    intro s hc
    exact runs_of_eq rfl (challengeExpire_of_none hc) rfl
  case right =>
    intro p token c k s hwf hadm hopen hc hk ht
    have hfatal : s.isFatal = false := hadm.2.2.1
    refine runs_submit (beginClear p) hwf hadm (fun m hm => logClrSubmit_right (c := c) (k := k) ((clearClosed_of_path hm).trans hopen)
      (by rw [hm]; exact hc) (by rw [hm]; exact hk) (by rw [hm]; exact ht)) fun m ps host hm hh => ?_
    obtain ⟨hfails, hstate, hbusy, hlog, hjobs, hblocks, hmem⟩ := beginClear_shown (p := p) (s := m) (by rw [hm]; exact hfatal)
    generalize beginClear p m = w at *
    refine ⟨hfails, hstate, hbusy, ?_, hjobs, hh, fun a ha => (hblocks a ha).trans (by rw [hm]; rfl), ?_⟩
    · rw [hlog, hm]
    · refine MemKept.trans (MemKept.trans ?_ hmem) (.of_eq rfl rfl rfl)
      rw [hm]
      exact .of_eq rfl rfl rfl
  case wrong =>
    intro p token s hwf hadm hopen hno
    refine runs_submit (clearFail p) hwf hadm (fun m hm => logClrSubmit_wrong ((clearClosed_of_path hm).trans hopen)
      (by rw [hm]; exact hno)) fun m ps host hm hh => ?_
    have hcount : m.fld .LOG_CLRST_FAILS = s.fld .LOG_CLRST_FAILS := by rw [hm]; rfl
    by_cases hn : s.fld .LOG_CLRST_FAILS < 2
    · obtain ⟨hlog, hfails, hstate, hkept, hrest⟩ := clearFail_few_shown (p := p) (s := m) (by rw [hcount]; exact hn)
      generalize clearFail p m = w at *
      refine ⟨congrArg Log.chal hlog, hh, fun _ => ⟨hfails.trans (by rw [hcount]), hstate, ?_, ?_⟩, fun h => absurd h (by omega)⟩
      · exact FieldsKept.trans (.of_regs (by rw [hm])) (hkept.trans (.of_regs rfl))
      · rw [hrest, hm]
    · obtain ⟨hlog, hlock, hstate, hblocks, hmem⟩ := clearFail_third_shown (p := p) (s := m) (by rw [hcount]; omega)
      generalize clearFail p m = w at *
      refine ⟨congrArg Log.chal hlog, hh, fun h => absurd h hn, fun _ => ⟨hlock, hstate, ?_,
        fun a ha => (hblocks a ha).trans (by rw [hm]; rfl), ?_⟩⟩
      · exact (congrArg Log.lockUntil hlog).trans (by rw [hm]; rfl)
      · refine MemKept.trans (MemKept.trans ?_ hmem) (.of_eq rfl rfl rfl)
        rw [hm]
        exact .of_eq rfl rfl rfl
  case closed =>
    intro p token s hwf hadm hclosed
    refine runs_submit id hwf hadm (fun m hm => logClrSubmit_closed ((clearClosed_of_path hm).trans hclosed))
      fun m ps host hm hh => ⟨hh, ?_⟩
    rw [hm]
    rfl
  case lockEnd =>
    intro s h
    exact runs_of_eq rfl rfl (clearLockoutEnd_shown h)
  case noLock =>
    intro s h
    exact runs_of_eq rfl (if_neg (by simp [h])) rfl

end Sys2Proof.Machine
end

section
/-! What the arbiter changes, and the blocks that leave the on-chip store and the operation on it as they are (R582). -/

namespace Sys2Proof.Machine

/-! ### The arbiter -/

theorem OnlyGrant.refl (s : State) : OnlyGrant s s := ⟨_, _, _, _, _, rfl⟩

theorem OnlyRegs.grant {s t : State} (h : OnlyRegs s t) : OnlyGrant s t := by
  obtain ⟨r, rfl⟩ := h
  exact ⟨_, _, _, _, _, rfl⟩

theorem onlyGrant_of_granted {b : Burst} {t u : State}
    (h : (if b.tag = leaseTag then tryLease b.who t else tryBurst b t) = some u) : OnlyGrant t u := by
  split at h
  · obtain ⟨l, rfl⟩ := tryLease_eq h
    have hset : OnlyGrant t (setLease b.who l t) := ⟨_, _, _, _, _, setLease_rest b.who l t⟩
    exact hset.trans ⟨_, _, _, _, _, onLease_rest b.who l _⟩
  · rw [tryBurst_eq h]
    have hheld : OnlyGrant t { t with pwr := { t.pwr with granted := t.pwr.granted ++ [b] } } := ⟨_, _, _, _, _, rfl⟩
    exact hheld.trans (onlyRegs_showBurst b.who gGrant _).grant

theorem onlyGrant_arbitrate (s : State) : OnlyGrant s (arbitrate s) := by
  have hserved : OnlyGrant s (serve (byPriority s.pwr.waiting) s).2 :=
    serve_keeps (OnlyGrant s) _ s (.refl s) fun b _ t u ht hu => ht.trans (onlyGrant_of_granted hu)
  unfold arbitrate
  dsimp only
  generalize serve (byPriority s.pwr.waiting) s = r at *
  have hleft : OnlyGrant r.2 { r.2 with pwr := { r.2.pwr with waiting := r.1 } } := ⟨_, _, _, _, _, rfl⟩
  exact (hserved.trans hleft).trans (onlyRegs_showBudget _).grant

theorem onlyGrant_releaseBurst (who : Requester) (tag : Nat) (s : State) : OnlyGrant s (releaseBurst who tag s) := by
  have hfree : OnlyGrant s (showGrant who { s with pwr := { s.pwr with
      granted := s.pwr.granted.filter (fun b => !(b.who == who && b.tag == tag)) } }) := ⟨_, _, _, _, _, rfl⟩
  exact hfree.trans (onlyGrant_arbitrate _)

/-! ### The store and its operation -/

/-- Between s and t the on-chip store's side has changed its queue alone. -/
def OnlyJobs (s t : State) : Prop := ∃ js f, t.nvm = { s.nvm with jobs := js, jobFail := f }

theorem OnlyJobs.refl (s : State) : OnlyJobs s s := ⟨_, _, rfl⟩

theorem OnlyJobs.of_eq {s t : State} (h : t.nvm = s.nvm) : OnlyJobs s t := ⟨s.nvm.jobs, s.nvm.jobFail, h⟩

theorem OnlyJobs.trans {s t u : State} (h : OnlyJobs s t) (k : OnlyJobs t u) : OnlyJobs s u := by
  obtain ⟨js, f, h⟩ := h
  obtain ⟨js', f', k⟩ := k
  exact ⟨js', f', by rw [k, h]⟩

theorem OnlyJobs.op {s t : State} (h : OnlyJobs s t) : t.nvm.op = s.nvm.op := by
  obtain ⟨js, f, h⟩ := h
  rw [h]

theorem OnlyJobs.store {s t : State} (h : OnlyJobs s t) : t.nvm.store = s.nvm.store := by
  obtain ⟨js, f, h⟩ := h
  rw [h]

theorem OnlyJobs.storeByte {s t : State} (h : OnlyJobs s t) (a : Nat) : t.storeByte a = s.storeByte a :=
  congrArg (fun m => readAt erasedByte m a) h.store

theorem OnlyRegs.jobs {s t : State} (h : OnlyRegs s t) : OnlyJobs s t := .of_eq (by rw [h.eq])

theorem onlyJobs_setJobs (s : State) (js : List Job) : OnlyJobs s (setJobs s js) := ⟨js, s.nvm.jobFail, rfl⟩

theorem onlyJobs_forEach {f : Nat → State → State} (h : ∀ k t, OnlyJobs t (f k t)) (n : Nat) (s : State) :
    OnlyJobs s (forEach n f s) :=
  forEach_keeps (OnlyJobs s) f n s (.refl s) fun k t _ ht => ht.trans (h k t)

/-! ### A record and a report -/

theorem onlyJobs_mkRecord (code cls : Nat) (ps : List Nat) (s : State) : OnlyJobs s (mkRecord code cls ps s) := by
  have hmade : OnlyJobs s (codeMade code s) := by
    obtain ⟨rs, js, x, h⟩ := (recordStep_codeMade code s).only
    exact ⟨js, s.nvm.jobFail, by rw [h]⟩
  have hqueued : ∀ r t, OnlyJobs t (queueRecord r t) := by
    intro r t
    obtain ⟨rs, js, h⟩ := (queueRecord_shown r t).2
    exact ⟨js, t.nvm.jobFail, by rw [h]⟩
  have htoken : ∀ t, OnlyJobs t (takeToken code t).2 := by
    intro t
    unfold takeToken
    dsimp only
    split
    · exact .refl t
    · split <;> exact .of_eq rfl
  unfold codeMade at hmade
  unfold mkRecord
  dsimp only
  generalize (if (bindCounters code s).fld .XFER_CAP_SRC = 1 && (bindCounters code s).fld .XFER_CAP_PARAM = code then
    capTrigger 1 (bindCounters code s) else bindCounters code s) = u at *
  split
  · exact hmade.trans (hqueued _ u)
  · split
    · exact (hmade.trans (htoken u)).trans (hqueued _ _)
    · exact hmade.trans (htoken u)

theorem onlyJobs_abandonSlice (n : Nat) (s : State) : OnlyJobs s (abandonSlice n s) := .of_eq rfl

theorem onlyJobs_haltQueues (s : State) : OnlyJobs s (setFrameQ (setUrgent s []) []) := .of_eq rfl

theorem onlyJobs_showEngines (s : State) : OnlyJobs s (showEngines s) := onlyJobs_forEach (fun _ _ => .of_eq rfl) 6 s

theorem onlyJobs_modEng (n : Nat) (f : EngSt → EngSt) (s : State) : OnlyJobs s (s.modEng n f) := .of_eq rfl

theorem onlyJobs_haltEngines (s : State) : OnlyJobs s (haltEngines s) := by
  have hengines : ∀ t, OnlyJobs t (forEach 6 (fun n t =>
      t.modEng n (fun e => { e with cycle := none, cycleB := none, notices := [] })) t) :=
    fun t => onlyJobs_forEach (fun n t => onlyJobs_modEng n _ t) 6 t
  have hflags : ∀ t, OnlyJobs t ((t.setFlag .SEQ_STAT_RUNNING false).setFlag .XFER_STAT_RUN false) := fun _ => .of_eq rfl
  have hslices := onlyJobs_forEach onlyJobs_abandonSlice 13 s
  unfold haltEngines
  dsimp only
  generalize forEach 13 abandonSlice s = t at *
  have hseq : OnlyJobs s { t with seq := { t.seq with timeRun := [], afterRun := [], urgentOn := none } } :=
    hslices.trans (.of_eq rfl)
  have hqueues := (hseq.trans (onlyJobs_haltQueues _)).trans (hengines _)
  exact (hqueues.trans (onlyJobs_showEngines _)).trans (hflags _)

theorem onlyJobs_excClear (ev k : Nat) (s : State) : OnlyJobs s (excClear ev k s) := by
  obtain ⟨r, e, c, w, h⟩ := onlyClear_excClear ev k s
  exact .of_eq (by rw [h])

theorem onlyJobs_beginFatal (src param : Nat) (s : State) : OnlyJobs s (beginFatal src param s) := by
  have hcleared : OnlyJobs s (fatalCleared src param s) := by
    have hmark : OnlyJobs s (markFatal src param s) := .of_eq rfl
    have hclear : ∀ t, OnlyJobs t (excClearAll evFatal t) := onlyJobs_forEach (fun k t => onlyJobs_excClear evFatal k t) 4
    have hopen : ∀ t, OnlyJobs t (keepClearOnly t) := fun _ => .of_eq rfl
    exact ((hmark.trans (onlyJobs_haltEngines _)).trans (hclear _)).trans (hopen _)
  unfold beginFatal
  rw [enterFatal_eq]
  generalize (s.reg32 (Reg.CNT 2) + 1) % 4294967296 = count
  exact (hcleared.trans (onlyJobs_setJobs _ _)).trans (((OnlyRegs.refl _).updateLoops.setReg32 _ _).jobs)

theorem onlyJobs_report (src param p2 p3 : Nat) (s : State) : OnlyJobs s (report src param p2 p3 s) := by
  change OnlyJobs s (acceptReport (belayClass src param) src param p2 p3 false s)
  generalize belayClass src param = cls
  by_cases hw : Watches src s
  · have hnoted : OnlyJobs s (noted cls src param p2 p3 false s) := by
      have hlatched : OnlyJobs s (latched cls src param false s) := .of_eq (by rw [latched_rest])
      unfold noted
      split
      · exact hlatched
      · exact hlatched.trans (onlyJobs_mkRecord _ _ _ _)
    rw [acceptReport_of_watches hw]
    refine OnlyJobs.trans ?_ ((OnlyRegs.refl _).driveFaultPins.jobs)
    split
    · exact hnoted.trans (onlyJobs_beginFatal src param _)
    · exact hnoted
  · rw [acceptReport_of_not_watches hw]
    exact .refl s

/-! ### A reset -/

/-- A reset keeps the store, where no operation is in progress on it. -/
theorem onStore_takeReset {s : State} (srcs : List ResetSrc) (h : s.nvm.op = none) :
    (takeReset srcs s).nvm.op = none ∧ (takeReset srcs s).nvm.store = s.nvm.store := by
  have hreset : ∀ c old, old.nvm.store = s.nvm.store →
      (resetState c srcs old).nvm.op = none ∧ (resetState c srcs old).nvm.store = s.nvm.store := by
    intro c old hold
    rw [resetState_rest]
    exact ⟨rfl, hold⟩
  have hcut : (cutOps srcs s).nvm.store = s.nvm.store := by rw [nvm_cutOps_of_idle srcs h]
  have hstate := hreset (governing srcs s) (cutOps srcs s) hcut
  have heq : takeReset srcs s =
      (if (resetState (governing srcs s) srcs (cutOps srcs s)).sys.asserted.isEmpty then
        release (resetState (governing srcs s) srcs (cutOps srcs s))
      else heldState (governing srcs s) srcs (cutOps srcs s)) := by
    unfold heldState
    rw [← resetState_sys _ srcs]
    rfl
  rw [heq]
  split
  · generalize resetState (governing srcs s) srcs (cutOps srcs s) = t at *
    have hstart : (releaseStart t).nvm.op = none ∧ (releaseStart t).nvm.store = s.nvm.store := by
      unfold releaseStart
      split
      · exact hstate
      · rw [resetState_rest]
        exact ⟨rfl, hstate.2⟩
    rw [(release_frame t).2]
    exact hstart
  · rw [heldState_rest]
    exact ⟨rfl, hcut⟩

theorem onStore_waitedReset {s : State} (h : s.nvm.op = none) :
    (waitedReset s).nvm.op = none ∧ (waitedReset s).nvm.store = s.nvm.store := by
  unfold waitedReset
  split
  · exact ⟨h, rfl⟩
  · exact onStore_takeReset _ h

end Sys2Proof.Machine
end

section
/-! Store operations: what a program and an erase leave of the store (R580, R581), and what the job that they belong to does
next leaves of it (R582). -/

namespace Sys2Proof.Machine

/-! ### The job goes on -/

theorem onlyJobs_hostEnd (reason : Nat) (s : State) : OnlyJobs s (hostEnd reason s) := by
  have hfail : OnlyJobs s (if reason = 0 then s else { s with nvm := { s.nvm with jobFail := reason } }) := by
    split
    · exact .refl s
    · exact ⟨s.nvm.jobs, reason, rfl⟩
  unfold hostEnd
  dsimp only
  generalize (if reason = 0 then s else { s with nvm := { s.nvm with jobFail := reason } }) = t at *
  split
  · exact hfail
  · refine hfail.trans (.of_eq ?_)
    split <;> rfl

theorem onlyJobs_endJob (reason : Nat) (s : State) : OnlyJobs s (endJob reason s) := by
  unfold endJob
  split
  · exact .refl s
  · rename_i j rest _
    have hcompact : ∀ t, OnlyJobs t (match j.kind with | .compact _ => t.setFlag .NVM_JSTAT_COMPACT false | _ => t) := by
      intro t
      split
      · exact .of_eq rfl
      · exact .refl t
    have hshown : ∀ t, OnlyJobs t (showNvm t) := fun _ => .of_eq rfl
    dsimp only
    refine OnlyJobs.trans ?_ (hshown _)
    split
    · exact ((onlyJobs_setJobs s rest).trans (hcompact _)).trans (onlyJobs_hostEnd reason _)
    · exact (onlyJobs_setJobs s rest).trans (hcompact _)

theorem onlyJobs_setHead (j : Job) (s : State) : OnlyJobs s (setHead j s) := onlyJobs_setJobs s _

theorem onlyJobs_trimSaved (item : Nat) (data : List Byte) (s : State) : OnlyJobs s (trimSaved item data s) := by
  unfold trimSaved
  split
  · exact .of_eq rfl
  · exact .refl s

theorem onlyJobs_copyDone (j : Job) (s : State) : OnlyJobs s (copyDone j s) := by
  unfold copyDone
  split
  · dsimp only
    have htrim : ∀ item data, OnlyJobs s (if j.step = 1 then trimSaved item data s else s) := by
      intro item data
      split
      · exact onlyJobs_trimSaved item data s
      · exact .refl s
    split
    · exact (htrim _ _).trans (onlyJobs_endJob 0 _)
    · exact (htrim _ _).trans (onlyJobs_setHead _ _)
  · exact (OnlyJobs.of_eq rfl).trans (onlyJobs_endJob 0 (s.setFlag .NVM_JSTAT_REPAIR true))
  · exact onlyJobs_setHead _ s

theorem onlyJobs_journalDone (j : Job) (ok : Bool) (s : State) : OnlyJobs s (journalDone j ok s) := by
  unfold journalDone
  split
  · split
    · exact onlyJobs_setJobs s _
    · exact .refl s
  · exact (OnlyJobs.of_eq rfl).trans (onlyJobs_setHead _ (s.setFlag .NVM_JSTAT_VOID true))
  · exact onlyJobs_endJob 0 s
  · split
    · split
      · exact onlyJobs_copyDone j s
      · exact onlyJobs_setHead _ s
    · split
      · exact (onlyJobs_report _ _ _ _ s).trans (onlyJobs_endJob 6 _)
      · exact onlyJobs_setHead _ s

theorem onlyJobs_recordDone (j : Job) (s : State) : OnlyJobs s (recordDone j s) := by
  unfold recordDone
  dsimp only
  split
  · exact .of_eq rfl
  · exact .refl s

theorem onlyJobs_logDone (j : Job) (r : Rec) (ok : Bool) (s : State) : OnlyJobs s (logDone j r ok s) := by
  have hafter : OnlyJobs s (if r.fatal && ((recordDone j s).countOp 2).isSome then setHead { j with step := 2 } (recordDone j s)
      else endJob 0 (recordDone j s)) := by
    split
    · exact (onlyJobs_recordDone j s).trans (onlyJobs_setHead _ _)
    · exact (onlyJobs_recordDone j s).trans (onlyJobs_endJob 0 _)
  unfold logDone
  dsimp only
  split
  · split
    · exact onlyJobs_endJob 0 s
    · split
      · exact hafter
      · exact onlyJobs_setHead _ s
  · exact hafter
  · exact onlyJobs_endJob 0 s

/-- A clearing's record is in the log: what its end goes on from. -/
def clearingStep (j : Job) (next : Nat) (s : State) : State := if next = 2 && j.step < 2 then recordDone j s else s

theorem onlyJobs_clearingStep (j : Job) (next : Nat) (s : State) : OnlyJobs s (clearingStep j next s) := by
  unfold clearingStep
  split
  · exact onlyJobs_recordDone j s
  · exact .refl s

theorem onlyJobs_clearingDone (j : Job) (s : State) : OnlyJobs s (clearingDone j s) := by
  have hend : ∀ t : State, OnlyJobs t ((({ t with log := { t.log with clearedBy := none } }.setFlag .LOG_STAT_DROP false).setFlag
      .LOG_STAT_BUSY false).setFld .LOG_CLRST_STATE 3) := fun _ => .of_eq rfl
  have hdone : ∀ next, OnlyJobs s (if 17 ≤ next && ((clearingStep j next s).toClear j.place).isEmpty then
      endJob 0 ((({ clearingStep j next s with log := { (clearingStep j next s).log with clearedBy := none } }.setFlag
        .LOG_STAT_DROP false).setFlag .LOG_STAT_BUSY false).setFld .LOG_CLRST_STATE 3)
      else setHead { j with step := next } (clearingStep j next s)) := by
    intro next
    have hstep := onlyJobs_clearingStep j next s
    split
    · exact (hstep.trans (hend _)).trans (onlyJobs_endJob 0 _)
    · exact hstep.trans (onlyJobs_setHead _ _)
  exact hdone _

theorem onlyJobs_jobGoesOn (ok : Bool) (s : State) : OnlyJobs s (jobGoesOn ok s) := by
  unfold jobGoesOn
  split
  · exact .refl s
  · split
    · exact onlyJobs_journalDone _ ok s
    · exact onlyJobs_journalDone _ ok s
    · exact onlyJobs_journalDone _ ok s
    · exact onlyJobs_logDone _ _ ok s
    · exact onlyJobs_clearingDone _ s
    all_goals exact onlyJobs_endJob _ s

/-- The operation is over, and the store holds what it has left of it. -/
theorem onStore_flashOpComplete {o : FlashOp} {s : State} (ok : Bool) (h : s.nvm.op = some o) :
    (flashOpComplete ok s).nvm.op = none ∧ (flashOpComplete ok s).nvm.store = (opEffect o ok s).nvm.store := by
  unfold flashOpComplete
  rw [h]
  dsimp only
  have hjob := onlyJobs_jobGoesOn ok { opEffect o ok s with nvm := { (opEffect o ok s).nvm with op := none } }
  generalize jobGoesOn ok { opEffect o ok s with nvm := { (opEffect o ok s).nvm with op := none } } = t at *
  have hshow : OnlyJobs t (showNvm t) := .of_eq rfl
  have hfree : OnlyJobs (showNvm t) (releaseBurst .nvm 0 (showNvm t)) := .of_eq (by rw [(onlyGrant_releaseBurst _ _ _).eq])
  have hall := (hjob.trans hshow).trans hfree
  obtain ⟨hop, hstore⟩ := onStore_waitedReset (s := releaseBurst .nvm 0 (showNvm t)) hall.op
  exact ⟨hop, hstore.trans hall.store⟩

/-! ### What an operation leaves -/

theorem lookupAt_eraseRange (a n k : Nat) : ∀ m : List (Nat × Byte),
    lookupAt (eraseRange m a n) k = if a ≤ k ∧ k < a + n then none else lookupAt m k
  | [] => by simp [eraseRange, lookupAt]
  | e :: m => by
    have ih := lookupAt_eraseRange a n k m
    unfold eraseRange at ih ⊢
    rw [List.filter_cons]
    by_cases he : a ≤ e.1 ∧ e.1 < a + n
    · have hgone : (!(decide (a ≤ e.1) && decide (e.1 < a + n))) = false := by simp [he]
      rw [hgone, if_neg Bool.false_ne_true, ih]
      split
      · rfl
      · have hne : e.1 ≠ k := by omega
        rw [lookupAt, if_neg hne]
    · have hstays : (!(decide (a ≤ e.1) && decide (e.1 < a + n))) = true := by
        simp only [Bool.not_eq_true', Bool.and_eq_false_iff, decide_eq_false_iff_not]
        omega
      rw [hstays, if_pos rfl, lookupAt, ih, lookupAt]
      by_cases hk : e.1 = k
      · rw [if_pos hk, if_pos hk, if_neg (by omega)]
      · rw [if_neg hk, if_neg hk]

theorem readAt_eraseRange (d : Nat → Byte) (m : List (Nat × Byte)) (a n k : Nat) :
    readAt d (eraseRange m a n) k = if a ≤ k ∧ k < a + n then d k else readAt d m k := by
  unfold readAt
  rw [lookupAt_eraseRange]
  split <;> rfl

theorem getD_storeBytes {s : State} {a n i : Nat} (h : i < n) (d : Byte) :
    (s.storeBytes a n).getD i d = s.storeByte (a + i) := by
  have hi : i < (List.range n).length := by rw [List.length_range]; exact h
  simp [State.storeBytes, State.storeByte, readRun, List.getD_eq_getElem?_getD, h]

theorem length_storeBytes (s : State) (a n : Nat) : (s.storeBytes a n).length = n := by
  simp [State.storeBytes, readRun]

/-- The bytes that a program puts, whole or cut short (R581). -/
def programmed (ok : Bool) (a : Nat) (bs : List Byte) (s : State) : List Byte :=
  if ok then List.zipWith (· &&& ·) (s.storeBytes a bs.length) bs
  else (cutShort (s.storeBytes a bs.length) (List.zipWith (· &&& ·) (s.storeBytes a bs.length) bs) s).1

theorem length_programmed (ok : Bool) (a : Nat) (bs : List Byte) (s : State) : (programmed ok a bs s).length = bs.length := by
  unfold programmed cutShort
  split <;> simp [length_storeBytes]

theorem store_opEffect_program (ok : Bool) (a : Nat) (bs : List Byte) (s : State) :
    (opEffect (.program a bs) ok s).nvm.store = writeRun erasedByte s.nvm.store a (programmed ok a bs s) := by
  cases ok <;> rfl

theorem store_opEffect_byteProgram (ok : Bool) (a : Nat) (b : Byte) (s : State) :
    (opEffect (.byteProgram a b) ok s).nvm.store = writeRun erasedByte s.nvm.store a (programmed ok a [b] s) := by
  cases ok <;> rfl

theorem store_opEffect_erase (ok : Bool) (k : Nat) (s : State) :
    (opEffect (.erase k) ok s).nvm.store = eraseRange s.nvm.store (2048 * k) 2048 := rfl

theorem getD_programmed_whole {a i : Nat} {bs : List Byte} {s : State} (h : i < bs.length) (d : Byte) :
    (programmed true a bs s).getD i d = s.storeByte (a + i) &&& nth 0 bs i := by
  have hold := getD_storeBytes (s := s) (a := a) h d
  have hlen := length_storeBytes s a bs.length
  unfold programmed nth
  rw [if_pos rfl]
  rw [List.getD_eq_getElem?_getD] at hold ⊢
  rw [List.getElem?_eq_getElem (by omega), Option.getD_some] at hold
  rw [List.getElem?_zipWith, List.getElem?_eq_getElem (by omega), List.getElem?_eq_getElem h, hold]
  simp [h]

/-- A bit of a byte cut short is the old one or the new one. -/
theorem mixByte_and (m : BitVec 64) (o n : Byte) :
    mixByte m o (o &&& n) &&& o = mixByte m o (o &&& n) ∧ (o &&& n) &&& mixByte m o (o &&& n) = o &&& n := by
  unfold mixByte
  generalize m.setWidth 8 = w
  constructor <;> ext i hi <;> simp only [BitVec.getElem_and, BitVec.getElem_or, BitVec.getElem_not] <;>
    cases o[i] <;> cases n[i] <;> cases w[i] <;> rfl

theorem getD_programmed_part {a i : Nat} {bs : List Byte} {s : State} (h : i < bs.length) (d : Byte) :
    ∃ m, (programmed false a bs s).getD i d = mixByte m (s.storeByte (a + i)) (s.storeByte (a + i) &&& nth 0 bs i) := by
  have hwhole := getD_programmed_whole (a := a) (s := s) h d
  have hold := getD_storeBytes (s := s) (a := a) h d
  have hlen := length_storeBytes s a bs.length
  refine ⟨Config.freeBits (s.free + i), ?_⟩
  unfold programmed at hwhole
  rw [if_pos rfl] at hwhole
  unfold programmed cutShort
  rw [if_neg Bool.false_ne_true, ← hwhole, ← hold]
  have hi : i < (List.zipWith (· &&& ·) (s.storeBytes a bs.length) bs).length := by
    rw [List.length_zipWith]
    omega
  generalize List.zipWith (· &&& ·) (s.storeBytes a bs.length) bs = new at *
  generalize s.storeBytes a bs.length = l at *
  simp [List.getD_eq_getElem?_getD, List.getElem?_zipIdx, List.getElem?_eq_getElem hi, List.getElem?_zipWith,
    List.getElem?_eq_getElem (show i < l.length by omega), List.zip]

/-- A program clears bits of its own bytes only. -/
theorem storeByte_programmed {t s : State} {ok : Bool} {a : Nat} {bs : List Byte}
    (h : t.nvm.store = writeRun erasedByte s.nvm.store a (programmed ok a bs s)) :
    (∀ i, i < bs.length → t.storeByte (a + i) = (programmed ok a bs s).getD i (erasedByte (a + i))) ∧
      (∀ b, b < a ∨ a + bs.length ≤ b → t.storeByte b = s.storeByte b) := by
  have hlen := length_programmed ok a bs s
  constructor
  · intro i hi
    unfold State.storeByte
    rw [h, readAt_writeRun, if_pos (by omega), Nat.add_sub_cancel_left]
  · intro b hb
    unfold State.storeByte
    rw [h, readAt_writeRun, if_neg (by omega)]

end Sys2Proof.Machine
end

section
/-! The flash queue runs its jobs (R581, R582, R596, R598). -/

namespace Sys2Proof.Machine

theorem RegsKept.setFlag {bs : List Nat} {fs : List Fld} {s t : State} {f : Fld} {b : Bool} (h : RegsKept bs fs s t)
    (hb : blockOf f.addr ∈ bs) : RegsKept bs fs s (t.setFlag f b) := h.setReg hb

theorem regsKept_setJobs {bs : List Nat} {fs : List Fld} {s t : State} (h : RegsKept bs fs s t) (hb : [10, 11] ⊆ bs) (js : List Job) :
    RegsKept bs fs s (setJobs t js) :=
  RegsKept.setFld (f := .NVM_JSTAT_QCNT) (RegsKept.setFld (f := .LOG_STAT_QLOG) (h.trans (.of_regs rfl))
    (hb (by decide))) (hb (by decide))

theorem regsKept_showNvm {bs : List Nat} {fs : List Fld} {s t : State} (h : RegsKept bs fs s t) (hb : [10, 11] ⊆ bs) :
    RegsKept bs fs s (showNvm t) :=
  RegsKept.setFld (f := .NVM_JSTAT_SAVEREM) (RegsKept.setFlag (f := .NVM_STAT_BUSY) h (hb (by decide)))
    (hb (by decide))

theorem RegsKept.shownBlocks {bs : List Nat} {s t : State} (h : RegsKept bs [] s t) : BlocksKept bs s t :=
  h.blocksKept (List.Subset.refl _) (by simp)

/-! ### An operation begins -/

/-- Between s and t an operation has begun what it does beside the store: the number, the frame and the next sector of its
record, and what the status registers show of it. -/
structure OpBegun (s t : State) : Prop where
  rest : ∃ rs js rp lg, t = { s with regs := rs, nvm := { s.nvm with jobs := js }, rope := rp, log := lg }
  regs : RegsKept [10, 11] [] s t
  tail : ∃ l, t.nvm.jobs = s.nvm.jobs ++ l

theorem OpBegun.refl (s : State) : OpBegun s s := ⟨⟨_, s.nvm.jobs, _, _, rfl⟩, .refl s, [], (List.append_nil _).symm⟩

theorem OpBegun.trans {s t u : State} (h : OpBegun s t) (k : OpBegun t u) : OpBegun s u := by
  obtain ⟨⟨rs, js, rp, lg, ht⟩, hregs, l, hl⟩ := h
  obtain ⟨⟨rs', js', rp', lg', hu⟩, kregs, l', hl'⟩ := k
  exact ⟨⟨rs', js', rp', lg', by rw [hu, ht]⟩, hregs.trans kregs, l ++ l', by rw [hl', hl, List.append_assoc]⟩

theorem opBegun_flag {f : Fld} (h : blockOf f.addr ∈ [10, 11]) (b : Bool) (s : State) : OpBegun s (s.setFlag f b) :=
  ⟨⟨_, s.nvm.jobs, _, _, rfl⟩, RegsKept.setFlag (.refl s) h, [], (List.append_nil _).symm⟩

theorem opBegun_log (l : Log) (s : State) : OpBegun s { s with log := l } :=
  ⟨⟨_, s.nvm.jobs, _, _, rfl⟩, .of_regs rfl, [], (List.append_nil _).symm⟩

theorem opBegun_sendEvt (bs : List Byte) (s : State) : OpBegun s (sendEvt bs s) := by
  unfold sendEvt
  split
  · obtain ⟨qu, qd, h⟩ := onlyQueues_sendOff (ownFrame s tyEvt (s.fld .ROPE_ADDR_HEADA) (bs.take 28)) s
    rw [h]
    exact ⟨⟨_, s.nvm.jobs, _, _, rfl⟩, .of_regs rfl, [], (List.append_nil _).symm⟩
  · exact .refl s

theorem opBegun_eraseAhead (i : Nat) (s : State) : OpBegun s (eraseAhead i s) := by
  unfold eraseAhead addJob
  dsimp only
  split
  · split
    · exact .refl s
    · exact ⟨⟨_, _, s.rope, s.log, rfl⟩, regsKept_setJobs (.refl s) (List.Subset.refl _) _, _, rfl⟩
  · exact .refl s

theorem opBegun_opBegins (j : Job) (s : State) : OpBegun s (opBegins j s) := by
  unfold opBegins
  split
  · exact ((opBegun_sendEvt _ s).trans (opBegun_log _ _)).trans (opBegun_eraseAhead _ _)
  · exact (opBegun_log _ s).trans (opBegun_eraseAhead _ _)
  · exact opBegun_flag (f := .LOG_STAT_DROP) (by decide) true s
  · exact opBegun_flag (f := .NVM_JSTAT_COMPACT) (by decide) true s
  · exact .refl s

/-! ### FLASH_OP_START by its cases -/

/-- The queue with the job that may run at its head. -/
def pickedUp (j : Job) (s : State) : State := setJobs s (j :: s.nvm.jobs.erase j)

theorem flashOpStart_idle {s : State} (h : s.mayStart = false ∨ s.nvm.jobs.find? s.canRun = none) : flashOpStart s = s := by
  unfold flashOpStart pickJob
  obtain h | h := h
  · rw [h]
    rfl
  · split
    · rfl
    · rw [h]

theorem flashOpStart_begins {j k : Job} {o : FlashOp} {s : State} (hm : s.mayStart = true)
    (hj : s.nvm.jobs.find? s.canRun = some j) (hn : nextOp j (pickedUp j s) = some (o, k))
    (hc : jobReserved k = true ∨ s.hasCredits .nvm 0 (opCredits o) = true) :
    flashOpStart s = showNvm (opBegins k
      { setHead k (pickedUp j s) with nvm := { (setHead k (pickedUp j s)).nvm with op := some o } }) := by
  have hgo : (jobReserved k || s.hasCredits .nvm 0 (opCredits o)) = true := by simpa using hc
  unfold pickedUp at *
  unfold flashOpStart pickJob
  rw [hm, hj]
  simp only [hn, hgo, Bool.not_true, Bool.false_eq_true, if_false, if_true]

theorem flashOpStart_waits {j k : Job} {o : FlashOp} {s : State} (hm : s.mayStart = true)
    (hj : s.nvm.jobs.find? s.canRun = some j) (hn : nextOp j (pickedUp j s) = some (o, k))
    (hr : jobReserved k = false) (hc : s.hasCredits .nvm 0 (opCredits o) = false) : flashOpStart s = s := by
  unfold pickedUp at hn
  unfold flashOpStart pickJob
  rw [hm, hj]
  simp only [hn, hr, hc, Bool.not_true, Bool.false_eq_true, if_false, Bool.or_self]

theorem flashOpStart_switches {j : Job} {n : Nat} {s : State} (hm : s.mayStart = true)
    (hj : s.nvm.jobs.find? s.canRun = some j) (hk : j.kind = .counter n) (hn : nextOp j (pickedUp j s) = none) :
    flashOpStart s = beginSwitch j n (pickedUp j s) := by
  unfold pickedUp at *
  unfold flashOpStart pickJob
  rw [hm, hj]
  simp only [hn, hk, Bool.not_true, Bool.false_eq_true, if_false]

/-- A job that is the increment of a counter. -/
def Job.counts (j : Job) : Bool := match j.kind with | .counter _ => true | _ => false

theorem flashOpStart_ends {j : Job} {s : State} (hm : s.mayStart = true)
    (hj : s.nvm.jobs.find? s.canRun = some j) (hk : j.counts = false) (hn : nextOp j (pickedUp j s) = none) :
    flashOpStart s = endJob 0 (pickedUp j s) := by
  unfold pickedUp at *
  unfold flashOpStart pickJob
  rw [hm, hj]
  simp only [hn, Bool.not_true, Bool.false_eq_true, if_false]
  unfold Job.counts at hk
  generalize j.kind = k at hk
  cases k <;> first | rfl | exact absurd hk (by simp)

/-- The operation stands, its job at the head. -/
theorem opStands (j k : Job) (o : FlashOp) (s : State) :
    OpBegun { setHead k (pickedUp j s) with nvm := { (setHead k (pickedUp j s)).nvm with op := some o } }
        (showNvm (opBegins k { setHead k (pickedUp j s) with nvm := { (setHead k (pickedUp j s)).nvm with op := some o } })) ∧
      (showNvm (opBegins k { setHead k (pickedUp j s) with
        nvm := { (setHead k (pickedUp j s)).nvm with op := some o } })).flag .NVM_STAT_BUSY = true := by
  generalize hm : ({ setHead k (pickedUp j s) with nvm := { (setHead k (pickedUp j s)).nvm with op := some o } } : State) = m
  have hop : m.nvm.op = some o := by rw [← hm]
  have hbegun := opBegun_opBegins k m
  generalize opBegins k m = t at *
  have hop' : t.nvm.op.isSome = true := by
    obtain ⟨rs, js, rp, lg, ht⟩ := hbegun.rest
    rw [ht, hop]
    rfl
  have hshow : OpBegun t (showNvm t) :=
    ⟨⟨_, t.nvm.jobs, t.rope, t.log, rfl⟩, regsKept_showNvm (.refl t) (List.Subset.refl _), [], (List.append_nil _).symm⟩
  refine ⟨hbegun.trans hshow, ?_⟩
  unfold showNvm
  dsimp only
  rw [flag_setFld_other _ _ _ _ (by decide) (by decide), hop']
  exact flag_setFlag_same t .NVM_STAT_BUSY true (by decide) (by decide)

theorem canRun_first {j : Job} {rest : List Job} {s : State} (hjobs : s.nvm.jobs = j :: rest) (h : s.canRun j = true) :
    s.nvm.jobs.find? s.canRun = some j := by
  rw [hjobs, List.find?_cons_of_pos h]

theorem canRun_counter {j : Job} {n : Nat} (h : j.kind = .counter n) (s : State) : s.canRun j = true := by
  unfold State.canRun
  rw [h]

theorem nextOp_counter {j : Job} {n : Nat} {s : State} (h : j.kind = .counter n) (hn : s.countOp n = none) : nextOp j s = none := by
  unfold nextOp
  rw [h]
  dsimp only
  rw [hn]
  rfl

theorem countOp_pickedUp (j : Job) (s : State) (n : Nat) : (pickedUp j s).countOp n = s.countOp n := rfl

theorem storedCount_pickedUp (j : Job) (s : State) (k : Nat) : (pickedUp j s).storedCount k = s.storedCount k := by
  have hbase : (pickedUp j s).counterBase k = s.counterBase k := rfl
  have hbytes : ∀ a n, (pickedUp j s).storeBytes a n = s.storeBytes a n := fun _ _ => rfl
  unfold State.storedCount
  simp only [hbase, hbytes]

theorem switchJobs_pickedUp (j : Job) (s : State) (n : Nat) : switchJobs (pickedUp j s) n = switchJobs s n := by
  have hbase : ∀ k, (pickedUp j s).counterBase k = s.counterBase k := fun _ => rfl
  unfold switchJobs
  simp only [hbase, storedCount_pickedUp]

/-- A job that is not the host's is over. -/
theorem endJob_own {reason : Nat} {j : Job} {rest : List Job} {s : State} (hjobs : s.nvm.jobs = j :: rest)
    (hj : j.host = false) : RegsKept [10, 11] [] s (endJob reason s) ∧
      endJob reason s = { s with regs := (endJob reason s).regs, nvm := { s.nvm with jobs := rest } } := by
  unfold endJob
  rw [hjobs]
  dsimp only
  rw [hj, if_neg Bool.false_ne_true]
  have hset : RegsKept [10, 11] [] s (setJobs s rest) := regsKept_setJobs (.refl s) (List.Subset.refl _) rest
  have hrest : setJobs s rest = { s with regs := (setJobs s rest).regs, nvm := { s.nvm with jobs := rest } } := rfl
  generalize setJobs s rest = t at *
  split
  · exact ⟨regsKept_showNvm (RegsKept.setFlag (f := .NVM_JSTAT_COMPACT) hset (by decide)) (List.Subset.refl _), by rw [hrest]; rfl⟩
  · exact ⟨regsKept_showNvm hset (List.Subset.refl _), by rw [hrest]; rfl⟩

/-! ### A part of a host job ends -/

/-- What the last part of a host's command shows (R600). -/
def partsDone (reason : Nat) (s : State) : State :=
  ((s.setFld .NVM_STAT_REASON reason).setFlag .NVM_STAT_PEND false).setFlag .NVM_STAT_DONE true

theorem partsDone_shown {reason : Nat} (hr : reason < 16) (s : State) :
    (partsDone reason s).flag .NVM_STAT_PEND = false ∧ (partsDone reason s).flag .NVM_STAT_DONE = true ∧
      (partsDone reason s).flag .NVM_STAT_ERR = s.flag .NVM_STAT_ERR ∧ (partsDone reason s).fld .NVM_STAT_REASON = reason ∧
      RegsKept [10, 11] [] s (partsDone reason s) ∧ partsDone reason s = { s with regs := (partsDone reason s).regs } := by
  have hreason : (s.setFld .NVM_STAT_REASON reason).fld .NVM_STAT_REASON = reason := by
    rw [fld_setFld_same _ .NVM_STAT_REASON _ (by decide)]
    exact Nat.mod_eq_of_lt hr
  have hstay : FieldsKept [.NVM_STAT_REASON] s (s.setFld .NVM_STAT_REASON reason) := .setFld (.refl _ s) (by simp) (by decide)
  have hkept : RegsKept [10, 11] [] s (s.setFld .NVM_STAT_REASON reason) :=
    RegsKept.setFld (f := .NVM_STAT_REASON) (.refl s) (by decide)
  have hrest : s.setFld .NVM_STAT_REASON reason = { s with regs := (s.setFld .NVM_STAT_REASON reason).regs } := rfl
  unfold partsDone
  generalize s.setFld .NVM_STAT_REASON reason = u at *
  refine ⟨?_, flag_setFlag_same _ _ _ (by decide) (by decide), ?_, ?_, ?_, ?_⟩
  · rw [flag_setFlag_other _ _ _ _ (by decide) (by decide)]
    exact flag_setFlag_same _ _ _ (by decide) (by decide)
  · rw [flag_setFlag_other _ _ _ _ (by decide) (by decide), flag_setFlag_other _ _ _ _ (by decide) (by decide)]
    exact hstay.flag (by decide)
  · rw [fld_setFlag_other _ _ _ _ (by decide) (by decide), fld_setFlag_other _ _ _ _ (by decide) (by decide)]
    exact hreason
  · exact RegsKept.setFlag (f := .NVM_STAT_DONE) (RegsKept.setFlag (f := .NVM_STAT_PEND) hkept (by decide)) (by decide)
  · rw [hrest]
    rfl

/-- The last part of a host's command ends well, where none has failed. -/
theorem hostEnd_ok {s : State} (hjobs : s.nvm.jobs.any (·.host) = false) (hfail : s.nvm.jobFail = 0) :
    hostEnd 0 s = partsDone 0 s := by
  unfold hostEnd
  dsimp only
  rw [if_pos rfl, if_neg (by rw [hjobs]; exact Bool.false_ne_true), if_pos hfail, hfail]
  rfl

theorem hostEnd_failed {reason : Nat} {s : State} (hr : reason ≠ 0) (hjobs : s.nvm.jobs.any (·.host) = false) :
    hostEnd reason s = partsDone reason ({ s with nvm := { s.nvm with jobFail := reason } }.setFlag .NVM_STAT_ERR true) := by
  unfold hostEnd
  dsimp only
  rw [if_neg hr, if_neg (by dsimp only; rw [hjobs]; exact Bool.false_ne_true), if_neg hr]
  rfl

/-- The part of a host's command at the head of the queue is over, and no other part waits (R600). -/
theorem endJob_host {ok : Bool} {j : Job} {rest : List Job} {s : State} (hjobs : s.nvm.jobs = j :: rest) (hj : j.host = true)
    (hraw : ∀ c, j.kind ≠ .compact c) (hrest : rest.any (·.host) = false) (hfail : s.nvm.jobFail = 0)
    (herr : s.flag .NVM_STAT_ERR = false) {t : State} (ht : t = endJob (if ok then 0 else 6) s) :
    t.flag .NVM_STAT_PEND = false ∧ t.flag .NVM_STAT_DONE = true ∧ t.flag .NVM_STAT_ERR = !ok ∧
      t.fld .NVM_STAT_REASON = (if ok = true then 0 else 6) ∧ RegsKept [10, 11] [] s t ∧
      ∃ f, t = { s with regs := t.regs, nvm := { s.nvm with jobs := rest, jobFail := f } } := by
  have hend : endJob (if ok then 0 else 6) s = showNvm (hostEnd (if ok then 0 else 6) (setJobs s rest)) := by
    unfold endJob
    rw [hjobs]
    dsimp only
    rw [hj, if_pos rfl]
    generalize j.kind = k at hraw
    cases k
    case compact c => exact absurd rfl (hraw c)
    all_goals rfl
  have hset : RegsKept [10, 11] [] s (setJobs s rest) := regsKept_setJobs (.refl s) (List.Subset.refl _) rest
  have hkept : FieldsKept [.LOG_STAT_QLOG, .NVM_JSTAT_QCNT] s (setJobs s rest) := (setJobs_shown s rest).1
  have herr' := (hkept.flag (g := .NVM_STAT_ERR) (by decide)).trans herr
  have heq := (setJobs_shown s rest).2
  rw [hend] at ht
  generalize setJobs s rest = m at *
  have hjobs' : m.nvm.jobs.any (·.host) = false := by rw [heq]; exact hrest
  have hfail' : m.nvm.jobFail = 0 := by rw [heq]; exact hfail
  have hdone : ∃ u f, hostEnd (if ok then 0 else 6) m = partsDone (if ok then 0 else 6) u ∧ u.flag .NVM_STAT_ERR = !ok ∧
      RegsKept [10, 11] [] m u ∧ u = { m with regs := u.regs, nvm := { m.nvm with jobFail := f } } := by
    cases ok
    · exact ⟨_, 6, hostEnd_failed (by decide) hjobs', flag_setFlag_same _ _ _ (by decide) (by decide),
        RegsKept.setFlag (f := .NVM_STAT_ERR) (.of_regs rfl) (by decide), rfl⟩
    · exact ⟨m, m.nvm.jobFail, hostEnd_ok hjobs' hfail', herr', .refl m, rfl⟩
  obtain ⟨u, f, hu, huerr, hukept, hueq⟩ := hdone
  obtain ⟨h1, h2, h3, h4, h5, h6⟩ := partsDone_shown (reason := if ok then 0 else 6) (by cases ok <;> decide) u
  rw [hu] at ht
  generalize partsDone (if ok then 0 else 6) u = v at *
  have hshow : FieldsKept [.NVM_STAT_BUSY, .NVM_JSTAT_SAVEREM] v t := by
    rw [ht]
    exact .setFld (.setFlag (.refl _ v) (by simp) (by decide)) (by simp) (by decide)
  have hshow' : RegsKept [10, 11] [] v t := by
    rw [ht]
    exact regsKept_showNvm (.refl v) (List.Subset.refl _)
  have hteq : t = { v with regs := t.regs } := by rw [ht]; rfl
  refine ⟨(hshow.flag (by decide)).trans h1, (hshow.flag (by decide)).trans h2, ((hshow.flag (by decide)).trans h3).trans huerr,
    (hshow.fld (by decide)).trans h4, ((hset.trans hukept).trans h5).trans hshow', f, ?_⟩
  rw [hteq, h6, hueq, heq]

/-! ### The operation's own side -/

/-- What an operation leaves of the store changes the store alone, and takes the free choices of a cut. -/
theorem opEffect_rest (o : FlashOp) (ok : Bool) (s : State) : ∃ m e r l n, opEffect o ok s =
    { s with nvm := { s.nvm with store := m, ecc := e, errs := r, loose := l }, free := n } := by
  cases o with
  | program a bs => cases ok <;> exact ⟨_, _, s.nvm.errs, s.nvm.loose, _, rfl⟩
  | byteProgram a b => cases ok <;> exact ⟨_, _, s.nvm.errs, _, _, rfl⟩
  | erase k => exact ⟨_, _, _, _, s.free, rfl⟩

theorem flashOpComplete_eq {o : FlashOp} {s : State} (ok : Bool) (h : s.nvm.op = some o) : flashOpComplete ok s =
    waitedReset (releaseBurst .nvm 0 (showNvm
      (jobGoesOn ok { opEffect o ok s with nvm := { (opEffect o ok s).nvm with op := none } }))) := by
  unfold flashOpComplete
  rw [h]

/-- A raw job of the host ends with its operation (R600). -/
theorem jobGoesOn_raw (ok : Bool) {j : Job} {rest : List Job} {s : State} (hjobs : s.nvm.jobs = j :: rest)
    (hraw : (match j.kind with | .rawErase _ => true | .rawProg _ _ => true | _ => false) = true) :
    jobGoesOn ok s = endJob (if ok then 0 else 6) s := by
  unfold jobGoesOn
  rw [hjobs]
  dsimp only
  generalize j.kind = k at hraw
  cases k
  case rawProg | rawErase => rfl
  all_goals exact absurd hraw Bool.false_ne_true

/-- CNT[0] counts at once (R595). -/
def counted (s : State) : State := s.setReg32 (Reg.CNT 0) ((s.reg32 (Reg.CNT 0) + 1) % 4294967296)

theorem counted_shown (s : State) : (counted s).reg32 (Reg.CNT 0) = (s.reg32 (Reg.CNT 0) + 1) % 4294967296 ∧
    FieldsKept (wholeReg32 (Reg.CNT 0)) s (counted s) := by
  refine ⟨?_, (FieldsKept.refl _ s).setReg32 (by decide) (by decide)⟩
  unfold counted
  rw [reg32_setReg32, Nat.mod_mod]

theorem runs_flashOpComplete {ok : Bool} {s : State} {P : State → Prop} (h : P (flashOpComplete ok s)) :
    Runs (.flashOpComplete ok) s P := ⟨_, rfl, h⟩

/-- Settles O52: a start by what its job does next, and an end by the operation's effect and the job's. -/
theorem flashQueueRuns : Obligations.FlashQueueRuns := by
  unfold Obligations.FlashQueueRuns
  refine ⟨?idle, ?begins, ?waits, ?switches, ?whole, ?part, ?byte, ?erased, ?host, ?nothing, ?tick, ?fatalTick, ?heldTick, ?ends⟩
  case idle => exact fun s h => ⟨_, rfl, flashOpStart_idle h⟩
  case begins =>
    intro j k o s hm hj hn hc
    refine runs_of_eq rfl (flashOpStart_begins hm hj hn hc) ?_
    obtain ⟨hbegun, hbusy⟩ := opStands j k o s
    generalize showNvm (opBegins k { setHead k (pickedUp j s) with
      nvm := { (setHead k (pickedUp j s)).nvm with op := some o } }) = t at *
    have hhead : RegsKept [10, 11] [] s (setHead k (pickedUp j s)) :=
      regsKept_setJobs (regsKept_setJobs (.refl s) (List.Subset.refl _) _) (List.Subset.refl _) _
    obtain ⟨⟨rs, js, rp, lg, rfl⟩, hregs, l, hl⟩ := hbegun
    refine ⟨rfl, ?_, hbusy, rfl, rfl, ((hhead.trans (.of_regs rfl)).trans hregs).shownBlocks, rfl⟩
    rw [hl]
    rfl
  case waits => exact fun j k o s hm hj hn hr hc => ⟨_, rfl, flashOpStart_waits hm hj hn hr hc⟩
  case switches =>
    intro n j rest s hm hjobs hk _ hc
    have hfirst := canRun_first hjobs (canRun_counter hk s)
    have hpick : pickedUp j s = setJobs s (j :: rest) := by
      unfold pickedUp
      rw [hjobs, List.erase_cons_head]
    refine runs_of_eq rfl (flashOpStart_switches hm hfirst hk (nextOp_counter hk (countOp_pickedUp j s n ▸ hc))) ?_
    unfold beginSwitch
    rw [switchJobs_pickedUp, hpick]
    exact ⟨rfl, rfl, (regsKept_setJobs (regsKept_setJobs (.refl s) (List.Subset.refl _) _) (List.Subset.refl _) _).shownBlocks⟩
  case whole =>
    intro a bs s hop
    obtain ⟨hnone, hstore⟩ := onStore_flashOpComplete true hop
    rw [store_opEffect_program] at hstore
    obtain ⟨hin, hout⟩ := storeByte_programmed hstore
    exact runs_flashOpComplete ⟨fun i hi => (hin i hi).trans (getD_programmed_whole hi _), hout, hnone⟩
  case part =>
    intro a bs s hop
    obtain ⟨hnone, hstore⟩ := onStore_flashOpComplete false hop
    rw [store_opEffect_program] at hstore
    obtain ⟨hin, hout⟩ := storeByte_programmed hstore
    refine runs_flashOpComplete ⟨fun i hi => ?_, hout, hnone⟩
    obtain ⟨m, hmix⟩ := getD_programmed_part (a := a) (s := s) hi (erasedByte (a + i))
    rw [hin i hi, hmix]
    exact mixByte_and m _ _
  case byte =>
    intro a b s hop
    obtain ⟨hnone, hstore⟩ := onStore_flashOpComplete true hop
    rw [store_opEffect_byteProgram] at hstore
    obtain ⟨hin, hout⟩ := storeByte_programmed hstore
    refine runs_flashOpComplete ⟨?_, fun c hc => hout c (by simp only [List.length_singleton]; omega), hnone⟩
    exact (hin 0 Nat.one_pos).trans (getD_programmed_whole (bs := [b]) Nat.one_pos _)
  case erased =>
    intro k ok s hop
    obtain ⟨hnone, hstore⟩ := onStore_flashOpComplete ok hop
    rw [store_opEffect_erase] at hstore
    have hread : ∀ a, (flashOpComplete ok s).storeByte a =
        if 2048 * k ≤ a ∧ a < 2048 * k + 2048 then 0xFF else s.storeByte a := by
      intro a
      unfold State.storeByte
      rw [hstore, readAt_eraseRange]
      rfl
    exact runs_flashOpComplete ⟨fun a h1 h2 => by rw [hread, if_pos ⟨h1, h2⟩],
      fun a ha => by rw [hread, if_neg (by omega)], hnone⟩
  case host =>
    intro o j rest ok s hop hjobs hraw hj hhost hwait herr hfail
    obtain ⟨m, e, r, l, n, heffect⟩ := opEffect_rest o ok s
    have hgoes := jobGoesOn_raw ok (s := { opEffect o ok s with nvm := { (opEffect o ok s).nvm with op := none } })
      (by rw [heffect]; exact hjobs) hraw
    have hcompact : ∀ c, j.kind ≠ .compact c := fun c hc => by rw [hc] at hraw; exact absurd hraw Bool.false_ne_true
    have hstep := endJob_host (ok := ok) (s := { opEffect o ok s with nvm := { (opEffect o ok s).nvm with op := none } })
      (by rw [heffect]; exact hjobs) hj hcompact hhost (by rw [heffect]; exact hfail) (by rw [heffect]; exact herr) hgoes
    have hcomplete := flashOpComplete_eq ok hop
    generalize jobGoesOn ok { opEffect o ok s with nvm := { (opEffect o ok s).nvm with op := none } } = u at *
    obtain ⟨hpend, hdone, herr', hreason, hregs, f, hu⟩ := hstep
    have hop' : u.nvm.op = none := by rw [hu]
    refine runs_of_eq rfl hcomplete ?_
    have hshow : FieldsKept [.NVM_STAT_BUSY, .NVM_JSTAT_SAVEREM] u (showNvm u) :=
      .setFld (.setFlag (.refl _ u) (by simp) (by decide)) (by simp) (by decide)
    have hbusy : (showNvm u).flag .NVM_STAT_BUSY = false := by
      unfold showNvm
      dsimp only
      rw [flag_setFld_other _ _ _ _ (by decide) (by decide), hop']
      exact flag_setFlag_same u .NVM_STAT_BUSY false (by decide) (by decide)
    have hfree := (Kept.releaseBurst (bs := []) (.refl (showNvm u)) (List.Subset.refl _) .nvm 0).regs
    have hgrant := (onlyGrant_releaseBurst .nvm 0 (showNvm u)).eq
    have hshown : showNvm u = { u with regs := (showNvm u).regs } := rfl
    have hshow' : RegsKept [10, 11] [] u (showNvm u) := regsKept_showNvm (.refl u) (List.Subset.refl _)
    generalize showNvm u = v at *
    generalize releaseBurst .nvm 0 v = w at *
    have hwaits : w.sys.waiting = [] := by rw [hgrant, hshown, hu, heffect]; exact hwait
    have hwait' : waitedReset w = w := by
      unfold waitedReset
      rw [hwaits]
      rfl
    rw [hwait']
    have hread : ∀ g : Fld, arbiterFields.all (fun f => f.apart g) = true → w.flag g = v.flag g := fun g hg =>
      hfree.flag (by simp) hg
    refine ⟨by rw [hgrant, hshown, hu], ?_, ?_, ?_, ?_, ?_, ?_, by rw [hgrant, hshown, hu, heffect]⟩
    · exact ((hread _ (by decide)).trans (hshow.flag (by decide))).trans hpend
    · exact ((hread _ (by decide)).trans (hshow.flag (by decide))).trans hdone
    · exact ((hread _ (by decide)).trans (hshow.flag (by decide))).trans herr'
    · exact ((hfree.fld (by simp) (by decide)).trans (hshow.fld (by decide))).trans hreason
    · exact (hread _ (by decide)).trans hbusy
    · have hstart : RegsKept [1, 10, 11] [] s { opEffect o ok s with nvm := { (opEffect o ok s).nvm with op := none } } :=
        .of_regs (by rw [heffect])
      have hown := (hstart.trans (hregs.mono (by simp) (List.Subset.refl _))).trans (hshow'.mono (by simp) (List.Subset.refl _))
      exact (hown.mono (List.Subset.refl _) (by simp)).trans (hfree.mono (by simp) (List.Subset.refl _)) |>.blocksKept
        (List.Subset.refl _) (by decide)
  case nothing =>
    intro ok s hop
    refine ⟨_, rfl, ?_⟩
    unfold flashOpComplete
    rw [hop]
  case tick =>
    intro s hheld hfatal
    refine runs_of_eq rfl (if_neg (by rw [hheld]; exact Bool.false_ne_true)) ?_
    obtain ⟨hcount, hkept⟩ := counted_shown s
    have hfatal' := (hkept.flag (g := .FLT_STAT_FATAL) (by decide)).trans hfatal
    unfold countUp addJob
    change (counted s).isFatal = false at hfatal'
    rw [← counted, if_neg (by rw [hfatal']; exact Bool.false_ne_true)]
    obtain ⟨hset, heq⟩ := setJobs_shown (counted s) ((counted s).nvm.jobs ++ [{ kind := .counter 0 }])
    refine ⟨?_, rfl, (hkept.mono (by simp)).trans (hset.mono (by simp)), rfl⟩
    have hlow := hset.fld (g := wholeReg (Reg.CNT 0)) (by decide)
    have hhigh := hset.fld (g := wholeReg (Reg.CNT 0 + 1)) (by decide)
    rw [fld_wholeReg, fld_wholeReg] at hlow hhigh
    rw [← hcount, State.reg32, State.reg32, hlow, hhigh]
  case fatalTick =>
    intro s hheld hfatal
    refine runs_of_eq rfl (if_neg (by rw [hheld]; exact Bool.false_ne_true)) ?_
    obtain ⟨hcount, hkept⟩ := counted_shown s
    have hfatal' := (hkept.flag (g := .FLT_STAT_FATAL) (by decide)).trans hfatal
    unfold countUp addJob
    change (counted s).isFatal = true at hfatal'
    rw [← counted, if_pos hfatal']
    exact ⟨hcount, hkept, rfl⟩
  case heldTick =>
    intro s hheld
    exact ⟨_, rfl, if_pos hheld⟩
  case ends =>
    intro j s hm hj hn hk hh
    have hkind : j.counts = false := by
      unfold Job.counts
      generalize j.kind = k at hk
      cases k
      case counter n => exact absurd hk Bool.false_ne_true
      all_goals rfl
    refine runs_of_eq rfl (flashOpStart_ends hm hj hkind hn) ?_
    obtain ⟨hregs, hrest⟩ := endJob_own (reason := 0) (j := j) (rest := s.nvm.jobs.erase j) (s := pickedUp j s) rfl hh
    generalize endJob 0 (pickedUp j s) = t at *
    refine ⟨by rw [hrest]; rfl, ?_, by rw [hrest]; rfl⟩
    exact ((regsKept_setJobs (.refl s) (List.Subset.refl _) _).trans hregs).shownBlocks

end Sys2Proof.Machine
end

section
/-! Rules of the triggers (R320 to R330): what a fired entry changes. -/

namespace Sys2Proof.Machine

/-- Only registers, the result registers, the sequencer, the engines, the slices and the overlap's pairs may differ. -/
def OnlyFired (s t : State) : Prop := ∃ rs res q e sl ps,
  t = { s with regs := rs, tab := { s.tab with result := res }, seq := q, eng := e, slices := sl, cal := { s.cal with pairs := ps } }

/-- What a fired entry may show, beside a slot's end: an overrun, and a slot for which there is no slice. -/
def fireFields : List Fld := .SEQ_STAT_OVRUN :: .SEQ_STAT_NOSLC :: slotFields

/-- From s to t only entries have fired, slots have ended, or slices have changed. -/
structure FireStep (s t : State) : Prop where
  only : OnlyFired s t
  kept : FieldsKept fireFields s t

theorem SlotStep.fire {s t : State} (h : SlotStep s t) : FireStep s t := by
  obtain ⟨⟨rs, res, q, e, sl, rfl⟩, hf⟩ := h
  exact ⟨⟨rs, res, q, e, sl, s.cal.pairs, rfl⟩, hf.mono fun _ h => List.mem_cons_of_mem _ (List.mem_cons_of_mem _ h)⟩

theorem FireStep.refl (s : State) : FireStep s s := (SlotStep.refl s).fire

theorem FireStep.trans {s t u : State} (h : FireStep s t) (k : FireStep t u) : FireStep s u := by
  obtain ⟨⟨rs, res, q, e, sl, ps, rfl⟩, hf⟩ := h
  obtain ⟨⟨rs', res', q', e', sl', ps', rfl⟩, kf⟩ := k
  exact ⟨⟨rs', res', q', e', sl', ps', rfl⟩, hf.trans kf⟩

theorem FireStep.fld {s t : State} (h : FireStep s t) {f : Fld} (hf : fireFields.all (fun g => g.apart f) = true) :
    t.fld f = s.fld f := h.kept.fld hf

theorem FireStep.flag {s t : State} (h : FireStep s t) {f : Fld} (hf : fireFields.all (fun g => g.apart f) = true) :
    t.flag f = s.flag f := h.kept.flag hf

theorem FireStep.memKept {s t : State} (h : FireStep s t) : MemKept s t := by
  obtain ⟨⟨rs, res, q, e, sl, ps, rfl⟩, -⟩ := h
  exact .of_eq rfl rfl rfl

theorem FireStep.rest {s t : State} (h : FireStep s t) : t = { s with
    regs := t.regs, tab := t.tab, seq := t.seq, eng := t.eng, slices := t.slices, cal := t.cal } := by
  obtain ⟨⟨rs, res, q, e, sl, ps, rfl⟩, -⟩ := h
  rfl

theorem fireStep_seq (q : Seq) (s : State) : FireStep s { s with seq := q } :=
  SlotStep.fire (.of_eq ⟨s.tab.result, q, s.eng, s.slices, rfl⟩)

theorem fireStep_flag {f : Fld} (hf : f ∈ fireFields) (hw : f.width ≤ 16) (b : Bool) (s : State) : FireStep s (s.setFlag f b) :=
  ⟨⟨_, s.tab.result, s.seq, s.eng, s.slices, s.cal.pairs, rfl⟩, FieldsKept.setFlag (.refl _ s) hf hw⟩

theorem fireStep_countEntry (entry clock : Nat) (s : State) : FireStep s (countEntry entry clock s) := by
  unfold countEntry
  split
  · exact ⟨⟨s.regs, s.tab.result, s.seq, s.eng, s.slices, _, rfl⟩, .of_regs rfl⟩
  · exact .refl s

theorem fireStep_enqueue (n : Nat) (o : Occ) (s : State) : FireStep s (enqueue n o s) := by
  have hover : ∀ t, FireStep t (t.setFlag .SEQ_STAT_OVRUN true) := fireStep_flag (by simp [fireFields]) (by decide) true
  have hreplaced : ∀ q, FireStep s (forEach 13 (fun m t =>
      t.modSlice m (fun y => { y with pending := y.pending.map (fun p => if p = q then o else p) })) s) := fun q =>
    forEach_keeps (FireStep s) _ 13 s (.refl s) fun m t _ ht => ht.trans (slotStep_modSlice m _ t).fire
  have hnew : ∀ room, FireStep s (if (s.slice n).pending.length < room then
      s.modSlice n (fun y => { y with pending := y.pending ++ [o] })
      else missSlot o.entry o.pass (s.setFlag .SEQ_STAT_OVRUN true)) := by
    intro room
    split
    · exact (slotStep_modSlice n _ s).fire
    · exact (hover s).trans (slotStep_missSlot _ _ _).fire
  unfold enqueue
  dsimp only
  split
  · exact ((hreplaced _).trans (hover _)).trans (slotStep_missSlot _ _ _).fire
  · exact hnew _

theorem fireStep_dueSlot (entry : Nat) (resync : Bool) (s : State) : FireStep s (dueSlot entry resync s) := by
  unfold dueSlot
  dsimp only
  split
  · exact (fireStep_flag (f := .SEQ_STAT_NOSLC) (by simp [fireFields]) (by decide) true s).trans (slotStep_missSlot _ _ _).fire
  · split
    · exact (slotStep_supplySlot _ _ _ s).fire
    · split
      · exact (fireStep_countEntry _ _ s).trans (fireStep_enqueue _ _ _)
      · exact fireStep_enqueue _ _ s

/-- The count that an entry's divider goes by (R325). -/
def dividerCount (e : Nat) (s : State) : Nat :=
  if tKind (s.topoEntry e) == kindAngle then s.reg32 Reg.ANG_PASS else s.occCount e

/-- The occurrence is counted (R324, R325). -/
def occCounted (e : Nat) (s : State) : State :=
  if tKind (s.topoEntry e) == kindAngle then s else setCount e (dividerCount e s + 1) s

theorem fireEntry_eq (resync : Bool) (e : Nat) (s : State) : fireEntry resync e s =
    if !s.seqRuns || !s.entryOn e then s
    else if (occCounted e s).inReduced && !tEss (s.topoEntry e) then occCounted e s
    else if dividerCount e s % (tDiv (s.topoEntry e) + 1) != tDph (s.topoEntry e) then occCounted e s
    else dueSlot e resync (occCounted e s) := rfl

theorem fireStep_occCounted (e : Nat) (s : State) : FireStep s (occCounted e s) := by
  unfold occCounted
  split
  · exact .refl s
  · exact fireStep_seq _ s

theorem fireStep_fireEntry (resync : Bool) (e : Nat) (s : State) : FireStep s (fireEntry resync e s) := by
  rw [fireEntry_eq]
  split
  · exact .refl s
  · split
    · exact fireStep_occCounted e s
    · split
      · exact fireStep_occCounted e s
      · exact (fireStep_occCounted e s).trans (fireStep_dueSlot e resync _)

/-- The enabling instant of one entry (R323). -/
def enableEntry (e : Nat) (s : State) : State :=
  if tKind (s.topoEntry e) = kindTime then
    { setCount e 0 s with seq := { (setCount e 0 s).seq with
      timeRun := (setCount e 0 s).seq.timeRun.filter (· != e) ++ (if s.seqRuns then [e] else []) } }
  else if tKind (s.topoEntry e) = kindAfter && (ew (s.topoEntry e) 0).getLsbD 15 then fireEntry false e (setCount e 0 s)
  else setCount e 0 s

theorem enableEntries_eq (es : List Nat) (s : State) : enableEntries es s = forList es enableEntry s := rfl

theorem fireStep_enableEntry (e : Nat) (s : State) : FireStep s (enableEntry e s) := by
  have hcount : FireStep s (setCount e 0 s) := fireStep_seq _ s
  unfold enableEntry
  split
  · exact fireStep_seq _ s
  · split
    · exact hcount.trans (fireStep_fireEntry false e _)
    · exact hcount

theorem fireStep_enableEntries (es : List Nat) (s : State) : FireStep s (enableEntries es s) := by
  rw [enableEntries_eq]
  exact forList_keeps (FireStep s) _ es s (.refl s) fun e t _ ht => ht.trans (fireStep_enableEntry e t)

end Sys2Proof.Machine
end

section
/-! REDREQ enters and leaves REDUCED (R96, R97). -/

namespace Sys2Proof.Machine

/-- The request and its cause are marked (R96). -/
def redreqMarked (on : Bool) (s : State) : State := (s.setFlag .SYS_MODE_REDREQ on).setFlag .SYS_STAT_REDHOST on

theorem redreqMarked_shown (on : Bool) (s : State) : (redreqMarked on s).flag .SYS_MODE_REDREQ = on ∧
    (redreqMarked on s).flag .SYS_STAT_REDHOST = on ∧ FieldsKept [.SYS_MODE_REDREQ, .SYS_STAT_REDHOST] s (redreqMarked on s) :=
  ⟨(flag_setFlag_other _ _ _ _ (by decide) (by decide)).trans (flag_setFlag_same _ _ _ (by decide) (by decide)),
    flag_setFlag_same _ _ _ (by decide) (by decide),
    .setFlag (.setFlag (.refl _ s) (by simp) (by decide)) (by simp) (by decide)⟩

theorem redreqEffect_eq (on : Bool) (s : State) :
    redreqEffect on s = if on then enterReduced (redreqMarked on s) else leaveReduced (redreqMarked on s) := rfl

/-! ### The mode -/

theorem settleMode_of_running {s : State} (h : s.mode = modeActive ∨ s.mode = modeReduced) :
    settleMode s = s.setFld .SYS_STAT_STATE (if s.redCause then modeReduced else modeActive) :=
  if_pos (by simpa using h)

theorem settleMode_of_resting {s : State} (h : s.isActive = false ∨ s.inBivouac = true) : settleMode s = s := by
  have hmode : s.mode = modeBoot ∨ s.mode = modeBivouac := by
    simpa [State.isActive, State.inBivouac] using h
  unfold settleMode
  obtain h | h := hmode <;> rw [h] <;> rfl

theorem inReduced_of_resting {s : State} (h : s.isActive = false ∨ s.inBivouac = true) : s.inReduced = false := by
  have hmode : s.mode = modeBoot ∨ s.mode = modeBivouac := by
    simpa [State.isActive, State.inBivouac] using h
  unfold State.inReduced
  obtain h | h := hmode <;> rw [h] <;> rfl

/-- What the mode and the slices that follow it may show. -/
def reducedFields : List Fld := .SYS_STAT_STATE :: fireFields

/-- From s to t the mode has been settled, and the slices, the entries and the intervals have followed it. -/
structure ModeFollowed (s t : State) : Prop where
  kept : FieldsKept reducedFields s t
  mode : t.mode = (settleMode s).mode
  mem : MemKept s t

theorem modeFollowed_settle (s : State) : ModeFollowed s (settleMode s) := by
  have hkept : FieldsKept reducedFields s (settleMode s) ∧ MemKept s (settleMode s) := by
    unfold settleMode
    split
    · exact ⟨.setFld (.refl _ s) (by simp [reducedFields]) (by decide), .of_eq rfl rfl rfl⟩
    · exact ⟨.refl _ s, .of_eq rfl rfl rfl⟩
  exact ⟨hkept.1, rfl, hkept.2⟩

theorem ModeFollowed.fire {s t u : State} (h : ModeFollowed s t) (k : FireStep t u) : ModeFollowed s u :=
  ⟨h.kept.trans (k.kept.mono fun _ hf => List.mem_cons_of_mem _ hf), (k.fld (by decide)).trans h.mode, h.mem.trans k.memKept⟩

theorem ModeFollowed.duty {s t : State} (h : ModeFollowed s t) : ModeFollowed s (dutyBegins t) := by
  refine forEach_keeps (ModeFollowed s) _ 4 t h fun k u _ hu => ?_
  exact ⟨hu.kept.trans (.of_regs rfl), hu.mode, hu.mem.trans (.of_eq rfl rfl rfl)⟩

theorem modeFollowed_enterReduced (s : State) : ModeFollowed s (enterReduced s) := by
  unfold enterReduced
  dsimp only
  split
  · exact ((modeFollowed_settle s).fire (slotStep_powerSlices _).fire).duty
  · exact modeFollowed_settle s

theorem modeFollowed_leaveReduced (s : State) : ModeFollowed s (leaveReduced s) := by
  unfold leaveReduced
  dsimp only
  split
  · exact (((modeFollowed_settle s).fire (slotStep_powerSlices _).fire).fire (slotStep_oweSetl _ _).fire).fire
      (fireStep_enableEntries _ _)
  · exact modeFollowed_settle s

theorem modeFollowed_redreq (on : Bool) (s : State) : ModeFollowed (redreqMarked on s) (redreqEffect on s) := by
  rw [redreqEffect_eq]
  split
  · exact modeFollowed_enterReduced _
  · exact modeFollowed_leaveReduced _

theorem redreqEffect_resting {on : Bool} {s : State} (h : s.isActive = false ∨ s.inBivouac = true) :
    redreqEffect on s = redreqMarked on s := by
  have hmode : (redreqMarked on s).mode = s.mode := (redreqMarked_shown on s).2.2.fld (by decide)
  have hrest : (redreqMarked on s).isActive = false ∨ (redreqMarked on s).inBivouac = true := by
    unfold State.isActive State.inBivouac at *
    rw [hmode]
    exact h
  have hsettle := settleMode_of_resting hrest
  have hreduced := inReduced_of_resting hrest
  rw [redreqEffect_eq]
  unfold enterReduced leaveReduced
  dsimp only
  rw [hsettle, hreduced]
  cases on <;> rfl

/-! ### The write of SYS.MODE -/

/-- A field of one bit is that bit of its register. -/
theorem getLsbD_eq_flag (s : State) (f : Fld) (hf : f.width = 1) : (s.reg f.addr).getLsbD f.lo = s.flag f := by
  have hbit := testBit_getField (s.reg f.addr) f.lo 1 0
  have hlt : getField (s.reg f.addr) f.lo 1 < 2 := getField_lt _ _ _
  unfold State.flag State.fld
  rw [hf]
  generalize getField (s.reg f.addr) f.lo 1 = v at *
  rw [Nat.add_zero, decide_eq_true Nat.one_pos, Bool.true_and] at hbit
  rw [← hbit]
  obtain rfl | rfl : v = 0 ∨ v = 1 := by omega
  · rfl
  · rfl

theorem modeWith_bit (s : State) (on : Bool) : (modeWith s 15 on).getLsbD 15 = on ∧
    (modeWith s 15 on).getLsbD 14 = s.flag .SYS_MODE_BIVREQ := by
  constructor
  · unfold modeWith
    rw [getLsbD_putField _ _ _ _ _ (by decide)]
    cases on <;> rfl
  · unfold modeWith
    rw [getLsbD_putField _ _ _ _ _ (by decide), if_neg (by decide)]
    exact getLsbD_eq_flag s .SYS_MODE_BIVREQ rfl

theorem runs_redreq {c : Instr} {p : Path} {on : Bool} {s : State} {P : State → Prop} (h : Admits p Reg.SYS_MODE s)
    (hexec : exec c s = .next (pathWrite p Reg.SYS_MODE (modeWith s 15 on) s)) (hbiv : s.flag .SYS_MODE_BIVREQ = false)
    (hP : ∀ ps host, P { redreqEffect on (dropKey p s) with paths := ps, host := host }) : Runs c s P := by
  have heffect : writeReg p (s.path p).nvmKey Reg.SYS_MODE (modeWith s 15 on) (dropKey p s) =
      (0, modeWrite (modeWith s 15 on) (dropKey p s)) := rfl
  have hfollow := modeFollowed_redreq on (dropKey p s)
  have hstays : (redreqEffect on (dropKey p s)).flag .SYS_MODE_BIVREQ = false :=
    (hfollow.kept.flag (by decide)).trans (((redreqMarked_shown on (dropKey p s)).2.2.flag (by decide)).trans hbiv)
  have hwrite : modeWrite (modeWith s 15 on) (dropKey p s) = redreqEffect on (dropKey p s) := by
    obtain ⟨h15, h14⟩ := modeWith_bit s on
    unfold modeWrite
    dsimp only
    rw [h15, h14, hbiv, hstays]
    rfl
  exact runs_write h hexec (heffect.trans (congrArg _ hwrite)) fun ps host _ => hP ps host

/-- Settles O13: the write of SYS.MODE sets the cause, and the mode and the slices follow it. -/
theorem reducedByRequest : Obligations.ReducedByRequest := by
  unfold Obligations.ReducedByRequest
  have hset : ∀ {p : Path} {s : State}, isPath p = true →
      exec (.setRedreq p) s = .next (pathWrite p Reg.SYS_MODE (modeWith s 15 true) s) := fun hp =>
    answerIf_next.mpr ⟨by rw [okPath_eq_isPath]; exact hp, rfl⟩
  have hclear : ∀ {p : Path} {s : State}, isPath p = true →
      exec (.clearRedreq p) s = .next (pathWrite p Reg.SYS_MODE (modeWith s 15 false) s) := fun hp =>
    answerIf_next.mpr ⟨by rw [okPath_eq_isPath]; exact hp, rfl⟩
  refine ⟨?enters, ?leaves, ?setResting, ?clearResting⟩
  case enters =>
    intro p s hp hadm hbiv hmode
    refine runs_redreq hadm (hset hp) hbiv fun ps host => ?_
    obtain ⟨hreq, hcause, hkept⟩ := redreqMarked_shown true (dropKey p s)
    obtain ⟨hfields, hmode', hmem⟩ := modeFollowed_redreq true (dropKey p s)
    have hcauses : (redreqMarked true (dropKey p s)).redCause = true := by
      unfold State.redCause
      rw [hcause]
      rfl
    have hrunning : (redreqMarked true (dropKey p s)).mode = modeActive ∨ (redreqMarked true (dropKey p s)).mode = modeReduced := by
      rw [show (redreqMarked true (dropKey p s)).mode = s.mode from hkept.fld (by decide)]
      exact hmode
    rw [settleMode_of_running hrunning, hcauses, if_pos rfl] at hmode'
    refine ⟨(hfields.flag (by decide)).trans hreq, (hfields.flag (by decide)).trans hcause,
      hmode'.trans (fld_setFld_same _ .SYS_STAT_STATE _ (by decide)), (hfields.fld (by decide)).trans (hkept.fld (by decide)),
      (hfields.flag (by decide)).trans (hkept.flag (by decide)), ?_⟩
    exact (MemKept.trans (.of_eq rfl rfl rfl) hmem).trans (.of_eq rfl rfl rfl)
  case leaves =>
    intro p s hp hadm hbiv hmode
    refine runs_redreq hadm (hclear hp) hbiv fun ps host => ?_
    obtain ⟨hreq, hcause, hkept⟩ := redreqMarked_shown false (dropKey p s)
    obtain ⟨hfields, hmode', hmem⟩ := modeFollowed_redreq false (dropKey p s)
    have hcauses : (redreqMarked false (dropKey p s)).redCause = (s.flag .SYS_STAT_REDTHERM || s.flag .SYS_STAT_REDPROF) := by
      unfold State.redCause
      rw [hcause, hkept.flag (g := .SYS_STAT_REDTHERM) (by decide), hkept.flag (g := .SYS_STAT_REDPROF) (by decide)]
      rfl
    have hrunning : (redreqMarked false (dropKey p s)).mode = modeActive ∨ (redreqMarked false (dropKey p s)).mode = modeReduced := by
      rw [show (redreqMarked false (dropKey p s)).mode = s.mode from hkept.fld (by decide)]
      exact hmode
    rw [settleMode_of_running hrunning, hcauses] at hmode'
    refine ⟨(hfields.flag (by decide)).trans hreq, (hfields.flag (by decide)).trans hcause, fun h0 h1 => ?_, fun h => ?_, ?_⟩
    · rw [h0, h1] at hmode'
      exact hmode'.trans (fld_setFld_same _ .SYS_STAT_STATE _ (by decide))
    · rw [if_pos (by simpa using h)] at hmode'
      exact hmode'.trans (fld_setFld_same _ .SYS_STAT_STATE _ (by decide))
    · exact (MemKept.trans (.of_eq rfl rfl rfl) hmem).trans (.of_eq rfl rfl rfl)
  case setResting =>
    intro p s hp hadm hbiv hrest
    refine runs_redreq hadm (hset hp) hbiv fun ps host => ?_
    rw [redreqEffect_resting (s := dropKey p s) hrest]
    obtain ⟨hreq, hcause, hkept⟩ := redreqMarked_shown true (dropKey p s)
    exact ⟨hreq, hcause, hkept.fld (by decide), hkept, .of_eq rfl rfl rfl⟩
  case clearResting =>
    intro p s hp hadm hbiv hrest
    refine runs_redreq hadm (hclear hp) hbiv fun ps host => ?_
    rw [redreqEffect_resting (s := dropKey p s) hrest]
    obtain ⟨hreq, hcause, hkept⟩ := redreqMarked_shown false (dropKey p s)
    exact ⟨hreq, hcause, hkept.fld (by decide), hkept, .of_eq rfl rfl rfl⟩

end Sys2Proof.Machine
end
